-- ==== Sys2Proof/Word.lean ====
section
/-!
DEFINITION. The word types of the block and the sparse table type that every array of the state uses.
A table lists (index, value) pairs; its operations stand in `Machine/Tab.lean`.
-/
namespace Sys2Proof

/-- A register or memory word: all registers are 32 bits wide (00 R10). -/
abbrev Word := BitVec 32

/-- A byte. -/
abbrev Byte := BitVec 8

/-- A sparse array: pairs of an index and a value, in rising order of the index, none equal to what an
unlisted index reads as. -/
abbrev Tab (α : Type) := List (Nat × α)

end Sys2Proof
end

