-- ==== Sys2Proof/Syntax.lean ====
section
/-!
DEFINITION. The commands of the block: one constructor of `Instr` per row of spec/opcode_table.json, in the
table's order, with the operands that the row's rule needs. What comes from outside the block (flash and host
data, packets, samples, sensor readings) is an operand.
-/
namespace Sys2Proof

/-- A library operation's fields beside OP (05 R162). -/
structure LibOp where
  rsv  : Byte := 0#8
  obj  : BitVec 16 := 0#16
  len  : Word := 0#32
  addr : BitVec 64 := 0#64
  deriving DecidableEq, Repr

/-- The outcome of a DDR5 channel's training (11 R338, R339): whether the stored record was loaded and
verified, whether its devices support DRFM, whether a setting moved by more than 2 steps from the stored
record or none was valid, and the step that failed (0 for none). -/
structure ChTrain where
  fromRecord : Bool := false
  drfm       : Bool := false
  changed    : Bool := false
  failStep   : Fin 8 := 0
  deriving DecidableEq, Repr

/-- Where a Flint monitor's input lies (15 R443): between LO + HYST and HI - HYST, in the hysteresis band,
below LO, or above HI. -/
inductive FlintIn where
  | inside
  | band
  | low
  | high
  deriving DecidableEq, Repr

/-- One converter sample: the code before the trims of 06 R189, and whether a sub-converter output was at an
end of its range (06 R205). -/
structure AdcSample where
  code   : BitVec 12 := 0#12
  railed : Bool := false
  deriving DecidableEq, Repr

/-- The header fields of an Amipol packet that the receiver acts on (12 R371). -/
structure Head where
  hops   : Fin 8 := 1
  poison : Bool := false
  dst    : Fin 64 := 0
  src    : Fin 64 := 0
  dpart  : Fin 8 := 0
  legal  : Bool := true
  deriving DecidableEq, Repr

/-- The payload of a DECIDE RESULT packet (12 R380). -/
structure ResultPkt where
  dslot : Fin 512 := 0
  state : BitVec 2 := 3#2
  flow  : Byte := 0#8
  i     : Word := 0#32
  q     : Word := 0#32
  tag   : BitVec 64 := 0#64
  due   : Word := 0#32
  deriving DecidableEq, Repr

/-- The payload of a DECIDE BARRIER packet (12 R380); `shotKind` is KIND. -/
structure BarrierPkt where
  span     : Byte := 0#8
  shotKind : Bool := false
  id       : Byte := 0#8
  shot     : Word := 0#32
  tl       : BitVec 64 := 0#64
  due      : Word := 0#32
  deriving DecidableEq, Repr

/-- The payload of a DECIDE VERDICT packet (12 R380). -/
structure VerdictPkt where
  span    : Byte := 0#8
  verdict : Fin 3 := 0
  cause   : Byte := 0#8
  attempt : Byte := 0#8
  shot    : Word := 0#32
  due     : Word := 0#32
  deriving DecidableEq, Repr

/-- The payload of a DECIDE SEAM packet (12 R380). -/
structure SeamPkt where
  span        : Byte := 0#8
  corrections : Bool := false
  round       : Word := 0#32
  due         : Word := 0#32
  entries     : List (BitVec 16 × Byte) := []
  deriving DecidableEq, Repr

/-- What a PTP Announce message says (14 R423): its sender and the grandmaster's data set. -/
structure Announce where
  sender      : BitVec 64 := 0#64
  priority1   : Byte := 128#8
  clockClass  : Byte := 248#8
  accuracy    : Byte := 254#8
  variance    : BitVec 16 := 0xFFFF#16
  priority2   : Byte := 128#8
  grandmaster : BitVec 64 := 0#64
  steps       : BitVec 16 := 0#16
  deriving DecidableEq, Repr

/-- An event that has crossed a die link: its id, and whether a link replay delayed it (01 R24). -/
structure Crossing where
  id   : Nat
  link : Bool := false
  deriving DecidableEq, Repr

/-- A read: its function, 8 for PF0, and its size in bytes (00 R10). -/
structure RegRead where
  f    : Fin 9
  size : Nat := 4
  deriving DecidableEq, Repr

/-- A read of the journal window: its offset there and its size in bytes (00 R10, 09 R300). -/
structure WindowRead where
  off  : BitVec 24
  size : Nat := 4
  deriving DecidableEq, Repr

/-- One capture record as a BULK packet carries it (10 R312, 12 R381). -/
structure RawRec where
  type  : Byte := 0x10#8
  src   : Byte := 0#8
  units : BitVec 16 := 1#16
  fns   : Word := 0#32
  tag   : BitVec 64 := 0#64
  body  : List Word := []
  deriving DecidableEq, Repr

/-- Who reads an uncorrectable burst (11 R345). -/
inductive Reader where
  | fill (obj page : Nat)
  | fetch (c : Fin 16)
  | journal (p : Fin 8) (entry : Nat)
  | garnet (p : Fin 8) (both : Bool)
  | drain (r : Fin 32)
  | window
  | scrub
  deriving DecidableEq, Repr

/-- The commands. -/
inductive Instr where
  /-- COLD_RESET (R488): Power-on or RESET_N held low for at least 1 µs clamps the bias outputs, clears the device state
  and starts a boot from slot A. -/
  | coldReset
  /-- WARM_RESET (R489): GLB_CTRL.DEV_RESET, or PERST# with PERST_MODE 0, mutes every output, abandons attempts and jobs
  without completion records, stops the cores, resets the endpoint and waits for the bias outputs. -/
  | warmReset
  /-- PERST_LINK_RESET (R489): PERST# with PERST_MODE 1 resets the endpoint and applies a partition reset to every
  partition. -/
  | perstLinkReset
  /-- BOOT_WAIT (R489): When the warm-reset bias wait ends, the boot starts stage PLL. -/
  | bootWait
  /-- BOOT_PLL (R482): When REFCLK is present and every PLL has locked, stage PLL completes; a failure ends the boot
  with error REF. -/
  | bootPll (refclk locked : Bool)
  /-- BOOT_FLASH (R482): Stage FLASH completes SFDP discovery and reads the first slot's header, section table and
  calibration area. -/
  | bootFlash (sfdp : Bool) (jedec : Word)
  /-- BOOT_D2D (R482): Stage D2D completes die-to-die link training, or fails with error D2D. -/
  | bootD2d (failed : Option (Fin 5))
  /-- BOOT_DDR (R482): Stage DDR completes DDR5 training, full or from the stored record, while the image sections are
  read. -/
  | bootDdr (chans : List ChTrain)
  /-- BOOT_IMAGE (R477): Stage IMAGE checks every section, applies CONFIG, ASSIGN and the overrides, and runs the
  configuration check, falling back to the other slot on failure. -/
  | bootImage
  /-- BOOT_LOCK (R485): Every RWL field becomes read-only and GLB_STAT.LOCKED becomes 1. -/
  | bootLock
  /-- BOOT_CALAPPLY (R465): The calibration store is selected, checked and applied, or neutral trims are used, and the
  tracking references are written. -/
  | bootCalapply
  /-- BOOT_BIAS (R482): The default first writes of the bias outputs start, the Flint latches resolve, and the device
  reaches DONE with every partition in HOLD. -/
  | bootBias (inputs : List FlintIn)
  /-- TRAINING_RECORD_REWRITE (R340): After a full training that found the stored record absent, invalid or changed, the
  record is rewritten in the background once the device has reached HOLD. -/
  | trainingRecordRewrite (written : Bool)
  /-- RAIL_UNDERVOLTAGE (R515): A rail below 90 % of nominal for 10 µs acts as RESET_N low and causes a cold reset. -/
  | railUndervoltage
  /-- THERMAL_WARNING (R523): A sensor at 100 °C or above pulls THERM_N low, and THERM_N releases when every sensor
  reads below 95 °C. -/
  | thermalWarning (temps : List Int)
  /-- THERMAL_SHUTDOWN (R523): A sensor at 115 °C or above starts a cold reset with the outputs OFF and the bias outputs
  clamped. -/
  | thermalShutdown (temps : List Int)
  /-- THERMAL_RECOVERY (R523): Once every sensor reads below 95 °C, the thermal shutdown ends and the device boots as
  after a cold reset. -/
  | thermalRecovery (temps : List Int)
  /-- OPERATOR_HOLD_PRESS (R491): A press registered after 50 low samples sets OPHOLD, sends a short-press hold to every
  partition and ends CALIBRATE and TEST. -/
  | operatorHoldPress
  /-- OPERATOR_HOLD_LONGPRESS (R491): A press still held 2 s after it registered sets LONGPRESS and puts every partition
  outside HOLD into HOLD at once. -/
  | operatorHoldLongpress
  /-- OPERATOR_HOLD_RELEASE (R491): A release registered after 50 high samples clears OPHOLD and LONGPRESS. -/
  | operatorHoldRelease
  /-- CONFIG_OVERRIDE (R484): A PF0 write to an RWL field before the lock is held as an override, up to 256, or
  discarded and counted. -/
  | configOverride (off : BitVec 26) (data : Word)
  /-- READ (R486): BOOT_FLCMD READ copies LEN bytes from the flash into BOOT_FLBUF. -/
  | flRead (len : BitVec 13)
  /-- ERASE (R486): BOOT_FLCMD ERASE erases the 4 KiB flash sector that holds ADDR. -/
  | flErase (len : BitVec 13)
  /-- PROGRAM (R486): BOOT_FLCMD PROGRAM writes LEN bytes of the buffer to the flash from ADDR, within one 256-byte page. -/
  | flProgram (len : BitVec 13)
  /-- COPYCAL (R486): BOOT_FLCMD COPYCAL copies the valid half of the booted slot's calibration area into both halves of
  the other slot's area. -/
  | flCopycal (len : BitVec 13)
  /-- FLASH_COMMAND_DONE (R486): An accepted flash command completes and sets BOOT_FLSTAT.DONE and RESULT. -/
  | flashCommandDone (good : Bool)
  /-- CAL_AREA_WRITE (R480): The device erases the other calibration half, writes the store and training record into it,
  and writes its header last with GEN one greater. -/
  | calAreaWrite (training : List Byte) (good : Bool)
  /-- FLR (R411): A function level reset of VF(p+1) discards the partition's jobs and state and returns it to HOLD with
  cause reset. -/
  | flr (p : Fin 8)
  /-- PART_RESET (R411): A write of HOST_PART_RESET[p] resets partition p as an FLR does, but keeps the ring addresses
  and the MSI-X table. -/
  | partReset (p : Fin 8)
  /-- PARTITION_RESET_DONE (R412): A partition reset completes within 100 ms of its request, and RBUSY clears. -/
  | partitionResetDone (p : Fin 8)
  /-- TEST (R34): GLB_CTRL.TEST enters TEST when every partition is in HOLD, and is refused otherwise. -/
  | testEnter
  /-- TESTEND (R29): GLB_CTRL.TESTEND leaves TEST and returns every partition to HOLD. -/
  | testend
  /-- EPOCH_ARM (R53): A write of 1 to TIME_CTRL.EPOCH_ARM arms an epoch load when every partition is in HOLD, and sets
  ARM_REFUSED otherwise. -/
  | epochArm (data : Word)
  /-- EPOCH_CAPTURE (R54): The first REFCLK rising edge that finds SYNC_IN high after the arm, or the first edge after a
  soft arm, is the capture edge E. -/
  | epochCapture
  /-- EPOCH_LOAD_COMMAND (R55): Four ticks after E, the load command is distributed to every island with the epoch value. -/
  | epochLoadCommand
  /-- SYNC_OUT_REPEAT (R56): With SYNC_OUT_SEL REPEAT, SYNC_OUT rises 32 ticks after E and stays high for 8 REFCLK
  periods. -/
  | syncOutRepeat
  /-- EPOCH_TILE_LOAD (R55): At tick 64 the tile copies of DTIME take the epoch value and the sample counters restart. -/
  | epochTileLoad
  /-- EPOCH_VALID_SET (R55): At tick 66 EPOCH_VALID becomes 1 and tags in flight from before the load are discarded. -/
  | epochValidSet
  /-- SYNC_OUT_GENERATE (R56): With SYNC_OUT_SEL GENERATE, SYNC_OUT rises at the REFCLK edge where DTIME equals
  TIME_SYNCGEN_LO. -/
  | syncOutGenerate
  /-- FOLLOWER_EPOCH_LOAD (R58): An armed follower loads DTIME = V at its own tile boundary that lies the measured delay
  after the parent's boundary V. -/
  | followerEpochLoad
  /-- REF_LOST (R51): Loss of REFCLK or of PLL lock sets REF_LOST, holds the PLLs, mutes every output, taints begun
  attempts with LINK and stalls the cores. -/
  | refLost
  /-- REF_LOCK_RETURN (R51): When lock returns, REF_LOST clears if no boundary has slipped, or EPOCH_INVALID and
  ALIGN_LOST are set if one has, and shots and streams resume. -/
  | refLockReturn (slipped : Bool)
  /-- TIME_REMEASURE (R60): Every 65,536 ticks a follower re-measures its parent and slews its fine skew by at most 0.1
  ps. -/
  | timeRemeasure (residual : Int)
  /-- TIME_PARENT_TIMEOUT (R60): No TIME packet from the parent for 640,000 ticks raises ALIGN_LOST. -/
  | timeParentTimeout
  /-- TIME_PROBE (R375): A PROBE TIME packet is received and answered with an ECHO. -/
  | timeProbe (q : Fin 4) (count arrival : BitVec 64) (fine : Fin 6250)
  /-- TIME_ECHO (R376): An ECHO TIME packet gives the round trip, from which the port's one-way delay is computed. -/
  | timeEcho (q : Fin 4) (count residence arrival : BitVec 64)
  /-- TIME_SYNC (R376): A SYNC TIME packet from the parent gives the follower's residual, which it slews out; ALIGN_LOST
  clears when the residual is back within ±2 ps. -/
  | timeSync (q : Fin 4) (valid : Bool) (residual : Int)
  /-- TIME_EPOCH (R376): An EPOCH TIME packet gives an armed follower the epoch value V that it is to load. -/
  | timeEpoch (q : Fin 4) (v : BitVec 64)
  /-- JOB_TAKE (R399): When the previous job has ended and R30 allows, the partition copies the next descriptor,
  advances T and starts the job, entering SHOT or STREAM as it names. -/
  | jobTake (p : Fin 8) (desc : Option (List Byte)) (body : Option (List Byte))
  /-- JOB_END (R139): When every participating core has halted and the last shot has been judged, the job ends with its
  completion record and the partition enters HOLD or takes its next job. -/
  | jobEnd (p : Fin 8)
  /-- NOP (R140): A Quartz NOP does nothing for 1 cycle. -/
  | nop (c : Fin 16) (bits : BitVec 56)
  /-- HALT (R139): HALT ends the core's part in the job, and is the fault SHOT_NEST inside a shot. -/
  | halt (c : Fin 16) (bits : BitVec 56)
  /-- WAIT (R125): WAIT advances TL by TICKS and SUBT, or by the value of V[A]. -/
  | wait (c : Fin 16) (bits : BitVec 56)
  /-- WAITUNTIL (R126): WAITUNTIL moves TL forward to a shot-relative instant or to a DTIME alignment, stalling for E
  where required. -/
  | waituntil (c : Fin 16) (bits : BitVec 56)
  /-- PLAY (R127): PLAY issues one event that plays a waveform on a frame and channel with a gain at TL. -/
  | play (c : Fin 16) (bits : BitVec 56)
  /-- PLAYCW (R127): PLAYCW issues one event that starts a FOREVER chain, and is accepted only in STREAM mode. -/
  | playcw (c : Fin 16) (bits : BitVec 56)
  /-- PLAYCW_STOP (R86): PLAYCW with STOP set issues the event that ends the FOREVER tones of its frame on its channel. -/
  | playcwStop (c : Fin 16) (bits : BitVec 56)
  /-- SETF (R128): SETF issues a frame-write event that sets FW at TL. -/
  | setf (c : Fin 16) (bits : BitVec 56)
  /-- SETPH (R128): SETPH issues a frame-write event that sets PH to an absolute value at TL. -/
  | setph (c : Fin 16) (bits : BitVec 56)
  /-- SHIFTPH (R128): SHIFTPH issues a frame-write event that adds a value to PH at TL. -/
  | shiftph (c : Fin 16) (bits : BitVec 56)
  /-- MEAS (R129): MEAS issues a probe event and a window event from a descriptor, and appends a binding to the slot's
  queue. -/
  | meas (c : Fin 16) (bits : BitVec 56)
  /-- BR (R136): A Quartz BR jumps by OFFSET. -/
  | br (c : Fin 16) (bits : BitVec 56)
  /-- BRV (R136): BRV compares V[A] with V[B], or with 0, and jumps when COND holds. -/
  | brv (c : Fin 16) (bits : BitVec 56)
  /-- BRD (R150): BRD jumps when the state of its binding is in MASK, stalling while that binding is pending. -/
  | brd (c : Fin 16) (bits : BitVec 56)
  /-- BRD_RESUME (R151): Six ticks after the binding becomes valid, the stalled BRD resumes, applies R37 to TL and
  completes. -/
  | brdResume (c : Fin 16)
  /-- LOOP (R137): LOOP opens a hardware loop whose body is the BODY instructions that follow it. -/
  | loop (c : Fin 16) (bits : BitVec 56)
  /-- ENDL (R137): ENDL decrements the innermost loop's count, and returns to the body start or pops the loop. -/
  | endl (c : Fin 16) (bits : BitVec 56)
  /-- CALL (R138): CALL pushes a return frame that records the loop depth, and jumps. -/
  | call (c : Fin 16) (bits : BitVec 56)
  /-- RET (R138): RET pops the loops opened since the matching CALL, and returns. -/
  | ret (c : Fin 16) (bits : BitVec 56)
  /-- SHOT (R143): SHOT stalls the core until every participating core has reached SHOT and the previous attempt has
  been judged. -/
  | shot (c : Fin 16) (bits : BitVec 56)
  /-- SHOT_START (R143): When the SHOT stall ends, S is fixed, every participating core's TL becomes S, and Strata takes
  the checkpoint. -/
  | shotStart (p : Fin 8)
  /-- ENDSHOT (R145): ENDSHOT marks the core's end of the attempt, whose E is the largest TL at ENDSHOT rounded up. -/
  | endshot (c : Fin 16) (bits : BitVec 56)
  /-- SYNC (R154): SYNC stalls the core at a barrier across the participating cores, and across the span with SPAN set. -/
  | sync (c : Fin 16) (bits : BitVec 56)
  /-- SYNC_COMPLETE (R154): Four ticks after the last participant arrives, every core's TL is set to the largest TL and
  the barrier completes. -/
  | syncComplete (p : Fin 8)
  /-- SYNC_TIMEOUT (R156): A barrier not complete after TIMEOUT ticks taints the attempt with LINK inside a shot, or
  faults with SYNC_TIMEOUT outside one. -/
  | syncTimeout (c : Fin 16)
  /-- SETBIAS (R135): SETBIAS issues an event that writes a code to a bias output at TL, outside a shot only. -/
  | setbias (c : Fin 16) (bits : BitVec 56)
  /-- EMITV (R134): EMITV sends a user record carrying CODE and the registers V[A] to V[A+N] to Strata, tagged at TL. -/
  | emitv (c : Fin 16) (bits : BitVec 56)
  /-- ADD (R131): Quartz ADD writes A + B, modulo 2^32, to D. -/
  | add (c : Fin 16) (bits : BitVec 56)
  /-- SUB (R131): Quartz SUB writes A − B, modulo 2^32, to D. -/
  | sub (c : Fin 16) (bits : BitVec 56)
  /-- AND (R131): Quartz AND writes the bitwise AND of A and B to D. -/
  | and_ (c : Fin 16) (bits : BitVec 56)
  /-- OR (R131): Quartz OR writes the bitwise OR of A and B to D. -/
  | or_ (c : Fin 16) (bits : BitVec 56)
  /-- XOR (R131): Quartz XOR writes the bitwise XOR of A and B to D. -/
  | xor_ (c : Fin 16) (bits : BitVec 56)
  /-- SHL (R131): Quartz SHL shifts A left by B[4:0]. -/
  | shl (c : Fin 16) (bits : BitVec 56)
  /-- SHR (R131): Quartz SHR shifts A right logically by B[4:0]. -/
  | shr (c : Fin 16) (bits : BitVec 56)
  /-- SRA (R131): Quartz SRA shifts A right arithmetically by B[4:0]. -/
  | sra (c : Fin 16) (bits : BitVec 56)
  /-- MUL (R131): Quartz MUL writes the low 32 bits of A × B to D. -/
  | mul (c : Fin 16) (bits : BitVec 56)
  /-- MIN (R131): Quartz MIN writes the signed minimum of A and B to D. -/
  | min_ (c : Fin 16) (bits : BitVec 56)
  /-- MAX (R131): Quartz MAX writes the signed maximum of A and B to D. -/
  | max_ (c : Fin 16) (bits : BitVec 56)
  /-- MOV (R131): Quartz MOV copies A to D. -/
  | mov (c : Fin 16) (bits : BitVec 56)
  /-- ADDP (R131): ADDP adds two 48-bit register pairs modulo 2^48. -/
  | addp (c : Fin 16) (bits : BitVec 56)
  /-- SUBP (R131): SUBP subtracts two 48-bit register pairs modulo 2^48. -/
  | subp (c : Fin 16) (bits : BitVec 56)
  /-- ADDI (R131): ADDI writes A + IMM to D. -/
  | addi (c : Fin 16) (bits : BitVec 56)
  /-- SUBI (R131): SUBI writes A − IMM to D. -/
  | subi (c : Fin 16) (bits : BitVec 56)
  /-- ANDI (R131): ANDI writes A AND IMM to D. -/
  | andi (c : Fin 16) (bits : BitVec 56)
  /-- ORI (R131): ORI writes A OR IMM to D. -/
  | ori (c : Fin 16) (bits : BitVec 56)
  /-- XORI (R131): XORI writes A XOR IMM to D. -/
  | xori (c : Fin 16) (bits : BitVec 56)
  /-- SHLI (R131): SHLI shifts A left by IMM[4:0]. -/
  | shli (c : Fin 16) (bits : BitVec 56)
  /-- SHRI (R131): SHRI shifts A right logically by IMM[4:0]. -/
  | shri (c : Fin 16) (bits : BitVec 56)
  /-- SRAI (R131): SRAI shifts A right arithmetically by IMM[4:0]. -/
  | srai (c : Fin 16) (bits : BitVec 56)
  /-- MULI (R131): MULI writes the low 32 bits of A × IMM to D. -/
  | muli (c : Fin 16) (bits : BitVec 56)
  /-- MINI (R131): MINI writes the signed minimum of A and IMM to D. -/
  | mini (c : Fin 16) (bits : BitVec 56)
  /-- MAXI (R131): MAXI writes the signed maximum of A and IMM to D. -/
  | maxi (c : Fin 16) (bits : BitVec 56)
  /-- LDI (R131): Quartz LDI loads IMM into D. -/
  | ldi (c : Fin 16) (bits : BitVec 56)
  /-- MOVS (R133): MOVS copies a special value, such as the shot number or LASTCAUSE, into D. -/
  | movs (c : Fin 16) (bits : BitVec 56)
  /-- RND (R132): RND steps the xorshift generator and writes its high 32 bits to D. -/
  | rnd (c : Fin 16) (bits : BitVec 56)
  /-- LOOKAHEAD_STALL_END (R117): A core stalled on the look-ahead limit resumes once its event's TIME lies within the
  limit of DTIME. -/
  | lookaheadStallEnd (c : Fin 16)
  /-- ICACHE_MISS_FILL (R118): An instruction-cache miss is filled from DRAM within 400 ticks and execution resumes, or
  an uncorrectable error is raised. -/
  | icacheMissFill (c : Fin 16) (good : Bool)
  /-- QTZ_CORE_RESET (R158): A write of 1 to QTZ_CTRL[c].CORE_RESET halts and clears the core, and is the core fault
  RESET while the partition runs. -/
  | qtzCoreReset (c : Fin 16)
  /-- SCHED_STALL_END (R181): A core stalled in STALL_SCHED resumes when one of its partition's entries is freed, or the
  event fails or is discarded once its slack falls below 58. -/
  | schedStallEnd (c : Fin 16)
  /-- EVENT_DISPATCH (R182): The scheduler offers a port its earliest event, no earlier than TIME − 256, and the event
  arrives 10 ticks later. -/
  | eventDispatch (port : Fin 18)
  /-- EVENT_ARRIVE (R22): An event reaches its converter tile and is held, or is late if it arrives less than 48 ticks
  before TIME. -/
  | eventArrive (id : Nat) (link : Bool)
  /-- EVENT_RELEASE (R22): At TIME − 38 the tile releases a held event into the tone-lane pipeline. -/
  | eventRelease (id : Nat)
  /-- LANE_BIND (R179): At TIME − 2 the tile binds a pulse to the lowest-numbered free usable lane, or taints the
  attempt with RETIRED if none is free. -/
  | laneBind (id : Nat)
  /-- UNMUTE (R106): The first pulse start after a mute unmutes its MUTED channel with boundary B = TIME − 4. -/
  | unmute (n : Fin 64)
  /-- FRAME_WRITE_APPLY (R66): A SETF, SETPH or SHIFTPH applies to the frame at its instant on every lane that uses the
  frame. -/
  | frameWriteApply (id : Nat)
  /-- DEFERRED_FRAME_WRITE (R204): A deferred device-originated frame write applies at the end of the protected interval
  or at the next chained-window boundary. -/
  | deferredFrameWrite (f : Fin 1024)
  /-- MUTE_APPLY (R107): A scheduled mute applies at its boundary B with the raised-cosine edge of R105. -/
  | muteApply (id : Nat)
  /-- GRANULE_DUE (R169): At each granule's due tick, the lane plays the granule and requests the pages that can be due
  within 2,048 ticks. -/
  | granuleDue (id : Nat)
  /-- OUTPUT_LIMIT_TRIP (R101): A code above PEAK is clipped, or with ACTION trip mutes the channel and puts the owner
  into HOLD with cause TRIP. -/
  | outputLimitTrip (n : Fin 64)
  /-- JUMP_REGISTER (R93): A jump request registers when the jump slot holds a fresh result during a pass of the jump
  segment. -/
  | jumpRegister (id : Nat)
  /-- SEGMENT_PASS_END (R94): At the end of a pass a registered jump takes effect, a late jump is carried to the
  following pass, or a missed jump is recorded. -/
  | segmentPassEnd (id : Nat)
  /-- FILL_COMPLETE (R170): A page fill from DRAM into the cache completes within the fill quota's bound, and the page
  becomes resident or pinned. -/
  | fillComplete (obj page : Nat) (good : Bool)
  /-- USE_PIN_RELEASE (R169): A use-pinned page is released once no pulse, hint or hold that requested it can need it
  within 2,048 ticks. -/
  | usePinRelease (obj page : Nat)
  /-- LOAD (R162): The LOAD operation creates or atomically replaces a waveform object, checks its chain and fills its
  load-pinned pages. -/
  | libLoad (p : Fin 8) (op : LibOp) (image : Option (List Byte))
  /-- DELETE (R162): The DELETE operation frees an object's storage and load pins. -/
  | libDelete (p : Fin 8) (op : LibOp)
  /-- PIN (R162): The PIN operation sets an object's load pin and fills its pages. -/
  | libPin (p : Fin 8) (op : LibOp)
  /-- UNPIN (R162): The UNPIN operation clears an object's load pin. -/
  | libUnpin (p : Fin 8) (op : LibOp)
  /-- DELETE_ALL (R162): The DELETE_ALL operation frees every object of the partition. -/
  | libDeleteAll (p : Fin 8) (op : LibOp)
  /-- INPUT_BLOCK (R187): Each input tick's 16 samples are delivered as one block to the tile 14 ticks after the block
  ends. -/
  | inputBlock (m : Fin 16) (samples : List AdcSample)
  /-- WINDOW_EVENT_ARRIVE (R194): A window event reaches its tile, and a late window opens no lane and resolves its
  binding as indeterminate with LATE. -/
  | windowEventArrive (event : Crossing)
  /-- WINDOW_BIND (R196): At LS − 2 the tile binds the window to the lowest free usable lane of its group, or taints the
  attempt with RETIRED. -/
  | windowBind (id : Nat)
  /-- SETTLING_END (R200): ICH_STAT.SETTLING clears 2,048 ticks after a gain or zone application. -/
  | settlingEnd (m : Fin 16)
  /-- ICH_TRIM_UPDATE (R201): An updated calibration trim set is applied to an input channel at a free instant or a
  chained boundary, at most once per 1 ms. -/
  | ichTrimUpdate (m : Fin 16)
  /-- WINDOW_START (R216): A window start reaches its Mica context at WS + 10 and begins at MENTRY, or enters the start
  queue. -/
  | windowStart (id : Nat)
  /-- LANE_FIFO_SAMPLE (R218): A decimated output sample enters the lane FIFO, or is dropped when 512 samples are held. -/
  | laneFifoSample (id : Nat)
  /-- MICA_NOP (R228): Mica NOP does nothing for one issue tick. -/
  | micaNop (k : Fin 64) (x : Fin 8) (bits : BitVec 26)
  /-- MICA_END (R232): END finishes the window's program, discards unpopped samples and begins a queued start. -/
  | micaEnd (k : Fin 64) (x : Fin 8) (bits : BitVec 26)
  /-- MICA_REP (R230): REP executes the following instruction n times without interruption. -/
  | micaRep (k : Fin 64) (x : Fin 8) (bits : BitVec 26)
  /-- MICA_BR (R228): Mica BR branches by OFFSET. -/
  | micaBr (k : Fin 64) (x : Fin 8) (bits : BitVec 26)
  /-- MICA_BRC (R228): BRC branches when its condition flag holds. -/
  | micaBrc (k : Fin 64) (x : Fin 8) (bits : BitVec 26)
  /-- MICA_DJNZ (R228): DJNZ decrements X and branches if the result is not zero. -/
  | micaDjnz (k : Fin 64) (x : Fin 8) (bits : BitVec 26)
  /-- MICA_MACW (R228): MACW accumulates a weight from data memory times a popped sample. -/
  | micaMacw (k : Fin 64) (x : Fin 8) (bits : BitVec 26)
  /-- MICA_MACX (R228): MACX accumulates X times a popped sample. -/
  | micaMacx (k : Fin 64) (x : Fin 8) (bits : BitVec 26)
  /-- MICA_ACCS (R228): ACCS accumulates a popped sample. -/
  | micaAccs (k : Fin 64) (x : Fin 8) (bits : BitVec 26)
  /-- MICA_MACM (R228): MACM accumulates a data-memory word times X without a pop. -/
  | micaMacm (k : Fin 64) (x : Fin 8) (bits : BitVec 26)
  /-- MICA_MACR (R228): MACR accumulates X times Y. -/
  | micaMacr (k : Fin 64) (x : Fin 8) (bits : BitVec 26)
  /-- MICA_CLRA (R228): CLRA clears an accumulator. -/
  | micaClra (k : Fin 64) (x : Fin 8) (bits : BitVec 26)
  /-- MICA_ADDA (R228): ADDA adds or subtracts one accumulator into another. -/
  | micaAdda (k : Fin 64) (x : Fin 8) (bits : BitVec 26)
  /-- MICA_IN (R228): IN pops a sample into X. -/
  | micaIn (k : Fin 64) (x : Fin 8) (bits : BitVec 26)
  /-- MICA_LD (R228): LD loads a data-memory word into X. -/
  | micaLd (k : Fin 64) (x : Fin 8) (bits : BitVec 26)
  /-- MICA_ST (R228): ST stores X into the context's scratch area. -/
  | micaSt (k : Fin 64) (x : Fin 8) (bits : BitVec 26)
  /-- MICA_LDI (R228): Mica LDI loads an immediate into X, or into its high half. -/
  | micaLdi (k : Fin 64) (x : Fin 8) (bits : BitVec 26)
  /-- MICA_SETA (R227): SETA writes the pointer, BASE or LEN of an address register. -/
  | micaSeta (k : Fin 64) (x : Fin 8) (bits : BitVec 26)
  /-- MICA_ADD (R228): Mica ADD writes A + B to D. -/
  | micaAdd (k : Fin 64) (x : Fin 8) (bits : BitVec 26)
  /-- MICA_SUB (R228): Mica SUB writes A − B to D. -/
  | micaSub (k : Fin 64) (x : Fin 8) (bits : BitVec 26)
  /-- MICA_AND (R228): Mica AND writes A AND B to D. -/
  | micaAnd (k : Fin 64) (x : Fin 8) (bits : BitVec 26)
  /-- MICA_OR (R228): Mica OR writes A OR B to D. -/
  | micaOr (k : Fin 64) (x : Fin 8) (bits : BitVec 26)
  /-- MICA_XOR (R228): Mica XOR writes A XOR B to D. -/
  | micaXor (k : Fin 64) (x : Fin 8) (bits : BitVec 26)
  /-- MICA_SHL (R228): Mica SHL shifts left. -/
  | micaShl (k : Fin 64) (x : Fin 8) (bits : BitVec 26)
  /-- MICA_SHR (R228): Mica SHR shifts right logically. -/
  | micaShr (k : Fin 64) (x : Fin 8) (bits : BitVec 26)
  /-- MICA_SRA (R228): Mica SRA shifts right arithmetically. -/
  | micaSra (k : Fin 64) (x : Fin 8) (bits : BitVec 26)
  /-- MICA_CMUL (R228): CMUL writes the complex Q1.15 product of A and B to D. -/
  | micaCmul (k : Fin 64) (x : Fin 8) (bits : BitVec 26)
  /-- MICA_ABS2 (R228): ABS2 writes I² + Q² of A to D. -/
  | micaAbs2 (k : Fin 64) (x : Fin 8) (bits : BitVec 26)
  /-- MICA_MOV (R228): Mica MOV copies A to D. -/
  | micaMov (k : Fin 64) (x : Fin 8) (bits : BitVec 26)
  /-- MICA_CMP (R228): CMP sets the Z and N flags from a signed comparison. -/
  | micaCmp (k : Fin 64) (x : Fin 8) (bits : BitVec 26)
  /-- MICA_LATCH (R234): LATCH sets RL from an accumulator, with the state indeterminate. -/
  | micaLatch (k : Fin 64) (x : Fin 8) (bits : BitVec 26)
  /-- MICA_DISC (R235): DISC sets RL from an accumulator and discriminates its state with entry K. -/
  | micaDisc (k : Fin 64) (x : Fin 8) (bits : BitVec 26)
  /-- MICA_SETST (R228): SETST sets the state of RL from X. -/
  | micaSetst (k : Fin 64) (x : Fin 8) (bits : BitVec 26)
  /-- MICA_EMIT (R236): EMIT sends RL as a result unit to the window's slot and resolves its binding. -/
  | micaEmit (k : Fin 64) (x : Fin 8) (bits : BitVec 26)
  /-- MICA_OUTS (R238): OUTS appends one sample to the window's stream output, in STREAM mode only. -/
  | micaOuts (k : Fin 64) (x : Fin 8) (bits : BitVec 26)
  /-- MICA_EMITR (R238): EMITR sends an event record with CODE and registers, and may act as a MICA capture trigger. -/
  | micaEmitr (k : Fin 64) (x : Fin 8) (bits : BitVec 26)
  /-- MICA_RDA (R228): RDA reads an accumulator into X as Q1.15. -/
  | micaRda (k : Fin 64) (x : Fin 8) (bits : BitVec 26)
  /-- MICA_RDS (R231): RDS reads a special value into X. -/
  | micaRds (k : Fin 64) (x : Fin 8) (bits : BitVec 26)
  /-- MICA_CORE_RESET (R243): A write of 1 to MICA_CTRL[k].CORE_RESET halts and clears the core, and is the fault RESET
  while the partition runs. -/
  | micaCoreReset (k : Fin 64)
  /-- MICA_CONSTANT_WRITE (R233): A PF0 write to a constant area takes effect only while the owner is in HOLD, and is
  discarded and counted otherwise. -/
  | micaConstantWrite (k : Fin 64) (w : Fin 8192) (data : Word)
  /-- RESULT_ARRIVE (R248): A result unit arrives at the decision fabric and resolves its binding. -/
  | resultArrive (id : Nat)
  /-- BINDING_COMMIT (R248): A resolved binding commits to its slot in queue order, once no older binding holds it back. -/
  | bindingCommit (s : Fin 512)
  /-- RESULT (R254): A DECIDE RESULT packet resolves an open forwarded binding of its shot, or is discarded into
  DEC_FWDLOST. -/
  | meshResult (q : Fin 4) (h : Head) (u : ResultPkt)
  /-- DECIDE_DUE (R377): A DECIDE packet held until its due tick acts at that tick. -/
  | decideDue
  /-- FORWARD_TIMEOUT (R255): A forwarded binding unresolved DEC_FWDTMO ticks after its SHOT resolves as indeterminate
  with LATE and taints the attempt with LINK. -/
  | forwardTimeout (s : Fin 512)
  /-- BARRIER (R155): A DECIDE BARRIER packet carries a span device's largest TL for a span SYNC or SHOT. -/
  | meshBarrier (q : Fin 4) (h : Head) (u : BarrierPkt)
  /-- VERDICT (R294): A DECIDE VERDICT packet carries a span device's verdict, from which the span verdict is agreed. -/
  | meshVerdict (q : Fin 4) (h : Head) (u : VerdictPkt)
  /-- SEAM (R282): A DECIDE SEAM packet carries seam defects to the seam master, or its corrections back. -/
  | meshSeam (q : Fin 4) (h : Head) (u : SeamPkt)
  /-- JUDGEMENT (R145): No more than 8 ticks after its events, bindings and Garnet rounds complete, Strata judges the
  attempt delivered, replayed or failed. -/
  | judgement (p : Fin 8) (inputs : List FlintIn)
  /-- PROBE_SHOT (R264): A due FREQ loop inserts probe shot A, then shot B, of its Ramsey pair between program shots. -/
  | probeShot (l : Fin 64)
  /-- FREEZE (R269): A write to DEC_TRKCTL.FREEZE freezes, or resumes, the loop at the partition's next shot boundary. -/
  | trkFreeze (l : Fin 64) (on : Bool)
  /-- RESTART (R268): A write of 1 to DEC_TRKCTL.RESTART clears the loop's sums and puts it in HOLDING. -/
  | trkRestart (l : Fin 64)
  /-- DECODE_PASS (R279): Garnet takes the oldest round of the backlog and runs a union-find pass over the window. -/
  | decodePass (p : Fin 8)
  /-- DECODE_PASS_END (R281): At the end of a pass the round is finalised, qubit records are toggled, and the final pass
  commits the observables. -/
  | decodePassEnd (p : Fin 8)
  /-- PAULI_FRAME_WRITE (R281): Sixty-four ticks after a pass ends, π is added to PH of each frame whose Z record changed. -/
  | pauliFrameWrite (p : Fin 8)
  /-- DECODE_LATE (R280): A REALTIME round whose pass has not ended 2,048 ticks after completion taints its attempt with
  DECODE_LATE. -/
  | decodeLate (p : Fin 8)
  /-- JOURNAL_WRITE (R297): A journal entry is written to DRAM within the partition's journal rate, or waits in the
  on-chip buffer. -/
  | journalWrite (p : Fin 8)
  /-- VERDICT_TIMEOUT (R295): A verdict exchange not complete after TIMEOUT ticks gives the verdict Replayed, or Failed
  when the limit is spent, with cause LINK. -/
  | verdictTimeout (p : Fin 8)
  /-- RECORD_RELEASE (R299): A delivered attempt's result, jump and user entries are copied to the result ring in
  journal order. -/
  | recordRelease (p : Fin 8)
  /-- HARDWARE_ERROR (R301): A detected hardware error is counted against its resource, which is retired when K errors
  fall within W. -/
  | hardwareError (kind : Byte) (index : BitVec 24) (cause : Nat)
  /-- COALESCE_PERIOD_END (R289): At the end of a 640,000-tick coalescing period the collected occurrences are written
  as one record. -/
  | coalescePeriodEnd (f : Fin 9) (key : Nat)
  /-- ATTACH (R318): The ATTACH capture request attaches a host buffer to a PCIE ring. -/
  | attach (p : Fin 8) (block : List Byte)
  /-- ARM_RAW (R320): The ARM_RAW capture request arms a raw tap request and takes a reservation in its ring. -/
  | armRaw (p : Fin 8) (block : List Byte)
  /-- DISARM (R324): The DISARM capture request ends an armed request, truncating a burst in progress. -/
  | disarm (p : Fin 8) (block : List Byte)
  /-- DETACH (R318): The DETACH capture request releases the ring's host buffer once every written record is counted. -/
  | detach (p : Fin 8) (block : List Byte)
  /-- RESERVATION_HELD (R320): An ARMING request becomes ARMED once its ring has room for the reservation. -/
  | reservationHeld (p : Fin 8) (reqid : BitVec 16)
  /-- SOFTWARE_TRIGGER (R322): A write of CAP_PTRIG[p].TRIGGER or VF_TRIG starts a burst of the partition's armed
  SOFTWARE requests. -/
  | softwareTrigger (p : Fin 8)
  /-- TRIG_IN (R322): TRIG_IN sampled high after at least 2 low ticks triggers the armed TRIG_IN requests. -/
  | trigIn (high : Bool)
  /-- BURST_COMPLETE (R323): When a burst's last block has been written, the reservation is released and the request
  re-arms if COUNT is not spent. -/
  | burstComplete (p : Fin 8) (reqid : BitVec 16)
  /-- SAMPLES_FLUSH (R313): A SAMPLES record is closed and written CAP_RFLUSH ticks after its sample 0 was appended. -/
  | samplesFlush (r : Fin 32) (k : Fin 64) (x : Fin 8)
  /-- RING_DRAIN (R327): The device copies ring records to the attached host buffer and writes the count word. -/
  | ringDrain (r : Fin 32)
  /-- GAP_CLOSE (R331): When a source's next record is kept, the open gap is written as a gap record followed by a TIME
  record. -/
  | gapClose (r : Fin 32) (cause src : Nat)
  /-- BULK (R382): A BULK packet's records are written to the RECEIVE ring of their sender in RSEQ order. -/
  | meshBulk (q : Fin 4) (h : Head) (ring : Fin 32) (rseq : Nat) (recs : List RawRec)
  /-- JOB_DOORBELL (R394): A write of P to VF_JOBDB posts jobs, and is discarded with DBERR if out of range. -/
  | jobDoorbell (p : Fin 8) (value : Word)
  /-- RESULT_DOORBELL (R396): A write of C to VF_RESDB returns result-ring space. -/
  | resultDoorbell (p : Fin 8) (value : Word)
  /-- CAPTURE_DOORBELL (R397): A write to VF_CAPDB[r] returns the bytes consumed from ring r's host buffer. -/
  | captureDoorbell (p : Fin 8) (r : Fin 32) (value : Word)
  /-- RING_ENABLE (R393): A write of 1 to VF_RINGCTL.ENABLE enables both rings and starts P, T, W and C from 0. -/
  | ringEnable (p : Fin 8) (data : Word)
  /-- HOLD_REQUEST (R407): A HOLD bit written to VF_CMD or HOST_PCMD requests that the partition enter HOLD. -/
  | holdRequest (p : Fin 8)
  /-- RESUME (R407): A RESUME bit clears RESUME_NEEDED so that the partition may take jobs again. -/
  | hostResume (p : Fin 8) (inputs : List FlintIn)
  /-- EVENT_DOORBELL (R409): A write to HOST_EVDB returns PF0 event-ring space. -/
  | eventDoorbell (value : Word)
  /-- EVENT_RING_ENABLE (R409): A write of 1 to HOST_EVCTL.ENABLE enables the PF0 event ring, or is refused with CFGERR. -/
  | eventRingEnable (data : Word)
  /-- RECORD_WRITE (R395): Queued records are written to a result or event ring as space allows, followed by the count
  word. -/
  | recordWrite (f : Fin 9)
  /-- IRQ_MODERATION (R408): A moderated MSI-X vector fires when its IRQMOD × 16 interval has elapsed since the first
  event it has not signalled. -/
  | irqModeration (f : Fin 9) (v : Fin 4)
  /-- REFRESH (R337): The controller issues same-bank refresh at the interval set by MR4 polling. -/
  | memRefresh (c : Fin 8) (bank : Fin 32)
  /-- MR4_POLL (R337): Every 32 ms the controller polls MR4 and halves the refresh interval above 85 °C. -/
  | mr4Poll (c : Fin 8) (hot : Bool)
  /-- ZQ_CALIBRATION (R341): Every 128 ms each channel runs ZQ calibration. -/
  | zqCalibration (c : Fin 8)
  /-- DQS_TRACKING (R341): Every 32 ms each channel updates its read-DQS tracking. -/
  | dqsTracking (c : Fin 8)
  /-- SCRUB (R348): Patrol scrub reads every page of every region once per period and writes corrected bursts back. -/
  | memScrub (corrected uncorrectable : Bool) (c : Fin 8)
  /-- CORRECTED_READ (R344): A corrected burst is counted against its page and written back. -/
  | correctedRead (c : Fin 8) (page : Nat)
  /-- UNCORRECTABLE_READ (R345): An uncorrectable burst reaches its reader with a poison mark and is counted. -/
  | uncorrectableRead (c : Fin 8) (page : Nat) (reader : Reader)
  /-- WRITE_CRC_ERROR (R343): A write CRC error is retried up to 3 more times, then the burst is written poisoned. -/
  | writeCrcError (c : Fin 8) (page burst : Nat) (repeats : Nat)
  /-- NEIGHBOUR_REFRESH (R353): A sampled activate queues a directed refresh of its row's neighbours. -/
  | neighbourRefresh (c : Fin 8) (bank : Fin 64) (row : Nat)
  /-- ROW_IDLE_CLOSE (R351): An open row is closed after 256 controller cycles without an access to its bank. -/
  | rowIdleClose (c : Fin 8) (bank : Fin 64)
  /-- PAGE_REMAP (R347): A retired DRAM page is copied to a spare page and remapped within 2,048 ticks. -/
  | pageRemap (page : Nat)
  /-- DEEP_REQ (R357): A write of 1 to MEM_CTRL.DEEP_REQ requests deep HOLD, which is refused unless every condition
  holds. -/
  | deepReq
  /-- DEEP_ENTRY (R358): The controller completes its queue, enters self-refresh and stops its clocks within 2,048 ticks. -/
  | deepEntry
  /-- DEEP_EXIT (R359): A write of DEEP_REQ = 0, or an event that needs DRAM, starts the exit from deep HOLD. -/
  | deepExit
  /-- DEEP_EXIT_DONE (R359): The exit from self-refresh and its verification complete, and the work that was waiting
  proceeds. -/
  | deepExitDone (chans : List ChTrain)
  /-- PORT_PRESENT (R367): MPRSNT_N sampled low for 20 ms takes an enabled port from DOWN to DETECT. -/
  | portPresent (q : Fin 4)
  /-- LANE_TRAINED (R367): A lane completes training within 40 ms of its signal. -/
  | laneTrained (q : Fin 4) (l : Fin 8) (good : Bool)
  /-- IDENTIFY (R367): When every signalling lane has trained or failed, or 80 ms have passed, the port enters IDENTIFY. -/
  | identify (q : Fin 4)
  /-- IDENT (R367): An IDENT LINK packet from the partner takes the port to UP or MISMATCH. -/
  | meshIdent (q : Fin 4) (cluster : BitVec 16) (dev : Fin 64) (parent : Bool)
  /-- PORT_ABSENT (R369): MPRSNT_N sampled high for 1 ms takes the port to DOWN and discards its retry buffers. -/
  | portAbsent (q : Fin 4)
  /-- SIGNAL_LOST (R369): Loss of signal on every lane takes the port DOWN within 640 ticks. -/
  | signalLost (q : Fin 4)
  /-- LANE_RETRAIN (R368): Every 1 s an untrained or lost lane of an UP port retrains, and each failure counts against
  the lane. -/
  | laneRetrain (q : Fin 4) (l : Fin 8) (good : Bool)
  /-- ALIGNMENT_LOSS (R365): Four consecutive invalid codewords make the lane declare loss of alignment and realign on
  K28.5. -/
  | alignmentLoss (q : Fin 4) (l : Fin 8)
  /-- ACK (R373): An ACK LINK packet releases the acknowledged packets from the retry buffer. -/
  | meshAck (q : Fin 4) (l : Fin 8) (seq : BitVec 12)
  /-- NAK (R373): A NAK makes the sender resend every packet from the named SEQ, and counts an error against the lane. -/
  | meshNak (q : Fin 4) (l : Fin 8) (seq : BitVec 12)
  /-- RETRY_EXHAUSTED (R373): A packet sent five times without an ACK makes the lane retrain and moves its packets to
  other lanes. -/
  | retryExhausted (q : Fin 4) (l : Fin 8)
  /-- TXSLEEP (R386): A write to MESH_SLEEP.TXSLEEP drains the lane's transmit side, sends a SLEEP notice and idles it,
  or wakes it. -/
  | txsleep (q : Fin 4) (mask : Byte)
  /-- RXSLEEP (R386): A write to MESH_SLEEP.RXSLEEP asks the partner's transmit side to sleep, or to wake. -/
  | rxsleep (q : Fin 4) (mask : Byte)
  /-- SLEEP_NOTICE (R386): A SLEEP LINK notice parks the receive side without treating the silence as a loss. -/
  | sleepNotice (q : Fin 4) (l : Fin 8)
  /-- MESH_TEST (R388): A write to MESH_TEST runs a PRBS pattern or packet error injection on a lane in TEST mode. -/
  | meshTest (q : Fin 4) (l : Fin 8) (data : Word)
  /-- ANNOUNCE (R423): A PTP Announce message feeds the domain's best master clock algorithm. -/
  | ptpAnnounce (d : Fin 2) (q : Fin 2) (a : Announce) (logInterval : Int)
  /-- PTP_SYNC (R424): A PTP Sync message gives t1 or waits for its Follow_Up, and updates the offset, servo and clock
  state. -/
  | ptpSync (d : Fin 2) (q : Fin 2) (seq : BitVec 16) (origin : Option Int) (ingress correction logInterval : Int)
  /-- FOLLOW_UP (R424): A Follow_Up message supplies the preciseOriginTimestamp of a two-step Sync. -/
  | followUp (d : Fin 2) (q : Fin 2) (seq : BitVec 16) (origin correction : Int)
  /-- DELAY_RESP (R424): A Delay_Resp message completes the end-to-end path delay measurement. -/
  | delayResp (d : Fin 2) (q : Fin 2) (seq : BitVec 16) (receive correction : Int) (logMin : Int)
  /-- DELAY_REQ (R423): The device sends a Delay_Req at the master's minimum interval. -/
  | delayReq (d : Fin 2) (q : Fin 2) (egress : Int)
  /-- FOLLOW_UP_TIMEOUT (R424): A Sync with no matching Follow_Up within 1 s is discarded and counted. -/
  | followUpTimeout (d : Fin 2) (q : Fin 2)
  /-- MASTER_LOSS (R428): An announce timeout, loss of every port or 8 missed Syncs returns the domain to LISTENING. -/
  | masterLoss (d : Fin 2)
  /-- SWITCH (R429): A write of PTP_CTRL.SWITCH, or an automatic switch, selects the other domain and slews to it. -/
  | ptpSwitch (automatic : Bool)
  /-- SETBIAS_ARRIVE (R436): A SETBIAS event reaches the analogue die, and is late if it arrives less than 48 ticks
  before TIME. -/
  | setbiasArrive (event : Crossing)
  /-- BIAS_FRAME (R435): At the first frame at or after its TIME, a SETBIAS sets the output's target, and a first write
  opens the clamp. -/
  | biasFrame (n : Fin 128)
  /-- SLEW_STEP (R437): Every u frames the limiter moves the code towards the target by at most STEP. -/
  | slewStep (n : Fin 128)
  /-- BIAS_SPAN_WRITE (R439): A PF0 write to BIAS_SPAN starts a span change with a ramp down, or is discarded with
  SPANREF. -/
  | biasSpanWrite (n : Fin 128) (data : Word)
  /-- SPAN_SWITCH (R439): Ten frames after the clamp closes at code 0, the span switches. -/
  | spanSwitch (n : Fin 128)
  /-- SPAN_UP (R439): Twenty frames after the clamp closes, the clamp opens and the output ramps to CODE in the new span. -/
  | spanUp (n : Fin 128)
  /-- BIAS_SHORT (R441): A current limit acting for 1 µs sets SC, counts it, and with SCCLAMP clamps the output. -/
  | biasShort (n : Fin 128)
  /-- BIAS_RAIL_LOSS (R440): AVPP or AVNN outside its limits clamps every bias output at once and sets RAILLOSS. -/
  | biasRailLoss
  /-- FLINT_TRIP (R444): An enabled monitor that becomes OUTSIDE sets its latch, mutes and holds the masked partitions,
  pulls TRIP_OUT_N and writes a TRIP record. -/
  | flintTrip (m : Fin 48) (high : Bool)
  /-- FLINT_LATCH_WRITE (R445): A 1 written to FLINT_LATCH_LO or FLINT_LATCH_HI attempts to clear the monitor's latch. -/
  | flintLatchWrite (mask : BitVec 48) (inputs : List FlintIn)
  /-- FLINT_PERIOD_CLEAR (R445): With CLRMODE PERIOD, a latch clear is attempted whenever DTIME is a multiple of
  FLINT_PERIOD. -/
  | flintPeriodClear (m : Fin 48) (input : FlintIn)
  /-- FLINT_TEST_RUN (R447): A write of FLINT_TEST.RUN starts a four-step self-test of a monitor in TEST mode. -/
  | flintTestRun (data : Word)
  /-- FLINT_TEST_STEP (R447): Each 640-tick step of the self-test ties the comparator input and records a pass or failure. -/
  | flintTestStep (seen : FlintIn) (swappedOk : Bool)
  /-- HK_SCAN_START (R451): A housekeeping scan starts back to back, or at each HK_PERIOD boundary in gapped mode, or is
  skipped if the previous one is unfinished. -/
  | hkScanStart
  /-- HK_CONVERSION_DONE (R450): A conversion's averaged result is written 9 clocks after its last sample. -/
  | hkConversionDone (injected : Bool) (samples : List Int) (railed : Bool)
  /-- HK_TEMP_INSERT (R452): Every 1 ms one conversion of each temperature sensor is inserted and written to HK_TEMP. -/
  | hkTempInsert (temps : List Int)
  /-- OUTPUT_TRIM_UPDATE (R468): An output channel takes its interpolated trims at its first tick with no lane occupied. -/
  | outputTrimUpdate (n : Fin 64)
  /-- HK_INJ (R453): A write of HK_INJ.GO requests one injected conversion, which is dropped if it meets an averaged
  conversion. -/
  | hkInj (data : Word)
  /-- RUN (R462): CAL_CMD RUN enters CALIBRATE and runs the named items in chain order. -/
  | calRun (data : Word)
  /-- CAL_RUN_COMPLETE (R464): When every item is accepted, the new values come into force, CALIBRATE ends and the store
  commit starts. -/
  | calRunComplete (newStore : List Byte)
  /-- CAL_COMMIT (R464): The store's flash write completes, PERSISTED sets and STATE becomes DONE, or FAILED with COMMIT. -/
  | calCommit (good : Bool)
  /-- SAVE_TRACK (R467): CAL_CMD SAVE_TRACK copies each enabled loop's target into its reference and commits the store. -/
  | calSaveTrack (data : Word)
  /-- ABORT (R463): CAL_CMD ABORT ends a calibration run at the end of the current point. -/
  | calAbort (cause : Byte) (item : Fin 6) (index : Byte) (measA measB : Word)
  /-- TIME_NOW_LO_READ (R57): A read of TIME_NOW_LO latches TIME_NOW_HI. -/
  | timeNowLoRead (r : RegRead)
  /-- QTZ_TL_LO_READ (R159): A read of QTZ_TL_LO latches QTZ_TL_HI. -/
  | qtzTlLoRead (r : RegRead) (c : Fin 16)
  /-- STRATA_JHEAD_LO_READ (R296): A read of STRATA_JHEAD_LO latches STRATA_JHEAD_HI. -/
  | strataJheadLoRead (r : RegRead) (p : Fin 8)
  /-- PTP_NOW_DT_LO_READ (R431): A read of PTP_NOW_DT_LO latches the rest of the DTIME and FT pair. -/
  | ptpNowDtLoRead (r : RegRead)
  /-- PTP_ANC_SEC_LO_READ (R430): A read of PTP_ANC_SEC_LO latches the rest of the domain's anchor. -/
  | ptpAncSecLoRead (r : RegRead) (d : Fin 2)
  /-- JOURNAL_WINDOW_READ (R300): A PF0 read of the journal window returns entries while the selected partition is in
  HOLD, and 0 otherwise. -/
  | journalWindowRead (r : WindowRead)
  /-- OCH_CNTCLR (R110): A write of 1 to OCH_CNTCLR clears the channel's counters and peak. -/
  | ochCntclr (n : Fin 64)
  /-- ICH_CNTCLR (R211): A write of 1 to ICH_CNTCLR clears the input channel's counters and peak. -/
  | ichCntclr (m : Fin 16)
  /-- QTZ_CNTCLR (R158): A write of 1 to QTZ_CNTCLR clears the core's slack, late, miss and stall counters. -/
  | qtzCntclr (c : Fin 16)
  /-- MICA_CNTCLR (R244): A write of 1 to MICA_CNTCLR clears the core's counters and FIFOMAX. -/
  | micaCntclr (k : Fin 64)
  /-- GEODE_CNTCLR (R172): A write of 1 to GEODE_CNTCLR clears the partition's underrun, set-full and fill counters. -/
  | geodeCntclr (p : Fin 8)
  /-- SCHED_CNTCLR (R181): A write of 1 to SCHED_CNTCLR clears the partition's peak, LXCNT and DLATE counters. -/
  | schedCntclr (p : Fin 8)
  /-- STRATA_CNTCLR (R293): A write of 1 to STRATA_CNTCLR clears the partition's JMAX, cause, replay and fail counters. -/
  | strataCntclr (p : Fin 8)
  /-- DEC_CNTCLR (R254): A write of 1 to DEC_CNTCLR clears the forwarding counters. -/
  | decCntclr
  /-- GARNET_CNTCLR (R280): A write of 1 to GARNET_CNTCLR clears the graph's counters and latencies. -/
  | garnetCntclr (p : Fin 8)
  /-- CAP_RCNTCLR (R331): A write of 1 to CAP_RCNTCLR clears the ring's written, dropped and gap counters. -/
  | capRcntclr (r : Fin 32)
  /-- CAP_PTRIG_CLEAR (R324): A write of CAP_PTRIG.CLEAR clears CAP_TRIGCNT and CAP_TRIGIGN of the partition. -/
  | capPtrigClear (p : Fin 8)
  /-- MEM_CNTCLR (R360): A write of 1 to MEM_CNTCLR clears every counter of the channel. -/
  | memCntclr (c : Fin 8)
  /-- MESH_CNTCLR (R389): A write of 1 to MESH_CNTCLR clears the port's counters and MESH_TESTERR. -/
  | meshCntclr (q : Fin 4)
  /-- BIAS_CNTCLR (R454): A write of 1 to BIAS_CNTCLR clears BIAS_LATECNT and BIAS_SCCNT. -/
  | biasCntclr (n : Fin 128)
  /-- HK_CNTCLR (R456): A write of 1 to HK_CNTCLR clears the housekeeping drop, settle and skip counters. -/
  | hkCntclr
  /-- REGISTER_WRITE (R11): A write to a register with no row of its own sets its fields according to their access types
  and R12. -/
  | registerWrite (f : Fin 9) (off : BitVec 26) (size : Nat) (data : Word)
  /-- RESET_N_RELEASE (R482): RESET_N going high, or the rails returning for 10 ms after a supervised undervoltage, ends
  the cold reset and starts the boot timing at stage PLL. -/
  | resetNRelease
  /-- LANE_SIGNAL_DETECT (R367): A lane of a port in DETECT that shows signal starts its training, and the port leaves
  DETECT for TRAINING. -/
  | laneSignalDetect (q : Fin 4) (l : Fin 8)
  /-- LANE_REALIGN (R365): A lane that has lost alignment finds K28.5 again and resumes delivering packets. -/
  | laneRealign (q : Fin 4) (l : Fin 8)
  /-- PARENT_SYNC_SEND (R375): Every 65,536 ticks a parent sends SYNC, and with EPOCH_VALID also EPOCH, on the time lane
  of each child port. -/
  | parentSyncSend (q : Fin 4)
  /-- RXSLEEP_REQUEST (R386): A sleep request, or its withdrawal, received from the partner puts the local transmit side
  of the lane to sleep as if TXSLEEP were set, or wakes it. -/
  | rxsleepRequest (q : Fin 4) (l : Fin 8) (on : Bool)
  /-- LANE_WAKE (R386): A lane direction that no side still requests to sleep returns to service within 12,800 ticks. -/
  | laneWake (q : Fin 4) (l : Fin 8) (tx : Bool)
  /-- PCIE_LINK_DOWN (R391): Loss of the PCI Express link stops every request of the device, while the partitions run on
  and their records wait. -/
  | pcieLinkDown
  /-- PCIE_LINK_UP (R391): Return of the PCI Express link lets the device resume issuing the requests and record writes
  that were waiting. -/
  | pcieLinkUp (speed : Fin 8) (width : Fin 32)
  /-- POWER_STATE_CHANGE (R390): A configuration write that moves a function between D0 and D3hot stops, or resumes, the
  device's requests for that function. -/
  | powerStateChange (f : Fin 9) (d3 : Bool)
  /-- MODULE_PRESENCE (R422): A change of Tq_MODABS_N drives Tq_TXDIS high while the module is absent and releases it
  when a module is present. -/
  | modulePresence (q : Fin 2) (present los : Bool)
  /-- EXTEST (R522): Entry of the TAP into EXTEST makes the device behave as in a cold reset held by RESET_N, and
  leaving it releases that reset. -/
  | extest (enter : Bool)
  /-- CLAMP_CLOSE (R439): At the frame after a ramping bias output reaches code 0 for a span change, or for a ramp to 0
  and clamp, the clamp switch closes. -/
  | clampClose (n : Fin 128)
  /-- REF_CLEAR_UNMUTE (R51): At the first tick boundary at least 1,024 ticks after REF_LOST clears, each STREAM channel
  with a playing tone unmutes under R105. -/
  | refClearUnmute
  deriving DecidableEq, Repr

end Sys2Proof
end

