-- ==== Sys2Proof/Decode.lean ====
section
/-!
DEFINITION. The command that a word of the table's bits spells: no row of spec/opcode_table.json gives bits, so no word
spells a command, and the queue of the state takes the commands themselves. The words of the block's own programs do name
commands: their opcodes, by the encoding tables of 04 R122 and 07 R228 to R238.
-/
namespace Sys2Proof

/-- The table gives none of its rows bits: no word names a command. -/
def decodeTableWord (_nbits _w : Nat) : Option Instr := none

/-- The Quartz instruction of an opcode, bits [63:56]; none for a reserved one (04 R122). -/
def quartzOp : Nat → Option (Fin 16 → BitVec 56 → Instr)
  | 0x00 => some .nop | 0x01 => some .halt | 0x02 => some .wait | 0x03 => some .waituntil
  | 0x08 => some .play | 0x09 => some fun c w => if w.getLsbD 3 then .playcwStop c w else .playcw c w
  | 0x0C => some .setf | 0x0D => some .setph | 0x0E => some .shiftph | 0x10 => some .meas
  | 0x18 => some .br | 0x19 => some .brv | 0x1A => some .brd | 0x1C => some .loop | 0x1D => some .endl
  | 0x1E => some .call | 0x1F => some .ret | 0x20 => some .shot | 0x21 => some .endshot | 0x24 => some .sync
  | 0x28 => some .setbias | 0x2C => some .emitv
  | 0x40 => some .add | 0x41 => some .sub | 0x42 => some .and_ | 0x43 => some .or_ | 0x44 => some .xor_
  | 0x45 => some .shl | 0x46 => some .shr | 0x47 => some .sra | 0x48 => some .mul | 0x49 => some .min_
  | 0x4A => some .max_ | 0x4B => some .mov | 0x4C => some .addp | 0x4D => some .subp
  | 0x50 => some .addi | 0x51 => some .subi | 0x52 => some .andi | 0x53 => some .ori | 0x54 => some .xori
  | 0x55 => some .shli | 0x56 => some .shri | 0x57 => some .srai | 0x58 => some .muli | 0x59 => some .mini
  | 0x5A => some .maxi | 0x5B => some .ldi | 0x60 => some .movs | 0x61 => some .rnd
  | _ => none

/-- The command of core `c` that an instruction word of a program names (04 R122). -/
def decodeQuartz (c : Fin 16) (w : BitVec 64) : Option Instr :=
  (quartzOp (w.toNat / 2 ^ 56)).map fun f => f c (BitVec.ofNat 56 w.toNat)

/-- The Mica instruction of an opcode, bits [31:26]; none for a reserved one (07 R228). -/
def micaOp : Nat → Option (Fin 64 → Fin 8 → BitVec 26 → Instr)
  | 0x00 => some .micaNop | 0x01 => some .micaEnd | 0x02 => some .micaRep | 0x03 => some .micaBr
  | 0x04 => some .micaBrc | 0x05 => some .micaDjnz
  | 0x08 => some .micaMacw | 0x09 => some .micaMacx | 0x0A => some .micaAccs | 0x0B => some .micaMacm
  | 0x0C => some .micaMacr | 0x0D => some .micaClra | 0x0E => some .micaAdda
  | 0x10 => some .micaIn | 0x11 => some .micaLd | 0x12 => some .micaSt | 0x13 => some .micaLdi | 0x14 => some .micaSeta
  | 0x18 => some .micaAdd | 0x19 => some .micaSub | 0x1A => some .micaAnd | 0x1B => some .micaOr
  | 0x1C => some .micaXor | 0x1D => some .micaShl | 0x1E => some .micaShr | 0x1F => some .micaSra
  | 0x20 => some .micaCmul | 0x21 => some .micaAbs2 | 0x22 => some .micaMov | 0x23 => some .micaCmp
  | 0x28 => some .micaLatch | 0x29 => some .micaDisc | 0x2A => some .micaSetst | 0x2B => some .micaEmit
  | 0x2C => some .micaOuts | 0x2D => some .micaEmitr | 0x2E => some .micaRda | 0x2F => some .micaRds
  | _ => none

/-- The command of context `x` of Mica core `k` that an instruction word of its program names (07 R228). -/
def decodeMica (k : Fin 64) (x : Fin 8) (w : BitVec 32) : Option Instr :=
  (micaOp (w.toNat / 2 ^ 26)).map fun f => f k x (BitVec.ofNat 26 w.toNat)

end Sys2Proof
end

