-- ==== Sys2Proof/Config.lean ====
section
/-!
DEFINITION. The free values: what the spec leaves open, as constants without a body. Each is applied to the
counter `Fab.freeN`, which every use advances, so no two uses are tied to one another.
-/
namespace Sys2Proof.Config

/-- The interpolator's weight, in units of 2^-16, at so many output samples from an envelope sample, by ratio: 03 R82
gives the filter by its pass band, stop band and reach only (log 9). -/
opaque interp (ratio distance : Nat) : Int

/-- The decimator's weight, in units of 2^-24, of the input samples at so many samples from either end of its span, by
DEC: 06 R192 gives the filter by its response and its length only (log 9). -/
opaque decimator (dec sample : Nat) : Int

/-- By how much the oscillator's cosine (even index) or sine (odd index) differs from the exact value, in units of 2^-30,
before the bound of 03 R81 on its spurs: the spec gives the bound only (log 115). -/
opaque ncoError : Nat → Int

/-- Scheduler entries that a shot will need, by partition, job and shot number: 01 R43 compares them with what a loan
leaves, and no rule tells how the device knows them (log 116). -/
opaque shotEntries (part job shot : Nat) : Nat

/-- Pinned pages that a shot will need, likewise (log 116). -/
opaque shotPins (part job shot : Nat) : Nat

/-- Whether the n-th activate is sampled: 11 R353 gives the probability and no generator (log 10). -/
opaque activateSampled : Nat → Bool

/-- Whether the quotient n / d, which is no whole number, is rounded upwards at place `site`, where the spec gives no
direction or none for ties: 1 the code of 03 R81, 2 the housekeeping VALUE of 15, 3 the trims of 06 R189, 4 the Q24.8
values of 14, 5 the half of 12 R376, 6 the half of 14 R424 in units of 2^-16 / 5 ns, 7 the lane output of 03 R75, 8 the
decimated sample and 9 the gain stage of 06 R191 (log 14). -/
opaque roundsUp (site : Nat) : Int → Nat → Bool

/-- What the n-th such register reads as, where EMITR names one beyond X15 (07 R238); the spec gives no such register
(log 40). -/
opaque beyondX : Nat → BitVec 32

/-- The angle of the zero vector in 08 R262 and R265, in units of 2π / 2^56: the spec states none (log 13). -/
opaque zeroAngle : Int

/-- DETAIL of a boot error for which 17 R483 gives none: REF, FLASH, HEADER and VARIANT, and SECTION where a section is
missing; by error code (log 93). -/
opaque bootDetail : Nat → Nat

/-- How many 4-tick units beyond the least lead of 1,024 ticks the n-th EPOCH packet names: 12 R375 gives V a lower
bound and a grid only (log 25). -/
opaque epochLead : Nat → Nat

/-- How far, in units of 1/256 ps, the tile boundary of the n-th follower's load lies from the link's delay after the
parent's boundary V: 02 R58 has the fine skew take it, and no rule gives it (log 130). -/
opaque boundaryOffset : Nat → Int

/-- The frequency term of the facility-time servo at its n-th update, in units of 2^-32 ns per tick: 14 R419 and R421
bound it and give no servo (log 26). -/
opaque servoFreq : Nat → Int

/-- The phase term of the facility-time servo at its n-th update, bounded likewise (log 26). -/
opaque servoPhase : Nat → Int

/-- How many 32-byte units of capture records beyond their share DRAM takes in the n-th period, as far as it has bandwidth
left: 11 R356 gives that traffic no bound (log 154). -/
opaque captureServed : Nat → Nat

/-- Whether the current limit of a bias output acts at a tick: the load decides it (15 R441; log 152). -/
opaque limitActs (output tick : Nat) : Bool

/-- The subtype of a LINK packet of a kind: 1 IDENT, 2 SLEEP, 3 a request for sleep, 4 its withdrawal, 5 ACK: 12 R367, R373
and R386 name the packets and give no codes (log 146). -/
opaque linkSubtype (kind : Nat) : Fin 64

/-- The payload of the n-th LINK packet of a kind on a lane, likewise (log 146). -/
opaque linkPayload (kind n : Nat) : List Byte

/-- The n-th byte of a test pattern (0 PRBS7, 1 PRBS13, 2 PRBS31): 12 R388 gives no polynomial, seed or bit order
(log 147). -/
opaque patternByte (pattern n : Nat) : Byte

/-- Bit errors that a checker finds in its n-th tick in a pattern that the partner sends (log 147). -/
opaque patternErrors : Nat → Nat

end Sys2Proof.Config
end

