-- ==== Sys2Proof/Machine/Regs.lean ====
section
/-!
DEFINITION. The register map (18 R495, R509; 13 R414): the address of every register by name, and one row for
each register kind with its instances, reset value and fields. A field's access is that of 00 R11; its legal
values, where the register table reserves some, are triples (least, greatest, step). Reset values follow 18 R504: a
literal, or the value "if unset" of an image-given field (0 where the table names none, log 3); rows whose reset
depends on the variant hold the PFQ6416's (the others are written at stage IMAGE).
-/
namespace Sys2Proof.Machine

/-- Access types (00 R11). -/
inductive Acc where
  | ro
  | rw
  | rw1c
  | wo
  | rwl
  deriving DecidableEq, Repr

/-- One field of a register. -/
structure Fld where
  hi    : Nat
  lo    : Nat
  acc   : Acc
  legal : List (Nat × Nat × Nat) := []
  deriving DecidableEq, Repr

/-- One register kind: base address, instances (count, stride) outermost first, reset value, fields. -/
structure RegRow where
  base  : Nat
  dims  : List (Nat × Nat)
  reset : Nat
  flds  : List Fld
  deriving DecidableEq, Repr

/-! Addresses of the Frame registers. -/
/-- Address of FRAME_FW_LO (02). -/
def FRAME_FW_LO (i : Nat) : Nat := 0x400000 + 0x10 * i
/-- Address of FRAME_FW_HI (02). -/
def FRAME_FW_HI (i : Nat) : Nat := 0x400004 + 0x10 * i
/-- Address of FRAME_PH_LO (02). -/
def FRAME_PH_LO (i : Nat) : Nat := 0x400008 + 0x10 * i
/-- Address of FRAME_PH_HI (02). -/
def FRAME_PH_HI (i : Nat) : Nat := 0x40000C + 0x10 * i

/-! Addresses of the Time registers. -/
/-- Address of TIME_CTRL (02). -/
def TIME_CTRL : Nat := 0x10000
/-- Address of TIME_STAT (02). -/
def TIME_STAT : Nat := 0x10004
/-- Address of TIME_EPOCH_LO (02). -/
def TIME_EPOCH_LO : Nat := 0x10010
/-- Address of TIME_EPOCH_HI (02). -/
def TIME_EPOCH_HI : Nat := 0x10014
/-- Address of TIME_SYNCGEN_LO (02). -/
def TIME_SYNCGEN_LO : Nat := 0x10018
/-- Address of TIME_NOW_LO (02). -/
def TIME_NOW_LO : Nat := 0x10020
/-- Address of TIME_NOW_HI (02). -/
def TIME_NOW_HI : Nat := 0x10024
/-- Address of TIME_SKEW (02). -/
def TIME_SKEW : Nat := 0x10030
/-- Address of TIME_LOOKAHEAD (02). -/
def TIME_LOOKAHEAD (i : Nat) : Nat := 0x10040 + 0x4 * i

/-! Addresses of the Och registers. -/
/-- Address of OCH_CTRL (03). -/
def OCH_CTRL (i : Nat) : Nat := 0x80000 + 0x100 * i
/-- Address of OCH_GAIN (03). -/
def OCH_GAIN (i : Nat) : Nat := 0x80004 + 0x100 * i
/-- Address of OCH_DELAY (03). -/
def OCH_DELAY (i : Nat) : Nat := 0x80008 + 0x100 * i
/-- Address of OCH_LIMIT (03). -/
def OCH_LIMIT (i : Nat) : Nat := 0x8000C + 0x100 * i
/-- Address of OCH_DCOFS (03). -/
def OCH_DCOFS (i : Nat) : Nat := 0x80010 + 0x100 * i
/-- Address of OCH_FSTRIM (03). -/
def OCH_FSTRIM (i : Nat) : Nat := 0x80014 + 0x100 * i
/-- Address of OCH_STAT (03). -/
def OCH_STAT (i : Nat) : Nat := 0x80020 + 0x100 * i
/-- Address of OCH_SATCNT (03). -/
def OCH_SATCNT (i : Nat) : Nat := 0x80024 + 0x100 * i
/-- Address of OCH_JCNT (03). -/
def OCH_JCNT (i : Nat) : Nat := 0x80028 + 0x100 * i
/-- Address of OCH_JLATE (03). -/
def OCH_JLATE (i : Nat) : Nat := 0x8002C + 0x100 * i
/-- Address of OCH_CNTCLR (03). -/
def OCH_CNTCLR (i : Nat) : Nat := 0x80030 + 0x100 * i
/-- Address of OCH_PEAK (03). -/
def OCH_PEAK (i : Nat) : Nat := 0x80034 + 0x100 * i

/-! Addresses of the Qtz registers. -/
/-- Address of QTZ_CTRL (04). -/
def QTZ_CTRL (i : Nat) : Nat := 0x100000 + 0x1000 * i
/-- Address of QTZ_CFG (04). -/
def QTZ_CFG (i : Nat) : Nat := 0x100004 + 0x1000 * i
/-- Address of QTZ_SYNCTMO (04). -/
def QTZ_SYNCTMO (i : Nat) : Nat := 0x100008 + 0x1000 * i
/-- Address of QTZ_STAT (04). -/
def QTZ_STAT (i : Nat) : Nat := 0x10000C + 0x1000 * i
/-- Address of QTZ_FAULT (04). -/
def QTZ_FAULT (i : Nat) : Nat := 0x100010 + 0x1000 * i
/-- Address of QTZ_FAULTPC (04). -/
def QTZ_FAULTPC (i : Nat) : Nat := 0x100014 + 0x1000 * i
/-- Address of QTZ_PC (04). -/
def QTZ_PC (i : Nat) : Nat := 0x100018 + 0x1000 * i
/-- Address of QTZ_SHOTNO (04). -/
def QTZ_SHOTNO (i : Nat) : Nat := 0x10001C + 0x1000 * i
/-- Address of QTZ_ATTEMPT (04). -/
def QTZ_ATTEMPT (i : Nat) : Nat := 0x100020 + 0x1000 * i
/-- Address of QTZ_SLACKMIN (04). -/
def QTZ_SLACKMIN (i : Nat) : Nat := 0x100024 + 0x1000 * i
/-- Address of QTZ_LATECNT (04). -/
def QTZ_LATECNT (i : Nat) : Nat := 0x100028 + 0x1000 * i
/-- Address of QTZ_ICMISS (04). -/
def QTZ_ICMISS (i : Nat) : Nat := 0x10002C + 0x1000 * i
/-- Address of QTZ_STALL_LA (04). -/
def QTZ_STALL_LA (i : Nat) : Nat := 0x100030 + 0x1000 * i
/-- Address of QTZ_STALL_BRD (04). -/
def QTZ_STALL_BRD (i : Nat) : Nat := 0x100034 + 0x1000 * i
/-- Address of QTZ_STALL_SYNC (04). -/
def QTZ_STALL_SYNC (i : Nat) : Nat := 0x100038 + 0x1000 * i
/-- Address of QTZ_CNTCLR (04). -/
def QTZ_CNTCLR (i : Nat) : Nat := 0x10003C + 0x1000 * i
/-- Address of QTZ_TL_LO (04). -/
def QTZ_TL_LO (i : Nat) : Nat := 0x100040 + 0x1000 * i
/-- Address of QTZ_TL_HI (04). -/
def QTZ_TL_HI (i : Nat) : Nat := 0x100044 + 0x1000 * i

/-! Addresses of the Geode registers. -/
/-- Address of GEODE_STAT (05). -/
def GEODE_STAT : Nat := 0x200000
/-- Address of GEODE_LIBPAGES (05). -/
def GEODE_LIBPAGES : Nat := 0x200004
/-- Address of GEODE_CACHE (05). -/
def GEODE_CACHE : Nat := 0x200008
/-- Address of GEODE_OBJSEL (05). -/
def GEODE_OBJSEL : Nat := 0x200010
/-- Address of GEODE_OBJINFO0 (05). -/
def GEODE_OBJINFO0 : Nat := 0x200014
/-- Address of GEODE_OBJINFO1 (05). -/
def GEODE_OBJINFO1 : Nat := 0x200018
/-- Address of GEODE_OBJINFO2 (05). -/
def GEODE_OBJINFO2 : Nat := 0x20001C
/-- Address of GEODE_OBJRANGE (05). -/
def GEODE_OBJRANGE (i : Nat) : Nat := 0x200100 + 0x40 * i
/-- Address of GEODE_LIBQ (05). -/
def GEODE_LIBQ (i : Nat) : Nat := 0x200104 + 0x40 * i
/-- Address of GEODE_PINQ (05). -/
def GEODE_PINQ (i : Nat) : Nat := 0x200108 + 0x40 * i
/-- Address of GEODE_FILLQ (05). -/
def GEODE_FILLQ (i : Nat) : Nat := 0x20010C + 0x40 * i
/-- Address of GEODE_LIBUSED (05). -/
def GEODE_LIBUSED (i : Nat) : Nat := 0x200110 + 0x40 * i
/-- Address of GEODE_PINUSED (05). -/
def GEODE_PINUSED (i : Nat) : Nat := 0x200114 + 0x40 * i
/-- Address of GEODE_UNDERRUN (05). -/
def GEODE_UNDERRUN (i : Nat) : Nat := 0x200118 + 0x40 * i
/-- Address of GEODE_SETFULL (05). -/
def GEODE_SETFULL (i : Nat) : Nat := 0x20011C + 0x40 * i
/-- Address of GEODE_FILLS (05). -/
def GEODE_FILLS (i : Nat) : Nat := 0x200120 + 0x40 * i
/-- Address of GEODE_CNTCLR (05). -/
def GEODE_CNTCLR (i : Nat) : Nat := 0x200124 + 0x40 * i

/-! Addresses of the Sched registers. -/
/-- Address of SCHED_STAT (05). -/
def SCHED_STAT : Nat := 0x210000
/-- Address of SCHED_QUOTA (05). -/
def SCHED_QUOTA (i : Nat) : Nat := 0x210100 + 0x20 * i
/-- Address of SCHED_USED (05). -/
def SCHED_USED (i : Nat) : Nat := 0x210104 + 0x20 * i
/-- Address of SCHED_PEAK (05). -/
def SCHED_PEAK (i : Nat) : Nat := 0x210108 + 0x20 * i
/-- Address of SCHED_BORROW (05). -/
def SCHED_BORROW (i : Nat) : Nat := 0x21010C + 0x20 * i
/-- Address of SCHED_LXCNT (05). -/
def SCHED_LXCNT (i : Nat) : Nat := 0x210110 + 0x20 * i
/-- Address of SCHED_DLATE (05). -/
def SCHED_DLATE (i : Nat) : Nat := 0x210114 + 0x20 * i
/-- Address of SCHED_CNTCLR (05). -/
def SCHED_CNTCLR (i : Nat) : Nat := 0x210118 + 0x20 * i

/-! Addresses of the Ich registers. -/
/-- Address of ICH_CTRL (06). -/
def ICH_CTRL (i : Nat) : Nat := 0xC0000 + 0x200 * i
/-- Address of ICH_GAIN (06). -/
def ICH_GAIN (i : Nat) : Nat := 0xC0004 + 0x200 * i
/-- Address of ICH_DELAY (06). -/
def ICH_DELAY (i : Nat) : Nat := 0xC0008 + 0x200 * i
/-- Address of ICH_DCOFS (06). -/
def ICH_DCOFS (i : Nat) : Nat := 0xC000C + 0x200 * i
/-- Address of ICH_GTRIM (06). -/
def ICH_GTRIM (i : Nat) : Nat := 0xC0010 + 0x200 * i
/-- Address of ICH_STAT (06). -/
def ICH_STAT (i : Nat) : Nat := 0xC0020 + 0x200 * i
/-- Address of ICH_OVRCNT (06). -/
def ICH_OVRCNT (i : Nat) : Nat := 0xC0024 + 0x200 * i
/-- Address of ICH_SATCNT (06). -/
def ICH_SATCNT (i : Nat) : Nat := 0xC0028 + 0x200 * i
/-- Address of ICH_WINCNT (06). -/
def ICH_WINCNT (i : Nat) : Nat := 0xC002C + 0x200 * i
/-- Address of ICH_SETTLECNT (06). -/
def ICH_SETTLECNT (i : Nat) : Nat := 0xC0030 + 0x200 * i
/-- Address of ICH_REFUSE (06). -/
def ICH_REFUSE (i : Nat) : Nat := 0xC0034 + 0x200 * i
/-- Address of ICH_PEAK (06). -/
def ICH_PEAK (i : Nat) : Nat := 0xC0038 + 0x200 * i
/-- Address of ICH_CNTCLR (06). -/
def ICH_CNTCLR (i : Nat) : Nat := 0xC003C + 0x200 * i

/-! Addresses of the Mica registers. -/
/-- Address of MICA_CTRL (07). -/
def MICA_CTRL (i : Nat) : Nat := 0xE0000 + 0x80 * i
/-- Address of MICA_CFG (07). -/
def MICA_CFG (i : Nat) : Nat := 0xE0004 + 0x80 * i
/-- Address of MICA_STAT (07). -/
def MICA_STAT (i : Nat) : Nat := 0xE0008 + 0x80 * i
/-- Address of MICA_FAULT (07). -/
def MICA_FAULT (i : Nat) : Nat := 0xE000C + 0x80 * i
/-- Address of MICA_EMITCNT (07). -/
def MICA_EMITCNT (i : Nat) : Nat := 0xE0010 + 0x80 * i
/-- Address of MICA_OVFCNT (07). -/
def MICA_OVFCNT (i : Nat) : Nat := 0xE0014 + 0x80 * i
/-- Address of MICA_ERRCNT (07). -/
def MICA_ERRCNT (i : Nat) : Nat := 0xE001C + 0x80 * i
/-- Address of MICA_FIFODROP (07). -/
def MICA_FIFODROP (i : Nat) : Nat := 0xE0018 + 0x80 * i
/-- Address of MICA_CBRSTCNT (07). -/
def MICA_CBRSTCNT (i : Nat) : Nat := 0xE0020 + 0x80 * i
/-- Address of MICA_FIFOMAX (07). -/
def MICA_FIFOMAX (i : Nat) : Nat := 0xE0024 + 0x80 * i
/-- Address of MICA_DMWREF (07). -/
def MICA_DMWREF (i : Nat) : Nat := 0xE0028 + 0x80 * i
/-- Address of MICA_CNTCLR (07). -/
def MICA_CNTCLR (i : Nat) : Nat := 0xE002C + 0x80 * i
/-- Address of MICA_DROT (07). -/
def MICA_DROT (i : Nat) (j : Nat) : Nat := 0xE0040 + 0x80 * i + 0x10 * j
/-- Address of MICA_DT01 (07). -/
def MICA_DT01 (i : Nat) (j : Nat) : Nat := 0xE0044 + 0x80 * i + 0x10 * j
/-- Address of MICA_DT12 (07). -/
def MICA_DT12 (i : Nat) (j : Nat) : Nat := 0xE0048 + 0x80 * i + 0x10 * j
/-- Address of MICA_DCFG (07). -/
def MICA_DCFG (i : Nat) (j : Nat) : Nat := 0xE004C + 0x80 * i + 0x10 * j

/-! Addresses of the Dec registers. -/
/-- Address of DEC_STAT (08). -/
def DEC_STAT : Nat := 0x240000
/-- Address of DEC_FWDTMO (08). -/
def DEC_FWDTMO : Nat := 0x240004
/-- Address of DEC_FWDTX (08). -/
def DEC_FWDTX : Nat := 0x240008
/-- Address of DEC_FWDRX (08). -/
def DEC_FWDRX : Nat := 0x24000C
/-- Address of DEC_FWDLOST (08). -/
def DEC_FWDLOST : Nat := 0x240010
/-- Address of DEC_CNTCLR (08). -/
def DEC_CNTCLR : Nat := 0x240014
/-- Address of DEC_SLOTCFG (08). -/
def DEC_SLOTCFG (i : Nat) : Nat := 0x241000 + 0x10 * i
/-- Address of DEC_SLOTSTAT (08). -/
def DEC_SLOTSTAT (i : Nat) : Nat := 0x241004 + 0x10 * i
/-- Address of DEC_SLOTI (08). -/
def DEC_SLOTI (i : Nat) : Nat := 0x241008 + 0x10 * i
/-- Address of DEC_SLOTQ (08). -/
def DEC_SLOTQ (i : Nat) : Nat := 0x24100C + 0x10 * i
/-- Address of DEC_TRKCFG (08). -/
def DEC_TRKCFG (i : Nat) : Nat := 0x244000 + 0x40 * i
/-- Address of DEC_TRKN (08). -/
def DEC_TRKN (i : Nat) : Nat := 0x244004 + 0x40 * i
/-- Address of DEC_TRKSTEP (08). -/
def DEC_TRKSTEP (i : Nat) : Nat := 0x244008 + 0x40 * i
/-- Address of DEC_TRKRANGE (08). -/
def DEC_TRKRANGE (i : Nat) : Nat := 0x24400C + 0x40 * i
/-- Address of DEC_TRKPROBE (08). -/
def DEC_TRKPROBE (i : Nat) : Nat := 0x244010 + 0x40 * i
/-- Address of DEC_TRKPROBE2 (08). -/
def DEC_TRKPROBE2 (i : Nat) : Nat := 0x244014 + 0x40 * i
/-- Address of DEC_TRKTAU (08). -/
def DEC_TRKTAU (i : Nat) : Nat := 0x244018 + 0x40 * i
/-- Address of DEC_TRKRESET (08). -/
def DEC_TRKRESET (i : Nat) : Nat := 0x24401C + 0x40 * i
/-- Address of DEC_TRKCTL (08). -/
def DEC_TRKCTL (i : Nat) : Nat := 0x244020 + 0x40 * i
/-- Address of DEC_TRKSTAT (08). -/
def DEC_TRKSTAT (i : Nat) : Nat := 0x244024 + 0x40 * i
/-- Address of DEC_TRKADJ (08). -/
def DEC_TRKADJ (i : Nat) : Nat := 0x244028 + 0x40 * i
/-- Address of DEC_TRKREF_LO (08). -/
def DEC_TRKREF_LO (i : Nat) : Nat := 0x24402C + 0x40 * i
/-- Address of DEC_TRKREF_HI (08). -/
def DEC_TRKREF_HI (i : Nat) : Nat := 0x244030 + 0x40 * i

/-! Addresses of the Garnet registers. -/
/-- Address of GARNET_STAT (08). -/
def GARNET_STAT : Nat := 0x230000
/-- Address of GARNET_CAP (08). -/
def GARNET_CAP : Nat := 0x230004
/-- Address of GARNET_GCFG (08). -/
def GARNET_GCFG (i : Nat) : Nat := 0x230100 + 0x40 * i
/-- Address of GARNET_GSIZE (08). -/
def GARNET_GSIZE (i : Nat) : Nat := 0x230104 + 0x40 * i
/-- Address of GARNET_GSTAT (08). -/
def GARNET_GSTAT (i : Nat) : Nat := 0x230108 + 0x40 * i
/-- Address of GARNET_ROUNDS (08). -/
def GARNET_ROUNDS (i : Nat) : Nat := 0x23010C + 0x40 * i
/-- Address of GARNET_LATE (08). -/
def GARNET_LATE (i : Nat) : Nat := 0x230110 + 0x40 * i
/-- Address of GARNET_ERR (08). -/
def GARNET_ERR (i : Nat) : Nat := 0x230114 + 0x40 * i
/-- Address of GARNET_LATMAX (08). -/
def GARNET_LATMAX (i : Nat) : Nat := 0x230118 + 0x40 * i
/-- Address of GARNET_LASTLAT (08). -/
def GARNET_LASTLAT (i : Nat) : Nat := 0x23011C + 0x40 * i
/-- Address of GARNET_CNTCLR (08). -/
def GARNET_CNTCLR (i : Nat) : Nat := 0x230120 + 0x40 * i

/-! Addresses of the Strata registers. -/
/-- Address of STRATA_STAT (09). -/
def STRATA_STAT : Nat := 0x220000
/-- Address of STRATA_PERM (09). -/
def STRATA_PERM : Nat := 0x220004
/-- Address of STRATA_CAP0 (09). -/
def STRATA_CAP0 : Nat := 0x220010
/-- Address of STRATA_CAP1 (09). -/
def STRATA_CAP1 : Nat := 0x220014
/-- Address of STRATA_CAP2 (09). -/
def STRATA_CAP2 : Nat := 0x220018
/-- Address of STRATA_JWSEL (09). -/
def STRATA_JWSEL : Nat := 0x220020
/-- Address of STRATA_CFG (09). -/
def STRATA_CFG (i : Nat) : Nat := 0x220100 + 0x80 * i
/-- Address of STRATA_JSIZE (09). -/
def STRATA_JSIZE (i : Nat) : Nat := 0x220104 + 0x80 * i
/-- Address of STRATA_JRATE (09). -/
def STRATA_JRATE (i : Nat) : Nat := 0x220108 + 0x80 * i
/-- Address of STRATA_JHEAD_LO (09). -/
def STRATA_JHEAD_LO (i : Nat) : Nat := 0x22010C + 0x80 * i
/-- Address of STRATA_JHEAD_HI (09). -/
def STRATA_JHEAD_HI (i : Nat) : Nat := 0x220110 + 0x80 * i
/-- Address of STRATA_JOPEN (09). -/
def STRATA_JOPEN (i : Nat) : Nat := 0x220114 + 0x80 * i
/-- Address of STRATA_JMAX (09). -/
def STRATA_JMAX (i : Nat) : Nat := 0x220118 + 0x80 * i
/-- Address of STRATA_CAUSECNT (09). -/
def STRATA_CAUSECNT (i : Nat) (j : Nat) : Nat := 0x220120 + 0x80 * i + 0x4 * j
/-- Address of STRATA_REPLAYS (09). -/
def STRATA_REPLAYS (i : Nat) : Nat := 0x220150 + 0x80 * i
/-- Address of STRATA_FAILS (09). -/
def STRATA_FAILS (i : Nat) : Nat := 0x220154 + 0x80 * i
/-- Address of STRATA_CNTCLR (09). -/
def STRATA_CNTCLR (i : Nat) : Nat := 0x220158 + 0x80 * i

/-! Addresses of the Cap registers. -/
/-- Address of CAP_STAT (10). -/
def CAP_STAT : Nat := 0x340000
/-- Address of CAP_REGION (10). -/
def CAP_REGION : Nat := 0x340004
/-- Address of CAP_PTRIG (10). -/
def CAP_PTRIG (i : Nat) : Nat := 0x340040 + 0x10 * i
/-- Address of CAP_TRIGCNT (10). -/
def CAP_TRIGCNT (i : Nat) : Nat := 0x340044 + 0x10 * i
/-- Address of CAP_TRIGIGN (10). -/
def CAP_TRIGIGN (i : Nat) : Nat := 0x340048 + 0x10 * i
/-- Address of CAP_RCFG (10). -/
def CAP_RCFG (i : Nat) : Nat := 0x340100 + 0x40 * i
/-- Address of CAP_RSIZE (10). -/
def CAP_RSIZE (i : Nat) : Nat := 0x340104 + 0x40 * i
/-- Address of CAP_RFLUSH (10). -/
def CAP_RFLUSH (i : Nat) : Nat := 0x340108 + 0x40 * i
/-- Address of CAP_RFILL (10). -/
def CAP_RFILL (i : Nat) : Nat := 0x34010C + 0x40 * i
/-- Address of CAP_RSTAT (10). -/
def CAP_RSTAT (i : Nat) : Nat := 0x340110 + 0x40 * i
/-- Address of CAP_RWRITTEN (10). -/
def CAP_RWRITTEN (i : Nat) : Nat := 0x340114 + 0x40 * i
/-- Address of CAP_RDROPPED (10). -/
def CAP_RDROPPED (i : Nat) : Nat := 0x340118 + 0x40 * i
/-- Address of CAP_RGAPS (10). -/
def CAP_RGAPS (i : Nat) : Nat := 0x34011C + 0x40 * i
/-- Address of CAP_RCNTCLR (10). -/
def CAP_RCNTCLR (i : Nat) : Nat := 0x340120 + 0x40 * i
/-- Address of CAP_MRING (10). -/
def CAP_MRING (i : Nat) : Nat := 0x340C00 + 0x4 * i

/-! Addresses of the Mem registers. -/
/-- Address of MEM_CHSTAT (11). -/
def MEM_CHSTAT (i : Nat) : Nat := 0x300000 + 0x1000 * i
/-- Address of MEM_CECNT (11). -/
def MEM_CECNT (i : Nat) : Nat := 0x300004 + 0x1000 * i
/-- Address of MEM_UECNT (11). -/
def MEM_UECNT (i : Nat) : Nat := 0x300008 + 0x1000 * i
/-- Address of MEM_CRCRETRY (11). -/
def MEM_CRCRETRY (i : Nat) : Nat := 0x30000C + 0x1000 * i
/-- Address of MEM_CRCFAIL (11). -/
def MEM_CRCFAIL (i : Nat) : Nat := 0x300010 + 0x1000 * i
/-- Address of MEM_NRCNT (11). -/
def MEM_NRCNT (i : Nat) : Nat := 0x300014 + 0x1000 * i
/-- Address of MEM_NRDROP (11). -/
def MEM_NRDROP (i : Nat) : Nat := 0x300018 + 0x1000 * i
/-- Address of MEM_PHIT (11). -/
def MEM_PHIT (i : Nat) : Nat := 0x30001C + 0x1000 * i
/-- Address of MEM_PEMPTY (11). -/
def MEM_PEMPTY (i : Nat) : Nat := 0x300020 + 0x1000 * i
/-- Address of MEM_PCONF (11). -/
def MEM_PCONF (i : Nat) : Nat := 0x300024 + 0x1000 * i
/-- Address of MEM_CNTCLR (11). -/
def MEM_CNTCLR (i : Nat) : Nat := 0x300028 + 0x1000 * i
/-- Address of MEM_CFG (11). -/
def MEM_CFG : Nat := 0x308000
/-- Address of MEM_CTRL (11). -/
def MEM_CTRL : Nat := 0x308004
/-- Address of MEM_STAT (11). -/
def MEM_STAT : Nat := 0x308008
/-- Address of MEM_SCRUB (11). -/
def MEM_SCRUB : Nat := 0x30800C
/-- Address of MEM_BW (11). -/
def MEM_BW : Nat := 0x308010
/-- Address of MEM_RSIZE (11). -/
def MEM_RSIZE (i : Nat) : Nat := 0x308100 + 0x10 * i
/-- Address of MEM_RBASE (11). -/
def MEM_RBASE (i : Nat) : Nat := 0x308104 + 0x10 * i
/-- Address of MEM_RSPARE (11). -/
def MEM_RSPARE (i : Nat) : Nat := 0x308108 + 0x10 * i
/-- Address of MEM_RRETIRED (11). -/
def MEM_RRETIRED (i : Nat) : Nat := 0x30810C + 0x10 * i
/-- Address of MEM_CAPQ (11). -/
def MEM_CAPQ (i : Nat) : Nat := 0x308200 + 0x10 * i
/-- Address of MEM_PLENT (11). -/
def MEM_PLENT (i : Nat) : Nat := 0x308204 + 0x10 * i
/-- Address of MEM_PBORROWED (11). -/
def MEM_PBORROWED (i : Nat) : Nat := 0x308208 + 0x10 * i

/-! Addresses of the Mesh registers. -/
/-- Address of MESH_ID (12). -/
def MESH_ID : Nat := 0x380000
/-- Address of MESH_STAT (12). -/
def MESH_STAT : Nat := 0x380004
/-- Address of MESH_ROUTE (12). -/
def MESH_ROUTE (i : Nat) : Nat := 0x380100 + 0x4 * i
/-- Address of MESH_PSHARE (12). -/
def MESH_PSHARE (i : Nat) : Nat := 0x380200 + 0x4 * i
/-- Address of MESH_PCFG (12). -/
def MESH_PCFG (i : Nat) : Nat := 0x381000 + 0x100 * i
/-- Address of MESH_PSTAT (12). -/
def MESH_PSTAT (i : Nat) : Nat := 0x381004 + 0x100 * i
/-- Address of MESH_SLEEP (12). -/
def MESH_SLEEP (i : Nat) : Nat := 0x381008 + 0x100 * i
/-- Address of MESH_DELAY (12). -/
def MESH_DELAY (i : Nat) : Nat := 0x38100C + 0x100 * i
/-- Address of MESH_NAK (12). -/
def MESH_NAK (i : Nat) : Nat := 0x381010 + 0x100 * i
/-- Address of MESH_CRCERR (12). -/
def MESH_CRCERR (i : Nat) : Nat := 0x381014 + 0x100 * i
/-- Address of MESH_DLATE (12). -/
def MESH_DLATE (i : Nat) : Nat := 0x381018 + 0x100 * i
/-- Address of MESH_DROP (12). -/
def MESH_DROP (i : Nat) : Nat := 0x38101C + 0x100 * i
/-- Address of MESH_TRAINFAIL (12). -/
def MESH_TRAINFAIL (i : Nat) : Nat := 0x381020 + 0x100 * i
/-- Address of MESH_CNTCLR (12). -/
def MESH_CNTCLR (i : Nat) : Nat := 0x381024 + 0x100 * i
/-- Address of MESH_TEST (12). -/
def MESH_TEST (i : Nat) (j : Nat) : Nat := 0x381040 + 0x100 * i + 0x8 * j
/-- Address of MESH_TESTERR (12). -/
def MESH_TESTERR (i : Nat) (j : Nat) : Nat := 0x381044 + 0x100 * i + 0x8 * j

/-! Addresses of the Vf registers. -/
/-- Address of VF_STATE (13). -/
def VF_STATE : Nat := 0x0
/-- Address of VF_JRING_LO (13). -/
def VF_JRING_LO : Nat := 0x8
/-- Address of VF_JRING_HI (13). -/
def VF_JRING_HI : Nat := 0xC
/-- Address of VF_RRING_LO (13). -/
def VF_RRING_LO : Nat := 0x10
/-- Address of VF_RRING_HI (13). -/
def VF_RRING_HI : Nat := 0x14
/-- Address of VF_RCNT_LO (13). -/
def VF_RCNT_LO : Nat := 0x18
/-- Address of VF_RCNT_HI (13). -/
def VF_RCNT_HI : Nat := 0x1C
/-- Address of VF_RSIZE (13). -/
def VF_RSIZE : Nat := 0x20
/-- Address of VF_RINGCTL (13). -/
def VF_RINGCTL : Nat := 0x24
/-- Address of VF_JOBDB (13). -/
def VF_JOBDB : Nat := 0x40
/-- Address of VF_RESDB (13). -/
def VF_RESDB : Nat := 0x44
/-- Address of VF_CMD (13). -/
def VF_CMD : Nat := 0x48
/-- Address of VF_TRIG (13). -/
def VF_TRIG : Nat := 0x4C
/-- Address of VF_JOBCNT_TAKEN (13). -/
def VF_JOBCNT_TAKEN : Nat := 0x50
/-- Address of VF_JOBCNT_DONE (13). -/
def VF_JOBCNT_DONE : Nat := 0x54
/-- Address of VF_RLOST (13). -/
def VF_RLOST : Nat := 0x58
/-- Address of VF_CAPDB (13). -/
def VF_CAPDB (i : Nat) : Nat := 0x100 + 0x4 * i
/-- Address of VF_VIEWSEL (13). -/
def VF_VIEWSEL : Nat := 0x200

/-! Addresses of the Host registers. -/
/-- Address of HOST_LINK (13). -/
def HOST_LINK : Nat := 0x3E0000
/-- Address of HOST_EVBASE_LO (13). -/
def HOST_EVBASE_LO : Nat := 0x3E0010
/-- Address of HOST_EVBASE_HI (13). -/
def HOST_EVBASE_HI : Nat := 0x3E0014
/-- Address of HOST_EVCNT_LO (13). -/
def HOST_EVCNT_LO : Nat := 0x3E0018
/-- Address of HOST_EVCNT_HI (13). -/
def HOST_EVCNT_HI : Nat := 0x3E001C
/-- Address of HOST_EVCTL (13). -/
def HOST_EVCTL : Nat := 0x3E0020
/-- Address of HOST_EVDB (13). -/
def HOST_EVDB : Nat := 0x3E0024
/-- Address of HOST_EVLOST (13). -/
def HOST_EVLOST : Nat := 0x3E0028
/-- Address of HOST_PCMD (13). -/
def HOST_PCMD (i : Nat) : Nat := 0x3E0100 + 0x10 * i
/-- Address of HOST_PART_RESET (13). -/
def HOST_PART_RESET (i : Nat) : Nat := 0x3E0104 + 0x10 * i
/-- Address of HOST_PSTAT (13). -/
def HOST_PSTAT (i : Nat) : Nat := 0x3E0108 + 0x10 * i
/-- Address of HOST_PJOB (13). -/
def HOST_PJOB (i : Nat) : Nat := 0x3E010C + 0x10 * i

/-! Addresses of the Ptp registers. -/
/-- Address of PTP_CFG (14). -/
def PTP_CFG : Nat := 0x3C0000
/-- Address of PTP_CTRL (14). -/
def PTP_CTRL : Nat := 0x3C0004
/-- Address of PTP_STAT (14). -/
def PTP_STAT : Nat := 0x3C0008
/-- Address of PTP_INC_LO (14). -/
def PTP_INC_LO : Nat := 0x3C000C
/-- Address of PTP_INC_HI (14). -/
def PTP_INC_HI : Nat := 0x3C0010
/-- Address of PTP_STEPCNT (14). -/
def PTP_STEPCNT : Nat := 0x3C0014
/-- Address of PTP_NOW_DT_LO (14). -/
def PTP_NOW_DT_LO : Nat := 0x3C0020
/-- Address of PTP_NOW_DT_HI (14). -/
def PTP_NOW_DT_HI : Nat := 0x3C0024
/-- Address of PTP_NOW_FT_LO (14). -/
def PTP_NOW_FT_LO : Nat := 0x3C0028
/-- Address of PTP_NOW_FT_HI (14). -/
def PTP_NOW_FT_HI : Nat := 0x3C002C
/-- Address of PTP_DCFG (14). -/
def PTP_DCFG (i : Nat) : Nat := 0x3C0040 + 0x40 * i
/-- Address of PTP_DLIM (14). -/
def PTP_DLIM (i : Nat) : Nat := 0x3C0044 + 0x40 * i
/-- Address of PTP_DSTAT (14). -/
def PTP_DSTAT (i : Nat) : Nat := 0x3C0048 + 0x40 * i
/-- Address of PTP_DOFS (14). -/
def PTP_DOFS (i : Nat) : Nat := 0x3C004C + 0x40 * i
/-- Address of PTP_DDELAY (14). -/
def PTP_DDELAY (i : Nat) : Nat := 0x3C0050 + 0x40 * i
/-- Address of PTP_ANC_SEC_LO (14). -/
def PTP_ANC_SEC_LO (i : Nat) : Nat := 0x3C0054 + 0x40 * i
/-- Address of PTP_ANC_SEC_HI (14). -/
def PTP_ANC_SEC_HI (i : Nat) : Nat := 0x3C0058 + 0x40 * i
/-- Address of PTP_ANC_NS (14). -/
def PTP_ANC_NS (i : Nat) : Nat := 0x3C005C + 0x40 * i
/-- Address of PTP_ANC_FT (14). -/
def PTP_ANC_FT (i : Nat) : Nat := 0x3C0060 + 0x40 * i
/-- Address of PTP_PCFG (14). -/
def PTP_PCFG (i : Nat) : Nat := 0x3C00C0 + 0x10 * i
/-- Address of PTP_PSTAT (14). -/
def PTP_PSTAT (i : Nat) : Nat := 0x3C00C4 + 0x10 * i
/-- Address of PTP_PDISC (14). -/
def PTP_PDISC (i : Nat) : Nat := 0x3C00C8 + 0x10 * i

/-! Addresses of the Bias registers. -/
/-- Address of BIAS_CFG (15). -/
def BIAS_CFG (i : Nat) : Nat := 0x60000 + 0x40 * i
/-- Address of BIAS_SPAN (15). -/
def BIAS_SPAN (i : Nat) : Nat := 0x60004 + 0x40 * i
/-- Address of BIAS_DEFAULT (15). -/
def BIAS_DEFAULT (i : Nat) : Nat := 0x60008 + 0x40 * i
/-- Address of BIAS_SLEW (15). -/
def BIAS_SLEW (i : Nat) : Nat := 0x6000C + 0x40 * i
/-- Address of BIAS_UI (15). -/
def BIAS_UI (i : Nat) : Nat := 0x60010 + 0x40 * i
/-- Address of BIAS_TARGET (15). -/
def BIAS_TARGET (i : Nat) : Nat := 0x60014 + 0x40 * i
/-- Address of BIAS_OUT (15). -/
def BIAS_OUT (i : Nat) : Nat := 0x60018 + 0x40 * i
/-- Address of BIAS_STAT (15). -/
def BIAS_STAT (i : Nat) : Nat := 0x6001C + 0x40 * i
/-- Address of BIAS_LATECNT (15). -/
def BIAS_LATECNT (i : Nat) : Nat := 0x60020 + 0x40 * i
/-- Address of BIAS_SCCNT (15). -/
def BIAS_SCCNT (i : Nat) : Nat := 0x60024 + 0x40 * i
/-- Address of BIAS_CNTCLR (15). -/
def BIAS_CNTCLR (i : Nat) : Nat := 0x60028 + 0x40 * i

/-! Addresses of the Flint registers. -/
/-- Address of FLINT_LATCH_LO (15). -/
def FLINT_LATCH_LO : Nat := 0x40000
/-- Address of FLINT_LATCH_HI (15). -/
def FLINT_LATCH_HI : Nat := 0x40004
/-- Address of FLINT_TEST (15). -/
def FLINT_TEST : Nat := 0x40008
/-- Address of FLINT_TSTAT (15). -/
def FLINT_TSTAT : Nat := 0x4000C
/-- Address of FLINT_CFG (15). -/
def FLINT_CFG (i : Nat) : Nat := 0x40100 + 0x20 * i
/-- Address of FLINT_THR (15). -/
def FLINT_THR (i : Nat) : Nat := 0x40104 + 0x20 * i
/-- Address of FLINT_HYST (15). -/
def FLINT_HYST (i : Nat) : Nat := 0x40108 + 0x20 * i
/-- Address of FLINT_PERIOD (15). -/
def FLINT_PERIOD (i : Nat) : Nat := 0x4010C + 0x20 * i
/-- Address of FLINT_STAT (15). -/
def FLINT_STAT (i : Nat) : Nat := 0x40110 + 0x20 * i
/-- Address of FLINT_TRIPCNT (15). -/
def FLINT_TRIPCNT (i : Nat) : Nat := 0x40114 + 0x20 * i

/-! Addresses of the Hk registers. -/
/-- Address of HK_CTRL (15). -/
def HK_CTRL : Nat := 0x50000
/-- Address of HK_PERIOD (15). -/
def HK_PERIOD : Nat := 0x50004
/-- Address of HK_LEN (15). -/
def HK_LEN : Nat := 0x50008
/-- Address of HK_STAT (15). -/
def HK_STAT : Nat := 0x5000C
/-- Address of HK_INJ (15). -/
def HK_INJ : Nat := 0x50010
/-- Address of HK_INJRES (15). -/
def HK_INJRES : Nat := 0x50014
/-- Address of HK_RES (15). -/
def HK_RES (i : Nat) : Nat := 0x50200 + 0x4 * i
/-- Address of HK_INJDROP (15). -/
def HK_INJDROP : Nat := 0x50018
/-- Address of HK_SETTLECNT (15). -/
def HK_SETTLECNT : Nat := 0x5001C
/-- Address of HK_SKIP (15). -/
def HK_SKIP : Nat := 0x50020
/-- Address of HK_CNTCLR (15). -/
def HK_CNTCLR : Nat := 0x50024
/-- Address of HK_TEMP (15). -/
def HK_TEMP (i : Nat) : Nat := 0x50040 + 0x4 * i
/-- Address of HK_ENTRY (15). -/
def HK_ENTRY (i : Nat) : Nat := 0x50100 + 0x4 * i

/-! Addresses of the Cal registers. -/
/-- Address of CAL_CMD (16). -/
def CAL_CMD : Nat := 0x30000
/-- Address of CAL_STAT (16). -/
def CAL_STAT : Nat := 0x30004
/-- Address of CAL_REFV (16). -/
def CAL_REFV : Nat := 0x30008
/-- Address of CAL_INFO (16). -/
def CAL_INFO : Nat := 0x30020
/-- Address of CAL_MEASA (16). -/
def CAL_MEASA : Nat := 0x30024
/-- Address of CAL_MEASB (16). -/
def CAL_MEASB : Nat := 0x30028
/-- Address of CAL_SETTEMP0 (16). -/
def CAL_SETTEMP0 (i : Nat) : Nat := 0x30040 + 0x10 * i
/-- Address of CAL_SETTEMP1 (16). -/
def CAL_SETTEMP1 (i : Nat) : Nat := 0x30044 + 0x10 * i
/-- Address of CAL_SETTEMP2 (16). -/
def CAL_SETTEMP2 (i : Nat) : Nat := 0x30048 + 0x10 * i
/-- Address of CAL_FLINTOFS (16). -/
def CAL_FLINTOFS (i : Nat) : Nat := 0x30100 + 0x4 * i
/-- Address of CAL_BMASK (16). -/
def CAL_BMASK (i : Nat) : Nat := 0x30010 + 0x4 * i

/-! Addresses of the Glb registers. -/
/-- Address of GLB_ID (17). -/
def GLB_ID : Nat := 0x0
/-- Address of GLB_REV (17). -/
def GLB_REV : Nat := 0x4
/-- Address of GLB_SERIAL_LO (17). -/
def GLB_SERIAL_LO : Nat := 0x8
/-- Address of GLB_SERIAL_HI (17). -/
def GLB_SERIAL_HI : Nat := 0xC
/-- Address of GLB_STAT (17). -/
def GLB_STAT : Nat := 0x10
/-- Address of GLB_CTRL (17). -/
def GLB_CTRL : Nat := 0x14
/-- Address of GLB_CFG (17). -/
def GLB_CFG : Nat := 0x18
/-- Address of GLB_LED (17). -/
def GLB_LED : Nat := 0x1C

/-! Addresses of the Boot registers. -/
/-- Address of BOOT_STAT (17). -/
def BOOT_STAT : Nat := 0x20000
/-- Address of BOOT_DETAIL (17). -/
def BOOT_DETAIL : Nat := 0x20004
/-- Address of BOOT_FAIL (17). -/
def BOOT_FAIL : Nat := 0x20008
/-- Address of BOOT_CTRL (17). -/
def BOOT_CTRL : Nat := 0x2000C
/-- Address of BOOT_TIME (17). -/
def BOOT_TIME : Nat := 0x20010
/-- Address of BOOT_IMGSEQ (17). -/
def BOOT_IMGSEQ : Nat := 0x20014
/-- Address of BOOT_OVRCNT (17). -/
def BOOT_OVRCNT : Nat := 0x20018
/-- Address of BOOT_FLID (17). -/
def BOOT_FLID : Nat := 0x2001C
/-- Address of BOOT_FLCMD (17). -/
def BOOT_FLCMD : Nat := 0x20020
/-- Address of BOOT_FLADDR (17). -/
def BOOT_FLADDR : Nat := 0x20024
/-- Address of BOOT_FLSTAT (17). -/
def BOOT_FLSTAT : Nat := 0x20028
/-- Address of BOOT_FLBUF (17). -/
def BOOT_FLBUF (i : Nat) : Nat := 0x21000 + 0x4 * i

/-- Rows of the Frame registers. -/
def rowsFrame0 : List RegRow := [
  ⟨0x400000, [(1024, 0x10)], 0x0,
    [⟨31, 0, .rwl, []⟩]⟩,
  ⟨0x400004, [(1024, 0x10)], 0x0,
    [⟨15, 0, .rwl, []⟩, ⟨18, 16, .ro, []⟩, ⟨19, 19, .ro, []⟩]⟩,
  ⟨0x400008, [(1024, 0x10)], 0x0,
    [⟨31, 0, .rwl, []⟩]⟩,
  ⟨0x40000C, [(1024, 0x10)], 0x0,
    [⟨15, 0, .rwl, []⟩]⟩]

/-- Rows of the Time registers. -/
def rowsTime0 : List RegRow := [
  ⟨0x10000, [], 0x0,
    [⟨0, 0, .rw, []⟩, ⟨1, 1, .rwl, []⟩, ⟨3, 2, .rw, [(0, 2, 1)]⟩, ⟨5, 4, .rwl, []⟩, ⟨6, 6, .rwl, []⟩, ⟨7, 7, .rw, []⟩]⟩,
  ⟨0x10004, [], 0x0,
    [⟨0, 0, .ro, []⟩, ⟨1, 1, .ro, []⟩, ⟨2, 2, .rw1c, []⟩, ⟨3, 3, .ro, []⟩, ⟨4, 4, .ro, []⟩, ⟨5, 5, .rw1c, []⟩,
        ⟨6, 6, .rw1c, []⟩, ⟨7, 7, .ro, []⟩]⟩,
  ⟨0x10010, [], 0x0,
    [⟨31, 0, .rw, [(0, 0xFFFFFFFC, 4)]⟩]⟩,
  ⟨0x10014, [], 0x0,
    [⟨31, 0, .rw, []⟩]⟩,
  ⟨0x10018, [], 0x0,
    [⟨31, 0, .rw, [(0, 0xFFFFFFFC, 4)]⟩]⟩,
  ⟨0x10020, [], 0x0,
    [⟨31, 0, .ro, []⟩]⟩,
  ⟨0x10024, [], 0x0,
    [⟨31, 0, .ro, []⟩]⟩,
  ⟨0x10030, [], 0x0,
    [⟨15, 0, .ro, []⟩, ⟨31, 16, .ro, []⟩]⟩,
  ⟨0x10040, [(8, 0x4)], 0xFA00,
    [⟨19, 0, .rwl, [(1024, 640000, 1)]⟩]⟩]

/-- Rows of the Och registers. -/
def rowsOch0 : List RegRow := [
  ⟨0x80000, [(64, 0x100)], 0x0,
    [⟨1, 0, .rwl, [(0, 2, 1)]⟩, ⟨2, 2, .rwl, []⟩, ⟨3, 3, .rwl, []⟩, ⟨10, 8, .ro, []⟩, ⟨11, 11, .ro, []⟩]⟩,
  ⟨0x80004, [(64, 0x100)], 0x8000,
    [⟨15, 0, .rwl, []⟩]⟩,
  ⟨0x80008, [(64, 0x100)], 0x0,
    [⟨7, 0, .rwl, [(0, 244, 1)]⟩, ⟨15, 8, .ro, []⟩, ⟨23, 16, .ro, []⟩]⟩,
  ⟨0x8000C, [(64, 0x100)], 0x1FFF,
    [⟨13, 0, .rwl, [(0, 8191, 1)]⟩, ⟨16, 16, .rwl, []⟩]⟩,
  ⟨0x80010, [(64, 0x100)], 0x0,
    [⟨15, 0, .ro, []⟩]⟩,
  ⟨0x80014, [(64, 0x100)], 0x0,
    [⟨11, 0, .ro, []⟩]⟩,
  ⟨0x80020, [(64, 0x100)], 0x800,
    [⟨1, 0, .ro, []⟩, ⟨2, 2, .ro, []⟩, ⟨3, 3, .ro, []⟩, ⟨4, 4, .ro, []⟩, ⟨5, 5, .rw1c, []⟩, ⟨6, 6, .rw1c, []⟩,
        ⟨7, 7, .ro, []⟩, ⟨12, 8, .ro, []⟩]⟩,
  ⟨0x80024, [(64, 0x100)], 0x0,
    [⟨31, 0, .ro, []⟩]⟩,
  ⟨0x80028, [(64, 0x100)], 0x0,
    [⟨31, 0, .ro, []⟩]⟩,
  ⟨0x8002C, [(64, 0x100)], 0x0,
    [⟨15, 0, .ro, []⟩, ⟨31, 16, .ro, []⟩]⟩,
  ⟨0x80030, [(64, 0x100)], 0x0,
    [⟨0, 0, .wo, []⟩]⟩,
  ⟨0x80034, [(64, 0x100)], 0x0,
    [⟨13, 0, .ro, []⟩]⟩]

/-- Rows of the Qtz registers. -/
def rowsQtz0 : List RegRow := [
  ⟨0x100000, [(16, 0x1000)], 0x0,
    [⟨0, 0, .wo, []⟩]⟩,
  ⟨0x100004, [(16, 0x1000)], 0x2000000,
    [⟨2, 0, .ro, []⟩, ⟨3, 3, .ro, []⟩, ⟨4, 4, .ro, []⟩, ⟨31, 16, .rwl, [(64, 65535, 1)]⟩]⟩,
  ⟨0x100008, [(16, 0x1000)], 0x9C400,
    [⟨19, 0, .rwl, [(1024, 1048575, 1)]⟩]⟩,
  ⟨0x10000C, [(16, 0x1000)], 0x0,
    [⟨3, 0, .ro, []⟩, ⟨4, 4, .ro, []⟩, ⟨8, 5, .ro, []⟩, ⟨13, 9, .ro, []⟩, ⟨14, 14, .rw1c, []⟩, ⟨15, 15, .ro, []⟩,
        ⟨20, 16, .ro, []⟩]⟩,
  ⟨0x100010, [(16, 0x1000)], 0x0,
    [⟨7, 0, .ro, []⟩]⟩,
  ⟨0x100014, [(16, 0x1000)], 0x0,
    [⟨20, 0, .ro, []⟩]⟩,
  ⟨0x100018, [(16, 0x1000)], 0x0,
    [⟨20, 0, .ro, []⟩]⟩,
  ⟨0x10001C, [(16, 0x1000)], 0x0,
    [⟨31, 0, .ro, []⟩]⟩,
  ⟨0x100020, [(16, 0x1000)], 0x0,
    [⟨3, 0, .ro, []⟩, ⟨11, 8, .ro, []⟩]⟩,
  ⟨0x100024, [(16, 0x1000)], 0x7FFFFF,
    [⟨23, 0, .ro, []⟩]⟩,
  ⟨0x100028, [(16, 0x1000)], 0x0,
    [⟨31, 0, .ro, []⟩]⟩,
  ⟨0x10002C, [(16, 0x1000)], 0x0,
    [⟨31, 0, .ro, []⟩]⟩,
  ⟨0x100030, [(16, 0x1000)], 0x0,
    [⟨31, 0, .ro, []⟩]⟩,
  ⟨0x100034, [(16, 0x1000)], 0x0,
    [⟨31, 0, .ro, []⟩]⟩,
  ⟨0x100038, [(16, 0x1000)], 0x0,
    [⟨31, 0, .ro, []⟩]⟩,
  ⟨0x10003C, [(16, 0x1000)], 0x0,
    [⟨0, 0, .wo, []⟩]⟩,
  ⟨0x100040, [(16, 0x1000)], 0x0,
    [⟨31, 0, .ro, []⟩]⟩,
  ⟨0x100044, [(16, 0x1000)], 0x0,
    [⟨31, 0, .ro, []⟩]⟩]

/-- Rows of the Geode registers. -/
def rowsGeode0 : List RegRow := [
  ⟨0x200000, [], 0x0,
    [⟨14, 0, .ro, []⟩]⟩,
  ⟨0x200004, [], 0x0,
    [⟨24, 0, .ro, []⟩]⟩,
  ⟨0x200008, [], 0x0,
    [⟨14, 0, .ro, []⟩, ⟨30, 16, .ro, []⟩]⟩,
  ⟨0x200010, [], 0x0,
    [⟨15, 0, .rw, []⟩]⟩,
  ⟨0x200014, [], 0x0,
    [⟨18, 0, .ro, []⟩, ⟨19, 19, .ro, []⟩, ⟨20, 20, .ro, []⟩, ⟨21, 21, .ro, []⟩, ⟨24, 22, .ro, []⟩]⟩,
  ⟨0x200018, [], 0x0,
    [⟨31, 0, .ro, []⟩]⟩,
  ⟨0x20001C, [], 0x0,
    [⟨15, 0, .ro, []⟩, ⟨25, 16, .ro, []⟩]⟩,
  ⟨0x200100, [(8, 0x40)], 0xFFFF,
    [⟨15, 0, .rwl, []⟩, ⟨31, 16, .rwl, []⟩]⟩,
  ⟨0x200104, [(8, 0x40)], 0x0,
    [⟨24, 0, .rwl, []⟩]⟩,
  ⟨0x200108, [(8, 0x40)], 0x800,
    [⟨14, 0, .rwl, [(0, 16384, 1)]⟩]⟩,
  ⟨0x20010C, [(8, 0x40)], 0xA,
    [⟨6, 0, .rwl, [(0, 80, 1)]⟩]⟩,
  ⟨0x200110, [(8, 0x40)], 0x0,
    [⟨24, 0, .ro, []⟩]⟩,
  ⟨0x200114, [(8, 0x40)], 0x0,
    [⟨14, 0, .ro, []⟩, ⟨30, 16, .ro, []⟩, ⟨31, 31, .ro, []⟩]⟩,
  ⟨0x200118, [(8, 0x40)], 0x0,
    [⟨31, 0, .ro, []⟩]⟩,
  ⟨0x20011C, [(8, 0x40)], 0x0,
    [⟨31, 0, .ro, []⟩]⟩,
  ⟨0x200120, [(8, 0x40)], 0x0,
    [⟨31, 0, .ro, []⟩]⟩,
  ⟨0x200124, [(8, 0x40)], 0x0,
    [⟨0, 0, .wo, []⟩]⟩]

/-- Rows of the Sched registers. -/
def rowsSched0 : List RegRow := [
  ⟨0x210000, [], 0x0,
    [⟨17, 0, .ro, []⟩, ⟨30, 18, .ro, []⟩]⟩,
  ⟨0x210100, [(8, 0x20)], 0x3E00,
    [⟨17, 0, .rwl, [(0, 126976, 1)]⟩]⟩,
  ⟨0x210104, [(8, 0x20)], 0x0,
    [⟨17, 0, .ro, []⟩]⟩,
  ⟨0x210108, [(8, 0x20)], 0x0,
    [⟨17, 0, .ro, []⟩]⟩,
  ⟨0x21010C, [(8, 0x20)], 0x0,
    [⟨17, 0, .ro, []⟩]⟩,
  ⟨0x210110, [(8, 0x20)], 0x0,
    [⟨31, 0, .ro, []⟩]⟩,
  ⟨0x210114, [(8, 0x20)], 0x0,
    [⟨31, 0, .ro, []⟩]⟩,
  ⟨0x210118, [(8, 0x20)], 0x0,
    [⟨0, 0, .wo, []⟩]⟩]

/-- Rows of the Ich registers. -/
def rowsIch0 : List RegRow := [
  ⟨0xC0000, [(16, 0x200)], 0x0,
    [⟨0, 0, .rwl, []⟩, ⟨1, 1, .rwl, []⟩, ⟨2, 2, .rwl, []⟩, ⟨10, 8, .ro, []⟩, ⟨11, 11, .ro, []⟩]⟩,
  ⟨0xC0004, [(16, 0x200)], 0x1000,
    [⟨15, 0, .rwl, []⟩]⟩,
  ⟨0xC0008, [(16, 0x200)], 0x0,
    [⟨7, 0, .rwl, [(0, 244, 1)]⟩, ⟨15, 8, .ro, []⟩, ⟨23, 16, .ro, []⟩]⟩,
  ⟨0xC000C, [(16, 0x200)], 0x0,
    [⟨15, 0, .ro, []⟩]⟩,
  ⟨0xC0010, [(16, 0x200)], 0x0,
    [⟨11, 0, .ro, []⟩]⟩,
  ⟨0xC0020, [(16, 0x200)], 0x88880,
    [⟨0, 0, .ro, []⟩, ⟨1, 1, .ro, []⟩, ⟨2, 2, .rw1c, []⟩, ⟨3, 3, .ro, []⟩, ⟨7, 4, .ro, []⟩, ⟨11, 8, .ro, []⟩,
        ⟨15, 12, .ro, []⟩, ⟨19, 16, .ro, []⟩, ⟨20, 20, .ro, []⟩, ⟨21, 21, .ro, []⟩]⟩,
  ⟨0xC0024, [(16, 0x200)], 0x0,
    [⟨31, 0, .ro, []⟩]⟩,
  ⟨0xC0028, [(16, 0x200)], 0x0,
    [⟨31, 0, .ro, []⟩]⟩,
  ⟨0xC002C, [(16, 0x200)], 0x0,
    [⟨31, 0, .ro, []⟩]⟩,
  ⟨0xC0030, [(16, 0x200)], 0x0,
    [⟨31, 0, .ro, []⟩]⟩,
  ⟨0xC0034, [(16, 0x200)], 0x0,
    [⟨15, 0, .ro, []⟩, ⟨31, 16, .ro, []⟩]⟩,
  ⟨0xC0038, [(16, 0x200)], 0x0,
    [⟨11, 0, .ro, []⟩]⟩,
  ⟨0xC003C, [(16, 0x200)], 0x0,
    [⟨0, 0, .wo, []⟩]⟩]

/-- Rows of the Mica registers. -/
def rowsMica0 : List RegRow := [
  ⟨0xE0000, [(64, 0x80)], 0x0,
    [⟨0, 0, .wo, []⟩]⟩,
  ⟨0xE0004, [(64, 0x80)], 0x0,
    [⟨2, 0, .ro, []⟩, ⟨3, 3, .ro, []⟩, ⟨7, 4, .ro, []⟩, ⟨9, 8, .ro, []⟩]⟩,
  ⟨0xE0008, [(64, 0x80)], 0x4000,
    [⟨3, 0, .ro, []⟩, ⟨9, 4, .ro, []⟩, ⟨10, 10, .ro, []⟩, ⟨14, 11, .ro, []⟩]⟩,
  ⟨0xE000C, [(64, 0x80)], 0x0,
    [⟨7, 0, .ro, []⟩, ⟨19, 8, .ro, []⟩]⟩,
  ⟨0xE0010, [(64, 0x80)], 0x0,
    [⟨31, 0, .ro, []⟩]⟩,
  ⟨0xE0014, [(64, 0x80)], 0x0,
    [⟨31, 0, .ro, []⟩]⟩,
  ⟨0xE001C, [(64, 0x80)], 0x0,
    [⟨31, 0, .ro, []⟩]⟩,
  ⟨0xE0018, [(64, 0x80)], 0x0,
    [⟨15, 0, .ro, []⟩, ⟨23, 16, .ro, []⟩, ⟨31, 24, .ro, []⟩]⟩,
  ⟨0xE0020, [(64, 0x80)], 0x0,
    [⟨31, 0, .ro, []⟩]⟩,
  ⟨0xE0024, [(64, 0x80)], 0x0,
    [⟨9, 0, .ro, []⟩]⟩,
  ⟨0xE0028, [(64, 0x80)], 0x0,
    [⟨31, 0, .ro, []⟩]⟩,
  ⟨0xE002C, [(64, 0x80)], 0x0,
    [⟨0, 0, .wo, []⟩]⟩,
  ⟨0xE0040, [(64, 0x80), (4, 0x10)], 0x0,
    [⟨15, 0, .rwl, []⟩, ⟨31, 16, .rwl, []⟩]⟩,
  ⟨0xE0044, [(64, 0x80), (4, 0x10)], 0x0,
    [⟨31, 0, .rwl, []⟩]⟩,
  ⟨0xE0048, [(64, 0x80), (4, 0x10)], 0x0,
    [⟨31, 0, .rwl, []⟩]⟩,
  ⟨0xE004C, [(64, 0x80), (4, 0x10)], 0x0,
    [⟨1, 0, .rwl, [(0, 2, 1)]⟩, ⟨2, 2, .rwl, []⟩, ⟨3, 3, .rwl, []⟩, ⟨31, 16, .rwl, []⟩]⟩]

/-- Rows of the Dec registers. -/
def rowsDec0 : List RegRow := [
  ⟨0x240000, [], 0x0,
    [⟨9, 0, .ro, []⟩]⟩,
  ⟨0x240004, [], 0x800,
    [⟨15, 0, .rwl, [(64, 65535, 1)]⟩]⟩,
  ⟨0x240008, [], 0x0,
    [⟨31, 0, .ro, []⟩]⟩,
  ⟨0x24000C, [], 0x0,
    [⟨31, 0, .ro, []⟩]⟩,
  ⟨0x240010, [], 0x0,
    [⟨31, 0, .ro, []⟩]⟩,
  ⟨0x240014, [], 0x0,
    [⟨0, 0, .wo, []⟩]⟩,
  ⟨0x241000, [(512, 0x10)], 0x0,
    [⟨2, 0, .ro, []⟩, ⟨3, 3, .ro, []⟩, ⟨5, 4, .rwl, []⟩, ⟨6, 6, .rwl, []⟩, ⟨7, 7, .rwl, []⟩, ⟨13, 8, .rwl, []⟩,
        ⟨22, 14, .rwl, []⟩, ⟨24, 23, .rwl, []⟩]⟩,
  ⟨0x241004, [(512, 0x10)], 0x3,
    [⟨1, 0, .ro, []⟩, ⟨2, 2, .ro, []⟩, ⟨5, 3, .ro, []⟩, ⟨6, 6, .ro, []⟩, ⟨7, 7, .ro, []⟩, ⟨8, 8, .ro, []⟩]⟩,
  ⟨0x241008, [(512, 0x10)], 0x0,
    [⟨31, 0, .ro, []⟩]⟩,
  ⟨0x24100C, [(512, 0x10)], 0x0,
    [⟨31, 0, .ro, []⟩]⟩,
  ⟨0x244000, [(64, 0x40)], 0x0,
    [⟨1, 0, .rwl, [(0, 2, 1)]⟩, ⟨2, 2, .rwl, []⟩, ⟨3, 3, .rwl, []⟩, ⟨4, 4, .rwl, []⟩, ⟨7, 5, .rwl, []⟩, ⟨17, 8, .rwl, []⟩]⟩,
  ⟨0x244004, [(64, 0x40)], 0x0,
    [⟨15, 0, .rwl, [(1, 65535, 1)]⟩, ⟨31, 16, .rwl, [(1, 65535, 1)]⟩]⟩,
  ⟨0x244008, [(64, 0x40)], 0x0,
    [⟨31, 0, .rwl, [(1, 2147483647, 1)]⟩]⟩,
  ⟨0x24400C, [(64, 0x40)], 0x0,
    [⟨31, 0, .rwl, [(1, 2147483647, 1)]⟩]⟩,
  ⟨0x244010, [(64, 0x40)], 0x0,
    [⟨15, 0, .rwl, []⟩, ⟨31, 16, .rwl, []⟩]⟩,
  ⟨0x244014, [(64, 0x40)], 0x0,
    [⟨5, 0, .rwl, []⟩, ⟨13, 8, .rwl, []⟩, ⟨24, 16, .rwl, []⟩]⟩,
  ⟨0x244018, [(64, 0x40)], 0x0,
    [⟨19, 0, .rwl, [(32, 1048575, 1)]⟩]⟩,
  ⟨0x24401C, [(64, 0x40)], 0x4E20,
    [⟨23, 0, .rwl, []⟩]⟩,
  ⟨0x244020, [(64, 0x40)], 0x0,
    [⟨0, 0, .rw, []⟩, ⟨1, 1, .wo, []⟩]⟩,
  ⟨0x244024, [(64, 0x40)], 0x0,
    [⟨2, 0, .ro, []⟩, ⟨31, 16, .ro, []⟩]⟩,
  ⟨0x244028, [(64, 0x40)], 0x0,
    [⟨31, 0, .ro, []⟩]⟩,
  ⟨0x24402C, [(64, 0x40)], 0x0,
    [⟨31, 0, .ro, []⟩]⟩,
  ⟨0x244030, [(64, 0x40)], 0x0,
    [⟨31, 0, .ro, []⟩]⟩]

/-- Rows of the Garnet registers. -/
def rowsGarnet0 : List RegRow := [
  ⟨0x230000, [], 0x0,
    [⟨0, 0, .ro, []⟩, ⟨8, 1, .ro, []⟩]⟩,
  ⟨0x230004, [], 0x0,
    [⟨13, 0, .ro, []⟩, ⟨31, 16, .ro, []⟩]⟩,
  ⟨0x230100, [(8, 0x40)], 0x0,
    [⟨0, 0, .ro, []⟩, ⟨1, 1, .ro, []⟩, ⟨6, 2, .ro, []⟩, ⟨7, 7, .ro, []⟩, ⟨11, 8, .ro, []⟩]⟩,
  ⟨0x230104, [(8, 0x40)], 0x0,
    [⟨12, 0, .ro, []⟩, ⟨28, 16, .ro, []⟩]⟩,
  ⟨0x230108, [(8, 0x40)], 0x0,
    [⟨12, 0, .ro, []⟩, ⟨13, 13, .ro, []⟩]⟩,
  ⟨0x23010C, [(8, 0x40)], 0x0,
    [⟨31, 0, .ro, []⟩]⟩,
  ⟨0x230110, [(8, 0x40)], 0x0,
    [⟨31, 0, .ro, []⟩]⟩,
  ⟨0x230114, [(8, 0x40)], 0x0,
    [⟨31, 0, .ro, []⟩]⟩,
  ⟨0x230118, [(8, 0x40)], 0x0,
    [⟨15, 0, .ro, []⟩, ⟨31, 16, .ro, []⟩]⟩,
  ⟨0x23011C, [(8, 0x40)], 0x0,
    [⟨15, 0, .ro, []⟩, ⟨31, 16, .ro, []⟩]⟩,
  ⟨0x230120, [(8, 0x40)], 0x0,
    [⟨0, 0, .wo, []⟩]⟩]

/-- Rows of the Strata registers. -/
def rowsStrata0 : List RegRow := [
  ⟨0x220000, [], 0x0,
    [⟨0, 0, .rw1c, []⟩]⟩,
  ⟨0x220004, [], 0x27100004,
    [⟨3, 0, .rwl, [(2, 15, 1)]⟩, ⟨31, 16, .rwl, [(1, 65535, 1)]⟩]⟩,
  ⟨0x220010, [], 0x0,
    [⟨9, 0, .ro, []⟩, ⟨25, 16, .ro, []⟩]⟩,
  ⟨0x220014, [], 0x0,
    [⟨6, 0, .ro, []⟩, ⟨12, 8, .ro, []⟩, ⟨22, 16, .ro, []⟩, ⟨29, 24, .ro, []⟩]⟩,
  ⟨0x220018, [], 0x0,
    [⟨31, 0, .ro, []⟩]⟩,
  ⟨0x220020, [], 0x0,
    [⟨2, 0, .rw, []⟩, ⟨15, 8, .rw, []⟩]⟩,
  ⟨0x220100, [(8, 0x80)], 0x3,
    [⟨3, 0, .rwl, []⟩]⟩,
  ⟨0x220104, [(8, 0x80)], 0x400,
    [⟨12, 0, .rwl, [(16, 4096, 16)]⟩]⟩,
  ⟨0x220108, [(8, 0x80)], 0x200,
    [⟨12, 0, .rwl, [(0, 4096, 1)]⟩]⟩,
  ⟨0x22010C, [(8, 0x80)], 0x0,
    [⟨31, 0, .ro, []⟩]⟩,
  ⟨0x220110, [(8, 0x80)], 0x0,
    [⟨31, 0, .ro, []⟩]⟩,
  ⟨0x220114, [(8, 0x80)], 0x0,
    [⟨31, 0, .ro, []⟩]⟩,
  ⟨0x220118, [(8, 0x80)], 0x0,
    [⟨31, 0, .ro, []⟩]⟩,
  ⟨0x220120, [(8, 0x80), (12, 0x4)], 0x0,
    [⟨31, 0, .ro, []⟩]⟩,
  ⟨0x220150, [(8, 0x80)], 0x0,
    [⟨31, 0, .ro, []⟩]⟩,
  ⟨0x220154, [(8, 0x80)], 0x0,
    [⟨31, 0, .ro, []⟩]⟩,
  ⟨0x220158, [(8, 0x80)], 0x0,
    [⟨0, 0, .wo, []⟩]⟩]

/-- Rows of the Cap registers. -/
def rowsCap0 : List RegRow := [
  ⟨0x340000, [], 0x0,
    [⟨2, 0, .ro, []⟩, ⟨3, 3, .rw1c, []⟩]⟩,
  ⟨0x340004, [], 0x0,
    [⟨12, 0, .ro, []⟩]⟩,
  ⟨0x340040, [(8, 0x10)], 0x0,
    [⟨0, 0, .wo, []⟩, ⟨1, 1, .wo, []⟩]⟩,
  ⟨0x340044, [(8, 0x10)], 0x0,
    [⟨31, 0, .ro, []⟩]⟩,
  ⟨0x340048, [(8, 0x10)], 0x0,
    [⟨31, 0, .ro, []⟩]⟩,
  ⟨0x340100, [(32, 0x40)], 0x0,
    [⟨2, 0, .rwl, []⟩, ⟨3, 3, .rwl, []⟩, ⟨5, 4, .rwl, [(0, 2, 1)]⟩, ⟨11, 6, .rwl, []⟩, ⟨16, 12, .rwl, []⟩]⟩,
  ⟨0x340104, [(32, 0x40)], 0x0,
    [⟨12, 0, .rwl, [(1, 7168, 1)]⟩]⟩,
  ⟨0x340108, [(32, 0x40)], 0x10000,
    [⟨23, 0, .rwl, [(64, 16777215, 1)]⟩]⟩,
  ⟨0x34010C, [(32, 0x40)], 0x0,
    [⟨24, 0, .ro, []⟩]⟩,
  ⟨0x340110, [(32, 0x40)], 0x0,
    [⟨0, 0, .ro, []⟩, ⟨1, 1, .ro, []⟩, ⟨2, 2, .ro, []⟩, ⟨3, 3, .ro, []⟩, ⟨4, 4, .ro, []⟩]⟩,
  ⟨0x340114, [(32, 0x40)], 0x0,
    [⟨31, 0, .ro, []⟩]⟩,
  ⟨0x340118, [(32, 0x40)], 0x0,
    [⟨31, 0, .ro, []⟩]⟩,
  ⟨0x34011C, [(32, 0x40)], 0x0,
    [⟨31, 0, .ro, []⟩]⟩,
  ⟨0x340120, [(32, 0x40)], 0x0,
    [⟨0, 0, .wo, []⟩]⟩,
  ⟨0x340C00, [(64, 0x4)], 0x0,
    [⟨4, 0, .rwl, []⟩, ⟨5, 5, .rwl, []⟩]⟩]

/-- Rows of the Mem registers. -/
def rowsMem0 : List RegRow := [
  ⟨0x300000, [(8, 0x1000)], 0x0,
    [⟨0, 0, .ro, []⟩, ⟨1, 1, .ro, []⟩, ⟨2, 2, .ro, []⟩, ⟨6, 3, .ro, []⟩, ⟨7, 7, .ro, []⟩, ⟨8, 8, .ro, []⟩, ⟨9, 9, .ro, []⟩]⟩,
  ⟨0x300004, [(8, 0x1000)], 0x0,
    [⟨31, 0, .ro, []⟩]⟩,
  ⟨0x300008, [(8, 0x1000)], 0x0,
    [⟨31, 0, .ro, []⟩]⟩,
  ⟨0x30000C, [(8, 0x1000)], 0x0,
    [⟨31, 0, .ro, []⟩]⟩,
  ⟨0x300010, [(8, 0x1000)], 0x0,
    [⟨31, 0, .ro, []⟩]⟩,
  ⟨0x300014, [(8, 0x1000)], 0x0,
    [⟨31, 0, .ro, []⟩]⟩,
  ⟨0x300018, [(8, 0x1000)], 0x0,
    [⟨31, 0, .ro, []⟩]⟩,
  ⟨0x30001C, [(8, 0x1000)], 0x0,
    [⟨31, 0, .ro, []⟩]⟩,
  ⟨0x300020, [(8, 0x1000)], 0x0,
    [⟨31, 0, .ro, []⟩]⟩,
  ⟨0x300024, [(8, 0x1000)], 0x0,
    [⟨31, 0, .ro, []⟩]⟩,
  ⟨0x300028, [(8, 0x1000)], 0x0,
    [⟨0, 0, .wo, []⟩]⟩,
  ⟨0x308000, [], 0x280,
    [⟨1, 0, .rwl, [(0, 2, 1)]⟩, ⟨7, 4, .rwl, [(6, 12, 1)]⟩, ⟨8, 8, .rwl, []⟩, ⟨9, 9, .rwl, []⟩]⟩,
  ⟨0x308004, [], 0x0,
    [⟨0, 0, .rw, []⟩]⟩,
  ⟨0x308008, [], 0x0,
    [⟨1, 0, .ro, []⟩, ⟨2, 2, .rw1c, []⟩, ⟨3, 3, .ro, []⟩, ⟨4, 4, .ro, []⟩, ⟨5, 5, .rw1c, []⟩, ⟨6, 6, .rw1c, []⟩]⟩,
  ⟨0x30800C, [], 0x3C,
    [⟨15, 0, .rwl, [(1, 65535, 1)]⟩]⟩,
  ⟨0x308010, [], 0x0,
    [⟨15, 0, .ro, []⟩, ⟨31, 16, .ro, []⟩]⟩,
  ⟨0x308100, [(5, 0x10)], 0x0,
    [⟨12, 0, .rwl, []⟩]⟩,
  ⟨0x308104, [(5, 0x10)], 0x0,
    [⟨24, 0, .ro, []⟩]⟩,
  ⟨0x308108, [(5, 0x10)], 0x0,
    [⟨24, 0, .ro, []⟩]⟩,
  ⟨0x30810C, [(5, 0x10)], 0x0,
    [⟨24, 0, .ro, []⟩]⟩,
  ⟨0x308200, [(8, 0x10)], 0x0,
    [⟨13, 0, .rwl, []⟩]⟩,
  ⟨0x308204, [(8, 0x10)], 0x0,
    [⟨31, 0, .ro, []⟩]⟩,
  ⟨0x308208, [(8, 0x10)], 0x0,
    [⟨31, 0, .ro, []⟩]⟩]

/-- Rows of the Mesh registers. -/
def rowsMesh0 : List RegRow := [
  ⟨0x380000, [], 0x0,
    [⟨5, 0, .rwl, []⟩, ⟨23, 8, .rwl, []⟩]⟩,
  ⟨0x380004, [], 0x0,
    [⟨3, 0, .ro, []⟩, ⟨7, 4, .ro, []⟩]⟩,
  ⟨0x380100, [(64, 0x4)], 0x0,
    [⟨1, 0, .rwl, []⟩, ⟨2, 2, .rwl, []⟩, ⟨5, 3, .rwl, [(1, 7, 1)]⟩, ⟨7, 6, .rwl, []⟩, ⟨8, 8, .rwl, []⟩,
        ⟨11, 9, .rwl, [(1, 7, 1)]⟩]⟩,
  ⟨0x380200, [(8, 0x4)], 0x10,
    [⟨7, 0, .rwl, []⟩, ⟨19, 8, .rwl, [(0, 2032, 1)]⟩]⟩,
  ⟨0x381000, [(4, 0x100)], 0x0,
    [⟨0, 0, .rwl, []⟩, ⟨1, 1, .rwl, []⟩, ⟨7, 2, .rwl, []⟩, ⟨31, 16, .rwl, []⟩]⟩,
  ⟨0x381004, [(4, 0x100)], 0x0,
    [⟨2, 0, .ro, []⟩, ⟨10, 3, .ro, []⟩, ⟨18, 11, .ro, []⟩, ⟨21, 19, .ro, []⟩, ⟨27, 22, .ro, []⟩, ⟨28, 28, .ro, []⟩,
        ⟨29, 29, .ro, []⟩]⟩,
  ⟨0x381008, [(4, 0x100)], 0x0,
    [⟨7, 0, .rw, []⟩, ⟨15, 8, .rw, []⟩, ⟨23, 16, .ro, []⟩, ⟨31, 24, .ro, []⟩]⟩,
  ⟨0x38100C, [(4, 0x100)], 0x0,
    [⟨27, 0, .ro, []⟩]⟩,
  ⟨0x381010, [(4, 0x100)], 0x0,
    [⟨31, 0, .ro, []⟩]⟩,
  ⟨0x381014, [(4, 0x100)], 0x0,
    [⟨31, 0, .ro, []⟩]⟩,
  ⟨0x381018, [(4, 0x100)], 0x0,
    [⟨31, 0, .ro, []⟩]⟩,
  ⟨0x38101C, [(4, 0x100)], 0x0,
    [⟨31, 0, .ro, []⟩]⟩,
  ⟨0x381020, [(4, 0x100)], 0x0,
    [⟨31, 0, .ro, []⟩]⟩,
  ⟨0x381024, [(4, 0x100)], 0x0,
    [⟨0, 0, .wo, []⟩]⟩,
  ⟨0x381040, [(4, 0x100), (8, 0x8)], 0x0,
    [⟨0, 0, .rw, []⟩, ⟨1, 1, .rw, []⟩, ⟨3, 2, .rw, [(0, 2, 1)]⟩, ⟨4, 4, .rw, []⟩,
        ⟨9, 5, .rw, [(0, 0, 1), (10, 31, 1)]⟩, ⟨10, 10, .rw, []⟩]⟩,
  ⟨0x381044, [(4, 0x100), (8, 0x8)], 0x0,
    [⟨31, 0, .ro, []⟩]⟩]

/-- Rows of the Vf registers. -/
def rowsVf0 : List RegRow := [
  ⟨0x0, [], 0x0,
    [⟨1, 0, .ro, []⟩, ⟨4, 2, .ro, []⟩, ⟨5, 5, .ro, []⟩, ⟨6, 6, .ro, []⟩, ⟨7, 7, .rw1c, []⟩, ⟨8, 8, .rw1c, []⟩,
        ⟨9, 9, .rw1c, []⟩]⟩,
  ⟨0x8, [], 0x0,
    [⟨31, 0, .rw, []⟩]⟩,
  ⟨0xC, [], 0x0,
    [⟨31, 0, .rw, []⟩]⟩,
  ⟨0x10, [], 0x0,
    [⟨31, 0, .rw, []⟩]⟩,
  ⟨0x14, [], 0x0,
    [⟨31, 0, .rw, []⟩]⟩,
  ⟨0x18, [], 0x0,
    [⟨31, 0, .rw, []⟩]⟩,
  ⟨0x1C, [], 0x0,
    [⟨31, 0, .rw, []⟩]⟩,
  ⟨0x20, [], 0x0,
    [⟨4, 0, .rw, [(0, 16, 1)]⟩]⟩,
  ⟨0x24, [], 0x0,
    [⟨0, 0, .rw, []⟩, ⟨31, 16, .rw, []⟩]⟩,
  ⟨0x40, [], 0x0,
    [⟨31, 0, .wo, []⟩]⟩,
  ⟨0x44, [], 0x0,
    [⟨31, 0, .wo, []⟩]⟩,
  ⟨0x48, [], 0x0,
    [⟨31, 0, .wo, []⟩]⟩,
  ⟨0x4C, [], 0x0,
    [⟨31, 0, .wo, []⟩]⟩,
  ⟨0x50, [], 0x0,
    [⟨31, 0, .ro, []⟩]⟩,
  ⟨0x54, [], 0x0,
    [⟨31, 0, .ro, []⟩]⟩,
  ⟨0x58, [], 0x0,
    [⟨31, 0, .ro, []⟩]⟩,
  ⟨0x100, [(32, 0x4)], 0x0,
    [⟨31, 0, .wo, []⟩]⟩,
  ⟨0x200, [], 0x0,
    [⟨3, 0, .rw, []⟩]⟩]

/-- Rows of the Host registers. -/
def rowsHost0 : List RegRow := [
  ⟨0x3E0000, [], 0x0,
    [⟨3, 0, .ro, []⟩, ⟨8, 4, .ro, []⟩, ⟨12, 9, .ro, []⟩]⟩,
  ⟨0x3E0010, [], 0x0,
    [⟨31, 0, .rw, []⟩]⟩,
  ⟨0x3E0014, [], 0x0,
    [⟨31, 0, .rw, []⟩]⟩,
  ⟨0x3E0018, [], 0x0,
    [⟨31, 0, .rw, []⟩]⟩,
  ⟨0x3E001C, [], 0x0,
    [⟨31, 0, .rw, []⟩]⟩,
  ⟨0x3E0020, [], 0x0,
    [⟨0, 0, .rw, []⟩, ⟨4, 1, .rw, [(0, 8, 1)]⟩, ⟨5, 5, .rw1c, []⟩, ⟨6, 6, .rw1c, []⟩, ⟨31, 16, .rw, []⟩]⟩,
  ⟨0x3E0024, [], 0x0,
    [⟨31, 0, .wo, []⟩]⟩,
  ⟨0x3E0028, [], 0x0,
    [⟨31, 0, .ro, []⟩]⟩,
  ⟨0x3E0100, [(8, 0x10)], 0x0,
    [⟨0, 0, .wo, []⟩, ⟨1, 1, .wo, []⟩]⟩,
  ⟨0x3E0104, [(8, 0x10)], 0x0,
    [⟨0, 0, .wo, []⟩]⟩,
  ⟨0x3E0108, [(8, 0x10)], 0x0,
    [⟨6, 0, .ro, []⟩, ⟨7, 7, .ro, []⟩, ⟨8, 8, .ro, []⟩]⟩,
  ⟨0x3E010C, [(8, 0x10)], 0x0,
    [⟨31, 0, .ro, []⟩]⟩]

/-- Rows of the Ptp registers. -/
def rowsPtp0 : List RegRow := [
  ⟨0x3C0000, [], 0xC88,
    [⟨0, 0, .rwl, []⟩, ⟨2, 1, .rwl, [(0, 2, 1)]⟩, ⟨3, 3, .rwl, []⟩, ⟨4, 4, .rwl, []⟩, ⟨14, 5, .rwl, [(1, 1000, 1)]⟩]⟩,
  ⟨0x3C0004, [], 0x0,
    [⟨0, 0, .wo, []⟩]⟩,
  ⟨0x3C0008, [], 0x0,
    [⟨0, 0, .ro, []⟩, ⟨2, 1, .ro, []⟩, ⟨3, 3, .ro, []⟩, ⟨4, 4, .rw1c, []⟩, ⟨5, 5, .rw1c, []⟩]⟩,
  ⟨0x3C000C, [], 0x90000000,
    [⟨31, 0, .ro, []⟩]⟩,
  ⟨0x3C0010, [], 0x1,
    [⟨31, 0, .ro, []⟩]⟩,
  ⟨0x3C0014, [], 0x0,
    [⟨31, 0, .ro, []⟩]⟩,
  ⟨0x3C0020, [], 0x0,
    [⟨31, 0, .ro, []⟩]⟩,
  ⟨0x3C0024, [], 0x0,
    [⟨31, 0, .ro, []⟩]⟩,
  ⟨0x3C0028, [], 0x0,
    [⟨31, 0, .ro, []⟩]⟩,
  ⟨0x3C002C, [], 0x0,
    [⟨31, 0, .ro, []⟩]⟩,
  ⟨0x3C0040, [(2, 0x40)], 0x0,
    [⟨0, 0, .rwl, []⟩, ⟨2, 1, .rwl, []⟩, ⟨10, 3, .rwl, [(0, 239, 1)]⟩]⟩,
  ⟨0x3C0044, [(2, 0x40)], 0xAFA064,
    [⟨9, 0, .rwl, [(1, 1023, 1)]⟩, ⟨19, 10, .rwl, []⟩, ⟨31, 20, .rwl, [(1, 4095, 1)]⟩]⟩,
  ⟨0x3C0048, [(2, 0x40)], 0x0,
    [⟨1, 0, .ro, []⟩, ⟨2, 2, .ro, []⟩]⟩,
  ⟨0x3C004C, [(2, 0x40)], 0x0,
    [⟨31, 0, .ro, []⟩]⟩,
  ⟨0x3C0050, [(2, 0x40)], 0x0,
    [⟨31, 0, .ro, []⟩]⟩,
  ⟨0x3C0054, [(2, 0x40)], 0x0,
    [⟨31, 0, .ro, []⟩]⟩,
  ⟨0x3C0058, [(2, 0x40)], 0x0,
    [⟨31, 0, .ro, []⟩]⟩,
  ⟨0x3C005C, [(2, 0x40)], 0x0,
    [⟨31, 0, .ro, []⟩]⟩,
  ⟨0x3C0060, [(2, 0x40)], 0x0,
    [⟨31, 0, .ro, []⟩]⟩,
  ⟨0x3C00C0, [(2, 0x10)], 0x0,
    [⟨15, 0, .rwl, []⟩, ⟨31, 16, .rwl, []⟩]⟩,
  ⟨0x3C00C4, [(2, 0x10)], 0x0,
    [⟨0, 0, .ro, []⟩, ⟨1, 1, .ro, []⟩, ⟨2, 2, .ro, []⟩]⟩,
  ⟨0x3C00C8, [(2, 0x10)], 0x0,
    [⟨31, 0, .ro, []⟩]⟩]

/-- Rows of the Bias registers. -/
def rowsBias0 : List RegRow := [
  ⟨0x60000, [(128, 0x40)], 0x0,
    [⟨2, 0, .ro, []⟩, ⟨3, 3, .ro, []⟩, ⟨4, 4, .rwl, []⟩, ⟨5, 5, .rwl, []⟩, ⟨6, 6, .rwl, []⟩, ⟨7, 7, .rwl, []⟩,
        ⟨8, 8, .rwl, []⟩]⟩,
  ⟨0x60004, [(128, 0x40)], 0x0,
    [⟨1, 0, .rw, []⟩, ⟨23, 4, .rw, []⟩]⟩,
  ⟨0x60008, [(128, 0x40)], 0x0,
    [⟨19, 0, .rwl, []⟩]⟩,
  ⟨0x6000C, [(128, 0x40)], 0x400,
    [⟨19, 0, .rwl, []⟩]⟩,
  ⟨0x60010, [(128, 0x40)], 0x1,
    [⟨15, 0, .rwl, [(1, 65535, 1)]⟩]⟩,
  ⟨0x60014, [(128, 0x40)], 0x0,
    [⟨19, 0, .ro, []⟩]⟩,
  ⟨0x60018, [(128, 0x40)], 0x0,
    [⟨19, 0, .ro, []⟩]⟩,
  ⟨0x6001C, [(128, 0x40)], 0x0,
    [⟨2, 0, .ro, []⟩, ⟨4, 3, .ro, []⟩, ⟨5, 5, .ro, []⟩, ⟨6, 6, .ro, []⟩, ⟨7, 7, .rw1c, []⟩, ⟨8, 8, .rw1c, []⟩,
        ⟨9, 9, .rw1c, []⟩, ⟨10, 10, .rw1c, []⟩]⟩,
  ⟨0x60020, [(128, 0x40)], 0x0,
    [⟨31, 0, .ro, []⟩]⟩,
  ⟨0x60024, [(128, 0x40)], 0x0,
    [⟨31, 0, .ro, []⟩]⟩,
  ⟨0x60028, [(128, 0x40)], 0x0,
    [⟨0, 0, .wo, []⟩]⟩]

/-- Rows of the Flint registers. -/
def rowsFlint0 : List RegRow := [
  ⟨0x40000, [], 0xFFFFFFFF,
    [⟨31, 0, .rw1c, []⟩]⟩,
  ⟨0x40004, [], 0xFFFF,
    [⟨31, 0, .rw1c, []⟩]⟩,
  ⟨0x40008, [], 0x0,
    [⟨5, 0, .rw, [(0, 47, 1)]⟩, ⟨6, 6, .wo, []⟩, ⟨7, 7, .rw, []⟩]⟩,
  ⟨0x4000C, [], 0x0,
    [⟨0, 0, .ro, []⟩, ⟨1, 1, .rw1c, []⟩, ⟨2, 2, .rw1c, []⟩, ⟨6, 3, .ro, []⟩]⟩,
  ⟨0x40100, [(48, 0x20)], 0x0,
    [⟨0, 0, .rwl, []⟩, ⟨1, 1, .rwl, []⟩, ⟨3, 2, .rwl, [(0, 2, 1)]⟩, ⟨11, 4, .rwl, []⟩]⟩,
  ⟨0x40104, [(48, 0x20)], 0x0,
    [⟨11, 0, .rwl, []⟩, ⟨27, 16, .rwl, []⟩]⟩,
  ⟨0x40108, [(48, 0x20)], 0x0,
    [⟨11, 0, .rwl, []⟩]⟩,
  ⟨0x4010C, [(48, 0x20)], 0x9C400,
    [⟨23, 0, .rwl, [(640, 16777215, 1)]⟩]⟩,
  ⟨0x40110, [(48, 0x20)], 0x4,
    [⟨0, 0, .ro, []⟩, ⟨1, 1, .ro, []⟩, ⟨2, 2, .ro, []⟩, ⟨3, 3, .ro, []⟩, ⟨4, 4, .ro, []⟩]⟩,
  ⟨0x40114, [(48, 0x20)], 0x0,
    [⟨31, 0, .ro, []⟩]⟩]

/-- Rows of the Hk registers. -/
def rowsHk0 : List RegRow := [
  ⟨0x50000, [], 0x1,
    [⟨0, 0, .rw, []⟩, ⟨1, 1, .rw, []⟩]⟩,
  ⟨0x50004, [], 0xFA00,
    [⟨23, 0, .rw, [(640, 16777215, 1)]⟩]⟩,
  ⟨0x50008, [], 0x1,
    [⟨6, 0, .rw, [(1, 64, 1)]⟩]⟩,
  ⟨0x5000C, [], 0x0,
    [⟨0, 0, .ro, []⟩, ⟨1, 1, .ro, []⟩, ⟨2, 2, .ro, []⟩, ⟨3, 3, .ro, []⟩, ⟨4, 4, .rw1c, []⟩, ⟨5, 5, .rw1c, []⟩,
        ⟨11, 6, .ro, []⟩]⟩,
  ⟨0x50010, [], 0x0,
    [⟨6, 0, .rw, [(0, 35, 1), (48, 61, 1), (64, 71, 1)]⟩, ⟨13, 7, .rw, []⟩, ⟨15, 14, .rw, [(0, 2, 1)]⟩,
        ⟨23, 16, .rw, []⟩, ⟨24, 24, .wo, []⟩]⟩,
  ⟨0x50014, [], 0x0,
    [⟨17, 0, .ro, []⟩, ⟨18, 18, .ro, []⟩, ⟨19, 19, .ro, []⟩, ⟨27, 20, .ro, []⟩]⟩,
  ⟨0x50200, [(64, 0x4)], 0x0,
    [⟨17, 0, .ro, []⟩, ⟨18, 18, .ro, []⟩, ⟨19, 19, .ro, []⟩, ⟨27, 20, .ro, []⟩]⟩,
  ⟨0x50018, [], 0x0,
    [⟨31, 0, .ro, []⟩]⟩,
  ⟨0x5001C, [], 0x0,
    [⟨31, 0, .ro, []⟩]⟩,
  ⟨0x50020, [], 0x0,
    [⟨31, 0, .ro, []⟩]⟩,
  ⟨0x50024, [], 0x0,
    [⟨0, 0, .wo, []⟩]⟩,
  ⟨0x50040, [(8, 0x4)], 0x0,
    [⟨17, 0, .ro, []⟩, ⟨18, 18, .ro, []⟩]⟩,
  ⟨0x50100, [(64, 0x4)], 0x0,
    [⟨6, 0, .rw, [(0, 35, 1), (48, 61, 1), (64, 71, 1)]⟩, ⟨13, 7, .rw, []⟩, ⟨15, 14, .rw, [(0, 2, 1)]⟩, ⟨23, 16, .rw, []⟩]⟩]

/-- Rows of the Cal registers. -/
def rowsCal0 : List RegRow := [
  ⟨0x30000, [], 0x0,
    [⟨0, 0, .wo, []⟩, ⟨1, 1, .wo, []⟩, ⟨3, 2, .wo, []⟩, ⟨9, 4, .wo, []⟩, ⟨12, 10, .wo, []⟩]⟩,
  ⟨0x30004, [], 0x0,
    [⟨2, 0, .ro, []⟩, ⟨5, 3, .ro, []⟩, ⟨6, 6, .ro, []⟩, ⟨15, 8, .ro, []⟩, ⟨23, 16, .ro, []⟩]⟩,
  ⟨0x30008, [], 0x4C4B40,
    [⟨22, 0, .rw, [(4900000, 5100000, 1)]⟩]⟩,
  ⟨0x30020, [], 0x0,
    [⟨0, 0, .ro, []⟩, ⟨1, 1, .ro, []⟩, ⟨4, 2, .ro, []⟩, ⟨31, 16, .ro, []⟩]⟩,
  ⟨0x30024, [], 0x0,
    [⟨31, 0, .ro, []⟩]⟩,
  ⟨0x30028, [], 0x0,
    [⟨31, 0, .ro, []⟩]⟩,
  ⟨0x30040, [(5, 0x10)], 0x0,
    [⟨15, 0, .ro, []⟩, ⟨31, 16, .ro, []⟩]⟩,
  ⟨0x30044, [(5, 0x10)], 0x0,
    [⟨15, 0, .ro, []⟩, ⟨31, 16, .ro, []⟩]⟩,
  ⟨0x30048, [(5, 0x10)], 0x0,
    [⟨15, 0, .ro, []⟩, ⟨21, 16, .ro, []⟩]⟩,
  ⟨0x30100, [(48, 0x4)], 0x0,
    [⟨15, 0, .ro, []⟩, ⟨31, 16, .ro, []⟩]⟩,
  ⟨0x30010, [(4, 0x4)], 0xFFFFFFFF,
    [⟨31, 0, .rw, []⟩]⟩]

/-- Rows of the Glb registers. -/
def rowsGlb0 : List RegRow := [
  ⟨0x0, [], 0x50460000,
    [⟨15, 0, .ro, []⟩, ⟨31, 16, .ro, []⟩]⟩,
  ⟨0x4, [], 0xB1,
    [⟨7, 0, .ro, []⟩, ⟨15, 8, .ro, []⟩]⟩,
  ⟨0x8, [], 0x0,
    [⟨31, 0, .ro, []⟩]⟩,
  ⟨0xC, [], 0x0,
    [⟨31, 0, .ro, []⟩]⟩,
  ⟨0x10, [], 0x0,
    [⟨2, 0, .ro, []⟩, ⟨3, 3, .ro, []⟩, ⟨4, 4, .ro, []⟩, ⟨5, 5, .ro, []⟩, ⟨6, 6, .rw1c, []⟩]⟩,
  ⟨0x14, [], 0x0,
    [⟨0, 0, .wo, []⟩, ⟨1, 1, .wo, []⟩, ⟨2, 2, .wo, []⟩]⟩,
  ⟨0x18, [], 0x0,
    [⟨0, 0, .rwl, []⟩]⟩,
  ⟨0x1C, [], 0x0,
    [⟨3, 0, .rw, []⟩, ⟨4, 4, .rw, []⟩]⟩]

/-- Rows of the Boot registers. -/
def rowsBoot0 : List RegRow := [
  ⟨0x20000, [], 0x0,
    [⟨3, 0, .ro, []⟩, ⟨11, 4, .ro, []⟩, ⟨12, 12, .ro, []⟩, ⟨13, 13, .ro, []⟩, ⟨14, 14, .rw1c, []⟩]⟩,
  ⟨0x20004, [], 0x0,
    [⟨31, 0, .ro, []⟩]⟩,
  ⟨0x20008, [], 0x0,
    [⟨31, 0, .ro, []⟩]⟩,
  ⟨0x2000C, [], 0x0,
    [⟨0, 0, .rw, []⟩]⟩,
  ⟨0x20010, [], 0x0,
    [⟨31, 0, .ro, []⟩]⟩,
  ⟨0x20014, [], 0x0,
    [⟨31, 0, .ro, []⟩]⟩,
  ⟨0x20018, [], 0x0,
    [⟨31, 0, .ro, []⟩]⟩,
  ⟨0x2001C, [], 0x0,
    [⟨31, 0, .ro, []⟩]⟩,
  ⟨0x20020, [], 0x0,
    [⟨1, 0, .rw, []⟩, ⟨2, 2, .wo, []⟩, ⟨15, 3, .rw, []⟩]⟩,
  ⟨0x20024, [], 0x0,
    [⟨25, 0, .rw, []⟩]⟩,
  ⟨0x20028, [], 0x0,
    [⟨0, 0, .ro, []⟩, ⟨1, 1, .rw1c, []⟩, ⟨4, 2, .ro, []⟩]⟩,
  ⟨0x21000, [(1024, 0x4)], 0x0,
    [⟨31, 0, .rw, []⟩]⟩]

/-- The rows of the block that holds PF0 offset `a` (18 R495). -/
def blockRows (a : Nat) : List RegRow :=
  if a ≤ 0xFFFF then rowsGlb0
  else if a ≤ 0x1FFFF then rowsTime0
  else if a ≤ 0x2FFFF then rowsBoot0
  else if a ≤ 0x3FFFF then rowsCal0
  else if a ≤ 0x4FFFF then rowsFlint0
  else if a ≤ 0x5FFFF then rowsHk0
  else if a ≤ 0x7FFFF then rowsBias0
  else if a ≤ 0xBFFFF then rowsOch0
  else if a ≤ 0xDFFFF then rowsIch0
  else if a ≤ 0xFFFFF then rowsMica0
  else if a ≤ 0x1FFFFF then rowsQtz0
  else if a ≤ 0x20FFFF then rowsGeode0
  else if a ≤ 0x21FFFF then rowsSched0
  else if a ≤ 0x22FFFF then rowsStrata0
  else if a ≤ 0x23FFFF then rowsGarnet0
  else if a ≤ 0x2FFFFF then rowsDec0
  else if a ≤ 0x33FFFF then rowsMem0
  else if a ≤ 0x37FFFF then rowsCap0
  else if a ≤ 0x3BFFFF then rowsMesh0
  else if a ≤ 0x3DFFFF then rowsPtp0
  else if a ≤ 0x3FFFFF then rowsHost0
  else if a ≤ 0xFFFFFF then rowsFrame0
  else []

/-- The rows of a VF BAR0 (13 R414). -/
def vfRows : List RegRow := rowsVf0

/-- Whether the offset `o` from a row's base names an instance of it. -/
def hitDims : List (Nat × Nat) → Nat → Bool
  | [], o => o == 0
  | (cnt, stride) :: ds, o => o / stride < cnt && hitDims ds (o % stride)

/-- Whether row `r` holds the register at offset `a`. -/
def RegRow.hit (r : RegRow) (a : Nat) : Bool := r.base ≤ a && hitDims r.dims (a - r.base)

/-- The row of the register at PF0 offset `a`; none for a reserved offset (18 R496). -/
def pf0Row (a : Nat) : Option RegRow := (blockRows a).find? (·.hit a)

/-- The row of the register at VF offset `a`. -/
def vfRow (a : Nat) : Option RegRow := vfRows.find? (·.hit a)

/-- The reset value of the register at PF0 offset `a`. -/
def pf0Reset (a : Nat) : Word :=
  match pf0Row a with
  | some r => BitVec.ofNat 32 r.reset
  | none => 0#32

/-- The reset value of a VF register, keyed 0x10_0000 x p + offset. -/
def vfReset (a : Nat) : Word :=
  match vfRow (a % 0x100000) with
  | some r => BitVec.ofNat 32 r.reset
  | none => 0#32

end Sys2Proof.Machine
end

