-- ==== Sys2Proof/Machine/State.lean ====
section
/-!
DEFINITION. The state of the block as plain data: every register (in the two register tables), every mode,
queue, buffer, counter and engine that the spec names, and the queue of commands that wait.
Each field's docstring names the chapter and rule of spec/ that gives it. Default values are the values at reset.
-/
namespace Sys2Proof.Machine


/-- The ordering variants (00 R2). -/
inductive Variant where
  | pfq6416
  | pfq3208
  | pfq1604
  deriving DecidableEq, Repr

/-- GLB_STAT.DEVMODE (17 R493). -/
inductive DevMode where
  | boot
  | run
  | calibrate
  | test
  | failed
  deriving DecidableEq, Repr

/-- A partition's mode (01 R29). -/
inductive PMode where
  | hold
  | shot
  | stream
  deriving DecidableEq, Repr

/-- A HOLD cause, in the order of VF_STATE.CAUSE (13 R414). -/
inductive HoldCause where
  | none
  | request
  | shortPress
  | longPress
  | trip
  | coreFault
  | reset
  deriving DecidableEq, Repr

/-- The execution state of a Quartz core, in the order of QTZ_STAT.STATE (04). -/
inductive CoreSt where
  | halted
  | running
  | stallLa
  | stallBrd
  | stallSync
  | stallShot
  | stallFetch
  | stallMeas
  | faulted
  | stallSched
  deriving DecidableEq, Repr

/-- What an event does at its instant (01 R23, 03, 04 R127-R135, 06 R194). -/
inductive EvKind where
  | play (frame obj ch : Nat) (gain : BitVec 16) (cw : Bool)
  | stop (frame ch : Nat)
  | setf (frame : Nat) (v : BitVec 48)
  | setph (frame : Nat) (v : BitVec 48)
  | shiftph (frame : Nat) (v : BitVec 48)
  | window (win : Nat)
  | setbias (n : Nat) (code : BitVec 20)
  | mute (ch : Nat)
  deriving DecidableEq, Repr

/-- Where an event is: in the scheduler, on its way to a port (with the tick of arrival), held at its tile,
released or applied (05 R180, R182; 01 R22). -/
inductive EvStage where
  | held
  | transit (arrives : Nat)
  | tile
  | released
  deriving DecidableEq, Repr

/-- A registered jump that is carried to the following pass (03 R95). -/
structure JumpReq where
  /-- state of the slot that the jump reads (03 R93). -/
  state : Nat := 0
  /-- segment whose table is used (03 R93). -/
  seg   : Nat := 0
  /-- the target that was read (03 R93). -/
  target : Nat := 255
  deriving DecidableEq, Repr

/-- The operands of a stalled BRD (04 R151). -/
structure BrdWait where
  /-- decision slot (04 R149). -/
  slot : Nat := 0
  /-- its binding that the BRD reads (04 R150). -/
  binding : Nat := 0
  /-- states that branch (04 R149). -/
  mask : BitVec 4 := 0#4
  /-- branch offset (04 R149). -/
  offset : Int := 0
  deriving DecidableEq, Repr

/-- TYPE of a job descriptor (13 R399). -/
inductive JobType where
  | program
  | library
  | capture
  deriving DecidableEq, Repr

/-- The content of a DECIDE packet (12 R380). -/
inductive DecideBody where
  | result (h : Head) (u : ResultPkt)
  | barrier (h : Head) (u : BarrierPkt)
  | verdict (h : Head) (u : VerdictPkt)
  | seam (h : Head) (u : SeamPkt)
  deriving DecidableEq, Repr

/-- A 32-byte unit: a result-ring record (R401) or a journal entry (R298), as eight little-endian words. -/
structure Rec where
  /-- bytes 0-3 (09 R298, 13 R401). -/
  w0 : Word := 0#32
  /-- bytes 4-7 (09 R298, 13 R401). -/
  w1 : Word := 0#32
  /-- bytes 8-11, TAG low (09 R298, 13 R401). -/
  w2 : Word := 0#32
  /-- bytes 12-15, TAG high (09 R298, 13 R401). -/
  w3 : Word := 0#32
  /-- bytes 16-19 (09 R298, 13 R401). -/
  w4 : Word := 0#32
  /-- bytes 20-23 (09 R298, 13 R401). -/
  w5 : Word := 0#32
  /-- bytes 24-27 (09 R298, 13 R401). -/
  w6 : Word := 0#32
  /-- bytes 28-31 (09 R298, 13 R401). -/
  w7 : Word := 0#32
  deriving DecidableEq, Repr

/-- One entry of the frame table. -/
structure Frame where
  /-- signed frequency word FW (02 R65). -/
  fw : BitVec 48 := 0#48
  /-- phase offset PH (02 R65). -/
  ph : BitVec 48 := 0#48
  deriving DecidableEq, Repr

/-- One active hardware loop of a Quartz core. -/
structure LoopFrame where
  /-- remaining count, 33 bits (04 R112). -/
  left : Nat := 0
  /-- index of the first body instruction (04 R112). -/
  start : Nat := 0
  /-- index of the ENDL (04 R112). -/
  stop : Nat := 0
  deriving DecidableEq, Repr

/-- One active subroutine call of a Quartz core. -/
structure CallFrame where
  /-- return index (04 R112). -/
  ret : Nat := 0
  /-- loop depth at the call (04 R112). -/
  depth : Nat := 0
  deriving DecidableEq, Repr

/-- The state, I, Q and tag that a binding resolves to and a slot holds. -/
structure Result where
  /-- decision state, 3 indeterminate (08 R247). -/
  state : BitVec 2 := 3#2
  /-- I, Q10.22 (08 R247). -/
  i : Word := 0#32
  /-- Q, Q10.22 (08 R247). -/
  q : Word := 0#32
  /-- tag word (08 R247). -/
  tag : BitVec 64 := 0#64
  deriving DecidableEq, Repr

/-- An event held by the scheduler or a tile. -/
structure Event where
  /-- acceptance number (05 R180). -/
  id : Nat := 0
  /-- owning partition (01 R13). -/
  part : Nat := 0
  /-- issuing Quartz core, 255 for the device (09 R298). -/
  core : Nat := 0
  /-- instant in output sub-ticks since the epoch (01 R22). -/
  inst : Nat := 0
  /-- what the event does (01 R23). -/
  kind : EvKind := .mute 0
  /-- shot number of its tag (01 R13). -/
  shot : Nat := 0
  /-- attempt of its tag (01 R13). -/
  attempt : Nat := 0
  /-- where the event is (05 R180, R182). -/
  stage : EvStage := .held
  /-- partition whose entry it borrows (05 R181). -/
  lender : Option Nat := none
  /-- device-inserted, from the reserve (05 R180). -/
  device : Bool := false
  /-- LATE in the tag copy (01 R22). -/
  late : Bool := false
  /-- OVF in the tag copy (03 R100). -/
  ovf : Bool := false
  /-- a link replay delayed it (01 R24). -/
  link : Bool := false
  deriving DecidableEq, Repr

/-- A pulse reserved or playing on an output channel. -/
structure Pulse where
  /-- number of the event that starts it (05 R177). -/
  id : Nat := 0
  /-- owning partition (05 R177). -/
  part : Nat := 0
  /-- output channel (03 R80). -/
  ch : Nat := 0
  /-- frame (03 R80). -/
  frame : Nat := 0
  /-- waveform object (03 R80). -/
  obj : Nat := 0
  /-- PLAY gain, Q1.15 (03 R99). -/
  gain : BitVec 16 := 0#16
  /-- T_start in sub-ticks (03 R83). -/
  start : Nat := 0
  /-- first tick of the reservation (05 R177). -/
  rsvFrom : Nat := 0
  /-- last tick of the reservation, none when open-ended (05 R177). -/
  rsvTo : Option Nat := none
  /-- a FOREVER tone (03 R86). -/
  cw : Bool := false
  /-- instant of an accepted stop (03 R86). -/
  stopAt : Option Nat := none
  /-- tone lane bound at TIME - 2 (05 R179). -/
  lane : Option Nat := none
  /-- released into a lane (03 R80). -/
  playing : Bool := false
  /-- segment in progress (03 R92). -/
  seg : Nat := 0
  /-- pass of the segment in progress (03 R92). -/
  pass : Nat := 0
  /-- next granule of the pass (03 R92). -/
  gran : Nat := 0
  /-- granules played in total (03 R92). -/
  played : Nat := 0
  /-- outputs zeros to its end after an underrun (05 R172). -/
  zeroed : Bool := false
  /-- the chain has ended, the reservation may run on (03 R92). -/
  done : Bool := false
  /-- registered jump request: the state (03 R93). -/
  req : Option Nat := none
  /-- the request registered late (03 R95). -/
  reqLate : Bool := false
  /-- late jump carried to the following pass (03 R95). -/
  carry : Option JumpReq := none
  /-- slots with the number of their latest commit that a jump of the pulse consumed (03 R93). -/
  used : List (Nat × Nat) := []
  /-- a saturated or clipped sample of the channel fell in it (03 R100, R101). -/
  ovf : Bool := false
  /-- envelope samples of the granules played, latest first, at most 512 (03 R82, R87). -/
  env : List Word := []
  /-- shot number (01 R13). -/
  shot : Nat := 0
  /-- attempt (01 R13). -/
  attempt : Nat := 0
  deriving DecidableEq, Repr

/-- A measurement window. -/
structure Window where
  /-- number of its event (06 R194). -/
  id : Nat := 0
  /-- owning partition (06 R194). -/
  part : Nat := 0
  /-- issuing Quartz core (06 R197). -/
  core : Nat := 0
  /-- input channel (04 R120). -/
  ich : Nat := 0
  /-- Mica core (04 R120). -/
  mica : Nat := 0
  /-- demodulation frame (04 R120). -/
  dframe : Nat := 0
  /-- decimation code (06 R192). -/
  dec : Nat := 0
  /-- MEAS instant in ticks (06 R194). -/
  tl : Nat := 0
  /-- window start (06 R194). -/
  ws : Nat := 0
  /-- window end (06 R194). -/
  we : Nat := 0
  /-- lane start (06 R194). -/
  ls : Nat := 0
  /-- carry c in ticks (06 R193). -/
  carry : Nat := 0
  /-- Mica program entry (04 R120). -/
  mentry : Nat := 0
  /-- bound result slot (04 R129). -/
  slot : Nat := 0
  /-- the window it chains to (06 R197). -/
  chained : Option Nat := none
  /-- demodulation lane bound at LS - 2 (06 R196). -/
  lane : Option Nat := none
  /-- its lane is open (06 R196). -/
  opened : Bool := false
  /-- output samples that have reached the lane FIFO or been dropped (07 R218). -/
  seen : Nat := 0
  /-- its context program has ended (07 R232). -/
  served : Bool := false
  /-- shot number (01 R13). -/
  shot : Nat := 0
  /-- attempt (01 R13). -/
  attempt : Nat := 0
  /-- instants of changes that R199 marks, in ticks (06 R199). -/
  marks : List Nat := []
  /-- ticks of its input span that hold an overranged sample (06 R205). -/
  ovf : List Nat := []
  /-- ticks of its input span at which the gain stage saturated (06 R207). -/
  gsat : List Nat := []
  deriving DecidableEq, Repr

/-- One outstanding binding of a result slot. -/
structure Binding where
  /-- number of the window or forwarded result (08 R248). -/
  id : Nat := 0
  /-- core that made it, 255 for none (04 R150). -/
  core : Nat := 0
  /-- what it resolved to (08 R248). -/
  result : Option Result := none
  deriving DecidableEq, Repr

/-- One result slot. -/
structure Slot where
  /-- committed state, I, Q and tag (08 R247). -/
  value : Result := {}
  /-- bindings in order of issue, at most 4 (08 R247, 04 R130). -/
  queue : List Binding := []
  /-- commits since the job started (08 R273). -/
  commits : Nat := 0
  /-- commits since S, or since the job's start, latest first: binding, state, tick (04 R150, R151). -/
  hist : List (Nat × Nat × Nat) := []
  /-- tick of the last commit (08 R249). -/
  validAt : Nat := 0
  deriving DecidableEq, Repr

/-- One decimated sample in a lane FIFO. -/
structure Sample where
  /-- I in [15:0], Q in [31:16], Q1.15 (06 R191). -/
  iq : Word := 0#32
  /-- SETTLE (06 R199). -/
  settle : Bool := false
  /-- OVF (06 R205). -/
  ovf : Bool := false
  /-- instant in ticks (06 R193). -/
  time : Nat := 0
  /-- window it belongs to (06 R193). -/
  win : Nat := 0
  deriving DecidableEq, Repr

/-- The result latch RL of a Mica context. -/
structure Latch where
  /-- decision state (07 R214). -/
  state : BitVec 2 := 3#2
  /-- I, Q10.22 (07 R234). -/
  i : Word := 0#32
  /-- Q, Q10.22 (07 R234). -/
  q : Word := 0#32
  /-- OVF copied at LATCH or DISC (07 R234). -/
  ovf : Bool := false
  /-- SETTLE copied at LATCH or DISC (07 R234). -/
  settle : Bool := false
  /-- entry and rotated result of the DISC that set it (07 R235, 08 R260). -/
  disc : Option (Nat × Int × Int) := none
  deriving DecidableEq, Repr

/-- One context of a Mica core. -/
structure Ctx where
  /-- window being served, none when idle (07 R214). -/
  win : Option Nat := none
  /-- next instruction, 12 bits (07 R214). -/
  pc : Nat := 0
  /-- ACC0-ACC3: part 2a real, 2a+1 imaginary, Q18.30 (07 R214). -/
  acc : Tab (BitVec 48) := []
  /-- X0-X15 (07 R214). -/
  x : Tab Word := []
  /-- A0-A7 (07 R214). -/
  a : Tab (BitVec 14) := []
  /-- BASE0-BASE7 (07 R214). -/
  base : Tab (BitVec 14) := []
  /-- LEN0-LEN7 (07 R214). -/
  len : Tab (BitVec 14) := []
  /-- scratch area, 1,024 words (07 R225). -/
  scratch : Tab Word := []
  /-- sticky OVF (07 R214). -/
  fOvf : Bool := false
  /-- sticky GUARD (07 R214). -/
  fGuard : Bool := false
  /-- sticky CBRST (07 R214). -/
  fCbrst : Bool := false
  /-- sticky SETTLE (07 R214). -/
  fSettle : Bool := false
  /-- compare flag N (07 R214). -/
  fN : Bool := false
  /-- compare flag Z (07 R214). -/
  fZ : Bool := false
  /-- result latch (07 R214). -/
  rl : Latch := {}
  /-- samples popped in this window (07 R214). -/
  pops : Nat := 0
  /-- samples the window delivers (07 R220). -/
  wn : Nat := 0
  /-- an EMIT has been made in this window (07 R236). -/
  emitted : Bool := false
  /-- this window is chained to the previous one (07 R231). -/
  chained : Bool := false
  /-- TIME of the last popped sample (07 R231). -/
  lastTime : Nat := 0
  /-- SETTLE of the last popped sample (07 R238). -/
  lastSettle : Bool := false
  /-- OVF of the last popped sample (07 R238). -/
  lastOvf : Bool := false
  /-- repetitions still to run after a REP (07 R230). -/
  rep : Option Nat := none
  /-- discriminator words as they stood when the window began (07 R235). -/
  disc : Tab Word := []
  /-- lane FIFO, at most 512 (07 R214). -/
  fifo : List Sample := []
  /-- window starts waiting, at most 4 (07 R214). -/
  queue : List Nat := []
  /-- the context's previous window (07 R220). -/
  prev : Option Nat := none
  deriving DecidableEq, Repr

/-- One Mica core. -/
structure Mica where
  /-- program memory, 4,096 words (07 R225). -/
  prog : Tab Word := []
  /-- constant area, 8,192 words (07 R225). -/
  const : Tab Word := []
  /-- the image's constant area (17 R478). -/
  constShadow : Tab Word := []
  /-- stopped by a fault until the HOLD entry (07 R239). -/
  stopped : Bool := false
  /-- MICA_STAT.FAULTED (07 R239). -/
  faulted : Bool := false
  /-- contexts 0-7 (07 R213). -/
  ctx : Tab Ctx := []
  deriving DecidableEq, Repr

/-- One Quartz core. -/
structure Core where
  /-- execution state (04 R140). -/
  st : CoreSt := .halted
  /-- V0-V63 (04 R112). -/
  v : Tab Word := []
  /-- timeline cursor TL in sub-ticks: 64-bit tick count and 5-bit sub-tick (04 R112). -/
  tl : Nat := 0
  /-- next instruction, 21 bits (04 R112). -/
  pc : Nat := 0
  /-- loop stack, innermost first, at most 8 (04 R112). -/
  loops : List LoopFrame := []
  /-- call stack, innermost first, at most 16 (04 R112). -/
  calls : List CallFrame := []
  /-- random-number generator (04 R112). -/
  rng : BitVec 64 := 0#64
  /-- between SHOT and ENDSHOT (04 R112). -/
  inShot : Bool := false
  /-- instruction that follows the SHOT (04 R147). -/
  shotPc : Nat := 0
  /-- instruction that follows the ENDSHOT (04 R148). -/
  endPc : Option Nat := none
  /-- loop depth at the SHOT (04 R142). -/
  shotLoops : Nat := 0
  /-- call depth at the SHOT (04 R142). -/
  shotCalls : Nat := 0
  /-- current or last shot number (04 R146). -/
  shotNo : Nat := 0
  /-- attempt of the current shot (04 R146). -/
  attempt : Nat := 0
  /-- outcome of the most recent completed shot (04 R133). -/
  lastCause : Nat := 0
  /-- ENDSHOT of this attempt executed (04 R145). -/
  ended : Bool := false
  /-- TL at that ENDSHOT (04 R145). -/
  endTl : Nat := 0
  /-- waiting at a SHOT (04 R143). -/
  atShot : Bool := false
  /-- RESET operand of the SHOT (04 R143). -/
  shotReset : Nat := 0
  /-- ID presented at a SYNC (04 R154). -/
  syncId : Option Nat := none
  /-- the SYNC has SPAN set (04 R155). -/
  syncSpan : Bool := false
  /-- tick at which the core arrived (04 R156). -/
  syncAt : Nat := 0
  /-- the core takes part in the job (04 R111). -/
  part : Bool := false
  /-- the stalled BRD (04 R151). -/
  brd : Option BrdWait := none
  /-- the stalled timed instruction (04 R117). -/
  held : Option (BitVec 64) := none
  /-- SYNC and SHOT barriers passed in this job (04 R150). -/
  passed : Nat := 0
  /-- SYNCs that the core left by timeout and that are still open: barriers passed, ID, TL (04 R156). -/
  left : List (Nat × Nat × Nat) := []
  /-- bindings this core made in the attempt: slot, binding, barriers passed, latest first (04 R150). -/
  made : List (Nat × Nat × Nat) := []
  /-- the code is longer than the instruction cache (04 R118). -/
  paged : Bool := false
  /-- lines of such code in the instruction cache, at most 2,048, latest first (04 R118). -/
  lines : List Nat := []
  /-- the load of the first 256 KiB of its code is in progress (04 R118). -/
  loading : Bool := false
  /-- tick at which the stall in progress began (04 R117). -/
  stallFrom : Nat := 0
  /-- tick of the request for scheduler entries that waits (01 R41). -/
  asked : Option Nat := none
  deriving DecidableEq, Repr

/-- A measurement descriptor. -/
structure Desc where
  /-- probe frame (04 R120). -/
  pframe : Nat := 0
  /-- probe channel, 255 for none (04 R120). -/
  poch : Nat := 255
  /-- input channel (04 R120). -/
  ich : Nat := 0
  /-- probe waveform object (04 R120). -/
  pwave : Nat := 0
  /-- probe gain (04 R120). -/
  pgain : BitVec 16 := 0#16
  /-- demodulation frame (04 R120). -/
  dframe : Nat := 0
  /-- Mica core (04 R120). -/
  mica : Nat := 0
  /-- decimation code (04 R120). -/
  dec : Nat := 0
  /-- window start offset in ticks (04 R120). -/
  wofs : Nat := 0
  /-- window length in ticks (04 R120). -/
  wlen : Nat := 1
  /-- Mica entry (04 R120). -/
  mentry : Nat := 0
  deriving DecidableEq, Repr

/-- The job in progress of a partition. -/
structure Job where
  /-- job number (13 R399). -/
  num : Nat := 0
  /-- TYPE byte of the descriptor (13 R405). -/
  typeByte : Nat := 1
  /-- TYPE of the descriptor (13 R399). -/
  type : JobType := .program
  /-- FLAGS.NOTIFY (13 R399). -/
  notify : Bool := false
  /-- USERTAG (13 R399). -/
  usertag : BitVec 64 := 0#64
  /-- the program's instructions (04 R119). -/
  code : List (BitVec 64) := []
  /-- the program's measurement descriptors (04 R120). -/
  descs : List Desc := []
  /-- OP bytes of the operations of a library job (05 R162). -/
  ops : List Nat := []
  /-- OBJ of each of them (05 R162). -/
  opObjs : List Nat := []
  /-- object whose load-pinned pages the operation in progress waits for (05 R167). -/
  waitObj : Option Nat := none
  /-- index of the next library operation (05 R162). -/
  next : Nat := 0
  /-- operations that succeeded (13 R405). -/
  okCount : Nat := 0
  /-- index and code of the first failed operation (13 R405). -/
  failed : Option (Nat × Nat) := none
  /-- shots delivered (13 R405). -/
  delivered : Nat := 0
  /-- shots failed (13 R405). -/
  failedShots : Nat := 0
  /-- ticks of the THROUGHPUT record (01 R45). -/
  wait : Nat := 0
  /-- lowest rank among the waits (01 R46). -/
  waitRank : Nat := 5
  /-- tick of the first wait (01 R44). -/
  waitFirst : Nat := 0
  /-- separate waits (01 R44). -/
  waits : Nat := 0
  /-- tick of the latest wait: a wait that goes on is one occurrence (01 R44). -/
  waitLast : Nat := 0
  /-- job start (04 R126). -/
  startTick : Nat := 0
  /-- TIME in sub-ticks of the last event the job issued (03 R107). -/
  lastEvent : Nat := 0
  /-- the cold-start set has been requested (05 R171). -/
  scanned : Bool := false
  deriving DecidableEq, Repr

/-- One taint cause of an attempt. -/
structure Taint where
  /-- cause code (09 R285). -/
  cause : Nat := 0
  /-- DTIME of detection (09 R286). -/
  tick : Nat := 0
  /-- RESOURCE of its error record (09 R304). -/
  res : Nat := 0
  /-- tag of the affected unit (09 R304). -/
  tag : BitVec 64 := 0#64
  /-- DETAIL where the resource gives it (09 R304). -/
  det : Nat := 0
  deriving DecidableEq, Repr

/-- The attempt in progress of a partition. -/
structure Attempt where
  /-- between S and judgement (04 R145). -/
  active : Bool := false
  /-- start S in ticks (04 R143). -/
  s : Nat := 0
  /-- end E in ticks, once known (04 R145). -/
  e : Option Nat := none
  /-- attempt number (09 R284). -/
  num : Nat := 0
  /-- shot number (04 R146). -/
  shotNo : Nat := 0
  /-- causes in order of detection (09 R286). -/
  taints : List Taint := []
  /-- journal entries used (09 R297). -/
  entries : Nat := 0
  /-- journal number of the OPEN entry (09 R299). -/
  relFrom : Nat := 0
  /-- result, jump and user records of the attempt, oldest first (09 R299). -/
  recs : List Rec := []
  /-- samples for the tracking loops: 4 x core + entry, rotated result, state (08 R260). -/
  discs : List (Nat × Int × Int × Nat) := []
  /-- verdicts of span devices: device, verdict, cause (09 R294). -/
  spanVerdicts : List (Nat × Nat × Nat) := []
  /-- tick of the judgement, local while it waits for the span, and kept until the next attempt (09 R295, 08 R264). -/
  localDone : Option Nat := none
  deriving DecidableEq, Repr

/-- One syndrome round of a Garnet graph. -/
structure GRound where
  /-- round number in the sequence (08 R273). -/
  num : Nat := 0
  /-- detection values of the layer detectors (08 R273). -/
  det : List Bool := []
  /-- erased detectors (08 R273). -/
  erased : List Bool := []
  /-- tick of completion (08 R280). -/
  doneAt : Nat := 0
  /-- the final round (08 R274). -/
  final : Bool := false
  /-- DECODE_LATE has been raised (08 R280). -/
  late : Bool := false
  /-- detection values of the final detectors (08 R274). -/
  fdet : List Bool := []
  /-- erased final detectors (08 R274). -/
  ferased : List Bool := []
  /-- parity of each observable's data slots, 2 for an erasure (08 R281). -/
  odata : List Nat := []
  /-- shot it belongs to (08 R280). -/
  shot : Nat := 0
  /-- attempt it belongs to (08 R280). -/
  attempt : Nat := 0
  deriving DecidableEq, Repr

/-- The running state of a Garnet graph. -/
structure GRun where
  /-- a sequence is open (08 R274). -/
  inseq : Bool := false
  /-- number of the round being collected (08 R273). -/
  round : Nat := 0
  /-- reference m of each layer detector (08 R273). -/
  m : Tab Bool := []
  /-- commits not yet in a round, oldest first: layer detector, state (08 R273). -/
  got : List (Nat × Nat) := []
  /-- commits of final source slots not yet in a final round, oldest first: slot, state (08 R274). -/
  fgot : List (Nat × Nat) := []
  /-- X record of each qubit entry (08 R281). -/
  xrec : Tab Bool := []
  /-- Z record of each qubit entry (08 R281). -/
  zrec : Tab Bool := []
  /-- rounds waiting, oldest first (08 R279). -/
  backlog : List GRound := []
  /-- rounds in the window, oldest first (08 R279). -/
  window : List GRound := []
  /-- round whose pass runs (08 R279). -/
  busy : Option GRound := none
  /-- final rounds whose GARNET bindings are made and that are not yet complete (08 R251, R274). -/
  bound : Nat := 0
  /-- final source slots of the MEAS issued towards rounds that are not yet complete (08 R274). -/
  fmeas : List Nat := []
  /-- observable parities of the finalised corrections (08 R281). -/
  obs : BitVec 8 := 0#8
  /-- the pass waits for the seam exchange (08 R282). -/
  seamWait : Bool := false
  /-- entries of the neighbour's seam packets: active edge, flags (08 R282). -/
  seam : List (Nat × Nat) := []
  /-- Pauli-frame writes due: frame, tick (08 R281). -/
  pauli : List (Nat × Nat) := []
  deriving DecidableEq, Repr

/-- A detector entry of a Garnet graph. -/
structure Det where
  /-- 0 LAYER, 1 FINAL, 2 SEAM (08 R276). -/
  kind : Nat := 0
  /-- reference layer detector of a FINAL entry (08 R276). -/
  prev : Nat := 0
  /-- source slots (08 R276). -/
  src : List Nat := []
  deriving DecidableEq, Repr

/-- An edge entry of a Garnet graph. -/
structure Edge where
  /-- A word (08 R277). -/
  a : Nat := 0
  /-- B word (08 R277). -/
  b : Nat := 0
  /-- weight (08 R277). -/
  w : Nat := 1
  /-- observables flipped (08 R277). -/
  obs : BitVec 8 := 0#8
  /-- PAULI word (08 R277). -/
  pauli : BitVec 16 := 0#16
  deriving DecidableEq, Repr

/-- A Garnet detector graph. -/
structure Graph where
  /-- the partition holds a graph (08 R272). -/
  valid : Bool := false
  /-- MODE BACKLOG (08 R275). -/
  backlogMode : Bool := false
  /-- SEAM (08 R275). -/
  seam : Bool := false
  /-- WIN (08 R275). -/
  win : Nat := 2
  /-- STATEMAP (08 R275). -/
  statemap : BitVec 8 := 0#8
  /-- layer detectors (08 R276). -/
  layer : List Det := []
  /-- final detectors (08 R276). -/
  final : List Det := []
  /-- layer edges (08 R277). -/
  ledges : List Edge := []
  /-- final edges (08 R277). -/
  fedges : List Edge := []
  /-- observables: OSLOT and data slots (08 R278). -/
  obs : List (Nat × List Nat) := []
  /-- qubit entries: frame, ZAPPLY (08 R278). -/
  qubits : List (Nat × Bool) := []
  /-- running state (08 R283). -/
  run : GRun := {}
  deriving DecidableEq, Repr

/-- What Strata records of a partition at S. -/
structure Checkpoint where
  /-- FW and PH of the partition's frames (09 R290). -/
  frames : Tab Frame := []
  /-- the frames recorded (09 R290). -/
  owned : List Nat := []
  /-- core state of each participating core (09 R290). -/
  cores : Tab Core := []
  /-- value and tag of the partition's slots (09 R290). -/
  slots : Tab Slot := []
  /-- Garnet state (09 R290). -/
  graph : GRun := {}
  /-- a checkpoint is held (09 R290). -/
  valid : Bool := false
  deriving DecidableEq, Repr

/-- One partition. -/
structure Part where
  /-- HOLD, SHOT or STREAM (01 R29). -/
  mode : PMode := .hold
  /-- last HOLD cause (13 R414). -/
  cause : HoldCause := .none
  /-- tick of the last HOLD entry (01 R33). -/
  holdAt : Nat := 0
  /-- a resume is required (01 R30). -/
  resumeNeeded : Bool := false
  /-- partition reset in progress (13 R412). -/
  rbusy : Bool := false
  /-- hold queued for the shot boundary (01 R29). -/
  holdReq : Option HoldCause := none
  /-- the VF is in D3hot (13 R391). -/
  d3 : Bool := false
  /-- VF_STATE bits set in this tick; 20 and 21: HOLD and RESUME commanded in it by VF_CMD, 22 and 23 by HOST_PCMD
  (18 R502). -/
  fresh : List Nat := []
  /-- 32-byte units of capture records on chip that DRAM has not yet taken (10 R330). -/
  capWait : Nat := 0
  /-- VF_STATE.DBERR (13 R394). -/
  dberr : Bool := false
  /-- VF_STATE.CFGERR (13 R414). -/
  cfgerr : Bool := false
  /-- VF_STATE.PRESET (13 R411). -/
  preset : Bool := false
  /-- the rings are enabled (13 R393). -/
  enabled : Bool := false
  /-- P, descriptors posted (13 R393). -/
  posted : Nat := 0
  /-- T, jobs taken (13 R393). -/
  taken : Nat := 0
  /-- W, result-ring bytes written (13 R393). -/
  written : Nat := 0
  /-- C, result-ring bytes consumed (13 R393). -/
  consumed : Nat := 0
  /-- completion records written (13 R414). -/
  done : Nat := 0
  /-- records dropped (13 R398). -/
  rlost : Nat := 0
  /-- records written to the result ring, latest first (13 R395). -/
  ring : List Rec := []
  /-- count word last written (13 R395). -/
  countWord : Nat := 0
  /-- records waiting in the on-chip queue, oldest first (13 R398). -/
  waitq : List Rec := []
  /-- delivered records held in the journal until released, oldest first (09 R299). -/
  relq : List Rec := []
  /-- delivered attempts not fully released: number of the OPEN entry, number that follows the VERDICT entry, records
  still to write (09 R299). -/
  relMarks : List (Nat × Nat × Nat) := []
  /-- jobs with NOTIFY whose completion record is not yet written (13 R399, R408). -/
  notifies : List Nat := []
  /-- job in progress (13 R399). -/
  job : Option Job := none
  /-- attempt in progress (04 R145). -/
  attempt : Attempt := {}
  /-- end of the previous attempt (04 R143). -/
  prevE : Option Nat := none
  /-- end of the last shot whose ENDSHOT every core of the program has executed (04 R126). -/
  shotE : Option Nat := none
  /-- number of the next shot (04 R146). -/
  shotNext : Nat := 0
  /-- the next SHOT start is a replay (04 R147). -/
  replay : Bool := false
  /-- checkpoint (09 R290). -/
  ckpt : Checkpoint := {}
  /-- journal area, by entry number modulo its size (09 R296). -/
  journal : Tab Rec := []
  /-- entries written since reset (09 R296). -/
  jcount : Nat := 0
  /-- number of the latest OPEN entry (09 R296). -/
  jopen : Nat := 0
  /-- on-chip journal buffer, oldest first, at most 4,096 (09 R297). -/
  jbuf : List Rec := []
  /-- entries written in the present 1,024 ticks (09 R297). -/
  jused : Nat := 0
  /-- TLs received from span devices, in sub-ticks: device + 64 for a SHOT + 128 x ID + 32,768 x shot number, TL
  (04 R155). -/
  barrierTl : List (Nat × Nat) := []
  /-- keys of the TLs that have still to come for barriers that are over (04 R156). -/
  barrierOwed : List Nat := []
  /-- tick at which the partition sent its TL for the SHOT at which it waits (04 R156). -/
  offeredAt : Nat := 0
  /-- tracking probe shot in progress: loop, shot B (08 R264). -/
  probe : Option (Nat × Bool) := none
  /-- events of the probe shot still to be issued, with their ticks; a window names the loop (08 R264). -/
  probeActs : List (Nat × EvKind) := []
  /-- yield records collected: those of this shot, and those of loans until the borrower's shot boundary (01 R46, R47). -/
  yields : List Rec := []
  /-- coalescing periods: key, period start, record, occurrences (09 R289). -/
  quiet : List (Nat × Nat × Rec × Nat) := []
  /-- pages of the cold-start set of the job's first shot: object, page (05 R171). -/
  cold : List (Nat × Nat) := []
  /-- ticks for which a posted job has waited for room in the record queue (13 R398). -/
  jobWait : Nat := 0
  /-- fills within its quota in the present 1,024 ticks (05 R170). -/
  fillUsed : Nat := 0
  /-- half BU of its fill and journal shares lent in the present 1,024 ticks (11 R356). -/
  lent : Nat := 0
  deriving DecidableEq, Repr

/-- One segment entry of a waveform chain. -/
structure Seg where
  /-- start of the data in granules (03 R91). -/
  offset : Nat := 0
  /-- length in granules (03 R91). -/
  len : Nat := 4
  /-- the segment has a jump table (03 R91). -/
  jen : Bool := false
  /-- jump results are delivered as records (03 R91). -/
  report : Bool := false
  /-- FOREVER (03 R91). -/
  forever : Bool := false
  /-- passes - 1 (03 R91). -/
  reps : Nat := 0
  /-- slot that feeds the jump table (03 R91). -/
  jslot : Nat := 0
  /-- jump targets for states 0, 1, 2 and indeterminate (03 R91). -/
  jt : BitVec 32 := 0#32
  deriving DecidableEq, Repr

/-- A loaded waveform object. -/
structure Obj where
  /-- owning partition (05 R160). -/
  part : Nat := 0
  /-- envelope rate code (03 R90). -/
  rate : Nat := 0
  /-- LIMIT of the chain header (03 R90). -/
  limit : Nat := 0
  /-- segments (03 R90). -/
  segs : List Seg := []
  /-- envelope data (05 R161). -/
  data : List Byte := []
  /-- object pages (05 R161). -/
  npages : Nat := 0
  /-- bytes of the padded chain (05 R161). -/
  headBytes : Nat := 64
  /-- cache set of each object page (05 R166). -/
  sets : List Nat := []
  /-- longest play in granules, none for FOREVER (05 R177). -/
  maxlen : Option Nat := none
  /-- pages in the head set (05 R169). -/
  head : Nat := 0
  /-- load-pinned (05 R167). -/
  pinned : Bool := false
  /-- DAMAGED (05 R175). -/
  damaged : Bool := false
  /-- object pages that have failed once on a fill (05 R175). -/
  ecc : List Nat := []
  deriving DecidableEq, Repr

/-- A cache page that holds, or is being filled with, a library page. -/
structure Page where
  /-- waveform object (05 R167). -/
  obj : Nat := 0
  /-- object page (05 R167). -/
  page : Nat := 0
  /-- cache set (05 R166). -/
  set : Nat := 0
  /-- the data is valid (05 R167). -/
  filled : Bool := false
  /-- load-pinned (05 R167). -/
  loadPin : Bool := false
  /-- use pins: partition, user (a pulse, hint or hold), tick up to which it may be needed (05 R169). -/
  pins : List (Nat × Nat × Nat) := []
  /-- partition whose pin quota the pin borrows (05 R174). -/
  lent : Option Nat := none
  /-- order of the last use, for least recently used (05 R167). -/
  used : Nat := 0
  /-- tick of the request (05 R170). -/
  requested : Nat := 0
  /-- due tick of the earliest need (05 R169). -/
  due : Nat := 0
  /-- the fill waits for a way of its set (05 R174). -/
  setFull : Bool := false
  /-- the pin waits for quota (05 R174). -/
  quotaWait : Bool := false
  /-- use pins that wait for quota (05 R174). -/
  want : List (Nat × Nat × Nat) := []
  deriving DecidableEq, Repr

/-- One tracking loop. -/
structure Loop where
  /-- 0 OFF, 1 HOLDING, 2 TRACKING, 4 BOUND, 5 SUSPENDED (08 R264, R268). -/
  state : Nat := 0
  /-- FREEZE is in effect (08 R269). -/
  frozen : Bool := false
  /-- samples per state (08 R261). -/
  n : List Nat := [0, 0, 0]
  /-- sums of x per state, in units of 2^-37 (08 R261). -/
  sx : List Int := [0, 0, 0]
  /-- sums of y per state (08 R261). -/
  sy : List Int := [0, 0, 0]
  /-- samples or pairs since the last update (08 R261). -/
  count : Nat := 0
  /-- valid probe pairs (08 R265). -/
  pairs : Nat := 0
  /-- results of state 1 in shots A (08 R265). -/
  onesA : Nat := 0
  /-- results of state 1 in shots B (08 R265). -/
  onesB : Nat := 0
  /-- FREEZE write waiting for the shot boundary (08 R269). -/
  freezePend : Option Bool := none
  /-- a probe pair is due at this boundary (08 R263). -/
  due : Bool := false
  /-- FW change waiting for the next S (08 R267). -/
  fwPend : Option (BitVec 48) := none
  /-- record of the FW change that is to apply: EVENT, DELTA, COUNT (08 R270). -/
  fwNote : Option (Nat × Int × Nat) := none
  /-- tracking reference (08 R259). -/
  ref : BitVec 64 := 0#64
  deriving DecidableEq, Repr

/-- A record in a capture ring. -/
structure CapRec where
  /-- TYPE (10 R312). -/
  type : Nat := 0
  /-- SRC (10 R312). -/
  src : Nat := 0
  /-- UNITS (10 R312). -/
  units : Nat := 1
  /-- FNS (10 R312). -/
  fns : Word := 0#32
  /-- TAG (10 R312). -/
  tag : BitVec 64 := 0#64
  /-- bytes 16 onwards, as words (10 R313-R317). -/
  body : List Word := []
  /-- stored as poisoned (11 R345). -/
  poison : Bool := false
  /-- 4 KiB page at which the poison was found, 0 for a record received poisoned (11 R345). -/
  badPage : Nat := 0
  /-- requests (2^16 x partition + REQID) whose burst must end before it may drain (10 R320). -/
  hold : List Nat := []
  deriving DecidableEq, Repr

/-- A gap collected from one source. -/
structure Gap where
  /-- CAUSE (10 R330). -/
  cause : Nat := 0
  /-- SRC (10 R331). -/
  src : Nat := 0
  /-- records lost (10 R316). -/
  records : Nat := 0
  /-- samples lost (10 R316). -/
  samples : Nat := 0
  /-- full DTIME of the first loss (10 R316). -/
  first : Nat := 0
  /-- full DTIME of the last loss (10 R316). -/
  last : Nat := 0
  /-- facility time at the first loss (10 R316). -/
  ffirst : BitVec 64 := 0#64
  /-- frame of the source (10 R316). -/
  frame : Nat := 0
  /-- tick at which it opened (10 R331). -/
  opened : Nat := 0
  deriving DecidableEq, Repr

/-- A SAMPLES record being collected. -/
structure Samples where
  /-- Mica core (10 R313). -/
  mica : Nat := 0
  /-- context (10 R313). -/
  ctx : Nat := 0
  /-- tick of sample 0 (10 R313). -/
  first : Nat := 0
  /-- tick at which sample 0 was appended (10 R313). -/
  appended : Nat := 0
  /-- tag of sample 0 (10 R313). -/
  tag : BitVec 64 := 0#64
  /-- samples: value, DT, SETTLE, OVF (10 R313). -/
  items : List (Word × Nat × Bool × Bool) := []
  deriving DecidableEq, Repr

/-- One capture ring. -/
structure Ring where
  /-- attached host buffer: address, size, count-word address (10 R318). -/
  host : Option (BitVec 64 × Nat × BitVec 64) := none
  /-- records held, oldest first (10 R310). -/
  recs : List CapRec := []
  /-- records copied to the host buffer, latest first (10 R327). -/
  out : List CapRec := []
  /-- bytes written to the host buffer since ATTACH (10 R327). -/
  drained : Nat := 0
  /-- bytes the host has consumed (10 R327). -/
  consumed : Nat := 0
  /-- SAMPLES records being collected (10 R313). -/
  coll : List Samples := []
  /-- records of Mica cores that wait for older SAMPLES records of their core: TIME, record, samples (10 R311). -/
  held : List (Nat × CapRec × Nat) := []
  /-- open gaps (10 R331). -/
  gaps : List Gap := []
  /-- cause, source and tick of the last gap record (10 R331). -/
  gapAt : List (Nat × Nat × Nat) := []
  /-- tick of the ring's last TIME record (10 R317). -/
  lastTime : Option Nat := none
  /-- facility time was stepped since the last record (10 R317). -/
  stepped : Bool := false
  /-- an epoch load changed DTIME since the last record (10 R317). -/
  epoch : Bool := false
  /-- next packet sequence number, sent or expected (12 R381). -/
  rseq : Nat := 0
  /-- packets held: out of order, at most 64, or while DRAM is in deep HOLD (12 R359, R382). -/
  early : List (Nat × List CapRec) := []
  deriving DecidableEq, Repr

/-- One tapped block: the 16 samples of one input tick. -/
structure TapBlock where
  /-- input channel (10 R321). -/
  ch : Nat := 0
  /-- input tick (10 R321). -/
  tick : Nat := 0
  /-- the block in the format of 06 R210 (10 R321). -/
  data : List Word := []
  /-- it holds an overranged sample (10 R315). -/
  ovr : Bool := false
  deriving DecidableEq, Repr

/-- An armed raw capture request. -/
structure Req where
  /-- owning partition (10 R318). -/
  part : Nat := 0
  /-- capture ring (10 R318). -/
  ring : Nat := 0
  /-- REQID (10 R318). -/
  reqid : Nat := 0
  /-- channels (10 R318). -/
  chmask : BitVec 16 := 0#16
  /-- packed format (10 R318). -/
  fmt : Bool := false
  /-- trigger source (10 R318). -/
  tsrc : Nat := 0
  /-- monitor or Mica core (10 R318). -/
  tidx : Nat := 0
  /-- EMITR CODE that triggers (10 R318). -/
  tcode : Nat := 0
  /-- pre-trigger ticks (10 R318). -/
  pre : Nat := 0
  /-- post-trigger ticks (10 R318). -/
  post : Nat := 1
  /-- bursts still to run, none spent when 0 means until disarmed (10 R318). -/
  count : Nat := 0
  /-- COUNT is 0 (10 R318). -/
  forever : Bool := false
  /-- the reservation is held (10 R320). -/
  armed : Bool := false
  /-- units reserved (10 R320). -/
  resv : Nat := 0
  /-- tick at which acquisition began (10 R323). -/
  since : Nat := 0
  /-- burst in progress: first tick, end tick, next tick (10 R323). -/
  burst : Option (Nat × Nat × Nat) := none
  /-- bursts completed: the number of the burst in progress (10 R315). -/
  bursts : Nat := 0
  /-- a trigger whose burst begins with the next tick: tick of its registration, and T (10 R324). -/
  trig : Option (Nat × Nat) := none
  /-- blocks of the pre-trigger zone and of the burst, latest first (10 R321). -/
  zone : List TapBlock := []
  deriving DecidableEq, Repr

/-- One DRAM bank. -/
structure Bank where
  /-- open row (11 R351). -/
  row : Option Nat := none
  /-- row L of the last access (11 R351). -/
  last : Nat := 0
  /-- history H (11 R352). -/
  hist : BitVec 4 := 0#4
  /-- sixteen saturating counters, 0b01 when unlisted (11 R352). -/
  ctr : Tab (BitVec 2) := []
  /-- rows whose directed refresh is queued, oldest first, at most 4 (11 R353). -/
  pending : List Nat := []
  /-- rows that the last directed refreshes of the fallback activated (11 R353). -/
  refreshed : List Nat := []
  deriving DecidableEq, Repr

/-- The memory controller. -/
structure Mem where
  /-- banks, by 64 x channel + 32 x subchannel + bank (11 R351). -/
  banks : Tab Bank := []
  /-- events counted per 4 KiB page (11 R344). -/
  pages : Tab Nat := []
  /-- retired pages remapped, by page number: 1 + region code (11 R347). -/
  remaps : Tab Nat := []
  /-- pages whose copy is in progress (11 R347). -/
  copying : List Nat := []
  /-- bursts written with the poison pattern (11 R343). -/
  poisoned : List Nat := []
  /-- refresh interval halved, by channel (11 R337). -/
  interval : Tab Bool := []
  /-- a training record rewrite is due or in progress (11 R340). -/
  rewrite : Bool := false
  /-- next page of the patrol scrub (11 R348). -/
  scrubAt : Nat := 0
  /-- same-bank refreshes issued, by channel (11 R337). -/
  refreshes : Tab Nat := []
  /-- work that waits for the exit from deep HOLD, oldest first: 1 a CAL_CMD, 2 a test command, 3 a journal-window read;
  with its data (11 R359). -/
  waits : List (Nat × Word) := []
  /-- ZQ calibrations run, by channel (11 R341). -/
  zq : Tab Nat := []
  /-- read-DQS tracking updates, by channel (11 R341). -/
  dqs : Tab Nat := []
  deriving DecidableEq, Repr

/-- A DECIDE packet held until its due tick. -/
structure Decide where
  /-- receiving port (12 R377). -/
  port : Nat := 0
  /-- due tick (12 R377). -/
  due : Nat := 0
  /-- it arrived after its due tick (12 R377). -/
  late : Bool := false
  /-- content (12 R380). -/
  body : DecideBody := .result {} {}
  deriving DecidableEq, Repr

/-- A codeword: whether it is a control codeword, and its byte (12 R364, R365). -/
abbrev Code := Bool × Byte

/-- A DECIDE or BULK packet on its way out (12 R371, R372). -/
structure Packet where
  /-- 0 DECIDE, 1 BULK within its partition's share, 2 DECIDE beyond share outside a begun shot, 3 BULK beyond share
  (12 R384). -/
  rank : Nat := 0
  /-- partition whose share it uses (12 R383). -/
  part : Nat := 0
  /-- ticks until it waits at the transmitter (12 R377). -/
  delay : Nat := 0
  /-- sequence number on its lane (12 R373). -/
  seq : Nat := 0
  /-- RETRY: a retransmission (12 R371). -/
  again : Bool := false
  /-- header and payload, with SEQ and RETRY 0 (12 R371). -/
  body : List Byte := []
  deriving DecidableEq, Repr

/-- One mesh lane. -/
structure Lane where
  /-- trained (12 R367). -/
  trained : Bool := false
  /-- its training in this bring-up has failed (12 R367). -/
  failed : Bool := false
  /-- signal present (12 R367). -/
  signal : Bool := false
  /-- aligned to codewords (12 R365). -/
  aligned : Bool := false
  /-- transmit side asleep (12 R386). -/
  txSleep : Bool := false
  /-- receive side asleep (12 R386). -/
  rxSleep : Bool := false
  /-- the partner requests transmit sleep (12 R386). -/
  peerReq : Bool := false
  /-- next sequence number to send (12 R373). -/
  txSeq : Nat := 0
  /-- the retry buffer, oldest first: sequence number, times sent, packet (12 R373). -/
  retry : List (Nat × Nat × Packet) := []
  /-- packets of the retry buffer that wait to be sent (12 R372). -/
  wait : List Packet := []
  /-- LINK packets that wait, by kind (12 R372). -/
  linkWait : List Nat := []
  /-- codewords left of the TIME, DECIDE or LINK packet in progress (12 R372). -/
  cur : List Code := []
  /-- codewords left of the BULK packet in progress (12 R372). -/
  bulk : List Code := []
  /-- ticks until a further DECIDE packet may start (12 R378). -/
  gap : Nat := 0
  /-- partition whose BULK beyond share was served last (12 R384). -/
  turn : Nat := 7
  /-- DECIDE and BULK packets, or codewords of a test pattern, sent (12 R388). -/
  sent : Nat := 0
  /-- LINK packets sent (12 R373). -/
  links : Nat := 0
  /-- running disparity of the transmitter, true for positive (12 R364). -/
  txRd : Bool := false
  /-- last symbol of the precoder (12 R364). -/
  txPre : Nat := 0
  /-- running disparity of the receiver (12 R364). -/
  rxRd : Bool := false
  /-- last symbol received (12 R364). -/
  rxPre : Nat := 0
  /-- levels sent in the last tick, in order (12 R364). -/
  levels : List Int := []
  /-- retraining (12 R368). -/
  retraining : Bool := false
  /-- taken out of its port by MESH_TEST (12 R388). -/
  testing : Bool := false
  deriving DecidableEq, Repr

/-- One mesh port. -/
structure Port where
  /-- lanes 0-7 (12 R361). -/
  lanes : Tab Lane := []
  /-- DECIDE packets handed to the transmitter: destination device and content, latest first (12 R380). -/
  out : List (Nat × DecideBody) := []
  /-- TIME packets that wait for their launch, oldest first: subtype and what of the payload is known (12 R372, R375). -/
  timeWait : List (Nat × BitVec 64 × BitVec 64) := []
  /-- DECIDE and BULK packets that no lane has room for, oldest first (12 R373). -/
  wait : List Packet := []
  /-- an ACK is owed for packets received (12 R373). -/
  ackOwed : Bool := false
  /-- BULK in MU handed on in the present 1,024 ticks, by partition (12 R383). -/
  bused : Tab Nat := []
  /-- TIME packets launched: subtype and payload, latest first (12 R375). -/
  timeOut : List (Nat × BitVec 64 × BitVec 64) := []
  /-- DECIDE packets sent in the present 1,024 ticks, by partition (12 R383). -/
  dused : Tab Nat := []
  /-- LINK packets handed to the transmitter: kind and lane, latest first (12 R386). -/
  notices : List (Nat × Nat) := []
  /-- BULK packets handed to the transmitter: destination device, ring, sequence number, records (12 R381). -/
  bulkOut : List (Nat × Nat × Nat × List CapRec) := []
  /-- tile tick count of the last PROBE sent (12 R375). -/
  probeAt : Nat := 0
  /-- tick at which the port entered DETECT (12 R367). -/
  detectAt : Nat := 0
  deriving DecidableEq, Repr

/-- One PTP domain. -/
structure Dom where
  /-- identity of the chosen master (14 R423). -/
  master : Option (BitVec 64) := none
  /-- masters heard: port, tick at which the last Announce lapses, its content (14 R423). -/
  foreign : List (Nat × Nat × Announce) := []
  /-- logMessageInterval of the master's Syncs (14 R428). -/
  syncLog : Int := 1
  /-- tick at which the chosen master's last Announce lapses (14 R428). -/
  annAt : Nat := 0
  /-- tick of the last accepted Sync (14 R428). -/
  syncAt : Nat := 0
  /-- master send time of the last Sync with its corrections, in units of 2^-16 / 5 ns (14 R424). -/
  t1 : Int := 0
  /-- receive time of the last Sync, same unit (14 R424). -/
  t2 : Int := 0
  /-- a Sync of the chosen master has been accepted (14 R424). -/
  synced : Bool := false
  /-- mean path delay, same unit (14 R424). -/
  delay : Int := 0
  /-- sequence of a Sync that waits for its Follow_Up (14 R424). -/
  waitFu : Option Nat := none
  /-- tick of that Sync (14 R424). -/
  waitTick : Nat := 0
  /-- send time of the last Delay_Req (14 R424). -/
  t3 : Int := 0
  /-- sequence of the Delay_Req outstanding (14 R424). -/
  reqSeq : Option Nat := none
  /-- next Delay_Req sequence (14 R423). -/
  seq : Nat := 0
  /-- consecutive Syncs within LOCK_IN (14 R421). -/
  inCount : Nat := 0
  /-- consecutive Syncs beyond LOCK_OUT (14 R421). -/
  outCount : Nat := 0
  /-- the domain has locked (14 R421). -/
  locked : Bool := false
  /-- logMinDelayReqInterval of the master (14 R423). -/
  logMin : Int := 0
  deriving DecidableEq, Repr

/-- One bias output. -/
structure Bias where
  /-- a span change is in progress (15 R439). -/
  changing : Bool := false
  /-- span requested (15 R439). -/
  spanTo : Nat := 0
  /-- target that follows the switch (15 R439). -/
  codeTo : Int := 0
  /-- accepted SETBIAS in hand: tick from which it may act, acceptance number, 20-bit code, late (15 R436). -/
  events : List (Nat × Nat × Nat × Bool) := []
  /-- frame of the next limiter step (15 R437). -/
  next : Option Nat := none
  /-- ramps to code 0 and then clamps (15 R440). -/
  clampAfter : Bool := false
  /-- frame Z of the clamp (15 R439). -/
  zFrame : Option Nat := none
  /-- target, span and clamp recorded at entry to CALIBRATE or TEST (15 R440). -/
  recorded : Option (Int × Nat × Bool) := none
  /-- target (15 R437). -/
  target : Int := 0
  /-- code in force (15 R437). -/
  out : Int := 0
  /-- code at the converter until 32 ticks after the last step (15 R435). -/
  prev : Int := 0
  /-- frame of the last step (15 R435). -/
  moved : Nat := 0
  /-- tick at which the current limit had last acted for 1 µs (15 R441). -/
  shortAt : Option Nat := none
  deriving DecidableEq, Repr

/-- The housekeeping converter. -/
structure Hk where
  /-- entry in progress (15 R450). -/
  entry : Nat := 0
  /-- scan count (15 R450). -/
  count : Nat := 0
  /-- SEL, SUB and GAIN of the previous conversion (15 R450). -/
  last : Option (Nat × Nat × Nat) := none
  /-- injected request: SEL, SUB, GAIN, AVG (15 R453). -/
  inj : Option (Nat × Nat × Nat × Nat) := none
  /-- the injected conversion is the one in progress (15 R453). -/
  injRun : Bool := false
  /-- a temperature insertion is due (15 R452). -/
  temps : Bool := false
  /-- scan list taken at the scan start (15 R450). -/
  list : List (Nat × Nat × Nat × Nat) := []
  deriving DecidableEq, Repr

/-- The calibration engine and store. -/
structure Cal where
  /-- a run is in progress (16 R462). -/
  run : Bool := false
  /-- items of the run (16 R462). -/
  items : Nat := 0
  /-- set the run writes (16 R466). -/
  set : Nat := 0
  /-- CAL_REFV as the run took it (18 R503). -/
  refv : Nat := 0
  /-- CAL_BMASK as the run took it (18 R503). -/
  bmask : BitVec 128 := 0#128
  /-- a commit is in progress (16 R464). -/
  commit : Bool := false
  /-- bytes of the store in force, 0 when unlisted (16 R469). -/
  store : Tab Byte := []
  /-- a valid store is in force (16 R465). -/
  valid : Bool := false
  /-- temperatures at the run's start: CD0-CD3 and the analogue die (16 R466). -/
  startTemp : List Int := []
  /-- 1 + tick of the last trim update of each of these, 0 for none (16 R468). -/
  lastTrim : Tab Nat := []
  /-- reading of the analogue die at which the trims of that die in force were taken (16 R468). -/
  anaTemp : Int := 0
  /-- what waits for its trims: OCH n, 64 + m for ICH m, 80 for the analogue die (16 R468). -/
  trimDue : List Nat := []
  /-- sub-converter trims in force of input channel m: offset in 1/16 code, gain in 0.001 %, skew in 0.01 ps (06 R189). -/
  subs : Tab (List (Int × Int × Int)) := []
  /-- latest tick at which no reservation of input channel m was held (06 R201). -/
  freeAt : Tab Nat := []
  deriving DecidableEq, Repr

/-- Reset, boot and flash control. -/
structure Boot where
  /-- the reset is held: RESET_N low, rails, thermal shutdown or EXTEST (17 R488). -/
  held : Bool := true
  /-- the boot in progress follows a warm reset (17 R488). -/
  warm : Bool := false
  /-- a warm reset waits for the bias outputs (17 R489). -/
  biasWait : Bool := false
  /-- bias outputs that WARM_HOLD keeps through the warm reset (15 R440). -/
  kept : List Nat := []
  /-- overrides, latest last (17 R484). -/
  overrides : List (Nat × Word) := []
  /-- the other slot is being tried (17 R481). -/
  second : Bool := false
  /-- the TAP is in EXTEST (19 R522). -/
  extest : Bool := false
  /-- thermal shutdown (19 R523). -/
  thermal : Bool := false
  /-- flash command in progress: OP, ADDR, LEN and the buffer bytes (17 R486). -/
  flOp : Option (Nat × Nat × Nat × List Byte) := none
  /-- a READ has not yet filled the buffer (18 R503). -/
  flLeft : Bool := false
  /-- a calibration-area write-back is in progress (17 R480). -/
  wb : Bool := false
  /-- the last write-back succeeded (17 R480). -/
  wrote : Bool := false
  /-- half of the booted slot's calibration area in force (17 R479). -/
  half : Option Nat := none
  /-- GEN of that half (17 R479). -/
  gen : Nat := 0
  /-- NETID section (17 R474). -/
  netid : List Byte := []
  /-- tracking descriptor table (17 R474). -/
  trkDesc : List Desc := []
  /-- span number of each partition, 255 for none (17 R476). -/
  spanOf : List Nat := []
  /-- partner partitions (17 R476). -/
  partner : List Byte := []
  /-- ticks since the boot started (17 R494). -/
  ticks : Nat := 0
  deriving DecidableEq, Repr

/-- Pins the device drives or samples as levels. -/
structure Pins where
  /-- SYNC_OUT (02 R56). -/
  syncOut : Bool := false
  /-- ticks for which SYNC_OUT stays high (02 R56). -/
  syncLeft : Nat := 0
  /-- TRIP_OUT_N[3:0] pulled low (15 R444). -/
  tripOut : BitVec 4 := 15#4
  /-- THERM_N pulled low (19 R523). -/
  therm : Bool := false
  /-- Tq_TXDIS high (14 R422). -/
  txdis : BitVec 2 := 3#2
  /-- 1 + tick since which TRIG_IN has been sampled low, 0 while it is high (10 R322). -/
  trigLow : Nat := 0
  /-- the PCI Express link is up (13 R391). -/
  linkUp : Bool := false
  /-- PF0 is in D3hot (13 R391). -/
  d3 : Bool := false
  /-- the DRAM clocks are stopped (11 R358). -/
  phyIdle : Bool := false
  deriving DecidableEq, Repr

/-- Device time. -/
structure Time where
  /-- DTIME (02 R52). -/
  dtime : BitVec 64 := 0#64
  /-- sub-tick at which the sample counters restarted (02 R55). -/
  sample : Nat := 0
  /-- an epoch load is armed (02 R53). -/
  armed : Bool := false
  /-- tick at which the arm was accepted (02 R54). -/
  armAt : Nat := 0
  /-- ticks since the capture edge E (02 R55). -/
  edge : Option Nat := none
  /-- progress of the load: 1 command distributed, 2 tile copies loaded (02 R55). -/
  stage : Nat := 0
  /-- SYNC_OUT has repeated the captured pulse (02 R56). -/
  repeated : Bool := false
  /-- epoch value taken at the arm (02 R55, 18 R501). -/
  epoch : BitVec 64 := 0#64
  /-- epoch value V that an armed follower is to load (02 R58). -/
  follow : Option (BitVec 64) := none
  /-- tick at which that value came (12 R375). -/
  followAt : Nat := 0
  /-- tick of the last re-measurement of the parent that moved the fine skew (02 R60). -/
  slewAt : Option Nat := none
  /-- tick of the last TIME packet of the parent (02 R60). -/
  parentAt : Nat := 0
  /-- the tile clocks count (02 R52). -/
  running : Bool := false
  /-- the reference is lost (02 R51). -/
  lost : Bool := false
  /-- tick at which REF_LOST cleared (02 R51). -/
  clearAt : Option Nat := none
  /-- end of the SETTLE interval after a loss (02 R51). -/
  settleTo : Nat := 0
  /-- start of the SETTLE interval (02 R51). -/
  settleFrom : Nat := 0
  /-- instant at which gains and zones were last applied to the input channels (06 R200). -/
  gainAt : Option Nat := none
  /-- facility time FT, 32.32 ns (14 R416). -/
  ft : BitVec 64 := 0#64
  /-- facility time before each change of its course in the last 2^24 ticks, oldest first: tick, FT there, INC until then
  (10 R312). -/
  ftPast : List (Nat × BitVec 64 × Nat) := []
  /-- frequency term of the servo, in units of 2^-32 ns per tick (14 R419). -/
  freq : Int := 0
  /-- fine skew, in units of 1/256 ps (02 R60). -/
  skew : Int := 0
  deriving DecidableEq, Repr

/-- The output stage of one output channel beyond its registers. -/
structure ChanSt where
  /-- latest mute or unmute edge: boundary B and whether it unmutes (03 R105). -/
  edge : Option (Nat × Bool) := none
  /-- first output sample not yet formed (03 R81). -/
  evalTo : Nat := 0
  /-- last code formed (03 R81). -/
  last : Int := 0
  /-- codes of the tick formed last, by sub-tick (03 R81). -/
  codes : List Int := []
  /-- levels at the balls of that tick in units of 2^-31 code, none on the terminations (03 R105, R109). -/
  balls : List (Option Int) := []
  deriving DecidableEq, Repr

/-- Errors counted against one resource. -/
structure HwErr where
  /-- ticks of the errors within W, latest first (09 R301). -/
  times : List Nat := []
  /-- the resource is retired (09 R302). -/
  retired : Bool := false
  deriving DecidableEq, Repr

/-- The event fabric: scheduler, tiles, windows and channels. -/
structure Fab where
  /-- ring that drained to its host buffer last (10 R328). -/
  drainTurn : Nat := 31
  /-- next acceptance number (05 R180). -/
  nextId : Nat := 1
  /-- events held, in acceptance order (05 R180). -/
  events : List Event := []
  /-- pulses reserved or playing (05 R177). -/
  pulses : List Pulse := []
  /-- windows accepted and not yet finished (06 R194). -/
  wins : List Window := []
  /-- output channels (03 R103). -/
  chans : Tab ChanSt := []
  /-- deferred device-originated frame writes: frame, value, replaces FW, partition, source (06 R204). -/
  deferred : List (Nat × BitVec 48 × Bool × Nat × Nat) := []
  /-- result units on their way to the fabric: window, tick of arrival, content (07 R236). -/
  units : List (Nat × Nat × Result) := []
  /-- user records of STREAM mode held until DTIME reaches their TIME: partition, TIME, record (04 R134). -/
  users : List (Nat × Nat × Rec) := []
  /-- frame writes of the last 512 ticks, oldest first: frame, instant in sub-ticks, value before (02 R66, R69). -/
  past : List (Nat × Nat × Frame) := []
  /-- blocks of gain-stage samples that lanes may still need, by input channel, latest first: tick, 16 samples (06 R191). -/
  inputs : Tab (List (Nat × List Int)) := []
  /-- free-value counter: uses of values that the spec leaves open (the model's own). -/
  freeN : Nat := 0
  deriving DecidableEq, Repr

/-- Geode. -/
structure Geo where
  /-- waveform objects (05 R160). -/
  objs : Tab (Option Obj) := []
  /-- cache pages that are not free (05 R167). -/
  pages : List Page := []
  /-- set after the one assigned last (05 R166). -/
  nextSet : Nat := 0
  /-- pages filled in the present 1,024 ticks, and what earlier ones exceeded the capacity by (05 R170). -/
  fills : Nat := 0
  /-- of those, fills of capacity that no quota commits (05 R170). -/
  freeFills : Nat := 0
  /-- order counter of page uses (05 R167). -/
  clock : Nat := 0
  deriving DecidableEq, Repr

/-- The PF0 event ring. -/
structure Ev where
  /-- bytes written (13 R409). -/
  written : Nat := 0
  /-- bytes consumed (13 R409). -/
  consumed : Nat := 0
  /-- records written, latest first (13 R409). -/
  ring : List Rec := []
  /-- records waiting, at most 256, oldest first (13 R409). -/
  waitq : List Rec := []
  /-- count word last written (13 R395). -/
  countWord : Nat := 0
  /-- coalescing periods (09 R289). -/
  quiet : List (Nat × Nat × Rec × Nat) := []
  deriving DecidableEq, Repr

/-- MSI-X signalling. -/
structure Irq where
  /-- interrupts sent, by 4 x function + vector (13 R408). -/
  fired : Tab Nat := []
  /-- tick of the first event not yet signalled (13 R408). -/
  pendAt : Tab (Option Nat) := []
  /-- tick at which the vector last fired (13 R408). -/
  lastAt : Tab (Option Nat) := []
  /-- words of the MSI-X tables, by 16 x function + word; PRESUMED (log 16): every entry is masked after a reset
  (18 R495, R506). -/
  table : Tab Word := []
  deriving DecidableEq, Repr

/-- The data a read returned, and what each function has latched. -/
structure Rd where
  /-- data of the last register read (18 R498). -/
  data : Word := 0#32
  /-- the last read completed with the EP bit set (11 R345). -/
  poisoned : Bool := false
  /-- captured words, by function and register offset (18 R500). -/
  hi : Tab Word := []
  /-- entries returned by the last journal-window read (09 R300). -/
  entry : List Rec := []
  deriving DecidableEq, Repr

/-- The Flint self-test and the comparators. -/
structure FlintT where
  /-- monitor under test (15 R447). -/
  mon : Nat := 0
  /-- step in progress (15 R447). -/
  step : Option Nat := none
  /-- tick at which the step began (15 R447). -/
  started : Nat := 0
  /-- TOQUIET as the self-test took it (15 R447). -/
  quiet : Bool := false
  deriving DecidableEq, Repr

/-- The whole machine. -/
structure State where
  /-- ordering variant, fused (00 R2). -/
  variant : Variant := .pfq6416
  /-- device serial number, fused (17 R493). -/
  serial : BitVec 64 := 0#64
  /-- BOOT, partitions run, CALIBRATE, TEST or BOOT_FAILED (01 R29, 17 R493). -/
  mode : DevMode := .boot
  /-- PF0 registers whose value differs from their reset value, by byte offset (18 R495). -/
  regs : Tab Word := []
  /-- PF0 registers as they stood when the tick began, less what was cleared or set anew since (18 R502). -/
  before : Tab Word := []
  /-- VF registers, by 0x10_0000 x p + offset (18 R506). -/
  vregs : Tab Word := []
  /-- register reads (18 R498). -/
  rd : Rd := {}
  /-- device time and facility time (02 R52). -/
  time : Time := {}
  /-- reset and boot (17 R482). -/
  boot : Boot := {}
  /-- pins (19 R521). -/
  pins : Pins := {}
  /-- QSPI flash, by address; an unlisted byte reads 0xFF (17 R471). -/
  flash : Tab Byte := []
  /-- partitions (01 R25). -/
  parts : Tab Part := []
  /-- Quartz cores (04 R111). -/
  cores : Tab Core := []
  /-- Mica cores (07 R212). -/
  micas : Tab Mica := []
  /-- frame table as applied (02 R65). -/
  frames : Tab Frame := []
  /-- frame table as issued, shown by the PF0 window (02 R67). -/
  issued : Tab Frame := []
  /-- image defaults of the frames (17 R478). -/
  frameShadow : Tab Frame := []
  /-- owner of each frame: 1 + partition, 0 for unassigned (01 R26). -/
  frameOwner : Tab Nat := []
  /-- image defaults of the discriminator entries, by register offset (17 R478). -/
  discShadow : Tab Word := []
  /-- event fabric (05 R180). -/
  fab : Fab := {}
  /-- Geode (05 R160). -/
  geo : Geo := {}
  /-- result slots (08 R246). -/
  slots : Tab Slot := []
  /-- tracking loops (08 R257). -/
  loops : Tab Loop := []
  /-- Garnet graphs, by partition (08 R272). -/
  graphs : Tab Graph := []
  /-- capture rings (10 R309). -/
  rings : Tab Ring := []
  /-- armed capture requests (10 R318). -/
  reqs : List Req := []
  /-- errors per resource, by 2^24 x kind + index (09 R301). -/
  errs : Tab HwErr := []
  /-- memory controller (11 R334). -/
  mem : Mem := {}
  /-- mesh ports (12 R361). -/
  ports : Tab Port := []
  /-- DECIDE packets held until due (12 R377). -/
  dueq : List Decide := []
  /-- PTP domains (14 R427). -/
  doms : Tab Dom := []
  /-- bias outputs (15 R433). -/
  biases : Tab Bias := []
  /-- Flint self-test (15 R447). -/
  flint : FlintT := {}
  /-- housekeeping converter (15 R448). -/
  hk : Hk := {}
  /-- calibration (16 R457). -/
  cal : Cal := {}
  /-- PF0 event ring (13 R409). -/
  ev : Ev := {}
  /-- interrupts (13 R408). -/
  irq : Irq := {}
  /-- commands waiting, first in, first out (the model's own). -/
  pending : List Instr := []
  deriving DecidableEq, Repr

/-- Why the block would stop. No command of the table does: every rule of the spec describes an effect. -/
inductive Fault where
  /-- Raised by no command; it stands for an internal contradiction of the model. Safe: nothing can be proved
  of a next state. -/
  | impossible
  deriving DecidableEq, Repr

/-- Why a command has no meaning in the model. -/
inductive Refusal where
  /-- Raised by `exec` for a command that has no meaning yet. Safe. -/
  | notModelled (mnemonic : String)
  deriving DecidableEq, Repr

/-- The machine right after reset: RESET_N is still held, the device is in BOOT, nothing is loaded
(17 R482, R488; values that the spec does not state: log 3, 4, 5, 6). -/
def State.reset : State := {}

end Sys2Proof.Machine
end

