-- ==== Sys2Proof/Machine/Tab.lean ====
section
/-!
DEFINITION. The operations of sparse tables. A table is canonical when its indices rise strictly and no entry
equals what an unlisted index reads as; `d` gives that value for each index.
-/
namespace Sys2Proof.Machine

/-- What a table holds at index `i`. -/
def look {α : Type} (d : Nat → α) : Tab α → Nat → α
  | [], i => d i
  | (j, v) :: t, i => if i = j then v else look d t i

/-- The table without index `i`. -/
def drop {α : Type} : Tab α → Nat → Tab α
  | [], _ => []
  | (j, v) :: t, i => if i = j then drop t i else (j, v) :: drop t i

/-- The table with `v` listed at the index `i`, which it does not list. -/
def insert {α : Type} : Tab α → Nat → α → Tab α
  | [], i, v => [(i, v)]
  | (j, w) :: t, i, v => if i < j then (i, v) :: (j, w) :: t else (j, w) :: insert t i v

/-- The table after a write of `v` at index `i`. -/
def put {α : Type} [DecidableEq α] (d : Nat → α) (t : Tab α) (i : Nat) (v : α) : Tab α :=
  if v = d i then drop t i else insert (drop t i) i v

/-- Whether every index of the table exceeds `n`, they rise strictly, and no entry is the default. -/
def wfAbove {α : Type} [DecidableEq α] (d : Nat → α) (n : Nat) : Tab α → Bool
  | [] => true
  | (j, v) :: t => decide (n < j) && !(decide (v = d j)) && wfAbove d j t

/-- The canonical form of a table. -/
def wf {α : Type} [DecidableEq α] (d : Nat → α) : Tab α → Bool
  | [] => true
  | (j, v) :: t => !(decide (v = d j)) && wfAbove d j t

end Sys2Proof.Machine
end

