-- ==== Sys2Proof/Machine/Ops.lean ====
section
/-!
DEFINITION. The named operations over the state: the two register tables, the arrays, device time, and what each
ordering variant has.
-/
namespace Sys2Proof.Machine

/-! Answers. -/

/-- The answer of a command whose effect gives `t` from `s`. No command touches the queue or the fuses, and
none that answers so writes the flash. -/
def answer (s t : State) : Host.Outcome State Fault Refusal :=
  .next { t with pending := s.pending, variant := s.variant, serial := s.serial, flash := s.flash }

/-- What an unlisted byte of the QSPI flash reads as: the erased value (log 6). -/
def flashDef (_ : Nat) : Byte := 0xFF#8

/-- The flash bytes `l` from address `a`, programmed or erased to those values. -/
def putBytes (fl : Tab Byte) : Nat → List Byte → Tab Byte
  | _, [] => fl
  | a, b :: l => putBytes (put flashDef fl a b) (a + 1) l

/-- The flash with `n` bytes from address `a` erased. -/
def eraseBytes (fl : Tab Byte) (a n : Nat) : Tab Byte := fl.filter fun x => decide (x.1 < a) || decide (a + n ≤ x.1)

/-- The flash after the ranges `er` are erased and then the bytes of `wr` written, in order. -/
def flashAct (fl : Tab Byte) (er : List (Nat × Nat)) (wr : List (Nat × List Byte)) : Tab Byte :=
  wr.foldl (fun fl x => putBytes fl x.1 x.2) (er.foldl (fun fl x => eraseBytes fl x.1 x.2) fl)

/-- The answer of a command that also erases and writes the flash. -/
def answerFlash (s t : State) (er : List (Nat × Nat)) (wr : List (Nat × List Byte)) : Host.Outcome State Fault Refusal :=
  .next { t with pending := s.pending, variant := s.variant, serial := s.serial, flash := flashAct s.flash er wr }

/-! Numbers. -/

/-- Bits [hi:lo] of `w` (00 R7). -/
def bits (w hi lo : Nat) : Nat := (w >>> lo) % 2 ^ (hi + 1 - lo)

/-- Bit `i` of `w`. -/
def bitOf (w i : Nat) : Bool := (w >>> i) % 2 == 1

/-- `w` with bits [hi:lo] replaced by the low bits of `v`. -/
def setBits (w hi lo v : Nat) : Nat :=
  w - (bits w hi lo <<< lo) + ((v % 2 ^ (hi + 1 - lo)) <<< lo)

/-- The two's complement value of the low `n` bits of `x` (00 R8). -/
def toSigned (n x : Nat) : Int :=
  let y := x % 2 ^ n
  if 2 * y < 2 ^ n then (y : Int) else (y : Int) - (2 ^ n : Nat)

/-- `x` modulo 2^n, as the n-bit two's complement code. -/
def wrapInt (n : Nat) (x : Int) : Nat := (x % ((2 ^ n : Nat) : Int)).toNat

/-- `x` clamped to lo..hi. -/
def clamp (lo hi x : Int) : Int := if x < lo then lo else if hi < x then hi else x

/-- Floor division by 2^k. -/
def asr (x : Int) (k : Nat) : Int := x / ((2 ^ k : Nat) : Int)

/-- n / d rounded to a neighbour, in no stated direction (log 14). -/
def roundOpen (site : Nat) (n : Int) (d : Nat) : Int :=
  if n % (d : Int) ≠ 0 ∧ Config.roundsUp site n d = true then n / (d : Int) + 1 else n / (d : Int)

/-- n / d rounded to nearest, ties in no stated direction (log 14). -/
def roundTie (site : Nat) (n : Int) (d : Nat) : Int :=
  let q := (2 * n + (d : Int)) / (2 * (d : Int))
  if (2 * n + (d : Int)) % (2 * (d : Int)) = 0 ∧ Config.roundsUp site n d = false then q - 1 else q

/-- `x` / 2^k rounded to nearest, ties upwards. -/
def roundUp (x : Int) (k : Nat) : Int := if k = 0 then x else asr (x + ((2 ^ (k - 1) : Nat) : Int)) k

/-- The number 0 or 1 of a Bool. -/
def bn (b : Bool) : Nat := if b then 1 else 0

/-- Saturating 32-bit count after `n` more. -/
def satAdd (w n : Nat) (width : Nat := 32) : Nat := if w + n < 2 ^ width then w + n else 2 ^ width - 1

/-- The little-endian value of bytes (00 R8). -/
def leBytes : List Byte → Nat
  | [] => 0
  | b :: l => b.toNat + 256 * leBytes l

/-- The little-endian field of `n` bytes at offset `o` of `l`; absent bytes read 0. -/
def le (l : List Byte) (o n : Nat) : Nat := leBytes ((l.drop o).take n)

/-- `n` as `k` little-endian bytes. -/
def toBytes : Nat → Nat → List Byte
  | 0, _ => []
  | k + 1, n => BitVec.ofNat 8 n :: toBytes k (n / 256)

/-- Whether every bit of the field is 0. -/
def allZero (l : List Byte) : Bool := l.all (· == 0#8)

/-- One step of the reflected CRC of polynomial `poly` over one bit. -/
def crcBit (poly : Nat) (c : Nat) : Nat := if c % 2 = 1 then (c / 2) ^^^ poly else c / 2

/-- One step of the reflected CRC over one byte. -/
def crcByte (poly : Nat) (c : Nat) (b : Byte) : Nat :=
  let x := c ^^^ b.toNat
  crcBit poly (crcBit poly (crcBit poly (crcBit poly (crcBit poly (crcBit poly (crcBit poly (crcBit poly x)))))))

/-- CRC-32 of the IEEE 802.3 polynomial. -/
def crc32 (l : List Byte) : Nat := l.foldl (crcByte 0xEDB88320) 0xFFFFFFFF ^^^ 0xFFFFFFFF

/-- `l` with the `n` bytes from offset `o` taken as 0. -/
def blank (l : List Byte) (o n : Nat) : List Byte := l.take o ++ List.replicate n 0#8 ++ l.drop (o + n)

/-! What each variant has (00 R2). -/

/-- 64, 32 or 16 for the three variants: the number of output channels. -/
def State.nOch (s : State) : Nat := match s.variant with | .pfq6416 => 64 | .pfq3208 => 32 | .pfq1604 => 16
def State.nIch (s : State) : Nat := s.nOch / 4
def State.nDie (s : State) : Nat := s.nOch / 16
def State.nBias (s : State) : Nat := 2 * s.nOch
def State.nQtz (s : State) : Nat := s.nOch / 4
def State.nMica (s : State) : Nat := s.nOch
def State.nPart (s : State) : Nat := match s.variant with | .pfq1604 => 4 | _ => 8
def State.nPort (s : State) : Nat := s.nOch / 16
def State.nChan (s : State) : Nat := s.nOch / 8
def State.hasGarnet (s : State) : Bool := s.variant != .pfq1604
def State.nDet (s : State) : Nat := match s.variant with | .pfq6416 => 8192 | .pfq3208 => 4096 | .pfq1604 => 0
def State.nEdge (s : State) : Nat := 4 * s.nDet
/-- Whether Flint monitor `m` is usable: a pin, or an envelope detector whose group lies within the channels. -/
def State.hasMon (s : State) (m : Nat) : Bool := m < 32 || (m - 32 < s.nOch / 4 && m < 48)
/-- Calibration store: temperature sets (00 R2). -/
def State.nSets (s : State) : Nat := match s.variant with | .pfq6416 => 5 | _ => 1

/-! Registers (18 R495, R506). -/

/-- PF0 register at byte offset `a`. -/
def State.reg (s : State) (a : Nat) : Word := look pf0Reset s.regs a
def State.regN (s : State) (a : Nat) : Nat := (s.reg a).toNat
def State.setReg (s : State) (a : Nat) (v : Word) : State := { s with regs := put pf0Reset s.regs a v }
def State.setN (s : State) (a v : Nat) : State := s.setReg a (BitVec.ofNat 32 v)
/-- Field [hi:lo] of PF0 register `a`. -/
def State.fld (s : State) (a hi lo : Nat) : Nat := bits (s.regN a) hi lo
def State.setFld (s : State) (a hi lo v : Nat) : State := s.setN a (setBits (s.regN a) hi lo v)
def State.bit (s : State) (a i : Nat) : Bool := bitOf (s.regN a) i
def State.setBit (s : State) (a i : Nat) (b : Bool) : State := s.setFld a i i (bn b)
/-- What register `a` held when the tick began, less what was cleared or set anew since. -/
def State.beforeN (s : State) (a : Nat) : Nat := (look pf0Reset s.before a).toNat
def State.setBefore (s : State) (a v : Nat) : State := { s with before := put pf0Reset s.before a (BitVec.ofNat 32 v) }
/-- The device sets the RW1C bit `i` of register `a`: a 1 written to it in the same tick does not clear it (18 R502). -/
def State.stick (s : State) (a i : Nat) : State := (s.setBefore a (setBits (s.beforeN a) i i 0)).setBit a i true
/-- Counter register `a` is cleared: what was counted in this tick stays counted (18 R502). -/
def State.clearCount (s : State) (a : Nat) : State := (s.setN a (s.regN a - s.beforeN a)).setBefore a 0
/-- The counter registers `l` are cleared. -/
def State.clearCounts (s : State) (l : List Nat) : State := l.foldl State.clearCount s
/-- Counter register `a`, saturating, after `n` more. -/
def State.inc (s : State) (a : Nat) (n : Nat := 1) : State := s.setN a (satAdd (s.regN a) n)
/-- Counter field [hi:lo] of register `a`, saturating, after `n` more. -/
def State.incFld (s : State) (a hi lo : Nat) (n : Nat := 1) : State :=
  s.setFld a hi lo (satAdd (s.fld a hi lo) n (hi + 1 - lo))
/-- Register `a` raised to `v` where it holds less. -/
def State.maxReg (s : State) (a v : Nat) : State := if s.regN a < v then s.setN a v else s

/-- VF register at offset `o` of VF(p + 1). -/
def State.vreg (s : State) (p o : Nat) : Word := look vfReset s.vregs (0x100000 * p + o)
def State.vregN (s : State) (p o : Nat) : Nat := (s.vreg p o).toNat
def State.setV (s : State) (p o v : Nat) : State :=
  { s with vregs := put vfReset s.vregs (0x100000 * p + o) (BitVec.ofNat 32 v) }

/-- Sets every listed register to 0. -/
def State.zeroRegs (s : State) (l : List Nat) : State := l.foldl (fun s a => s.setN a 0) s

/-! Arrays. -/

def State.part (s : State) (p : Nat) : Part := look (fun _ => {}) s.parts p
def State.updPart (s : State) (p : Nat) (f : Part → Part) : State :=
  { s with parts := put (fun _ => {}) s.parts p (f (s.part p)) }
def State.qtz (s : State) (c : Nat) : Core := look (fun _ => {}) s.cores c
def State.updQtz (s : State) (c : Nat) (f : Core → Core) : State :=
  { s with cores := put (fun _ => {}) s.cores c (f (s.qtz c)) }
def State.mica (s : State) (k : Nat) : Mica := look (fun _ => {}) s.micas k
def State.updMica (s : State) (k : Nat) (f : Mica → Mica) : State :=
  { s with micas := put (fun _ => {}) s.micas k (f (s.mica k)) }
/-- Context x of Mica core k. -/
def State.ctx (s : State) (k x : Nat) : Ctx := look (fun _ => {}) (s.mica k).ctx x
def State.updCtx (s : State) (k x : Nat) (f : Ctx → Ctx) : State :=
  s.updMica k fun m => { m with ctx := put (fun _ => {}) m.ctx x (f (look (fun _ => {}) m.ctx x)) }
/-- Frame f as applied (02 R65). -/
def State.frame (s : State) (f : Nat) : Frame := look (fun _ => {}) s.frames f
def State.setFrame (s : State) (f : Nat) (v : Frame) : State :=
  { s with frames := put (fun _ => {}) s.frames f v }
/-- Frame f as issued (02 R67). -/
def State.frameIssued (s : State) (f : Nat) : Frame := look (fun _ => {}) s.issued f
def State.setIssued (s : State) (f : Nat) (v : Frame) : State :=
  { s with issued := put (fun _ => {}) s.issued f v }
def State.slot (s : State) (i : Nat) : Slot := look (fun _ => {}) s.slots i
def State.updSlot (s : State) (i : Nat) (f : Slot → Slot) : State :=
  { s with slots := put (fun _ => {}) s.slots i (f (s.slot i)) }
def State.loop (s : State) (l : Nat) : Loop := look (fun _ => {}) s.loops l
/-- STATE of a loop: FROZEN while FREEZE is in effect, but for a loop that is BOUND or SUSPENDED (08 R264, R268, log 137). -/
def Loop.shown (x : Loop) : Nat := if x.frozen && x.state != 4 && x.state != 5 then 3 else x.state
def State.updLoop (s : State) (l : Nat) (f : Loop → Loop) : State :=
  { s with loops := put (fun _ => {}) s.loops l (f (s.loop l)) }
def State.graph (s : State) (p : Nat) : Graph := look (fun _ => {}) s.graphs p
def State.updGraph (s : State) (p : Nat) (f : Graph → Graph) : State :=
  { s with graphs := put (fun _ => {}) s.graphs p (f (s.graph p)) }
def State.ring (s : State) (r : Nat) : Ring := look (fun _ => {}) s.rings r
def State.updRing (s : State) (r : Nat) (f : Ring → Ring) : State :=
  { s with rings := put (fun _ => {}) s.rings r (f (s.ring r)) }
def State.port (s : State) (q : Nat) : Port := look (fun _ => {}) s.ports q
def State.updPort (s : State) (q : Nat) (f : Port → Port) : State :=
  { s with ports := put (fun _ => {}) s.ports q (f (s.port q)) }
def State.lane (s : State) (q l : Nat) : Lane := look (fun _ => {}) (s.port q).lanes l
def State.updLane (s : State) (q l : Nat) (f : Lane → Lane) : State :=
  s.updPort q fun m => { m with lanes := put (fun _ => {}) m.lanes l (f (look (fun _ => {}) m.lanes l)) }
def State.dom (s : State) (d : Nat) : Dom := look (fun _ => {}) s.doms d
def State.updDom (s : State) (d : Nat) (f : Dom → Dom) : State :=
  { s with doms := put (fun _ => {}) s.doms d (f (s.dom d)) }
def State.bias (s : State) (n : Nat) : Bias := look (fun _ => {}) s.biases n
def State.updBias (s : State) (n : Nat) (f : Bias → Bias) : State :=
  { s with biases := put (fun _ => {}) s.biases n (f (s.bias n)) }
def State.chan (s : State) (n : Nat) : ChanSt := look (fun _ => {}) s.fab.chans n
def State.updFab (s : State) (f : Fab → Fab) : State := { s with fab := f s.fab }
def State.updChan (s : State) (n : Nat) (f : ChanSt → ChanSt) : State :=
  s.updFab fun b => { b with chans := put (fun _ => {}) b.chans n (f (look (fun _ => {}) b.chans n)) }
def State.err (s : State) (key : Nat) : HwErr := look (fun _ => {}) s.errs key
def State.updErr (s : State) (key : Nat) (f : HwErr → HwErr) : State :=
  { s with errs := put (fun _ => {}) s.errs key (f (s.err key)) }
def State.bank (s : State) (b : Nat) : Bank := look (fun _ => {}) s.mem.banks b
def State.updMem (s : State) (f : Mem → Mem) : State := { s with mem := f s.mem }
def State.updBank (s : State) (b : Nat) (f : Bank → Bank) : State :=
  s.updMem fun m => { m with banks := put (fun _ => {}) m.banks b (f (look (fun _ => {}) m.banks b)) }
def State.updTime (s : State) (f : Time → Time) : State := { s with time := f s.time }
def State.updBoot (s : State) (f : Boot → Boot) : State := { s with boot := f s.boot }
def State.updPins (s : State) (f : Pins → Pins) : State := { s with pins := f s.pins }
def State.updGeo (s : State) (f : Geo → Geo) : State := { s with geo := f s.geo }
def State.updCal (s : State) (f : Cal → Cal) : State := { s with cal := f s.cal }
def State.updHk (s : State) (f : Hk → Hk) : State := { s with hk := f s.hk }
def State.updRd (s : State) (f : Rd → Rd) : State := { s with rd := f s.rd }

/-- `f` applied to the state for each index of the list, in order. -/
def State.forEach {α : Type} (s : State) (l : List α) (f : State → α → State) : State := l.foldl f s

/-! Time. -/

/-- DTIME in ticks (02 R52). DESIGN CHOICE (log 126): the copy of the core die equals that of the tiles, where 01 R19 and
02 R57 bound the difference by 2 ticks. -/
def State.now (s : State) : Nat := s.time.dtime.toNat

/-! Ownership (01 R26). A resource that the image gives to no partition has no owner. -/

def State.ochOwner (s : State) (n : Nat) : Option Nat :=
  if s.bit (OCH_CTRL n) 11 then some (s.fld (OCH_CTRL n) 10 8) else none
def State.ichOwner (s : State) (m : Nat) : Option Nat :=
  if s.bit (ICH_CTRL m) 11 then some (s.fld (ICH_CTRL m) 10 8) else none
def State.qtzOwner (s : State) (c : Nat) : Option Nat :=
  if s.bit (QTZ_CFG c) 3 then some (s.fld (QTZ_CFG c) 2 0) else none
def State.micaOwner (s : State) (k : Nat) : Option Nat :=
  if s.bit (MICA_CFG k) 3 then some (s.fld (MICA_CFG k) 2 0) else none
def State.biasOwner (s : State) (n : Nat) : Option Nat :=
  if s.bit (BIAS_CFG n) 3 then some (s.fld (BIAS_CFG n) 2 0) else none
def State.slotOwner (s : State) (i : Nat) : Option Nat :=
  if s.bit (DEC_SLOTCFG i) 3 then some (s.fld (DEC_SLOTCFG i) 2 0) else none
def State.frameOwn (s : State) (f : Nat) : Option Nat :=
  match look (fun _ => 0) s.frameOwner f with
  | 0 => none
  | q + 1 => some q

/-- The channels, cores, frames, slots that partition `p` owns. -/
def State.ochsOf (s : State) (p : Nat) : List Nat := (List.range s.nOch).filter fun n => s.ochOwner n == some p
def State.ichsOf (s : State) (p : Nat) : List Nat := (List.range s.nIch).filter fun n => s.ichOwner n == some p
def State.qtzOf (s : State) (p : Nat) : List Nat := (List.range s.nQtz).filter fun n => s.qtzOwner n == some p
def State.micasOf (s : State) (p : Nat) : List Nat := (List.range s.nMica).filter fun n => s.micaOwner n == some p
def State.biasesOf (s : State) (p : Nat) : List Nat := (List.range s.nBias).filter fun n => s.biasOwner n == some p
def State.slotsOf (s : State) (p : Nat) : List Nat := (List.range 512).filter fun n => s.slotOwner n == some p
/-- Frames are listed by the owner table. -/
def State.framesOf (s : State) (p : Nat) : List Nat := (s.frameOwner.filter (·.2 == p + 1)).map (·.1)

/-! The span (01 R28, 17 R476). -/

/-- The span that partition `p` is linked into. -/
def State.spanOf (s : State) (p : Nat) : Option Nat :=
  match s.boot.spanOf.getD p 255 with
  | 255 => none
  | n => some n

/-! Access before the boot is done (17 R484, R488). -/

/-- Whether something holds the device in reset. -/
def State.heldOff (s : State) : Bool := s.boot.held || s.boot.thermal || s.boot.extest

/-- The state after a PF0 write outside GLB and BOOT that the running device answers with `t`: before DONE, and in
BOOT_FAILED, such a write is discarded and counted in BOOT_OVRCNT. -/
def State.pf0 (s t : State) : State :=
  if s.heldOff then s else if s.mode == .boot || s.mode == .failed then s.inc BOOT_OVRCNT else t

/-! The host link (13 R391). -/

/-- Whether the device may issue requests for function `f` (8 is PF0). -/
def State.hostUp (s : State) (f : Nat) : Bool :=
  s.pins.linkUp && !(if f = 8 then s.pins.d3 else (s.part f).d3)

end Sys2Proof.Machine
end

