-- ==== Sys2Proof/Machine/Records.lean ====
section
/-!
DEFINITION. Tags, records, journal entries, taints, yields and interrupts: what the device writes of what
happened (00 R13; 01 R41-R47; 09 R284-R306; 13 R395-R409).
-/
namespace Sys2Proof.Machine

/-! The tag word (00 R13). -/

/-- A tag word from its fields. -/
def mkTag (time sub part shot frame kind : Nat) (taint settle ovf late : Bool) (attempt : Nat) : BitVec 64 :=
  BitVec.ofNat 64
    ((time % 2 ^ 24) <<< 40 ||| (sub % 32) <<< 35 ||| (part % 8) <<< 32 ||| (shot % 4096) <<< 20 |||
      (frame % 1024) <<< 10 ||| (kind % 4) <<< 8 ||| bn taint <<< 7 ||| bn settle <<< 6 |||
      bn ovf <<< 5 ||| bn late <<< 4 ||| attempt % 16)

def tagTime (t : BitVec 64) : Nat := bits t.toNat 63 40
def tagBit (t : BitVec 64) (i : Nat) : Bool := bitOf t.toNat i
/-- The tag with bit `i` set when `b` holds. -/
def tagOr (t : BitVec 64) (i : Nat) (b : Bool) : BitVec 64 := if b then t ||| BitVec.ofNat 64 (2 ^ i) else t

/-- The full DTIME of a 24-bit TIME, nearest to a DTIME known (00 R15). DESIGN CHOICE (log 125): of the two values that
lie exactly 2^23 ticks away, the earlier. -/
def fullTime (known time : Nat) : Nat :=
  let base := known - known % 2 ^ 24 + time % 2 ^ 24
  if known + 2 ^ 23 ≤ base ∧ 2 ^ 24 ≤ base then base - 2 ^ 24
  else if base + 2 ^ 23 ≤ known then base + 2 ^ 24
  else base

/-! Records of 32 bytes. -/

/-- Four bytes as one word. -/
def b4 (b0 b1 b2 b3 : Nat) : Nat := b0 % 256 + 256 * (b1 % 256) + 65536 * (b2 % 256) + 16777216 * (b3 % 256)

def mkRec (w0 w1 : Nat) (tag : BitVec 64) (w4 w5 w6 w7 : Nat) : Rec :=
  { w0 := BitVec.ofNat 32 w0, w1 := BitVec.ofNat 32 w1, w2 := BitVec.ofNat 32 tag.toNat,
    w3 := BitVec.ofNat 32 (tag.toNat / 2 ^ 32), w4 := BitVec.ofNat 32 w4, w5 := BitVec.ofNat 32 w5,
    w6 := BitVec.ofNat 32 w6, w7 := BitVec.ofNat 32 w7 }

def lo32 (n : Nat) : Nat := n % 2 ^ 32
def hi32 (n : Nat) : Nat := n / 2 ^ 32

/-- TYPE of a record. -/
def Rec.typ (r : Rec) : Nat := bits r.w0.toNat 7 0
/-- Whether a record stays in the journal until it is released: result, user and jump records (13 R398). -/
def Rec.journalled (r : Rec) : Bool := r.typ == 1 || r.typ == 2 || r.typ == 6
/-- The tag of a record or entry. -/
def Rec.tag (r : Rec) : BitVec 64 := BitVec.ofNat 64 (r.w2.toNat + 2 ^ 32 * r.w3.toNat)
def Rec.withTag (r : Rec) (t : BitVec 64) : Rec :=
  { r with w2 := BitVec.ofNat 32 t.toNat, w3 := BitVec.ofNat 32 (t.toNat / 2 ^ 32) }

/-- An error record (09 R304). -/
def errorRec (cls cause count job : Nat) (tag : BitVec 64) (dtime resource detail : Nat) : Rec :=
  mkRec (b4 5 cls cause count) job tag (lo32 dtime) (hi32 dtime) resource detail

/-- A yield record (01 R44). -/
def yieldRec (kept yielded reason job : Nat) (tag : BitVec 64) (dtime amount other count : Nat) : Rec :=
  mkRec (b4 4 kept yielded reason) job tag (lo32 dtime) (hi32 dtime) amount (b4 other count 0 0)

/-- A result record (13 R402). -/
def resultRec (slot shot job : Nat) (v : Result) : Rec :=
  mkRec (b4 1 v.state.toNat slot (slot / 256)) shot v.tag v.i.toNat v.q.toNat job 0

/-- A resource code (09 R304). -/
def resource (kind index : Nat) : Nat := (kind <<< 24) ||| index % 2 ^ 24

/-! Interrupts (13 R408). -/

/-- Moderation interval in ticks of vector `v` of function `f`. -/
def State.irqMod (s : State) (f v : Nat) : Nat :=
  if f = 8 then (if v = 0 then 16 * s.fld HOST_EVCTL 31 16 else 0)
  else if v = 0 ∨ v = 2 then 16 * bits (s.vregN f VF_RINGCTL) 31 16 else 0

/-- Vector `v` of function `f` is sent. -/
def State.irqSend (s : State) (f v : Nat) : State :=
  let k := 4 * f + v
  { s with irq :=
    { fired := put (fun _ => 0) s.irq.fired k (look (fun _ => 0) s.irq.fired k + 1)
      pendAt := put (fun _ => none) s.irq.pendAt k none
      lastAt := put (fun _ => none) s.irq.lastAt k (some s.now) } }

/-- An event of vector `v` of function `f`: the vector fires, or waits for its moderation or for the link. -/
def State.irqEvent (s : State) (f v : Nat) : State :=
  let k := 4 * f + v
  let m := s.irqMod f v
  let ready := match look (fun _ => none) s.irq.lastAt k with
    | none => true
    | some t => decide (t + m ≤ s.now)
  if s.hostUp f && ready then s.irqSend f v
  else if (look (fun _ => none) s.irq.pendAt k).isSome then s
  else { s with irq := { s.irq with pendAt := put (fun _ => none) s.irq.pendAt k (some s.now) } }

/-! Record queues (13 R395-R398, R409). -/

/-- Records that the result ring of `p` has room for now. -/
def State.ringFree (s : State) (p : Nat) : Nat :=
  let q := s.part p
  if q.enabled && !q.rbusy && s.hostUp p then
    (2 ^ (bits (s.vregN p VF_RSIZE) 4 0 + 12) - (q.written - q.consumed)) / 32
  else 0

/-- Records of the on-chip queue: those that neither the ring nor the journal can hold. -/
def State.queued (s : State) (p : Nat) : Nat :=
  let all := (s.part p).waitq ++ (s.part p).relq
  min (all.filter fun r => !r.journalled).length (all.length - s.ringFree p)

/-- A record waits for the ring, behind the records of delivered shots not yet released (13 R406). -/
def State.pushRec (s : State) (p : Nat) (r : Rec) : State :=
  s.updPart p fun q =>
    if q.relq.isEmpty || r.typ == 5 then { q with waitq := q.waitq ++ [r] } else { q with relq := q.relq ++ [r] }

def State.loseRec (s : State) (p : Nat) : State := s.updPart p fun q => { q with rlost := satAdd q.rlost 1 }

/-- A record for partition `p`'s result ring (13 R398). -/
def State.queueRec (s : State) (p : Nat) (r : Rec) : State :=
  if r.journalled then
    if (s.part p).waitq.length + (s.part p).relq.length < s.ringFree p then s.pushRec p r else s.loseRec p
  else if r.typ == 7 || s.queued p < 192 then s.pushRec p r
  else s.loseRec p

/-- Records that the PF0 event ring has room for now. -/
def State.evFree (s : State) : Nat :=
  if s.bit HOST_EVCTL 0 && s.hostUp 8 then
    (2 ^ (s.fld HOST_EVCTL 4 1 + 12) - (s.ev.written - s.ev.consumed)) / 32
  else 0

/-- A record for the PF0 event ring (13 R409). -/
def State.queueEv (s : State) (r : Rec) : State :=
  if s.ev.waitq.length - s.evFree < 256 then { s with ev := { s.ev with waitq := s.ev.waitq ++ [r] } }
  else s.inc HOST_EVLOST

/-- The job number that records carry. -/
def State.jobNum (s : State) (p : Nat) : Nat :=
  match (s.part p).job with
  | some j => j.num
  | none => 0

def State.updJob (s : State) (p : Nat) (f : Job → Job) : State :=
  s.updPart p fun q => { q with job := q.job.map f }

def State.updAtt (s : State) (p : Nat) (f : Attempt → Attempt) : State :=
  s.updPart p fun q => { q with attempt := f q.attempt }

/-! Coalescing (09 R289): at most one record per key per 640,000 ticks. -/

/-- `r` with COUNT `n`; error records hold it at byte 3, yield records at byte 29. -/
def Rec.withCount (r : Rec) (n : Nat) : Rec :=
  if r.typ == 4 then { r with w7 := BitVec.ofNat 32 (setBits r.w7.toNat 15 8 (min n 255)) }
  else { r with w0 := BitVec.ofNat 32 (setBits r.w0.toNat 31 24 (min n 255)) }

/-- Whether DETAIL of an error record is what its resource gives: a DRAM page or an object page (09 R304, log 139). -/
def pageDetail (res : Nat) : Bool := res >>> 24 == 8 || res >>> 24 == 0x0C

/-- The sum of the count field of two coalesced records: AMOUNT of a yield, DETAIL of a STREAM record that counts. -/
def Rec.sumCount (first r : Rec) : Rec :=
  if r.typ == 4 then { first with w6 := BitVec.ofNat 32 (satAdd first.w6.toNat r.w6.toNat) }
  else if bits r.w0.toNat 15 8 == 6 && !pageDetail first.w6.toNat then
      { first with w7 := BitVec.ofNat 32 (satAdd first.w7.toNat r.w7.toNat) }
  else first

/-- The list of periods after an occurrence `r` of `key` at tick `t`, and whether `r` is written at once. -/
def coalesce (l : List (Nat × Nat × Rec × Nat)) (key t : Nat) (r : Rec) :
    List (Nat × Nat × Rec × Nat) × Bool :=
  if l.any (·.1 == key) then
    (l.map fun e =>
      if e.1 = key then
        (e.1, e.2.1, if e.2.2.2 = 0 then r else e.2.2.1.sumCount r, e.2.2.2 + 1)
      else e, false)
  else (l ++ [(key, t, r, 0)], true)

/-- The periods after the end of `key`'s period at tick `t`, and the record that it collected. -/
def coalesceEnd (l : List (Nat × Nat × Rec × Nat)) (key t : Nat) :
    List (Nat × Nat × Rec × Nat) × Option Rec :=
  match l.find? (·.1 == key) with
  | none => (l, none)
  | some e =>
    if t < e.2.1 + 640000 then (l, none)
    else if e.2.2.2 = 0 then (l.filter (·.1 != key), none)
    else (l.map (fun x => if x.1 = key then (key, t, e.2.2.1, 0) else x), some (e.2.2.1.withCount e.2.2.2))

/-- An occurrence that partition `p` reports under R289. -/
def State.coalesced (s : State) (p key : Nat) (r : Rec) : State :=
  let c := coalesce (s.part p).quiet key s.now r
  let s := s.updPart p fun q => { q with quiet := c.1 }
  if c.2 then s.queueRec p r else s

/-- An occurrence that PF0 reports under R289. -/
def State.coalescedEv (s : State) (key : Nat) (r : Rec) : State :=
  let c := coalesce s.ev.quiet key s.now r
  let s := { s with ev := { s.ev with quiet := c.1 } }
  if c.2 then s.queueEv r else s

/-- The key of a STREAM error (09 R289): its cause; for OVERRANGE also its channel (06 R206). -/
def errKey (cause res : Nat) : Nat := 2 ^ 40 + cause * 2 ^ 32 + (if cause = 5 then res else 0)

/-- The key of samples dropped at Mica core `k` (07 R219). -/
def dropKey (k : Nat) : Nat := 2 ^ 42 + k

/-- The key of a yield: its reason. -/
def yieldKey (reason : Nat) : Nat := 2 ^ 41 + reason

/-! The journal (09 R296-R298). -/

/-- Entries of partition `p`'s area (09 R296). -/
def State.jarea (s : State) (p : Nat) : Nat := s.fld (STRATA_JSIZE p) 12 0 * 32768

/-- A journal entry (09 R298). -/
def jentry (jtype source aux shot : Nat) (tag : BitVec 64) (w4 w5 w6 w7 : Nat) : Rec :=
  mkRec (b4 jtype source aux (aux / 256)) shot tag w4 w5 w6 w7

/-- One entry into the journal area. -/
def State.jput (s : State) (p : Nat) (r : Rec) : State :=
  let area := s.jarea p
  s.updPart p fun q =>
    { q with journal := put (fun _ => {}) q.journal (if area = 0 then 0 else q.jcount % area) r
             jcount := q.jcount + 1
             jused := q.jused + 1
             jopen := if r.typ = 1 then q.jcount else q.jopen }

/-- Entries written by all partitions in the present 1,024 ticks. -/
def State.jusedAll (s : State) : Nat := ((List.range s.nPart).map fun p => (s.part p).jused).sum

/-- Journal rate that no partition's share commits. -/
def State.jfree (s : State) : Nat := 4096 - ((List.range s.nPart).map fun p => s.fld (STRATA_JRATE p) 12 0).sum

def State.fillQuota (s : State) (p : Nat) : Nat := s.fld (GEODE_FILLQ p) 6 0

/-- Half BU of partition `p`'s fill and journal shares that it leaves unused in the present 1,024 ticks, and that are not
lent: a fill takes 128 and a journal entry one (11 R355, R356; log 150). -/
def State.idleShare (s : State) (p : Nat) : Nat :=
  128 * s.fillQuota p + s.fld (STRATA_JRATE p) 12 0 - (128 * (s.part p).fillUsed + (s.part p).jused + (s.part p).lent)

/-- A partition other than `p` with an unused share, the lowest first (09 R297, 01 R43, 11 R356). -/
def State.jlender (s : State) (p : Nat) : Option Nat :=
  (List.range s.nPart).find? fun q => q != p && decide (1 ≤ s.idleShare q)

/-- Whether what partition `o` borrows is collected until its shot boundary: it has a begun shot (01 R47). -/
def State.borrows (s : State) (o : Nat) : Bool := decide (o < 8) && (s.part o).attempt.active

/-- The collected records `l` with a further one: the record of the same reason and partition served takes the amount, and
counts it unless it is a further part of what one shot holds on loan (01 R46, R47). -/
def collect (l : List Rec) (r : Rec) : List Rec :=
  let reason := fun x : Rec => bits x.w0.toNat 31 24
  let same := fun x : Rec => reason x == reason r && bits x.w7.toNat 7 0 == bits r.w7.toNat 7 0
  let more := if reason r = 2 ∨ reason r = 3 then 0 else 1
  if l.any same then l.map fun x => if same x then (x.sumCount r).withCount (bits x.w7.toNat 15 8 + more) else x
  else l ++ [r]

/-- A yield of partition `p` (01 R44-R47). What a begun shot borrows is collected until that shot's boundary; else a
record is coalesced by the mode. Where a STREAM period coalesces loans to several partitions, OTHER is the first (log
119). -/
def State.yields (s : State) (p kept yielded reason : Nat) (tag : BitVec 64) (amount other : Nat) : State :=
  let r := yieldRec kept yielded reason (s.jobNum p) tag s.now amount other 1
  if s.borrows other then s.updPart p fun q => { q with yields := collect q.yields r }
  else match (s.part p).mode with
  | .stream => s.coalesced p (yieldKey reason) r
  | .shot => s.updPart p fun q => { q with yields := collect q.yields r }
  | .hold => s.queueRec p r

/-- `n` 64-byte units of DRAM traffic of partition `p` are served from the shares of partition `l` (11 R356). -/
def State.dramLoan (s : State) (l p n half : Nat) : State :=
  let s := s.updPart l fun q => { q with lent := q.lent + half }
  ((s.yields l 2 4 4 0#64 n p).inc (MEM_PLENT l) n).inc (MEM_PBORROWED p) n

/-- An entry into partition `p`'s journal, and whether it found room (09 R297): the on-chip buffer holds 4,096; for a begun
shot a full buffer borrows unused rate. Outside an attempt, and after its verdict, an entry counts for none. -/
def State.jappend (s : State) (p : Nat) (r : Rec) : State × Bool :=
  let q := s.part p
  if q.mode != .shot || q.probe.isSome then (s, true)
  else
    let r := r.withTag (tagOr r.tag 7 (q.attempt.active && !q.attempt.taints.isEmpty))
    let s := if q.attempt.active then s.updAtt p fun a => { a with entries := a.entries + 1 } else s
    let add := fun (s : State) => s.updPart p fun q => { q with jbuf := q.jbuf ++ [r] }
    let shift := fun (s : State) =>
      match (s.part p).jbuf with
      | [] => s
      | e :: l => (s.updPart p fun q => { q with jbuf := l }).jput p e
    if q.jbuf.length < 4096 then (add s, true)
    else if s.jusedAll < 4096 ∧ q.jused < s.fld (STRATA_JRATE p) 12 0 + s.jfree then (add (shift s), true)
    else
      match s.jlender p with
      | some l =>
        if q.attempt.active ∧ s.jusedAll < 4096 then
          let s := add (shift s)
          (s.dramLoan l p 1 1, true)
        else (s, false)
      | none => (s, false)

/-! Taints (09 R285-R289). -/

/-- The tag that partition `p`'s attempt gives a journal entry without a unit (09 R298). -/
def State.attTag (s : State) (p : Nat) : BitVec 64 :=
  let a := (s.part p).attempt
  mkTag s.now 0 p a.shotNo 0 3 true false false false a.num

/-- Whether an entry went in: it found room, and the attempt's entries keep to half the area (09 R297). -/
def fits (x : State × Bool) (p : Nat) : Bool := x.2 && decide (2 * (x.1.part p).attempt.entries ≤ x.1.jarea p)

/-- A taint of the attempt of partition `p`, with its journal entry, and whether that found room. -/
def State.addTaint (s : State) (p cause src res det : Nat) (tag : BitVec 64) : State × Bool :=
  let s := s.updAtt p fun a => { a with
    taints := a.taints ++ [{ cause := cause, tick := s.now, res := res, tag := tag, det := det }] }
  s.jappend p (jentry 7 src cause (s.part p).attempt.shotNo (tagOr (if tag = 0#64 then s.attTag p else tag) 7 true)
    (lo32 s.now) (hi32 s.now) res det)

/-- A journal entry of partition `p`'s attempt did not go in: the attempt fails with QUOTA (09 R297). -/
def State.quotaAtt (s : State) (p : Nat) (tag : BitVec 64) : State :=
  if (s.part p).attempt.active && !((s.part p).attempt.taints.any (·.cause == 11)) then
    (s.addTaint p 11 0xFF (resource 0x0E p) 0 tag).1
  else s

/-- The attempt of partition `p` is tainted with `cause`; the taint is journalled. `det` is DETAIL. -/
def State.taintAtt (s : State) (p cause src res det : Nat) (tag : BitVec 64) : State :=
  if (s.part p).attempt.active then
    let x := s.addTaint p cause src res det tag
    if fits x p then x.1 else x.1.quotaAtt p tag
  else s

/-- An entry into the journal; one that finds no room, or exceeds half the area, fails the attempt with QUOTA. -/
def State.journal (s : State) (p : Nat) (r : Rec) : State :=
  let x := s.jappend p r
  if fits x p then x.1 else x.1.quotaAtt p r.tag

/-- Whether the VERDICT entry of partition `p`'s attempt would go in; else the attempt fails with QUOTA (09 R297). -/
def State.forVerdict (s : State) (p : Nat) : State := if fits (s.jappend p {}) p then s else s.quotaAtt p 0#64

/-- An error record of class STREAM, coalesced by `key` (09 R289). `n` is its cause-specific count. -/
def State.streamRec (s : State) (p key cause res n : Nat) (tag : BitVec 64) : State :=
  s.coalesced p key (errorRec 6 cause 1 (s.jobNum p) tag s.now res n)

/-- The same, coalesced by cause. -/
def State.streamErr (s : State) (p cause res n : Nat) (tag : BitVec 64) : State :=
  s.streamRec p (errKey cause res) cause res n tag

/-- A cause raised against partition `p`: it taints the attempt in SHOT mode and produces an error record, coalesced by
`key`, in STREAM mode (09 R287, R289). -/
def State.causeBy (s : State) (p key cause src res det : Nat) (tag : BitVec 64) : State :=
  match (s.part p).mode with
  | .shot => s.taintAtt p cause src res det tag
  | .stream => s.streamRec p key cause res det tag
  | .hold => s

/-- A cause coalesced as 09 R289 has it where no chapter sets it. -/
def State.cause (s : State) (p cause src res det : Nat) (tag : BitVec 64) : State :=
  s.causeBy p (errKey cause res) cause src res det tag

/-- Whether the attempt of partition `p` is tainted. -/
def State.tainted (s : State) (p : Nat) : Bool :=
  (s.part p).attempt.active && !(s.part p).attempt.taints.isEmpty

/-- The tag of an event; `taint` tells that its attempt is tainted (00 R13). -/
def evTag (e : Event) (frame kind : Nat) (taint : Bool) : BitVec 64 :=
  mkTag (e.inst / 32) (e.inst % 32) e.part e.shot frame kind taint false e.ovf e.late e.attempt

/-! Modes and jobs. -/

/-- The mode of partition `p` becomes `m` (01 R29); vector 3 signals a change (13 R408). -/
def State.setMode (s : State) (p : Nat) (m : PMode) : State :=
  if (s.part p).mode = m then s
  else (s.updPart p fun q => { q with mode := m }).irqEvent p 3

/-- The HOLD cause of partition `p` becomes `c`. -/
def State.setCause (s : State) (p : Nat) (c : HoldCause) : State :=
  if (s.part p).cause = c then s
  else (s.updPart p fun q => { q with cause := c }).irqEvent p 3

def causeCode : HoldCause → Nat
  | .none => 0 | .request => 1 | .shortPress => 2 | .longPress => 3 | .trip => 4 | .coreFault => 5 | .reset => 6

/-- Ticks that the job in progress waited, and the rank that the wait kept (01 R44-R46); a wait that goes on from one tick
to the next is one occurrence. -/
def State.addWait (s : State) (p ticks rank : Nat) : State :=
  if ticks = 0 then s
  else s.updJob p fun j =>
    let on := j.waits ≠ 0 ∧ ticks = 1 ∧ s.now ≤ j.waitLast + 1
    { j with
      wait := j.wait + ticks, waitRank := min j.waitRank rank, waitFirst := if j.waits = 0 then s.now else j.waitFirst
      waits := if on then j.waits else j.waits + 1, waitLast := s.now }

/-- The yield records that `f` picks go to the ring of partition `p`. -/
def State.flushSome (s : State) (p : Nat) (f : Rec → Bool) : State :=
  let l := (s.part p).yields.filter f
  (s.updPart p fun q => { q with yields := q.yields.filter fun r => !f r }).forEach l fun s r => s.queueRec p r

/-- Every yield record collected goes to the ring: the job's last record comes after them (01 R46). -/
def State.flushYields (s : State) (p : Nat) : State := s.flushSome p fun _ => true

/-- The yield records of the shot go to the ring, but for loans to shots that go on (01 R46). -/
def State.flushShot (s : State) (p : Nat) : State := s.flushSome p fun r => !s.borrows (bits r.w7.toNat 7 0)

/-- Partition `b`'s shot boundary: every lender reports what it lent to that shot (01 R47), under the coalescing of STREAM
mode where the lender is in it. -/
def State.flushLoans (s : State) (b : Nat) : State :=
  let mine := fun r : Rec => bits r.w7.toNat 7 0 == b
  s.forEach (List.range s.nPart) fun s p =>
    if (s.part p).mode = .stream then
      let l := (s.part p).yields.filter mine
      (s.updPart p fun q => { q with yields := q.yields.filter fun r => !mine r }).forEach l fun s r =>
        s.coalesced p (yieldKey (bits r.w0.toNat 31 24)) r
    else s.flushSome p mine

/-- The job of partition `p` ends with its THROUGHPUT and completion records (13 R400, R405, R406; 01 R46). -/
def State.completeJob (s : State) (p status detail : Nat) : State :=
  match (s.part p).job with
  | none => s
  | some j =>
    let s := s.flushYields p
    let s := if j.wait = 0 then s
      else s.queueRec p (yieldRec (min j.waitRank 4) 5 6 j.num 0#64 j.waitFirst (min j.wait (2 ^ 32 - 1)) 255 (min j.waits 255))
    let c : Nat × Nat := match j.type with
      | .program => if (s.part p).mode = .shot then (j.delivered, j.failedShots) else (0, 0)
      | .library => (j.okCount, match j.failed with | some (i, _) => i | none => 2 ^ 32 - 1)
      | .capture => (0, 0)
    let s := s.queueRec p (mkRec (b4 7 status j.typeByte detail) j.num j.usertag (lo32 s.now) (hi32 s.now) c.1 c.2)
    s.updPart p fun q =>
      { q with job := none, notifies := if j.notify then q.notifies ++ [j.num] else q.notifies }

end Sys2Proof.Machine
end

