-- ==== Sys2Proof/Machine/Geode.lean ====
section
/-!
DEFINITION. Operations of Geode: chains and the paths through them, page requests, pins, fills and reservations
(03 R87-R97; 05 R160-R178).
-/
namespace Sys2Proof.Machine

/-! Objects. -/

/-- The loaded object `n` (05 R160). -/
def State.obj (s : State) (n : Nat) : Option Obj := look (fun _ => none) s.geo.objs n
def State.setObj (s : State) (n : Nat) (o : Option Obj) : State :=
  s.updGeo fun g => { g with objs := put (fun _ => none) g.objs n o }

/-- Ticks of one granule (03 R88). -/
def Obj.gp (o : Obj) : Nat := 4 * 2 ^ o.rate
def Obj.seg (o : Obj) (i : Nat) : Seg := o.segs.getD i {}
/-- Object page of granule `g` of segment `i` (05 R161). -/
def Obj.pageOf (o : Obj) (i g : Nat) : Nat := (o.headBytes + 64 * ((o.seg i).offset + g)) / 4096
/-- Pages that hold the chain (05 R169). -/
def Obj.chainPages (o : Obj) : List Nat := List.range ((o.headBytes - 1) / 4096 + 1)
def Obj.forever (o : Obj) : Bool := o.segs.any (·.forever)

/-- Jump target byte of a segment for decision state `st` (03 R91). -/
def Seg.target (g : Seg) (st : Nat) : Nat := bits g.jt.toNat (8 * st + 7) (8 * st)

/-- The targets of a jump segment that name segments. -/
def Seg.targets (g : Seg) : List Nat :=
  if g.jen then ((List.range 4).map g.target).filter (· < 254) else []

/-! Earliest arrival at each segment along any path (05 R169). -/

def setMin (l : List (Option Nat)) (i t : Nat) : List (Option Nat) :=
  match l[i]? with
  | some (some u) => if t < u then l.set i (some t) else l
  | some none => l.set i (some t)
  | none => l

/-- The arrivals that follow from an arrival at segment `i` at tick `t`. -/
def Obj.follow (o : Obj) (l : List (Option Nat)) (i t : Nat) : List (Option Nat) :=
  let g := o.seg i
  let l := if g.forever then l else setMin l (i + 1) (t + g.len * (g.reps + 1) * o.gp)
  g.targets.foldl (fun l j => setMin l j (t + g.len * o.gp)) l

def Obj.relax (o : Obj) (l : List (Option Nat)) : List (Option Nat) :=
  (List.range o.segs.length).foldl (fun l i =>
    match l[i]? with
    | some (some t) => o.follow l i t
    | _ => l) l

/-- Arrivals up to `fuel` segments along. -/
def Obj.reach (o : Obj) : Nat → List (Option Nat) → List (Option Nat)
  | 0, l => l
  | k + 1, l => o.reach k (o.relax l)

/-- Pages `a` to `b`. -/
def pageSpan (a b : Nat) : List Nat := (List.range (b + 1 - a)).map (· + a)

/-- Pages of the granules of segment `i` from granule `g`, the first due at `t`, due by `horizon`. -/
def Obj.spanPages (o : Obj) (i g t horizon : Nat) : List Nat :=
  if horizon < t then []
  else
    let m := min ((o.seg i).len - g) ((horizon - t) / o.gp + 1)
    if m = 0 then [] else pageSpan (o.pageOf i g) (o.pageOf i (g + m - 1))

def Obj.pagesBy (o : Obj) (l : List (Option Nat)) (horizon : Nat) : List Nat :=
  ((List.range o.segs.length).map fun i =>
    match l[i]? with
    | some (some t) => o.spanPages i 0 t horizon
    | _ => []).flatten.eraseDups

/-- Ticks from the due tick of a pulse's granule `i` to that of the last one that LIMIT allows, at most `span`. -/
def Obj.cut (o : Obj) (i span : Nat) : Nat := if o.limit = 0 then span else min span ((o.limit - 1 - i) * o.gp)

/-- Chain pages and every page with a granule due within `span` ticks of the first due granule (05 R169, R171). -/
def Obj.headSet (o : Obj) (span : Nat) : List Nat :=
  let span := o.cut 0 span
  let l := setMin (o.segs.map fun _ => none) 0 0
  (o.chainPages ++ o.pagesBy (o.reach (span / 16 + 1) l) span).eraseDups

/-- Pages with a granule of the playing pulse due by `horizon`, its next granule being due at `t` (05 R169). -/
def Obj.needs (o : Obj) (u : Pulse) (t horizon : Nat) : List Nat :=
  if u.done || (o.limit != 0 && decide (o.limit ≤ u.played)) then []
  else
    let horizon := t + o.cut u.played (horizon - t)
    let g := o.seg u.seg
    let te := t + (g.len - u.gran) * o.gp
    let l := o.segs.map fun _ => (none : Option Nat)
    let again := if g.forever || u.pass < g.reps then setMin l u.seg te else l
    let on := if g.forever then again else setMin again (u.seg + 1) (te + (g.reps - u.pass) * g.len * o.gp)
    let l := match u.carry with
      | some r => if r.target < 254 then setMin l r.target te else if r.target = 254 then l else on
      | none => g.targets.foldl (fun l j => setMin l j te) on
    (o.spanPages u.seg u.gran t horizon ++ o.pagesBy (o.reach ((horizon - t) / 16 + 1) l) horizon).eraseDups

/-- Longest play from the start of segment `i` to the end, for chains without backward targets (05 R177). A late
jump takes effect after the first pass of the segment that follows. -/
def Obj.longestFrom (o : Obj) : Nat → Nat → Nat
  | 0, _ => 0
  | k + 1, i =>
    if o.segs.length ≤ i then 0
    else
      let g := o.seg i
      let own := g.len * (g.reps + 1)
      let nxt := own + o.longestFrom k (i + 1)
      let late := if i + 1 < o.segs.length then (o.seg (i + 1)).len else 0
      g.targets.foldl (fun m j => max m (own + late + o.longestFrom k j)) nxt

/-- MAXLEN of an object (05 R177): none when unbounded. -/
def Obj.maxLen (o : Obj) : Option Nat :=
  if o.forever then none
  else if o.limit ≠ 0 then some o.limit
  else some (o.longestFrom o.segs.length 0)

/-- Output samples per envelope sample (03 R88). -/
def Obj.ratio (o : Obj) : Nat := 8 * 2 ^ o.rate

/-- Last tick of the reservation of a pulse starting at sub-tick `start` that plays `n` granules (03 R84). -/
def rsvEnd (start n ratio : Nat) : Nat := (start + n * 16 * ratio - 1) / 32 + 2

/-! Ranges and quotas. -/

/-- Whether partition `p`'s range holds object `n` (05 R160). -/
def State.objInRange (s : State) (p n : Nat) : Bool :=
  decide (s.fld (GEODE_OBJRANGE p) 15 0 ≤ n) && decide (n ≤ s.fld (GEODE_OBJRANGE p) 31 16)

def State.objsOf (s : State) (p : Nat) : List (Nat × Obj) :=
  s.geo.objs.filterMap fun (n, o) => match o with
    | some o => if o.part = p then some (n, o) else none
    | none => none

/-- Library pages of partition `p`. -/
def State.libUsed (s : State) (p : Nat) : Nat := ((s.objsOf p).map (·.2.npages)).sum

def State.allObjs (s : State) : List Obj := s.geo.objs.filterMap (·.2)

/-- Library pages of set `i`, over the objects `l` (05 R166). -/
def setCount (l : List Obj) (i : Nat) : Nat := (l.map fun o => (o.sets.filter (· == i)).length).sum

/-- Load-pinned pages of set `i`. -/
def setPinned (l : List Obj) (i : Nat) : Nat := setCount (l.filter (·.pinned)) i

/-- Whether page entry `g` is use-pinned by partition `p`. -/
def Page.pinnedBy (g : Page) (p : Nat) : Bool := g.pins.any (·.1 == p)
def Page.isPinned (g : Page) : Bool := g.loadPin || !g.pins.isEmpty

/-- Pages pinned by partition `p`, of both kinds (05 R168). -/
def State.pinUsed (s : State) (p : Nat) : Nat :=
  ((s.objsOf p).map fun x => if x.2.pinned then x.2.npages else 0).sum +
    (s.geo.pages.filter fun g => !g.loadPin && g.pinnedBy p).length

/-- Load-pinned pages of partition `p`. -/
def State.pinLoad (s : State) (p : Nat) : Nat :=
  ((s.objsOf p).map fun x => if x.2.pinned then x.2.npages else 0).sum

/-- Pins lent by `l` (8 stands for pins that no quota commits). -/
def State.pinLent (s : State) (l : Nat) : Nat := (s.geo.pages.filter (·.lent == some l)).length

/-- Pins borrowed by partition `p`. -/
def State.pinBorrowed (s : State) (p : Nat) : Nat :=
  (s.geo.pages.filter fun g => g.lent.isSome && g.pinnedBy p).length

/-- A lender of `unused` capacity: 8 for capacity that no quota commits (01 R41, R43), else, DESIGN CHOICE
(log 124), the lowest partition that has some. -/
def findLender (n p : Nat) (free : Bool) (unused : Nat → Bool) : Option Nat :=
  if free then some 8 else (List.range n).find? fun q => q != p && unused q

/-- A lender of one pin to partition `p`'s begun shot (05 R174). -/
def State.pinLender (s : State) (p : Nat) : Option Nat :=
  let quotas := ((List.range s.nPart).map fun q => s.fld (GEODE_PINQ q) 14 0).sum
  findLender s.nPart p (s.pinLent 8 + quotas < 16384)
    fun q => decide (s.pinUsed q - s.pinBorrowed q + s.pinLent q < s.fld (GEODE_PINQ q) 14 0)

/-! Page requests (05 R169, R174). -/

/-- The tick of a pin that lasts until its user lets it go. -/
def pinOpen : Nat := 2 ^ 64

/-- A page wanted by partition `p` found every way of its set pinned and filled (05 R174). -/
def State.setFullNote (s : State) (p : Nat) (b : Bool) : State := if b then s.inc (GEODE_SETFULL p) else s

/-- The lender of a pin reports the loan to partition `p` (05 R174). -/
def State.pinLoan (s : State) (p : Nat) (l : Option Nat) : State :=
  match l with
  | some l => if l = 8 then s else s.yields l 2 4 3 0#64 1 p
  | none => s

/-- Partition `p` requests page `pg` of object `n` for `user`, first due at tick `due`. -/
def State.requestPage (s : State) (p n pg user untl due : Nat) : State :=
  match s.obj n with
  | none => s
  | some o =>
    let hit := fun g : Page => g.obj == n && g.page == pg
    let ent : Page := match s.geo.pages.find? hit with
      | some g => g
      | none => { obj := n, page := pg, set := o.sets.getD pg 0, requested := s.now, due := due }
    let new := !ent.loadPin && !ent.pinnedBy p
    let excess := new && decide (s.fld (GEODE_PINQ p) 14 0 ≤ s.pinUsed p - s.pinBorrowed p + s.pinLent p)
    let lender := if excess && (s.part p).attempt.active then s.pinLender p else none
    let ways := (s.geo.pages.filter fun g => g.set == ent.set && g.isPinned && g.filled).length
    let full := !ent.filled && decide (16 ≤ ways)
    let was := ent.setFull
    let ent := { ent with
      pins := if excess && lender.isNone then ent.pins
        else (ent.pins.filter (·.2.1 != user)) ++ [(p, user, untl)]
      want := if excess && lender.isNone then (ent.want.filter (·.2.1 != user)) ++ [(p, user, untl)]
        else ent.want.filter (·.2.1 != user)
      lent := if excess then lender else ent.lent
      quotaWait := excess && lender.isNone
      due := min ent.due due
      setFull := full
      used := s.geo.clock }
    let swap := fun x : Page => if hit x then ent else x
    let s := s.updGeo fun g =>
      { g with pages := (if g.pages.any hit then g.pages.map swap else g.pages ++ [ent]), clock := g.clock + 1 }
    (s.setFullNote p (full && !was)).pinLoan p lender

/-- Partition `p` requests the pages `l` of object `n`. -/
def State.requestPages (s : State) (p n : Nat) (l : List Nat) (user untl due : Nat) : State :=
  s.forEach l fun s pg => s.requestPage p n pg user untl due

/-- The pins of `user` on pages of object `n` outside `keep` last until `t`. -/
def State.expirePins (s : State) (user t : Nat) (keep : Page → Bool) : State :=
  let cut := fun k : Nat × Nat × Nat => if k.2.1 = user then (k.1, k.2.1, min k.2.2 t) else k
  let f := fun x : Page => if keep x then x else { x with pins := x.pins.map cut, want := x.want.map cut }
  s.updGeo fun g => { g with pages := g.pages.map f }

/-- The pins of `user` go at once, as when its event is discarded (05 R169). -/
def State.dropPins (s : State) (user : Nat) : State :=
  s.updGeo fun g => { g with pages := g.pages.map fun x =>
    { x with pins := x.pins.filter (·.2.1 != user), want := x.want.filter (·.2.1 != user) } }

/-- Pages that hold nothing and that nobody wants any more leave the cache. -/
def State.trimPages (s : State) : State :=
  let live := fun x : Page => x.filled || x.isPinned || (x.quotaWait && !x.want.isEmpty)
  let unlend := fun x : Page => if x.pins.isEmpty then { x with lent := none } else x
  s.updGeo fun g => { g with pages := (g.pages.filter live).map unlend }

/-- Whether page `pg` of object `n` is in the cache with valid data. -/
def State.resident (s : State) (n pg : Nat) : Bool :=
  s.geo.pages.any fun g => g.obj == n && g.page == pg && g.filled

/-- Whether the page waits for quota with nothing to lend (05 R174). -/
def State.quotaWaits (s : State) (n pg : Nat) : Bool :=
  s.geo.pages.any fun g => g.obj == n && g.page == pg && g.quotaWait

/-- Object numbers of users of pins that are not pulses. -/
def hintUser (c : Nat) : Nat := 2 ^ 40 + c
def coldUser (p : Nat) : Nat := 2 ^ 41 + p

/-! Lane reservations (05 R177, R178). -/

/-- Pulses on channel `ch` whose reservation holds tick `t`. -/
def State.lanesAt (s : State) (ch t : Nat) : Nat :=
  (s.fab.pulses.filter fun u => u.ch == ch && decide (u.rsvFrom ≤ t) &&
    (match u.rsvTo with | none => true | some e => decide (t ≤ e))).length

/-- Whether a reservation of ticks `a` to `b` on channel `ch` keeps within its capacity. -/
def State.laneFits (s : State) (ch a : Nat) (b : Option Nat) : Bool :=
  let cap := s.fld (OCH_STAT ch) 12 8
  let inside := fun t => decide (a ≤ t) && (match b with | none => true | some e => decide (t ≤ e))
  let points := a :: (s.fab.pulses.filter fun u => u.ch == ch && inside u.rsvFrom).map (·.rsvFrom)
  points.all fun t => decide (s.lanesAt ch t + 1 ≤ cap)

def State.updPulse (s : State) (id : Nat) (f : Pulse → Pulse) : State :=
  s.updFab fun b => { b with pulses := b.pulses.map fun u => if u.id = id then f u else u }
def State.pulse (s : State) (id : Nat) : Option Pulse := s.fab.pulses.find? (·.id == id)
def State.updEvent (s : State) (id : Nat) (f : Event → Event) : State :=
  s.updFab fun b => { b with events := b.events.map fun e => if e.id = id then f e else e }
def State.event (s : State) (id : Nat) : Option Event := s.fab.events.find? (·.id == id)
def State.updWin (s : State) (id : Nat) (f : Window → Window) : State :=
  s.updFab fun b => { b with wins := b.wins.map fun w => if w.id = id then f w else w }
def State.win (s : State) (id : Nat) : Option Window := s.fab.wins.find? (·.id == id)

/-- Event `id` leaves its entry: it has been applied. -/
def State.freeEvent (s : State) (id : Nat) : State :=
  s.updFab fun b => { b with events := b.events.filter (·.id != id) }

/-- The pulse of event `id` goes, with its reservation and pins. -/
def State.dropPulse (s : State) (id : Nat) : State :=
  ((s.updFab fun b => { b with pulses := b.pulses.filter (·.id != id) }).dropPins id).trimPages

/-! The end of a pulse's play. -/

/-- The pulse has played its last granule; its lane is free again unless `keep`. -/
def State.endPulse (s : State) (id : Nat) (keep : Bool) : State :=
  let s := s.updPulse id fun u => { u with done := true, lane := if keep then u.lane else none }
  s.expirePins id s.now fun _ => false

end Sys2Proof.Machine
end

