-- ==== Sys2Proof/Machine/Signal.lean ====
section
/-!
DEFINITION. The phase law and the arithmetic of samples: the oscillator, the tone lane's output, the edge weights of a
mute, and the demodulation lane (02 R65-R69; 03 R75, R81, R82, R87, R99, R105; 06 R191, R192). What the spec leaves open
of it (the filters' coefficients, the oscillator's last bits) is in Config (log 9, 115).
-/
namespace Sys2Proof.Machine

/-! The oscillator (02 R68; 03 R81). -/

/-- Further terms of a Taylor series whose last term was `t`, in units of 2^-60: each is the one before times -x² / (k
(k + 1)). -/
def taylor (x2 : Int) : Nat → Int → Int → Int → Int
  | 0, _, _, sum => sum
  | n + 1, k, t, sum =>
    let u := -(asr (t * x2) 60) / (k * (k + 1))
    taylor x2 n (k + 2) u (sum + u)

/-- π / 2 in units of 2^-60. -/
def halfPi : Int := 1811004864519280711

/-- Cosine and sine of 2π k / 2^20 for k below 2^18, in units of 2^-30, rounded to nearest. -/
def quadrant (k : Nat) : Int × Int :=
  let x := asr (halfPi * k) 18
  let x2 := asr (x * x) 60
  (roundUp (taylor x2 13 1 (2 ^ 60) (2 ^ 60)) 30, roundUp (taylor x2 13 2 x x) 30)

/-- Cosine and sine of 2π k / 2^20 in units of 2^-30, rounded to nearest. -/
def cosSin20 (k : Nat) : Int × Int :=
  let c := quadrant (k % 2 ^ 18)
  match k / 2 ^ 18 % 4 with
  | 0 => c
  | 1 => (-c.2, c.1)
  | 2 => (-c.1, -c.2)
  | _ => (c.2, -c.1)

/-- 10^(-110/20) in units of 2^-30: what the spurs of the oscillator stay below (03 R81, 06 R185). -/
def spurBound : Int := 3395

/-- The oscillator's cosine and sine at phase index `k` of 2^20: those of 2π k / 2^20 within the bound on spurs. -/
def oscillator (k : Nat) : Int × Int :=
  let c := cosSin20 k
  (c.1 + clamp (-spurBound) spurBound (Config.ncoError (2 * k)),
      c.2 + clamp (-spurBound) spurBound (Config.ncoError (2 * k + 1)))

/-- The phase of a frame at output sample `t` (02 R68): FW t + PH modulo 2^48. -/
def Frame.phase (x : Frame) (t : Nat) : BitVec 48 := x.fw * BitVec.ofNat 48 t + x.ph

/-- The phase reduced to its top 20 bits (03 R81, 06 R191). -/
def Frame.phase20 (x : Frame) (t : Nat) : Nat := (x.phase t).toNat / 2 ^ 28

/-! Envelopes (03 R82, R87). -/

/-- I and Q of a 32-bit sample, Q1.15: I in [15:0], Q in [31:16] (03 R87). -/
def iqOf (w : Word) : Int × Int := (toSigned 16 w.toNat, toSigned 16 (w.toNat / 65536))

/-- The interpolator's weight `d` output samples from an envelope sample (03 R82): a fixed filter of linear phase that
reaches no further than 2 envelope periods, in units of 2^-16. -/
def interpTap (ratio d : Nat) : Int := if d ≤ 2 * ratio then Config.interp ratio d else 0

/-- The interpolated envelope at output sample `t` of a pulse that starts at `start` and has played the samples `env`,
the first of the list being sample `n - 1`: the samples before the pulse and after its end are zero. Units of 2^-31. -/
def envelopeAt (ratio start t : Nat) : List Word → Nat → Int × Int
  | [], _ => (0, 0)
  | w :: l, n =>
    let rest := envelopeAt ratio start t l (n - 1)
    let d := ((t : Int) - ((start + (n - 1) * ratio : Nat) : Int)).natAbs
    let h := interpTap ratio d
    let x := iqOf w
    (rest.1 + h * x.1, rest.2 + h * x.2)

/-- A lane's output in units of 2^-18 (03 R75): `mode` 1 is BASEBAND, which ignores Q and the frame; `g` is the PLAY gain
and `e` the envelope. -/
def laneOut (mode : Nat) (g : BitVec 16) (x : Frame) (t : Nat) (e : Int × Int) : Int :=
  if mode = 1 then roundOpen 7 (g.toInt * e.1) (2 ^ 28)
  else
    let o := oscillator (x.phase20 t)
    roundOpen 7 (g.toInt * (e.1 * o.1 - e.2 * o.2)) (2 ^ 58)

/-! Edges (03 R105). -/

/-- The weight w(i) of sample `i` of an edge in units of 2^-31: ½ (1 + cos(π (i + 1) / 16)). -/
def edgeWeight (i : Nat) : Int := 2 ^ 30 + (cosSin20 ((i + 1) * 2 ^ 15)).1

/-! The demodulation lane (06 R191). -/

/-- u(k) of code `x` at GAIN `g`, UQ4.12: Q1.17, saturated. -/
def gainOut (g : Nat) (x : Int) : Int := clamp (-131072) 131071 (roundOpen 9 ((g : Int) * x) 64)

/-- m(k): u(k) turned back by the phase of the frame at 2k, in units of 2^-47. -/
def mixDown (x : Frame) (k : Nat) (u : Int) : Int × Int :=
  let o := oscillator (x.phase20 (2 * k))
  (u * o.1, -(u * o.2))

/-- The decimator's weight of input sample `i` of its 32 Q: a fixed filter of linear phase (06 R192), in units of 2^-24. -/
def decTap (dec q i : Nat) : Int := Config.decimator dec (min i (32 * q - 1 - i))

/-- One part of z(j) from the filter's sum in units of 2^-71: rounded to Q1.15 and saturated; and whether it saturated. -/
def decOut (sum : Int) : Int × Bool :=
  let x := roundTie 8 sum (2 ^ 56)
  let y := clamp (-32768) 32767 x
  (y, decide (x ≠ y))

end Sys2Proof.Machine
end

