-- ==== Sys2Proof/Machine/Events.lean ====
section
/-!
DEFINITION. Operations of the event fabric: frame writes and windows, mutes, scheduler entries, discards
(02 R65-R70; 03 R103-R108; 05 R180-R183; 06 R191-R209).
-/
namespace Sys2Proof.Machine

/-! Decimation (06 R192). -/

/-- Half-length Q of the decimator in ticks. -/
def decQ : Nat → Nat
  | 0 => 10 | 1 => 18 | 2 => 32 | _ => 64
/-- Output period in ticks. -/
def decP (d : Nat) : Nat := 2 ^ d
/-- Decimation stage of 01 R36 in ticks. -/
def decStage : Nat → Nat
  | 0 => 12 | 1 => 20 | 2 => 36 | _ => 68
/-- Ticks from the window end to the slot being valid. -/
def decResolve (d : Nat) : Nat := decStage d + 22

/-- Output samples that a window delivers (06 R193). -/
def Window.count (w : Window) : Nat := (w.carry + (w.we - w.ws)) / decP w.dec
/-- Instant of output sample `j` in ticks (06 R193). -/
def Window.sampleAt (w : Window) (j : Nat) : Int := (w.ws : Int) - w.carry + j * decP w.dec

/-! Frame writes and windows (06 R199, R203, R204). -/

/-- Whether sub-tick `inst` lies in the protected interval of `w` (06 R203). -/
def Window.protects (w : Window) (inst : Nat) : Bool :=
  decide (32 * w.ls ≤ inst) && decide (inst < 32 * (w.we + decQ w.dec))

/-- Windows whose boundary with the window chained to them is exactly `inst`, both sides. -/
def State.boundaryIds (s : State) (inst : Nat) : List Nat :=
  (s.fab.wins.filterMap fun w =>
    match w.chained with
    | some i => if 32 * w.ws = inst then some [w.id, i] else none
    | none => none).flatten

/-- Windows with which a write to frame `f` at `inst` conflicts. -/
def State.conflicts (s : State) (f inst : Nat) : List Window :=
  s.fab.wins.filter fun w => w.dframe == f && w.protects inst && !(w.served && !w.opened) &&
      !(s.boundaryIds inst).contains w.id

/-- Windows on frame `f` are marked with the change at sub-tick `inst` (06 R199): the instants of [c - Q, c + Q) are
those of [⌈c⌉ - Q, ⌈c⌉ + Q). -/
def State.markFrame (s : State) (f inst : Nat) : State :=
  let c := (inst + 31) / 32
  s.updFab fun b => { b with wins := b.wins.map fun w => if w.dframe = f then { w with marks := w.marks ++ [c] } else w }

/-- Windows on channel `m` are marked with a change at tick `c`. -/
def State.markIch (s : State) (m c : Nat) : State :=
  s.updFab fun b => { b with wins := b.wins.map fun w => if w.ich = m then { w with marks := w.marks ++ [c] } else w }

/-- Frame `f` takes a device-originated write: FW becomes `v`, or `v` is added to PH. -/
def Frame.dev (x : Frame) (isFw : Bool) (v : BitVec 48) : Frame :=
  if isFw then { x with fw := v } else { x with ph := x.ph + v }

/-- Frame `f` holds `x` from sub-tick `inst` on; what it held before is kept for the samples that lie before (02 R66,
R69), and the windows on it are marked. -/
def State.putFrame (s : State) (f inst : Nat) (x : Frame) : State :=
  ((s.updFab fun b => { b with past := b.past ++ [(f, inst, s.frame f)] }).setFrame f x).markFrame f inst

/-! Tracking records (08 R257, R270). -/

def State.trkKind (s : State) (l : Nat) : Nat := s.fld (DEC_TRKCFG l) 1 0
def State.trkTarget (s : State) (l : Nat) : Nat := s.fld (DEC_TRKCFG l) 17 8
def State.trkOwner (s : State) (l : Nat) : Nat := s.fld (DEC_TRKCFG l) 7 5

/-- Enabled loops that partition `p` owns. -/
def State.loopsOf (s : State) (p : Nat) : List Nat :=
  (List.range 64).filter fun l => s.bit (DEC_TRKCFG l) 2 && s.trkOwner l == p

/-- A tracking record of loop `l` for tick `t`. -/
def State.trkRecAt (s : State) (l what event : Nat) (value delta : Int) (count t : Nat) : State :=
  let p := s.trkOwner l
  let v := wrapInt 64 value
  s.queueRec p (mkRec (b4 3 l what event) (s.jobNum p) (BitVec.ofNat 64 t) (lo32 v) (hi32 v) (wrapInt 32 delta)
    (min count 65535 + 65536 * s.trkTarget l))

/-- FW of frame `f` has become `v` at sub-tick `inst`: the loop that moved it reports its change (08 R267, R270). -/
def State.fwNoted (s : State) (p f : Nat) (v : BitVec 48) (inst : Nat) : State :=
  s.forEach ((s.loopsOf p).filter fun l => s.trkKind l == 2 && s.trkTarget l == f && (s.loop l).fwPend.isNone) fun s l =>
    match (s.loop l).fwNote with
    | some n => (s.trkRecAt l 4 n.1 v.toInt n.2.1 n.2.2 (inst / 32)).updLoop l fun x => { x with fwNote := none }
    | none => s

/-- A device-originated write to frame `f` of partition `p` applies at sub-tick `inst` (02 R66). -/
def State.devApply (s : State) (p src f : Nat) (isFw : Bool) (v : BitVec 48) (inst : Nat) : State :=
  let s := s.putFrame f inst ((s.frame f).dev isFw v)
  let s := if isFw then s.fwNoted p f v inst else s
  let a := (s.part p).attempt
  s.journal p (jentry 5 src f a.shotNo (mkTag (inst / 32) (inst % 32) p a.shotNo f 3 false false false false a.num)
    (lo32 v.toNat) (hi32 v.toNat) (if isFw then 1 else 2) 0)

/-- A device-originated write of instant `inst`, deferred while the frame is protected (06 R204). -/
def State.devWriteAt (s : State) (p src f : Nat) (isFw : Bool) (v : BitVec 48) (inst : Nat) : State :=
  if (s.conflicts f inst).isEmpty then s.devApply p src f isFw v inst
  else s.updFab fun b => { b with deferred := b.deferred ++ [(f, v, isFw, p, src)] }

/-- A device-originated write of this instant. -/
def State.devWrite (s : State) (p src f : Nat) (isFw : Bool) (v : BitVec 48) : State :=
  (s.setIssued f ((s.frameIssued f).dev isFw v)).devWriteAt p src f isFw v (32 * s.now)

/-! Program writes (02 R66, 01 R23). -/

/-- The frame that an event writes. -/
def EvKind.frameWritten : EvKind → Option Nat
  | .setf f _ | .setph f _ | .shiftph f _ => some f
  | _ => none

/-- Frame `x` after the write `k`. -/
def Frame.apply (x : Frame) : EvKind → Frame
  | .setf _ v => { x with fw := v }
  | .setph _ v => { x with ph := v }
  | .shiftph _ v => { x with ph := x.ph + v }
  | _ => x

/-- Whether an event has reached its tile in time. -/
def Event.atTile (e : Event) : Bool :=
  match e.stage with
  | .tile | .released => true
  | _ => false

/-- Whether frame write `e` comes before `x` (01 R23, 02 R66): by instant, program writes first, then as issued. -/
def Event.writeBefore (e x : Event) : Bool :=
  decide (e.inst < x.inst) || (e.inst == x.inst &&
    ((!e.device && x.device) || (e.device == x.device && decide (e.id < x.id))))

/-- `e` put into a list of writes in the order in which they apply. -/
def insertWrite (e : Event) : List Event → List Event
  | [] => [e]
  | x :: l => if e.writeBefore x then e :: x :: l else x :: insertWrite e l

/-- Writes to frame `f` that wait at the tiles with an instant up to `inst`, in the order in which they apply. -/
def State.frameQueue (s : State) (f inst : Nat) : List Event :=
  (s.fab.events.filter fun e => e.kind.frameWritten == some f && e.atTile && decide (e.inst ≤ inst)).foldr insertWrite []

/-- Whether the write `e` to frame `f` is applied (06 R203): a program write that conflicts is not, but for one in
STREAM mode that was accepted before every window it meets. -/
def State.writeHolds (s : State) (e : Event) (f : Nat) : Bool :=
  let l := s.conflicts f e.inst
  e.device || l.isEmpty || ((s.part e.part).mode == .stream && l.all fun w => decide (e.id < w.id))

/-- Frame `f` as held at sub-tick `inst` (02 R66, R68): the value before the first later write, or the present one with
the writes that still wait and come before. -/
def State.frameAt (s : State) (f inst : Nat) : Frame :=
  match s.fab.past.find? fun x => x.1 == f && decide (inst < x.2.1) with
  | some x => x.2.2
  | none => (s.frameQueue f inst).foldl (fun x e => if s.writeHolds e f then x.apply e.kind else x) (s.frame f)

/-- The frames of partition `p` go back to the checkpoint: only those that differ are written (02 R70). -/
def State.restoreFrames (s : State) (p : Nat) : State :=
  s.forEach (s.part p).ckpt.owned fun s f =>
    let x := look (fun _ => {}) (s.part p).ckpt.frames f
    let s := { s with fab := { s.fab with deferred := s.fab.deferred.filter fun d => d.1 != f } }
    let s := s.setIssued f x
    let y := s.frame f
    let s := if y.fw = x.fw then s else (s.devWrite p 0xFF f true x.fw).setIssued f x
    if y.ph = x.ph then s else (s.devWrite p 0xFF f false (x.ph - y.ph)).setIssued f x

/-! Output stages (03 R103-R108). -/

/-- STATE of output channel `n`: 0 OFF, 1 MUTED, 2 DRIVEN. -/
def State.ochState (s : State) (n : Nat) : Nat := s.fld (OCH_STAT n) 1 0

/-- A DRIVEN channel mutes with its edge beginning at tick boundary `b` (03 R105). -/
def State.muteCh (s : State) (n b : Nat) : State :=
  if s.ochState n = 2 then
    (s.setFld (OCH_STAT n) 1 0 1).updChan n fun c => { c with edge := some (b, false) }
  else s

/-- Whether `u` is a FOREVER tone whose reservation is still open: it sounds, or LIMIT has cut it (03 R92). -/
def Pulse.isOpen (u : Pulse) : Bool := u.cw && (!u.done || u.rsvTo.isNone)

/-- The FOREVER tones of channel `n` end (03 R86). -/
def State.endTones (s : State) (n : Nat) : State :=
  let ids := (s.fab.pulses.filter fun u => u.ch == n && u.isOpen).map (·.id)
  s.forEach ids fun s i => (s.endPulse i false).updPulse i fun u => { u with rsvTo := some (s.now + 2) }

/-- An asynchronous mute of channel `n` at the next tick boundary (03 R108). -/
def State.asyncMute (s : State) (n : Nat) : State := (s.muteCh n (s.now + 1)).endTones n

/-- The channel's DAC powers down (03 R103). -/
def State.ochOff (s : State) (n : Nat) : State := s.setFld (OCH_STAT n) 1 0 0

/-- Tick boundary at which a pulse's filter tail has ended, 2 envelope periods after its last envelope sample; a FOREVER
tone counts as ending at `j` (03 R82, R107, R530). -/
def State.pulseEnd (s : State) (u : Pulse) (j : Nat) : Nat :=
  match s.obj u.obj, u.cw with
  | some o, false =>
    match o.maxlen with
    | some m => (u.start + (m * 16 - 1) * o.ratio + 2 * o.ratio + 31) / 32
    | none => j
  | _, _ => j

/-- A device event with the next acceptance number. -/
def State.addDevice (s : State) (e : Event) : State :=
  s.updFab fun b => { b with events := b.events ++ [{ e with id := b.nextId, device := true }], nextId := b.nextId + 1 }

/-- Scheduled mutes of partition `p` at tick `t` or after its last pulses (03 R107). -/
def State.scheduleMutes (s : State) (p t : Nat) : State :=
  s.forEach (s.ochsOf p) fun s n =>
    let b := (s.fab.pulses.filter (·.ch == n)).foldl (fun m u => max m (s.pulseEnd u t)) t
    s.addDevice { part := p, core := 255, inst := 32 * b, kind := .mute n }

/-! Scheduler entries (05 R180, R181). -/

/-- Entries that partition `p` holds of its own quota. -/
def State.entOwn (s : State) (p : Nat) : Nat :=
  (s.fab.events.filter fun e => e.part == p && !e.device && e.lender.isNone).length
/-- Entries that partition `p` holds, with those borrowed. -/
def State.entUsed (s : State) (p : Nat) : Nat :=
  (s.fab.events.filter fun e => e.part == p && !e.device).length
def State.entBorrowed (s : State) (p : Nat) : Nat :=
  (s.fab.events.filter fun e => e.part == p && !e.device && e.lender.isSome).length
/-- Entries lent by `l`; 8 stands for those that no quota commits. -/
def State.entLent (s : State) (l : Nat) : Nat := (s.fab.events.filter fun e => e.lender == some l).length
def State.reserveUsed (s : State) : Nat := (s.fab.events.filter (·.device)).length

/-- Entries of its quota that partition `p` may still take. -/
def State.entFree (s : State) (p : Nat) : Nat := s.fld (SCHED_QUOTA p) 17 0 - s.entOwn p - s.entLent p

/-- Entries that no quota commits and that are free. -/
def State.entSpare (s : State) : Nat :=
  126976 - ((List.range s.nPart).map fun q => s.fld (SCHED_QUOTA q) 17 0).sum - s.entLent 8

/-- Whether partition `p` can take `k` entries, borrowing inside a begun shot. -/
def State.canTake (s : State) (p k : Nat) (begun : Bool) : Bool :=
  decide (k ≤ s.entFree p) ||
    (begun && decide (k ≤ s.entFree p + s.entSpare +
      (((List.range s.nPart).filter (· != p)).map s.entFree).sum))

/-- Whether no begun shot of another partition has asked for entries before partition `p` asked at tick `t`; of one
tick, the lower partition comes first (01 R41). -/
def State.inLine (s : State) (p t : Nat) : Bool :=
  !((List.range s.nQtz).any fun d => (s.qtz d).st == .stallSched && match s.qtzOwner d, (s.qtz d).asked with
    | some q, some u => q != p && (s.part q).attempt.active && (decide (u < t) || (u == t && decide (q < p)))
    | _, _ => false)

/-- The lender of the next entry of partition `p`: none for its own quota. -/
def State.entLender (s : State) (p : Nat) : Option Nat :=
  if 0 < s.entFree p then none
  else findLender s.nPart p (decide (0 < s.entSpare)) fun q => decide (0 < s.entFree q)

/-- An accepted event takes its entry (05 R180, R181). -/
def State.addEvent (s : State) (e : Event) : State :=
  let l := s.entLender e.part
  let s := s.updFab fun b =>
    { b with events := b.events ++ [{ e with id := b.nextId, lender := l }], nextId := b.nextId + 1 }
  let s := s.maxReg (SCHED_PEAK e.part) (s.entUsed e.part)
  match l with
  | some q => if q = 8 then s else s.yields q 2 4 2 0#64 1 e.part
  | none => s

/-! Ports (05 R182). -/

/-- The port of an event: its tile, the frame ports (16) or the analogue die (17). -/
def State.portOf (s : State) (e : Event) : Nat :=
  match e.kind with
  | .play _ _ ch _ _ => ch / 4
  | .stop _ ch => ch / 4
  | .mute ch => ch / 4
  | .window w => match s.win w with | some x => x.ich | none => 16
  | .setf _ _ | .setph _ _ | .shiftph _ _ => 16
  | .setbias _ _ => 17

/-- Whether no event that was sent to the same port before one that arrives at tick `a` is still on its way (01 R21). -/
def State.inOrder (s : State) (e : Event) (a : Nat) : Bool :=
  !(s.fab.events.any fun x => s.portOf x == s.portOf e && match x.stage with | .transit b => decide (b < a) | _ => false)

/-- FRAME of an event's tag. -/
def State.frameOf (s : State) (e : Event) : Nat :=
  match e.kind with
  | .play f _ _ _ _ | .stop f _ | .setf f _ | .setph f _ | .shiftph f _ => f
  | .window w => match s.win w with | some x => x.dframe | none => 0
  | .setbias _ _ | .mute _ => 0

/-- The tag of an event held in the fabric (00 R13). -/
def State.tagOf (s : State) (e : Event) : BitVec 64 := evTag e (s.frameOf e) 1 (s.tainted e.part)

/-! Discards (01 R32; 05 R183; 06 R208). -/

/-- Every event, pulse and window of partition `p` goes at once, with entries, reservations and pins; scheduled
mutes stay. -/
def State.discardAll (s : State) (p : Nat) : State :=
  let isMute := fun e : Event => match e.kind with | .mute _ => true | _ => false
  let s := s.updFab fun b => { b with
    events := b.events.filter fun e => e.part != p || isMute e
    pulses := b.pulses.filter (·.part != p)
    wins := b.wins.filter (·.part != p)
    deferred := b.deferred.filter fun d => d.2.2.2.1 != p }
  (s.updGeo fun g => { g with pages := g.pages.map fun x =>
    { x with pins := x.pins.filter (·.1 != p), want := x.want.filter (·.1 != p) } }).trimPages

/-- Events of begun work that a mute of partition `p` loses (01 R45): those that wait, and the pulses that play; a
released pulse start counts once. The device's own events are not the shot's. -/
def State.lostEvents (s : State) (p : Nat) : Nat :=
  (s.fab.events.filter fun e => e.part == p && !e.device && !(s.fab.pulses.any fun u => u.id == e.id && u.playing)).length
    + (s.fab.pulses.filter fun u => u.part == p && u.playing && !u.done).length

/-! Demodulation lanes (06 R195, R196). -/

/-- Lanes of Mica core `k`'s group that reservations hold at tick `t`; a chained window keeps its lane. -/
def demodAt (l : List Window) (k t : Nat) : Nat :=
  (l.filter fun w => w.mica == k && decide (w.ls ≤ t) && decide (t ≤ w.we + decQ w.dec) &&
    !(l.any fun v => v.chained == some w.id && decide (v.ls ≤ t))).length

/-- Whether lane `l` of channel `n` is retired (09 R303). -/
def State.toneRetired (s : State) (n l : Nat) : Bool := (s.err (resource 2 (64 * l + n))).retired
/-- Whether lane `l` of Mica core `k`'s group is retired. -/
def State.demodRetired (s : State) (k l : Nat) : Bool := (s.err (resource 4 (64 * l + k))).retired
/-- The lanes of channel `n`: 8, or 16 when it is ganged (03 R74, R79). -/
def State.tones (s : State) (n : Nat) : Nat := if s.bit (OCH_CTRL n) 2 then 16 else 8

/-- Usable lanes of Mica core `k`'s group. -/
def State.groupLanes (s : State) (k : Nat) : Nat := s.fld (ICH_STAT (k / 4)) (7 + 4 * (k % 4)) (4 + 4 * (k % 4))

/-- Whether window `w` keeps its group within its usable lanes at every tick. -/
def State.demodFits (s : State) (w : Window) : Bool :=
  let l := s.fab.wins ++ [w]
  let points := w.ls :: (s.fab.wins.filter fun v => v.mica == w.mica && decide (w.ls ≤ v.ls) &&
    decide (v.ls ≤ w.we + decQ w.dec)).map (·.ls)
  points.all fun t => decide (demodAt l w.mica t ≤ s.groupLanes w.mica)

end Sys2Proof.Machine
end

