-- ==== Sys2Proof/Machine/Bias.lean ====
section
/-!
DEFINITION. Bias outputs: targets, the slew limiter, clamps and span changes (15 R433-R441), and the commands of the
bias family.
-/
namespace Sys2Proof.Machine

/-! States of BIAS_STAT.STATE. -/
def bClamped : Nat := 0
def bSteady : Nat := 1
def bRamping : Nat := 2
def bDown : Nat := 3
def bSwitch : Nat := 4
def bUp : Nat := 5
def bControl : Nat := 6

def State.biasState (s : State) (n : Nat) : Nat := s.fld (BIAS_STAT n) 2 0
def State.setBiasState (s : State) (n v : Nat) : State := s.setFld (BIAS_STAT n) 2 0 v

/-- The value of a 20-bit code in span `span` (15 R434). -/
def codeVal (span code : Nat) : Int := if 2 ≤ span then toSigned 20 code else (code % 2 ^ 20 : Nat)

/-- The elements of the thermometer bank that a code switches on, and the ladder's share of the next one (15 R433). -/
def biasBank (code : Nat) : Nat × Nat := (bits code 19 14, bits code 13 0)

/-- The code at the converter of output `n`: a step reaches it 32 ticks after its frame (15 R435). -/
def Bias.atConverter (b : Bias) (now : Nat) : Int := if now < b.moved + 32 then b.prev else b.out

/-- The voltage of output `n` at its ball in units of 5 V / 2^20: 0 V while clamped (15 R434, R438). -/
def State.biasVolts (s : State) (n : Nat) : Int :=
  if s.biasState n = bClamped ∨ s.biasState n = bSwitch then 0
  else
    let c := (s.bias n).atConverter s.now
    match s.fld (BIAS_STAT n) 4 3 with
    | 0 => c
    | 3 => 4 * c
    | _ => 2 * c

/-- Whether the current limit acts now: for certain in the tick in which it has acted for 1 µs, never on a clamped output,
and else a free value (15 R441; log 152). -/
def State.limitActs (s : State) (n : Nat) : Bool :=
  s.biasState n != bClamped && ((s.bias n).shortAt == some s.now || Config.limitActs n s.now)

/-- The first frame at or after tick `t` (15 R435). -/
def frameFrom (t : Nat) : Nat := (t + 639) / 640 * 640
/-- The first frame after tick `t`. -/
def frameAfter (t : Nat) : Nat := (t / 640 + 1) * 640

/-- Output `n` clamps at once (15 R440, R441). -/
def State.biasClamp (s : State) (n : Nat) : State :=
  let s := s.updBias n fun b => { b with
    changing := false, clampAfter := false, zFrame := none, next := none, target := 0, out := 0, prev := 0 }
  (s.setBiasState n bClamped).setBit (BIAS_STAT n) 5 false

/-- Output `n`, not clamped, receives target `v` at frame `f`: a limiter that is at its target starts there, and a
ramp keeps its grid (15 R437). -/
def State.biasAim (s : State) (n : Nat) (v : Int) (f : Nat) : State :=
  let b := s.bias n
  if b.next.isSome then
    s.updBias n fun b => { b with target := v, clampAfter := false }
  else if b.out = v then
    (s.updBias n fun b => { b with target := v, clampAfter := false, zFrame := none }).setBiasState n bSteady
  else
    let s := s.updBias n fun b => { b with target := v, next := some f, clampAfter := false, zFrame := none }
    if s.biasState n = bUp then s else s.setBiasState n bRamping

/-- A write of `v` takes effect at frame `f`: the first write opens the clamp; during a span change it replaces the
target that follows the switch, and on a clamped output the switch of span is made with it (15 R436, R438, R439; log 153). -/
def State.biasWrite (s : State) (n : Nat) (code f : Nat) : State :=
  let b := s.bias n
  if s.biasState n = bControl then s
  else if b.changing && s.biasState n != bUp && s.biasState n != bClamped then
    s.updBias n fun b => { b with codeTo := codeVal b.spanTo code }
  else
    let s := if b.changing && s.biasState n == bClamped then s.setFld (BIAS_STAT n) 4 3 b.spanTo else s
    let v := codeVal (s.fld (BIAS_STAT n) 4 3) code
    if s.biasState n = bClamped then
      let s := s.updBias n fun b => { b with out := 0, target := 0, next := none, changing := false, zFrame := none }
      ((s.setBit (BIAS_STAT n) 5 true).setBiasState n bSteady).biasAim n v f
    else s.biasAim n v f

/-- Output `n` ramps to code 0 from frame `f` and then clamps (15 R440). -/
def State.biasToClamp (s : State) (n f : Nat) : State :=
  if s.biasState n = bClamped then s
  else if (s.bias n).changing && s.biasState n = bSwitch then s.biasClamp n
  else
    (s.updBias n fun b => { b with
      target := 0, changing := false, clampAfter := true, next := some (b.next.getD f) }).setBiasState n bRamping

/-- Output `n` ramps to its default (15 R440); a clamped output stays clamped, and in CALIBRATE and TEST the default is
what the exit returns to (log 153). -/
def State.biasDefault (s : State) (n : Nat) : State :=
  if s.biasState n = bControl then
    s.updBias n fun b => { b with
      recorded := b.recorded.map fun (v, span, clamped) =>
        if s.bit (BIAS_CFG n) 4 then (codeVal span (s.fld (BIAS_DEFAULT n) 19 0), span, clamped) else (v, span, true) }
  else if s.biasState n = bClamped then s
  else if s.bit (BIAS_CFG n) 4 then s.biasWrite n (s.fld (BIAS_DEFAULT n) 19 0) (frameFrom s.now)
  else s.biasToClamp n (frameFrom s.now)

/-- The outputs of partition `p` at a HOLD entry (15 R440), their SETBIAS events in hand discarded. -/
def State.biasHold (s : State) (p : Nat) (drop : Bool) : State :=
  s.forEach (s.biasesOf p) fun s n =>
    let s := if drop then s.updBias n fun b => { b with events := [] } else s
    if s.bit (BIAS_CFG n) 5 then s.biasDefault n else s

/-- The outputs of partition `p` at a partition reset (15 R440). -/
def State.biasReset (s : State) (p : Nat) : State :=
  s.forEach (s.biasesOf p) fun s n =>
    let s := s.updBias n fun b => { b with events := [] }
    if s.bit (BIAS_CFG n) 6 then s.biasDefault n else s

/-- The sequence of 15 R439 starts: down from `d0`, then the switch to `span` and the ramp to `v`. -/
def State.biasChange (s : State) (n span d0 : Nat) (v : Int) : State :=
  (s.updBias n fun b => { b with
    changing := true, spanTo := span, codeTo := v, target := 0, clampAfter := false, zFrame := none,
    next := some d0 }).setBiasState n bDown

/-- Every assigned output at the entry to CALIBRATE or TEST (15 R440). -/
def State.biasControl (s : State) : State :=
  s.forEach ((List.range s.nBias).filter fun n => (s.biasOwner n).isSome) fun s n =>
    let span := s.fld (BIAS_STAT n) 4 3
    let clamped := s.biasState n == bClamped
    (s.updBias n fun b => { b with
      recorded := some (if b.changing then b.codeTo else b.target, if b.changing then b.spanTo else span, clamped)
      changing := false, clampAfter := false, zFrame := none, next := none }).setBiasState n bControl

/-- The outputs that item BIAS of a calibration run measures ramp to code 0 under their limiters, and stand at 0 V until the
run ends (16 R460). -/
def State.biasMeasured (s : State) : State :=
  s.forEach ((List.range s.nBias).filter fun n => bitOf s.cal.bmask.toNat n) fun s n =>
    match (s.bias n).recorded with
    | some (_, _, false) => s.updBias n fun b => { b with target := 0, next := some (frameFrom s.now) }
    | _ => s

/-- Every assigned output at the exit from CALIBRATE or TEST (15 R440). -/
def State.biasRestore (s : State) : State :=
  s.forEach (List.range s.nBias) fun s n =>
    match (s.bias n).recorded with
    | none => s
    | some (v, span, clamped) =>
      let s := s.updBias n fun b => { b with recorded := none }
      if clamped then (s.biasClamp n).setFld (BIAS_STAT n) 4 3 span
      else if s.fld (BIAS_STAT n) 4 3 = span then
        (s.setBiasState n (if (s.bias n).next.isSome then bRamping else bSteady)).biasAim n v (frameFrom s.now)
      else (s.setBiasState n bSteady).biasChange n span (frameAfter s.now) v

/-- BIAS_SPAN's in-force span at image load (15 R440). -/
def State.biasLoadSpan (s : State) (n : Nat) : State :=
  s.setFld (BIAS_STAT n) 4 3 (s.fld (BIAS_SPAN n) 1 0)

/-! Commands. -/

/-- SETBIAS_ARRIVE (15 R436; 01 R21, R24): a SETBIAS event is late when fewer than 48 ticks remain to its TIME. -/
def execSetbiasArrive (event : Crossing) (s : State) : Host.Outcome State Fault Refusal :=
  let id := event.id
  let link := event.link
  answer s (match s.event id with
    | none => s
    | some e =>
      match e.kind, e.stage with
      | .setbias n code, .transit a =>
        if a ≤ s.now && s.inOrder e a then
          if e.inst < 32 * (s.now + 48) then
            let s := s.inc (BIAS_LATECNT n)
            if (s.part e.part).mode = .shot then
              ((s.updBias n fun b => { b with events := b.events ++
                [(s.now + 1, id, code.toNat, true)] }).stick (BIAS_STAT n) 9).updEvent id fun e => { e with stage := .tile }
            else (s.cause e.part (if link then 3 else 1) e.core (resource 0 0) 1 (tagOr (s.tagOf e) 4 true)).freeEvent id
          else
            (s.updBias n fun b => { b with events := b.events ++ [((e.inst + 31) / 32, id, code.toNat, false)] }).updEvent id
              fun e => { e with stage := .tile }
        else s
      | _, _ => s)

/-- BIAS_FRAME (15 R435, R436, R438): at a frame, the events due take effect; the last one issued wins. A late event alone
does not open a clamp (log 153). -/
def execBiasFrame (n : Fin 128) (s : State) : Host.Outcome State Fault Refusal :=
  answer s (
    let due := (s.bias n.val).events.filter fun e => decide (e.1 ≤ s.now)
    match due with
    | [] => s
    | e :: l =>
      if s.now % 640 ≠ 0 ∨ (s.biasOwner n.val).isNone then s
      else
        let win := l.foldl (fun (a : Nat × Nat × Nat × Bool) b => if a.2.1 ≤ b.2.1 then b else a) e
        let s := s.updBias n.val fun b => { b with events := b.events.filter fun e => !decide (e.1 ≤ s.now) }
        let s := s.forEach due fun s e => s.freeEvent e.2.1
        if s.biasState n.val = bClamped ∧ due.all (·.2.2.2) = true then s else s.biasWrite n.val win.2.2.1 s.now)

/-- SLEW_STEP (15 R437): the limiter moves the code by at most STEP at its frame. -/
def execSlewStep (n : Fin 128) (s : State) : Host.Outcome State Fault Refusal :=
  answer s (
    let n := n.val
    match (s.bias n).next with
    | none => s
    | some f =>
      if s.now < f then s
      else
        let b := s.bias n
        let step : Int := (s.fld (BIAS_SLEW n) 19 0 : Nat)
        let d := b.target - b.out
        let d := if step = 0 then d else clamp (-step) step d
        let out := b.out + d
        let s := s.updBias n fun b => { b with prev := b.out, moved := f }
        if out ≠ b.target then
          s.updBias n fun b => { b with out := out, next := some (f + 640 * max 1 (s.fld (BIAS_UI n) 15 0)) }
        else if s.biasState n = bControl then s.updBias n fun b => { b with out := out, next := none }
        else if s.biasState n = bDown || b.clampAfter then
          s.updBias n fun b => { b with out := out, next := none, zFrame := some (f + 640) }
        else
          (s.updBias n fun b =>
            { b with out := out, next := none, changing := false, zFrame := none }).setBiasState n bSteady)

/-- BIAS_SPAN_WRITE (15 R439). -/
def State.biasSpanWrite (s : State) (n : Fin 128) (data : Word) : State :=
    let n := n.val
    if s.nBias ≤ n then s
    else
      let held := match s.biasOwner n with | some p => (s.part p).mode == .hold | none => false
      if held && s.mode == .run && !(s.bias n).changing then
        let span := bits data.toNat 1 0
        let code := bits data.toNat 23 4
        let s := s.setN (BIAS_SPAN n) (span + 16 * code)
        if s.biasState n = bClamped then
          s.updBias n fun b => { b with changing := true, spanTo := span, zFrame := some (frameAfter s.now) }
        else s.biasChange n span (frameAfter s.now) (codeVal span code)
      else s.stick (BIAS_STAT n) 8

/-- The command of that write. -/
def execBiasSpanWrite (n : Fin 128) (data : Word) (s : State) : Host.Outcome State Fault Refusal :=
  answer s (s.pf0 (s.biasSpanWrite n data))

/-- CLAMP_CLOSE (15 R439, R440): at frame Z the clamp closes, for a span change or for good. -/
def execClampClose (n : Fin 128) (s : State) : Host.Outcome State Fault Refusal :=
  answer s (
    let n := n.val
    match (s.bias n).zFrame with
    | none => s
    | some z =>
      if s.now < z then s
      else if (s.bias n).changing && s.biasState n = bDown then s.setBiasState n bSwitch
      else if (s.bias n).clampAfter then s.biasClamp n
      else s)

/-- SPAN_SWITCH (15 R439): ten frames after the clamp closed, or at D0 on a clamped output. -/
def execSpanSwitch (n : Fin 128) (s : State) : Host.Outcome State Fault Refusal :=
  answer s (
    let n := n.val
    match (s.bias n).zFrame with
    | none => s
    | some z =>
      if !(s.bias n).changing then s
      else if s.biasState n = bSwitch then
        if s.now < z + 6400 then s else s.setFld (BIAS_STAT n) 4 3 (s.bias n).spanTo
      else if s.biasState n = bClamped then
        if s.now < z then s
        else (s.setFld (BIAS_STAT n) 4 3 (s.bias n).spanTo).updBias n fun b => { b with changing := false, zFrame := none }
      else s)

/-- SPAN_UP (15 R439): twenty frames after the clamp closed, the output ramps to CODE in the new span. -/
def execSpanUp (n : Fin 128) (s : State) : Host.Outcome State Fault Refusal :=
  answer s (
    let n := n.val
    match (s.bias n).zFrame with
    | none => s
    | some z =>
      if !(s.bias n).changing || s.biasState n != bSwitch || decide (s.now < z + 12800)
        || s.fld (BIAS_STAT n) 4 3 != (s.bias n).spanTo then s
      else if (s.bias n).codeTo = 0 then
        (s.updBias n fun b => { b with changing := false, zFrame := none, next := none, target := 0 }).setBiasState n bSteady
      else
        (s.updBias n fun b => { b with target := b.codeTo, next := some (z + 12800), zFrame := none }).setBiasState n bUp)

/-- BIAS_SHORT (15 R441): the current limit has acted for 1 µs. -/
def execBiasShort (n : Fin 128) (s : State) : Host.Outcome State Fault Refusal :=
  answer s (
    let n := n.val
    if s.nBias ≤ n then s
    else
      let s := ((s.updBias n fun b => { b with shortAt := some s.now }).stick (BIAS_STAT n) 7).inc (BIAS_SCCNT n)
      if s.bit (BIAS_CFG n) 8 then s.biasClamp n else s)

/-- BIAS_RAIL_LOSS (15 R440): every output clamps at once. -/
def execBiasRailLoss (s : State) : Host.Outcome State Fault Refusal :=
  answer s (s.forEach (List.range s.nBias) fun s n => (s.biasClamp n).stick (BIAS_STAT n) 10)

/-- BIAS_CNTCLR (15 R454). -/
def State.biasCntclr (s : State) (n : Fin 128) : State :=
  if s.nBias ≤ n.val then s else s.clearCounts [BIAS_LATECNT n.val, BIAS_SCCNT n.val]

/-- The command of that write. -/
def execBiasCntclr (n : Fin 128) (s : State) : Host.Outcome State Fault Refusal :=
  answer s (s.pf0 (s.biasCntclr n))

end Sys2Proof.Machine
end

