-- ==== Sys2Proof/Machine/CaptureOps.lean ====
section
/-!
DEFINITION. Operations of the capture rings: records, gaps, reservations, raw bursts and triggers (10 R306-R332).
-/
namespace Sys2Proof.Machine

/-! Facility time of a tick (14 R416). -/

/-- INC in units of 2^-32 ns. -/
def State.ftInc (s : State) : Nat := s.regN PTP_INC_LO + 2 ^ 32 * s.fld PTP_INC_HI 7 0

/-- Facility time of tick `t`: reckoned from the first change of its course after `t`, or from the present pair (10 R312). -/
def State.ftAt (s : State) (t : Nat) : BitVec 64 :=
  let from_ := fun (t0 : Nat) (ft : BitVec 64) (inc : Nat) =>
    BitVec.ofNat 64 (wrapInt 64 ((ft.toNat : Int) + ((t : Int) - (t0 : Int)) * (inc : Int)))
  match s.time.ftPast.find? fun x => decide (t < x.1) with
  | some x => from_ x.1 x.2.1 x.2.2
  | none => from_ s.now s.time.ft s.ftInc

/-- The course of facility time changes at this tick: what it was so far is kept. -/
def State.ftMark (s : State) : State :=
  s.updTime fun t => { t with
    ftPast := (t.ftPast.filter fun x => decide (s.now < x.1 + 2 ^ 24)) ++ [(s.now, t.ft, s.ftInc)] }

def State.fnsAt (s : State) (t : Nat) : Word := BitVec.ofNat 32 ((s.ftAt t).toNat / 2 ^ 32)

/-! Rings. -/

/-- Whether ring `r` exists and belongs to partition `p` (10 R309). -/
def State.ringOwned (s : State) (r p : Nat) : Bool := s.bit (CAP_RCFG r) 3 && s.fld (CAP_RCFG r) 2 0 == p
def State.ringsOf (s : State) (p : Nat) : List Nat := (List.range 32).filter fun r => s.ringOwned r p
/-- 32-byte units of ring `r`. -/
def State.ringUnits (s : State) (r : Nat) : Nat := s.fld (CAP_RSIZE r) 12 0 * 524288
/-- Units that records and reservations hold. -/
def State.ringUsed (s : State) (r : Nat) : Nat :=
  ((s.ring r).recs.map (·.units)).sum + ((s.reqs.filter (·.ring == r)).map (·.resv)).sum
def State.ringSpace (s : State) (r : Nat) : Nat := s.ringUnits r - s.ringUsed r

/-- The number by which a record names a request that keeps it from draining. -/
def Req.key (q : Req) : Nat := 65536 * q.part + q.reqid

/-- Record `c` at the end of ring `r`, behind the reservations held (10 R320). -/
def State.ringAppend (s : State) (r : Nat) (c : CapRec) : State :=
  let hold := ((s.reqs.filter fun q => q.ring == r && q.armed).map Req.key)
  s.updRing r fun g => { g with recs := g.recs ++ [{ c with hold := hold }] }

/-- A TIME record of ring `r` for reason `reason` (10 R317). -/
def State.ringTime (s : State) (r reason : Nat) : State :=
  let ft := s.time.ft.toNat
  let c : CapRec := { type := 0x14, src := reason, units := 1, fns := s.fnsAt s.now
                      tag := mkTag s.now 0 (s.fld (CAP_RCFG r) 2 0) 0 0 3 false false false false 0
                      body := [BitVec.ofNat 32 s.now, BitVec.ofNat 32 (s.now / 2 ^ 32), BitVec.ofNat 32 ft,
                        BitVec.ofNat 32 (ft / 2 ^ 32)] }
  let s := (s.ringAppend r c).inc (CAP_RWRITTEN r)
  s.updRing r fun g => { g with lastTime := some s.now, stepped := false, epoch := false }

/-- The reason for a TIME record before the next record of ring `r`, if one is due (10 R317). -/
def State.ringTimeDue (s : State) (r : Nat) : Option Nat :=
  let g := s.ring r
  match g.lastTime with
  | none => some 0
  | some t => if g.epoch then some 4 else if g.stepped then some 3 else if t + 4194304 ≤ s.now then some 1 else none

/-- A loss of `records` records and `samples` samples of source `src` from tick `t` to tick `last` (10 R330, R331). -/
def State.gapAdd (s : State) (r cause src records samples t frame : Nat) (last : Nat := t) : State :=
  let g := s.ring r
  let cap := fun n : Nat => min n (2 ^ 32 - 1)
  let s := s.inc (CAP_RDROPPED r) records
  if g.gaps.any fun x => x.cause == cause && x.src == src then
    s.updRing r fun g => { g with gaps := g.gaps.map fun x =>
      if x.cause = cause ∧ x.src = src then
        { x with records := cap (x.records + records), samples := cap (x.samples + samples), last := max x.last last }
      else x }
  else
    let x : Gap := {
      cause := cause, src := src, records := cap records, samples := cap samples, first := t, last := last,
      ffirst := s.ftAt t, frame := frame, opened := s.now }
    s.updRing r fun g => { g with gaps := g.gaps ++ [x] }

/-- Whether 640,000 ticks have passed since the last gap record of `cause` and `src` (10 R331). -/
def State.gapQuiet (s : State) (r cause src : Nat) : Bool :=
  ((s.ring r).gapAt.filter fun x => x.1 == cause && x.2.1 == src).all fun x => decide (x.2.2 + 640000 ≤ s.now)

/-- Units of a gap record with the TIME record that follows it, and of one that is due before it (10 R316, R317). -/
def State.gapUnits (s : State) (r : Nat) : Nat := 3 + bn (s.ringTimeDue r).isSome

/-- The gap of `cause` and `src` is written: a TIME record that is due, the gap record, and the TIME record after it (10
R316, R317). -/
def State.gapEmit (s : State) (r cause src : Nat) : State :=
  match (s.ring r).gaps.find? fun x => x.cause == cause && x.src == src with
  | none => s
  | some x =>
    let s := match s.ringTimeDue r with | some k => s.ringTime r k | none => s
    let w := fun n : Nat => BitVec.ofNat 32 n
    let c : CapRec := { type := 0x13, src := src, units := 2, fns := w (x.ffirst.toNat / 2 ^ 32)
                        tag := mkTag x.first 0 (s.fld (CAP_RCFG r) 2 0) 0 x.frame 3 false false false false 0
                        body := [w cause, w x.records, w x.samples, 0#32, w x.first, w (x.first / 2 ^ 32), w x.last,
                          w (x.last / 2 ^ 32), w x.ffirst.toNat, w (x.ffirst.toNat / 2 ^ 32), 0#32, 0#32] }
    let s := ((s.ringAppend r c).inc (CAP_RWRITTEN r)).inc (CAP_RGAPS r)
    let s := s.updRing r fun g => { g with
      gaps := g.gaps.filter fun y => !(y.cause == cause && y.src == src)
      gapAt := (g.gapAt.filter fun y => !(y.1 == cause && y.2.1 == src)) ++ [(cause, src, s.now)] }
    s.ringTime r 2

/-- The gap of `cause` and `src` closes, where the rate limit allows it and 2 units stay free (10 R310, R331). -/
def State.gapWrite (s : State) (r cause src : Nat) : State :=
  if s.gapQuiet r cause src && decide (s.gapUnits r + 2 ≤ s.ringSpace r) then s.gapEmit r cause src else s

/-- The partition of ring `r`. -/
def State.ringPart (s : State) (r : Nat) : Nat := s.fld (CAP_RCFG r) 2 0

/-- Whether a record of `u` units of partition `p` finds room in the 8 MiB of on-chip capture buffer: one within the
partition's share of bandwidth always does (10 R330, 11 R355; log 154). -/
def State.capRoom (s : State) (p u : Nat) : Bool :=
  decide (((List.range s.nPart).map fun q => (s.part q).capWait).sum + u ≤ 262144)
    || decide ((s.part p).capWait + u ≤ 2 * s.fld (MEM_CAPQ p) 13 0)

/-- Record `c` goes to ring `r` by way of the on-chip buffer. -/
def State.ringKeep (s : State) (r : Nat) (c : CapRec) : State :=
  ((s.ringAppend r c).inc (CAP_RWRITTEN r)).updPart (s.ringPart r) fun q => { q with capWait := q.capWait + c.units }

/-- A record of source `src` is lost as the on-chip buffer overflows (10 R330). -/
def State.bufferLost (s : State) (r src samples t frame : Nat) : State :=
  (s.gapAdd r 2 src 1 samples t frame).stick CAP_STAT 3

/-- Record `c` of ring `r`: kept, behind the gaps of its source that close and a TIME record that is due, or lost when
it would leave fewer than 2 units free (10 R310, R317, R331). `samples` counts its loss; `src` is the source that a gap
names. -/
def State.ringPut (s : State) (r : Nat) (c : CapRec) (samples : Nat) (src : Nat := c.src) : State :=
  let t := fullTime s.now (tagTime c.tag)
  let closing := ((s.ring r).gaps.filter fun g => g.src == src && s.gapQuiet r g.cause g.src).length
  if !s.capRoom (s.ringPart r) c.units then s.bufferLost r src samples t (bits c.tag.toNat 19 10)
  else if c.units + 2 + bn (s.ringTimeDue r).isSome + 3 * closing ≤ s.ringSpace r then
    let s := s.forEach (((s.ring r).gaps.filter (·.src == src)).map (·.cause)) fun s k => s.gapWrite r k src
    let s := match s.ringTimeDue r with | some k => s.ringTime r k | none => s
    s.ringKeep r c
  else s.gapAdd r 1 src 1 samples t (bits c.tag.toNat 19 10)

/-! SAMPLES records (10 R313). -/

/-- The record that a collection makes. -/
def Samples.toRec (s : State) (x : Samples) : CapRec :=
  let item := fun i : Word × Nat × Bool × Bool =>
    [i.1, BitVec.ofNat 32 (i.2.1 % 65536 + 65536 * (bn i.2.2.1 + 2 * bn i.2.2.2))]
  let n := x.items.length
  let units := 1 + (n + 3) / 4
  let data := (x.items.map item).flatten
  { type := 0x10, src := x.mica, units := units, fns := s.fnsAt x.first
    tag := tagOr (tagOr x.tag 6 (x.items.any (·.2.2.1))) 5 (x.items.any (·.2.2.2))
    body := [BitVec.ofNat 32 n, 0#32, 0#32, 0#32] ++ data ++ List.replicate (8 * (units - 1) - data.length) 0#32 }

/-- `x` put into a list in the order of TIME, behind those of its own TIME. -/
def insertHeld (x : Nat × CapRec × Nat) : List (Nat × CapRec × Nat) → List (Nat × CapRec × Nat)
  | [] => [x]
  | y :: l => if x.1 < y.1 then x :: y :: l else y :: insertHeld x l

/-- Records of Mica core `k` that no older open collection of the core holds back are written (10 R311). -/
def State.micaRelease (s : State) (r k : Nat) : State :=
  let opens := ((s.ring r).coll.filter (·.mica == k)).map (·.first)
  let ready := fun x : Nat × CapRec × Nat => x.2.1.src == k && opens.all fun t => decide (x.1 ≤ t)
  let l := (s.ring r).held.filter ready
  (s.updRing r fun g => { g with held := g.held.filter fun x => !ready x }).forEach l fun s x => s.ringPut r x.2.1 x.2.2

/-- A record of Mica core `k` with TIME `t`, in its place among the core's records (10 R311). -/
def State.micaPut (s : State) (r k t : Nat) (c : CapRec) (samples : Nat) : State :=
  (s.updRing r fun g => { g with held := insertHeld (t, c, samples) g.held }).micaRelease r k

/-- The collection of context `x` of Mica core `k` on ring `r` closes, and its record is written in its place. -/
def State.samplesClose (s : State) (r k x : Nat) : State :=
  match (s.ring r).coll.find? fun c => c.mica == k && c.ctx == x with
  | none => s
  | some c =>
    let s := s.updRing r fun g => { g with coll := g.coll.filter fun c => !(c.mica == k && c.ctx == x) }
    s.micaPut r k c.first (c.toRec s) c.items.length

/-- A sample of context `x` of core `k`, instant `t`, appended to ring `r`. -/
def State.samplesAdd (s : State) (r k x t : Nat) (tag : BitVec 64) (v : Word) (settle ovf : Bool) : State :=
  let far := match (s.ring r).coll.find? fun c => c.mica == k && c.ctx == x with
    | some c => decide (65535 < t - c.first)
    | none => false
  let s := if far then s.samplesClose r k x else s
  let s := if (s.ring r).coll.any fun c => c.mica == k && c.ctx == x then
      s.updRing r fun g => { g with coll := g.coll.map fun c =>
        if c.mica = k ∧ c.ctx = x then { c with items := c.items ++ [(v, t - c.first, settle, ovf)] } else c }
    else
      let c : Samples := {
        mica := k, ctx := x, first := t, appended := s.now, tag := tag, items := [(v, 0, settle, ovf)] }
      s.updRing r fun g => { g with coll := g.coll ++ [c] }
  if (s.ring r).coll.any fun c => c.mica == k && c.ctx == x && decide (32 ≤ c.items.length) then s.samplesClose r k x else s

/-- The ring that takes core `k`'s stream output (10 R308). -/
def State.micaRing (s : State) (k : Nat) : Option Nat :=
  if s.bit (CAP_MRING k) 5 then some (s.fld (CAP_MRING k) 4 0) else none

/-- Every ring of partition `p` records `samples` lost for `cause` from `src` (10 R330). -/
def State.gapAll (s : State) (p cause src samples frame : Nat) : State :=
  s.forEach (s.ringsOf p) fun s r => s.gapAdd r cause src 0 samples s.now frame

/-! Raw requests (10 R318-R324). -/

def State.updReq (s : State) (k : Nat) (f : Req → Req) : State :=
  { s with reqs := s.reqs.map fun q => if q.key = k then f q else q }
def State.req (s : State) (k : Nat) : Option Req := s.reqs.find? (·.key == k)
/-- Channels of a request, ascending. -/
def Req.chans (q : Req) : List Nat := (List.range 16).filter fun m => bitOf q.chmask.toNat m
/-- 32-byte units of one RAW record (10 R315). -/
def Req.recUnits (q : Req) : Nat := if q.fmt then 49 else 65
/-- Units of the reservation (10 R320). -/
def Req.need (q : Req) : Nat := q.chans.length * ((q.pre + q.post + 63) / 64 + 65) * q.recUnits
/-- Whether request `q` acquires (10 R321). -/
def State.acquires (s : State) (q : Req) : Bool := q.armed && (s.part q.part).mode != .hold
/-- Taps armed device-wide (06 R210). -/
def State.taps (s : State) : List Nat := ((s.reqs.map Req.chans).flatten).eraseDups

/-- Request `k` becomes ARMED once its ring has room for its reservation (10 R320). -/
def State.reserve (s : State) (k : Nat) : State :=
  match s.req k with
  | none => s
  | some q =>
    if q.armed || decide (s.ringSpace q.ring < q.need + 2) then s
    else s.updReq k fun q => { q with armed := true, resv := q.need, since := s.now, zone := [] }

/-- The blocks of channel `m` for the 64 ticks from `t`, oldest first, when all are in the zone. -/
def Req.block (q : Req) (m t : Nat) : Option (List TapBlock) :=
  let l := (List.range 64).filterMap fun i => q.zone.find? fun b => b.ch == m && b.tick == t + i
  if l.length = 64 then some l else none

/-- The RAW record of channel `m` for 64 blocks from tick `t` (10 R315). -/
def Req.rawRec (q : Req) (s : State) (m t : Nat) (l : List TapBlock) : CapRec :=
  let map := l.foldr (fun b n => 2 * n + bn b.ovr) 0
  { type := 0x12, src := 0x40 + m, units := q.recUnits, fns := s.fnsAt t
    tag := mkTag t 0 q.part 0 0 0 false false (map != 0) false 0
    body := [BitVec.ofNat 32 (q.reqid % 65536 + 65536 * m + 2 ^ 24 * bn q.fmt), BitVec.ofNat 32 q.bursts,
      BitVec.ofNat 32 map, BitVec.ofNat 32 (map / 2 ^ 32)] ++ (l.map (·.data)).flatten }

/-- The RAW record of channel `m` for the 64 blocks `l` from tick `n` goes into the reservation of request `k`, behind
the gaps of its channel that close and a TIME record that is due; or it is lost to the on-chip buffer, and its place in
the reservation is left for its gap (10 R317, R320, R330, R331). -/
def State.rawPut (s : State) (k : Nat) (q : Req) (m n : Nat) (l : List TapBlock) : State :=
  let r := q.ring
  let c := q.rawRec s m n l
  if !s.capRoom (s.ringPart r) c.units then s.bufferLost r c.src 1024 n 0
  else
    let closing := ((s.ring r).gaps.filter fun g => g.src == c.src && s.gapQuiet r g.cause g.src).map (·.cause)
    let s := s.forEach closing fun s z =>
      (s.updReq k fun x => { x with resv := x.resv - s.gapUnits r }).gapEmit r z c.src
    let due := s.ringTimeDue r
    let s := match due with | some z => s.ringTime r z | none => s
    (s.ringKeep r c).updReq k fun x => { x with resv := x.resv - (q.recUnits + bn due.isSome) }

/-- Whole 64-tick blocks of the burst of request `k` that are complete in the zone are written into its reservation, at
most `fuel` (10 R320, R323). -/
def State.burstWrite (s : State) (k : Nat) : Nat → State
  | 0 => s
  | fuel + 1 =>
    match s.req k with
    | none => s
    | some q =>
      match q.burst with
      | none => s
      | some (f, e, n) =>
        let ls := q.chans.filterMap fun m => (q.block m n).map fun l => (m, l)
        if e ≤ n ∨ ls.length ≠ q.chans.length then s
        else
          let s := s.forEach ls fun s x => s.rawPut k q x.1 n x.2
          (s.updReq k fun q => { q with burst := some (f, e, n + 64) }).burstWrite k fuel

/-- The blocks from tick `a` to tick `b` that a burst of request `k` misses at its start: a gap in the reservation, which the
missing blocks leave room in (10 R323). -/
def State.pretrig (s : State) (k : Nat) (q : Req) (a b : Nat) : State :=
  let m := 0x40 + (q.chans.head?).getD 0
  let s := s.gapAdd q.ring 6 m 0 (16 * (b - a)) a 0 (b - 1)
  if s.gapQuiet q.ring 6 m then
    (s.updReq k fun x => { x with resv := x.resv - s.gapUnits q.ring }).gapEmit q.ring 6 m
  else s

/-- The burst of request `k`'s trigger begins (10 R323): every trigger of that tick has been registered (10 R324). -/
def State.beginBurst (s : State) (k : Nat) : State :=
  match s.req k with
  | none => s
  | some q =>
    match q.trig, q.burst with
    | some (r, t), none =>
      let want := (t - q.pre) / 64 * 64
      let stop := (t + q.post + 63) / 64 * 64
      let held := q.zone.foldl (fun m b => min m b.tick) r
      let have_ := (max q.since (if q.zone.isEmpty then r - 15 else held) + 63) / 64 * 64
      let first := max want have_
      let s := if want < first then s.pretrig k q want first else s
      let s := (s.inc (CAP_TRIGCNT q.part)).updReq k fun q =>
        { q with burst := some (first, max first stop, first), trig := none }
      s.burstWrite k (q.zone.length / 64 + 1)
    | _, _ => s

/-- Records that wait for request `k` only may drain. -/
def State.unhold (s : State) (r k : Nat) : State :=
  s.updRing r fun g => { g with recs := g.recs.map fun c => { c with hold := c.hold.filter (· != k) } }

/-- The ticks from `n` to the end `e` of a burst of request `q` that is truncated (10 R324). -/
def State.stopped (s : State) (q : Req) (n e : Nat) : State :=
  let m := 0x40 + (q.chans.head?).getD 0
  if n < e then (s.gapAdd q.ring 7 m 0 (16 * (e - n)) n 0 (e - 1)).gapWrite q.ring 7 m else s

/-- Request `k` ends at once; a burst in progress is truncated (10 R324). -/
def State.endReq (s : State) (k : Nat) : State :=
  let s := s.beginBurst k
  match s.req k with
  | none => s
  | some q =>
    let s := { s with reqs := s.reqs.filter (·.key != k) }
    let s := s.unhold q.ring k
    match q.burst with
    | none => s
    | some (_, e, n) => s.stopped q n e

/-- A trigger of instant `t` for request `k` (10 R320, R322, R324): the triggers of one tick make one burst, at the earliest
T. -/
def State.trigger (s : State) (k t : Nat) : State :=
  match s.req k with
  | none => s
  | some q =>
    if !s.acquires q || s.time.lost || q.burst.isSome then s.inc (CAP_TRIGIGN q.part)
    else s.updReq k fun q => { q with trig := some (match q.trig with | some (r, u) => (r, min u t) | none => (s.now, t)) }

/-- Every request of source `src` with index `idx` (and CODE) is triggered. -/
def State.triggerAll (s : State) (hit : Req → Bool) (t : Nat) : State :=
  s.forEach ((s.reqs.filter hit).map Req.key) fun s k => s.trigger k t

/-- The block of channel `m` at tick `t` enters the zones of the requests that tap it (10 R321, R323). -/
def State.tapBlock (s : State) (m t : Nat) (wide packed : List Word) (ovr : Bool) : State :=
  s.forEach ((s.reqs.filter fun q => s.acquires q && q.chans.contains m).map Req.key) fun s k =>
    let s := s.updReq k fun q =>
      let low := match q.burst with
        | some (_, _, n) => min n (t + 1 - (q.pre + 4096))
        | none => t + 1 - (q.pre + 4096)
      { q with zone := { ch := m, tick := t, data := if q.fmt then packed else wide, ovr := ovr } ::
          (q.zone.filter fun b => decide (low ≤ b.tick) && !(b.ch == m && b.tick == t)) }
    s.burstWrite k 1

/-- The capture side of a HOLD entry: collections close and requests end; a trigger of this tick is ignored (10 R313,
R324). -/
def State.captureHold (s : State) (p : Nat) : State :=
  let s := s.forEach (s.ringsOf p) fun s r =>
    s.forEach ((s.ring r).coll.map fun c => (c.mica, c.ctx)) fun s x => s.samplesClose r x.1 x.2
  let s := s.inc (CAP_TRIGIGN p) (s.reqs.filter fun q => q.part == p && q.trig.isSome).length
  s.forEach ((s.reqs.filter (·.part == p)).map Req.key) fun s k => (s.updReq k fun q => { q with trig := none }).endReq k

/-- The capture side of a reset of partition `p` (10 R332). -/
def State.captureReset (s : State) (p : Nat) : State :=
  let s := s.forEach (s.ringsOf p) fun s r =>
    (s.updRing r fun _ => {}).zeroRegs [CAP_RWRITTEN r, CAP_RDROPPED r, CAP_RGAPS r]
  let s := { s with reqs := s.reqs.filter (·.part != p) }
  s.zeroRegs [CAP_TRIGCNT p, CAP_TRIGIGN p]

end Sys2Proof.Machine
end

