-- ==== Sys2Proof/Machine/Line.lean ====
section
/-!
DEFINITION. What a mesh lane puts on its line: the 8b/10b code, Gray map, precoder and levels (12 R364, R365), the packets as
codewords (12 R371), and the transmitter's choice at each codeword boundary (12 R372).
-/
namespace Sys2Proof.Machine

/-! The 8b/10b code (12 R364; its tables are the standard code's, log 145). Codes are written with bit a first. -/

/-- The codes abcdei of the low five bits at negative disparity. -/
def codes6 : List Nat :=
  [0b100111, 0b011101, 0b101101, 0b110001, 0b110101, 0b101001, 0b011001, 0b111000] ++
  [0b111001, 0b100101, 0b010101, 0b110100, 0b001101, 0b101100, 0b011100, 0b010111] ++
  [0b011011, 0b100011, 0b010011, 0b110010, 0b001011, 0b101010, 0b011010, 0b111010] ++
  [0b110011, 0b100110, 0b010110, 0b110110, 0b001110, 0b101110, 0b011110, 0b101011]

/-- The codes fghj of the high three bits at negative disparity: of data, and of control codewords. -/
def codes4 : List Nat := [0b1011, 0b1001, 0b0101, 0b1100, 0b1101, 0b1010, 0b0110, 0b1110]
def codes4K : List Nat := [0b1011, 0b0110, 0b1010, 0b1100, 0b1101, 0b0101, 0b1001, 0b0111]

/-- Ones among the low `n` bits of `w`. -/
def ones (n w : Nat) : Nat := ((List.range n).filter (bitOf w)).length

/-- The abcdei code of a byte at running disparity `rd` (true is positive). -/
def code6 (c : Code) (rd : Bool) : Nat :=
  let x := c.2.toNat % 32
  let v := if c.1 && x == 28 then 0b001111 else codes6.getD x 0
  if rd && (ones 6 v != 3 || v == 0b111000) then 63 - v else v

/-- The fghj code of a byte at the disparity `rd` that its first six bits leave. -/
def code4 (c : Code) (rd : Bool) : Nat :=
  let x := c.2.toNat % 32
  let y := c.2.toNat / 32
  let alt := y == 7 && (if rd then [11, 13, 14] else [17, 18, 20]).contains x
  if c.1 then (let v := codes4K.getD y 0; if rd then 15 - v else v)
  else
    let v := if alt then 0b0111 else codes4.getD y 0
    if rd && (ones 4 v != 2 || v == 0b1100) then 15 - v else v

/-- The ten bits abcdei fghj of a codeword, bit a the most significant, and the running disparity after it. -/
def encodeCode (c : Code) (rd : Bool) : Nat × Bool :=
  let s := code6 c rd
  let mid := rd != (ones 6 s != 3)
  let f := code4 c mid
  (16 * s + f, mid != (ones 4 f != 2))

/-- The control codewords (12 R365). -/
def kCOM : Code := (true, 0xBC#8)
def kSTM : Code := (true, 0x1C#8)
def kSDC : Code := (true, 0x5C#8)
def kSLK : Code := (true, 0x7C#8)
def kSBK : Code := (true, 0xFB#8)
def kEOP : Code := (true, 0xFD#8)
def kEBP : Code := (true, 0xFE#8)

/-- Every codeword that may stand on a line. -/
def allCodes : List Code :=
  [kCOM, kSTM, kSDC, kSLK, kSBK, kEOP, kEBP] ++ (List.range 256).map fun n => (false, BitVec.ofNat 8 n)

/-- The codeword that ten bits spell at running disparity `rd`: none for an invalid one (12 R365). -/
def decodeCode (w : Nat) (rd : Bool) : Option Code := allCodes.find? fun c => (encodeCode c rd).1 == w

/-! Symbols and levels (12 R364). -/

/-- The pairs (a, b) ... (h, j) of a codeword, in the order in which they leave. -/
def pairsOf (w : Nat) : List Nat := [bits w 9 8, bits w 7 6, bits w 5 4, bits w 3 2, bits w 1 0]

/-- The Gray value of a pair, which is its own inverse on 0 to 3. -/
def gray (n : Nat) : Nat := match n with | 2 => 3 | 3 => 2 | n => n

/-- The precoder's symbols for the values `l` after symbol `p`. -/
def precode : Nat → List Nat → List Nat
  | _, [] => []
  | p, x :: l => let n := (x + 4 - p) % 4; n :: precode n l

/-- What the receiver recovers from the symbols `l` after symbol `r`. -/
def recover : Nat → List Nat → List Nat
  | _, [] => []
  | r, x :: l => (x + r) % 4 :: recover x l

/-- The level of a symbol, and the symbol of a level. -/
def levelOf (p : Nat) : Int := 2 * (p : Int) - 3
def symbolOf (v : Int) : Nat := ((v + 3) / 2).toNat

/-- A lane sends one codeword: five levels. -/
def Lane.send (x : Lane) (c : Code) : Lane :=
  let (w, rd) := encodeCode c x.txRd
  let p := precode x.txPre ((pairsOf w).map gray)
  { x with txRd := rd, txPre := p.getLastD 0, levels := x.levels ++ p.map levelOf }

/-- A lane receives the five levels of a codeword: what they spell, and the lane after it. -/
def Lane.receive (x : Lane) (l : List Int) : Option Code × Lane :=
  let r := l.map symbolOf
  let w := ((recover x.rxPre r).map gray).foldl (fun w n => 4 * w + n) 0
  let c := decodeCode w x.rxRd
  (c, { x with rxPre := r.getLastD 0, rxRd := (x.rxRd != (ones 10 w != 5)) })

/-- The coder and the receiver start afresh with training, and what was on the line is gone; both disparities start
negative (12 R364, log 145). -/
def Lane.fresh (x : Lane) : Lane :=
  { x with txRd := false, txPre := 0, rxRd := false, rxPre := 0, levels := [], cur := [], bulk := [] }

/-! Packets (12 R371). -/

/-- A packet's header and payload with its sequence number and RETRY. -/
def Packet.patched (p : Packet) : List Byte :=
  p.body.take 1 ++ [p.body.getD 1 0#8 ||| (if p.again then 0x10#8 else 0#8)] ++ toBytes 2 p.seq ++ p.body.drop 4

/-- Bytes of a packet between its start codeword and EOP. -/
def Packet.size (p : Packet) : Nat := p.body.length + 4

/-- A packet as codewords, with its CRC spoilt where one is to be injected (12 R388). -/
def packetCodes (start : Code) (body : List Byte) (spoil : Bool) : List Code :=
  let crc := crc32 body ^^^ bn spoil
  start :: (body ++ toBytes 4 crc).map (fun b => (false, b)) ++ [kEOP]

/-- The header of a packet: TYPE, HOPS with POISON, SEQ 0, DST, SRC, DPART and LEN, with the reserved bytes 0. -/
def headBytes (type : Nat) (h : Head) (len : Nat) : List Byte :=
  toBytes 1 type ++ toBytes 1 (h.hops.val + 8 * bn h.poison) ++ toBytes 2 0 ++ toBytes 1 h.dst.val ++ toBytes 1 h.src.val ++
    toBytes 1 h.dpart.val ++ toBytes 1 0 ++ toBytes 2 len ++ toBytes 2 0

/-- A packet of the given TYPE, header and payload. -/
def packetBody (type : Nat) (h : Head) (l : List Byte) : List Byte := headBytes type h l.length ++ l

/-- The payload of a DECIDE packet (12 R380). -/
def DecideBody.payload : DecideBody → List Byte
  | .result _ u => toBytes 2 u.dslot.val ++ toBytes 1 u.state.toNat ++ [u.flow] ++ toBytes 4 u.i.toNat ++
      toBytes 4 u.q.toNat ++
      toBytes 8 u.tag.toNat ++ toBytes 4 u.due.toNat
  | .barrier _ u => [u.span] ++ toBytes 1 (bn u.shotKind) ++ [u.id] ++ toBytes 1 0 ++ toBytes 4 u.shot.toNat ++
      toBytes 8 u.tl.toNat ++ toBytes 4 u.due.toNat
  | .verdict _ u => [u.span] ++ toBytes 1 u.verdict.val ++ [u.cause, u.attempt] ++ toBytes 4 u.shot.toNat ++
      toBytes 4 u.due.toNat
  | .seam _ u => [u.span] ++ toBytes 1 (bn u.corrections) ++ toBytes 2 u.entries.length ++ toBytes 4 u.round.toNat ++
      toBytes 4 u.due.toNat ++ u.entries.flatMap fun e => toBytes 2 e.1.toNat ++ [e.2, 0#8]

def DecideBody.head : DecideBody → Head
  | .result h _ | .barrier h _ | .verdict h _ | .seam h _ => h

/-- TYPE of a DECIDE packet: class 0b01 and its subtype. -/
def DecideBody.type : DecideBody → Nat
  | .result _ _ => 0x41
  | .barrier _ _ => 0x42
  | .verdict _ _ => 0x43
  | .seam _ _ => 0x44

/-- A DECIDE packet of partition `p` that waits at the transmitter `delay` ticks from now. -/
def DecideBody.packet (b : DecideBody) (rank p delay : Nat) : Packet :=
  { rank := rank, part := p, delay := delay, body := packetBody b.type b.head b.payload }

/-- A capture record as bytes (10 R312). -/
def CapRec.bytes (c : CapRec) : List Byte :=
  let l := toBytes 1 c.type ++ toBytes 1 c.src ++ toBytes 2 c.units ++ toBytes 4 c.fns.toNat ++ toBytes 8 c.tag.toNat ++
    c.body.flatMap fun w => toBytes 4 w.toNat
  l ++ List.replicate (32 * c.units - l.length) 0#8

/-- A BULK packet of partition `p` for ring `peer`: prefix and records (12 R381). No rule gives a BULK subtype: it is 0
(log 146). -/
def bulkPacket (h : Head) (rank p peer rseq delay : Nat) (l : List CapRec) : Packet :=
  { rank := rank, part := p, delay := delay
    body := packetBody 0x80 h (toBytes 1 peer ++ toBytes 3 0 ++ toBytes 4 rseq ++ l.flatMap CapRec.bytes) }

/-- A LINK packet of kind `k`, the n-th of its lane: 12 gives the content of none, but for its class and one hop
(log 146). -/
def linkBody (h : Head) (k n : Nat) : List Byte :=
  packetBody (0xC0 + (Config.linkSubtype k).val) { h with hops := 1 } (Config.linkPayload k n)

/-! The transmitter (12 R372, R378, R384). -/

/-- Whether a waiting packet may start now. -/
def Lane.mayStart (x : Lane) (p : Packet) : Bool := p.delay == 0 && (p.rank % 2 == 1 || x.gap == 0)

/-- The waiting packet of rank `r` that starts next: the oldest, but BULK beyond share in round robin of the partitions. -/
def Lane.nextOf (x : Lane) (r : Nat) : Option Packet :=
  let l := x.wait.filter fun p => p.rank == r && x.mayStart p
  if r = 3 then
    (List.range 8).findSome? fun k => l.find? fun p => p.part == (x.turn + 1 + k) % 8
  else l.head?

/-- The lane starts packet `p`: what is left of it goes out as the codewords in progress, or as the BULK packet in
progress. No further DECIDE packet starts on the lane for 4 ticks. -/
def Lane.start (x : Lane) (inj : Nat) (p : Packet) : Code × Lane :=
  let n := x.sent + 1
  let spoil := inj != 0 && n % 2 ^ inj == 0
  let x := { x with wait := x.wait.filter (fun o => o.seq != p.seq), sent := n
                    turn := if p.rank = 3 then p.part else x.turn }
  let cs := fun k => (packetCodes k p.patched spoil).drop 1
  if p.rank % 2 = 0 then (kSDC, { x with cur := cs kSDC, gap := 4 }) else (kSBK, { x with bulk := cs kSBK })

/-- The codeword that goes out next: the packet in progress if it is not BULK, else a DECIDE packet, a LINK packet, the
BULK packet in progress or a new one, DECIDE beyond share between BULK within and beyond share, and else COM. A TIME packet
starts at a tick boundary only (`State.launchTime`). -/
def Lane.pick (x : Lane) (h : Head) (inj : Nat) : Code × Lane :=
  match x.cur with
  | c :: l => (c, { x with cur := l })
  | [] =>
    match x.nextOf 0 with
    | some p => x.start inj p
    | none =>
      match x.linkWait with
      | k :: l => (kSLK, { x with
          linkWait := l, links := x.links + 1, cur := (packetCodes kSLK (linkBody h k x.links) false).drop 1 })
      | [] =>
        match x.bulk with
        | c :: l => (c, { x with bulk := l })
        | [] =>
          match [1, 2, 3].findSome? x.nextOf with
          | some p => x.start inj p
          | none => (kCOM, x)

/-- `n` codewords of a lane. -/
def Lane.transmit (h : Head) (inj : Nat) : Nat → Lane → Lane
  | 0, x => x
  | n + 1, x => let (c, x) := x.pick h inj; Lane.transmit h inj n (x.send c)

/-- One codeword of a test pattern, with one bit error in every 2^inj of them (12 R388; log 147). -/
def patternCode (pat inj n : Nat) : Code :=
  let b := Config.patternByte pat n
  (false, if inj != 0 && (n + 1) % 2 ^ inj == 0 then b ^^^ 1#8 else b)

/-- `n` codewords of a test pattern. -/
def Lane.runPattern (pat inj : Nat) : Nat → Lane → Lane
  | 0, x => x
  | n + 1, x => Lane.runPattern pat inj n ({ x.send (patternCode pat inj x.sent) with sent := x.sent + 1 })

/-- Bit errors in what the checker receives as the levels `l` of `n` codewords from number `k` on: an invalid codeword
counts its eight bits. -/
def checkPattern (pat : Nat) : Nat → Nat → Lane → List Int → Nat
  | 0, _, _, _ => 0
  | n + 1, k, x, l =>
    let (c, y) := x.receive (l.take 5)
    let e := match c with
      | some (false, b) => ones 8 (b ^^^ Config.patternByte pat k).toNat
      | _ => 8
    e + checkPattern pat n (k + 1) y (l.drop 5)

/-- Codewords that a lane sends in the tick numbered `t`: 1,125 in every 64 ticks, the first of which starts with a
codeword (12 R362). -/
def codesIn (t : Nat) : Nat := 1125 * (t % 64 + 1) / 64 - 1125 * (t % 64) / 64

end Sys2Proof.Machine
end

