-- ==== Sys2Proof/Machine/MeshOps.lean ====
section
/-!
DEFINITION. Operations of the mesh: routes, packets sent, and what a span exchanges (04 R155; 09 R294; 12 R371-R384).
-/
namespace Sys2Proof.Machine

def State.portState (s : State) (q : Nat) : Nat := s.fld (MESH_PSTAT q) 2 0
def State.devId (s : State) : Nat := s.fld MESH_ID 5 0

/-- The port and hop count towards device `d` (12 R379). -/
def State.route (s : State) (d : Nat) : Option (Nat × Nat) :=
  let a := MESH_ROUTE d
  if s.bit a 2 && s.portState (s.fld a 1 0) == 4 then some (s.fld a 1 0, s.fld a 5 3)
  else if s.bit a 8 && s.portState (s.fld a 7 6) == 4 then some (s.fld a 7 6, s.fld a 11 9)
  else none

/-- The span number that packets of partition `p` name. -/
def State.spanNo (s : State) (p : Nat) : Nat := s.boot.spanOf.getD p 255

/-- The partner partition of `p` on device `d` (17 R476). -/
def State.partnerOf (s : State) (p d : Nat) : Option Nat :=
  match s.boot.partner[64 * p + d]? with
  | some b => if b = 255#8 then none else some b.toNat
  | none => none

/-- The other devices of partition `p`'s span. -/
def State.spanDevs (s : State) (p : Nat) : List Nat :=
  if (s.spanOf p).isNone then []
  else (List.range 64).filter fun d => d != s.devId && (s.partnerOf p d).isSome

/-- The header of a packet to partition `dp` of device `d` over `h` hops (12 R371). -/
def State.head (s : State) (d dp h : Nat) : Head :=
  { hops := Fin.ofNat 8 h, dst := Fin.ofNat 64 d, src := Fin.ofNat 64 s.devId, dpart := Fin.ofNat 8 dp }

/-- BULK of other partitions than `p` that waits for port `q` (12 R384). -/
def State.bulkWaits (s : State) (p q : Nat) : List Nat :=
  (List.range s.nPart).filter fun l => l != p && (s.ringsOf l).any fun r =>
    s.fld (CAP_RCFG r) 5 4 == 1 && !(s.ring r).recs.isEmpty &&
      (match s.route (s.fld (CAP_RCFG r) 11 6) with | some (x, _) => x == q | none => false)

/-! Lanes (12 R366-R375, R385-R387). -/

/-- Whether lane `l` of port `q` is retired (12 R385). -/
def State.laneRetired (s : State) (q l : Nat) : Bool := (s.err (resource 7 (8 * q + l))).retired

/-- Whether lane `l` of port `q` is in service. -/
def State.laneUp (s : State) (q l : Nat) : Bool :=
  let x := s.lane q l
  x.trained && x.signal && x.aligned && !x.retraining && !x.testing && !s.laneRetired q l

def State.lanesUp (s : State) (q : Nat) : List Nat := (List.range 8).filter (s.laneUp q)

/-- The time lane of port `q`: its lowest lane in service (12 R375). -/
def State.timeLane (s : State) (q : Nat) : Option Nat := (s.lanesUp q).head?

/-- Whether the transmit side of lane `l` is asked to sleep: one that is not the time lane then takes no new packets
(12 R386, R387). -/
def State.sleepAsked (s : State) (q l : Nat) : Bool :=
  (s.bit (MESH_SLEEP q) l || (s.lane q l).peerReq) && s.timeLane q != some l

/-- Lanes of port `q` in service whose transmit side is awake. -/
def State.lanesAwake (s : State) (q : Nat) : List Nat := (s.lanesUp q).filter fun l => !(s.lane q l).txSleep

/-- Bytes in a lane's retry buffer. -/
def Lane.held (x : Lane) : Nat := (x.retry.map (·.2.2.size)).sum

/-- Packets that a new one finds ahead of it on a lane: of every class for BULK, of its own for DECIDE. -/
def Lane.load (x : Lane) (bulk : Bool) : Nat :=
  (x.wait.filter fun p => bulk || p.rank % 2 == 0).length + bn (x.gap != 0) + bn (bulk && !x.bulk.isEmpty)

/-- The first of `l` for which `f` is least. -/
def leastBy (f : Nat → Nat) : List Nat → Option Nat
  | [] => none
  | a :: l => match leastBy f l with
    | none => some a
    | some b => if f b < f a then some b else some a

/-- The lane of port `q` that takes a packet of `n` bytes: of those with room, the one with the fewest ahead (12 R373; log
148). -/
def State.laneFor (s : State) (q n : Nat) (bulk : Bool := true) : Option Nat :=
  leastBy (fun l => (s.lane q l).load bulk)
    ((s.lanesAwake q).filter fun l => !s.sleepAsked q l && decide ((s.lane q l).held + n ≤ 16384))

/-- Packet `p` takes a sequence number of a lane of port `q`, enters its retry buffer and waits there to be sent; one that
no lane has room for waits at the port (12 R372, R373). -/
def State.pushPacket (s : State) (q : Nat) (p : Packet) : State :=
  let held := (s.port q).wait.any fun o => o.rank % 2 == p.rank % 2
  match if held then none else s.laneFor q p.size (p.rank % 2 == 1) with
  | some l => s.updLane q l fun x =>
      let p := { p with seq := x.txSeq }
      { x with retry := x.retry ++ [(x.txSeq, 1, p)], wait := x.wait ++ [p], txSeq := (x.txSeq + 1) % 4096 }
  | none => s.updPort q fun x => { x with wait := x.wait ++ [p] }

/-- Packets that wait at port `q` go to the lanes that have room now. -/
def State.placeWaiting (s : State) (q : Nat) : State :=
  if (s.port q).wait.isEmpty then s
  else (s.updPort q fun x => { x with wait := [] }).forEach (s.port q).wait fun s p => s.pushPacket q p

/-- 64-byte units of `n` bytes (12 R383). -/
def meshUnits (n : Nat) : Nat := (n + 63) / 64

/-- The BULK share of partition `p` on port `q`, scaled down while the port has fewer than 8 usable awake lanes
(12 R383, R384). -/
def State.bulkShare (s : State) (p q : Nat) : Nat :=
  let sum := fun hi lo => ((List.range s.nPart).map fun p => s.fld (MESH_PSHARE p) hi lo).sum
  let own := s.fld (MESH_PSHARE p) 19 8
  let room := 256 * (s.lanesAwake q).length - 16 - sum 7 0
  if sum 19 8 ≤ room then own else own * room / sum 19 8

/-- Port `q` has received a packet that an ACK must follow (12 R373). -/
def State.oweAck (s : State) (q : Nat) : State := s.updPort q fun x => { x with ackOwed := true }

/-- A DECIDE packet of partition `p` is handed to the transmitter of port `q`, where it waits `delay` ticks from now. Beyond
the partition's share it takes BULK capacity in a begun shot, of which those whose BULK waits hear, and else goes behind
BULK within share (12 R383, R384). -/
def State.putDecide (s : State) (p q delay : Nat) (b : DecideBody) : State :=
  let n := look (fun _ => 0) (s.port q).dused p + 1
  let s := s.updPort q fun x => { x with out := (b.head.dst.val, b) :: x.out, dused := put (fun _ => 0) x.dused p n }
  let begun := (s.part p).attempt.active
  let beyond := decide (s.fld (MESH_PSHARE p) 7 0 < n)
  let k := b.packet (if beyond && !begun then 2 else 0) p delay
  let s := s.pushPacket q k
  if beyond && begun then s.forEach (s.bulkWaits p q) fun s l => s.yields l 2 4 5 0#64 (meshUnits k.size) p else s

/-- A BULK packet of partition `p` for ring `peer` is handed to the transmitter of port `q` (12 R381, R384). -/
def State.putBulk (s : State) (p q : Nat) (h : Head) (peer rseq : Nat) (l : List CapRec) : State :=
  let k := bulkPacket { h with poison := l.any (·.poison) } 1 p peer rseq 0 l
  let n := look (fun _ => 0) (s.port q).bused p + meshUnits k.size
  let s := s.updPort q fun x => { x with
    bulkOut := (h.dst.val, peer, rseq, l) :: x.bulkOut, bused := put (fun _ => 0) x.bused p n }
  s.pushPacket q (if s.bulkShare p q < n then { k with rank := 3 } else k)

/-- A DECIDE packet of partition `p` to device `d`: `mk` gives its content for a header and due tick. It is never
refused; one without a route is dropped (12 R377-R379, R384). The device's own logic takes 12 ticks. -/
def State.sendDecide (s : State) (p d dp : Nat) (mk : Head → Word → DecideBody) : State :=
  match s.route d with
  | none => s.inc (MESH_DROP (s.fld (MESH_ROUTE d) 1 0))
  | some (q, h) =>
    s.putDecide p q 12 (mk (s.head d dp h) (BitVec.ofNat 32 (s.now + 40 * h)))

/-- The shot number that a barrier of partition `p` names: of the shot that its cores are in, else of the one that starts
next (04 R155). -/
def State.barrierShot (s : State) (p : Nat) : Nat :=
  match (s.qtzOf p).filter fun c => (s.qtz c).part && (s.qtz c).inShot with
  | c :: _ => (s.qtz c).shotNo
  | [] => if (s.part p).replay then (s.part p).attempt.shotNo else (s.part p).shotNext

/-- Partition `p` sends its largest TL `tl` for a span SYNC or SHOT to every device of its span (04 R155). -/
def State.sendBarrier (s : State) (p : Nat) (shot : Bool) (id tl : Nat) : State :=
  let span := BitVec.ofNat 8 (s.spanNo p)
  let no := BitVec.ofNat 32 (s.barrierShot p)
  s.forEach (s.spanDevs p) fun s d =>
    s.sendDecide p d ((s.partnerOf p d).getD 0) fun h due =>
      .barrier h
        { span := span, shotKind := shot, id := BitVec.ofNat 8 id, shot := no, tl := BitVec.ofNat 64 tl, due := due }

/-- Partition `p` sends its verdict to every device of its span (09 R294). -/
def State.sendVerdict (s : State) (p v cause : Nat) : State :=
  let span := BitVec.ofNat 8 (s.spanNo p)
  let a := (s.part p).attempt
  s.forEach (s.spanDevs p) fun s d =>
    s.sendDecide p d ((s.partnerOf p d).getD 0) fun h due =>
      .verdict h {
        span := span, verdict := Fin.ofNat 3 v, cause := BitVec.ofNat 8 cause, attempt := BitVec.ofNat 8 a.num,
        shot := BitVec.ofNat 32 a.shotNo, due := due }

end Sys2Proof.Machine
end

