-- ==== Sys2Proof/Machine/Operands.lean ====
section
/-!
DEFINITION. The operand forms of Quartz instructions: encoded fields, register-source flags, branch offsets and
register pairs (04 R122-R124).
-/
namespace Sys2Proof.Machine

/-- Value register V[i] of core `c`. -/
def State.vr (s : State) (c i : Nat) : Word := look (fun _ => 0#32) (s.qtz c).v i
def Core.setV (q : Core) (i : Nat) (x : Word) : Core := { q with v := put (fun _ => 0#32) q.v i x }

/-- The 48-bit quantity of the pair V[i]:V[i+1] (04 R124). -/
def State.vpair (s : State) (c i : Nat) : BitVec 48 :=
  BitVec.ofNat 48 ((s.vr c i).toNat + 2 ^ 32 * ((s.vr c (i + 1)).toNat % 65536))
def Core.setPair (q : Core) (i : Nat) (x : BitVec 48) : Core :=
  (q.setV i (BitVec.ofNat 32 x.toNat)).setV (i + 1) (BitVec.ofNat 32 (x.toNat / 2 ^ 32))

/-- Field [hi:lo] of an instruction. -/
def qf (b : BitVec 56) (hi lo : Nat) : Nat := bits b.toNat hi lo
/-- Flag `i` of an instruction. -/
def qflag (b : BitVec 56) (i : Nat) : Bool := bitOf b.toNat i
/-- Whether every bit outside the listed fields is 0 (04 R122). -/
def onlyBits (n : Nat) (flds : List (Nat × Nat)) : Bool :=
  (flds.foldl (fun x f => setBits x f.1 f.2 0) n) == 0
/-- A signed 24-bit branch offset, held in [31:8]. -/
def qoffset (b : BitVec 56) : Int := toSigned 24 (qf b 31 8)
/-- The instruction word with opcode `op`. -/
def qword (op : Nat) (b : BitVec 56) : BitVec 64 := BitVec.ofNat 64 (op * 2 ^ 56 + b.toNat)

/-- A field whose flag may replace it by `w` bits of a value register (04 R123); none when the rest of the field is
not 0. -/
def State.qsrc (s : State) (c : Nat) (flag : Bool) (field w : Nat) : Option Nat :=
  if flag then (if field < 64 then some ((s.vr c field).toNat % 2 ^ w) else none) else some field

/-- Opcode of the instruction at index `i` of the partition's program. -/
def State.opcodeAt (s : State) (p i : Nat) : Option Nat :=
  match (s.part p).job with
  | some j => (j.code[i]?).map fun w => bits w.toNat 63 56
  | none => none

/-- The program length in instructions. -/
def State.codeLen (s : State) (p : Nat) : Nat :=
  match (s.part p).job with | some j => j.code.length | none => 0

/-- The participating cores of partition `p`'s job (04 R111). -/
def State.cast (s : State) (p : Nat) : List Nat := (s.qtzOf p).filter fun c => (s.qtz c).part

/-- Comparison COND of a BRV (04 R136); none for a reserved code. -/
def cond (k : Nat) (a b : Word) : Option Bool :=
  match k with
  | 0 => some (a == b)
  | 1 => some (a != b)
  | 2 => some (a.slt b)
  | 3 => some (!(a.slt b))
  | 4 => some (a.ult b)
  | 5 => some (!(a.ult b))
  | _ => none

/-- A branch target, as a 21-bit instruction index. -/
def target (pc : Nat) (off : Int) : Nat := wrapInt 21 ((pc : Int) + off)

/-- The loops left after a taken branch to `t`: of the first `n`, opened in the innermost call, those whose extent
does not hold the target pop (04 R138). -/
def popLoops : Nat → List LoopFrame → Nat → List LoopFrame
  | 0, l, _ => l
  | _ + 1, [], _ => []
  | n + 1, f :: l, t => if f.start ≤ t ∧ t ≤ f.stop then f :: l else popLoops n l t

/-- Loops that the innermost call, or the whole program, has opened. -/
def Core.ownLoops (q : Core) : Nat :=
  match q.calls with
  | [] => q.loops.length
  | f :: _ => q.loops.length - f.depth

/-- The core after a taken branch to index `t`. -/
def Core.branch (q : Core) (t : Nat) : Core := { q with loops := popLoops q.ownLoops q.loops t, pc := t }

/-- The core after an instruction that goes on to the next. -/
def Core.next (q : Core) : Core := { q with pc := (q.pc + 1) % 2 ^ 21 }

/-- Tag fields of what core `c` issues at its cursor. -/
def State.cursorTag (s : State) (c p frame kind : Nat) : BitVec 64 :=
  let q := s.qtz c
  mkTag (q.tl / 32) (q.tl % 32) p (if q.inShot then q.shotNo else 0) frame kind
    (s.tainted p && q.inShot) false false false (if q.inShot then q.attempt else 0)

end Sys2Proof.Machine
end

