-- ==== Sys2Proof/Machine/Hold.lean ====
section
/-!
DEFINITION. Entering HOLD, at once or at a boundary, and the faults that lead to it (01 R29-R33; 04 R157; 07 R239, R241;
08 R247, R283; 13 R400, R407).
-/
namespace Sys2Proof.Machine

/-! What a HOLD or a verdict restores. -/

/-- The slots of partition `p` take value and tag from the checkpoint; their queues are empty (08 R247, 09 R531). -/
def State.restoreSlots (s : State) (p : Nat) : State :=
  s.forEach (s.slotsOf p) fun s i =>
    let c := look (fun _ => {}) (s.part p).ckpt.slots i
    s.updSlot i fun x => { c with queue := [], commits := x.commits }

/-- Partition `p`'s Garnet state goes back to the checkpoint (08 R283). -/
def State.restoreGraph (s : State) (p : Nat) : State := s.updGraph p fun g => { g with run := (s.part p).ckpt.graph }

/-- An immediate HOLD with no attempt to roll back (08 R283): the backlog is discarded and the checkpointed state comes back
where one is held; frame writes already applied stay. -/
def State.holdGraph (s : State) (p : Nat) : State :=
  let c := (s.part p).ckpt
  s.updGraph p fun g => { g with run :=
    if c.valid then { c.graph with pauli := g.run.pauli }
    else { g.run with backlog := [], busy := none, seam := [], seamWait := false } }

/-- A sequence still open when partition `p`'s job ends is closed (08 R274). -/
def State.garnetClose (s : State) (p : Nat) : State :=
  let s := if (s.graph p).run.got.isEmpty then s else s.inc (GARNET_ERR p)
  s.updGraph p fun g => { g with run := { pauli := g.run.pauli } }

/-- Frames, slots and Garnet state of partition `p` go back to the checkpoint (09 R290). -/
def State.rollback (s : State) (p : Nat) : State :=
  if (s.part p).ckpt.valid then ((s.restoreFrames p).restoreSlots p).restoreGraph p else s

/-- A context that stops at once: its window, samples and starts are gone, its registers stay (07 R241). -/
def Ctx.idle (x : Ctx) : Ctx := { x with win := none, fifo := [], queue := [], rep := none, prev := none }

/-- The Mica cores of partition `p` at an immediate HOLD (07 R241). -/
def State.micaIdle (s : State) (p : Nat) : State :=
  s.forEach (s.micasOf p) fun s k =>
    s.updMica k fun m => { m with ctx := m.ctx.map fun x => (x.1, x.2.idle), stopped := false }

/-- The Quartz cores of partition `p` halt; their state is kept (01 R29, 04 R112). -/
def State.haltCores (s : State) (p : Nat) : State :=
  s.forEach (s.qtzOf p) fun s c =>
    s.updQtz c fun q =>
      { q with st := .halted, held := none, asked := none, brd := none, atShot := false, syncId := none, left := [] }

/-- The order of HOLD causes that meet in one tick (01 R33). -/
def holdRank : HoldCause → Nat
  | .trip => 1 | .coreFault => 2 | .longPress => 3 | .reset => 4 | .request => 5 | .shortPress => 5 | .none => 6

/-- Whether a HOLD for this cause needs a resume (01 R30). -/
def needsResume : HoldCause → Bool
  | .request | .shortPress | .longPress | .trip | .coreFault => true
  | .none | .reset => false

/-- The attempt that a trip ends counts as a failed shot with cause TRIP (09 R287). -/
def State.tripVerdict (s : State) (p : Nat) : State :=
  let a := (s.part p).attempt
  if a.active && (s.part p).probe.isNone then
    let tag := mkTag s.now 0 p a.shotNo 0 3 true false false false a.num
    let s := s.taintAtt p 7 0xFF (resource 0 0) 0 tag
    let e := a.e.getD s.now
    let s := (s.jappend p (jentry 8 2 7 a.shotNo tag (lo32 e) (hi32 e) (lo32 s.now) (hi32 s.now))).1
    let s := (s.maxReg (STRATA_JMAX p) (s.part p).attempt.entries).updAtt p fun a => { a with active := false }
    ((s.inc (STRATA_FAILS p)).inc (STRATA_CAUSECNT p 7)).updJob p fun j => { j with failedShots := j.failedShots + 1 }
  else s

/-- Partition `p` enters HOLD at once for `cause` (01 R32); `recs` are the error records of the occurrence, which come
before the completion record. A further trigger of the same tick replaces the cause where it ranks above it. -/
def State.enterHold (s : State) (p : Nat) (cause : HoldCause) (recs : List Rec) : State :=
  let q := s.part p
  if q.mode = .hold then
    let s := s.forEach recs fun s r => s.queueRec p r
    if q.holdAt = s.now ∧ holdRank cause < holdRank q.cause then
      (s.setCause p cause).updPart p fun q => { q with resumeNeeded := q.resumeNeeded || needsResume cause }
    else s
  else
    let s := if cause = .trip then s.tripVerdict p else s
    let gone := (s.fab.wins.filter (·.part == p)).map (·.id)
    let s := (s.discardAll p).updFab fun b => { b with units := b.units.filter fun u => !gone.contains u.1 }
    let s := if q.attempt.active then s.rollback p else s.holdGraph p
    let s := s.updPart p fun q => { q with
      attempt := {}, probe := none, probeActs := [], barrierTl := [], barrierOwed := [], replay := false, holdReq := none
      cold := [] }
    let s := ((s.haltCores p).micaIdle p).captureHold p
    let s := s.forEach (s.slotsOf p) fun s i => s.updSlot i fun x => { x with queue := [] }
    let s := s.forEach (s.ochsOf p) fun s n => s.asyncMute n
    let s := s.biasHold p true
    let s := ((s.flushYields p).flushLoans p).forEach recs fun s r => s.queueRec p r
    let s := if cause = .reset then s.updPart p fun q => { q with job := none }
      else s.completeJob p 2 (causeCode cause)
    let s := s.updPart p fun q => { q with resumeNeeded := q.resumeNeeded || needsResume cause, holdAt := s.now }
    (s.setMode p .hold).setCause p cause

/-- Partition `p` enters HOLD at a boundary of instant `t`, with scheduled mutes; a hold request or a short press ends
its job as aborted (01 R29; 03 R107; 13 R407). -/
def State.holdBoundary (s : State) (p t : Nat) (cause : Option HoldCause) : State :=
  let s := match cause with
    | some c => (s.completeJob p 2 (causeCode c)).garnetClose p
    | none => s
  let s := s.scheduleMutes p t
  let s := s.forEach (s.fab.pulses.filter fun u => u.part == p && u.isOpen) fun s u =>
    (s.endPulse u.id true).updPulse u.id fun u => { u with rsvTo := some (t + 2) }
  let s := (s.haltCores p).captureHold p
  let s := s.updPart p fun q => { q with
    attempt := {}, probe := none, probeActs := [], barrierTl := [], barrierOwed := [], replay := false,
    holdReq := none, cold := []
    holdAt := s.now
    resumeNeeded := q.resumeNeeded || (match cause with | some c => needsResume c | none => false) }
  let s := (s.dropPins (coldUser p)).trimPages
  let s := s.biasHold p false
  match cause with
  | some c => (s.setMode p .hold).setCause p c
  | none => s.setMode p .hold

/-- A Quartz core fault (04 R157): the code and PC are recorded, every core of the partition halts, and the partition
enters HOLD at once. -/
def State.coreFault (s : State) (c code : Nat) : State :=
  match s.qtzOwner c with
  | none => s
  | some p =>
    let pc := (s.qtz c).pc
    let r := errorRec 3 code 1 (s.jobNum p) (s.cursorTag c p 0 3) s.now (resource 6 c) pc
    let s := (s.setN (QTZ_FAULT c) code).setN (QTZ_FAULTPC c) pc
    (s.enterHold p .coreFault [r]).updQtz c fun q => { q with st := .faulted }

/-- A Mica core fault (07 R239) at instruction `pc` of context `x`. -/
def State.micaFault (s : State) (k x code : Nat) : State :=
  match s.micaOwner k with
  | none => s
  | some p =>
    let pc := (s.ctx k x).pc
    let tag := match (s.ctx k x).win.bind s.win with
      | some w => mkTag s.now 0 p w.shot w.dframe 3 false false false false w.attempt
      | none => mkTag s.now 0 p 0 0 3 false false false false 0
    let r := errorRec 4 code 1 (s.jobNum p) tag s.now (resource 5 k) pc
    let s := s.setN (MICA_FAULT k) (code + 256 * (pc % 4096))
    let s := s.updMica k fun m => { m with stopped := true, faulted := true }
    (s.enterHold p .coreFault [r]).updMica k fun m => { m with faulted := true }

end Sys2Proof.Machine
end

