-- ==== Sys2Proof/Machine/QuartzIssue.lean ====
section
/-!
DEFINITION. What Quartz instructions share: when a core executes, how an event is issued, and which events are
refused (04 R114-R117, R141, R157; 05 R174-R181).
-/
namespace Sys2Proof.Machine

/-- Faults (04 R157). -/
def fIllegal : Nat := 5
def fMode : Nat := 9
def fOwner : Nat := 10
def fShotNest : Nat := 8

/-- Whether core `c` executes instructions: it runs, in a partition in SHOT or STREAM with a program job. -/
def State.qtzLive (s : State) (c : Nat) : Option Nat :=
  match s.qtzOwner c with
  | some p =>
    if c < s.nQtz && (s.qtz c).st == .running && (s.part p).mode != .hold && (s.part p).job.isSome then some p else none
  | none => none

/-- Whether the line of the next instruction is in the instruction cache; the lines hold 16 instructions (04 R118). -/
def Core.cached (q : Core) : Bool := !q.paged || q.lines.contains (q.pc / 16)

/-- The core with the lines `l` in its cache, the latest used first; the least recently used go (log 131). -/
def Core.keepLines (q : Core) (l : List Nat) : Core :=
  { q with lines := (l ++ q.lines.filter fun x => !l.contains x).take 2048 }

/-- The core as it executes an instruction: it prefetches the two lines that follow (04 R118). -/
def Core.fetched (q : Core) : Core := if q.paged then q.keepLines [q.pc / 16, q.pc / 16 + 1, q.pc / 16 + 2] else q

/-- The fetch of an instruction that core `c` executes. -/
def State.fetch (s : State) (c : Nat) : State := if (s.qtz c).paged then s.updQtz c Core.fetched else s

/-- A miss of core `c`: it is counted, and the core stalls until the line is there (04 R118). -/
def State.icacheMiss (s : State) (c : Nat) : State :=
  (s.inc (QTZ_ICMISS c)).updQtz c fun q => { q with st := .stallFetch, stallFrom := s.now }

/-- Whether the instruction at index `i` of partition `p`'s program has a reserved opcode (04 R122). -/
def State.reservedAt (s : State) (p i : Nat) : Bool :=
  match s.opcodeAt p i with
  | some n => (quartzOp n).isNone
  | none => false

/-- An instruction of core `c` in partition `p`. A core that does not run executes nothing; a fetch beyond the code is a
fault (04 R157), one of a line that is not cached stalls (04 R118), and a reserved opcode is ILLEGAL (04 R122). -/
def State.qtz1 (s : State) (c : Nat) (f : State → Nat → State) : State :=
  match s.qtzLive c with
  | some p =>
    if s.codeLen p ≤ (s.qtz c).pc then s.coreFault c 6
    else if !(s.qtz c).cached then s.icacheMiss c
    else if s.reservedAt p (s.qtz c).pc then s.coreFault c fIllegal
    else f (s.fetch c) p
  | none => s

/-- An instruction that is illegal unless `ok` (04 R122). -/
def State.legal (s : State) (c : Nat) (ok : Bool) (f : State → State) : State :=
  if ok then f s else s.coreFault c fIllegal

/-- The next instruction follows. -/
def State.qnext (s : State) (c : Nat) : State := s.updQtz c Core.next

/-- Writes `x` to V[d] and goes on. -/
def State.qset (s : State) (c d : Nat) (x : Word) : State := s.updQtz c fun q => (q.setV d x).next

/-- Whether core `c` is inside a begun shot. -/
def State.begun (s : State) (c p : Nat) : Bool := (s.qtz c).inShot && (s.part p).attempt.active

/-- Instructions that SHOT mode allows only inside a shot (04 R141). -/
def State.inShotOnly (s : State) (c p : Nat) (f : State → State) : State :=
  if (s.part p).mode = .shot ∧ !(s.qtz c).inShot then s.coreFault c fMode else f s

/-- A stall of core `c` on the instruction word `w`. -/
def State.qstall (s : State) (c : Nat) (st : CoreSt) (w : BitVec 64) : State :=
  s.updQtz c fun q => { q with st := st, held := some w, stallFrom := if q.held.isSome then q.stallFrom else s.now }

/-- A timed instruction stalls while its TIME lies beyond the look-ahead limit (02 R62, 04 R117). -/
def State.timed (s : State) (c p : Nat) (w : BitVec 64) (f : State → State) : State :=
  if s.now + s.fld (TIME_LOOKAHEAD p) 19 0 < (s.qtz c).tl / 32 then s.qstall c .stallLa w
  else f s

/-- The REF_LOST stall of a STREAM partition's timed instructions (02 R51). -/
def State.refStall (s : State) (c p : Nat) (w : BitVec 64) (f : State → State) : State :=
  if s.time.lost && (s.part p).mode == .stream then s.qstall c .stallLa w else f s

/-- The core's slack for an event at its cursor (04 R115). -/
def State.slack (s : State) (c : Nat) : Int := ((s.qtz c).tl / 32 : Nat) - (s.now : Int)

/-- An event with slack below 58 counts as late (04 R116). -/
def State.lateNote (s : State) (c : Nat) (k : Int) : State :=
  if k < 58 then (s.stick (QTZ_STAT c) 14).inc (QTZ_LATECNT c) else s

/-- The smallest slack is kept (04 R115). -/
def State.slackMin (s : State) (c : Nat) (k : Int) : State :=
  if k < toSigned 24 (s.regN (QTZ_SLACKMIN c)) then
    s.setN (QTZ_SLACKMIN c) (wrapInt 24 (clamp (-8388608) 8388607 k))
  else s

/-- The core's slack for an event at its cursor is recorded (04 R115, R116). -/
def State.slackNote (s : State) (c : Nat) : State := (s.lateNote c (s.slack c)).slackMin c (s.slack c)

/-- The event that core `c` issues at its cursor. -/
def State.cursorEvent (s : State) (c p : Nat) (k : EvKind) : Event :=
  let q := s.qtz c
  { part := p, core := c, inst := q.tl, kind := k, shot := if q.inShot then q.shotNo else 0,
    attempt := if q.inShot then q.attempt else 0 }

/-- A resource error (04 R157): inside a shot the attempt fails with PROGRAM and the instruction goes on; outside it
is the fault OWNER. -/
def State.resourceError (s : State) (c p res : Nat) (go : State → State) : State :=
  if (s.qtz c).inShot then go (s.cause p 9 c res 0 (s.cursorTag c p 0 1))
  else s.coreFault c fOwner

/-- An accepted event of core `c`: its entry, journal entry and the job's last instant. -/
def State.acceptEvent (s : State) (c p : Nat) (k : EvKind) (w : BitVec 64) (opnd : BitVec 48) : State :=
  let e := s.cursorEvent c p k
  let s := s.addEvent e
  let s := s.updJob p fun j => { j with lastEvent := max j.lastEvent e.inst }
  s.journal p (jentry 2 c 0 e.shot (s.tagOf { e with id := s.fab.nextId - 1 })
    (lo32 w.toNat) (hi32 w.toNat) (lo32 opnd.toNat) (hi32 opnd.toNat))

/-- Whether partition `p` may name output channel `n`: it owns it and the channel is not silent (03 R79). -/
def State.ochUsable (s : State) (p n : Nat) : Bool :=
  n < s.nOch && s.ochOwner n == some p && !s.bit (OCH_STAT n) 4
def State.objUsable (s : State) (p n : Nat) : Bool := s.objInRange p n && (s.obj n).isSome

/-- A pulse-start event of object `obj` on frame `f`, channel `ch`, at core `c`'s cursor: accepted, or refused with the
cause that 03 R86, 05 R175, R178 or 09 R302 gives. -/
def State.startPulse (s : State) (c p f obj ch : Nat) (gain : BitVec 16) (cw : Bool) (w : BitVec 64) : State :=
  match s.obj obj with
  | none => s
  | some o =>
    let tag := s.cursorTag c p f 1
    if o.forever != cw || (cw && (s.part p).mode == .shot) then s.cause p 9 0xF0 (resource 0x0C obj) 0 tag
    else if o.damaged then s.cause p 10 0xF0 (resource 0x0C obj) 0 tag
    else if s.bit (OCH_STAT ch) 3 then s.cause p 10 0xF0 (resource 1 ch) 0 tag
    else
      let tl := (s.qtz c).tl
      let a := tl / 32 - 2
      let b := o.maxlen.map fun m => rsvEnd tl m o.ratio
      if !s.laneFits ch a b then (s.inc (SCHED_LXCNT p)).cause p 8 0xF0 (resource 1 ch) 0 tag
      else
        let id := s.fab.nextId
        let e := s.cursorEvent c p (.play f obj ch gain cw)
        let s := s.acceptEvent c p (.play f obj ch gain cw) w 0#48
        let s := s.updFab fun x => { x with pulses := x.pulses ++ [{
          id := id, part := p, ch := ch, frame := f, obj := obj, gain := gain, start := tl, rsvFrom := a, rsvTo := b,
          cw := cw, shot := e.shot, attempt := e.attempt }] }
        let due := tl / 32 - 38
        s.requestPages p obj (o.headSet 2048) id pinOpen due

/-- The stall on scheduler entries for `n` events of core `c` (05 R181). A begun shot borrows once no earlier request of
another partition waits (01 R41). -/
def State.entries (s : State) (c p n : Nat) (w : BitVec 64) (f : State → State) : State :=
  let t := (s.qtz c).asked.getD s.now
  if s.canTake p n (s.begun c p && s.inLine p t) then f (s.updQtz c fun q => { q with asked := none })
  else (s.qstall c .stallSched w).updQtz c fun q => { q with asked := some t }

/-- A core that was stalled runs on, with its stall counted in the counter at `a`. -/
def State.unstall (s : State) (c : Nat) (a : Option Nat) : State :=
  let t := s.now - (s.qtz c).stallFrom
  let s := s.updQtz c fun q => { q with st := .running, held := none }
  match a with
  | some r => s.inc r t
  | none => s

end Sys2Proof.Machine
end

