-- ==== Sys2Proof/Machine/Quartz.lean ====
section
/-!
DEFINITION. Quartz arithmetic, value and control-flow instructions (04 R125, R126, R131-R140, R150-R153).
-/
namespace Sys2Proof.Machine

/-! Arithmetic (04 R131). -/

/-- An instruction D, A, B. -/
def State.aluR (s : State) (c : Nat) (w : BitVec 56) (f : Word → Word → Word) : State :=
  s.qtz1 c fun s _ => s.legal c (onlyBits w.toNat [(55, 50), (49, 44), (43, 38)]) fun s =>
    s.qset c (qf w 55 50) (f (s.vr c (qf w 49 44)) (s.vr c (qf w 43 38)))

/-- An instruction D, A, IMM. -/
def State.aluI (s : State) (c : Nat) (w : BitVec 56) (ok : Bool) (f : Word → Word → Word) : State :=
  s.qtz1 c fun s _ => s.legal c (ok && onlyBits w.toNat [(55, 50), (49, 44), (31, 0)]) fun s =>
    s.qset c (qf w 55 50) (f (s.vr c (qf w 49 44)) (BitVec.ofNat 32 (qf w 31 0)))

/-- An instruction on 48-bit pairs; each index is even (04 R124). -/
def State.aluP (s : State) (c : Nat) (w : BitVec 56) (f : BitVec 48 → BitVec 48 → BitVec 48) : State :=
  s.qtz1 c fun s _ =>
    let d := qf w 55 50
    let a := qf w 49 44
    let b := qf w 43 38
    s.legal c (onlyBits w.toNat [(55, 50), (49, 44), (43, 38)] && d % 2 == 0 && a % 2 == 0 && b % 2 == 0) fun s =>
      s.updQtz c fun q => (q.setPair d (f (s.vpair c a) (s.vpair c b))).next

/-- The ADD result (04 R131). -/
def aluAdd (a b : Word) : Word := a + b
/-- ADD (04 R131). -/
def execAdd (c : Fin 16) (bits : BitVec 56) (s : State) : Host.Outcome State Fault Refusal :=
  answer s (s.aluR c.val bits aluAdd)

/-- The SUB result (04 R131). -/
def aluSub (a b : Word) : Word := a - b
/-- SUB (04 R131). -/
def execSub (c : Fin 16) (bits : BitVec 56) (s : State) : Host.Outcome State Fault Refusal :=
  answer s (s.aluR c.val bits aluSub)

/-- The AND result (04 R131). -/
def aluAnd (a b : Word) : Word := a &&& b
/-- AND (04 R131). -/
def execAnd (c : Fin 16) (bits : BitVec 56) (s : State) : Host.Outcome State Fault Refusal :=
  answer s (s.aluR c.val bits aluAnd)

/-- The OR result (04 R131). -/
def aluOr (a b : Word) : Word := a ||| b
/-- OR (04 R131). -/
def execOr (c : Fin 16) (bits : BitVec 56) (s : State) : Host.Outcome State Fault Refusal :=
  answer s (s.aluR c.val bits aluOr)

/-- The XOR result (04 R131). -/
def aluXor (a b : Word) : Word := a ^^^ b
/-- XOR (04 R131). -/
def execXor (c : Fin 16) (bits : BitVec 56) (s : State) : Host.Outcome State Fault Refusal :=
  answer s (s.aluR c.val bits aluXor)

/-- The SHL result (04 R131). -/
def aluShl (a b : Word) : Word := a <<< (b.toNat % 32)
/-- SHL (04 R131). -/
def execShl (c : Fin 16) (bits : BitVec 56) (s : State) : Host.Outcome State Fault Refusal :=
  answer s (s.aluR c.val bits aluShl)

/-- The SHR result (04 R131). -/
def aluShr (a b : Word) : Word := a >>> (b.toNat % 32)
/-- SHR (04 R131). -/
def execShr (c : Fin 16) (bits : BitVec 56) (s : State) : Host.Outcome State Fault Refusal :=
  answer s (s.aluR c.val bits aluShr)

/-- The SRA result (04 R131). -/
def aluSra (a b : Word) : Word := a.sshiftRight (b.toNat % 32)
/-- SRA (04 R131). -/
def execSra (c : Fin 16) (bits : BitVec 56) (s : State) : Host.Outcome State Fault Refusal :=
  answer s (s.aluR c.val bits aluSra)

/-- The MUL result (04 R131). -/
def aluMul (a b : Word) : Word := a * b
/-- MUL (04 R131). -/
def execMul (c : Fin 16) (bits : BitVec 56) (s : State) : Host.Outcome State Fault Refusal :=
  answer s (s.aluR c.val bits aluMul)

/-- The MIN result (04 R131). -/
def aluMin (a b : Word) : Word := if a.slt b then a else b
/-- MIN (04 R131). -/
def execMin (c : Fin 16) (bits : BitVec 56) (s : State) : Host.Outcome State Fault Refusal :=
  answer s (s.aluR c.val bits aluMin)

/-- The MAX result (04 R131). -/
def aluMax (a b : Word) : Word := if a.slt b then b else a
/-- MAX (04 R131). -/
def execMax (c : Fin 16) (bits : BitVec 56) (s : State) : Host.Outcome State Fault Refusal :=
  answer s (s.aluR c.val bits aluMax)

/-- The MOV result (04 R131). -/
def aluMov (a _b : Word) : Word := a
/-- MOV (04 R131). -/
def execMov (c : Fin 16) (bits : BitVec 56) (s : State) : Host.Outcome State Fault Refusal :=
  answer s (s.aluR c.val bits aluMov)

/-- ADDP (04 R131, R124). -/
def execAddp (c : Fin 16) (bits : BitVec 56) (s : State) : Host.Outcome State Fault Refusal :=
  answer s (s.aluP c.val bits fun a b => a + b)

/-- SUBP (04 R131, R124). -/
def execSubp (c : Fin 16) (bits : BitVec 56) (s : State) : Host.Outcome State Fault Refusal :=
  answer s (s.aluP c.val bits fun a b => a - b)

/-- ADDI (04 R131). -/
def execAddi (c : Fin 16) (bits : BitVec 56) (s : State) : Host.Outcome State Fault Refusal :=
  answer s (s.aluI c.val bits true aluAdd)

/-- SUBI (04 R131). -/
def execSubi (c : Fin 16) (bits : BitVec 56) (s : State) : Host.Outcome State Fault Refusal :=
  answer s (s.aluI c.val bits true aluSub)

/-- ANDI (04 R131). -/
def execAndi (c : Fin 16) (bits : BitVec 56) (s : State) : Host.Outcome State Fault Refusal :=
  answer s (s.aluI c.val bits true aluAnd)

/-- ORI (04 R131). -/
def execOri (c : Fin 16) (bits : BitVec 56) (s : State) : Host.Outcome State Fault Refusal :=
  answer s (s.aluI c.val bits true aluOr)

/-- XORI (04 R131). -/
def execXori (c : Fin 16) (bits : BitVec 56) (s : State) : Host.Outcome State Fault Refusal :=
  answer s (s.aluI c.val bits true aluXor)

/-- SHLI (04 R131). -/
def execShli (c : Fin 16) (bits : BitVec 56) (s : State) : Host.Outcome State Fault Refusal :=
  answer s (s.aluI c.val bits true aluShl)

/-- SHRI (04 R131). -/
def execShri (c : Fin 16) (bits : BitVec 56) (s : State) : Host.Outcome State Fault Refusal :=
  answer s (s.aluI c.val bits true aluShr)

/-- SRAI (04 R131). -/
def execSrai (c : Fin 16) (bits : BitVec 56) (s : State) : Host.Outcome State Fault Refusal :=
  answer s (s.aluI c.val bits true aluSra)

/-- MULI (04 R131). -/
def execMuli (c : Fin 16) (bits : BitVec 56) (s : State) : Host.Outcome State Fault Refusal :=
  answer s (s.aluI c.val bits true aluMul)

/-- MINI (04 R131). -/
def execMini (c : Fin 16) (bits : BitVec 56) (s : State) : Host.Outcome State Fault Refusal :=
  answer s (s.aluI c.val bits true aluMin)

/-- MAXI (04 R131). -/
def execMaxi (c : Fin 16) (bits : BitVec 56) (s : State) : Host.Outcome State Fault Refusal :=
  answer s (s.aluI c.val bits true aluMax)

/-- LDI: its A field must be 0 (04 R131). -/
def execLdi (c : Fin 16) (bits : BitVec 56) (s : State) : Host.Outcome State Fault Refusal :=
  answer s (s.aluI c.val bits (qf bits 49 44 == 0) fun _ i => i)

/-- One step of the random-number generator (04 R132). -/
def rndStep (x : BitVec 64) : BitVec 64 :=
  let x := x ^^^ (x <<< 13)
  let x := x ^^^ (x >>> 7)
  x ^^^ (x <<< 17)

/-- RND (04 R132). -/
def execRnd (c : Fin 16) (bits : BitVec 56) (s : State) : Host.Outcome State Fault Refusal :=
  answer s (s.qtz1 c.val fun s _ => s.legal c.val (onlyBits bits.toNat [(55, 50)]) fun s =>
    s.updQtz c.val fun q =>
      let x := rndStep q.rng
      (({ q with rng := x }).setV (qf bits 55 50) (BitVec.ofNat 32 (x.toNat / 2 ^ 32))).next)

/-- A special value of core `c` in partition `p` (04 R133). -/
def State.special (s : State) (c p : Nat) : Nat → Option Nat
  | 0 => some (s.qtz c).shotNo
  | 1 => some (s.qtz c).attempt
  | 2 => some (s.qtz c).lastCause
  | 3 => some c
  | 4 => some p
  | 5 => some (if (s.qtz c).inShot then min ((s.qtz c).tl / 32 - (s.part p).attempt.s) (2 ^ 32 - 1) else 0)
  | _ => none

/-- MOVS; a reserved S is ILLEGAL (04 R133). -/
def execMovs (c : Fin 16) (bits : BitVec 56) (s : State) : Host.Outcome State Fault Refusal :=
  answer s (s.qtz1 c.val fun s p =>
    match s.special c.val p (qf bits 49 44) with
    | some x => s.legal c.val (onlyBits bits.toNat [(55, 50), (49, 44)]) fun s =>
        s.qset c.val (qf bits 55 50) (BitVec.ofNat 32 x)
    | none => s.coreFault c.val fIllegal)

/-! Time (04 R125, R126). -/

/-- NOP (04 R140). -/
def execNop (c : Fin 16) (bits : BitVec 56) (s : State) : Host.Outcome State Fault Refusal :=
  answer s (s.qtz1 c.val fun s _ => s.legal c.val (bits == 0#56) fun s => s.qnext c.val)

/-- A cursor value in its 64-bit tick count and 5-bit sub-tick (04 R112). -/
def wrapTl (x : Nat) : Nat := x % 2 ^ 69

/-- WAIT (04 R125). -/
def execWait (c : Fin 16) (bits : BitVec 56) (s : State) : Host.Outcome State Fault Refusal :=
  answer s (s.qtz1 c.val fun s _ =>
    let reg := qflag bits 0
    s.legal c.val (onlyBits bits.toNat [(55, 50), (44, 40), (39, 8), (0, 0)] &&
        (!reg || (qf bits 44 40 == 0 && qf bits 39 8 == 0))) fun s =>
      let d := if reg then 32 * (s.vr c.val (qf bits 55 50)).toNat else 32 * qf bits 39 8 + qf bits 44 40
      s.updQtz c.val fun q => ({ q with tl := wrapTl (q.tl + d) }).next)

/-- The earliest tick at or after the cursor `tl` (in sub-ticks) that is `t` modulo 2^k (04 R126). -/
def alignTick (tl k t : Nat) : Nat :=
  let a := (tl + 31) / 32
  a + (t % 2 ^ k + 2 ^ k - a % 2 ^ k) % 2 ^ k

/-- WAITUNTIL of core `c` in partition `p` (04 R126). -/
def State.waituntil (s : State) (c p : Nat) (w : BitVec 56) : State :=
  s.legal c (onlyBits w.toNat [(55, 54), (53, 48), (39, 8)] && qf w 55 54 < 2 && qf w 53 48 ≤ 32) fun s =>
    let q := s.qtz c
    let t := qf w 39 8
    let upTo := fun (s : State) (x : Nat) => s.updQtz c fun q => ({ q with tl := max q.tl (wrapTl (32 * (x + t))) }).next
    if qf w 55 54 = 1 then
      s.updQtz c fun q => ({ q with tl := wrapTl (32 * alignTick q.tl (qf w 53 48) t) }).next
    else if q.inShot then upTo s (s.part p).attempt.s
    else
      let a := (s.part p).attempt
      if a.active ∧ a.e.isNone ∧ (s.part p).probe.isNone then s.qstall c .stallShot (qword 3 w)
      else match (s.part p).shotE with
        | some e => upTo s e
        | none => upTo s (match (s.part p).job with | some j => j.startTick | none => 0)

/-- WAITUNTIL (04 R126). -/
def execWaituntil (c : Fin 16) (bits : BitVec 56) (s : State) : Host.Outcome State Fault Refusal :=
  answer s (s.qtz1 c.val fun s p => s.waituntil c.val p bits)

/-! Control flow (04 R136-R139). -/

/-- BR (04 R136). -/
def execBr (c : Fin 16) (bits : BitVec 56) (s : State) : Host.Outcome State Fault Refusal :=
  answer s (s.qtz1 c.val fun s _ => s.legal c.val (onlyBits bits.toNat [(31, 8)]) fun s =>
    s.updQtz c.val fun q => q.branch (target q.pc (qoffset bits)))

/-- BRV (04 R136). -/
def execBrv (c : Fin 16) (bits : BitVec 56) (s : State) : Host.Outcome State Fault Refusal :=
  answer s (s.qtz1 c.val fun s _ =>
    let b := if qflag bits 0 then 0#32 else s.vr c.val (qf bits 49 44)
    match cond (qf bits 43 40) (s.vr c.val (qf bits 55 50)) b with
    | none => s.coreFault c.val fIllegal
    | some t => s.legal c.val (onlyBits bits.toNat [(55, 50), (49, 44), (43, 40), (31, 8), (0, 0)]) fun s =>
        s.updQtz c.val fun q => if t then q.branch (target q.pc (qoffset bits)) else q.next)

/-- LOOP (04 R137). DESIGN CHOICE (log 127): a count of 0 skips the body also while 8 loops are active. -/
def execLoop (c : Fin 16) (bits : BitVec 56) (s : State) : Host.Outcome State Fault Refusal :=
  answer s (s.qtz1 c.val fun s p =>
    let reg := qf bits 55 55 == 1
    let body := qf bits 54 32
    let cnt := qf bits 31 0
    s.legal c.val (!reg || cnt < 64) fun s =>
      let pc := (s.qtz c.val).pc
      let n := if reg then (s.vr c.val cnt).toNat else if cnt = 0 then 2 ^ 32 else cnt
      if s.opcodeAt p (pc + body + 1) ≠ some 0x1D then s.coreFault c.val 4
      else if n = 0 then s.updQtz c.val fun q => { q with pc := pc + body + 2 }
      else if 8 ≤ (s.qtz c.val).loops.length then s.coreFault c.val 3
      else s.updQtz c.val fun q =>
        ({ q with loops := { left := n, start := pc + 1, stop := pc + body + 1 } :: q.loops }).next)

/-- ENDL (04 R137). -/
def execEndl (c : Fin 16) (bits : BitVec 56) (s : State) : Host.Outcome State Fault Refusal :=
  answer s (s.qtz1 c.val fun s _ => s.legal c.val (bits == 0#56) fun s =>
    match (s.qtz c.val).loops with
    | f :: l =>
      if f.stop ≠ (s.qtz c.val).pc then s.coreFault c.val 4
      else if 1 < f.left then
        s.updQtz c.val fun q => { q with loops := { f with left := f.left - 1 } :: l, pc := f.start }
      else s.updQtz c.val fun q => ({ q with loops := l }).next
    | [] => s.coreFault c.val 4)

/-- CALL (04 R138). -/
def execCall (c : Fin 16) (bits : BitVec 56) (s : State) : Host.Outcome State Fault Refusal :=
  answer s (s.qtz1 c.val fun s _ => s.legal c.val (onlyBits bits.toNat [(31, 8)]) fun s =>
    if 16 ≤ (s.qtz c.val).calls.length then s.coreFault c.val 1
    else s.updQtz c.val fun q =>
      { q with calls := { ret := q.pc + 1, depth := q.loops.length } :: q.calls, pc := target q.pc (qoffset bits) })

/-- RET (04 R138). -/
def execRet (c : Fin 16) (bits : BitVec 56) (s : State) : Host.Outcome State Fault Refusal :=
  answer s (s.qtz1 c.val fun s _ => s.legal c.val (bits == 0#56) fun s =>
    match (s.qtz c.val).calls with
    | [] => s.coreFault c.val 2
    | f :: l => s.updQtz c.val fun q =>
        { q with calls := l, loops := q.loops.drop (q.loops.length - f.depth), pc := f.ret })

/-! Branching on a result (04 R150-R153). -/

/-- The binding that a BRD of core `c` on slot `i` reads (04 R150): its own latest, else the latest that a
participating core made before a barrier that both passed; a forwarded binding counts as made at the SHOT. -/
def State.brdBinding (s : State) (c p i : Nat) : Option Nat :=
  let own := (s.qtz c).made.find? (·.1 == i)
  match own with
  | some m => some m.2.1
  | none =>
    let k := (s.qtz c).passed
    let others := ((s.cast p).map fun d =>
      ((s.qtz d).made.filter fun m => m.1 == i && decide (m.2.2 < min k (s.qtz d).passed)).map (·.2.1)).flatten
    let fwd := if s.fld (DEC_SLOTCFG i) 5 4 = 1 then
        ((s.slot i).queue.filter (·.core == 255)).map (·.id) ++ ((s.slot i).hist.take 1).map (·.1) else []
    (others ++ fwd).foldl (fun m x => match m with | none => some x | some y => some (max x y)) none

/-- The state, tick of the commit and pending mark of binding `b` of slot `i`. -/
def State.bindingState (s : State) (i b : Nat) : Option (Nat × Nat) :=
  if (s.slot i).queue.any (·.id == b) then none
  else match (s.slot i).hist.find? (·.1 == b) with
    | some h => some (h.2.1, h.2.2)
    | none => some (3, 0)

/-- The core after its BRD reads state `st`, valid at tick `t` (01 R37). -/
def Core.brdDone (q : Core) (mask off : Nat) (st t : Nat) : Core :=
  let q := { q with tl := max q.tl (32 * (t + 66)), st := .running, brd := none, held := none }
  if bitOf mask st then q.branch (target q.pc (toSigned 24 off)) else q.next

/-- The waveform objects that instruction word `n` of core `c` plays (04 R153, 05 R171). -/
def State.objsAt (s : State) (c p n : Nat) : List Nat :=
  if bits n 63 56 = 8 ∨ (bits n 63 56 = 9 ∧ !bitOf n 3) then
    [if bitOf n 1 then (s.vr c (bits n 29 24)).toNat % 65536 else bits n 39 24]
  else if bits n 63 56 = 0x10 then
    let d := if bitOf n 1 then (s.vr c (bits n 53 48)).toNat % 256 else bits n 55 48
    match ((s.part p).job.map (·.descs)).bind (·[d]?) with
    | some x => if x.poch = 255 then [] else [x.pwave]
    | none => []
  else []

/-- Instructions that a hint scan follows from index `i`, at most `fuel` along one path
(04 R153): plays as waveform objects. `calls` are return indices met on the path, `active` those of the core. -/
def State.scanPath (s : State) (c p : Nat) (code : List (BitVec 64)) : Nat → Nat → List Nat → List Nat
  | 0, _, _ => []
  | k + 1, i, calls =>
    match code[i]? with
    | none => []
    | some w =>
      let n := w.toNat
      let off := target i (toSigned 24 (bits n 31 8))
      match bits n 63 56 with
      | 0x08 | 0x09 | 0x10 => s.objsAt c p n ++ s.scanPath c p code k (i + 1) calls
      | 0x18 => s.scanPath c p code k off calls
      | 0x1E => s.scanPath c p code k off ((i + 1) :: calls)
      | 0x1F => match calls with
        | r :: l => s.scanPath c p code k r l
        | [] => []
      | 0x1A | 0x21 | 0x01 => []
      | _ => s.scanPath c p code k (i + 1) calls

/-- The hints of a stalled BRD: the head set of every object along each path (04 R153, 05 R169). -/
def State.brdHint (s : State) (c p i j : Nat) : State :=
  match (s.part p).job with
  | none => s
  | some jb =>
    let act := (s.qtz c).calls.map (·.ret)
    let objs := (s.scanPath c p jb.code 64 i act ++ s.scanPath c p jb.code 64 j act).eraseDups
    s.forEach objs fun s n =>
      match s.obj n with
      | some o => s.requestPages p n (o.headSet 2048) (hintUser c) pinOpen s.now
      | none => s

/-- BRD (04 R150, R151). -/
def execBrd (c : Fin 16) (bits : BitVec 56) (s : State) : Host.Outcome State Fault Refusal :=
  answer s (s.qtz1 c.val fun s p =>
    match s.qsrc c.val (qflag bits 0) (qf bits 55 47) 9 with
    | none => s.coreFault c.val fIllegal
    | some i => s.legal c.val (onlyBits bits.toNat [(55, 47), (46, 43), (31, 8), (0, 0)]) fun s =>
      let mask := qf bits 46 43
      let off := qf bits 31 8
      if s.slotOwner i ≠ some p then s.resourceError c.val p (resource 0x0B i) fun s => s.qnext c.val
      else match s.brdBinding c.val p i with
      | none =>
        let v := if (s.qtz c.val).inShot then (look (fun _ => {}) (s.part p).ckpt.slots i).value else (s.slot i).value
        s.updQtz c.val fun q => if bitOf mask v.state.toNat then q.branch (target q.pc (toSigned 24 off)) else q.next
      | some b =>
        match s.bindingState i b with
        | some (st, t) => s.updQtz c.val fun q => q.brdDone mask off st t
        | none =>
          let pc := (s.qtz c.val).pc
          let w : BrdWait := { slot := i, binding := b, mask := BitVec.ofNat 4 mask, offset := off }
          let t := s.now
          let s := s.updQtz c.val fun q => { q with st := .stallBrd, stallFrom := t, brd := some w }
          s.brdHint c.val p (pc + 1) (target pc (toSigned 24 off)))

/-- BRD_RESUME: six ticks after the binding became valid (04 R151). -/
def execBrdResume (c : Fin 16) (s : State) : Host.Outcome State Fault Refusal :=
  answer s (match (s.qtz c.val).brd with
    | none => s
    | some b =>
      match s.bindingState b.slot b.binding with
      | none => s
      | some (st, t) =>
        if (s.qtz c.val).st = .stallBrd ∧ t + 6 ≤ s.now then
          let s := s.inc (QTZ_STALL_BRD c.val) (s.now - (s.qtz c.val).stallFrom)
          let s := s.updQtz c.val fun q => q.brdDone b.mask.toNat b.offset.toNat st t
          s.expirePins (hintUser c.val) (s.now + 2048) fun _ => false
        else s)

end Sys2Proof.Machine
end

