-- ==== Sys2Proof/Machine/QuartzTimed.lean ====
section
/-!
DEFINITION. Quartz instructions that issue events, and the ends of the stalls they meet (04 R114-R118, R127-R130,
R134, R135; 05 R178-R181; 06 R194-R197).
-/
namespace Sys2Proof.Machine

/-- An instruction word from its opcode and 56 low bits. -/
def qw (op n : Nat) : BitVec 64 := BitVec.ofNat 64 (op * 2 ^ 56 + n)

/-! Pulses. -/

/-- What a PLAY or PLAYCW does once its operands are known: stalls, resource errors, then the pulse-start event. -/
def State.issuePulse (s : State) (c p : Nat) (w : BitVec 64) (op f ch obj g : Nat) (cw : Bool) : State :=
  s.timed c p w fun s => s.refStall c p w fun s =>
    if s.frameOwn f ≠ some p then s.resourceError c p (resource 0x0D f) fun s => s.qnext c
    else if !s.ochUsable p ch then s.resourceError c p (resource 1 ch) fun s => s.qnext c
    else if !s.objUsable p obj then s.resourceError c p (resource 0x0C obj) fun s => s.qnext c
    else s.entries c p 1 w fun s =>
      let s := s.slackNote c
      let j := qw op (f <<< 46 ||| ch <<< 40 ||| obj <<< 24 ||| g <<< 8)
      (s.startPulse c p f obj ch (BitVec.ofNat 16 g) cw j).qnext c

/-- PLAY (04 R127). -/
def State.doPlay (s : State) (c p : Nat) (b : BitVec 56) : State :=
  match s.qsrc c (qflag b 2) (qf b 55 46) 10, s.qsrc c (qflag b 1) (qf b 39 24) 16, s.qsrc c (qflag b 0) (qf b 23 8) 16 with
  | some f, some obj, some g =>
    s.legal c (onlyBits b.toNat [(55, 46), (45, 40), (39, 24), (23, 8), (2, 0)]) fun s => s.inShotOnly c p fun s =>
      s.issuePulse c p (qword 8 b) 8 f (qf b 45 40) obj g false
  | _, _, _ => s.coreFault c fIllegal

/-- Last tick of the reservation of tone `u` stopped at sub-tick `inst`: its longest pass ends (05 R177). -/
def State.toneEnd (s : State) (inst : Nat) (u : Pulse) : Nat :=
  let e := match s.obj u.obj with
    | some o => (inst + (o.segs.map fun g => g.len).foldl max 0 * 16 * o.ratio - 1) / 32 + 2
    | none => inst / 32
  match u.rsvTo with
  | some r => min r e
  | none => e

/-- The tones that a stop of frame `f` on channel `ch` at `inst` acts on (03 R86). -/
def stopHits (p f ch inst : Nat) (u : Pulse) : Bool :=
  u.part == p && u.frame == f && u.ch == ch && u.isOpen && decide (u.start < inst)

/-- A stop at `inst` ends the reservations of partition `p`'s tones of frame `f` on channel `ch` that began before it
(03 R86). -/
def State.cutTones (s : State) (p f ch inst : Nat) : State :=
  s.updFab fun x => { x with
    pulses := x.pulses.map fun u => if stopHits p f ch inst u then { u with rsvTo := some (s.toneEnd inst u) } else u }

/-- The stop form of PLAYCW for frame `f` on channel `ch` (03 R86). -/
def State.issueStop (s : State) (c p : Nat) (w : BitVec 64) (f ch : Nat) : State :=
  s.timed c p w fun s => s.refStall c p w fun s =>
    if s.frameOwn f ≠ some p then s.resourceError c p (resource 0x0D f) fun s => s.qnext c
    else if !s.ochUsable p ch then s.resourceError c p (resource 1 ch) fun s => s.qnext c
    else if (s.part p).mode = .shot then (s.cause p 9 c (resource 1 ch) 0 (s.cursorTag c p f 1)).qnext c
    else s.entries c p 1 w fun s =>
      let inst := (s.qtz c).tl
      let s := (s.slackNote c).acceptEvent c p (.stop f ch) (qw 9 (f <<< 46 ||| ch <<< 40 ||| 8)) 0#48
      (s.cutTones p f ch inst).qnext c

/-- PLAYCW, with or without STOP (04 R127). -/
def State.doPlaycw (s : State) (c p : Nat) (b : BitVec 56) : State :=
  match s.qsrc c (qflag b 2) (qf b 55 46) 10, s.qsrc c (qflag b 1) (qf b 39 24) 16, s.qsrc c (qflag b 0) (qf b 23 8) 16 with
  | some f, some obj, some g =>
    let stop := qflag b 3
    let ok := onlyBits b.toNat [(55, 46), (45, 40), (39, 24), (23, 8), (3, 0)] &&
      !(stop && (qf b 39 8 != 0 || qf b 1 0 != 0))
    s.legal c ok fun s => s.inShotOnly c p fun s =>
      if stop then s.issueStop c p (qword 9 b) f (qf b 45 40)
      else s.issuePulse c p (qword 9 b) 9 f (qf b 45 40) obj g true
  | _, _, _ => s.coreFault c fIllegal

/-! Frame writes. -/

/-- The event of SETF, SETPH or SHIFTPH (opcodes 0x0C to 0x0E). -/
def setKind (op f : Nat) (v : BitVec 48) : EvKind :=
  if op = 0x0C then .setf f v else if op = 0x0D then .setph f v else .shiftph f v

/-- The frame as issued after such a write (02 R66, R67). -/
def Frame.set (x : Frame) (op : Nat) (v : BitVec 48) : Frame :=
  if op = 0x0C then { x with fw := v } else if op = 0x0D then { x with ph := v } else { x with ph := x.ph + v }

/-- Whether an enabled FREQ loop targets frame `f` (08 R266). -/
def State.freqTarget (s : State) (f : Nat) : Bool :=
  (List.range 64).any fun l =>
    s.bit (DEC_TRKCFG l) 2 && s.fld (DEC_TRKCFG l) 1 0 == 2 && s.fld (DEC_TRKCFG l) 17 8 == f

/-- SETF, SETPH and SHIFTPH (04 R128). -/
def State.doSet (s : State) (c p op : Nat) (b : BitVec 56) : State :=
  let imm := qflag b 0
  let a := qf b 45 40
  match s.qsrc c (qflag b 2) (qf b 55 46) 10 with
  | none => s.coreFault c fIllegal
  | some f =>
    s.legal c (onlyBits b.toNat [(55, 46), (45, 40), (39, 8), (2, 2), (0, 0)] && (imm || a % 2 == 0)) fun s =>
    s.inShotOnly c p fun s => s.timed c p (qword op b) fun s => s.refStall c p (qword op b) fun s =>
      if s.frameOwn f ≠ some p || (op == 0x0C && s.freqTarget f) then
        s.resourceError c p (resource 0x0D f) fun s => s.qnext c
      else s.entries c p 1 (qword op b) fun s =>
        let v := if imm then BitVec.ofNat 48 (qf b 39 8 * 65536) else s.vpair c a
        let j := qw op (f <<< 46 ||| setBits (setBits b.toNat 55 46 0) 2 2 0)
        let s := (s.slackNote c).acceptEvent c p (setKind op f v) j v
        (s.setIssued f ((s.frameIssued f).set op v)).qnext c

/-! Measurements. -/

/-- Resolves the newest binding `id` of slot `i` as indeterminate. -/
def indeterminate (tag : BitVec 64) : Result := { state := 3#2, i := 0#32, q := 0#32, tag := tag }

/-- The tag of window `w`'s result unit (07 R236). -/
def State.winTag (s : State) (w : Window) (late : Bool) : BitVec 64 :=
  mkTag w.we 0 w.part w.shot w.dframe 2 (s.tainted w.part) false false late w.attempt

/-- A binding appended to slot `i`'s queue by core `c` (04 R129). -/
def State.bind (s : State) (c i id : Nat) (r : Option Result) : State :=
  let s := s.updSlot i fun x => { x with queue := x.queue ++ [{ id := id, core := c, result := r }] }
  s.updQtz c fun q => { q with made := (i, id, q.passed) :: q.made }

/-- Whether slot `i` is a final source of the graph. -/
def Graph.isFinal (g : Graph) (i : Nat) : Bool := g.valid && g.final.any (·.src.contains i)

/-- Whether a MEAS into slot `i` is the first of a final round: the round that it belongs to is not yet bound (08 R251,
R274). -/
def Graph.firstMeas (g : Graph) (i : Nat) : Bool := g.isFinal i && decide (g.run.bound ≤ g.run.fmeas.count i)

/-- Whether the GARNET slots have to be bound at a MEAS into slot `i` and one of them has no room (04 R130, 08 R251). -/
def State.garnetFull (s : State) (p i : Nat) : Bool :=
  let g := s.graph p
  g.firstMeas i && g.obs.any fun o => decide (4 ≤ (s.slot o.1).queue.length)

/-- A MEAS into slot `i` is issued: the first of a final round binds the GARNET slots (08 R251, R274). -/
def State.bindGarnet (s : State) (c p i : Nat) : State :=
  let g := s.graph p
  let s := if g.firstMeas i then
      let s := s.forEach g.obs fun s o =>
        let id := s.fab.nextId
        (s.updFab fun b => { b with nextId := b.nextId + 1 }).bind c o.1 id none
      s.updGraph p fun g => { g with run := { g.run with bound := g.run.bound + 1 } }
    else s
  if g.isFinal i then s.updGraph p fun g => { g with run := { g.run with fmeas := i :: g.run.fmeas } } else s

/-- The window that a MEAS of core `c` on descriptor `d` makes at instant `tl` (06 R193, R194, R197). -/
def State.mkWindow (s : State) (c p slot : Nat) (d : Desc) : Window :=
  let q := s.qtz c
  let tl := q.tl / 32
  let ws := tl + d.wofs
  let prev := s.fab.wins.find? fun w =>
    w.core == c && w.part == p && w.ich == d.ich && w.dframe == d.dframe && w.dec == d.dec && w.mica == d.mica && w.we == ws
      && w.shot == (if q.inShot then q.shotNo else 0) && w.attempt == (if q.inShot then q.attempt else 0)
      && !(w.served && !w.opened)
  let carry := match prev with
    | some w => (w.carry + (w.we - w.ws)) % decP d.dec
    | none => 0
  { id := s.fab.nextId, part := p, core := c, ich := d.ich, mica := d.mica, dframe := d.dframe, dec := d.dec, tl := tl
    ws := ws, we := ws + d.wlen, ls := if prev.isSome then ws else max (ws - decQ d.dec) tl, carry := carry
    mentry := d.mentry, slot := slot, chained := prev.map (·.id), shot := if q.inShot then q.shotNo else 0
    attempt := if q.inShot then q.attempt else 0 }

/-- The window event of a MEAS: refused for a retired channel or core or for lanes, else accepted with its binding
(06 R195, R209; 09 R302). -/
def State.openWindow (s : State) (c p slot : Nat) (d : Desc) (j : BitVec 64) : State :=
  let w := s.mkWindow c p slot d
  let tag := s.cursorTag c p d.dframe 1
  let refuse := fun (s : State) (cause res : Nat) =>
    let s := s.updFab fun b => { b with nextId := b.nextId + 1 }
    let s := s.cause p cause 0xF0 res 0 tag
    s.bind c slot w.id (some (indeterminate (s.winTag w false)))
  let s := if s.bit (ICH_STAT d.ich) 3 then refuse s 10 (resource 3 d.ich)
    else if (s.err (resource 5 d.mica)).retired then refuse s 10 (resource 5 d.mica)
    else if !s.demodFits w then refuse (s.incFld (ICH_REFUSE d.ich) 15 0) 8 (resource 4 d.mica)
    else
      let s := s.updFab fun b => { b with wins := b.wins ++ [w] }
      let s := s.acceptEvent c p (.window w.id) j 0#48
      s.bind c slot w.id none
  s.bindGarnet c p slot

/-- MEAS (04 R129, R130). -/
def State.doMeas (s : State) (c p : Nat) (b : BitVec 56) : State :=
  match s.qsrc c (qflag b 1) (qf b 55 48) 8, s.qsrc c (qflag b 0) (qf b 47 39) 9 with
  | some n, some i =>
    s.legal c (onlyBits b.toNat [(55, 39), (1, 0)]) fun s => s.inShotOnly c p fun s =>
    s.timed c p (qword 0x10 b) fun s => s.refStall c p (qword 0x10 b) fun s =>
      match ((s.part p).job.map (·.descs)).bind (·[n]?) with
      | none => s.resourceError c p (resource 0 n) fun s => s.qnext c
      | some d =>
        let probe := d.poch != 255
        if s.slotOwner i ≠ some p ∨ s.fld (DEC_SLOTCFG i) 5 4 ≠ 0 then
          s.resourceError c p (resource 0x0B i) fun s => s.qnext c
        else if probe && !s.ochUsable p d.poch then s.resourceError c p (resource 1 d.poch) fun s => s.qnext c
        else if probe && !s.objUsable p d.pwave then s.resourceError c p (resource 0x0C d.pwave) fun s => s.qnext c
        else if 4 ≤ (s.slot i).queue.length || s.garnetFull p i then s.qstall c .stallMeas (qword 0x10 b)
        else s.entries c p (1 + bn probe) (qword 0x10 b) fun s =>
          let j := qw 0x10 (n <<< 48 ||| i <<< 39)
          let s := if probe then (s.slackNote c).startPulse c p d.pframe d.pwave d.poch d.pgain false j else s
          let s := s.slackNote c
          (s.openWindow c p i d j).qnext c
  | _, _ => s.coreFault c fIllegal

/-! Bias writes and user records. -/

/-- SETBIAS (04 R135). -/
def State.doSetbias (s : State) (c p : Nat) (b : BitVec 56) : State :=
  match s.qsrc c (qflag b 1) (qf b 55 49) 7, s.qsrc c (qflag b 0) (qf b 27 8) 20 with
  | some n, some v =>
    s.legal c (onlyBits b.toNat [(55, 49), (27, 8), (1, 0)]) fun s =>
      if (s.part p).mode = .shot ∧ (s.qtz c).inShot then s.coreFault c fMode
      else s.timed c p (qword 0x28 b) fun s => s.refStall c p (qword 0x28 b) fun s =>
        if s.biasOwner n ≠ some p then s.resourceError c p (resource 0 n) fun s => s.qnext c
        else s.entries c p 1 (qword 0x28 b) fun s =>
          let j := qw 0x28 (n <<< 49 ||| v <<< 8)
          ((s.slackNote c).acceptEvent c p (.setbias n (BitVec.ofNat 20 v)) j (BitVec.ofNat 48 v)).qnext c
  | _, _ => s.coreFault c fIllegal

/-- The words V[a] to V[a + n], then zeros, as four words. -/
def State.emitWords (s : State) (c a n : Nat) : Nat × Nat × Nat × Nat :=
  let x := fun i => if i ≤ n then (s.vr c (a + i)).toNat else 0
  (x 0, x 1, x 2, x 3)

/-- EMITV (04 R134): into the journal in SHOT mode, to the result ring at its TIME in STREAM mode. -/
def State.doEmitv (s : State) (c p : Nat) (b : BitVec 56) : State :=
  let a := qf b 55 50
  let n := qf b 49 48
  let code := qf b 31 16
  s.legal c (onlyBits b.toNat [(55, 48), (31, 16)] && decide (a + n ≤ 63)) fun s => s.inShotOnly c p fun s =>
    let x := s.emitWords c a n
    let tag := s.cursorTag c p 0 1
    let shot := if (s.qtz c).inShot then (s.qtz c).shotNo else 0
    let r := mkRec (b4 2 n code (code / 256)) shot tag x.1 x.2.1 x.2.2.1 x.2.2.2
    let s := if (s.part p).mode = .shot then
        (s.journal p (jentry 6 c code shot tag x.1 x.2.1 x.2.2.1 x.2.2.2)).updAtt p fun t => { t with recs := t.recs ++ [r] }
      else if (s.qtz c).tl / 32 ≤ s.now then s.queueRec p r
      else s.updFab fun f => { f with users := f.users ++ [(p, (s.qtz c).tl / 32, r)] }
    s.qnext c

/-! Stalls that end by issuing the instruction again. -/

/-- The stalled instruction of core `c` runs again. -/
def State.reissue (s : State) (c : Nat) (w : BitVec 64) : State :=
  s.qtz1 c fun s p =>
    let b := BitVec.ofNat 56 w.toNat
    match bits w.toNat 63 56 with
    | 0x03 => s.waituntil c p b
    | 0x08 => s.doPlay c p b
    | 0x09 => s.doPlaycw c p b
    | 0x0C => s.doSet c p 0x0C b
    | 0x0D => s.doSet c p 0x0D b
    | 0x0E => s.doSet c p 0x0E b
    | 0x10 => s.doMeas c p b
    | 0x28 => s.doSetbias c p b
    | _ => s

/-- Cores of partition `p` that wait for room in a slot's binding queue try again (04 R130). -/
def State.measResume (s : State) (p : Nat) : State :=
  s.forEach (s.cast p) fun s c =>
    match (s.qtz c).st, (s.qtz c).held with
    | .stallMeas, some w => (s.unstall c none).reissue c w
    | _, _ => s

/-! Commands. -/

/-- PLAY (04 R127). -/
def execPlay (c : Fin 16) (bits : BitVec 56) (s : State) : Host.Outcome State Fault Refusal :=
  answer s (s.qtz1 c.val fun s p => s.doPlay c.val p bits)

/-- PLAYCW (04 R127). -/
def execPlaycw (c : Fin 16) (bits : BitVec 56) (s : State) : Host.Outcome State Fault Refusal :=
  answer s (s.qtz1 c.val fun s p => s.doPlaycw c.val p bits)

/-- PLAYCW_STOP (03 R86): the words of PLAYCW with STOP set. -/
def execPlaycwStop (c : Fin 16) (bits : BitVec 56) (s : State) : Host.Outcome State Fault Refusal :=
  answer s (s.qtz1 c.val fun s p => s.doPlaycw c.val p bits)

/-- SETF (04 R128). -/
def execSetf (c : Fin 16) (bits : BitVec 56) (s : State) : Host.Outcome State Fault Refusal :=
  answer s (s.qtz1 c.val fun s p => s.doSet c.val p 0x0C bits)

/-- SETPH (04 R128). -/
def execSetph (c : Fin 16) (bits : BitVec 56) (s : State) : Host.Outcome State Fault Refusal :=
  answer s (s.qtz1 c.val fun s p => s.doSet c.val p 0x0D bits)

/-- SHIFTPH (04 R128). -/
def execShiftph (c : Fin 16) (bits : BitVec 56) (s : State) : Host.Outcome State Fault Refusal :=
  answer s (s.qtz1 c.val fun s p => s.doSet c.val p 0x0E bits)

/-- MEAS (04 R129). -/
def execMeas (c : Fin 16) (bits : BitVec 56) (s : State) : Host.Outcome State Fault Refusal :=
  answer s (s.qtz1 c.val fun s p => s.doMeas c.val p bits)

/-- SETBIAS (04 R135). -/
def execSetbias (c : Fin 16) (bits : BitVec 56) (s : State) : Host.Outcome State Fault Refusal :=
  answer s (s.qtz1 c.val fun s p => s.doSetbias c.val p bits)

/-- EMITV (04 R134). -/
def execEmitv (c : Fin 16) (bits : BitVec 56) (s : State) : Host.Outcome State Fault Refusal :=
  answer s (s.qtz1 c.val fun s p => s.doEmitv c.val p bits)

/-- LOOKAHEAD_STALL_END (04 R117): the event's TIME lies within the look-ahead limit again, and REF_LOST does not hold
a STREAM core. -/
def execLookaheadStallEnd (c : Fin 16) (s : State) : Host.Outcome State Fault Refusal :=
  answer s (match s.qtzOwner c.val, (s.qtz c.val).st, (s.qtz c.val).held with
    | some p, .stallLa, some w =>
      if (s.qtz c.val).tl / 32 ≤ s.now + s.fld (TIME_LOOKAHEAD p) 19 0 ∧
          !(s.time.lost && (s.part p).mode == .stream) then
        (s.unstall c.val (some (QTZ_STALL_LA c.val))).reissue c.val w
      else s
    | _, _, _ => s)

/-- SCHED_STALL_END (05 R181): an entry has been freed, or the event's slack has fallen below 58. -/
def execSchedStallEnd (c : Fin 16) (s : State) : Host.Outcome State Fault Refusal :=
  answer s (match s.qtzOwner c.val, (s.qtz c.val).st, (s.qtz c.val).held with
    | some p, .stallSched, some w =>
      let s1 := s.unstall c.val none
      if (s.qtz c.val).tl / 32 < s.now + 58 then
        let s1 := s1.updQtz c.val fun q => { q with asked := none }
        (s1.cause p (if (s.part p).mode = .shot then 11 else 1) c.val (resource 6 c.val) 0
          (s.cursorTag c.val p 0 1)).qnext c.val
      else s1.reissue c.val w
    | _, _, _ => s)

/-- An uncorrectable error on an instruction fetch of core `c` (04 R118). -/
def State.fetchError (s : State) (c p : Nat) : State :=
  if (s.qtz c).inShot then s.cause p 4 c (resource 6 c) 0 (s.cursorTag c p 0 3) else s.coreFault c 7

/-- ICACHE_MISS_FILL (04 R118): the line that core `c` waits for has come, or else the load of its first 256 KiB is done
(log 131). -/
def execIcacheMissFill (c : Fin 16) (good : Bool) (s : State) : Host.Outcome State Fault Refusal :=
  answer s (match s.qtzOwner c.val with
    | none => s
    | some p =>
      let done := fun (s : State) => if good then s else s.fetchError c.val p
      if (s.qtz c.val).st = .stallFetch then
        done ((s.unstall c.val none).updQtz c.val fun q => q.keepLines [q.pc / 16])
      else if (s.qtz c.val).loading then done (s.updQtz c.val fun q => { q with loading := false })
      else s)

/-- Counters of core `c` (04 R158). -/
def State.qtzCounters (s : State) (c : Nat) : State :=
  (s.clearCounts [QTZ_LATECNT c, QTZ_ICMISS c, QTZ_STALL_LA c, QTZ_STALL_BRD c,
      QTZ_STALL_SYNC c]).setN (QTZ_SLACKMIN c) 0x7FFFFF

/-- Core `c` at a reset that covers it (04 R158). -/
def State.qtzClear (s : State) (c : Nat) : State :=
  (((s.updQtz c fun _ => {}).qtzCounters c).setN (QTZ_FAULT c) 0).setBit (QTZ_STAT c) 14 false

/-- QTZ_CORE_RESET (04 R158). DESIGN CHOICE (log 129): of a core that runs it leaves STATE FAULTED and CODE 0x0E, the fault
that the reset is. -/
def State.qtzCoreReset (s : State) (c : Fin 16) : State :=
  if s.nQtz ≤ c.val then s
    else
      let run : Bool := match s.qtzOwner c.val with | some p => (s.part p).mode != .hold | none => false
      if run then
        let t := s.coreFault c.val 0x0E
        ((t.qtzClear c.val).setN (QTZ_FAULT c.val) 0x0E).updQtz c.val fun q => { q with st := .faulted }
      else s.qtzClear c.val

/-- The command of that write. -/
def execQtzCoreReset (c : Fin 16) (s : State) : Host.Outcome State Fault Refusal :=
  answer s (s.pf0 (s.qtzCoreReset c))

/-- QTZ_CNTCLR (04 R158). -/
def State.qtzCntclr (s : State) (c : Fin 16) : State :=
  if s.nQtz ≤ c.val then s else s.qtzCounters c.val

/-- The command of that write. -/
def execQtzCntclr (c : Fin 16) (s : State) : Host.Outcome State Fault Refusal :=
  answer s (s.pf0 (s.qtzCntclr c))

end Sys2Proof.Machine
end

