-- ==== Sys2Proof/Machine/QuartzShot.lean ====
section
/-!
DEFINITION. Shots, barriers and the end of a job: HALT, SHOT, ENDSHOT, SYNC and what completes them (01 R29-R33, R529;
04 R139, R141-R149, R154-R156; 05 R171; 13 R398, R407; 09 R290, R299).
-/
namespace Sys2Proof.Machine

/-! Faults of several cores at once (04 R143, R154, R157). -/

/-- Core fault `code` on every core of the list. -/
def State.coreFaults (s : State) (p : Nat) (l : List Nat) (code : Nat) : State :=
  let recs := l.map fun c =>
    errorRec 3 code 1 (s.jobNum p) (s.cursorTag c p 0 3) s.now (resource 6 c) (s.qtz c).pc
  let s := s.forEach l fun s c => (s.setN (QTZ_FAULT c) code).setN (QTZ_FAULTPC c) (s.qtz c).pc
  (s.enterHold p .coreFault recs).forEach l fun s c => s.updQtz c fun q => { q with st := .faulted }

/-- Participating cores that wait at a SYNC or a SHOT. -/
def State.waiters (s : State) (p : Nat) : List Nat :=
  (s.cast p).filter fun c => (s.qtz c).atShot || (s.qtz c).syncId.isSome

/-- Whether a participating core has halted. -/
def State.anyHalted (s : State) (p : Nat) : Bool := (s.cast p).any fun c => (s.qtz c).st == .halted

/-! The end of a job (01 R29, R529; 03 R107). -/

/-- The job of partition `p` has ended: a hold request takes effect, an empty ring leads to HOLD at instant `t`, and
else the mode stays. -/
def State.jobOver (s : State) (p t : Nat) : State :=
  let q := s.part p
  if q.mode = .hold then s
  else match q.holdReq with
    | some c => s.holdBoundary p t (some c)
    | none => if q.posted = q.taken then s.holdBoundary p t none else s

/-- JOB_END (04 R139): every participating core has halted and the last shot has been judged; in STREAM mode every
event of the job has been applied (01 R29). The mutes' instant is E of the last shot, or J (03 R107). -/
def execJobEnd (p : Fin 8) (s : State) : Host.Outcome State Fault Refusal :=
  answer s (
    let p := p.val
    match (s.part p).job with
    | none => s
    | some j =>
      let done := (s.cast p).all fun c => (s.qtz c).st == .halted
      let left := s.fab.events.any fun e => e.part == p && !e.device
      if j.type ≠ .program || !done || (s.part p).mode == .hold || (s.part p).attempt.active
          || (s.part p).probe.isSome || (s.loopsOf p).any (fun l => (s.loop l).due) then s
      else if (s.part p).mode = .stream && (left || s.fab.users.any (·.1 == p)) then s
      else
        let halt := (s.cast p).foldl (fun m c => max m (s.qtz c).stallFrom) 0
        let t := if (s.part p).mode = .stream then max halt (j.lastEvent / 32) else (s.part p).prevE.getD s.now
        ((s.completeJob p 0 0).garnetClose p).jobOver p t)

/-- HALT (04 R139, R143, R154). -/
def execHalt (c : Fin 16) (bits : BitVec 56) (s : State) : Host.Outcome State Fault Refusal :=
  answer s (s.qtz1 c.val fun s p => s.legal c.val (bits == 0#56) fun s =>
    if (s.qtz c.val).inShot then s.coreFault c.val fShotNest
    else
      let s := s.updQtz c.val fun q => { q with st := .halted, stallFrom := s.now }
      if (s.waiters p).isEmpty then s else s.coreFaults p (s.waiters p) 0x0C)

/-! The cold-start scan (05 R171). -/

/-- Objects that core `c` plays along every path from the first entry of the work list, each instruction counted once
and at most 4,096 of them: fall-through first, then the branch. -/
def State.coldWalk (s : State) (c p : Nat) (code : List (BitVec 64)) :
    Nat → List (Nat × List Nat) → List (Nat × List Nat) → List Nat
  | 0, _, _ => []
  | _ + 1, [], _ => []
  | k + 1, (i, calls) :: work, seen =>
    if seen.contains (i, calls) then s.coldWalk c p code k work seen
    else if 4096 ≤ seen.length then []
    else match code[i]? with
      | none => s.coldWalk c p code k work seen
      | some w =>
        let n := w.toNat
        let off := target i (toSigned 24 (bits n 31 8))
        let go := fun l => s.objsAt c p n ++ s.coldWalk c p code k (l ++ work) ((i, calls) :: seen)
        match bits n 63 56 with
        | 0x18 => go [(off, calls)]
        | 0x19 | 0x1A => go [(i + 1, calls), (off, calls)]
        | 0x1E => go [(off, (i + 1) :: calls)]
        | 0x1F => match calls with
          | r :: l => go [(r, l)]
          | [] => go []
        | 0x01 => go []
        | _ => go [(i + 1, calls)]

/-- The cold-start set of partition `p`, capped (05 R171). -/
def State.coldSet (s : State) (p : Nat) : List (Nat × Nat) :=
  match (s.part p).job with
  | none => []
  | some j =>
    let objs := ((s.cast p).map fun c =>
      s.coldWalk c p j.code 16384 [((s.qtz c).pc + 1, (s.qtz c).calls.map (·.ret))] []).flatten.eraseDups
    let pages := (objs.map fun n =>
      if s.objUsable p n then
        match s.obj n with
        | some o => (o.headSet (s.fld (TIME_LOOKAHEAD p) 19 0 - 1)).map fun pg => (n, pg)
        | none => []
      else []).flatten.eraseDups
    pages.take (min 4096 (s.fld (GEODE_PINQ p) 14 0))

/-- The cold-start set of the job's first SHOT is requested. -/
def State.coldStart (s : State) (p : Nat) : State :=
  match (s.part p).job with
  | some j =>
    if j.scanned then s
    else
      let l := s.coldSet p
      let s := (s.updJob p fun j => { j with scanned := true }).updPart p fun q => { q with cold := l }
      s.forEach l fun s x => s.requestPage p x.1 x.2 (coldUser p) pinOpen s.now
  | none => s

/-! SHOT (04 R143, R155). -/

/-- The largest RESET operand among the participating cores' SHOT instructions. -/
def State.shotReset (s : State) (p : Nat) : Nat := ((s.cast p).map fun c => (s.qtz c).shotReset).foldl max 0

/-- The earliest S that partition `p` itself allows: its cores' cursors, the reset interval, and LEAD (04 R143). -/
def State.shotFloor (s : State) (p : Nat) : Nat :=
  let tls := ((s.cast p).map fun c => ((s.qtz c).tl + 31) / 32).foldl max 0
  let start := match (s.part p).job with | some j => j.startTick | none => 0
  let lead := match s.cast p with | c :: _ => s.fld (QTZ_CFG c) 31 16 | [] => 512
  max tls (max ((s.part p).prevE.getD start + s.shotReset p) (s.now + lead))

/-- Every participating core of partition `p` waits at its SHOT. -/
def State.allAtShot (s : State) (p : Nat) : Bool :=
  !(s.cast p).isEmpty && (s.cast p).all fun c => (s.qtz c).atShot

/-- The last core has arrived: a job's first SHOT starts its cold-start fills. -/
def State.shotArrive (s : State) (p : Nat) : State := if s.allAtShot p then s.coldStart p else s

/-- SHOT (04 R141-R143). -/
def execShot (c : Fin 16) (bits : BitVec 56) (s : State) : Host.Outcome State Fault Refusal :=
  answer s (s.qtz1 c.val fun s p => s.legal c.val (onlyBits bits.toNat [(55, 32)]) fun s =>
    if (s.part p).mode ≠ .shot then s.coreFault c.val fMode
    else if (s.qtz c.val).inShot then s.coreFault c.val fShotNest
    else
      let s := s.updQtz c.val fun q => { q with
        atShot := true, shotReset := qf bits 55 32, st := .stallShot, stallFrom := s.now }
      if s.anyHalted p then s.coreFaults p (s.waiters p) 0x0C else s.shotArrive p)

/-- Whether partition `p`'s next SHOT waits for capacity that it has lent (01 R43, R47): it needs more than the loan leaves
of its quota. What a shot needs is open (log 116). -/
def State.lendWait (s : State) (p : Nat) : Bool :=
  let job := s.jobNum p
  let no := (s.part p).shotNext
  (decide (0 < s.entLent p) &&
    decide (s.fld (SCHED_QUOTA p) 17 0 < s.entOwn p + s.entLent p + Config.shotEntries p job no)) ||
  (decide (0 < s.pinLent p) &&
    decide (s.fld (GEODE_PINQ p) 14 0 < s.pinUsed p - s.pinBorrowed p + s.pinLent p + Config.shotPins p job no))

/-- Whether the journal still holds records that a new attempt's entries could overwrite (09 R299). -/
def State.journalWait (s : State) (p : Nat) : Bool :=
  (s.part p).relMarks.any fun m => decide (s.jarea p < 2 * ((s.part p).jcount - m.1))

/-- Ranks of the waits that count as a THROUGHPUT yield while they hold partition `p`'s SHOT (01 R45, R46). -/
def State.shotHolds (s : State) (p : Nat) : List Nat :=
  (if (s.part p).cold.all fun x => s.resident x.1 x.2 then [] else [2]) ++
  (if s.lendWait p then [2] else []) ++ (if s.journalWait p || decide (128 < s.queued p) then [3] else [])

/-- Whether a core of partition `p` still loads its first 256 KiB (04 R118). -/
def State.codeLoads (s : State) (p : Nat) : Bool := (s.cast p).any fun c => (s.qtz c).loading

/-- The key of the TL that device `d` sends partition `p` for a SHOT, or for a SYNC of ID `id`. -/
def State.barKey (s : State) (p d : Nat) (shot : Bool) (id : Nat) : Nat :=
  d + 64 * bn shot + 128 * id + 32768 * s.barrierShot p

/-- The oldest TL that each span device sent for this barrier. -/
def State.farTls (s : State) (p : Nat) (shot : Bool) (id : Nat) : List (Option Nat) :=
  (s.spanDevs p).map fun d => ((s.part p).barrierTl.find? (·.1 == s.barKey p d shot id)).map (·.2)

/-- The first entry of each key of `ks` goes. -/
def takeKeys (l : List (Nat × Nat)) (ks : List Nat) : List (Nat × Nat) :=
  ks.foldl (fun l k => l.eraseP (·.1 == k)) l

/-- This barrier is over: its TLs go, and one that has still to come is owed (04 R156). -/
def State.takeFar (s : State) (p : Nat) (shot : Bool) (id : Nat) : State :=
  let ks := (s.devId :: s.spanDevs p).map fun d => s.barKey p d shot id
  let owed := ((s.spanDevs p).map fun d => s.barKey p d shot id).filter fun k => !(s.part p).barrierTl.any (·.1 == k)
  s.updPart p fun q => { q with barrierTl := takeKeys q.barrierTl ks, barrierOwed := q.barrierOwed ++ owed }

/-- Whether partition `p` stands at its SHOT with its previous attempt judged and no probe shot to run. -/
def State.atBarrier (s : State) (p : Nat) : Bool :=
  (s.part p).mode == .shot && (s.part p).job.isSome && s.allAtShot p && !(s.part p).attempt.active
    && (s.part p).probe.isNone && !(s.loopsOf p).any (fun l => (s.loop l).due)
    && (s.slotsOf p).all fun i => (s.slot i).queue.isEmpty

/-- A tick at which a counted wait holds partition `p`'s SHOT. -/
def State.shotWaits (s : State) (p : Nat) : State :=
  if s.atBarrier p then
    match s.shotHolds p with
    | [] => s
    | r :: l => s.addWait p 1 (l.foldl min r)
  else s

/-- Frame `f` as it will stand at tick `t`, with the device's writes to it that are deferred (02 R71, 06 R204). -/
def State.frameNext (s : State) (f t : Nat) : Frame :=
  (s.fab.deferred.filter (·.1 == f)).foldl (fun x d => x.dev d.2.2.1 d.2.1) (s.frameAt f (32 * t))

/-- The checkpoint at S, tick `t` (09 R290). -/
def State.checkpoint (s : State) (p t : Nat) : Checkpoint :=
  let own := s.framesOf p
  { frames := own.map fun f => (f, s.frameNext f t)
    owned := own
    cores := (s.cast p).map fun c => (c, s.qtz c)
    slots := (s.slotsOf p).map fun i => (i, s.slot i)
    graph := (s.graph p).run
    valid := true }

/-- The bindings of the FORWARDED slots of a spanned partition (08 R254). -/
def State.bindForwarded (s : State) (p : Nat) : State :=
  if (s.spanOf p).isNone then s
  else s.forEach ((s.slotsOf p).filter fun i => s.fld (DEC_SLOTCFG i) 5 4 == 1) fun s i =>
    s.forEach (List.range (s.fld (DEC_SLOTCFG i) 24 23 + 1)) fun s _ =>
      let id := s.fab.nextId
      let s := s.updFab fun b => { b with nextId := b.nextId + 1 }
      s.updSlot i fun x => { x with queue := x.queue ++ [{ id := id, core := 255 }] }

/-- The FW changes of tracking loops that wait for the next S, tick `t` (08 R267): frame writes of that instant. -/
def State.applyFw (s : State) (p t : Nat) : State :=
  s.forEach (s.loopsOf p) fun s l =>
    match (s.loop l).fwPend with
    | some v =>
      let f := s.fld (DEC_TRKCFG l) 17 8
      let s := (s.updLoop l fun x => { x with fwPend := none }).setIssued f ((s.frameIssued f).dev true v)
      s.addDevice { part := p, core := 255, inst := 32 * t, kind := .setf f v, stage := .tile }
    | none => s

/-- The shot of partition `p` starts at tick `t` (04 R143, R146; 09 R290, R297). -/
def State.startShot (s : State) (p t : Nat) : State :=
  let q := s.part p
  let no := if q.replay then q.attempt.shotNo else q.shotNext
  let num := if q.replay then q.attempt.num + 1 else 0
  let s := if q.replay then s.addWait p (t - q.attempt.s) 3 else s
  let s := (s.expirePins (coldUser p) (t + 2048) fun _ => false).takeFar p true 0
  let s := s.updPart p fun q => { q with
    attempt := { active := true, s := t, shotNo := no, num := num, relFrom := q.jcount + q.jbuf.length },
    replay := false, cold := []
    shotNext := if q.replay then q.shotNext else q.shotNext + 1 }
  let mask := (s.cast p).foldl (fun m c => m + 2 ^ c) 0
  let job := s.jobNum p
  let s := s.journal p (jentry 1 0xFF mask no (mkTag t 0 p no 0 3 false false false false num) (lo32 t) (hi32 t) job
    (s.fld (STRATA_CFG p) 3 0))
  let s := s.applyFw p t
  let s := s.forEach (s.slotsOf p) fun s i => s.updSlot i fun x => { x with hist := [] }
  let s := s.updPart p fun q => { q with ckpt := s.checkpoint p t }
  let s := s.bindForwarded p
  s.forEach (s.cast p) fun s c => s.updQtz c fun q => { q with
    tl := 32 * t, st := .running, atShot := false, inShot := true, pc := q.pc + 1, shotPc := q.pc + 1, endPc := none
    shotLoops := q.loops.length, shotCalls := q.calls.length, shotNo := no, attempt := num, ended := false
    passed := q.passed + 1, made := [] }

/-- A spanned partition that is ready sends its bound for S, once, and keeps it as its own (04 R155). -/
def State.offerShot (s : State) (p : Nat) : State :=
  let k := s.barKey p s.devId true 0
  if (s.spanOf p).isNone || (s.part p).barrierTl.any (·.1 == k) then s
  else
    let t := 32 * s.shotFloor p
    (s.sendBarrier p true 0 t).updPart p fun q => { q with barrierTl := q.barrierTl ++ [(k, t)], offeredAt := s.now }

/-- SHOT_START (04 R143): the stall ends, unless something still holds it. A spanned partition takes the S that its span
agrees. -/
def execShotStart (p : Fin 8) (s : State) : Host.Outcome State Fault Refusal :=
  answer s (
    let p := p.val
    if !s.atBarrier p || !(s.shotHolds p).isEmpty || s.codeLoads p || s.time.lost ||
        ((s.part p).holdReq.isSome && !(s.part p).replay) then s
    else if (s.spanOf p).isNone then s.startShot p (s.shotFloor p)
    else
      let s := s.offerShot p
      let own := ((s.part p).barrierTl.find? (·.1 == s.barKey p s.devId true 0)).map (·.2)
      let tls := own :: s.farTls p true 0
      if tls.all (·.isSome) then s.startShot p (tls.foldl (fun m x => max m ((x.getD 0 + 31) / 32)) 0) else s)

/-! ENDSHOT (04 R141, R142, R145). -/

/-- The first ENDSHOT at or after index `i` of the program. -/
def State.endshotAt (s : State) (p i : Nat) : Option Nat :=
  match (s.part p).job with
  | some j => ((j.code.drop i).findIdx? fun w => bits w.toNat 63 56 == 0x21).map (· + i)
  | none => none

/-- Cores of partition `p` that wait in WAITUNTIL for E go on (04 R126). -/
def State.endKnown (s : State) (p : Nat) : State :=
  s.forEach (s.cast p) fun s c =>
    match (s.qtz c).held with
    | some w => if (s.qtz c).st = .stallShot then (s.unstall c none).reissue c w else s
    | none => s

/-- ENDSHOT. -/
def execEndshot (c : Fin 16) (bits : BitVec 56) (s : State) : Host.Outcome State Fault Refusal :=
  answer s (s.qtz1 c.val fun s p => s.legal c.val (bits == 0#56) fun s =>
    let q := s.qtz c.val
    if (s.part p).mode ≠ .shot then s.coreFault c.val fMode
    else if !q.inShot then s.coreFault c.val fShotNest
    else if (match s.endshotAt p q.shotPc with | some i => i != q.pc | none => false)
        || q.loops.length != q.shotLoops || q.calls.length != q.shotCalls then s.coreFault c.val fShotNest
    else
      let s := s.updQtz c.val fun q =>
        { q.next with inShot := false, ended := true, endTl := q.tl, endPc := some (q.pc + 1) }
      if (s.cast p).all fun d => (s.qtz d).ended then
        let e := ((s.cast p).map fun d => ((s.qtz d).endTl + 31) / 32).foldl max 0
        ((s.updAtt p fun a => { a with e := some e }).updPart p fun q => { q with shotE := some e }).endKnown p
      else s)

/-! SYNC (04 R154-R156). A barrier is numbered by the barriers that a core has passed when it arrives. -/

/-- The ID and TL with which a core has arrived at barrier `k`, where it waits there or has left it by timeout. -/
def Core.arrived (q : Core) (k : Nat) : Option (Nat × Nat) :=
  match q.syncId with
  | some i => if q.passed = k then some (i, q.tl) else (q.left.find? (·.1 == k)).map (·.2)
  | none => (q.left.find? (·.1 == k)).map (·.2)

/-- What the participating cores of partition `p` that have arrived at barrier `k` presented. -/
def State.arrivals (s : State) (p k : Nat) : List (Nat × Nat) := (s.cast p).filterMap fun c => (s.qtz c).arrived k

/-- Whether every participating core has arrived at barrier `k`. -/
def State.allArrived (s : State) (p k : Nat) : Bool := (s.arrivals p k).length == (s.cast p).length

/-- The participating cores that wait at barrier `k`. -/
def State.waitAt (s : State) (p k : Nat) : List Nat :=
  (s.cast p).filter fun c => (s.qtz c).syncId.isSome && (s.qtz c).passed == k

/-- Whether barrier `k` spans the devices: a core that waits there set SPAN. -/
def State.spanAt (s : State) (p k : Nat) : Bool := (s.waitAt p k).any fun c => (s.qtz c).syncSpan

/-- The largest TL of those that have arrived. -/
def largestTl (l : List (Nat × Nat)) : Nat := l.foldl (fun m x => max m x.2) 0

/-- Whether a span device has presented another ID than `id` for its oldest SYNC of this shot. -/
def State.farIdDiffers (s : State) (p id : Nat) : Bool :=
  (s.spanDevs p).any fun d =>
    match (s.part p).barrierTl.find? fun x => x.1 % 128 == d && x.1 / 32768 == s.barrierShot p with
    | some x => x.1 / 128 % 256 != id
    | none => false

/-- A span device presents another ID: SYNC_ID on every participant (04 R154, R155). -/
def State.spanIdCheck (s : State) (p k id : Nat) : State :=
  if s.spanAt p k && s.allArrived p k && s.farIdDiffers p id then s.coreFaults p (s.cast p) 0x0B else s

/-- SYNC. -/
def execSync (c : Fin 16) (bits : BitVec 56) (s : State) : Host.Outcome State Fault Refusal :=
  answer s (s.qtz1 c.val fun s p => s.legal c.val (onlyBits bits.toNat [(55, 48), (47, 47)]) fun s =>
    let span := qflag bits 47
    let id := qf bits 55 48
    let k := (s.qtz c.val).passed
    if span && (s.spanOf p).isNone then s.coreFault c.val fMode
    else
      let s := s.updQtz c.val fun q => { q with
        syncId := some id, syncSpan := span, syncAt := s.now, st := .stallSync, stallFrom := s.now }
      let s := if span && s.bit TIME_STAT 4 then s.cause p 3 c.val (resource 6 c.val) 0 (s.cursorTag c.val p 0 3) else s
      if s.anyHalted p then s.coreFaults p (s.waiters p) 0x0C
      else if (s.arrivals p k).any (·.1 != id) then s.coreFaults p (s.cast p) 0x0B
      else if s.allArrived p k && s.spanAt p k then
        (s.sendBarrier p false id (largestTl (s.arrivals p k))).spanIdCheck p k id
      else s)

/-- Core `c` leaves its SYNC with cursor `t`. -/
def State.leaveSync (s : State) (c t : Nat) : State :=
  let s := s.inc (QTZ_STALL_SYNC c) (s.now - (s.qtz c).syncAt)
  s.updQtz c fun q => { q.next with tl := t, st := .running, syncId := none, passed := q.passed + 1 }

/-- Barrier `k` of partition `p`, of ID `id`, is over: no core waits at it and none has still to come. -/
def State.syncOver (s : State) (p k id : Nat) (span : Bool) : State :=
  let s := s.forEach (s.cast p) fun s c => s.updQtz c fun q => { q with left := q.left.filter (·.1 != k) }
  if span then s.takeFar p false id else s

/-- SYNC_COMPLETE: four ticks after the last participant, and with SPAN the last device, has arrived (04 R154, R155).
DESIGN CHOICE (log 128): a barrier at which any participant sets SPAN spans the devices. One at which a span device presents
another ID faults. -/
def execSyncComplete (p : Fin 8) (s : State) : Host.Outcome State Fault Refusal :=
  answer s (
    let p := p.val
    match (s.cast p).filter fun c => (s.qtz c).syncId.isSome with
    | [] => s
    | d :: l =>
      let k := l.foldl (fun m c => min m (s.qtz c).passed) (s.qtz d).passed
      let span := s.spanAt p k
      let id := ((s.arrivals p k).head?.map (·.1)).getD 0
      let far := s.farTls p false id
      if s.allArrived p k && span && s.farIdDiffers p id then s.coreFaults p (s.cast p) 0x0B
      else if !s.allArrived p k || (s.waitAt p k).any (fun c => decide (s.now < (s.qtz c).syncAt + 4))
          || (span && !far.all (·.isSome)) then s
      else
        let own := largestTl (s.arrivals p k)
        let t := if span then far.foldl (fun m x => max m (x.getD 0)) own else own
        (s.forEach (s.waitAt p k) fun s c => s.leaveSync c t).syncOver p k id span)

/-- Core `c` leaves barrier `k` by timeout: it counts as arrived for those that still wait or come (04 R156). -/
def State.leaveLate (s : State) (p c k id : Nat) : State :=
  let span := s.spanAt p k
  let far := if span then s.farTls p false id else []
  let t := far.foldl (fun m x => max m (x.getD 0)) (largestTl (s.arrivals p k))
  let here := (k, id, (s.qtz c).tl)
  let s := (s.leaveSync c t).updQtz c fun q => { q with left := here :: q.left }
  if s.allArrived p k && (s.waitAt p k).isEmpty then s.syncOver p k id span else s

/-- SYNC_TIMEOUT (04 R156): a SYNC, or the SHOT of a spanned partition, whose S the span has not agreed (R155; log 132,
133). -/
def execSyncTimeout (c : Fin 16) (s : State) : Host.Outcome State Fault Refusal :=
  answer s (match s.qtzOwner c.val with
    | none => s
    | some p =>
      let q := s.qtz c.val
      let limit := s.fld (QTZ_SYNCTMO c.val) 19 0
      match q.syncId with
      | some id =>
        if s.now < q.syncAt + limit then s
        else if q.inShot then
          (s.cause p 3 c.val (resource 6 c.val) 0 (s.cursorTag c.val p 0 3)).leaveLate p c.val q.passed id
        else s.coreFault c.val 0x0D
      | none =>
        let offered := (s.part p).barrierTl.any (·.1 == s.barKey p s.devId true 0)
        if q.atShot && offered && !(s.farTls p true 0).all (·.isSome) && decide ((s.part p).offeredAt + limit ≤ s.now) then
          s.coreFault c.val 0x0D
        else s)

end Sys2Proof.Machine
end

