-- ==== Sys2Proof/Machine/Output.lean ====
section
/-!
DEFINITION. The scheduler's dispatch, the converter tiles' output side and the tone lanes: the commands of the output
family (01 R22-R24; 02 R66, R67; 03 R79-R108; 05 R169-R182; 06 R203, R204).
-/
namespace Sys2Proof.Machine

/-! Dispatch and arrival (05 R182; 01 R22). -/

/-- TIME of an event, in ticks. -/
def Event.tick (e : Event) : Nat := e.inst / 32
/-- Whether an event is one that the device alone issues. -/
def Event.isMute (e : Event) : Bool := match e.kind with | .mute _ => true | _ => false
/-- Whether `e` is offered to its port before `x`. -/
def Event.before (e x : Event) : Bool := decide (e.inst < x.inst) || (e.inst == x.inst && decide (e.id < x.id))

/-- The event that the scheduler offers next to port `q`. -/
def State.portNext (s : State) (q : Nat) : Option Event :=
  (s.fab.events.filter fun e => e.stage == .held && s.portOf e == q).foldl
    (fun m e => match m with | none => some e | some x => if e.before x then some e else some x) none

/-- EVENT_DISPATCH (05 R182): one event per tick, none before TIME - 256; it arrives 10 ticks later. -/
def execEventDispatch (port : Fin 18) (s : State) : Host.Outcome State Fault Refusal :=
  answer s (
    match s.portNext port.val with
    | none => s
    | some e =>
      let busy := s.fab.events.any fun x => s.portOf x == port.val && x.stage == .transit (s.now + 10)
      if busy || decide (s.now + 256 < e.tick) then s
      else
        let s := s.updEvent e.id fun e => { e with stage := .transit (s.now + 10) }
        if e.tick < s.now + 58 && !e.isMute then s.inc (SCHED_DLATE e.part) else s)

/-- Resource of an event that is late. -/
def eventRes : EvKind → Nat
  | .play _ _ ch _ _ | .stop _ ch | .mute ch => resource 1 ch
  | .setf f _ | .setph f _ | .shiftph f _ => resource 0x0D f
  | .window _ | .setbias _ _ => resource 0 0

/-- What a late event leaves undone: its pulse goes, and tones that only this stop would end run on. -/
def State.lateUndo (s : State) (e : Event) : State :=
  match e.kind with
  | .play .. => s.dropPulse e.id
  | .stop f ch =>
    let others := s.fab.events.any fun x => x.id != e.id && x.part == e.part && x.kind == .stop f ch
    let open_ := fun u : Pulse =>
      if stopHits e.part f ch e.inst u && u.stopAt.isNone && !others then { u with rsvTo := none } else u
    s.updFab fun b => { b with pulses := b.pulses.map open_ }
  | _ => s

/-- EVENT_ARRIVE (01 R21, R22, R24): an event is held at its tile, or is late; `link` tells that a link replay delayed it.
Mutes are never late (03 R530). -/
def execEventArrive (id : Nat) (link : Bool) (s : State) : Host.Outcome State Fault Refusal :=
  answer s (match s.event id with
    | none => s
    | some e =>
      match e.kind, e.stage with
      | .window _, _ => s
      | .setbias _ _, _ => s
      | .mute _, .transit a =>
        if s.now < a || !s.inOrder e a then s
        else
          let b := if e.tick < s.now + 48 then s.now + 1 else e.tick
          s.updEvent id fun e => { e with stage := .tile, inst := 32 * b }
      | _, .transit a =>
        if s.now < a || !s.inOrder e a then s
        else if s.now + 48 ≤ e.tick then s.updEvent id fun e => { e with stage := .tile, link := link }
        else
          let tag := tagOr (s.tagOf e) 4 true
          ((s.cause e.part (if link then 3 else 1) 0xF4 (eventRes e.kind) 0 tag).lateUndo e).freeEvent id
      | _, _ => s)

/-- EVENT_RELEASE (01 R22): at TIME - 38 the event enters the tone-lane pipeline; a stop marks its tones. -/
def execEventRelease (id : Nat) (s : State) : Host.Outcome State Fault Refusal :=
  answer s (match s.event id with
    | none => s
    | some e =>
      if e.stage ≠ .tile || decide (s.now + 38 < e.tick) || e.isMute then s
      else
        let t := s.updEvent id fun e => { e with stage := .released }
        match e.kind with
        | .play .. => t.updPulse id fun u => { u with playing := true }
        | .stop f ch =>
          let mark := fun u : Pulse =>
            if stopHits e.part f ch e.inst u then
              { u with stopAt := some (match u.stopAt with | some i => min i e.inst | none => e.inst) }
            else u
          t.updFab fun b => { b with pulses := b.pulses.map mark }
        | .setf .. | .setph .. | .shiftph .. => t
        | _ => s)

/-! Lanes and mutes. -/

/-- Lanes of channel `ch` that pulses other than `id` hold at tick `t`. -/
def State.lanesBusy (s : State) (ch id t : Nat) : List Nat :=
  s.fab.pulses.filterMap fun u =>
    if u.ch = ch ∧ u.id ≠ id ∧ u.rsvFrom ≤ t ∧ (match u.rsvTo with | some e => decide (t ≤ e) | none => true) = true
    then u.lane else none

/-- LANE_BIND (05 R179): the lowest-numbered usable lane that is free. -/
def execLaneBind (id : Nat) (s : State) : Host.Outcome State Fault Refusal :=
  answer s (match s.pulse id with
    | none => s
    | some u =>
      if u.lane.isSome || u.done || !u.playing || decide (s.now + 2 < u.start / 32) then s
      else
        let busy := s.lanesBusy u.ch id s.now
        match (List.range (s.tones u.ch)).find? fun l => !busy.contains l && !s.toneRetired u.ch l with
        | some l => s.updPulse id fun u => { u with lane := some l }
        | none =>
          let tag := mkTag (u.start / 32) (u.start % 32) u.part u.shot u.frame 1 (s.tainted u.part) false u.ovf false u.attempt
          (s.cause u.part 10 0xF4 (resource 2 u.ch) 0 tag).endPulse id false)

/-- The pulse start that unmutes channel `n`: dispatched, after the channel's last mute, at hand by TIME - 4. -/
def State.unmuter (s : State) (n : Nat) : Option Pulse :=
  s.fab.pulses.find? fun u =>
    let after := match (s.chan n).edge with | some (b, false) => decide (b < u.start / 32) | _ => true
    let sent := u.playing || (match s.event u.id with
      | some e => e.stage != .held
      | none => false)
    u.ch == n && !u.done && after && sent && decide (u.start / 32 ≤ s.now + 4)

/-- UNMUTE (03 R106): the first pulse start after a mute unmutes its MUTED channel with B = TIME - 4; not while the
reference is lost (02 R51). -/
def execUnmute (n : Fin 64) (s : State) : Host.Outcome State Fault Refusal :=
  answer s (
    let n := n.val
    if s.ochState n ≠ 1 ∨ s.time.lost then s
    else match s.unmuter n with
      | none => s
      | some u => ((s.setFld (OCH_STAT n) 2 0 6).updChan n fun c => { c with edge := some (u.start / 32 - 4, true) }))

/-- Whether a frame write that applies up to sub-tick `inst` still waits at its tile (01 R23). -/
def State.writesWait (s : State) (inst : Nat) : Bool :=
  s.fab.events.any fun e => e.kind.frameWritten.isSome && e.atTile && decide (e.inst ≤ inst)

/-- MUTE_APPLY (03 R107): a scheduled mute applies at its boundary, after the frame writes of that instant (01 R23). -/
def execMuteApply (id : Nat) (s : State) : Host.Outcome State Fault Refusal :=
  answer s (match s.event id with
    | none => s
    | some e =>
      match e.kind with
      | .mute n =>
        if e.stage ≠ .tile || decide (s.now < e.tick) || s.writesWait e.inst then s
        else ((s.muteCh n e.tick).endTones n).freeEvent id
      | _ => s)

/-! Frame writes (02 R66; 06 R203, R204). -/

/-- A write to frame `f` at its instant: applied, or in conflict with a window (06 R203). A device-originated one, FW of
a tracking loop or PH of a Pauli correction, never conflicts (06 R204). -/
def State.writeFrame (s : State) (e : Event) (f : Nat) : State :=
  let go := fun (s : State) => (s.putFrame f e.inst ((s.frame f).apply e.kind)).freeEvent e.id
  if e.device then
    match e.kind with
    | .setf _ v => (s.devWriteAt e.part 0xF3 f true v e.inst).freeEvent e.id
    | .shiftph _ v => (s.devWriteAt e.part 0xF3 f false v e.inst).freeEvent e.id
    | _ => go s
  else match s.conflicts f e.inst with
  | [] => go s
  | l =>
    let t := s.forEach (l.map (·.ich)).eraseDups fun s m => s.incFld (ICH_REFUSE m) 31 16
    let t := t.cause e.part 9 0xF4 (resource 0x0D f) 1 (s.tagOf e)
    if s.writeHolds e f then go t else t.freeEvent e.id

/-- FRAME_WRITE_APPLY (02 R66, 06 R203): the first of the frame's writes that wait, once its tick has come (01 R23). -/
def execFrameWriteApply (id : Nat) (s : State) : Host.Outcome State Fault Refusal :=
  answer s (match s.event id with
    | none => s
    | some e =>
      if !e.atTile || decide (s.now < e.tick) then s
      else match e.kind.frameWritten with
        | some f =>
          match s.frameQueue f e.inst with
          | x :: _ => if x.id = id then s.writeFrame e f else s
          | [] => s
        | none => s)

/-- DEFERRED_FRAME_WRITE (06 R204): the frame is no longer protected, or a chained boundary has come. -/
def execDeferredFrameWrite (f : Fin 1024) (s : State) : Host.Outcome State Fault Refusal :=
  answer s (
    let due := s.fab.deferred.filter fun d => d.1 == f.val
    if due.isEmpty || !(s.conflicts f.val (32 * s.now)).isEmpty then s
    else
      let s := s.updFab fun b => { b with deferred := b.deferred.filter fun d => d.1 != f.val }
      s.forEach due fun s d => s.devApply d.2.2.2.1 d.2.2.2.2 f.val d.2.2.1 d.2.1 (32 * s.now))

/-! The tone lane (03 R81, R92-R101; 05 R169-R173). -/

/-- Output sample at which the next granule of `u` begins. -/
def Pulse.at_ (u : Pulse) (o : Obj) : Nat := u.start + u.played * 16 * o.ratio
/-- Tick at the jump port at which the next granule of `u` is due (03 R80). -/
def Pulse.due (u : Pulse) (o : Obj) : Nat := u.start / 32 - 38 + u.played * o.gp
/-- Tick at the jump port at which the pass in progress began. -/
def Pulse.passAt (u : Pulse) (o : Obj) : Nat := u.start / 32 - 38 + (u.played - u.gran) * o.gp

/-- The output of pulse `u` at output sample `t` in units of 2^-18 (03 R75, R82): its lane sees the 5 envelope samples
whose responses reach `t`. -/
def State.pulseOut (s : State) (u : Pulse) (t : Nat) : Int :=
  match s.obj u.obj with
  | none => 0
  | some o =>
    let n := 16 * u.played
    if t + 2 * o.ratio < u.start then 0
    else
      let top := min n ((t + 2 * o.ratio - u.start) / o.ratio + 1)
      let e := envelopeAt o.ratio u.start t ((u.env.drop (n - top)).take 5) top
      laneOut (s.fld (OCH_CTRL u.ch) 1 0) u.gain (s.frameAt u.frame t) t e

/-- s(T) of channel `n`: the sum over its lanes, Q6.18 (03 R81, R85). -/
def State.laneSum (s : State) (n t : Nat) : Int :=
  clamp (-8388608) 8388607 (((s.fab.pulses.filter fun u => u.ch == n && u.playing).map fun u => s.pulseOut u t).sum)

/-- The channel code of one lane sum (03 R81): GAIN, the DC trim, rounding and the clamp; and whether it saturated. -/
def ochCode (gain : Nat) (dcofs sum : Int) : Int × Bool :=
  let x := roundTie 1 ((gain : Int) * sum + dcofs * 65536) (2 ^ 20)
  let y := clamp (-8192) 8191 x
  (y, decide (x ≠ y))

/-- The code of channel `n` for output sample `t`, before the limit. -/
def State.codeAt (s : State) (n t : Nat) : Int × Bool :=
  ochCode (s.fld (OCH_GAIN n) 15 0) (toSigned 16 (s.fld (OCH_DCOFS n) 15 0)) (s.laneSum n t)

/-- The pulses of channel `n` that are playing at output sample `t` (03 R100). -/
def State.playingAt (s : State) (n t : Nat) : List Nat :=
  (s.fab.pulses.filter fun u => u.ch == n && u.playing && decide (u.start ≤ t) && match s.obj u.obj with
    | some o => decide (t < u.start + u.played * 16 * o.ratio)
    | none => false).map (·.id)

/-- What forming samples of a channel gives: the codes, latest first, how many saturated, whether one exceeded PEAK, and
the pulses that were playing at such a sample. -/
structure Formed where
  codes  : List Int := []
  sat    : Nat := 0
  beyond : Bool := false
  ovf    : List Nat := []
  deriving DecidableEq, Repr

/-- `k` output samples of channel `n` from `t` on (03 R81, R100, R101). A code beyond PEAK is clipped; with ACTION trip
neither it nor a later sample is output. -/
def State.form (s : State) (n : Nat) : Nat → Nat → Formed → Formed
  | 0, _, a => a
  | k + 1, t, a =>
    let limit := s.fld (OCH_LIMIT n) 13 0
    let c := s.codeAt n t
    let beyond := decide (limit < c.1.natAbs)
    if beyond && s.bit (OCH_LIMIT n) 16 then { a with beyond := true }
    else s.form n k (t + 1) {
      codes := clamp (-(limit : Int)) limit c.1 :: a.codes
      sat := a.sat + bn c.2, beyond := a.beyond || beyond
      ovf := if c.2 || beyond then s.playingAt n t ++ a.ovf else a.ovf }

/-- The level of code `c` at the balls of channel `n` at output sample `t`, in units of 2^-31 code: weighted by the edge in
progress, the sense swapped by INVERT, none on the terminations (03 R105, R109). -/
def State.level (s : State) (n t : Nat) (c : Int) : Option Int :=
  let sense : Int := if s.bit (OCH_CTRL n) 3 then -1 else 1
  let zero := (ochCode (s.fld (OCH_GAIN n) 15 0) (toSigned 16 (s.fld (OCH_DCOFS n) 15 0)) 0).1
  if s.ochState n = 0 then none
  else match (s.chan n).edge with
    | none => if s.ochState n = 2 then some (sense * c * 2 ^ 31) else none
    | some (b, false) =>
      if t < 32 * b then some (sense * c * 2 ^ 31)
      else if t < 32 * b + 16 then some (sense * c * edgeWeight (t - 32 * b))
      else if t < 32 * (b + 1) then some 0
      else none
    | some (b, true) =>
      if t < 32 * b then none
      else if t < 32 * (b + 1) then some (sense * zero * 2 ^ 31)
      else if t < 32 * (b + 1) + 16 then some (sense * c * (2 ^ 31 - edgeWeight (t - 32 * (b + 1))))
      else some (sense * c * 2 ^ 31)

/-- OVF in the tag copies of the pulses `l` and of their events (03 R100). -/
def State.markOvf (s : State) (l : List Nat) : State :=
  s.updFab fun b => { b with
    pulses := b.pulses.map fun u => if l.contains u.id then { u with ovf := true } else u
    events := b.events.map fun e => if l.contains e.id then { e with ovf := true } else e }

/-- The samples of channel `n` of the present tick are formed and leave the balls (03 R81, R100, R101, R105). -/
def State.formTick (s : State) (n : Nat) : State :=
  let a := max (s.chan n).evalTo (32 * s.now)
  let r := s.form n (32 * (s.now + 1) - a) a {}
  let l := r.codes.reverse
  let out := ((List.range l.length).zip l).map fun x => s.level n (a + x.1) x.2
  let s := s.updChan n fun c => { c with evalTo := a + l.length, last := r.codes.headD c.last, codes := l, balls := out }
  let s := s.maxReg (OCH_PEAK n) (l.foldl (fun m c => max m c.natAbs) 0)
  let s := if r.beyond && !s.bit (OCH_LIMIT n) 16 then s.stick (OCH_STAT n) 6 else s
  let s := if r.sat = 0 then s else (s.stick (OCH_STAT n) 5).inc (OCH_SATCNT n) r.sat
  s.markOvf r.ovf

/-- The samples of the present tick of every channel that is driven or has a pulse. -/
def State.tickOutputs (s : State) : State :=
  s.forEach ((List.range s.nOch).filter fun n => s.ochState n == 2 || s.fab.pulses.any fun u => u.ch == n && u.playing)
    State.formTick

/-- The tag of pulse `u`'s unit at output sample `inst` (00 R13). -/
def State.pulseTag (s : State) (u : Pulse) (inst kind : Nat) (late : Bool) : BitVec 64 :=
  mkTag (inst / 32) (inst % 32) u.part u.shot u.frame kind (s.tainted u.part && (s.part u.part).mode == .shot) false
    u.ovf late u.attempt

/-- A jump result unit of pulse `u` for segment `i` (03 R97): journalled, and a record when the segment reports
(13 R403). -/
def State.jumpResult (s : State) (u : Pulse) (o : Obj) (i st tgt : Nat) (late missed : Bool) : State :=
  let tag := s.pulseTag u (u.at_ o) 2 late
  let st := if missed then 3 else st
  let tgt := if missed then 255 else tgt
  let g := o.seg i
  let s := s.journal u.part (jentry 4 0xF4 u.ch u.shot tag (b4 st tgt (bn missed) 0) i 0 0)
  if g.report then
    let r := mkRec (b4 6 st u.ch tgt) u.shot tag (b4 (bn missed + 2 * bn late) i g.jslot (g.jslot / 256))
      (s.jobNum u.part) 0 0
    if (s.part u.part).mode = .shot then s.updAtt u.part fun a => { a with recs := a.recs ++ [r] }
    else s.queueRec u.part r
  else s

/-- The pulse's chain ends here (03 R96, R97): a late jump still carried is missed, and so is a request of the pass that a
stop ends. A late jump that is missed counts in both fields of OCH_JLATE (log 118). -/
def State.endChain (s : State) (u : Pulse) (o : Obj) : State :=
  let s := match u.carry with
    | some r => (s.jumpResult u o r.seg r.state r.target true true).incFld (OCH_JLATE u.ch) 31 16
    | none => s
  let s := match u.req with
    | some st =>
      let s := if u.reqLate then s.incFld (OCH_JLATE u.ch) 15 0 else s
      (s.jumpResult u o u.seg st ((o.seg u.seg).target st) u.reqLate true).incFld (OCH_JLATE u.ch) 31 16
    | none => s
  (s.endPulse u.id true).updPulse u.id fun u => { u with carry := none, req := none }

/-- The 16 envelope samples of granule `g` of segment `i`, latest first (03 R87). -/
def Obj.granule (o : Obj) (i g : Nat) : List Word :=
  let l := o.data.drop (64 * ((o.seg i).offset + g))
  ((List.range 16).map fun n => BitVec.ofNat 32 (le l (4 * n) 4)).reverse

/-- The next granule of `u` plays, as zeros on a `miss`; the pages due within 2,048 ticks are requested, and the pins on
the others end (05 R169). -/
def State.playGranule (s : State) (u : Pulse) (o : Obj) (miss : Bool) : State :=
  let v := { u with gran := u.gran + 1, played := u.played + 1 }
  let data := if miss then List.replicate 16 0#32 else o.granule u.seg u.gran
  let s := s.updPulse u.id fun u => { u with
    gran := u.gran + 1, played := u.played + 1, zeroed := miss, env := (data ++ u.env).take 512 }
  let horizon := u.due o + 2048
  let l := o.needs v (v.due o) horizon
  let s := s.expirePins u.id s.now fun x => x.obj == u.obj && l.contains x.page
  s.requestPages u.part u.obj l u.id pinOpen (u.due o)

/-- GRANULE_DUE (05 R169, R172-R174; 03 R92): the granule plays, underruns, or is cut by LIMIT. -/
def execGranuleDue (id : Nat) (s : State) : Host.Outcome State Fault Refusal :=
  answer s (match s.pulse id with
    | none => s
    | some u =>
      match s.obj u.obj with
      | none => s
      | some o =>
        if !u.playing || u.done || decide ((o.seg u.seg).len ≤ u.gran) || decide (s.now < u.due o) then s
        else
          let tag := s.pulseTag u (u.at_ o) 1 false
          if o.limit ≠ 0 ∧ o.limit ≤ u.played then
            (s.cause u.part 9 0xF4 (resource 0x0C u.obj) 0 tag).endChain u o
          else
            let pg := o.pageOf u.seg u.gran
            if s.resident u.obj pg then s.playGranule u o false
            else
              let quota := s.quotaWaits u.obj pg
              let first := !u.zeroed
              let t := if first && !quota then s.inc (GEODE_UNDERRUN u.part) else s
              let t := if first then t.cause u.part (if quota then 11 else 2) 0xF0 (resource 0x0C u.obj) pg tag else t
              if (s.part u.part).mode = .stream then
                (t.gapAll u.part 5 0xF0 1 u.frame).playGranule u o true
              else (t.endPulse id true).updPulse id fun u => { u with zeroed := true, req := none, carry := none })

/-- OUTPUT_LIMIT_TRIP (03 R101): a code beyond PEAK among the samples that leave the balls up to 8 ticks from now is
clipped, or trips. -/
def execOutputLimitTrip (n : Fin 64) (s : State) : Host.Outcome State Fault Refusal :=
  answer s (
    let n := n.val
    let a := max (s.chan n).evalTo (32 * s.now)
    let r := s.form n (32 * (s.now + 9) - a) a {}
    if !r.beyond then s
    else
      let s := s.stick (OCH_STAT n) 6
      if !s.bit (OCH_LIMIT n) 16 then s.markOvf r.ovf
      else
        let s := (s.asyncMute n).irqEvent 8 3
        match s.ochOwner n with
        | none => s
        | some p =>
          let a := (s.part p).attempt
          let tag := mkTag s.now 0 p a.shotNo 0 3 a.active false false false a.num
          let r := errorRec 7 7 1 (s.jobNum p) tag s.now (resource 1 n) 2
          let s := if a.active || (s.part p).mode == .stream then s.yields p 1 2 1 tag (s.lostEvents p) 255 else s
          s.enterHold p .trip [r])

/-! Jumps (03 R93-R97). -/

/-- JUMP_REGISTER (03 R93): the jump slot holds a fresh result during a pass of the jump segment. -/
def execJumpRegister (id : Nat) (s : State) : Host.Outcome State Fault Refusal :=
  answer s (match s.pulse id with
    | none => s
    | some u =>
      match s.obj u.obj with
      | none => s
      | some o =>
        let g := o.seg u.seg
        let b := s.slot g.jslot
        let key := (g.jslot, b.commits)
        if !u.playing || u.done || !g.jen || u.req.isSome || u.carry.isSome || !b.queue.isEmpty || u.used.contains key
          || decide (s.now < u.passAt o) || decide (u.passAt o + g.len * o.gp ≤ s.now) then s
        else
          let late := decide (u.passAt o + (g.len - 1) * o.gp < s.now)
          s.updPulse id fun u => { u with req := some b.value.state.toNat, reqLate := late, used := key :: u.used })

/-- The pulse goes on to its next pass or segment, or ends. -/
def State.nextPass (s : State) (u : Pulse) (o : Obj) : State :=
  let g := o.seg u.seg
  if g.forever || decide (u.pass < g.reps) then
    s.updPulse u.id fun u => { u with pass := u.pass + 1, gran := 0, req := none, reqLate := false }
  else if u.seg + 1 < o.segs.length then
    s.updPulse u.id fun u => { u with seg := u.seg + 1, pass := 0, gran := 0, req := none, reqLate := false }
  else
    match s.pulse u.id with
    | some v => s.endChain v o
    | none => s

/-- A jump of `u` to target byte `tgt` takes effect. -/
def State.jumpTo (s : State) (u : Pulse) (o : Obj) (tgt : Nat) : State :=
  let s := s.updPulse u.id fun u => { u with carry := none, req := none, reqLate := false }
  if tgt = 254 then s.endPulse u.id true
  else if tgt = 255 then s.nextPass { u with carry := none } o
  else s.updPulse u.id fun u => { u with seg := tgt, pass := 0, gran := 0 }

/-- The end of a pass of `u` that no stop ends (03 R94-R97). -/
def State.passEnd (s : State) (u : Pulse) (o : Obj) : State :=
  let g := o.seg u.seg
  match u.carry, u.req with
  | some r, _ => (s.jumpResult u o r.seg r.state r.target true false).jumpTo u o r.target
  | none, some st =>
    let tgt := g.target st
    if u.reqLate then
      let s := (s.incFld (OCH_JLATE u.ch) 15 0).updPulse u.id fun u =>
        { u with carry := some { state := st, seg := u.seg, target := tgt } }
      s.nextPass u o
    else ((s.jumpResult u o u.seg st tgt false false).inc (OCH_JCNT u.ch)).jumpTo u o tgt
  | none, none =>
    if g.jen && !g.forever && u.pass == g.reps then
      ((s.jumpResult u o u.seg 3 255 false true).incFld (OCH_JLATE u.ch) 31 16).nextPass u o
    else s.nextPass u o

/-- SEGMENT_PASS_END (03 R86, R92-R97). -/
def execSegmentPassEnd (id : Nat) (s : State) : Host.Outcome State Fault Refusal :=
  answer s (match s.pulse id with
    | none => s
    | some u =>
      match s.obj u.obj with
      | none => s
      | some o =>
        if !u.playing || u.done || decide (u.gran < (o.seg u.seg).len) || decide (s.now < u.due o) then s
        else if (match u.stopAt with | some i => decide (i < u.at_ o) | none => false) then s.endChain u o
        else s.passEnd u o)

/-- OCH_CNTCLR (03 R110). -/
def State.ochCntclr (s : State) (n : Fin 64) : State :=
  if s.nOch ≤ n.val then s
    else (s.clearCounts [OCH_SATCNT n.val, OCH_JCNT n.val, OCH_JLATE n.val]).zeroRegs [OCH_PEAK n.val]

/-- The command of that write. -/
def execOchCntclr (n : Fin 64) (s : State) : Host.Outcome State Fault Refusal :=
  answer s (s.pf0 (s.ochCntclr n))

end Sys2Proof.Machine
end

