-- ==== Sys2Proof/Machine/Library.lean ====
section
/-!
DEFINITION. Geode's library and cache: the operations of a library job, page fills and pin releases, and the counters
of Geode and the scheduler (05 R160-R176).
-/
namespace Sys2Proof.Machine

/-! Waveform object images (05 R161, R163; 03 R90, R91). -/

/-- A segment entry. -/
def parseSeg (b : List Byte) : Seg :=
  let fl := le b 7 1
  { offset := le b 0 4, len := le b 4 3, jen := bitOf fl 0, report := bitOf fl 1, forever := bitOf fl 2, reps := le b 8 2
    jslot := le b 10 2 % 512, jt := BitVec.ofNat 32 (le b 12 4) }

/-- Whether the bytes of segment entry `i` of a chain of `n` segments pass the checks of 03 R91. -/
def segOk (b : List Byte) (i n limit data : Nat) : Bool :=
  let g := parseSeg b
  let tgts := (List.range 4).map g.target
  decide (4 ≤ g.len) && decide (g.len ≤ 65536) && le b 7 1 < 8 && decide (g.offset + g.len ≤ data / 64)
    && (!g.forever || i + 1 == n)
    && (!g.jen || (le b 10 2 < 512 && tgts.all fun t => 254 ≤ t || (decide (t < n) && (limit != 0 || decide (i < t)))))

/-- Entry `i` of the chain `c`. -/
def segBytes (c : List Byte) (i : Nat) : List Byte := (c.drop (16 + 16 * i)).take 16

/-- Whether the chain `c`, with `data` bytes of envelope data, passes the checks of 03 R90 and R91. -/
def chainOk (c : List Byte) (data : Nat) : Bool :=
  let n := le c 0 2
  decide (1 ≤ n) && decide (n ≤ 256) && le c 2 1 < 3 && le c 3 1 == 0 && allZero ((c.drop 8).take 8)
    && (List.range n).all fun i => segOk (segBytes c i) i n (le c 4 4) data

/-- Bytes of the padded chain. -/
def padded (chainlen : Nat) : Nat := (chainlen + 63) / 64 * 64

/-- Whether the image passes the BAD_IMAGE checks for object `n` and length `len` (05 R161, R163). -/
def imageOk (b : List Byte) (n len : Nat) : Bool :=
  let c := le b 8 4
  let d := le b 12 4
  le b 0 4 == 0x57474F42 && le b 4 2 == 1 && le b 6 2 == n && crc32 (blank b 20 4) == le b 20 4
    && le b 16 1 < 2 && allZero ((b.drop 17).take 3) && allZero ((b.drop 24).take 8)
    && decide (32 ≤ c) && decide (c ≤ 4112) && d % 64 == 0 && decide (256 ≤ d) && decide (d ≤ 2 ^ 30)
    && b.length == 32 + padded c + d && b.length == len && c == 16 + 16 * le b 32 2
    && allZero ((b.drop (32 + c)).take (padded c - c))

/-- The object that an image makes, apart from its sets. -/
def parseObj (p : Nat) (b : List Byte) : Obj :=
  let c := b.drop 32
  let pad := padded (le b 8 4)
  let o : Obj := { part := p, rate := le c 2 1, limit := le c 4 4
                   segs := (List.range (le c 0 2)).map fun i => parseSeg (segBytes c i)
                   data := b.drop (32 + pad), npages := (pad + le b 12 4 + 4095) / 4096, headBytes := pad
                   pinned := bitOf (le b 16 1) 0 }
  { o with maxlen := o.maxLen, head := (o.headSet 2048).length }

/-! Sets (05 R166, R167). -/

/-- The first set at or after `nx`, counting modulo 1,024, that holds the fewest pages of the counts `c`. -/
def fewest (c : List Nat) (nx : Nat) : Nat :=
  let m := c.foldl min (c.headD 0)
  (((List.range 1024).map fun i => (nx + i) % 1024).find? fun i => c.getD i 0 == m).getD 0

/-- Sets of `n` further pages, and the set after the last. -/
def assignSets : Nat → List Nat → Nat → List Nat × Nat
  | 0, _, nx => ([], nx)
  | k + 1, c, nx =>
    let i := fewest c nx
    let r := assignSets k (c.set i (c.getD i 0 + 1)) ((i + 1) % 1024)
    (i :: r.1, r.2)

/-- Library pages per set. -/
def State.setCounts (s : State) : List Nat := (List.range 1024).map (setCount s.allObjs)

/-- Whether pages in the sets `l`, load-pinned beside the objects `os`, keep every set within 12. -/
def pinSetsOk (os : List Obj) (l : List Nat) : Bool :=
  l.all fun i => decide (setPinned os i + (l.filter (· == i)).length ≤ 12)

/-! Load pins and storage. -/

/-- Object `n` is load-pinned: each page has its cache entry and waits for its fill. -/
def State.loadPin (s : State) (n : Nat) (o : Obj) : State :=
  let s := s.setObj n (some { o with pinned := true })
  s.forEach (List.range o.npages) fun s pg =>
    let hit := fun g : Page => g.obj == n && g.page == pg
    if s.geo.pages.any hit then
      let f := fun g : Page => if hit g then { g with loadPin := true } else g
      s.updGeo fun g => { g with pages := g.pages.map f }
    else
      let ent : Page :=
        { obj := n, page := pg, set := o.sets.getD pg 0, loadPin := true, requested := s.now, due := pinOpen }
      s.updGeo fun g => { g with pages := g.pages ++ [ent] }

/-- Object `n` is no longer load-pinned. -/
def State.loadUnpin (s : State) (n : Nat) (o : Obj) : State :=
  let f := fun g : Page => if g.obj = n then { g with loadPin := false } else g
  ((s.setObj n (some { o with pinned := false })).updGeo fun g => { g with pages := g.pages.map f }).trimPages

/-- Object `n`'s storage and load pins go free. -/
def State.deleteObj (s : State) (n : Nat) : State :=
  (s.setObj n none).updGeo fun g => { g with pages := g.pages.filter fun x => x.obj != n }

/-- Whether every load-pinned page of object `n` is resident. -/
def State.pinnedIn (s : State) (n : Nat) : Bool :=
  match s.obj n with
  | some o => !o.pinned || (List.range o.npages).all fun pg => s.resident n pg
  | none => true

/-! Library jobs (05 R162; 13 R400, R405). -/

/-- Whether partition `p` waits for a library operation with OP `op`. -/
def State.libNext (s : State) (p op : Nat) : Bool :=
  match (s.part p).job with
  | some j => j.type == .library && j.waitObj.isNone && j.ops[j.next]? == some op
  | none => false

/-- The operation in progress ends with load error code `code`. -/
def Job.opDone (j : Job) (code : Nat) : Job :=
  { j with
    waitObj := none
    next := j.next + 1
    okCount := if code = 0 then j.okCount + 1 else j.okCount
    failed := if code = 0 then j.failed else match j.failed with | some f => some f | none => some (j.next, code) }

/-- Operations with a reserved OP fail with BAD_OP, or with RANGE where OBJ lies outside the partition's range (05 R163); at
most `fuel` in a row. -/
def Job.skipBad (inRange : Nat → Bool) (j : Job) : Nat → Job
  | 0 => j
  | k + 1 => match j.ops[j.next]? with
    | some op =>
      if op = 0 ∨ 5 < op then
        (j.opDone (if inRange (j.opObjs.getD j.next 0) then 0x0A else 2)).skipBad inRange k
      else j
    | none => j

/-- A library job whose operations are done ends (13 R400). -/
def State.libEnd (s : State) (p : Nat) : State :=
  match (s.part p).job with
  | some j =>
    if j.type = .library && decide (j.ops.length ≤ j.next) then
      let s := match j.failed with
        | some (_, c) => s.completeJob p 3 c
        | none => s.completeJob p 0 0
      s.jobOver p s.now
    else s
  | none => s

/-- An operation of partition `p`'s library job ends with `code`. -/
def State.libDone (s : State) (p code : Nat) : State :=
  (s.updJob p fun j => (j.opDone code).skipBad (s.objInRange p) j.ops.length).libEnd p

/-- An operation that pins object `n` ends once its pages are resident (05 R167). -/
def State.libPinned (s : State) (p n : Nat) : State :=
  if s.pinnedIn n then s.libDone p 0 else s.updJob p fun j => { j with waitObj := some n }

/-- Whether a field that must be 0 is not, beside OP and OBJ. -/
def libBad (op : LibOp) (load : Bool) : Bool :=
  op.rsv != 0#8 || (!load && (op.len != 0#32 || op.addr != 0#64))

/-- The load error code of a LOAD of image `b` (05 R162, R163). -/
def State.loadCode (s : State) (p : Nat) (op : LibOp) (b : List Byte) (o : Obj) : Nat :=
  let n := op.obj.toNat
  let old := s.obj n
  let oldPages := match old with | some x => x.npages | none => 0
  let oldPins := match old with | some x => if x.pinned then x.npages else 0 | none => 0
  let rest := (s.geo.objs.filter (·.1 != n)).filterMap (·.2)
  let sets := (assignSets o.npages s.setCounts s.geo.nextSet).1
  if !imageOk b n op.len.toNat then 1
  else if !s.objInRange p n then 2
  else if !chainOk (b.drop 32) (le b 12 4) then 3
  else if s.fld (GEODE_LIBQ p) 24 0 < s.libUsed p - oldPages + o.npages then 4
  else if o.pinned && decide (s.fld (GEODE_PINQ p) 14 0 < s.pinLoad p - oldPins + o.npages) then 5
  else if o.pinned && !pinSetsOk rest sets then 6
  else if 4096 * s.fld (MEM_RSIZE 0) 12 0 < (s.allObjs.map (·.npages)).sum + o.npages then 9
  else if libBad op true then 10
  else 0

/-- LOAD (05 R162). -/
def execLibLoad (p : Fin 8) (op : LibOp) (image : Option (List Byte)) (s : State) : Host.Outcome State Fault Refusal :=
  answer s (
    let p := p.val
    let n := op.obj.toNat
    if !s.libNext p 1 then s
    else match image with
      | none => s.libDone p (if s.objInRange p n then 8 else 2)
      | some b =>
        let o := parseObj p b
        match s.loadCode p op b o with
        | 0 =>
          let r := assignSets o.npages s.setCounts s.geo.nextSet
          let o := { o with sets := r.1 }
          let s := (s.deleteObj n).setObj n (some o)
          let s := s.updGeo fun g => { g with nextSet := r.2 }
          (if o.pinned then s.loadPin n o else s).libPinned p n
        | c => s.libDone p c)

/-- DELETE (05 R162). -/
def execLibDelete (p : Fin 8) (op : LibOp) (s : State) : Host.Outcome State Fault Refusal :=
  answer s (
    let p := p.val
    let n := op.obj.toNat
    if !s.libNext p 2 then s
    else if !s.objInRange p n then s.libDone p 2
    else if (s.obj n).isNone then s.libDone p 7
    else if libBad op false then s.libDone p 10
    else (s.deleteObj n).libDone p 0)

/-- PIN (05 R162, R167). -/
def execLibPin (p : Fin 8) (op : LibOp) (s : State) : Host.Outcome State Fault Refusal :=
  answer s (
    let p := p.val
    let n := op.obj.toNat
    if !s.libNext p 3 then s
    else if !s.objInRange p n then s.libDone p 2
    else match s.obj n with
      | none => s.libDone p 7
      | some o =>
        let rest := (s.geo.objs.filter (·.1 != n)).filterMap (·.2)
        if !o.pinned && decide (s.fld (GEODE_PINQ p) 14 0 < s.pinLoad p + o.npages) then s.libDone p 5
        else if !o.pinned && !pinSetsOk rest o.sets then s.libDone p 6
        else if libBad op false then s.libDone p 10
        else (if o.pinned then s else s.loadPin n o).libPinned p n)

/-- UNPIN (05 R162). -/
def execLibUnpin (p : Fin 8) (op : LibOp) (s : State) : Host.Outcome State Fault Refusal :=
  answer s (
    let p := p.val
    let n := op.obj.toNat
    if !s.libNext p 4 then s
    else if !s.objInRange p n then s.libDone p 2
    else match s.obj n with
      | none => s.libDone p 7
      | some o => if libBad op false then s.libDone p 10 else (s.loadUnpin n o).libDone p 0)

/-- DELETE_ALL (05 R162): OBJ is ignored. -/
def execLibDeleteAll (p : Fin 8) (op : LibOp) (s : State) : Host.Outcome State Fault Refusal :=
  answer s (
    let p := p.val
    if !s.libNext p 5 then s
    else if libBad op false then s.libDone p 10
    else (s.forEach (s.objsOf p) fun s x => s.deleteObj x.1).libDone p 0)

/-! Fills and pins (05 R167, R169, R170, R174, R175). -/

/-- Fills of the variant per 1,024 ticks. -/
def State.fillCap (s : State) : Nat := match s.variant with | .pfq6416 => 80 | .pfq3208 => 40 | .pfq1604 => 20
/-- Fills that no quota commits. -/
def State.fillFree (s : State) : Nat := s.fillCap - ((List.range s.nPart).map s.fillQuota).sum

/-- Whether a fill of page `g` waits to be made: it is pinned and not yet filled. -/
def Page.waits (g : Page) : Bool := !g.filled && g.isPinned

/-- Whether partition `p` has a fill waiting that its quota covers. -/
def State.fillOwed (s : State) (p : Nat) : Bool :=
  decide ((s.part p).fillUsed < s.fillQuota p) &&
    s.geo.pages.any fun g => g.waits && !g.loadPin && match s.obj g.obj with | some o => o.part == p | none => false

/-- The capacity that a fill uses (05 R170). -/
inductive FillBy where
  | quota
  | spare
  | lent (lender : Nat)
  | load
  deriving DecidableEq, Repr

/-- What a fill for partition `p` may use, none to wait (05 R170): its quota; in a begun shot capacity that no quota commits,
then what another partition leaves unused at that moment; for a load pin whatever is left. A quota fill never waits for
capacity that was lent: the excess counts against the next period (log 135). -/
def State.fillLeave (s : State) (p : Nat) (loadPin : Bool) : Option FillBy :=
  let room := decide (s.geo.fills < s.fillCap)
  if loadPin then (if room then some .load else none)
  else if (s.part p).fillUsed < s.fillQuota p then some .quota
  else if !(s.part p).attempt.active || !room then none
  else if s.geo.freeFills < s.fillFree then some .spare
  else ((List.range s.nPart).find? fun q =>
    q != p && decide (128 ≤ s.idleShare q) && !s.fillOwed q).map .lent

/-- A fill for partition `p` is counted against what it uses; a lender reports the loan (01 R45). -/
def State.fillCount (s : State) (p : Nat) : FillBy → State
  | .quota => s.updPart p fun q => { q with fillUsed := q.fillUsed + 1 }
  | .spare => s.updGeo fun g => { g with freeFills := g.freeFills + 1 }
  | .lent l => s.dramLoan l p 64 128
  | .load => s

/-- Rank of a fill in the order of service: quota fills, then those of begun shots beyond quota, then load pins (05 R170). -/
def FillBy.rank : FillBy → Nat
  | .quota => 0 | .spare => 1 | .lent _ => 1 | .load => 2

/-- The page that a fill of set `i` evicts: the least recently used resident one. -/
def State.victim (s : State) (i : Nat) : Option Page :=
  (s.geo.pages.filter fun g => g.set == i && g.filled && !g.isPinned).foldl
    (fun m g => match m with | none => some g | some x => if g.used < x.used then some g else some x) none

/-- Whether set `i` has a way for a fill. -/
def State.wayFree (s : State) (i : Nat) : Bool :=
  decide ((s.geo.pages.filter fun g => g.set == i && g.filled).length < 16) || (s.victim i).isSome

/-- Rank and due tick of a fill of page `g`, none where it cannot be made now (05 R169, R170). -/
def State.fillKey (s : State) (g : Page) : Option (Nat × Nat) :=
  match s.obj g.obj with
  | none => none
  | some o =>
    if g.waits && s.wayFree g.set then (s.fillLeave o.part g.loadPin).map fun b => (b.rank, g.due) else none

/-- Whether no other fill comes before that of `g` (05 R169): by rank, then by the due tick of the earliest need
(log 136). -/
def State.fillFirst (s : State) (g : Page) : Bool :=
  match s.fillKey g with
  | none => false
  | some k => !(s.geo.pages.any fun h => match s.fillKey h with
    | some x => decide (x.1 < k.1) || (x.1 == k.1 && decide (x.2 < k.2))
    | none => false)

/-- Pins of the page that waited for quota are taken where the quota, or a lender, now has room (05 R174). -/
def State.retryQuota (s : State) (n pg : Nat) : State :=
  match s.geo.pages.find? fun g => g.obj == n && g.page == pg && g.quotaWait with
  | none => s
  | some g => s.forEach g.want fun s w =>
      if s.quotaWaits n pg then s.requestPage w.1 n pg w.2.1 w.2.2 g.due else s

/-- Page `pg` of object `n` becomes resident: the least recently used way makes room; a page that waits for quota stays
wanted. -/
def State.fillPage (s : State) (n pg i : Nat) : State :=
  let full := decide (16 ≤ (s.geo.pages.filter fun g => g.set == i && g.filled).length)
  let v := if full then s.victim i else none
  let out : Page → Bool := fun g => match v with | some x => g.obj == x.obj && g.page == x.page | none => false
  let keep := fun g : Page => !out g || !g.want.isEmpty
  let f := fun g : Page =>
    if g.obj = n ∧ g.page = pg then { g with filled := true, setFull := false }
    else if out g then { g with filled := false } else g
  s.updGeo fun g => { g with pages := (g.pages.filter keep).map f, fills := g.fills + 1 }

/-- An uncorrectable error on a fill (05 R175). -/
def State.fillError (s : State) (n pg : Nat) (o : Obj) (loadPin : Bool) : State :=
  let p := o.part
  let s := s.cause p 4 0xF0 (resource 0x0C n) pg 0#64
  let gone := fun g : Page => g.obj == n && g.page == pg
  let s := if loadPin then s else s.updGeo fun g => { g with pages := g.pages.filter fun x => !gone x }
  if o.ecc.contains pg then
    let s := s.setObj n (some { o with damaged := true })
    if o.damaged then s else s.queueRec p (errorRec 8 4 1 (s.jobNum p) 0#64 s.now (resource 0x0C n) pg)
  else s.setObj n (some { o with ecc := pg :: o.ecc })

/-- A fill of page `g` of partition `p`'s object found every way of its set pinned: the wait counts once (05 R174). -/
def State.setFullWait (s : State) (p : Nat) (g : Page) : State :=
  if g.setFull then s
  else
    let f := fun x : Page => if x.obj = g.obj ∧ x.page = g.page then { x with setFull := true } else x
    (s.updGeo fun y => { y with pages := y.pages.map f }).setFullNote p true

/-- FILL_COMPLETE (05 R170): the fill that is next in order is made. -/
def execFillComplete (obj page : Nat) (good : Bool) (s : State) : Host.Outcome State Fault Refusal :=
  answer s (
    let s := s.retryQuota obj page
    match s.obj obj, s.geo.pages.find? fun g => g.obj == obj && g.page == page && g.waits with
    | some o, some g =>
      if !s.wayFree g.set then s.setFullWait o.part g
      else match s.fillLeave o.part g.loadPin with
        | none => s
        | some b =>
          if !s.fillFirst g then s
          else
            let s := s.fillCount o.part b
            if !good then s.fillError obj page o g.loadPin
            else
              let s := (s.fillPage obj page g.set).inc (GEODE_FILLS o.part)
              match (s.part o.part).job.bind (·.waitObj) with
              | some n => if s.pinnedIn n then s.libDone o.part 0 else s
              | none => s
    | _, _ => s)

/-- `g` put into a list of pages that wait for quota, by tick of request, then by partition (01 R41). -/
def insertWait (g : Page) : List Page → List Page
  | [] => [g]
  | x :: l =>
    let p := fun y : Page => ((y.want.head?).map (·.1)).getD 0
    if g.requested < x.requested ∨ (g.requested = x.requested ∧ p g ≤ p x) then g :: x :: l else x :: insertWait g l

/-- Pins that wait for quota are taken as room comes (05 R174). -/
def State.tickPins (s : State) : State :=
  s.forEach ((s.geo.pages.filter (·.quotaWait)).foldr insertWait []) fun s g => s.retryQuota g.obj g.page

/-- USE_PIN_RELEASE (05 R169): pins past their last need go. -/
def execUsePinRelease (obj page : Nat) (s : State) : Host.Outcome State Fault Refusal :=
  answer s (
    let f := fun g : Page =>
      if g.obj = obj ∧ g.page = page then { g with pins := g.pins.filter fun k => decide (s.now < k.2.2) } else g
    (s.updGeo fun g => { g with pages := g.pages.map f }).trimPages)

/-- GEODE_CNTCLR (05 R172). -/
def State.geodeCntclr (s : State) (p : Fin 8) : State :=
  if s.nPart ≤ p.val then s
    else s.clearCounts [GEODE_UNDERRUN p.val, GEODE_SETFULL p.val, GEODE_FILLS p.val]

/-- The command of that write. -/
def execGeodeCntclr (p : Fin 8) (s : State) : Host.Outcome State Fault Refusal :=
  answer s (s.pf0 (s.geodeCntclr p))

/-- SCHED_CNTCLR (05 R181). -/
def State.schedCntclr (s : State) (p : Fin 8) : State :=
  if s.nPart ≤ p.val then s
    else (s.clearCounts [SCHED_LXCNT p.val, SCHED_DLATE p.val]).zeroRegs [SCHED_PEAK p.val]

/-- The command of that write. -/
def execSchedCntclr (p : Fin 8) (s : State) : Host.Outcome State Fault Refusal :=
  answer s (s.pf0 (s.schedCntclr p))

end Sys2Proof.Machine
end

