-- ==== Sys2Proof/Machine/Readout.lean ====
section
/-!
DEFINITION. The input side: sample blocks, windows and the lane FIFOs that their samples enter (06 R187-R210;
07 R216-R220).
-/
namespace Sys2Proof.Machine

/-! Samples (06 R189, R191, R205, R207, R210). -/

/-- A code after its sub-converter's offset and gain, DCOFS, GTRIM and INVERT (06 R189); the skew moves the sampling
instant and no code. The code is rounded once, in no stated direction (log 14). -/
def trimCode (code : Int) (sub : Int × Int × Int) (dcofs gtrim : Int) (inv : Bool) : Int :=
  let n := ((16 * code + sub.1) * (100000 + sub.2.1) + 100000 * dcofs) * (10000 + gtrim)
  let y := clamp (-2048) 2047 (roundOpen 3 n 16000000000)
  if inv then clamp (-2048) 2047 (-y) else y

/-- Channel samples of a block: the code and whether it is overranged. Sub-converter i takes the samples i and i + 8 of
a tick (log 117). -/
def State.trims (s : State) (m : Nat) (l : List AdcSample) : List (Int × Bool) :=
  let subs := look (fun _ => []) s.cal.subs m
  ((List.range l.length).zip l).map fun x => (trimCode (toSigned 12 x.2.code.toNat) (subs.getD (x.1 % 8) (0, 0, 0))
    (toSigned 16 (s.fld (ICH_DCOFS m) 15 0)) (toSigned 12 (s.fld (ICH_GTRIM m) 11 0)) (s.bit (ICH_CTRL m) 2), x.2.railed)

/-- A block in the 16-bit container format (06 R210). -/
def tapWide : List (Int × Bool) → List Word
  | a :: b :: l =>
    BitVec.ofNat 32 (16 * wrapInt 12 a.1 + bn a.2 + 65536 * (16 * wrapInt 12 b.1 + bn b.2)) :: tapWide l
  | [a] => [BitVec.ofNat 32 (16 * wrapInt 12 a.1 + bn a.2)]
  | [] => []

/-- A block in the packed format (06 R210). -/
def tapPacked (l : List (Int × Bool)) : List Word :=
  let n := l.foldr (fun a n => wrapInt 12 a.1 + 4096 * n) 0
  (List.range 6).map fun i => BitVec.ofNat 32 (n / 2 ^ (32 * i))

/-- Whether the gain stage saturates for code `x` at GAIN `g`, UQ4.12 (06 R191, R207). -/
def gainSat (g : Nat) (x : Int) : Bool := decide (2 ^ 23 ≤ g * x.natAbs)

/-- Windows of channel `m` whose lane takes the input of tick `t`: [LS, WE + Q]. -/
def Window.spans (w : Window) (t : Nat) : Bool := decide (w.ls ≤ t) && decide (t ≤ w.we + decQ w.dec)

/-- An overranged sample at input sub-tick `i` of tick `t` against the windows of channel `m` that hold it (06 R206). -/
def State.overrange (s : State) (m t i : Nat) : State :=
  let hit := (s.fab.wins.filter fun w => w.ich == m && w.opened && w.spans t).map (·.part)
  if s.bit (ICH_CTRL m) 1 then
    s.forEach hit.eraseDups fun s p =>
      let a := (s.part p).attempt
      s.cause p 5 0xF4 (resource 3 m) 1 (mkTag t i p a.shotNo 0 0 false false true false a.num)
  else s

/-- The gain stage's samples of tick `t` are kept for the lanes of channel `m`: 256 ticks, while a window needs them
(06 R191, R193). -/
def State.keepInput (s : State) (m t : Nat) (l : List Int) : State :=
  let old := look (fun _ => []) s.fab.inputs m
  let l := if s.fab.wins.any (·.ich == m) then (t, l) :: old.filter fun b => decide (t < b.1 + 256) else []
  s.updFab fun b => { b with inputs := put (fun _ => []) b.inputs m l }

/-- INPUT_BLOCK (06 R187): the block of the tick 15 ticks ago reaches the tile. -/
def execInputBlock (m : Fin 16) (samples : List AdcSample) (s : State) : Host.Outcome State Fault Refusal :=
  answer s (
    let m := m.val
    if s.nIch ≤ m || !s.bit (ICH_STAT m) 0 || samples.length != 16 || decide (s.now < 15) then s
    else
      let t := s.now - 15
      let l := s.trims m samples
      let ovr := (l.filter (·.2)).length
      let g := s.fld (ICH_GAIN m) 15 0
      let sat := l.any fun a => gainSat g a.1
      let s := if ovr = 0 then s else (s.stick (ICH_STAT m) 2).inc (ICH_OVRCNT m) ovr
      let s := s.forEach (((List.range 16).zip l).filter (·.2.2)) fun s x => s.overrange m t x.1
      let s := s.maxReg (ICH_PEAK m) (l.foldl (fun n a => max n a.1.natAbs) 0)
      let mark := fun w : Window =>
        if w.ich = m ∧ w.ls ≤ t + w.carry + decQ w.dec ∧ t ≤ w.we + decQ w.dec then
          { w with ovf := if ovr = 0 then w.ovf else w.ovf ++ [t], gsat := if sat then w.gsat ++ [t] else w.gsat }
        else w
      let s := if ovr = 0 && !sat then s else s.updFab fun b => { b with wins := b.wins.map mark }
      let s := s.keepInput m t (l.map fun a => gainOut g a.1)
      s.tapBlock m t (tapWide l) (tapPacked l) (ovr != 0))

/-! Windows (06 R194-R197). -/

/-- Window `w`, not yet opened, with the windows `l` accepted before it: chained to one that opened no lane it starts a
lane of its own, and a carry follows what its chain has become (06 R193, R197; 10 R307). -/
def Window.relink (l : List Window) (w : Window) : Window :=
  match w.chained.bind fun i => l.find? (·.id == i) with
  | none => w
  | some v =>
    if w.opened then w
    else if v.served && !v.opened then { w with chained := none, carry := 0, ls := max (w.ws - decQ w.dec) w.tl }
    else { w with carry := (v.carry + (v.we - v.ws)) % decP w.dec }

/-- Window `w` is never served: its binding's indeterminate result arrives at tick `t`, and no window chains to it. -/
def State.loseWindow (s : State) (w : Window) (t : Nat) (late : Bool) : State :=
  let u := (w.id, t, indeterminate (s.winTag w late))
  (s.updWin w.id fun w => { w with served := true }).updFab fun b => { b with
    units := b.units ++ [u], wins := b.wins.foldl (fun l w => l ++ [w.relink l]) [] }

/-- Samples lost from source `k` towards the ring of Mica core `k` (10 R330). -/
def State.micaGap (s : State) (k cause n frame : Nat) : State :=
  match s.micaRing k with
  | some r => s.gapAdd r cause k 0 n s.now frame
  | none => s

/-- WINDOW_EVENT_ARRIVE (06 R194; 01 R21, R24): held at the tile, or late. -/
def execWindowEventArrive (event : Crossing) (s : State) : Host.Outcome State Fault Refusal :=
  let id := event.id
  let link := event.link
  answer s (match s.event id, s.win id with
    | some e, some w =>
      match e.stage with
      | .transit a =>
        if s.now < a || !s.inOrder e a then s
        else if s.now + 48 ≤ e.tick then s.updEvent id fun e => { e with stage := .tile, link := link }
        else
          let s := s.cause e.part (if link then 3 else 1) 0xF4 (resource 4 w.mica) 0 (tagOr (s.tagOf e) 4 true)
          let s := (s.loseWindow w (w.we + decResolve w.dec - 2) true).freeEvent id
          if (s.part e.part).mode = .stream then s.micaGap w.mica 4 ((w.we - w.ws) / decP w.dec) w.dframe else s
      | _ => s
    | _, _ => s)

/-- Lanes of Mica core `k`'s group that windows other than `id` hold at tick `t`. -/
def State.groupBusy (s : State) (k id t : Nat) : List Nat :=
  s.fab.wins.filterMap fun w => if w.mica = k ∧ w.id ≠ id ∧ w.spans t = true then w.lane else none

/-- WINDOW_BIND (06 R196, R197): a chained window keeps the earlier window's lane. -/
def execWindowBind (id : Nat) (s : State) : Host.Outcome State Fault Refusal :=
  answer s (match s.event id, s.win id with
    | some e, some w =>
      if w.opened || w.served || e.stage != .tile || decide (s.now + 2 < w.ls) then s
      else
        let s := s.updEvent id fun e => { e with stage := .released }
        let kept := match w.chained.bind s.win with
          | some v => if v.opened then v.lane else none
          | none => none
        let busy := s.groupBusy w.mica id w.ls
        let lane := match kept with
          | some l => some l
          | none => (List.range 8).find? fun l => !busy.contains l && !s.demodRetired w.mica l
        match lane with
        | some l => (s.updWin id fun w => { w with lane := some l, opened := true }).inc (ICH_WINCNT w.ich)
        | none => (s.cause w.part 10 0xF4 (resource 4 w.mica) 0 (s.tagOf e)).loseWindow w (w.we + decResolve w.dec - 2) false
    | _, _ => s)

/-- SETTLING_END (06 R200). -/
def execSettlingEnd (m : Fin 16) (s : State) : Host.Outcome State Fault Refusal :=
  answer s (match s.time.gainAt with
    | some a => if s.now < a + 2048 then s else s.setBit (ICH_STAT m.val) 1 false
    | none => s)

/-! Lane FIFOs (06 R199; 07 R218, R219). -/

/-- The window that `w` is chained to, or `w`. -/
def State.chainPrev (s : State) (w : Window) : Window := (w.chained.bind s.win).getD w

/-- Whether the output sample of window `w` for instant `t` carries SETTLE (06 R199, 02 R51). -/
def State.settles (s : State) (w : Window) (t : Int) : Bool :=
  let q : Int := (decQ w.dec : Nat)
  let marks := w.marks ++ (s.chainPrev w).marks
  let start := w.chained.isNone && decide (w.ws < w.ls + decQ w.dec) && decide (t < (w.ls : Int) + q)
  let gain := match s.time.gainAt with
    | some a => decide (t - q < (a : Int) + 2048) && decide ((a : Int) < t + q)
    | none => false
  let loss := decide (t - q < (s.time.settleTo : Int)) && decide ((s.time.settleFrom : Int) < t + q)
  start || gain || loss || marks.any fun c => decide ((c : Int) - q ≤ t) && decide (t < (c : Int) + q)

/-- Whether the input span of the output sample of `w` for instant `t` holds one of the ticks `l`. -/
def Window.spanHas (w : Window) (t : Int) (l : List Nat) : Bool :=
  let q : Int := (decQ w.dec : Nat)
  l.any fun c => decide (t - q ≤ (c : Int)) && decide ((c : Int) < t + q)

/-- Whether it holds an overranged sample (06 R205), or one at which the gain stage saturated (06 R207). -/
def State.spanOvr (s : State) (w : Window) (t : Int) : Bool := w.spanHas t (w.ovf ++ (s.chainPrev w).ovf)
def State.spanSat (s : State) (w : Window) (t : Int) : Bool := w.spanHas t (w.gsat ++ (s.chainPrev w).gsat)

/-- The products m(k) of tick `t` of window `w`'s channel, weighted and summed (06 R191): `i` is the place of the tick's
first sample in the filter's span. A tick before the lane's start, or one that the tile did not get, adds nothing. -/
def State.blockSum (s : State) (w : Window) (t : Int) (i : Nat) : Int × Int :=
  if t < (w.ls : Int) ∧ w.chained.isNone then (0, 0)
  else match (look (fun _ => []) s.fab.inputs w.ich).find? fun b => (b.1 : Int) == t with
  | none => (0, 0)
  | some b =>
    ((List.range 16).zip b.2).foldl (fun a u =>
      let k := 16 * b.1 + u.1
      let m := mixDown (s.frameAt w.dframe (2 * k)) k u.2
      let h := decTap w.dec (decQ w.dec) (i + u.1)
      (a.1 + h * m.1, a.2 + h * m.2)) (0, 0)

/-- The output sample z of window `w` for instant `t` (06 R191, R193): I in [15:0], Q in [31:16]; and whether a part
saturated. -/
def State.laneSample (s : State) (w : Window) (t : Int) : Word × Bool :=
  let q := decQ w.dec
  let sum := (List.range (2 * q)).foldl (fun (a : Int × Int) (n : Nat) =>
    let b := s.blockSum w (t - (q : Int) + ((n : Nat) : Int)) (16 * n)
    (a.1 + b.1, a.2 + b.2)) (0, 0)
  let x := decOut sum.1
  let y := decOut sum.2
  (BitVec.ofNat 32 (wrapInt 16 x.1 + 65536 * wrapInt 16 y.1), x.2 || y.2)

/-- Tick at which output sample `j` of window `w` enters the FIFO (07 R218). -/
def Window.arrive (w : Window) (j : Nat) : Nat := w.ws + (j + 1) * decP w.dec + 14 + decStage w.dec - w.carry

/-- LANE_FIFO_SAMPLE (07 R218, R219): the next output sample of a window enters its FIFO, or is dropped. -/
def execLaneFifoSample (id : Nat) (s : State) : Host.Outcome State Fault Refusal :=
  answer s (match s.win id with
    | none => s
    | some w =>
      match w.lane with
      | none => s
      | some x =>
        if !w.opened || decide (w.count ≤ w.seen) || decide (s.now < w.arrive w.seen) then s
        else if w.served then s.updWin id fun w => { w with seen := w.seen + 1 }
        else
          let k := w.mica
          let t := w.sampleAt w.seen
          let z := s.laneSample w t
          let sat := z.2 || s.spanSat w t
          let settle := s.settles w t
          let ovf := sat || s.spanOvr w t
          let s := if sat then s.inc (ICH_SATCNT w.ich) else s
          let s := if settle then s.inc (ICH_SETTLECNT w.ich) else s
          let s := s.updWin id fun w => { w with seen := w.seen + 1 }
          let it : Sample := { iq := z.1, settle := settle, ovf := ovf, time := t.toNat, win := id }
          if 512 ≤ (s.ctx k x).fifo.length then
            let tag := mkTag t.toNat 0 w.part w.shot w.dframe 0 (s.tainted w.part) settle ovf false w.attempt
            let s := (s.incFld (MICA_FIFODROP k) 15 0).causeBy w.part (dropKey k) 1 (0x10 + k) (resource 5 k) 1 tag
            if (s.part w.part).mode = .stream then s.micaGap k 3 1 w.dframe else s
          else
            let s := s.updCtx k x fun c => { c with fifo := c.fifo ++ [it] }
            s.maxReg (MICA_FIFOMAX k) ((s.ctx k x).fifo.length))

/-! Window starts (07 R216, R217, R220). -/

/-- Registers of discriminator entry `d` of core `k`, as 4 words. -/
def State.discEntry (s : State) (k d : Nat) : List Word :=
  [s.reg (MICA_DROT k d), s.reg (MICA_DT01 k d), s.reg (MICA_DT12 k d), s.reg (MICA_DCFG k d)]

/-- The context as it begins window `w` (07 R220); `disc` are the discriminator entries as they stand. -/
def Ctx.begin (c : Ctx) (w : Window) (disc : Tab Word) : Ctx :=
  let same := c.prev.isSome && w.chained == c.prev
  let base : Ctx := if same then c else { fifo := c.fifo, queue := c.queue }
  { base with
    win := some w.id, pc := w.mentry, fOvf := false, fGuard := false, fCbrst := false, fSettle := false, fN := false
    fZ := false, pops := 0, wn := w.count, emitted := false, chained := same, lastTime := 0, lastSettle := false,
        lastOvf := false, rep := none, disc := disc
    prev := some w.id }

/-- Context `x` of core `k` begins window `w`; one that is not chained ends the context's SAMPLES record (10 R313). -/
def State.beginWindow (s : State) (k x : Nat) (w : Window) : State :=
  let chained := (s.ctx k x).prev.isSome && w.chained == (s.ctx k x).prev
  let s := match s.micaRing k, chained with
    | some r, false => s.samplesClose r k x
    | _, _ => s
  let disc := ((List.range 4).map fun d =>
    ((List.range 4).zip (s.discEntry k d)).map fun e => (4 * d + e.1, e.2)).flatten
  let s := s.updCtx k x fun c => c.begin w disc
  if 4096 ≤ w.mentry then s.micaFault k x 2 else s

/-- WINDOW_START (07 R216): at WS + 10 the window begins, or is queued. -/
def execWindowStart (id : Nat) (s : State) : Host.Outcome State Fault Refusal :=
  answer s (match s.win id with
    | none => s
    | some w =>
      match w.lane with
      | none => s
      | some x =>
        let c := s.ctx w.mica x
        if !w.opened || w.served || decide (s.now < w.ws + 10) || c.queue.contains id || c.win == some id
            || (s.mica w.mica).stopped then s
        else if c.win.isNone then s.beginWindow w.mica x w
        else if c.queue.length < 4 then s.updCtx w.mica x fun c => { c with queue := c.queue ++ [id] }
        else
          let tag := tagOr (s.winTag w true) 4 true
          ((s.incFld (MICA_FIFODROP w.mica) 23 16).cause w.part 1 (0x10 + w.mica) (resource 5 w.mica) 0 tag).loseWindow
            w s.now true)

/-- ICH_CNTCLR (06 R211). -/
def State.ichCntclr (s : State) (m : Fin 16) : State :=
  if s.nIch ≤ m.val then s
    else (s.clearCounts [ICH_OVRCNT m.val, ICH_SATCNT m.val, ICH_WINCNT m.val, ICH_SETTLECNT m.val,
      ICH_REFUSE m.val]).zeroRegs [ICH_PEAK m.val]

/-- The command of that write. -/
def execIchCntclr (m : Fin 16) (s : State) : Host.Outcome State Fault Refusal :=
  answer s (s.pf0 (s.ichCntclr m))

end Sys2Proof.Machine
end

