-- ==== Sys2Proof/Machine/Flags.lean ====
section
/-!
DEFINITION. The arithmetic of the Mica cores and the flags it sets: complex Q1.15 products, accumulation in Q18.30 with
its guard range, rounding and saturation, and circular addressing (07 R222-R227, R234, R235).
-/
namespace Sys2Proof.Machine

/-- A complex value: real and imaginary part. -/
abbrev Cx := Int × Int

/-- I and Q of a data word (07 R214). -/
def cxOf (w : Word) : Cx := (toSigned 16 w.toNat, toSigned 16 (w.toNat / 65536))
def cxWord (c : Cx) : Word := BitVec.ofNat 32 (wrapInt 16 c.1 + 65536 * wrapInt 16 c.2)
def cxConj (c : Cx) : Cx := (c.1, -c.2)
/-- The exact product (07 R222). -/
def cxMul (a b : Cx) : Cx := (a.1 * b.1 - a.2 * b.2, a.1 * b.2 + a.2 * b.1)

/-- `x` clamped to `n`-bit two's complement, and whether that changed it. -/
def satInt (n : Nat) (x : Int) : Int × Bool :=
  let m : Int := ((2 ^ (n - 1) : Nat) : Int)
  let y := clamp (-m) (m - 1) x
  (y, decide (x ≠ y))

/-- Half an LSB added, then an arithmetic shift by `k` (07 R228). -/
def roundShift (x : Int) (k : Nat) : Int := roundUp x k

/-- One accumulator part after `x` is reached exactly: the value held, GUARD, OVF (07 R223). -/
def accPart (sat : Bool) (x : Int) : BitVec 48 × Bool × Bool :=
  let guard := decide (x < -2 ^ 39) || decide (2 ^ 39 ≤ x)
  let out := decide (x < -2 ^ 47) || decide (2 ^ 47 ≤ x)
  let y := if out && sat then (satInt 48 x).1 else x
  (BitVec.ofNat 48 (wrapInt 48 y), guard, out)

/-- Part `i` of the accumulators. -/
def Ctx.accAt (c : Ctx) (i : Nat) : BitVec 48 := look (fun _ => 0#48) c.acc i
/-- Accumulator `a` in units of 2^-30. -/
def Ctx.accCx (c : Ctx) (a : Nat) : Cx := ((c.accAt (2 * a)).toInt, (c.accAt (2 * a + 1)).toInt)
def Ctx.setAcc (c : Ctx) (a : Nat) (re im : BitVec 48) : Ctx :=
  { c with acc := put (fun _ => 0#48) (put (fun _ => 0#48) c.acc (2 * a) re) (2 * a + 1) im }

/-- `d` is added to accumulator `a` (07 R223). -/
def Ctx.accAdd (c : Ctx) (a : Nat) (sat : Bool) (d : Cx) : Ctx :=
  let v := c.accCx a
  let x := accPart sat (v.1 + d.1)
  let y := accPart sat (v.2 + d.2)
  let c := c.setAcc a x.1 y.1
  { c with fGuard := c.fGuard || x.2.1 || y.2.1, fOvf := c.fOvf || x.2.2 || y.2.2 }

/-- Sticky OVF is set when `b` holds. -/
def Ctx.ovf (c : Ctx) (b : Bool) : Ctx := { c with fOvf := c.fOvf || b }

/-- The complex value with each part rounded by `k` bits and saturated to `n` bits, and whether one was clipped. -/
def cxRound (n k : Nat) (v : Cx) : Cx × Bool :=
  let x := satInt n (roundShift v.1 k)
  let y := satInt n (roundShift v.2 k)
  ((x.1, y.1), x.2 || y.2)

/-- Compare flags of A against B, both signed (07 R228). -/
def Ctx.cmp (c : Ctx) (a b : Word) : Ctx := { c with fZ := a == b, fN := a.slt b }

/-! Registers of a context. -/

def Ctx.xr (c : Ctx) (i : Nat) : Word := look (fun _ => 0#32) c.x i
def Ctx.setX (c : Ctx) (i : Nat) (v : Word) : Ctx := { c with x := put (fun _ => 0#32) c.x i v }
def Ctx.ar (c : Ctx) (i : Nat) : Nat := (look (fun _ => 0#14) c.a i).toNat
def Ctx.br (c : Ctx) (i : Nat) : Nat := (look (fun _ => 0#14) c.base i).toNat
def Ctx.lr (c : Ctx) (i : Nat) : Nat := (look (fun _ => 0#14) c.len i).toNat
def Ctx.setA (c : Ctx) (i v : Nat) : Ctx := { c with a := put (fun _ => 0#14) c.a i (BitVec.ofNat 14 v) }
def Ctx.setBase (c : Ctx) (i v : Nat) : Ctx := { c with base := put (fun _ => 0#14) c.base i (BitVec.ofNat 14 v) }
def Ctx.setLen (c : Ctx) (i v : Nat) : Ctx := { c with len := put (fun _ => 0#14) c.len i (BitVec.ofNat 14 v) }

/-- Address register `i` after a post-increment (07 R226). -/
def Ctx.postInc (c : Ctx) (i : Nat) : Ctx :=
  if c.lr i ≠ 0 ∧ c.ar i + 1 = c.br i + c.lr i then c.setA i (c.br i) else c.setA i (c.ar i + 1)

/-- SETA of field `which` of address register `i` to `v`; none where it breaks 07 R226. -/
def Ctx.seta (c : Ctx) (i which v : Nat) : Option Ctx :=
  let reset := fun c : Ctx => { c.setA i (c.br i) with fCbrst := true }
  match which with
  | 0 =>
    if c.lr i ≠ 0 ∧ (v < c.br i ∨ c.br i + c.lr i ≤ v) then some (reset c) else some (c.setA i v)
  | 1 => if c.lr i ≠ 0 ∧ 0x4000 < v + c.lr i then none else some ((c.setBase i v).setA i v)
  | _ =>
    if v ≠ 0 ∧ 0x4000 < c.br i + v then none
    else
      let off := (c.ar i + 0x4000 - c.br i) % 0x4000
      let c := c.setLen i v
      if v ≠ 0 ∧ v ≤ off then some (reset c) else some c

/-- FLAGS as RDS reads them (07 R231). -/
def Ctx.flags (c : Ctx) : Nat :=
  bn c.fOvf + 2 * bn c.fGuard + 4 * bn c.fCbrst + 8 * bn c.fSettle + 16 * bn c.fN + 32 * bn c.fZ

/-! Discrimination (07 R234, R235). -/

/-- The result latch from accumulator `a` with shift `sh`: state indeterminate. -/
def Ctx.latch (c : Ctx) (a sh : Nat) : Ctx :=
  let r := cxRound 32 (8 + sh) (c.accCx a)
  let c := c.ovf r.2
  { c with rl := {
      state := 3#2, i := BitVec.ofInt 32 r.1.1, q := BitVec.ofInt 32 r.1.2, ovf := c.fOvf, settle := c.fSettle } }

/-- Whether `x` lies below, inside or above the band t - h to t + h: 0, 1, 2. -/
def band (x t h : Int) : Nat := if x < t - h then 0 else if x < t + h then 1 else 2

/-- The state of the rotated result (x, y) with thresholds and half-width, all in units of 2^-37 (07 R235). -/
def discState (mode : Nat) (x y t01 t12 h : Int) : Nat :=
  let two := match band x t01 h with | 0 => 0 | 1 => 3 | _ => 1
  match mode with
  | 0 => two
  | 1 =>
    if band x t01 h = 0 then 0
    else if band x t01 h = 2 ∧ x < t12 - h then 1
    else if t12 + h ≤ x then 2
    else 3
  | 2 => match band y t12 h with | 2 => 2 | 1 => 3 | _ => two
  | _ => 3

/-- DISC with entry `k` (07 R235): the entry's words as they stood when the window began. -/
def Ctx.doDisc (c : Ctx) (core a k sh : Nat) : Ctx :=
  let c := c.latch a sh
  let e := fun j => look (fun _ => 0#32) c.disc (4 * k + j)
  let r := cxMul (c.rl.i.toInt, c.rl.q.toInt) (cxOf (e 0))
  let cfg := (e 3).toNat
  let st := discState (bits cfg 1 0) r.1 r.2 ((e 1).toInt * 32768) ((e 2).toInt * 32768) ((bits cfg 31 16 : Nat) * 8388608)
  let force := (bitOf cfg 2 && c.rl.ovf) || (bitOf cfg 3 && c.rl.settle)
  { c with rl := { c.rl with state := BitVec.ofNat 2 (if force then 3 else st), disc := some (4 * core + k, r.1, r.2) } }

end Sys2Proof.Machine
end

