-- ==== Sys2Proof/Machine/MicaCore.lean ====
section
/-!
DEFINITION. The Mica instructions (07 R226-R240) and the commands that act on a Mica core as a whole (07 R233, R243,
R244).
-/
namespace Sys2Proof.Machine

/-! Execution (07 R215, R228, R230, R237, R239). -/

def mIllegal : Nat := 1
def mPcRange : Nat := 2

/-- Field [hi:lo] of the low 26 bits of an instruction. -/
def mf (b : BitVec 26) (hi lo : Nat) : Nat := bits b.toNat hi lo
def mflag (b : BitVec 26) (i : Nat) : Bool := bitOf b.toNat i

/-- Context `x` of core `k` executes: its partition runs, the core is not stopped, and it serves a window. -/
def State.micaLive (s : State) (k x : Nat) : Option (Nat × Window) :=
  match s.micaOwner k, (s.ctx k x).win.bind s.win with
  | some p, some w =>
    if k < s.nMica && !(s.mica k).stopped && (s.part p).mode != .hold then some (p, w) else none
  | _, _ => none

/-- Opcode of instruction `i` of core `k`'s program. -/
def State.opAt (s : State) (k i : Nat) : Nat := bits (look (fun _ => 0#32) (s.mica k).prog i).toNat 31 26

/-- The instruction at the PC of context `x` of core `k` has a reserved opcode (07 R228). -/
def State.micaReserved (s : State) (k x : Nat) : Bool := (micaOp (s.opAt k (s.ctx k x).pc)).isNone

/-- An instruction whose fields outside the list must be 0; one beyond the program is PC_RANGE, a reserved opcode ILLEGAL
(07 R228). -/
def State.mica1 (s : State) (k x : Nat) (b : BitVec 26) (flds : List (Nat × Nat)) (ok : Bool)
    (f : State → Nat → Window → State) : State :=
  match s.micaLive k x with
  | some (p, w) =>
    if 4096 ≤ (s.ctx k x).pc then s.micaFault k x mPcRange
    else if !s.micaReserved k x && ok && onlyBits b.toNat flds then f s p w
    else s.micaFault k x mIllegal
  | none => s

/-- The next instruction, or the next repetition (07 R230). -/
def Ctx.next (c : Ctx) : Ctx :=
  match c.rep with
  | some n => if n ≤ 1 then { c with rep := none, pc := c.pc + 1 } else { c with rep := some (n - 1) }
  | none => { c with pc := c.pc + 1 }

def State.mnext (s : State) (k x : Nat) (f : Ctx → Ctx := id) : State := s.updCtx k x fun c => (f c).next

/-- A window error (07 R237). -/
def State.micaError (s : State) (k : Nat) (p : Nat) (w : Window) : State :=
  (s.inc (MICA_ERRCNT k)).cause p 9 (0x10 + k) (resource 5 k) 0 (s.winTag w false)

/-- The next sample of the window, with the state after it: none while the pop waits (07 R219, R228). -/
def State.pop (s : State) (k x : Nat) (w : Window) : Option (State × Word) :=
  match (s.ctx k x).fifo with
    | a :: l =>
      if a.win = w.id then
        let f := fun c : Ctx => { c with
          fifo := l, pops := c.pops + 1, fOvf := c.fOvf || a.ovf, fSettle := c.fSettle || a.settle, lastTime := a.time
          lastSettle := a.settle, lastOvf := a.ovf }
        some (s.updCtx k x f, a.iq)
      else if w.count ≤ w.seen then some (s.updCtx k x fun c => { c with pops := c.pops + 1 }, 0#32)
      else none
    | [] => if w.count ≤ w.seen then some (s.updCtx k x fun c => { c with pops := c.pops + 1 }, 0#32) else none

/-- An instruction that pops a sample. Beyond WN the pop is a window error: it returns 0 in SHOT mode, and in STREAM mode the
instruction has no effect (07 R237). -/
def State.popping (s : State) (k x p : Nat) (w : Window) (f : Ctx → Word → Ctx) : State :=
  if (s.ctx k x).wn ≤ (s.ctx k x).pops then
    if (s.part p).mode = .stream then (s.micaError k p w).mnext k x else (s.micaError k p w).mnext k x fun c => f c 0#32
  else match s.pop k x w with
    | some (t, v) => t.mnext k x fun c => f c v
    | none => s

/-- A word of data memory (07 R225): none where nothing is mapped. -/
def State.dmem (s : State) (k x a : Nat) : Option Word :=
  if a < 0x2000 then some (look (fun _ => 0#32) (s.mica k).const a)
  else if a < 0x2400 then some (look (fun _ => 0#32) (s.ctx k x).scratch (a - 0x2000))
  else none

/-- A branch of context `x` to `pc + off`. -/
def State.mbranch (s : State) (k x : Nat) (off : Nat) : State :=
  let t : Int := ((s.ctx k x).pc : Int) + toSigned 16 off
  if t < 0 ∨ 4096 ≤ t then s.micaFault k x mPcRange else s.updCtx k x fun c => { c with pc := t.toNat }

/-- Opcodes that a REP may not repeat (07 R230). -/
def noRep : List Nat := [0x01, 0x02, 0x03, 0x04, 0x05, 0x28, 0x29, 0x2A, 0x2B, 0x2C, 0x2D]

/-! The end of a window (07 R232). -/

/-- A result unit of window `w` reaches the fabric at tick `t`. -/
def State.sendUnit (s : State) (w : Window) (t : Nat) (r : Result) : State :=
  s.updFab fun b => { b with units := b.units ++ [(w.id, t, r)] }

/-- Context `x` of core `k` has ended its window: the next queued start begins (07 R216). -/
def State.endWindow (s : State) (k x : Nat) (w : Window) : State :=
  let c := s.ctx k x
  let s :=
    if c.pops < c.wn && (c.fifo.any (·.win == w.id) || decide (w.seen < w.count)) then s.incFld (MICA_FIFODROP k) 31 24
    else s
  let s := if c.fCbrst then s.inc (MICA_CBRSTCNT k) else s
  let s := s.updWin w.id fun w => { w with served := true }
  let s := s.updCtx k x fun c => { c with win := none, rep := none, fifo := c.fifo.filter fun a => a.win != w.id }
  match c.queue with
  | [] => s
  | i :: l =>
    let s := s.updCtx k x fun c => { c with queue := l }
    match s.win i with
    | some v => s.beginWindow k x v
    | none => s

/-! Control (07 R228, R230, R232). -/

/-- NOP. -/
def execMicaNop (k : Fin 64) (x : Fin 8) (bits : BitVec 26) (s : State) : Host.Outcome State Fault Refusal :=
  answer s (s.mica1 k.val x.val bits [] true fun s _ _ => s.mnext k.val x.val)

/-- END. -/
def execMicaEnd (k : Fin 64) (x : Fin 8) (bits : BitVec 26) (s : State) : Host.Outcome State Fault Refusal :=
  answer s (s.mica1 k.val x.val bits [] true fun s p w =>
    let s := if (s.ctx k.val x.val).emitted then s
      else
        let s := s.sendUnit w (s.now + 2) (indeterminate (s.winTag w false))
        if (s.part p).mode = .shot then s.micaError k.val p w else s
    s.endWindow k.val x.val w)

/-- REP. -/
def execMicaRep (k : Fin 64) (x : Fin 8) (bits : BitVec 26) (s : State) : Host.Outcome State Fault Refusal :=
  answer s (s.mica1 k.val x.val bits [(25, 25), (24, 21), (11, 0)] true fun s p w =>
    let c := s.ctx k.val x.val
    let n := if mflag bits 25 then (c.xr (mf bits 24 21)).toNat % 8192 else mf bits 11 0 + 1
    let skip := fun (s : State) => s.updCtx k.val x.val fun c => { c with pc := c.pc + 2 }
    if noRep.contains (s.opAt k.val (c.pc + 1)) then s.micaFault k.val x.val mIllegal
    else if n = 0 then skip s
    else if 4096 < n then skip (s.micaError k.val p w)
    else s.updCtx k.val x.val fun c => { c with pc := c.pc + 1, rep := some n })

/-- BR. -/
def execMicaBr (k : Fin 64) (x : Fin 8) (bits : BitVec 26) (s : State) : Host.Outcome State Fault Refusal :=
  answer s (s.mica1 k.val x.val bits [(15, 0)] true fun s _ _ => s.mbranch k.val x.val (mf bits 15 0))

/-- BRC. -/
def execMicaBrc (k : Fin 64) (x : Fin 8) (bits : BitVec 26) (s : State) : Host.Outcome State Fault Refusal :=
  answer s (s.mica1 k.val x.val bits [(25, 23), (15, 0)] (mf bits 25 23 < 6) fun s _ _ =>
    let c := s.ctx k.val x.val
    let t := match mf bits 25 23 with
      | 0 => c.fZ | 1 => !c.fZ | 2 => c.fN | 3 => !c.fN | 4 => c.fSettle | _ => c.fOvf
    if t then s.mbranch k.val x.val (mf bits 15 0) else s.mnext k.val x.val)

/-- DJNZ. -/
def execMicaDjnz (k : Fin 64) (x : Fin 8) (bits : BitVec 26) (s : State) : Host.Outcome State Fault Refusal :=
  answer s (s.mica1 k.val x.val bits [(24, 21), (15, 0)] true fun s _ _ =>
    let i := mf bits 24 21
    let v := (s.ctx k.val x.val).xr i - 1#32
    let s := s.updCtx k.val x.val fun c => c.setX i v
    if v ≠ 0#32 then s.mbranch k.val x.val (mf bits 15 0) else s.mnext k.val x.val)

/-! Accumulation (07 R222, R223, R228). -/

/-- MACW: an unmapped weight is a window error. -/
def execMicaMacw (k : Fin 64) (x : Fin 8) (bits : BitVec 26) (s : State) : Host.Outcome State Fault Refusal :=
  answer s (s.mica1 k.val x.val bits [(25, 25), (24, 23), (22, 20), (19, 19)] true fun s p w =>
    let a := mf bits 22 20
    match s.dmem k.val x.val ((s.ctx k.val x.val).ar a) with
    | none => (s.micaError k.val p w).mnext k.val x.val
    | some v =>
      let wt := if mflag bits 19 then cxConj (cxOf v) else cxOf v
      s.popping k.val x.val p w fun c y => (c.accAdd (mf bits 24 23) (mflag bits 25) (cxMul wt (cxOf y))).postInc a)

/-- MACX. -/
def execMicaMacx (k : Fin 64) (x : Fin 8) (bits : BitVec 26) (s : State) : Host.Outcome State Fault Refusal :=
  answer s (s.mica1 k.val x.val bits [(25, 25), (24, 23), (22, 19)] true fun s p w =>
    s.popping k.val x.val p w fun c y =>
      c.accAdd (mf bits 24 23) (mflag bits 25) (cxMul (cxOf (c.xr (mf bits 22 19))) (cxOf y)))

/-- ACCS: the sample taken as Q1.15 × 1. -/
def execMicaAccs (k : Fin 64) (x : Fin 8) (bits : BitVec 26) (s : State) : Host.Outcome State Fault Refusal :=
  answer s (s.mica1 k.val x.val bits [(25, 25), (24, 23)] true fun s p w =>
    s.popping k.val x.val p w fun c y =>
      c.accAdd (mf bits 24 23) (mflag bits 25) ((cxOf y).1 * 32768, (cxOf y).2 * 32768))

/-- MACM. -/
def execMicaMacm (k : Fin 64) (x : Fin 8) (bits : BitVec 26) (s : State) : Host.Outcome State Fault Refusal :=
  answer s (s.mica1 k.val x.val bits [(25, 25), (24, 23), (22, 20), (19, 16)] true fun s p w =>
    let a := mf bits 22 20
    match s.dmem k.val x.val ((s.ctx k.val x.val).ar a) with
    | none => (s.micaError k.val p w).mnext k.val x.val
    | some v => s.mnext k.val x.val fun c =>
        (c.accAdd (mf bits 24 23) (mflag bits 25) (cxMul (cxOf v) (cxOf (c.xr (mf bits 19 16))))).postInc a)

/-- MACR. -/
def execMicaMacr (k : Fin 64) (x : Fin 8) (bits : BitVec 26) (s : State) : Host.Outcome State Fault Refusal :=
  answer s (s.mica1 k.val x.val bits [(25, 25), (24, 23), (22, 19), (18, 15)] true fun s _ _ =>
    s.mnext k.val x.val fun c =>
      c.accAdd (mf bits 24 23) (mflag bits 25) (cxMul (cxOf (c.xr (mf bits 22 19))) (cxOf (c.xr (mf bits 18 15)))))

/-- CLRA. -/
def execMicaClra (k : Fin 64) (x : Fin 8) (bits : BitVec 26) (s : State) : Host.Outcome State Fault Refusal :=
  answer s (s.mica1 k.val x.val bits [(24, 23)] true fun s _ _ =>
    s.mnext k.val x.val fun c => c.setAcc (mf bits 24 23) 0#48 0#48)

/-- ADDA. -/
def execMicaAdda (k : Fin 64) (x : Fin 8) (bits : BitVec 26) (s : State) : Host.Outcome State Fault Refusal :=
  answer s (s.mica1 k.val x.val bits [(25, 25), (24, 23), (22, 21), (20, 20)] true fun s _ _ =>
    s.mnext k.val x.val fun c =>
      let v := c.accCx (mf bits 22 21)
      c.accAdd (mf bits 24 23) (mflag bits 25) (if mflag bits 20 then (-v.1, -v.2) else v))

/-! Data (07 R225-R228). -/

/-- IN. -/
def execMicaIn (k : Fin 64) (x : Fin 8) (bits : BitVec 26) (s : State) : Host.Outcome State Fault Refusal :=
  answer s (s.mica1 k.val x.val bits [(24, 21)] true fun s p w =>
    s.popping k.val x.val p w fun c y => c.setX (mf bits 24 21) y)

/-- LD. -/
def execMicaLd (k : Fin 64) (x : Fin 8) (bits : BitVec 26) (s : State) : Host.Outcome State Fault Refusal :=
  answer s (s.mica1 k.val x.val bits [(24, 21), (20, 18), (17, 17)] true fun s p w =>
    let a := mf bits 20 18
    match s.dmem k.val x.val ((s.ctx k.val x.val).ar a) with
    | none => (s.micaError k.val p w).mnext k.val x.val
    | some v => s.mnext k.val x.val fun c =>
        let c := c.setX (mf bits 24 21) v
        if mflag bits 17 then c.postInc a else c)

/-- ST: only the scratch area takes a store. -/
def execMicaSt (k : Fin 64) (x : Fin 8) (bits : BitVec 26) (s : State) : Host.Outcome State Fault Refusal :=
  answer s (s.mica1 k.val x.val bits [(24, 21), (20, 18), (17, 17)] true fun s p w =>
    let a := mf bits 20 18
    let m := (s.ctx k.val x.val).ar a
    if m < 0x2000 ∨ 0x2400 ≤ m then (s.micaError k.val p w).mnext k.val x.val
    else s.mnext k.val x.val fun c =>
      let c := { c with scratch := put (fun _ => 0#32) c.scratch (m - 0x2000) (c.xr (mf bits 24 21)) }
      if mflag bits 17 then c.postInc a else c)

/-- LDI. -/
def execMicaLdi (k : Fin 64) (x : Fin 8) (bits : BitVec 26) (s : State) : Host.Outcome State Fault Refusal :=
  answer s (s.mica1 k.val x.val bits [(24, 21), (20, 20), (15, 0)] true fun s _ _ =>
    let i := mf bits 24 21
    let n := mf bits 15 0
    s.mnext k.val x.val fun c =>
      c.setX i (BitVec.ofNat 32 (if mflag bits 20 then 65536 * n + (c.xr i).toNat % 65536 else wrapInt 32 (toSigned 16 n))))

/-- SETA. -/
def execMicaSeta (k : Fin 64) (x : Fin 8) (bits : BitVec 26) (s : State) : Host.Outcome State Fault Refusal :=
  answer s (
    let r := mflag bits 19
    s.mica1 k.val x.val bits [(24, 22), (21, 20), (19, 19), (18, 15), (13, 0)]
      (mf bits 21 20 != 3 && (!r || mf bits 13 0 == 0)) fun s p w =>
        let c := s.ctx k.val x.val
        let v := if r then (c.xr (mf bits 18 15)).toNat % 0x4000 else mf bits 13 0
        match c.seta (mf bits 24 22) (mf bits 21 20) v with
        | some d => s.mnext k.val x.val fun _ => d
        | none => (s.micaError k.val p w).mnext k.val x.val)

/-- The second operand of an ALU instruction: B, or the sign-extended IMM with I set. -/
def Ctx.opB (c : Ctx) (b : BitVec 26) : Word :=
  if mflag b 12 then BitVec.ofNat 32 (wrapInt 32 (toSigned 12 (mf b 11 0))) else c.xr (mf b 16 13)

/-- Fields of the ALU instructions. -/
def aluFields : List (Nat × Nat) := [(24, 21), (20, 17), (16, 13), (12, 12), (11, 0)]

/-- D ← A op second operand. -/
def State.malu (s : State) (k x : Nat) (b : BitVec 26) (op : Word → Word → Word) : State :=
  s.mica1 k x b aluFields true fun s _ _ => s.mnext k x fun c => c.setX (mf b 24 21) (op (c.xr (mf b 20 17)) (c.opB b))

/-- ADD. -/
def execMicaAdd (k : Fin 64) (x : Fin 8) (bits : BitVec 26) (s : State) : Host.Outcome State Fault Refusal :=
  answer s (s.malu k.val x.val bits fun a b => a + b)

/-- SUB. -/
def execMicaSub (k : Fin 64) (x : Fin 8) (bits : BitVec 26) (s : State) : Host.Outcome State Fault Refusal :=
  answer s (s.malu k.val x.val bits fun a b => a - b)

/-- AND. -/
def execMicaAnd (k : Fin 64) (x : Fin 8) (bits : BitVec 26) (s : State) : Host.Outcome State Fault Refusal :=
  answer s (s.malu k.val x.val bits fun a b => a &&& b)

/-- OR. -/
def execMicaOr (k : Fin 64) (x : Fin 8) (bits : BitVec 26) (s : State) : Host.Outcome State Fault Refusal :=
  answer s (s.malu k.val x.val bits fun a b => a ||| b)

/-- XOR. -/
def execMicaXor (k : Fin 64) (x : Fin 8) (bits : BitVec 26) (s : State) : Host.Outcome State Fault Refusal :=
  answer s (s.malu k.val x.val bits fun a b => a ^^^ b)

/-- SHL. -/
def execMicaShl (k : Fin 64) (x : Fin 8) (bits : BitVec 26) (s : State) : Host.Outcome State Fault Refusal :=
  answer s (s.malu k.val x.val bits fun a b => a <<< (b.toNat % 32))

/-- SHR. -/
def execMicaShr (k : Fin 64) (x : Fin 8) (bits : BitVec 26) (s : State) : Host.Outcome State Fault Refusal :=
  answer s (s.malu k.val x.val bits fun a b => a >>> (b.toNat % 32))

/-- SRA. -/
def execMicaSra (k : Fin 64) (x : Fin 8) (bits : BitVec 26) (s : State) : Host.Outcome State Fault Refusal :=
  answer s (s.malu k.val x.val bits fun a b => a.sshiftRight (b.toNat % 32))

/-- CMUL: complex Q1.15, rounded and saturated. -/
def execMicaCmul (k : Fin 64) (x : Fin 8) (bits : BitVec 26) (s : State) : Host.Outcome State Fault Refusal :=
  answer s (s.mica1 k.val x.val bits [(24, 21), (20, 17), (16, 13)] true fun s _ _ => s.mnext k.val x.val fun c =>
    let r := cxRound 16 15 (cxMul (cxOf (c.xr (mf bits 20 17))) (cxOf (c.xr (mf bits 16 13))))
    (c.setX (mf bits 24 21) (cxWord r.1)).ovf r.2)

/-- ABS2: I² + Q² as Q2.30, saturated. -/
def execMicaAbs2 (k : Fin 64) (x : Fin 8) (bits : BitVec 26) (s : State) : Host.Outcome State Fault Refusal :=
  answer s (s.mica1 k.val x.val bits [(24, 21), (20, 17)] true fun s _ _ =>
    s.mnext k.val x.val fun c =>
      let v := cxOf (c.xr (mf bits 20 17))
      let r := satInt 32 (v.1 * v.1 + v.2 * v.2)
      (c.setX (mf bits 24 21) (BitVec.ofInt 32 r.1)).ovf r.2)

/-- MOV. -/
def execMicaMov (k : Fin 64) (x : Fin 8) (bits : BitVec 26) (s : State) : Host.Outcome State Fault Refusal :=
  answer s (s.mica1 k.val x.val bits [(24, 21), (20, 17)] true fun s _ _ =>
    s.mnext k.val x.val fun c => c.setX (mf bits 24 21) (c.xr (mf bits 20 17)))

/-- CMP. -/
def execMicaCmp (k : Fin 64) (x : Fin 8) (bits : BitVec 26) (s : State) : Host.Outcome State Fault Refusal :=
  answer s (s.mica1 k.val x.val bits aluFields (mf bits 24 21 == 0) fun s _ _ =>
    s.mnext k.val x.val fun c => c.cmp (c.xr (mf bits 20 17)) (c.opB bits))

/-! Results and streams (07 R231, R234-R238). -/

/-- LATCH. -/
def execMicaLatch (k : Fin 64) (x : Fin 8) (bits : BitVec 26) (s : State) : Host.Outcome State Fault Refusal :=
  answer s (s.mica1 k.val x.val bits [(24, 23), (20, 16)] true fun s _ _ =>
    s.mnext k.val x.val fun c => c.latch (mf bits 24 23) (mf bits 20 16))

/-- DISC. -/
def execMicaDisc (k : Fin 64) (x : Fin 8) (bits : BitVec 26) (s : State) : Host.Outcome State Fault Refusal :=
  answer s (s.mica1 k.val x.val bits [(24, 23), (22, 21), (20, 16)] true fun s _ _ =>
    s.mnext k.val x.val fun c => c.doDisc k.val (mf bits 24 23) (mf bits 22 21) (mf bits 20 16))

/-- SETST. -/
def execMicaSetst (k : Fin 64) (x : Fin 8) (bits : BitVec 26) (s : State) : Host.Outcome State Fault Refusal :=
  answer s (s.mica1 k.val x.val bits [(24, 21)] true fun s _ _ =>
    s.mnext k.val x.val fun c => { c with rl := { c.rl with state := BitVec.ofNat 2 (c.xr (mf bits 24 21)).toNat } })

/-- What EMIT leaves beside the unit: the counters, and a sample for the tracking loops (08 R260). -/
def State.emitNote (s : State) (k p : Nat) (rl : Latch) : State :=
  let s := s.inc (MICA_EMITCNT k)
  let s := if rl.ovf then s.inc (MICA_OVFCNT k) else s
  match rl.disc with
  | some (e, x, y) =>
    if rl.ovf || rl.settle || rl.state == 3#2 || !(s.part p).attempt.active then s
    else s.updAtt p fun a => { a with discs := a.discs ++ [(e, x, y, rl.state.toNat)] }
  | none => s

/-- EMIT: the unit reaches the fabric two ticks later (07 R229). -/
def execMicaEmit (k : Fin 64) (x : Fin 8) (bits : BitVec 26) (s : State) : Host.Outcome State Fault Refusal :=
  answer s (s.mica1 k.val x.val bits [] true fun s p w =>
    let c := s.ctx k.val x.val
    if c.emitted then (s.micaError k.val p w).mnext k.val x.val
    else
      let tag := tagOr (tagOr (s.winTag w false) 5 c.rl.ovf) 6 c.rl.settle
      let r : Result := { state := c.rl.state, i := c.rl.i, q := c.rl.q, tag := tag }
      ((s.sendUnit w (s.now + 2) r).emitNote k.val p c.rl).mnext k.val x.val fun c => { c with emitted := true })

/-- The tag of the last popped sample (07 R238, 06 R193). -/
def Ctx.lastTag (c : Ctx) (w : Window) : BitVec 64 :=
  mkTag c.lastTime 0 w.part w.shot w.dframe 0 false c.lastSettle c.lastOvf false w.attempt

/-- Stream output of core `k` without a ring (10 R308). -/
def State.noRing (s : State) (k p : Nat) (w : Window) : State := s.streamErr p 9 (resource 5 k) 1 (s.winTag w false)

/-- OUTS. -/
def execMicaOuts (k : Fin 64) (x : Fin 8) (bits : BitVec 26) (s : State) : Host.Outcome State Fault Refusal :=
  answer s (s.mica1 k.val x.val bits [(24, 21)] true fun s p w =>
    let c := s.ctx k.val x.val
    if (s.part p).mode = .shot then (s.micaError k.val p w).mnext k.val x.val
    else match s.micaRing k.val with
      | none => (s.noRing k.val p w).mnext k.val x.val
      | some r =>
        (s.samplesAdd r k.val x.val c.lastTime (c.lastTag w) (c.xr (mf bits 24 21)) c.lastSettle c.lastOvf).mnext k.val x.val)

/-- EMITR: an event record, which may trigger raw requests (10 R314, R322). What a register beyond X15 reads as is open
(log 40). -/
def execMicaEmitr (k : Fin 64) (x : Fin 8) (bits : BitVec 26) (s : State) : Host.Outcome State Fault Refusal :=
  answer s (
    let i := mf bits 24 21
    let n := mf bits 20 19
    let code := mf bits 15 0
    s.mica1 k.val x.val bits [(24, 21), (20, 19), (15, 0)] true fun s p w =>
      let c := s.ctx k.val x.val
      if (s.part p).mode = .shot then (s.micaError k.val p w).mnext k.val x.val
      else
        let f := s.fab.freeN
        let vals := (List.range 4).map fun j =>
          if n < j then 0#32 else if i + j < 16 then c.xr (i + j) else Config.beyondX (f + j)
        let s := if i + n < 16 then s else s.updFab fun b => { b with freeN := f + 4 }
        let s := match s.micaRing k.val with
          | none => s.noRing k.val p w
          | some r => s.micaPut r k.val c.lastTime {
              type := 0x11, src := k.val, units := 2, fns := s.fnsAt c.lastTime, tag := c.lastTag w
              body := BitVec.ofNat 32 (code + 65536 * n) :: vals ++ List.replicate 7 0#32 } 0
        (s.triggerAll (fun q => q.tsrc == 3 && q.tidx == k.val && q.tcode == code) c.lastTime).mnext k.val x.val)

/-- RDA. -/
def execMicaRda (k : Fin 64) (x : Fin 8) (bits : BitVec 26) (s : State) : Host.Outcome State Fault Refusal :=
  answer s (s.mica1 k.val x.val bits [(24, 21), (20, 19), (18, 14)] true fun s _ _ =>
    s.mnext k.val x.val fun c =>
      let r := cxRound 16 (15 + mf bits 18 14) (c.accCx (mf bits 20 19))
      (c.setX (mf bits 24 21) (cxWord r.1)).ovf r.2)

/-- Special value `i` of a context (07 R231). -/
def Ctx.special (c : Ctx) (mode : PMode) : Nat → Option Nat
  | 0 => some c.wn
  | 1 => some c.pops
  | 2 => some c.flags
  | 3 => some (if mode = .stream then 1 else 0)
  | 4 => some (bn c.chained)
  | 5 => some (c.lastTime % 2 ^ 24)
  | _ => none

/-- RDS. -/
def execMicaRds (k : Fin 64) (x : Fin 8) (bits : BitVec 26) (s : State) : Host.Outcome State Fault Refusal :=
  answer s (s.mica1 k.val x.val bits [(24, 21), (20, 16)] true fun s p _ =>
    match (s.ctx k.val x.val).special (s.part p).mode (mf bits 20 16) with
    | some v => s.mnext k.val x.val fun c => c.setX (mf bits 24 21) (BitVec.ofNat 32 v)
    | none => s.micaFault k.val x.val mIllegal)

/-! The core as a whole. -/

/-- Counters of core `k` (07 R244). -/
def State.micaCounters (s : State) (k : Nat) : State :=
  (s.clearCounts [MICA_EMITCNT k, MICA_OVFCNT k, MICA_ERRCNT k, MICA_FIFODROP k, MICA_CBRSTCNT k,
      MICA_DMWREF k]).zeroRegs [MICA_FIFOMAX k]

/-- Core `k` halted with every context, FIFO and start queue cleared (07 R243). -/
def State.micaClear (s : State) (k : Nat) : State :=
  (s.updMica k fun m => { m with ctx := [], stopped := false, faulted := false }).micaCounters k

/-- MICA_CORE_RESET (07 R243). -/
def State.micaCoreReset (s : State) (k : Fin 64) : State :=
  if s.nMica ≤ k.val then s
    else
      let run : Bool := match s.micaOwner k.val with | some p => (s.part p).mode != .hold | none => false
      if run then
        let t := (s.micaFault k.val 0 3).micaClear k.val
        t.updMica k.val fun m => { m with faulted := true }
      else (s.micaClear k.val).setN (MICA_FAULT k.val) 0

/-- The command of that write. -/
def execMicaCoreReset (k : Fin 64) (s : State) : Host.Outcome State Fault Refusal :=
  answer s (s.pf0 (s.micaCoreReset k))

/-- MICA_CONSTANT_WRITE (07 R233). -/
def State.micaConstantWrite (s : State) (k : Fin 64) (w : Fin 8192) (data : Word) : State :=
  if s.nMica ≤ k.val then s
    else
      let held : Bool := match s.micaOwner k.val with | some p => (s.part p).mode == .hold | none => false
      if held then s.updMica k.val fun m => { m with const := put (fun _ => 0#32) m.const w.val data }
      else s.inc (MICA_DMWREF k.val)

/-- The command of that write. -/
def execMicaConstantWrite (k : Fin 64) (w : Fin 8192) (data : Word) (s : State) : Host.Outcome State Fault Refusal :=
  answer s (s.pf0 (s.micaConstantWrite k w data))

/-- MICA_CNTCLR (07 R244). -/
def State.micaCntclr (s : State) (k : Fin 64) : State :=
  if s.nMica ≤ k.val then s else s.micaCounters k.val

/-- The command of that write. -/
def execMicaCntclr (k : Fin 64) (s : State) : Host.Outcome State Fault Refusal :=
  answer s (s.pf0 (s.micaCntclr k))

end Sys2Proof.Machine
end

