-- ==== Sys2Proof/Machine/Garnet.lean ====
section
/-!
DEFINITION. Garnet: collecting syndrome rounds and the weighted union-find decoder (08 R272-R281).
-/
namespace Sys2Proof.Machine

/-! Rounds (08 R273, R274). -/

/-- What a committed state maps to: 0, 1, or 2 for an erasure (08 R275). -/
def Graph.mapped (g : Graph) (st : Nat) : Nat := bits g.statemap.toNat (2 * st + 1) (2 * st)

def State.updRun (s : State) (p : Nat) (f : GRun → GRun) : State := s.updGraph p fun g => { g with run := f g.run }

/-- Round `r` joins partition `p`'s backlog; the 4,097th is late (08 R280). -/
def State.joinBacklog (s : State) (p : Nat) (r : GRound) : State :=
  if 4096 ≤ (s.graph p).run.backlog.length then (s.inc (GARNET_LATE p)).cause p 6 0xF2 (resource 0x0F p) 0 0#64
  else s.updRun p fun u => { u with backlog := u.backlog ++ [r] }

/-- The reference after a commit of state `st` where it was `m` (08 R273). -/
def Graph.nextRef (g : Graph) (m : Bool) (st : Nat) : Bool :=
  match g.mapped st with | 0 => false | 1 => true | _ => m

/-- A layer round is complete when every layer source slot has made its commit (08 R273). -/
def State.layerDone (s : State) (p : Nat) : State :=
  let g := s.graph p
  let u := g.run
  let ids := List.range g.layer.length
  if !ids.all fun d => u.got.any (·.1 == d) then s
  else
    let st := fun d => match u.got.find? (·.1 == d) with | some x => x.2 | none => 3
    let ref := fun d => look (fun _ => false) u.m d
    let now_ := fun d => g.nextRef (ref d) (st d)
    let a := (s.part p).attempt
    let r : GRound := {
      num := u.round, det := ids.map fun d => now_ d != ref d, erased := ids.map fun d => g.mapped (st d) == 2
      doneAt := s.now, shot := a.shotNo, attempt := a.num }
    let s := s.updRun p fun u => { u with
      round := u.round + 1, got := ids.foldl (fun l d => l.eraseP (·.1 == d)) u.got
      m := ids.foldl (fun t d => put (fun _ => false) t d (now_ d)) u.m }
    s.joinBacklog p r

/-- XOR of the mapped states `l`, erasures left out. -/
def xorMapped (g : Graph) (l : List Nat) : Bool := (l.filter fun st => g.mapped st == 1).length % 2 == 1

/-- The final round is complete when every final source slot has committed once; the sequence then ends (08 R274). -/
def State.finalDone (s : State) (p : Nat) : State :=
  let g := s.graph p
  let u := g.run
  let srcs := (g.final.map (·.src)).flatten
  if !srcs.all fun i => u.fgot.any (·.1 == i) then s
  else
    let st := fun i => match u.fgot.find? (·.1 == i) with | some x => x.2 | none => (s.slot i).value.state.toNat
    let val := fun (d : Det) => xorMapped g (d.src.map st) != look (fun _ => false) u.m d.prev
    let a := (s.part p).attempt
    let par := fun l : List Nat => if (l.map st).any (fun x => g.mapped x == 2) then 2 else bn (xorMapped g (l.map st))
    let r : GRound := {
      num := u.round, doneAt := s.now, final := true, fdet := g.final.map val
      ferased := g.final.map fun d => (d.src.map st).any fun x => g.mapped x == 2
      odata := g.obs.map fun o => par o.2, shot := a.shotNo, attempt := a.num }
    let s := if u.got.isEmpty then s
      else (s.inc (GARNET_ERR p)).cause p 9 0xF2 (resource 0x0F p) 0 0#64
    let s := s.updRun p fun u => { u with
      inseq := false, round := 0, m := [], got := [], fgot := srcs.foldl (fun l i => l.eraseP (·.1 == i)) u.fgot
      bound := u.bound - 1, fmeas := srcs.foldl List.erase u.fmeas }
    s.joinBacklog p r

/-- A commit of state `st` to slot `i`, as the graph of partition `p` takes it. -/
def State.garnetTake (s : State) (p i st : Nat) : State :=
  let g := s.graph p
  if !g.valid then s
  else match g.layer.findIdx? (·.src.contains i) with
    | some d => (s.updRun p fun u => { u with got := u.got ++ [(d, st)], inseq := true }).layerDone p
    | none =>
      if g.final.any (·.src.contains i) then
        (s.updRun p fun u => { u with fgot := u.fgot ++ [(i, st)] }).finalDone p
      else s

/-! The decoder (08 R277, R279). Vertex 0 is the boundary; detectors of the window's rounds follow, round by round, and
then the final detectors. -/

/-- An edge of the window: its number among the active edges (08 R272), its vertices, its weight and its entry. -/
structure GEdge where
  no : Nat := 0
  u : Nat := 0
  v : Nat := 0
  w : Nat := 1
  e : Edge := {}
  deriving DecidableEq, Repr

/-- The vertex of an A or B word in round `t` of `n` rounds of `nl` detectors; none where it precedes the window. -/
def vertexOf (n nl t x : Nat) : Option Nat :=
  let i := bits x 12 0
  if i = 0x1FFF then some 0
  else if bitOf x 14 then some (1 + n * nl + i)
  else if bitOf x 13 then (if t = 0 then none else some (1 + (t - 1) * nl + i))
  else if t < n then some (1 + t * nl + i)
  else if n = 0 then none
  else some (1 + (n - 1) * nl + i)

/-- The round that vertex `v` lies in: none for the boundary. -/
def roundOf (n nl v : Nat) : Option Nat :=
  if v = 0 then none else if nl = 0 then some n else some (min n ((v - 1) / nl))

/-- Edge `e` in round `t`; `er` lists the erased vertices, whose time-like edges weigh nothing (08 R273). -/
def Edge.inst (e : Edge) (n nl : Nat) (er : List Nat) (t : Nat) : Option GEdge :=
  match vertexOf n nl t e.a, vertexOf n nl t e.b with
  | some u, some v =>
    let timelike := match roundOf n nl u, roundOf n nl v with | some x, some y => x != y | _, _ => false
    some { no := 0, u := u, v := v, w := if timelike && (er.contains u || er.contains v) then 0 else e.w, e := e }
  | _, _ => none

/-- Positions of `true` in a list, from `k`. -/
def truesFrom : Nat → List Bool → List Nat
  | _, [] => []
  | k, b :: l => if b then k :: truesFrom (k + 1) l else truesFrom (k + 1) l

/-- Vertices of the window's erased detectors. -/
def erasedIn (nl : Nat) (win : List GRound) (fin : Option GRound) : List Nat :=
  ((List.range win.length).map fun t => truesFrom (1 + t * nl) (win.getD t {}).erased).flatten ++
    (match fin with | some r => truesFrom (1 + win.length * nl) r.ferased | none => [])

/-- The edges of `l` in round `t`, numbered from `k`. -/
def instFrom (n nl : Nat) (er : List Nat) (t : Nat) : Nat → List Edge → List GEdge
  | _, [] => []
  | k, e :: l => ((e.inst n nl er t).map fun x => { x with no := k }).toList ++ instFrom n nl er t (k + 1) l

/-- The edges of the window, in the order of their index: those of each round, then the final ones (08 R272). -/
def Graph.edgesIn (g : Graph) (win : List GRound) (fin : Option GRound) : List GEdge :=
  let n := win.length
  let nl := g.layer.length
  let er := erasedIn nl win fin
  ((List.range n).map fun t => instFrom n nl er t (t * g.ledges.length) g.ledges).flatten ++
    (if fin.isSome then instFrom n nl er n (g.win * g.ledges.length) g.fedges else [])

/-- Vertices with a defect. -/
def Graph.defects (g : Graph) (win : List GRound) (fin : Option GRound) : List Nat :=
  let nl := g.layer.length
  ((List.range win.length).map fun t => truesFrom (1 + t * nl) (win.getD t {}).det).flatten ++
    (match fin with | some r => truesFrom (1 + win.length * nl) r.fdet | none => [])

/-- The labels after the clusters of `a` and `b` merge; the boundary's cluster keeps label 0. -/
def mergeLab (l : List Nat) (a b : Nat) : List Nat := l.map fun x => if x = max a b then min a b else x

/-- The labels with every edge of `es` that holds merged. -/
def mergeAll (l : List Nat) : List (GEdge × Bool) → List Nat
  | [] => l
  | (e, ok) :: es => mergeAll (if ok then mergeLab l (l.getD e.u 0) (l.getD e.v 0) else l) es

/-- Labels of the clusters with an odd number of defects that have not reached the boundary. -/
def oddLabels (l defects : List Nat) : List Nat :=
  let ls := defects.map fun v => l.getD v 0
  (ls.eraseDups.filter fun c => c != 0 && (ls.filter (· == c)).length % 2 == 1)

/-- Growth of the edges until no cluster is odd. -/
def growAll (es : List GEdge) (defects : List Nat) (nv : Nat) : Nat → List Nat → List Nat
  | 0, gr => gr
  | k + 1, gr =>
    let done := (es.zip gr).map fun x => (x.1, decide (x.1.w ≤ x.2))
    let lab := mergeAll (List.range nv) done
    match oddLabels lab defects with
    | [] => gr
    | odd =>
      let step := fun x : GEdge × Nat =>
        let a := lab.getD x.1.u 0
        let b := lab.getD x.1.v 0
        if x.1.w ≤ x.2 then x.2 else x.2 + bn (odd.contains a) + (if a = b then 0 else bn (odd.contains b))
      growAll es defects nv k ((es.zip gr).map step)

/-- A spanning forest of the grown edges, lower indices first. -/
def forestOf (lab : List Nat) : List GEdge → List GEdge
  | [] => []
  | e :: es =>
    if lab.getD e.u 0 = lab.getD e.v 0 then forestOf lab es
    else e :: forestOf (mergeLab lab (lab.getD e.u 0) (lab.getD e.v 0)) es

/-- Whether the side of edge number `i` of the forest that does not hold the boundary has an odd number of defects. -/
def oddSide (fs : List GEdge) (defects : List Nat) (nv i : Nat) : Bool :=
  let e := fs.getD i {}
  let lab := mergeAll (List.range nv) ((fs.eraseIdx i).map fun x => (x, true))
  let side := if lab.getD e.u 0 = 0 then lab.getD e.v 0 else lab.getD e.u 0
  (defects.filter fun v => lab.getD v 0 == side).length % 2 == 1

/-- The vertices of the window: the boundary and its detectors. -/
def Graph.nverts (g : Graph) (win : List GRound) (fin : Option GRound) : Nat :=
  1 + win.length * g.layer.length + (if fin.isSome then g.final.length else 0)

/-- The edges grown to their weights for the defects `ds` (08 R279). -/
def Graph.grown (g : Graph) (win : List GRound) (fin : Option GRound) (ds : List Nat) : List GEdge :=
  let es := g.edgesIn win fin
  let gr := growAll es ds (g.nverts win fin) ((es.map (·.w)).sum + 1) (es.map fun _ => 0)
  ((es.zip gr).filter fun x => decide (x.1.w ≤ x.2)).map (·.1)

/-- The correction of a window for the defects `ds` (08 R279). -/
def Graph.decode (g : Graph) (win : List GRound) (fin : Option GRound) (ds : List Nat) : List GEdge :=
  let nv := g.nverts win fin
  let fs := forestOf (List.range nv) (g.grown win fin ds)
  (((List.range fs.length).filter (oddSide fs ds nv)).map fun i => fs.getD i {})

/-! Corrections (08 R281). -/

/-- Entries that occur an odd number of times. -/
def oddOnes (l : List Nat) : List Nat := l.eraseDups.filter fun x => (l.filter (· == x)).length % 2 == 1

/-- Edge `e` crosses the seam. -/
def Edge.seamed (e : Edge) : Bool := bitOf e.pauli.toNat 12
/-- Qubit entry of a correction edge. -/
def Edge.qubit (e : Edge) : Nat := bits e.pauli.toNat 9 0

/-- The correction edges `l` are finalised: X and Z records, observables, and the frame writes due 64 ticks on. -/
def State.finalise (s : State) (p : Nat) (l : List Edge) : State :=
  let g := s.graph p
  let xs := oddOnes ((l.filter fun e => bitOf e.pauli.toNat 10).map (·.qubit))
  let zs := oddOnes ((l.filter fun e => bitOf e.pauli.toNat 11).map (·.qubit))
  let flip := fun (t : Tab Bool) (q : Nat) => put (fun _ => false) t q (!look (fun _ => false) t q)
  let fr := oddOnes (zs.filterMap fun q => match g.qubits[q]? with | some (f, true) => some f | _ => none)
  s.updRun p fun u => { u with
    xrec := xs.foldl flip u.xrec, zrec := zs.foldl flip u.zrec
    obs := l.foldl (fun o e => o ^^^ e.obs) u.obs, pauli := u.pauli ++ fr.map fun f => (f, s.now + 64) }

end Sys2Proof.Machine
end

