-- ==== Sys2Proof/Machine/Decisions.lean ====
section
/-!
DEFINITION. The decision fabric: results, commits to slots, forwarding over the mesh, and the packets that a span exchanges
(08 R246-R256; 04 R155; 09 R294; 12 R371, R377-R380).
-/
namespace Sys2Proof.Machine

/-! Commits (08 R247-R253). -/

/-- SRC of slot `i`. -/
def State.slotSrc (s : State) (i : Nat) : Nat := s.fld (DEC_SLOTCFG i) 5 4

/-- SOURCE of the journal entry of a commit of binding `b` to slot `i` (09 R298). -/
def State.commitSource (s : State) (i : Nat) (b : Binding) : Nat :=
  match s.slotSrc i with
  | 0 => match s.win b.id with | some w => 0x10 + w.mica | none => 0xF1
  | 1 => 0xF5
  | 2 => 0xF2
  | _ => 0xF3

/-- A committed result of slot `i` is forwarded (08 R253). -/
def State.forwardOut (s : State) (p i : Nat) (r : Result) : State :=
  let a := DEC_SLOTCFG i
  if s.bit a 7 then
    let d := s.fld a 13 8
    let n := (s.slot i).commits
    (s.inc DEC_FWDTX).sendDecide p d ((s.partnerOf p d).getD 0) fun h due => .result h {
      dslot := Fin.ofNat 512 (s.fld a 22 14), state := r.state, flow := BitVec.ofNat 8 (n - 1), i := r.i, q := r.q
      tag := r.tag, due := due }
  else s

/-- A committed result of a slot with REPORT becomes a record (08 R252). -/
def State.reportOut (s : State) (p i : Nat) (r : Result) : State :=
  if s.bit (DEC_SLOTCFG i) 6 && s.slotSrc i != 3 then
    match (s.part p).mode with
    | .shot =>
      let a := (s.part p).attempt
      if a.active then s.updAtt p fun a => { a with recs := a.recs ++ [resultRec i a.shotNo (s.jobNum p) r] } else s
    | .stream => s.queueRec p (resultRec i 0 (s.jobNum p) r)
    | .hold => s
  else s

/-- Binding `b`, resolved to `r`, commits to slot `i` of partition `p`: value, records, journal, forwarding and Garnet. -/
def State.commitOne (s : State) (p i : Nat) (b : Binding) (r : Result) : State :=
  let src := s.commitSource i b
  let s := s.updSlot i fun x => { x with
    value := r, queue := x.queue.drop 1, commits := x.commits + 1, validAt := s.now
    hist := (b.id, r.state.toNat, s.now) :: x.hist }
  let s := s.updFab fun f => { f with units := f.units.filter (·.1 != b.id) }
  let s := s.journal p (jentry 3 src i (s.part p).attempt.shotNo r.tag r.state.toNat r.i.toNat r.q.toNat 0)
  ((s.reportOut p i r).forwardOut p i r).garnetTake p i r.state.toNat

/-- Resolved bindings at the head of slot `i`'s queue commit, at most `fuel`; a result takes 2 ticks through the
fabric (08 R248). -/
def State.commitReady (s : State) (p i : Nat) : Nat → State
  | 0 => s
  | k + 1 =>
    match (s.slot i).queue with
    | [] => s
    | b :: _ =>
      match b.result with
      | none => s
      | some r =>
        if s.fab.units.any fun u => u.1 == b.id && decide (s.now < u.2.1 + 2) then s
        else (s.commitOne p i b r).commitReady p i k

/-- The bindings of slot `i` that `hit` names, and that have not resolved, resolve to `r`. -/
def Slot.resolve (x : Slot) (hit : Binding → Bool) (r : Result) : Slot :=
  { x with queue := x.queue.map fun b => if hit b && b.result.isNone then { b with result := some r } else b }

/-- The oldest binding of slot `i` that has not resolved. -/
def Slot.unresolved (x : Slot) : Option Binding := x.queue.find? (·.result.isNone)

/-- Whether the binding of window `id` has taken its result. -/
def State.resolved (s : State) (id : Nat) : Bool :=
  s.slots.any fun x => x.2.queue.any fun b => b.id == id && b.result.isSome

/-- Whether every unit that the Mica core of window `id` sent before has arrived (01 R21). -/
def State.unitFirst (s : State) (id : Nat) : Bool :=
  (s.fab.units.takeWhile (·.1 != id)).all fun v => (s.win v.1).map (·.mica) != (s.win id).map (·.mica) || s.resolved v.1

/-- RESULT_ARRIVE (08 R248): the result of window `id` resolves its binding. -/
def execResultArrive (id : Nat) (s : State) : Host.Outcome State Fault Refusal :=
  answer s (match s.fab.units.find? (·.1 == id) with
    | none => s
    | some u =>
      if s.now < u.2.1 || !s.unitFirst id then s
      else match s.slots.find? fun x => x.2.queue.any (·.id == id) with
        | some x => s.updSlot x.1 fun y => y.resolve (·.id == id) u.2.2
        | none => s.updFab fun f => { f with units := f.units.filter (·.1 != id) })

/-- BINDING_COMMIT (08 R248, R249): resolved bindings commit in queue order; a core that waits for room goes on
(04 R130). -/
def execBindingCommit (i : Fin 512) (s : State) : Host.Outcome State Fault Refusal :=
  answer s (match s.slotOwner i.val with
    | some p => (s.commitReady p i.val 8).measResume p
    | none => s)

/-! Packets (12 R371, R377-R380). -/

/-- The full tick of a 32-bit due field, nearest to the present. -/
def State.fullDue (s : State) (d : Word) : Nat :=
  let n := s.now
  let base := n - n % 2 ^ 32 + d.toNat
  if n + 2 ^ 31 ≤ base ∧ 2 ^ 32 ≤ base then base - 2 ^ 32 else if base + 2 ^ 31 ≤ n then base + 2 ^ 32 else base

def DecideBody.due : DecideBody → Word
  | .result _ u => u.due
  | .barrier _ u => u.due
  | .verdict _ u => u.due
  | .seam _ u => u.due
def DecideBody.withHead (h : Head) : DecideBody → DecideBody
  | .result _ u => .result h u
  | .barrier _ u => .barrier h u
  | .verdict _ u => .verdict h u
  | .seam _ u => .seam h u

/-- A forwarded result that no binding awaits (08 R254): its slot's owner hears of it. -/
def State.forwardLost (s : State) (i : Nat) (tag : BitVec 64) : State :=
  let s := s.inc DEC_FWDLOST
  match s.slotOwner i with
  | none => s
  | some p =>
    if (s.part p).mode = .stream then s.streamErr p 3 (resource 0x0B i) 1 tag
    else s.queueRec p (errorRec 6 3 1 (s.jobNum p) tag s.now (resource 0x0B i) 1)

/-- Whether a unit of partition `p` whose full TIME is `t` lies too far ahead for the device (02 R63): more than 2 ticks
beyond the look-ahead limit, or 2^23 ticks. An event that a core issues never does (`State.timed`, 02 R62). -/
def State.tooFar (s : State) (p t : Nat) : Bool :=
  decide (s.now + s.fld (TIME_LOOKAHEAD p) 19 0 + 2 < t) || decide (s.now + 2 ^ 23 ≤ t)

/-- A forwarded result takes effect (08 R254, R255; 02 R61); one too far ahead is refused (02 R63). -/
def State.takeResult (s : State) (h : Head) (u : ResultPkt) (late : Bool) : State :=
  let i := u.dslot.val
  let p := h.dpart.val
  let a := (s.part p).attempt
  let s := s.inc DEC_FWDRX
  if s.tooFar p (fullTime s.now (tagTime u.tag)) then s.cause p 9 0xF5 (resource 0x0B i) 0 u.tag else
  let open_ := s.slotOwner i == some p && s.slotSrc i == 1 && a.active && bits u.tag.toNat 31 20 == a.shotNo % 4096
  match open_, (s.slot i).unresolved with
  | true, some b =>
    let r : Result := { state := u.state, i := u.i, q := u.q, tag := tagOr u.tag 4 late }
    let s := if s.bit TIME_STAT 4 then s.cause p 3 0xF5 (resource 0x0B i) 0 r.tag else s
    ((s.updSlot i fun x => x.resolve (·.id == b.id) r).commitReady p i 8).measResume p
  | _, _ => s.forwardLost i u.tag

/-- Whether partition `p`'s span is the one that a packet names. -/
def State.spanIs (s : State) (p : Nat) (span : Byte) : Bool :=
  (s.spanOf p).isSome && s.spanNo p == span.toNat

/-- A span device's TL takes effect (04 R155). -/
def State.takeBarrier (s : State) (h : Head) (u : BarrierPkt) : State :=
  let p := h.dpart.val
  if s.spanIs p u.span then
    let k := h.src.val + 64 * bn u.shotKind + 128 * u.id.toNat + 32768 * u.shot.toNat
    if (s.part p).barrierOwed.contains k then s.updPart p fun q => { q with barrierOwed := q.barrierOwed.erase k }
    else s.updPart p fun q => { q with barrierTl := q.barrierTl ++ [(k, u.tl.toNat)] }
  else s

/-- A span device's verdict takes effect (09 R294). -/
def State.takeVerdict (s : State) (h : Head) (u : VerdictPkt) : State :=
  let p := h.dpart.val
  let a := (s.part p).attempt
  if s.spanIs p u.span && a.active && u.shot.toNat == a.shotNo && u.attempt.toNat == a.num then
    s.updAtt p fun a => { a with spanVerdicts := a.spanVerdicts ++ [(h.src.val, u.verdict.val, u.cause.toNat)] }
  else s

/-- The neighbour's part of a pass takes effect (08 R282). -/
def State.takeSeam (s : State) (h : Head) (u : SeamPkt) : State :=
  s.updRun h.dpart.val fun g => { g with
    seam := g.seam ++ u.entries.map fun e => (e.1.toNat, e.2.toNat), seamWait := u.entries.length == 255 }

/-- Whether a packet may act: a SEAM packet waits for the pass of its round. -/
def State.decideReady (s : State) (d : Decide) : Bool :=
  decide (d.due ≤ s.now) && match d.body with
    | .seam h u => match (s.graph h.dpart.val).run.busy with
      | some r => r.num == u.round.toNat && (s.graph h.dpart.val).run.seamWait
      | none => false
    | _ => true

def State.takeDecide (s : State) (d : Decide) : State :=
  match d.body with
  | .result h u => s.takeResult h u d.late
  | .barrier h u => s.takeBarrier h u
  | .verdict h u => s.takeVerdict h u
  | .seam h u => s.takeSeam h u

/-- Every packet held that may act does, in order of arrival. -/
def State.drainDue (s : State) : State :=
  let ready := s.dueq.filter s.decideReady
  State.forEach { s with dueq := s.dueq.filter fun d => !s.decideReady d } ready State.takeDecide

/-- A packet for another device goes on, after 22 ticks of the device's logic (12 R371, R377, R379); its traffic counts for
the partition of its number (log 148). -/
def State.forwardPacket (s : State) (q : Nat) (b : DecideBody) : State :=
  let h := b.head
  if h.hops.val = 0 then s.inc (MESH_DROP q)
  else match s.route h.dst.val with
    | none => s.inc (MESH_DROP (s.fld (MESH_ROUTE h.dst.val) 1 0))
    | some (r, _) =>
      s.putDecide h.dpart.val r 22 (b.withHead { h with hops := Fin.ofNat 8 (h.hops.val - 1) })

/-- A DECIDE packet arrives at port `q`: dropped, forwarded, or held to its due tick (12 R371, R377). -/
def State.arrive (s : State) (q : Nat) (b : DecideBody) : State :=
  let h := b.head
  if s.nPort ≤ q || s.portState q != 4 then s
  else
  let s := s.oweAck q
  if !h.legal then s.inc (MESH_DROP q)
  else if h.dst.val ≠ s.devId then s.forwardPacket q b
  else
    let t := s.fullDue b.due
    let late := decide (t < s.now)
    let s := if late then s.inc (MESH_DLATE q) else s
    let d : Decide := { port := q, due := t, late := late, body := b }
    State.drainDue { s with dueq := s.dueq ++ [d] }

/-- RESULT (12 R380, 08 R253). -/
def execMeshResult (q : Fin 4) (h : Head) (u : ResultPkt) (s : State) : Host.Outcome State Fault Refusal :=
  answer s (s.arrive q.val (.result h u))

/-- BARRIER (12 R380, 04 R155). -/
def execMeshBarrier (q : Fin 4) (h : Head) (u : BarrierPkt) (s : State) : Host.Outcome State Fault Refusal :=
  answer s (s.arrive q.val (.barrier h u))

/-- VERDICT (12 R380, 09 R294). -/
def execMeshVerdict (q : Fin 4) (h : Head) (u : VerdictPkt) (s : State) : Host.Outcome State Fault Refusal :=
  answer s (s.arrive q.val (.verdict h u))

/-- SEAM (12 R380, 08 R282). -/
def execMeshSeam (q : Fin 4) (h : Head) (u : SeamPkt) (s : State) : Host.Outcome State Fault Refusal :=
  answer s (s.arrive q.val (.seam h u))

/-- DECIDE_DUE (12 R377). -/
def execDecideDue (s : State) : Host.Outcome State Fault Refusal := answer s s.drainDue

/-- FORWARD_TIMEOUT (08 R255): bindings that no result resolved within DEC_FWDTMO of the SHOT. -/
def execForwardTimeout (i : Fin 512) (s : State) : Host.Outcome State Fault Refusal :=
  answer s (match s.slotOwner i.val with
    | none => s
    | some p =>
      let i := i.val
      let a := (s.part p).attempt
      if s.slotSrc i != 1 || !a.active || decide (s.now < a.s + s.fld DEC_FWDTMO 15 0)
          || (s.slot i).unresolved.isNone then s
      else
        let tag := mkTag s.now 0 p a.shotNo 0 2 true false false true a.num
        let s := s.cause p 3 0xF5 (resource 0x0B i) 0 tag
        ((s.updSlot i fun x => x.resolve (fun _ => true) (indeterminate tag)).commitReady p i 8).measResume p)

/-- DEC_CNTCLR (08). -/
def State.decCntclr (s : State) : State :=
  s.clearCounts [DEC_FWDTX, DEC_FWDRX, DEC_FWDLOST]

/-- The command of that write. -/
def execDecCntclr (s : State) : Host.Outcome State Fault Refusal :=
  answer s (s.pf0 s.decCntclr)

end Sys2Proof.Machine
end

