-- ==== Sys2Proof/Machine/GarnetPass.lean ====
section
/-!
DEFINITION. Garnet's decoding passes, the seam exchange, its frame writes and its counters (08 R279-R283).
-/
namespace Sys2Proof.Machine

/-! The seam (08 R282). -/

/-- The other device of partition `p`'s seam. -/
def State.seamPeer (s : State) (p : Nat) : Option Nat := (s.spanDevs p).head?
def State.seamMaster (s : State) (p : Nat) : Bool := match s.seamPeer p with | some d => decide (s.devId < d) | none => true

def GRound.fin (r : GRound) : Option GRound := if r.final then some r else none

/-- The defects of the clusters that reach a SEAMED edge (08 R282). -/
def Graph.seamDefects (g : Graph) (win : List GRound) (fin : Option GRound) : List Nat :=
  let ds := g.defects win fin
  let lab := mergeAll (List.range (g.nverts win fin)) ((g.grown win fin ds).map fun e => (e, true))
  let at_ := fun v => lab.getD v 0
  let hit := ((g.edgesIn win fin).filter (·.e.seamed)).flatMap fun e => [at_ e.u, at_ e.v]
  ds.filter fun v => at_ v != 0 && hit.contains (at_ v)

/-- Packet entries that name the defects `ds`: the first active edge at each, with the flag of the end that it is: bit 0 for
A, bit 1 for B (log 60). -/
def seamEntries (es : List GEdge) (ds : List Nat) : List (BitVec 16 × Byte) :=
  ds.filterMap fun v => (es.find? fun e => e.u == v || e.v == v).map fun e =>
    (BitVec.ofNat 16 e.no, if e.u = v then 1#8 else 2#8)

/-- The defects that entries name. -/
def seamVertices (es : List GEdge) (l : List (Nat × Nat)) : List Nat :=
  l.flatMap fun x => match es.find? (·.no == x.1) with
    | some e => (if bitOf x.2 0 then [e.u] else []) ++ (if bitOf x.2 1 then [e.v] else [])
    | none => []

/-- Whether edge `e` has an end on the other device's side: a SEAM detector (08 R276). -/
def Graph.farEdge (g : Graph) (n : Nat) (e : GEdge) : Bool :=
  [e.u, e.v].any fun v =>
    v != 0 && decide (v ≤ n * g.layer.length) && (g.layer.getD ((v - 1) % g.layer.length) {}).kind == 2

/-- SEAM packets of partition `p` for round `r` with the entries `es`, 255 to a packet; one with fewer is the last (log
60). -/
def State.sendSeam (s : State) (p : Nat) (corr : Bool) (r : Nat) (es : List (BitVec 16 × Byte)) : State :=
  match s.seamPeer p with
  | none => s
  | some d =>
    s.forEach (List.range (es.length / 255 + 1)) fun s k =>
      s.sendDecide p d ((s.partnerOf p d).getD 0) fun h _ => .seam h {
        span := BitVec.ofNat 8 (s.spanNo p), corrections := corr, round := BitVec.ofNat 32 r
        due := BitVec.ofNat 32 (s.now + 80 * h.hops.val), entries := (es.drop (255 * k)).take 255 }

/-- The correction of the pass of round `r` (08 R279, R282): the seam master decodes the union of the defects, the other
device its clusters that do not reach the seam, with what the master returned. -/
def State.passEdges (s : State) (p : Nat) (r : GRound) : List GEdge :=
  let g := s.graph p
  let win := g.run.window
  let ds := g.defects win r.fin
  let es := g.edgesIn win r.fin
  if !g.seam then g.decode win r.fin ds
  else if s.seamMaster p then g.decode win r.fin (ds ++ seamVertices es g.run.seam).eraseDups
  else
    let out := g.seamDefects win r.fin
    g.decode win r.fin (ds.filter fun v => !out.contains v) ++
      g.run.seam.filterMap fun x => if bitOf x.2 0 then es.find? (·.no == x.1) else none

/-! Passes (08 R279-R281). -/

/-- DECODE_PASS (08 R279): the oldest round of the backlog joins the window, and its pass begins. -/
def execDecodePass (p : Fin 8) (s : State) : Host.Outcome State Fault Refusal :=
  answer s (
    let p := p.val
    let g := s.graph p
    match g.valid, g.run.busy, g.run.backlog with
    | true, none, r :: l =>
      let s := s.updRun p fun u => { u with
        backlog := l, busy := some r, window := if r.final then u.window else u.window ++ [r], seamWait := g.seam }
      if !g.seam then s
      else if s.seamMaster p then s.drainDue
      else
        let w := (s.graph p).run.window
        (s.sendSeam p false r.num (seamEntries (g.edgesIn w r.fin) (g.seamDefects w r.fin))).drainDue
    | _, _, _ => s)

/-- The window once its oldest round has been finalised: a correction that reaches into the next round changes its
detection values. -/
def shiftWindow (nl : Nat) (l : List GEdge) : List GRound → List GRound
  | _ :: r :: rest =>
    let ends := (l.map fun e => [e.u, e.v]).flatten
    let hit := oddOnes ((ends.filter fun v => decide (nl < v) && decide (v ≤ 2 * nl)).map fun v => v - 1 - nl)
    { r with det := (List.range r.det.length).map fun i => (r.det.getD i false) != hit.contains i } :: rest
  | _ => []

/-- Observables commit at the end of the final round's pass. -/
def State.commitObs (s : State) (p : Nat) (r : GRound) : State :=
  let g := s.graph p
  if r.late then s
  else s.forEach ((List.range g.obs.length).zip g.obs) fun s x =>
    let par := r.odata.getD x.1 2
    let i := x.2.1
    let st := if par = 2 then 3 else bn ((par == 1) != bitOf g.run.obs.toNat x.1)
    let v : Result := { state := BitVec.ofNat 2 st, i := 0#32, q := 0#32
                        tag := mkTag s.now 0 p r.shot 0 2 (s.tainted p) false false false r.attempt }
    match (s.slot i).unresolved with
    | some b => (s.updSlot i fun y => y.resolve (·.id == b.id) v).commitReady p i 8
    | none => s

/-- DECODE_PASS_END (08 R279-R282). -/
def execDecodePassEnd (p : Fin 8) (s : State) : Host.Outcome State Fault Refusal :=
  answer s (
    let p := p.val
    let g := s.graph p
    match g.run.busy with
    | none => s
    | some r =>
      if g.run.seamWait then s
      else
        let win := g.run.window
        let corr := s.passEdges p r
        let nl := g.layer.length
        let own := if r.final then corr
          else if g.win ≤ win.length then
            corr.filter fun e => (0 < e.u && e.u ≤ nl) || (0 < e.v && e.v ≤ nl)
          else []
        let win := if r.final then [] else if g.win ≤ win.length then shiftWindow nl own win else win
        let far := (corr.filter (g.farEdge g.run.window.length)).map fun e => (BitVec.ofNat 16 e.no, 1#8)
        let s := if g.seam && s.seamMaster p then s.sendSeam p true r.num far else s
        let s := s.finalise p (own.map (·.e))
        let lat := min (s.now - r.doneAt) 65535
        let word := lat + 65536 * min (g.defects g.run.window r.fin).length 65535
        let s := (s.inc (GARNET_ROUNDS p)).setN (GARNET_LASTLAT p) word
        let s := if s.fld (GARNET_LATMAX p) 15 0 < lat then s.setN (GARNET_LATMAX p) word else s
        let s := s.updRun p fun u => { u with busy := none, seam := [], seamWait := false, window := win }
        if r.final then
          ((s.commitObs p r).updRun p fun u => { u with xrec := [], zrec := [], obs := 0#8 }).measResume p
        else s)

/-- PAULI_FRAME_WRITE (08 R281): π on each frame whose Z correction is due, after the program's writes of that instant
(02 R66). -/
def execPauliFrameWrite (p : Fin 8) (s : State) : Host.Outcome State Fault Refusal :=
  answer s (
    let p := p.val
    let ready := fun x : Nat × Nat => decide (x.2 ≤ s.now) && (s.frameQueue x.1 (32 * x.2)).isEmpty
    let due := (s.graph p).run.pauli.filter ready
    let s := s.updRun p fun u => { u with pauli := u.pauli.filter fun x => !ready x }
    let v := BitVec.ofNat 48 (2 ^ 47)
    s.forEach due fun s x =>
      (s.setIssued x.1 ((s.frameIssued x.1).dev false v)).devWriteAt p 0xF2 x.1 false v (32 * x.2))

/-- Whether round `r` is past its bound (08 R280). -/
def State.lateNow (s : State) (r : GRound) : Bool := !r.late && decide (r.doneAt + 2048 ≤ s.now)

/-- Round `r` of partition `p` is late: its attempt is tainted, and the bindings of a final pass resolve. -/
def State.roundLate (s : State) (p : Nat) (r : GRound) : State :=
  let a := (s.part p).attempt
  let s := s.inc (GARNET_LATE p)
  let mine := (s.part p).mode != .shot || (a.active && a.shotNo == r.shot && a.num == r.attempt)
  let tag := mkTag s.now 0 p r.shot 0 2 mine false false true r.attempt
  let s := if mine then s.cause p 6 0xF2 (resource 0x0F p) 0 tag else s
  if r.final then
    s.forEach (s.graph p).obs fun s o =>
      match (s.slot o.1).unresolved with
      | some b => (s.updSlot o.1 fun y => y.resolve (·.id == b.id) (indeterminate tag)).commitReady p o.1 8
      | none => s
  else s

/-- DECODE_LATE (08 R280): REALTIME rounds whose pass has not ended 2,048 ticks after their completion. -/
def execDecodeLate (p : Fin 8) (s : State) : Host.Outcome State Fault Refusal :=
  answer s (
    let p := p.val
    let g := s.graph p
    if g.backlogMode then s
    else
      let late := (g.run.busy.toList ++ g.run.backlog).filter s.lateNow
      let mark := fun r : GRound => if s.lateNow r then { r with late := true } else r
      let s := s.updRun p fun u => { u with busy := u.busy.map mark, backlog := u.backlog.map mark }
      (s.forEach late fun s r => s.roundLate p r).measResume p)

/-- GARNET_CNTCLR (08). -/
def State.garnetCntclr (s : State) (p : Fin 8) : State :=
  (s.clearCounts [GARNET_ROUNDS p.val, GARNET_LATE p.val, GARNET_ERR p.val]).zeroRegs [GARNET_LATMAX p.val,
      GARNET_LASTLAT p.val]

/-- The command of that write. -/
def execGarnetCntclr (p : Fin 8) (s : State) : Host.Outcome State Fault Refusal :=
  answer s (s.pf0 (s.garnetCntclr p))

end Sys2Proof.Machine
end

