-- ==== Sys2Proof/Machine/Tracking.lean ====
section
/-!
DEFINITION. The tracking loops: samples, evaluations, records, probe shots, FREEZE and RESTART (08 R257-R271).
-/
namespace Sys2Proof.Machine

/-! Angles in units of 2π / 2^56, by shift and add (log 13). -/

/-- Angles of slope 2^-i. -/
def cordicTab : List Int :=
  [9007199254740992, 5317260203651848, 2809494260081567, 1426143154396570, 715839029270683, 358268477703266,
    179177955010598, 89594445026371, 44797906047171, 22399038468267, 11199529914810, 5599766292493, 2799883313132,
    1399941677427, 699970841321, 349985420986, 174992710534, 87496355272, 43748177637, 21874088818, 10937044409,
    5468522205, 2734261102, 1367130551, 683565276] ++
  [341782638, 170891319, 85445659, 42722830, 21361415, 10680707, 5340354, 2670177, 1335088, 667544, 333772, 166886,
    83443, 41722, 20861, 10430, 5215, 2608, 1304, 652, 326, 163, 81, 41, 20]

/-- The angle `z` of (x, y), x at least 0. -/
def cordicVec : Nat → List Int → Int → Int → Int → Int
  | _, [], _, _, z => z
  | i, a :: l, x, y, z =>
    if y < 0 then cordicVec (i + 1) l (x - asr y i) (y + asr x i) (z - a)
    else cordicVec (i + 1) l (x + asr y i) (y - asr x i) (z + a)

/-- (x, y) turned by the angle `z`. -/
def cordicRot : Nat → List Int → Int → Int → Int → Int × Int
  | _, [], x, y, _ => (x, y)
  | i, a :: l, x, y, z =>
    if z < 0 then cordicRot (i + 1) l (x + asr y i) (y - asr x i) (z + a)
    else cordicRot (i + 1) l (x - asr y i) (y + asr x i) (z - a)

/-- atan2(y, x) in units of 2π / 2^56; the angle of (0, 0) is open (log 13). -/
def atan2u (y x : Int) : Int :=
  let up := fun v : Int => v * 2 ^ 64
  if x = 0 ∧ y = 0 then toSigned 56 (wrapInt 56 Config.zeroAngle)
  else if x < 0 then
    let z := cordicVec 0 cordicTab (up (-x)) (up (-y)) 0
    if 0 ≤ y then z + 2 ^ 55 else z - 2 ^ 55
  else cordicVec 0 cordicTab (up x) (up y) 0

/-- The angle `a` brought to -2^55 .. 2^55 - 1. -/
def wrapAngle (a : Int) : Int := toSigned 56 (wrapInt 56 a)

/-- Cosine and sine of the angle `a`, in units of 2^-60. -/
def cosSin (a : Int) : Int × Int :=
  let a := wrapAngle a
  let f := fun z => cordicRot 0 cordicTab 700114967507363238 0 z
  if 2 ^ 54 < a then let r := f (a - 2 ^ 55); (-r.1, -r.2)
  else if a < -2 ^ 54 then let r := f (a + 2 ^ 55); (-r.1, -r.2)
  else f a

/-- n / d, d positive, rounded to nearest with ties away from zero (08 R261). -/
def divAway (n d : Int) : Int := if n < 0 then -((2 * -n + d) / (2 * d)) else (2 * n + d) / (2 * d)

/-! A loop's fields (08 R257). -/

def State.trkN (s : State) (l : Nat) : Nat := s.fld (DEC_TRKN l) 15 0
def State.trkMin (s : State) (l : Nat) : Nat := s.fld (DEC_TRKN l) 31 16
def State.trkStep (s : State) (l : Nat) : Int := (s.regN (DEC_TRKSTEP l) : Nat)
def State.trkRange (s : State) (l : Nat) : Int := (s.regN (DEC_TRKRANGE l) : Nat)
/-- Registers of the loop's discriminator entry. -/
def State.trkRot (s : State) (l : Nat) : Nat := MICA_DROT (s.trkTarget l / 4) (s.trkTarget l % 4)
def State.trkT01 (s : State) (l : Nat) : Nat := MICA_DT01 (s.trkTarget l / 4) (s.trkTarget l % 4)
def State.trkT12 (s : State) (l : Nat) : Nat := MICA_DT12 (s.trkTarget l / 4) (s.trkTarget l % 4)
def State.trkCfg (s : State) (l : Nat) : Nat := MICA_DCFG (s.trkTarget l / 4) (s.trkTarget l % 4)
/-- Whether loop `l` samples and adjusts: HOLDING or TRACKING. -/
def State.trkLive (s : State) (l : Nat) : Bool := (s.loop l).shown == 1 || (s.loop l).shown == 2

/-- The loop with its sums cleared. -/
def Loop.clear (x : Loop) : Loop :=
  { x with n := [0, 0, 0], sx := [0, 0, 0], sy := [0, 0, 0], count := 0, pairs := 0, onesA := 0, onesB := 0 }

/-! Records (08 R270). -/

/-- A tracking record of loop `l` for the present tick. -/
def State.trkRec (s : State) (l what event : Nat) (value delta : Int) (count : Nat) : State :=
  s.trkRecAt l what event value delta count s.now

/-- Whether an update that moves a value from `cur` to `v` has something to report: a change, a bound, or the loop's change
to TRACKING (08 R270). -/
def State.trkNews (s : State) (l : Nat) (cur v : Int) (event : Nat) : Bool :=
  v != cur || event == 3 || (s.loop l).state == 1

/-- WHAT and VALUE of a loop as it stands. -/
def State.trkNow (s : State) (l : Nat) : Nat × Int :=
  match s.trkKind l with
  | 0 => (1, toSigned 32 (s.regN (s.trkT01 l)))
  | 1 => (3, (s.regN (s.trkRot l) : Nat))
  | _ => (4, (s.frame (s.trkTarget l)).fw.toInt)

/-- A record of a change of state. -/
def State.trkEvent (s : State) (l event : Nat) : State :=
  s.trkRec l (s.trkNow l).1 event (s.trkNow l).2 0 (s.loop l).count

/-! Updates (08 R261, R262, R265, R268). -/

/-- A value moved from `cur` towards `aim` by at most STEP, within RANGE of `ref`: the new value and the event. -/
def State.trkMove (s : State) (l : Nat) (cur aim ref : Int) : Int × Nat :=
  let d := aim - cur
  let c := clamp (-(s.trkStep l)) (s.trkStep l) d
  let v := cur + c
  if v < ref - s.trkRange l then (ref - s.trkRange l, 3)
  else if ref + s.trkRange l < v then (ref + s.trkRange l, 3)
  else (v, if c = d then 1 else 2)

/-- An update of loop `l` has been applied; the events `evs` tell whether a bound was met. -/
def State.trkDone (s : State) (l : Nat) (evs : List Nat) : State :=
  (s.updLoop l fun x => { x.clear with state := if evs.contains 3 then 4 else 2 }).inc (DEC_TRKADJ l)

/-- Threshold register `a` of loop `l` moves towards `aim`. -/
def State.trkThreshold (s : State) (l a what : Nat) (aim ref : Int) : State × Nat :=
  let cur := toSigned 32 (s.regN a)
  let m := s.trkMove l cur aim ref
  let n := (s.loop l).count
  let s := s.setN a (wrapInt 32 m.1)
  (if s.trkNews l cur m.1 m.2 then s.trkRec l what m.2 m.1 (m.1 - cur) n else s, m.2)

def Loop.nAt (x : Loop) (i : Nat) : Nat := x.n.getD i 0
/-- The mean of x, or of y, of state `i` in Q10.22. -/
def Loop.meanX (x : Loop) (i : Nat) : Int := divAway (x.sx.getD i 0) ((x.nAt i : Int) * 32768)
def Loop.meanY (x : Loop) (i : Nat) : Int := divAway (x.sy.getD i 0) ((x.nAt i : Int) * 32768)

/-- Whether a DISC or RPHASE loop is due and has its least samples. -/
def State.trkReady (s : State) (l : Nat) : Bool :=
  let x := s.loop l
  s.trkLive l && decide (s.trkN l ≤ x.count) && decide (s.trkMin l ≤ x.nAt 0) && decide (s.trkMin l ≤ x.nAt 1)
    && decide (0 < x.nAt 0) && decide (0 < x.nAt 1)

/-- A DISC loop evaluates itself (08 R261). -/
def State.evalDisc (s : State) (l : Nat) : State :=
  if !s.trkReady l then s
  else
    let x := s.loop l
    let mode := s.fld (s.trkCfg l) 1 0
    let r1 := s.trkThreshold l (s.trkT01 l) 1 (divAway (x.meanX 0 + x.meanX 1) 2) (toSigned 32 x.ref.toNat)
    let s := r1.1
    let t12 : Option Int :=
      if !s.bit (DEC_TRKCFG l) 3 || decide (x.nAt 2 < s.trkMin l) || x.nAt 2 == 0 then none
      else match mode with
        | 1 => some (divAway (x.meanX 1 + x.meanX 2) 2)
        | 2 =>
          let low := divAway (x.sy.getD 0 0 + x.sy.getD 1 0) (((x.nAt 0 + x.nAt 1 : Nat) : Int) * 32768)
          some (divAway (x.meanY 2 + low) 2)
        | _ => none
    match t12 with
    | none => s.trkDone l [r1.2]
    | some t =>
      let r2 := s.trkThreshold l (s.trkT12 l) 2 t (toSigned 32 (look pf0Reset s.discShadow (s.trkT12 l)).toNat)
      r2.1.trkDone l [r1.2, r2.2]

/-- The rotation word of angle `a`, each part rounded and saturated to Q1.15. -/
def rotWord (a : Int) : Word :=
  let r := cosSin a
  cxWord ((satInt 16 (divAway r.1 (2 ^ 45))).1, (satInt 16 (divAway r.2 (2 ^ 45))).1)

/-- An RPHASE loop evaluates itself (08 R262); a DISC loop on its entry that is due as well discards its sums. -/
def State.evalRphase (s : State) (l : Nat) : State :=
  if !s.trkReady l then s
  else
    let x := s.loop l
    let n0 : Int := (x.nAt 0 : Nat)
    let n1 : Int := (x.nAt 1 : Nat)
    let theta := atan2u (x.sy.getD 1 0 * n0 - x.sy.getD 0 0 * n1) (x.sx.getD 1 0 * n0 - x.sx.getD 0 0 * n1)
    let unit : Int := 2 ^ 40
    let d := clamp (-(s.trkStep l) * unit) (s.trkStep l * unit) theta
    let cs := cxOf (s.reg (s.trkRot l))
    let rf := cxOf (BitVec.ofNat 32 x.ref.toNat)
    let cur := atan2u cs.2 cs.1
    let ref := atan2u rf.2 rf.1
    let dev := wrapAngle (cur - d - ref)
    let lim := s.trkRange l * unit
    let m : Int × Nat :=
      if dev < -lim then (ref - lim, 3) else if lim < dev then (ref + lim, 3) else (cur - d, if d = theta then 1 else 2)
    let w := rotWord m.1
    let delta := divAway (wrapAngle (m.1 - cur)) unit
    let t := s.setReg (s.trkRot l) w
    let t := if s.trkNews l ((s.reg (s.trkRot l)).toNat : Nat) (w.toNat : Nat) m.2 then
        t.trkRec l 3 m.2 (w.toNat : Nat) delta x.count else t
    let t := t.trkDone l [m.2]
    t.forEach ((s.loopsOf (s.trkOwner l)).filter fun k =>
        s.trkKind k == 0 && s.trkTarget k == s.trkTarget l && decide (s.trkN k ≤ (s.loop k).count)) fun t k =>
      t.updLoop k Loop.clear

/-- A FREQ loop evaluates itself (08 R265); FW changes, and is reported, at the next S (08 R267, R270). -/
def State.evalFreq (s : State) (l : Nat) : State :=
  let x := s.loop l
  if !s.trkLive l || x.pairs == 0 || decide (x.pairs < s.trkMin l) then s
  else
    let n : Int := (s.trkMin l : Nat)
    let phi := atan2u (2 * (x.onesB : Nat) - n) (2 * (x.onesA : Nat) - n)
    let phi := if s.bit (DEC_TRKCFG l) 4 then -phi else phi
    let dfw := divAway phi (2 ^ 8 * 32 * (max 1 (s.fld (DEC_TRKTAU l) 19 0) : Nat))
    let cur := (s.frame (s.trkTarget l)).fw.toInt
    let m := s.trkMove l cur (cur + dfw) (toSigned 48 x.ref.toNat)
    if m.1 = cur then
      (if s.trkNews l cur m.1 m.2 then s.trkRec l 4 m.2 m.1 0 x.pairs else s).trkDone l [m.2]
    else
      (s.trkDone l [m.2]).updLoop l fun y => { y with
        fwPend := some (BitVec.ofInt 48 m.1), fwNote := some (m.2, m.1 - cur, x.pairs) }

/-! Shot boundaries. -/

/-- One sample of a delivered attempt enters the loops on its entry (08 R260). -/
def State.trkSample (s : State) (p : Nat) (d : Nat × Int × Int × Nat) : State :=
  let i := d.2.2.2
  let add := fun x : Loop => { x with
    n := x.n.set i (x.n.getD i 0 + 1), sx := x.sx.set i (x.sx.getD i 0 + d.2.1), sy := x.sy.set i (x.sy.getD i 0 + d.2.2.1)
    count := x.count + 1 }
  s.forEach ((s.loopsOf p).filter fun l => s.trkKind l < 2 && s.trkTarget l == d.1 && s.trkLive l) fun s l =>
    s.updLoop l add

/-- A FREEZE write takes effect (08 R269). BOUND and SUSPENDED last through it: only RESTART or a reset ends them (08 R264,
R268, log 137). -/
def State.trkFreezeNow (s : State) (l : Nat) : State :=
  match (s.loop l).freezePend with
  | none => s
  | some true =>
    (s.updLoop l fun x => { x.clear with freezePend := none, frozen := true, due := false }).trkEvent l 4
  | some false =>
    let was := (s.loop l).frozen
    let s := s.updLoop l fun x => { x with
      freezePend := none, frozen := false, state := if was && x.state == 2 then 1 else x.state }
    if was then s.trkEvent l 5 else s

/-- The loops of partition `p` at the boundary after program shot `n`, delivered or failed (08 R261-R269). -/
def State.trkBoundary (s : State) (p n : Nat) (delivered : Bool) : State :=
  let ls := s.loopsOf p
  let s := if delivered then s.forEach (s.part p).attempt.discs fun s d => s.trkSample p d else s
  let s := s.forEach ls State.trkFreezeNow
  let s := if delivered then
      let s := s.forEach (ls.filter fun l => s.trkKind l == 1) State.evalRphase
      let s := s.forEach (ls.filter fun l => s.trkKind l == 0) State.evalDisc
      s.forEach (ls.filter fun l => s.trkKind l == 2) State.evalFreq
    else s
  s.forEach (ls.filter fun l => s.trkKind l == 2 && s.trkLive l && (n + 1) % s.trkN l == 0) fun s l =>
    s.updLoop l fun x => { x with due := true }

/-! Probe shots (08 R263, R264). -/

/-- A device pulse of a probe shot. -/
def State.devPulse (s : State) (p f obj ch : Nat) (gain : BitVec 16) (start : Nat) : State :=
  match s.obj obj with
  | none => s
  | some o =>
    let id := s.fab.nextId
    let a := (s.part p).attempt
    let s := s.addDevice { part := p, core := 255, inst := 32 * start, kind := .play f obj ch gain false, shot := a.shotNo }
    let u : Pulse := {
      id := id, part := p, ch := ch, frame := f, obj := obj, gain := gain, start := 32 * start, rsvFrom := start - 2
      rsvTo := o.maxlen.map fun m => rsvEnd (32 * start) m o.ratio, shot := a.shotNo }
    let s := s.updFab fun b => { b with pulses := b.pulses ++ [u] }
    s.requestPages p obj (o.headSet 2048) id pinOpen (start - 38)

/-- Whether a pulse of object `obj` may start on channel `ch` at tick `t`. -/
def State.devPulseOk (s : State) (p obj ch t : Nat) : Bool :=
  match s.obj obj with
  | none => false
  | some o => s.objUsable p obj && s.ochUsable p ch && !o.damaged && !o.forever && !s.bit (OCH_STAT ch) 3
      && s.laneFits ch (t - 2) (o.maxlen.map fun m => rsvEnd (32 * t) m o.ratio)

/-- The tracking descriptor of loop `l`. -/
def State.trkDescOf (s : State) (l : Nat) : Desc := s.boot.trkDesc.getD (s.fld (DEC_TRKPROBE2 l) 13 8) {}

/-- The window of a probe shot of loop `l` that starts at tick `t`. -/
def State.probeWindow (s : State) (l p t : Nat) : Window :=
  let d := s.trkDescOf l
  let tl := t + s.fld (DEC_TRKTAU l) 19 0 + 32
  let ws := tl + d.wofs
  { id := s.fab.nextId, part := p, core := 255, ich := d.ich, mica := d.mica, dframe := d.dframe, dec := d.dec, tl := tl
    ws := ws, we := ws + d.wlen, ls := max (ws - decQ d.dec) tl, mentry := d.mentry
    slot := s.fld (DEC_TRKPROBE2 l) 24 16, shot := (s.part p).attempt.shotNo }

/-- The events of a probe shot of loop `l` from tick `t`; shot B steps PH by π/2 (08 R264). -/
def State.probeEvents (s : State) (l t : Nat) (b : Bool) : List (Nat × EvKind) :=
  let f := s.trkTarget l
  let pulse : EvKind := .play f (s.fld (DEC_TRKPROBE l) 15 0) (s.fld (DEC_TRKPROBE2 l) 5 0)
    (BitVec.ofNat 16 (s.fld (DEC_TRKPROBE l) 31 16)) false
  let d := s.trkDescOf l
  let t2 := t + s.fld (DEC_TRKTAU l) 19 0 + 16
  let q := BitVec.ofNat 48 (2 ^ 46)
  [(t, pulse)] ++ (if b then [(t2 - 1, .shiftph f q)] else []) ++ [(t2, pulse)] ++
    (if b then [(t2 + 16, .shiftph f (-q))] else []) ++
    (if d.poch = 255 then [] else [(t2 + 16, .play d.pframe d.pwave d.poch d.pgain false)]) ++ [(t2 + 16, .window l)]

/-- Whether event `k` of a probe shot of loop `l` can be issued for tick `t` (08 R264). -/
def State.probeActOk (s : State) (l p t : Nat) (k : EvKind) : Bool :=
  decide (s.reserveUsed < 4096) && match k with
    | .play _ obj ch _ _ => s.devPulseOk p obj ch t
    | .window _ =>
      let d := s.trkDescOf l
      !s.bit (ICH_STAT d.ich) 3 && !(s.err (resource 5 d.mica)).retired
        && s.demodFits (s.probeWindow l p (t - s.fld (DEC_TRKTAU l) 19 0 - 32))
    | _ => true

/-- A frame write of a probe shot. -/
def State.probeShift (s : State) (p t : Nat) (k : EvKind) : State :=
  s.addDevice { part := p, core := 255, inst := 32 * t, kind := k, shot := (s.part p).attempt.shotNo }

/-- Event `k` of a probe shot of loop `l` is issued for tick `t`. -/
def State.probeAct (s : State) (l p t : Nat) (k : EvKind) : State :=
  match k with
  | .play f obj ch g _ => s.devPulse p f obj ch g t
  | .window _ =>
    let x := s.probeWindow l p (t - s.fld (DEC_TRKTAU l) 19 0 - 32)
    let s := s.updFab fun b => { b with wins := b.wins ++ [x] }
    let s := s.addDevice { part := p, core := 255, inst := 32 * x.tl, kind := .window x.id, shot := x.shot }
    s.updSlot x.slot fun y => { y with queue := y.queue ++ [{ id := x.id, core := 255 }] }
  | _ => s.probeShift p t k

/-- Loop `l` is suspended: its probe shot cannot run (08 R264). -/
def State.trkSuspend (s : State) (l p : Nat) : State :=
  let s := s.updPart p fun q => { q with
    probe := none, probeActs := [], attempt := { q.attempt with active := false }
    prevE := if q.probe.isSome then q.attempt.e else q.prevE }
  (s.updLoop l fun x => { x with state := 5, due := false }).trkEvent l 6

/-- A hold request that came during a probe pair takes effect once the pair is over (13 R407). -/
def State.probeHold (s : State) (p : Nat) : State :=
  match (s.part p).holdReq with
  | some c => s.holdBoundary p s.now (some c)
  | none => s

/-- The events `acts` of the probe shot in progress, as far as they are due: each is issued 2,048 ticks before its instant.
One that is refused suspends the loop; a step of PH already issued is still taken back (08 R264, log 138). -/
def State.probeIssue (s : State) (l p : Nat) : List (Nat × EvKind) → State
  | [] => s.updPart p fun q => { q with probeActs := [] }
  | (t, k) :: r =>
    if s.now + 2048 < t then s.updPart p fun q => { q with probeActs := (t, k) :: r }
    else if s.probeActOk l p t k then (s.probeAct l p t k).probeIssue l p r
    else
      let back := r.filter fun x => x.2.frameWritten.isSome
      let s := if back.length = 1 then s.forEach back fun s x => s.probeShift p x.1 x.2 else s
      (s.trkSuspend l p).probeHold p

/-- A probe shot of loop `l` begins for tick `t`. -/
def State.beginProbe (s : State) (l p t : Nat) (b : Bool) : State :=
  let s := s.updPart p fun q => { q with
    probe := some (l, b), attempt := { q.attempt with e := some (s.probeWindow l p t).we } }
  s.probeIssue l p (s.probeEvents l t b)

/-- A pair of loop `l` has ended; a tainted one is discarded (08 R264, R265). -/
def State.endPair (s : State) (l p : Nat) : State :=
  let a := (s.part p).attempt
  let h := (s.slot (s.fld (DEC_TRKPROBE2 l) 24 16)).hist
  let sb := match h[0]? with | some x => x.2.1 | none => 3
  let sa := match h[1]? with | some x => x.2.1 | none => 3
  let good := a.taints.isEmpty && decide (sa < 2) && decide (sb < 2)
  let s := s.updLoop l fun x => if good then
      { x with due := false, pairs := x.pairs + 1, count := x.count + 1, onesA := x.onesA + sa, onesB := x.onesB + sb }
    else { x with due := false }
  s.updPart p fun q => { q with
    probe := none, prevE := a.e, attempt := { q.attempt with active := false, localDone := some s.now } }

/-- Whether the probe shot in progress in partition `p` is over: its end is past, its events and its binding done. -/
def State.probeOver (s : State) (p : Nat) : Bool :=
  decide ((s.part p).attempt.e.getD 0 ≤ s.now) && (s.slotsOf p).all (fun i => (s.slot i).queue.isEmpty) &&
    !(s.fab.events.any fun e => e.part == p && !e.isMute && e.stage != .released)

/-- PROBE_SHOT (08 R264): the next act of a pair: shot A from 2,048 ticks ahead of its start, its events as they fall due,
shot B, the end of the pair. -/
def execProbeShot (l : Fin 64) (s : State) : Host.Outcome State Fault Refusal :=
  answer s (
    let l := l.val
    let p := s.trkOwner l
    let q := s.part p
    let reset := s.fld (DEC_TRKRESET l) 23 0
    if !(s.loopsOf p).contains l || q.mode != .shot || q.job.isNone then s
    else match q.probe with
      | none =>
        if !(s.loop l).due || q.attempt.active || ((s.loopsOf p).find? fun k => (s.loop k).due) != some l then s
        else if !s.trkLive l then s.updLoop l fun x => { x with due := false }
        else
          let t := max (q.prevE.getD 0 + reset) (q.attempt.localDone.getD 0 + 2048)
          if s.now + 2048 < t then s
          else
            let s := s.updPart p fun q => { q with attempt := { active := true, s := t, shotNo := q.attempt.shotNo } }
            let s := s.applyFw p t
            let s := s.updPart p fun q => { q with ckpt := s.checkpoint p t }
            s.beginProbe l p t false
      | some (k, b) =>
        if k ≠ l then s
        else if !q.probeActs.isEmpty then s.probeIssue l p q.probeActs
        else if b then (if s.probeOver p then (s.endPair l p).probeHold p else s)
        else
          let t := q.attempt.e.getD 0 + reset
          if s.now + 2048 < t then s else s.beginProbe l p t true)

/-- A write of FREEZE (08 R269). -/
def State.trkFreezeWrite (s : State) (l : Nat) (on : Bool) : State :=
  let was := s.bit (DEC_TRKCTL l) 0
  let s := s.setBit (DEC_TRKCTL l) 0 on
  if was = on ∨ !s.bit (DEC_TRKCFG l) 2 then s else s.updLoop l fun x => { x with freezePend := some on }

/-- A write of RESTART (08 R268). -/
def State.trkRestartWrite (s : State) (l : Nat) : State :=
  if s.bit (DEC_TRKCFG l) 2 then (s.updLoop l fun x => { x.clear with state := 1 }).trkEvent l 5 else s

/-- FREEZE (08 R269). -/
def execTrkFreeze (l : Fin 64) (on : Bool) (s : State) : Host.Outcome State Fault Refusal :=
  answer s (s.pf0 (s.trkFreezeWrite l.val on))

/-- RESTART (08 R268). -/
def execTrkRestart (l : Fin 64) (s : State) : Host.Outcome State Fault Refusal :=
  answer s (s.pf0 (s.trkRestartWrite l.val))

end Sys2Proof.Machine
end

