-- ==== Sys2Proof/Machine/Strata.lean ====
section
/-!
DEFINITION. Strata: judgement, verdicts and what follows from them, the journal's writing and release, and coalescing
(04 R145-R148; 09 R284-R299; 15 R445).
-/
namespace Sys2Proof.Machine

/-! Flint latches (15 R443-R445). -/

def State.flintLatched (s : State) (m : Nat) : Bool :=
  if m < 32 then s.bit FLINT_LATCH_LO m else s.bit FLINT_LATCH_HI (m - 32)

/-- Whether the latch of monitor `m` has been set in this tick: a clear then leaves it set (18 R502). -/
def State.latchFresh (s : State) (m : Nat) : Bool :=
  if m < 32 then !bitOf (s.beforeN FLINT_LATCH_LO) m else !bitOf (s.beforeN FLINT_LATCH_HI) (m - 32)

/-- An excursion of monitor `m` in this tick. -/
def State.latchAnew (s : State) (m : Nat) : State :=
  if m < 32 then s.setBefore FLINT_LATCH_LO (setBits (s.beforeN FLINT_LATCH_LO) m m 0)
  else s.setBefore FLINT_LATCH_HI (setBits (s.beforeN FLINT_LATCH_HI) (m - 32) (m - 32) 0)

/-- The latch of monitor `m` becomes `b`; monitors 0-3 drive TRIP_OUT_N. -/
def State.setLatch (s : State) (m : Nat) (b : Bool) : State :=
  let s := if m < 32 then s.setBit FLINT_LATCH_LO m b else s.setBit FLINT_LATCH_HI (m - 32) b
  let s := s.setBit (FLINT_STAT m) 2 b
  if m < 4 then s.updPins fun x => { x with tripOut := BitVec.ofNat 4 (setBits x.tripOut.toNat m m (bn b)) } else s

/-- The comparison of monitor `m` with its input at `x`: INSIDE and OUTSIDE hold in the hysteresis band. -/
def State.flintSee (s : State) (m : Nat) (x : FlintIn) : State :=
  let s := s.setBit (FLINT_STAT m) 1 (x == .band)
  match x with
  | .inside => s.setBit (FLINT_STAT m) 0 true
  | .band => s
  | .low | .high => s.setBit (FLINT_STAT m) 0 false

/-- A clear of monitor `m`'s latch: it clears when the input is INSIDE (15 R445). -/
def State.flintClear (s : State) (m : Nat) (x : FlintIn) : State :=
  let s := s.flintSee m x
  if x = .inside ∧ !s.latchFresh m then s.setLatch m false else s

/-- A clear of monitor `m` with the inputs that a command brings; for one that it does not bring, the comparison stands
as it was last seen. -/
def State.flintTry (s : State) (l : List FlintIn) (m : Nat) : State :=
  match l[m]? with
  | some x => s.flintClear m x
  | none => if s.bit (FLINT_STAT m) 0 && !s.bit (FLINT_STAT m) 1 && !s.latchFresh m then s.setLatch m false else s

/-- Monitors whose mask holds partition `p` and whose latches CLRMODE SHOT clears. -/
def State.flintShot (s : State) (p : Nat) (l : List FlintIn) : State :=
  let ms := (List.range 48).filter fun m =>
    s.hasMon m && s.bit (FLINT_CFG m) 0 && s.fld (FLINT_CFG m) 3 2 == 2 && s.bit (FLINT_CFG m) (4 + p) && s.flintLatched m
  s.forEach ms fun s m => s.flintTry l m

/-! Verdicts (09 R284-R288, R294, R295). -/

/-- Whether every cause but these is replayed (09 R285). -/
def notReplayed (c : Nat) : Bool := 7 ≤ c

/-- Whether taint `a` was detected before `b`; causes of one tick rank by the lower code. -/
def Taint.before (a b : Taint) : Bool := decide (a.tick < b.tick) || (a.tick == b.tick && decide (a.cause < b.cause))

/-- The first taint of a list. -/
def firstTaint (l : List Taint) : Option Taint :=
  l.foldl (fun m t => match m with | none => some t | some x => if t.before x then some t else some x) none

/-- The cause of an attempt's verdict (09 R286). -/
def Attempt.verdictTaint (a : Attempt) : Option Taint :=
  match firstTaint (a.taints.filter fun t => notReplayed t.cause) with
  | some t => some t
  | none => firstTaint a.taints

/-- The verdict of an attempt by itself: 0 delivered, 1 replayed, 2 failed, with its cause. -/
def State.ownVerdict (s : State) (p : Nat) : Nat × Nat :=
  let a := (s.part p).attempt
  match a.verdictTaint with
  | none => (0, 0)
  | some t =>
    if notReplayed t.cause || decide (s.fld (STRATA_CFG p) 3 0 ≤ a.num) then (2, t.cause) else (1, t.cause)

/-- Whether event `e` has been applied; a frame write leaves the fabric as it applies. -/
def State.applied (s : State) (e : Event) : Bool :=
  e.stage == .released && decide (e.inst ≤ 32 * s.now) && e.kind.frameWritten.isNone

/-- Whether event `e` belongs to the attempt of partition `p`; a SETBIAS runs only outside a shot (04 R135). -/
def Event.ofAttempt (e : Event) (p : Nat) : Bool :=
  e.part == p && !e.device && match e.kind with | .setbias _ _ => false | _ => true

/-- Whether partition `p`'s attempt is complete: E is known, its events are applied, its bindings resolved, its rounds
decoded or late (04 R145). -/
def State.attemptOver (s : State) (p : Nat) : Bool :=
  let q := s.part p
  let a := q.attempt
  let g := (s.graph p).run
  let mine := fun r : GRound => r.shot == a.shotNo && r.attempt == a.num && !r.late
  q.mode == .shot && q.job.isSome && a.active && q.probe.isNone && a.e.isSome
    && !(s.fab.events.any fun e => e.ofAttempt p && !s.applied e)
    && (s.slotsOf p).all (fun i => (s.slot i).queue.isEmpty)
    && !((g.busy.toList ++ g.backlog).any mine)

/-- A participating core after a verdict that is not delivered: the checkpoint's state, but for the instruction cache and
the count of barriers; no binding of the attempt stays. -/
def restoreCore (now ck : Core) : Core :=
  { ck with
    paged := now.paged, lines := now.lines, loading := now.loading, passed := now.passed, part := now.part, made := []
    left := [] }

/-- The cores of partition `p` go back to the SHOT (04 R147). -/
def State.coresReplay (s : State) (p : Nat) : State :=
  s.forEach (s.part p).ckpt.cores fun s x =>
    s.updQtz x.1 fun q => { restoreCore q x.2 with atShot := true, st := .stallShot, inShot := false }

/-- The cores of partition `p` go on after the ENDSHOT of a failed shot (04 R148). -/
def State.coresFail (s : State) (p c e : Nat) : State :=
  s.forEach (s.part p).ckpt.cores fun s x =>
    s.updQtz x.1 fun q => { restoreCore q x.2 with
      st := .running, atShot := false, inShot := false, lastCause := c, tl := 32 * e, pc := q.endPc.getD q.pc
      shotNo := q.shotNo, attempt := q.attempt }

/-- What borrowed entries and pins partition `p` still holds is its own from the shot boundary on (01 R43). -/
def State.endLoans (s : State) (p : Nat) : State :=
  let s := s.updFab fun b => { b with events := b.events.map fun e => if e.part = p then { e with lender := none } else e }
  s.updGeo fun g => { g with pages := g.pages.map fun x => if x.pinnedBy p then { x with lent := none } else x }

/-- The shot of partition `p` is over, delivered or failed: yields, loans, Flint latches, and a hold that waits. -/
def State.shotBoundary (s : State) (p : Nat) (inputs : List FlintIn) : State :=
  let s := (((s.flushShot p).endLoans p).flushLoans p).flintShot p inputs
  match (s.part p).holdReq with
  | some c => s.holdBoundary p ((s.part p).prevE.getD s.now) (some c)
  | none => s

/-- The attempt of partition `p` gets verdict `v` with cause `c` (09 R284, R287, R293, R299, R305). -/
def State.giveVerdict (s : State) (p v c : Nat) (inputs : List FlintIn) : State :=
  let a := (s.part p).attempt
  let e := a.e.getD s.now
  let bad := decide (v ≠ 0)
  let tag := mkTag s.now 0 p a.shotNo 0 3 bad false false false a.num
  let t := (a.taints.filter (·.cause == c)).head?
  let rtag := match t with | some t => t.tag | none => 0#64
  let err := fun (s : State) (cls det : Nat) =>
    s.queueRec p (errorRec cls c 1 (s.jobNum p) rtag (match t with | some t => t.tick | none => s.now)
      (match t with | some t => t.res | none => 0)
      (match t with | some t => if pageDetail t.res then t.det else det | none => det))
  let s := (s.jappend p (jentry 8 (if bad then v else 0xFF) c a.shotNo tag (lo32 e) (hi32 e) (lo32 s.now) (hi32 s.now))).1
  let s := s.maxReg (STRATA_JMAX p) (s.part p).attempt.entries
  let stop := (s.part p).jcount + (s.part p).jbuf.length
  let s := s.inc (STRATA_CAUSECNT p c)
  let s := s.updPart p fun q => { q with
    prevE := some e, attempt := { q.attempt with active := false, localDone := some s.now } }
  match v with
  | 0 =>
    let s := s.updJob p fun j => { j with delivered := j.delivered + 1 }
    let s := s.updPart p fun q => { q with
      relq := q.relq ++ a.recs
      relMarks := if a.recs.isEmpty then q.relMarks else q.relMarks ++ [(a.relFrom, stop, a.recs.length)] }
    let s := s.forEach (s.cast p) fun s k => s.updQtz k fun q => { q with lastCause := 0 }
    (s.trkBoundary p a.shotNo true).shotBoundary p inputs
  | 1 =>
    let s := (err s 1 a.num).inc (STRATA_REPLAYS p)
    ((s.rollback p).coresReplay p).updPart p fun q => { q with replay := true }
  | _ =>
    let s := (err s 2 (a.num + 1)).inc (STRATA_FAILS p)
    let s := s.updJob p fun j => { j with failedShots := j.failedShots + 1 }
    let s := (s.rollback p).coresFail p c e
    (s.trkBoundary p a.shotNo false).shotBoundary p inputs

/-- The verdict that a span agrees (09 R294): the failing device of lowest number, else the replaying one. -/
def State.spanVerdict (s : State) (p : Nat) : Nat × Nat × Option Nat :=
  let own := s.ownVerdict p
  let all := (s.devId, own.1, own.2) :: (s.part p).attempt.spanVerdicts
  let first := fun v : Nat => (all.filter (·.2.1 == v)).foldl
    (fun (m : Option (Nat × Nat × Nat)) x =>
      match m with | none => some x | some y => if x.1 < y.1 then some x else some y) none
  match first 2 with
  | some x => (2, x.2.2, none)
  | none =>
    if own.1 = 1 then (1, own.2, none)
    else match first 1 with
      | some x => (1, 3, some x.1)
      | none => (0, 0, none)

/-- The verdict of a spanned partition once every device has told its own; a clean attempt that another device
replays is tainted with LINK. -/
def State.judgeSpan (s : State) (p : Nat) (inputs : List FlintIn) : State :=
  let a := (s.part p).attempt
  if !((s.spanDevs p).all fun d => a.spanVerdicts.any (·.1 == d)) then s
  else
    let v := s.spanVerdict p
    let s := match v.2.2 with
      | some d => s.taintAtt p 3 0xF5 (resource 0 0) d (mkTag s.now 0 p a.shotNo 0 3 true false false false a.num)
      | none => s
    s.giveVerdict p v.1 v.2.1 inputs

/-- JUDGEMENT (04 R145, 09 R284): an attempt that is complete gets its verdict; in a span the verdicts are exchanged
first. -/
def execJudgement (p : Fin 8) (inputs : List FlintIn) (s : State) : Host.Outcome State Fault Refusal :=
  answer s (
    let p := p.val
    if !s.attemptOver p then s
    else
      let s := s.forVerdict p
      let v := s.ownVerdict p
      if (s.spanOf p).isNone then s.giveVerdict p v.1 v.2 inputs
      else if (s.part p).attempt.localDone.isSome then s.judgeSpan p inputs
      else ((s.updAtt p fun a => { a with localDone := some s.now }).sendVerdict p v.1 v.2).judgeSpan p inputs)

/-- VERDICT_TIMEOUT (09 R295). -/
def execVerdictTimeout (p : Fin 8) (s : State) : Host.Outcome State Fault Refusal :=
  answer s (
    let p := p.val
    let a := (s.part p).attempt
    let limit := match s.cast p with | c :: _ => s.fld (QTZ_SYNCTMO c) 19 0 | [] => 0
    match a.localDone with
    | none => s
    | some t =>
      if !a.active || (s.part p).probe.isSome || decide (s.now < t + limit)
          || (s.spanDevs p).all (fun d => a.spanVerdicts.any (·.1 == d)) then s
      else
        let tag := mkTag s.now 0 p a.shotNo 0 3 true false false false a.num
        let s := (s.taintAtt p 3 0xF5 (resource 0 0) 0 tag).forVerdict p
        s.giveVerdict p (if s.fld (STRATA_CFG p) 3 0 ≤ a.num then 2 else 1) 3 [])

/-! The journal (09 R297, R299). -/

/-- Entries of partition `p`'s buffer go to its area while its rate lasts, at most `fuel`. -/
def State.jdrain (s : State) (p : Nat) : Nat → State
  | 0 => s
  | k + 1 =>
    match (s.part p).jbuf with
    | [] => s
    | e :: l =>
      if (s.part p).jused < s.fld (STRATA_JRATE p) 12 0 ∧ s.jusedAll < 4096 then
        ((s.updPart p fun q => { q with jbuf := l }).jput p e).jdrain p k
      else s

/-- JOURNAL_WRITE (09 R297). -/
def execJournalWrite (p : Fin 8) (s : State) : Host.Outcome State Fault Refusal :=
  answer s (s.jdrain p.val (s.part p.val).jbuf.length)

/-- One record of the oldest delivered attempt not fully released has left the journal. -/
def relOne : List (Nat × Nat × Nat) → List (Nat × Nat × Nat)
  | [] => []
  | (n, m, k) :: l => if k ≤ 1 then l else (n, m, k - 1) :: l

/-- Delivered records leave the journal while the ring has room, at most `fuel` (09 R299, 13 R398). -/
def State.release (s : State) (p : Nat) : Nat → State
  | 0 => s
  | k + 1 =>
    let q := s.part p
    match q.relq with
    | [] => s
    | r :: l =>
      if r.journalled && decide (s.ringFree p ≤ q.waitq.length) then s
      else
        (s.updPart p fun q => { q with
          relq := l, waitq := q.waitq ++ [r]
          relMarks := if r.journalled then relOne q.relMarks else q.relMarks }).release p k

/-- RECORD_RELEASE (09 R299). -/
def execRecordRelease (p : Fin 8) (s : State) : Host.Outcome State Fault Refusal :=
  answer s (s.release p.val (s.part p.val).relq.length)

/-! Coalescing and counters. -/

/-- COALESCE_PERIOD_END (09 R289). -/
def execCoalescePeriodEnd (f : Fin 9) (key : Nat) (s : State) : Host.Outcome State Fault Refusal :=
  answer s (
    if f.val = 8 then
      let c := coalesceEnd s.ev.quiet key s.now
      let s := { s with ev := { s.ev with quiet := c.1 } }
      match c.2 with | some r => s.queueEv r | none => s
    else
      let c := coalesceEnd (s.part f.val).quiet key s.now
      let s := s.updPart f.val fun q => { q with quiet := c.1 }
      match c.2 with | some r => s.queueRec f.val r | none => s)

/-- STRATA_CNTCLR (09). -/
def State.strataCntclr (s : State) (p : Fin 8) : State :=
  (s.clearCounts ([STRATA_REPLAYS p.val, STRATA_FAILS p.val, MEM_PLENT p.val, MEM_PBORROWED p.val] ++
    (List.range 12).map (STRATA_CAUSECNT p.val))).zeroRegs [STRATA_JMAX p.val]

/-- The command of that write. -/
def execStrataCntclr (p : Fin 8) (s : State) : Host.Outcome State Fault Refusal :=
  answer s (s.pf0 (s.strataCntclr p))

end Sys2Proof.Machine
end

