-- ==== Sys2Proof/Machine/Capture.lean ====
section
/-!
DEFINITION. The commands of stream capture: requests, triggers, bursts, draining and gaps (10 R309-R333; 12 R329, R381,
R382).
-/
namespace Sys2Proof.Machine

/-! Capture requests (10 R318, R319). -/

/-- Codes of a refused request (10 R319). -/
def capBadReq : Nat := 1
def capRing : Nat := 2
def capChannel : Nat := 3
def capTapBusy : Nat := 4
def capLength : Nat := 5
def capState : Nat := 6
def capTrigger : Nat := 7

/-- Whether partition `p` runs a capture job whose block has OP `op`. -/
def State.capJob (s : State) (p op : Nat) : Bool :=
  match (s.part p).job with
  | some j => j.type == .capture && j.ops == [op]
  | none => false

/-- A capture job completes: with its effect `f` when no code `code` refuses it, and it refuses with nothing changed
(10 R318, 13 R400). -/
def State.capDone (s : State) (p op : Nat) (code : Option Nat) (f : State → State) : State :=
  if s.capJob p op then
    match code with
    | none => ((f s).completeJob p 0 0).jobOver p s.now
    | some c => (s.completeJob p 1 c).jobOver p s.now
  else s

/-- Whether the block `b` has OP `op`, a ring in range, and zeros in its reserved fields from offset `o`. -/
def capForm (b : List Byte) (op o : Nat) : Bool :=
  b.length == 64 && le b 0 1 == op && decide (le b 1 1 < 32) && allZero ((b.drop 4).take 4) && allZero (b.drop o)

/-- Whether a host buffer of this address, size and count word is in range. -/
def hostBufOk (addr size count : Nat) : Bool :=
  addr % 4096 == 0 && count % 8 == 0 && (List.range 15).any fun i => size == 2 ^ (16 + i)

/-- The code that refuses an ATTACH. -/
def State.attachCode (s : State) (p : Nat) (b : List Byte) : Option Nat :=
  let r := le b 1 1
  if !capForm b 1 32 || !hostBufOk (le b 8 8) (le b 16 4) (le b 24 8) then some capBadReq
  else if !s.ringOwned r p || s.fld (CAP_RCFG r) 5 4 == 1 then some capRing
  else if (s.ring r).host.isSome then some capState
  else none

/-- ATTACH. -/
def execAttach (p : Fin 8) (block : List Byte) (s : State) : Host.Outcome State Fault Refusal :=
  answer s (s.capDone p.val 1 (s.attachCode p.val block) fun s =>
    s.updRing (le block 1 1) fun g => { g with
      host := some (BitVec.ofNat 64 (le block 8 8), le block 16 4, BitVec.ofNat 64 (le block 24 8))
      out := [], drained := 0, consumed := 0 })

/-- The request that an ARM_RAW block makes. -/
def parseReq (p : Nat) (b : List Byte) : Req :=
  { part := p, ring := le b 1 1, reqid := le b 2 2, chmask := BitVec.ofNat 16 (le b 8 2), fmt := le b 10 1 == 1
    tsrc := le b 11 1, tidx := le b 12 2, tcode := le b 14 2, pre := le b 16 4, post := le b 20 4, count := le b 24 2
    forever := le b 24 2 == 0 }

/-- Whether the fields of an ARM_RAW block are in range. -/
def reqOk (b : List Byte) : Bool :=
  capForm b 2 26 && decide (le b 10 1 < 2) && decide (le b 11 1 < 4) && decide (le b 16 4 < 67108864) && le b 20 4 != 0
    && (match le b 11 1 with | 2 => decide (le b 12 2 < 48) | 3 => decide (le b 12 2 < 64) | _ => le b 12 2 == 0)

/-- Whether channel `m` may be tapped by partition `p`: it exists, is the partition's and is not retired. -/
def State.tapOk (s : State) (p m : Nat) : Bool := s.ichOwner m == some p && decide (m < s.nIch) && !s.bit (ICH_STAT m) 3

/-- Whether the trigger source of request `q` can use its index. -/
def State.trigOk (s : State) (q : Req) : Bool :=
  match q.tsrc with
  | 2 => s.hasMon q.tidx
  | 3 => s.micaOwner q.tidx == some q.part && decide (q.tidx < s.nMica)
  | _ => true

/-- The code that refuses an ARM_RAW. -/
def State.armCode (s : State) (p : Nat) (b : List Byte) : Option Nat :=
  let q := parseReq p b
  if !reqOk b then some capBadReq
  else if !s.ringOwned q.ring p || s.fld (CAP_RCFG q.ring) 5 4 == 1 then some capRing
  else if q.chans.isEmpty || !q.chans.all (s.tapOk p) then some capChannel
  else if s.nDie < (s.taps ++ q.chans).eraseDups.length then some capTapBusy
  else if s.ringUnits q.ring < q.need then some capLength
  else if (s.req q.key).isSome then some capState
  else if !s.trigOk q then some capTrigger
  else none

/-- ARM_RAW. -/
def execArmRaw (p : Fin 8) (block : List Byte) (s : State) : Host.Outcome State Fault Refusal :=
  answer s (s.capDone p.val 2 (s.armCode p.val block) fun s =>
    let q := parseReq p.val block
    State.reserve { s with reqs := s.reqs ++ [q] } q.key)

/-- The code that refuses a DISARM. -/
def State.disarmCode (s : State) (p : Nat) (b : List Byte) : Option Nat :=
  if !capForm b 3 26 then some capBadReq
  else if !s.ringOwned (le b 1 1) p then some capRing
  else if (s.req (65536 * p + le b 2 2)).isNone then some capState
  else none

/-- DISARM (10 R324). -/
def execDisarm (p : Fin 8) (block : List Byte) (s : State) : Host.Outcome State Fault Refusal :=
  answer s (s.capDone p.val 3 (s.disarmCode p.val block) fun s => s.endReq (65536 * p.val + le block 2 2))

/-- The code that refuses a DETACH. -/
def State.detachCode (s : State) (p : Nat) (b : List Byte) : Option Nat :=
  let r := le b 1 1
  if !capForm b 4 26 then some capBadReq
  else if !s.ringOwned r p then some capRing
  else if (s.ring r).host.isNone then some capState
  else none

/-- DETACH: every record written to the buffer has been counted when its copy ended, so the buffer goes at once. -/
def execDetach (p : Fin 8) (block : List Byte) (s : State) : Host.Outcome State Fault Refusal :=
  answer s (s.capDone p.val 4 (s.detachCode p.val block) fun s => s.updRing (le block 1 1) fun g => { g with host := none })

/-- RESERVATION_HELD (10 R320). -/
def execReservationHeld (p : Fin 8) (reqid : BitVec 16) (s : State) : Host.Outcome State Fault Refusal :=
  answer s (s.reserve (65536 * p.val + reqid.toNat))

/-! Triggers (10 R322-R324). -/

/-- SOFTWARE_TRIGGER. -/
def State.softTrigger (s : State) (p : Fin 8) : State :=
  if (s.part p.val).rbusy then s else s.triggerAll (fun q => q.part == p.val && q.tsrc == 0) s.now

/-- The command of that write. -/
def execSoftwareTrigger (p : Fin 8) (s : State) : Host.Outcome State Fault Refusal :=
  answer s (s.softTrigger p)

/-- TRIG_IN: the level sampled at this tick boundary. -/
def execTrigIn (high : Bool) (s : State) : Host.Outcome State Fault Refusal :=
  answer s (
    let low := s.pins.trigLow
    if high then
      let s := s.updPins fun x => { x with trigLow := 0 }
      if low ≠ 0 ∧ low + 1 ≤ s.now then s.triggerAll (fun q => q.tsrc == 1) s.now else s
    else if low = 0 then s.updPins fun x => { x with trigLow := s.now + 1 }
    else s)

/-- BURST_COMPLETE (10 R323): the last block has been written. -/
def execBurstComplete (p : Fin 8) (reqid : BitVec 16) (s : State) : Host.Outcome State Fault Refusal :=
  answer s (
    let k := 65536 * p.val + reqid.toNat
    match s.req k with
    | none => s
    | some q =>
      match q.burst with
      | none => s
      | some (_, e, n) =>
        if n < e then s
        else
          let s := s.unhold q.ring k
          if q.forever || 1 < q.count then
            (s.updReq k fun q => { q with
              burst := none, armed := false, resv := 0, zone := [], bursts := q.bursts + 1
              count := if q.forever then q.count else q.count - 1 }).reserve k
          else { s with reqs := s.reqs.filter (·.key != k) })

/-! Records (10 R313, R326-R331). -/

/-- SAMPLES_FLUSH (10 R313). -/
def execSamplesFlush (r : Fin 32) (k : Fin 64) (x : Fin 8) (s : State) : Host.Outcome State Fault Refusal :=
  answer s (
    if (s.ring r.val).coll.any fun c => c.mica == k.val && c.ctx == x.val &&
        decide (c.appended + s.fld (CAP_RFLUSH r.val) 23 0 ≤ s.now) then s.samplesClose r.val k.val x.val
    else s)

/-- The longest run of records from the front that may leave and fits in `room` bytes; a poisoned record travels alone
when `alone` holds. -/
def runOf (alone : Bool) : Nat → List CapRec → List CapRec
  | _, [] => []
  | room, c :: l =>
    if !c.hold.isEmpty || decide (room < 32 * c.units) then []
    else if alone && c.poison then [c]
    else
      let rest := runOf alone (room - 32 * c.units) l
      if alone && (match rest with | d :: _ => d.poison | [] => false) then [c] else c :: rest

/-- Bytes of a list of records. -/
def recBytes (l : List CapRec) : Nat := 32 * (l.map (·.units)).sum

/-- The records of ring `r` that its host buffer has space for, in ring order (10 R327). -/
def State.hostRun (s : State) (r : Nat) : List CapRec :=
  let p := s.fld (CAP_RCFG r) 2 0
  let g := s.ring r
  match g.host with
  | none => []
  | some (_, size, _) =>
    if !s.bit (CAP_RCFG r) 3 || s.fld (CAP_RCFG r) 5 4 == 1 || !s.hostUp p || (s.part p).rbusy then []
    else runOf false (g.consumed + size - g.drained) g.recs

/-- The ring whose turn it is to drain to its host buffer: round robin among those that have records and space
(10 R328). -/
def State.drainNext (s : State) : Option Nat :=
  ((List.range 32).map fun k => (s.fab.drainTurn + 1 + k) % 32).find? fun r => !(s.hostRun r).isEmpty

/-- Ring `r`, in its turn, copies what fits to its host buffer, then writes the count word (10 R327, R328); poisoned records
are reported (11 R345). -/
def State.drainHost (s : State) (r : Nat) : State :=
  if s.drainNext ≠ some r then s
  else
      let p := s.fld (CAP_RCFG r) 2 0
      let run := s.hostRun r
      let s := (s.updFab fun b => { b with drainTurn := r }).updRing r fun g => { g with
        recs := g.recs.drop run.length, out := run.reverse ++ g.out, drained := g.drained + recBytes run }
      let s := s.forEach (run.filter (·.poison)) fun s c => s.coalesced p (errKey 4 (resource 8 3))
        (errorRec 6 4 1 (s.jobNum p) c.tag s.now (resource 8 3) c.badPage)
      s.irqEvent p 2

/-- A MESH ring sends one BULK packet of at most 4,096 bytes (12 R381). -/
def State.drainMesh (s : State) (r : Nat) : State :=
  let g := s.ring r
  let dev := s.fld (CAP_RCFG r) 11 6
  match s.route dev with
  | none => s
  | some (q, h) =>
    let run := runOf true 4088 g.recs
    if run.isEmpty || (s.laneFor q (24 + recBytes run)).isNone then s
    else
      let s := s.updRing r fun g => { g with recs := g.recs.drop run.length, rseq := (g.rseq + 1) % 2 ^ 32 }
      s.putBulk (s.fld (CAP_RCFG r) 2 0) q (s.head dev 0 h) (s.fld (CAP_RCFG r) 16 12) g.rseq run

/-- RING_DRAIN (10 R326-R329). -/
def execRingDrain (r : Fin 32) (s : State) : Host.Outcome State Fault Refusal :=
  answer s (
    if !s.bit (CAP_RCFG r.val) 3 then s
    else if s.fld (CAP_RCFG r.val) 5 4 = 1 then s.drainMesh r.val else s.drainHost r.val)

/-- GAP_CLOSE (10 R331): a record fits again, which closes a RING_FULL gap; every other gap closes when its source's
next record is kept (`State.ringPut`). -/
def execGapClose (r : Fin 32) (cause src : Nat) (s : State) : Host.Outcome State Fault Refusal :=
  answer s (if cause = 1 then s.gapWrite r.val cause src else s)

/-! BULK packets (12 R381, R382). -/

/-- A record as it arrives. -/
def rawCap (x : RawRec) (poison : Bool) : CapRec :=
  { type := x.type.toNat, src := x.src.toNat, units := x.units.toNat, fns := x.fns, tag := x.tag, body := x.body,
      poison := poison }

/-- Samples that the loss of a record counts (10 R330). -/
def CapRec.samples (c : CapRec) : Nat :=
  match c.type with
  | 0x10 => (c.body.headD 0#32).toNat % 65536
  | 0x12 => 1024
  | _ => 0

/-- Packets held for ring `r` whose turn has come are written, at most `fuel`; a loss here has SRC 0xFF (10 R329). -/
def State.bulkTake (s : State) (r : Nat) : Nat → State
  | 0 => s
  | k + 1 =>
    match (s.ring r).early.find? (·.1 == (s.ring r).rseq) with
    | none => s
    | some (n, l) =>
      let s := s.updRing r fun g => { g with rseq := (n + 1) % 2 ^ 32, early := g.early.filter (·.1 != n) }
      (s.forEach l fun s c => s.ringPut r c c.samples 0xFF).bulkTake r k

/-- MEM_STAT.DEEP: 0 active, 1 entering, 2 self-refresh, 3 exiting. -/
def State.deep (s : State) : Nat := s.fld MEM_STAT 1 0

/-- An event that needs DRAM begins the exit from deep HOLD (11 R359). -/
def State.deepWake (s : State) : State :=
  if s.deep = 1 ∨ s.deep = 2 then
    ((s.setFld MEM_STAT 1 0 3).setBit MEM_CTRL 0 false).updPins fun x => { x with phyIdle := false }
  else s

/-- The records of a BULK packet from device `src` for ring `r` (12 R382). -/
def State.takeBulk (s : State) (q src r rseq : Nat) (l : List CapRec) : State :=
  let g := s.ring r
  let late := decide (rseq ≠ g.rseq) && decide (2 ^ 31 ≤ (rseq + 2 ^ 32 - g.rseq) % 2 ^ 32)
  if !s.bit (CAP_RCFG r) 3 || s.fld (CAP_RCFG r) 5 4 != 2 || s.fld (CAP_RCFG r) 11 6 != src || late
      || g.early.any (·.1 == rseq) || (decide (rseq ≠ g.rseq) && s.deep == 0 && decide (64 ≤ g.early.length)) then
    s.inc (MESH_DROP q)
  else
    let s := s.deepWake.updRing r fun g => { g with early := g.early ++ [(rseq, l)] }
    if s.deep = 0 then s.bulkTake r (g.early.length + 1) else s

/-- BULK: a packet for this device is taken, and another goes on along its route (12 R371, R379). -/
def execMeshBulk (q : Fin 4) (h : Head) (ring : Fin 32) (rseq : Nat) (recs : List RawRec) (s : State) :
    Host.Outcome State Fault Refusal :=
  answer s (
    let q := q.val
    let l := recs.map fun x => rawCap x h.poison
    if s.nPort ≤ q || s.portState q != 4 then s
    else
    let s := s.oweAck q
    if !h.legal then s.inc (MESH_DROP q)
    else if h.dst.val = s.devId then s.takeBulk q h.src.val ring.val (rseq % 2 ^ 32) l
    else if h.hops.val = 0 then s.inc (MESH_DROP q)
    else match s.route h.dst.val with
      | none => s.inc (MESH_DROP (s.fld (MESH_ROUTE h.dst.val) 1 0))
      | some (x, _) =>
        s.putBulk h.dpart.val x { h with hops := Fin.ofNat 8 (h.hops.val - 1) } ring.val (rseq % 2 ^ 32) l)

/-! Counters. -/

/-- CAP_RCNTCLR (10 R333). -/
def State.capRcntclr (s : State) (r : Fin 32) : State :=
  s.clearCounts [CAP_RWRITTEN r.val, CAP_RDROPPED r.val, CAP_RGAPS r.val]

/-- The command of that write. -/
def execCapRcntclr (r : Fin 32) (s : State) : Host.Outcome State Fault Refusal :=
  answer s (s.pf0 (s.capRcntclr r))

/-- CAP_PTRIG_CLEAR (10 R333). -/
def State.capPtrigClear (s : State) (p : Fin 8) : State :=
  s.clearCounts [CAP_TRIGCNT p.val, CAP_TRIGIGN p.val]

/-- The command of that write. -/
def execCapPtrigClear (p : Fin 8) (s : State) : Host.Outcome State Fault Refusal :=
  answer s (s.pf0 (s.capPtrigClear p))

end Sys2Proof.Machine
end

