-- ==== Sys2Proof/Machine/Host.lean ====
section
/-!
DEFINITION. The host interface: taking jobs, doorbells, hold and resume, records, interrupts and the link (01 R29-R31;
04 R111, R112, R118-R121; 13 R390-R409).
-/
namespace Sys2Proof.Machine

/-! Access. -/

/-- Whether the VF of partition `p` can be reached: it is enabled, the link is up, and no reset of it runs (13 R392,
R412). -/
def State.vfOn (s : State) (p : Nat) : Bool :=
  decide (p < s.nPart) && decide (p < s.fld HOST_LINK 12 9) && s.pins.linkUp && !(s.part p).rbusy

def State.setDberr (s : State) (p : Nat) : State := s.updPart p fun q => { q with dberr := true, fresh := 7 :: q.fresh }

/-- Advance of a 64-bit count `old` to the low 32 bits `v` of its new value. -/
def advance (old v : Nat) : Nat := (v + 2 ^ 32 - old % 2 ^ 32) % 2 ^ 32

/-! Conditions for taking a job (01 R30; 13 R392, R398, R399). -/

def State.opHold (s : State) : Bool := s.bit GLB_STAT 4

/-- Whether a latched monitor has partition `p` in its mask (01 R30). -/
def State.latchedOn (s : State) (p : Nat) : Bool :=
  (List.range 48).any fun m => s.hasMon m && s.flintLatched m && s.bit (FLINT_CFG m) (4 + p)

/-- Whether another condition of 01 R30 than the resume keeps partition `p` from taking jobs. -/
def State.blocked (s : State) (p : Nat) : Bool := s.mode != .run || s.opHold || s.latchedOn p

/-- Whether the image gives partition `p` any resource. -/
def State.hasResources (s : State) (p : Nat) : Bool :=
  !((s.ochsOf p).isEmpty && (s.ichsOf p).isEmpty && (s.qtzOf p).isEmpty && (s.micasOf p).isEmpty && (s.slotsOf p).isEmpty
    && (s.biasesOf p).isEmpty && (s.framesOf p).isEmpty && (s.ringsOf p).isEmpty)

/-- Whether partition `p` would take its next job but for records that wait. -/
def State.wantsJob (s : State) (p : Nat) : Bool :=
  let q := s.part p
  decide (p < s.nPart) && decide (p < s.fld HOST_LINK 12 9) && q.enabled && !q.rbusy && decide (q.taken < q.posted)
    && q.job.isNone && s.hostUp p && s.hasResources p && s.deep == 0
    && (q.mode != .hold || (!s.blocked p && !q.resumeNeeded && (q.holdAt != s.now || q.holdAt == 0)))

def State.mayTake (s : State) (p : Nat) : Bool := s.wantsJob p && decide (s.queued p ≤ 128)

/-! The job descriptor (13 R399). -/

/-- Whether the descriptor's fields are in range. -/
def descOk (d : List Byte) : Bool :=
  let len := le d 4 4
  let addr := le d 8 8
  d.length == 64 && decide (le d 2 2 < 2) && allZero (d.drop 48) &&
    match le d 0 1 with
    | 1 => decide (le d 1 1 < 2) && decide (64 ≤ len) && decide (len ≤ 16793600) && addr % 8 == 0
    | 2 => le d 1 1 == 0 && decide (16 ≤ len) && decide (len ≤ 1048560) && len % 16 == 0 && addr % 8 == 0
        && allZero ((d.drop 24).take 24)
    | 3 => le d 1 1 == 0 && len == 64 && addr % 64 == 0 && allZero ((d.drop 24).take 24)
    | _ => false

/-! The program object (04 R119-R121). -/

/-- The list in pieces of `n` bytes, at most `fuel`. -/
def chunks (n : Nat) : Nat → List Byte → List (List Byte)
  | 0, _ => []
  | k + 1, l => l.take n :: chunks n k (l.drop n)

def parseDesc (b : List Byte) : Desc :=
  { pframe := le b 0 2 % 1024, poch := le b 2 1, ich := le b 3 1, pwave := le b 4 2, pgain := BitVec.ofNat 16 (le b 6 2)
    dframe := le b 8 2 % 1024, mica := le b 10 1, dec := le b 11 1, wofs := le b 12 4, wlen := le b 16 4
    mentry := le b 20 2 }

/-- Whether measurement descriptor `b` is in range and names what partition `p` owns (04 R120, R121). -/
def State.mdescOk (s : State) (p : Nat) (b : List Byte) : Bool :=
  let d := parseDesc b
  let own := fun f : Nat => s.frameOwn f == some p
  (d.poch == 255 || (decide (d.poch < 64) && le b 0 2 < 1024 && s.ochOwner d.poch == some p && own d.pframe))
    && decide (d.ich < 16) && s.ichOwner d.ich == some p && le b 8 2 < 1024 && own d.dframe
    && decide (d.mica < 64) && s.micaOwner d.mica == some p && d.mica / 4 == d.ich && decide (d.dec < 4)
    && decide (d.wofs < 1048576) && decide (1 ≤ d.wlen) && decide (d.wlen ≤ 1048576) && allZero (b.drop 22)

def objDescs (b : List Byte) : List (List Byte) := chunks 32 (le b 6 2) (b.drop (le b 16 4))
def objEntries (b : List Byte) : List (List Byte) := chunks 8 (le b 24 1) (b.drop (le b 20 4))

/-- Whether the program object passes the checks of 04 R121 for partition `p`. -/
def State.progOk (s : State) (p : Nat) (b : List Byte) : Bool :=
  let n := b.length
  let cl := le b 12 4
  let ents := objEntries b
  le b 0 4 == 0x50515A54 && le b 4 2 == 1 && crc32 (blank b 28 4) == le b 28 4
    && decide (le b 6 2 ≤ 256) && le b 8 4 % 8 == 0 && cl % 8 == 0 && decide (8 ≤ cl) && decide (cl ≤ 16777216)
    && decide (le b 8 4 + cl ≤ n) && le b 16 4 % 32 == 0 && decide (le b 16 4 + 32 * le b 6 2 ≤ n)
    && le b 20 4 % 8 == 0 && decide (1 ≤ le b 24 1) && decide (le b 24 1 ≤ 16) && decide (le b 20 4 + 8 * le b 24 1 ≤ n)
    && allZero ((b.drop 25).take 3) && allZero ((b.drop 32).take 32)
    && ents.all (fun e => allZero ((e.drop 1).take 3) && s.qtzOwner (le e 0 1) == some p && decide (le e 0 1 < s.nQtz)
        && decide (8 * le e 4 4 < cl))
    && ((ents.map fun e => le e 0 1).eraseDups.length == ents.length)
    && (objDescs b).all (s.mdescOk p)

/-- Bytes of a partition's program area (11 R349). -/
def State.progArea (s : State) : Nat := s.fld (MEM_RSIZE 4) 12 0 * 16777216 / s.nPart

/-! Starting a job. -/

/-- The RNG seed of a core (04 R112). -/
def seedOf (n : Nat) : BitVec 64 := if n = 0 then 0x9E3779B97F4A7C15#64 else BitVec.ofNat 64 n

/-- Core `c` at job start (04 R112). -/
def State.startCore (s : State) (c pc : Nat) (d : List Byte) (len : Nat) : Core :=
  { st := .running
    v := (List.range 4).foldl (fun t i => put (fun _ => 0#32) t i (BitVec.ofNat 32 (le d (32 + 4 * i) 4))) []
    tl := 32 * (s.now + s.fld (QTZ_CFG c) 31 16), pc := pc, rng := seedOf (le d 24 8), part := true
    paged := decide (32768 < len), lines := if len ≤ 32768 then [] else List.range 2048, loading := true }

/-- A core that the new job does not name: it stays halted, and the job's start replaces its state too (04 R111, R112;
log 134). -/
def State.idleCore (s : State) (c : Nat) (d : List Byte) : Core :=
  { s.startCore c 0 d 0 with st := .halted, part := false, loading := false }

/-- An armed epoch load is cancelled when a partition leaves HOLD (02 R53). -/
def State.armCancel (s : State) : State :=
  if s.time.armed then
    ((s.updTime fun t => { t with armed := false, follow := none }).setBit TIME_CTRL 0 false).stick TIME_STAT 6
  else s

/-- The program job in hand starts (01 R29; 04 R111, R112; 07 R239; 08 R247). -/
def State.startProgram (s : State) (p : Nat) (mode : PMode) (d b : List Byte) : State :=
  let code := (chunks 8 (le b 12 4 / 8) (b.drop (le b 8 4))).map fun x => BitVec.ofNat 64 (leBytes x)
  let s := s.updJob p fun j => { j with code := code, descs := (objDescs b).map parseDesc }
  let s := if (s.part p).mode = .hold then s.armCancel else s
  let s := s.setMode p mode
  let s := s.updPart p fun q => { q with
    attempt := {}, prevE := none, shotE := none, shotNext := 0, replay := false, ckpt := {}, probe := none,
    probeActs := [], cold := [] }
  let s := s.forEach (s.slotsOf p) fun s i => s.updSlot i fun _ => {}
  let s := s.updGraph p fun g => { g with run := { pauli := g.run.pauli } }
  let s := s.forEach (s.loopsOf p) fun s l => s.updLoop l fun x => { x with due := false }
  let s := s.forEach (s.qtzOf p) fun s c => s.updQtz c fun _ => s.idleCore c d
  s.forEach (objEntries b) fun s e => s.updQtz (le e 0 1) fun _ => s.startCore (le e 0 1) (le e 4 4) d code.length

/-- The job in hand is refused with code `c` (13 R400). -/
def State.refuseJob (s : State) (p c : Nat) : State := (s.completeJob p 1 c).jobOver p s.now

/-- A descriptor of partition `p` is taken: T advances, the job's number is the new T (13 R399, R400), and stopped Mica cores
serve windows again (07 R239). -/
def State.takeJob (s : State) (p : Nat) (d : List Byte) (body : Option (List Byte)) : State :=
  let len := le d 4 4
  let type : JobType := match le d 0 1 with | 1 => .program | 2 => .library | _ => .capture
  let s := s.updPart p fun q => { q with
    taken := q.taken + 1, jobWait := 0
    job := some {
      num := q.taken + 1, typeByte := le d 0 1, type := type, notify := bitOf (le d 2 1) 0
      usertag := BitVec.ofNat 64 (le d 16 8), startTick := s.now, wait := q.jobWait
      waitRank := if q.jobWait = 0 then 5 else 3 } }
  let s := s.forEach (s.micasOf p) fun s k => s.updMica k fun m => { m with faulted := false, stopped := false }
  if !descOk d then s.refuseJob p 1
  else match body.filter (fun b => b.length == len), type with
    | none, .capture => s.refuseJob p capBadReq
    | none, _ => s.refuseJob p 2
    | some b, .capture =>
      if le b 0 1 = 0 ∨ 4 < le b 0 1 then s.refuseJob p capBadReq else s.updJob p fun j => { j with ops := [le b 0 1] }
    | some b, .library =>
      let l := chunks 16 (len / 16) b
      (s.updJob p fun j => Job.skipBad (s.objInRange p)
        { j with ops := l.map fun o => le o 0 1, opObjs := l.map fun o => le o 2 2 } (len / 16)).libEnd p
    | some b, .program =>
      if !s.progOk p b then s.refuseJob p 3
      else if s.progArea < len then s.refuseJob p 4
      else s.startProgram p (if le d 1 1 = 0 then .shot else .stream) d b

/-- Whether the descriptor is a program job of the mode that partition `p` is not in (01 R31, R529). -/
def State.otherMode (s : State) (p : Nat) (d : List Byte) : Bool :=
  descOk d && le d 0 1 == 1 &&
    match (s.part p).mode with
    | .hold => false
    | .shot => le d 1 1 == 1
    | .stream => le d 1 1 == 0

/-- JOB_TAKE (13 R399). A program job of the other mode is taken only after a tick of HOLD; a descriptor whose host read
failed is refused. -/
def execJobTake (p : Fin 8) (desc body : Option (List Byte)) (s : State) : Host.Outcome State Fault Refusal :=
  answer s (
    let p := p.val
    if !s.mayTake p then s
    else match desc with
      | none =>
        let s := s.updPart p fun q => { q with
          taken := q.taken + 1, jobWait := 0, job := some { num := q.taken + 1, typeByte := 0, type := .capture } }
        s.refuseJob p 2
      | some d => if s.otherMode p d then s.holdBoundary p s.now none else s.takeJob p d body)

/-! Doorbells (13 R394, R396, R397, R409). -/

/-- JOB_DOORBELL (13 R394). -/
def State.jobDoorbell (s : State) (p : Fin 8) (value : Word) : State :=
    let p := p.val
    let q := s.part p
    let a := advance q.taken value.toNat
    if !s.vfOn p then s
    else if !q.enabled || decide (64 < a) || decide (a < q.posted - q.taken) then s.setDberr p
    else (s.updPart p fun q => { q with posted := q.taken + a }).deepWake

/-- The command of that write. -/
def execJobDoorbell (p : Fin 8) (value : Word) (s : State) : Host.Outcome State Fault Refusal :=
  answer s (s.jobDoorbell p value)

/-- RESULT_DOORBELL (13 R396). -/
def State.resultDoorbell (s : State) (p : Fin 8) (value : Word) : State :=
    let p := p.val
    let q := s.part p
    let a := advance q.consumed value.toNat
    if !s.vfOn p then s
    else if !q.enabled || decide (q.written < q.consumed + a) then s.setDberr p
    else s.updPart p fun q => { q with consumed := q.consumed + a }

/-- The command of that write. -/
def execResultDoorbell (p : Fin 8) (value : Word) (s : State) : Host.Outcome State Fault Refusal :=
  answer s (s.resultDoorbell p value)

/-- CAPTURE_DOORBELL (13 R394, R397). -/
def State.captureDoorbell (s : State) (p : Fin 8) (r : Fin 32) (value : Word) : State :=
    let p := p.val
    let g := s.ring r.val
    let a := advance g.consumed value.toNat
    if !s.vfOn p then s
    else if !s.ringOwned r.val p || g.host.isNone || decide (g.drained < g.consumed + a) then s.setDberr p
    else s.updRing r.val fun g => { g with consumed := g.consumed + a }

/-- The command of that write. -/
def execCaptureDoorbell (p : Fin 8) (r : Fin 32) (value : Word) (s : State) : Host.Outcome State Fault Refusal :=
  answer s (s.captureDoorbell p r value)

/-- EVENT_DOORBELL (13 R409). -/
def State.eventDoorbell (s : State) (value : Word) : State :=
    let a := advance s.ev.consumed value.toNat
    if !s.bit HOST_EVCTL 0 || decide (s.ev.written < s.ev.consumed + a) then s.stick HOST_EVCTL 5
    else { s with ev := { s.ev with consumed := s.ev.consumed + a } }

/-- The command of that write. -/
def execEventDoorbell (value : Word) (s : State) : Host.Outcome State Fault Refusal :=
  answer s (s.pf0 (s.eventDoorbell value))

/-! Enabling rings (13 R393, R409, R414). -/

/-- RING_ENABLE: a write of VF_RINGCTL. -/
def State.ringctlWrite (s : State) (p : Fin 8) (data : Word) : State :=
    let p := p.val
    if !s.vfOn p then s
    else
      let s := s.setV p VF_RINGCTL (setBits (s.vregN p VF_RINGCTL) 31 16 (bits data.toNat 31 16))
      let ok := s.vregN p VF_JRING_LO % 4096 == 0 && s.vregN p VF_RRING_LO % 4096 == 0 && s.vregN p VF_RCNT_LO % 8 == 0
        && decide (bits (s.vregN p VF_RSIZE) 4 0 ≤ 16)
      if !bitOf data.toNat 0 || (s.part p).enabled then s
      else if !ok then s.updPart p fun q => { q with cfgerr := true, fresh := 8 :: q.fresh }
      else s.updPart p fun q => { q with
        enabled := true, posted := 0, taken := 0, written := 0, consumed := 0, countWord := 0, ring := [] }

/-- The command of that write. -/
def execRingEnable (p : Fin 8) (data : Word) (s : State) : Host.Outcome State Fault Refusal :=
  answer s (s.ringctlWrite p data)

/-- EVENT_RING_ENABLE: a write of HOST_EVCTL. -/
def State.evctlWrite (s : State) (data : Word) : State :=
    let d := data.toNat
    let s := s.setFld HOST_EVCTL 31 16 (bits d 31 16)
    let s := if bits d 4 1 ≤ 8 then s.setFld HOST_EVCTL 4 1 (bits d 4 1) else s
    let s := if bitOf d 5 then s.setBit HOST_EVCTL 5 false else s
    let s := if bitOf d 6 then s.setBit HOST_EVCTL 6 false else s
    let ok := s.fld HOST_EVBASE_LO 11 0 == 0 && s.fld HOST_EVCNT_LO 2 0 == 0 && decide (bits d 4 1 ≤ 8)
    if !bitOf d 0 || s.bit HOST_EVCTL 0 then s
    else if ok then s.setBit HOST_EVCTL 0 true
    else s.stick HOST_EVCTL 6

/-- The command of that write. -/
def execEventRingEnable (data : Word) (s : State) : Host.Outcome State Fault Refusal :=
  answer s (s.pf0 (s.evctlWrite data))

/-! Hold and resume (13 R407). -/

/-- A hold request or a short press for partition `p` (01 R29, 13 R407): at the shot boundary, at the job's end, or at
once. -/
def State.holdRequest (s : State) (p : Nat) (c : HoldCause) : State :=
  let q := s.part p
  let shared := match q.job with | some j => j.type != .program | none => false
  match q.mode with
  | .hold => s
  | .shot =>
    if shared || q.attempt.active || q.replay then s.updPart p fun q => { q with holdReq := q.holdReq.or (some c) }
    else s.holdBoundary p s.now (some c)
  | .stream =>
    if shared then s.updPart p fun q => { q with holdReq := q.holdReq.or (some c) } else s.enterHold p c []

/-- HOLD of VF_CMD, or of HOST_PCMD when `pf0`: with a RESUME that the other carries in the same tick it acts as HOLD alone
(13 R407, 18 R502). -/
def State.holdBy (s : State) (p : Fin 8) (pf0 : Bool) : State :=
  if (s.part p.val).rbusy then s
  else
    let other := if pf0 then 21 else 23
    let s := s.updPart p.val fun q => { q with
      resumeNeeded := q.resumeNeeded || q.fresh.contains other, fresh := (if pf0 then 22 else 20) :: q.fresh }
    s.holdRequest p.val .request

/-- HOLD_REQUEST. -/
def State.holdCommand (s : State) (p : Fin 8) : State := s.holdBy p false

/-- The command of that write. -/
def execHoldRequest (p : Fin 8) (s : State) : Host.Outcome State Fault Refusal :=
  answer s (s.holdCommand p)

/-- RESUME of VF_CMD, or of HOST_PCMD when `pf0`: ignored unless a resume is needed, and with a HOLD that the other carries
in the same tick (13 R407, 18 R502). -/
def State.resumeBy (s : State) (p : Fin 8) (inputs : List FlintIn) (pf0 : Bool) : State :=
  let q := s.part p.val
  if q.resumeNeeded && !q.rbusy && !q.fresh.contains (if pf0 then 20 else 22) then
    (s.updPart p.val fun q => { q with
      resumeNeeded := false, fresh := (if pf0 then 23 else 21) :: q.fresh }).flintShot p.val inputs
  else s

/-- RESUME. -/
def State.resumeCommand (s : State) (p : Fin 8) (inputs : List FlintIn) : State := s.resumeBy p inputs false

/-- The command of that write. -/
def execHostResume (p : Fin 8) (inputs : List FlintIn) (s : State) : Host.Outcome State Fault Refusal :=
  answer s (s.resumeCommand p inputs)

/-! Records and interrupts (13 R395, R398, R408, R409). -/

/-- Waiting records go to partition `p`'s result ring, then the count word. -/
def State.writeRecs (s : State) (p : Nat) : State :=
  let q := s.part p
  let l := q.waitq.take (s.ringFree p)
  if l.isEmpty then s
  else
    let ends := l.filter (·.typ == 7)
    let told := q.notifies.filter fun n => ends.any fun r => r.w1.toNat == n % 2 ^ 32
    let s := s.updPart p fun q => { q with
      waitq := q.waitq.drop l.length, ring := l.reverse ++ q.ring, written := q.written + 32 * l.length
      countWord := q.written + 32 * l.length, done := q.done + ends.length
      notifies := q.notifies.filter fun n => !told.contains n }
    let s := s.irqEvent p 0
    if told.isEmpty then s else s.irqEvent p 1

/-- Waiting records go to the PF0 event ring, then the count word. -/
def State.writeEvs (s : State) : State :=
  let l := s.ev.waitq.take s.evFree
  if l.isEmpty then s
  else
    State.irqEvent { s with ev := { s.ev with
      waitq := s.ev.waitq.drop l.length, ring := l.reverse ++ s.ev.ring, written := s.ev.written + 32 * l.length
      countWord := s.ev.written + 32 * l.length } } 8 0

/-- RECORD_WRITE. -/
def execRecordWrite (f : Fin 9) (s : State) : Host.Outcome State Fault Refusal :=
  answer s (if f.val = 8 then s.writeEvs else s.writeRecs f.val)

/-- IRQ_MODERATION: a vector that waits fires once its interval has passed. -/
def execIrqModeration (f : Fin 9) (v : Fin 4) (s : State) : Host.Outcome State Fault Refusal :=
  answer s (
    let k := 4 * f.val + v.val
    let quiet := match look (fun _ => none) s.irq.lastAt k with
      | none => true
      | some t => decide (t + s.irqMod f.val v.val ≤ s.now)
    if (look (fun _ => none) s.irq.pendAt k).isSome && quiet && s.hostUp f.val then s.irqSend f.val v.val else s)

/-! The link (13 R390, R391). -/

/-- PCIE_LINK_UP: HOST_LINK shows the rate and width, and the VFs that the host enables (log 16). -/
def execPcieLinkUp (speed : Fin 8) (width : Fin 32) (s : State) : Host.Outcome State Fault Refusal :=
  answer s (
    if s.boot.held || s.boot.thermal || s.boot.extest then s
    else
      let s := s.updPins fun x => { x with linkUp := true }
      s.setN HOST_LINK (speed.val + 16 * width.val + 512 * s.nPart))

/-- PCIE_LINK_DOWN. -/
def execPcieLinkDown (s : State) : Host.Outcome State Fault Refusal :=
  answer s ((s.updPins fun x => { x with linkUp := false }).setFld HOST_LINK 8 0 0)

/-- POWER_STATE_CHANGE. -/
def execPowerStateChange (f : Fin 9) (d3 : Bool) (s : State) : Host.Outcome State Fault Refusal :=
  answer s (if f.val = 8 then s.updPins fun x => { x with d3 := d3 } else s.updPart f.val fun q => { q with d3 := d3 })

end Sys2Proof.Machine
end

