-- ==== Sys2Proof/Machine/Errors.lean ====
section
/-!
DEFINITION. Hardware errors: counting, retirement and its effects (09 R301-R305; 05 R175, R179; 06 R196, R209; 11 R344,
R347; 12 R385).
-/
namespace Sys2Proof.Machine

/-! Counting (09 R301). -/

/-- Counts an error against the resource of key `k`; the second part is the count within W. -/
def State.countErr (s : State) (k : Nat) : State × Nat :=
  let w := s.fld STRATA_PERM 31 16 * 640000
  let l := s.now :: (s.err k).times.filter fun t => decide (s.now ≤ t + w)
  (s.updErr k fun e => { e with times := l }, l.length)

/-- Errors that make a fault permanent. -/
def State.permK (s : State) : Nat := s.fld STRATA_PERM 3 0

/-! Owners and records (09 R304, R305). -/

/-- The partition that owns a resource; device-owned resources have none. The index of a lane is that of its channel or
group, with 64 x lane. -/
def State.resOwner (s : State) (kind index : Nat) : Option Nat :=
  match kind with
  | 1 => s.ochOwner index
  | 2 => s.ochOwner (index % 64)
  | 3 => s.ichOwner index
  | 4 => s.ichOwner (index % 64 / 4)
  | 5 => s.micaOwner index
  | 6 => s.qtzOwner index
  | 11 => s.slotOwner index
  | 12 => (s.obj index).map (·.part)
  | 13 => s.frameOwn index
  | 14 | 15 => some index
  | _ => none

/-- Whether the resource exists on this variant. -/
def State.resExists (s : State) (kind index : Nat) : Bool :=
  match kind with
  | 0 => index == 0
  | 1 => decide (index < s.nOch)
  | 2 => decide (index % 64 < s.nOch) && decide (index / 64 < s.tones (index % 64))
  | 3 => decide (index < s.nIch)
  | 4 => decide (index % 64 < 4 * s.nIch) && decide (index / 64 < 8)
  | 5 => decide (index < s.nMica)
  | 6 => decide (index < s.nQtz)
  | 7 => decide (index < 8 * s.nPort)
  | 9 => decide (index = 4) || decide (index < s.nDie)
  | 10 => decide (index < 48) && s.hasMon index
  | 11 => decide (index < 512)
  | 12 => decide (index < 65536)
  | 13 => decide (index < 1024)
  | 14 => decide (index < s.nPart)
  | 15 => decide (index < s.nPart) && s.hasGarnet
  | _ => false

/-- The index that records name (09 R304). -/
def recIndex (kind index : Nat) : Nat := if kind = 2 ∨ kind = 4 then index % 64 else index

/-- An error record goes to the owner's result ring, or to PF0. -/
def State.errorOut (s : State) (owner : Option Nat) (r : Rec) : State :=
  match owner with
  | some p => s.queueRec p r
  | none => s.queueEv r

/-! Effects of a retirement (09 R302, R303). -/

/-- A begun attempt of partition `p` that holds a retired resource is tainted. -/
def State.retiredCause (s : State) (p res : Nat) (tag : BitVec 64) : State := s.cause p 10 0xF4 res 0 tag

/-- Channel `n` is retired: muted, then OFF. -/
def State.retireOch (s : State) (n : Nat) : State :=
  if s.bit (OCH_STAT n) 3 then s
  else
    let s := (((s.asyncMute n).ochOff n).setBit (OCH_STAT n) 3 true).incFld STRATA_CAP1 6 0
    let hit := (s.fab.pulses.filter fun u => u.ch == n && !u.done).map (·.part)
    s.forEach hit.eraseDups fun s p => s.retiredCause p (resource 1 n) 0#64

/-- Tone lane `l` of channel `n` is withdrawn (05 R179, 09 R303). -/
def State.retireTone (s : State) (n l : Nat) : State :=
  let u := s.fld (OCH_STAT n) 12 8
  if u = 0 then s
  else
    let s := (s.setFld (OCH_STAT n) 12 8 (u - 1)).setFld STRATA_CAP0 9 0 (s.fld STRATA_CAP0 9 0 - 1)
    let hit := (s.fab.pulses.filter fun x => x.ch == n && x.lane == some l && !x.done).map (·.part)
    let s := s.forEach hit.eraseDups fun s p => s.retiredCause p (resource 2 n) 0#64
    if u = 1 then s.retireOch n else s

/-- Windows that a retirement leaves unserved: each is tainted, and its binding resolves as indeterminate. -/
def State.retireWins (s : State) (res : Nat) (hit : Window → Bool) : State :=
  s.forEach (s.fab.wins.filter fun w => hit w && !w.served) fun s w =>
    (s.retiredCause w.part res (s.winTag w false)).loseWindow w (max (s.now + 1) (w.we + decResolve w.dec - 2)) false

/-- Input channel `m` is retired and powers down. -/
def State.retireIch (s : State) (m : Nat) : State :=
  if s.bit (ICH_STAT m) 3 then s
  else
    let s := ((s.setBit (ICH_STAT m) 3 true).setBit (ICH_STAT m) 0 false).incFld STRATA_CAP1 12 8
    s.retireWins (resource 3 m) fun w => w.ich == m

/-- Demodulation lane `l` of group `k` (of Mica core `k`) is withdrawn (06 R196, R209). -/
def State.retireDemod (s : State) (k l : Nat) : State :=
  let u := s.groupLanes k
  if u = 0 then s
  else
    let s := s.setFld (ICH_STAT (k / 4)) (7 + 4 * (k % 4)) (4 + 4 * (k % 4)) (u - 1)
    let s := s.setFld STRATA_CAP0 25 16 (s.fld STRATA_CAP0 25 16 - 1)
    let hit := (s.fab.wins.filter fun w => w.mica == k && w.lane == some l && !w.served).map (·.part)
    let s := s.forEach hit.eraseDups fun s p => s.retiredCause p (resource 4 k) 0#64
    if (List.range 4).all fun g => s.groupLanes (4 * (k / 4) + g) == 0 then s.retireIch (k / 4) else s

/-- Mica core `k` is retired and halts. -/
def State.retireMica (s : State) (k : Nat) : State :=
  let s := s.updMica k fun m => { m with stopped := true, ctx := m.ctx.map fun x => (x.1, x.2.idle) }
  let s := s.incFld STRATA_CAP1 22 16
  s.retireWins (resource 5 k) fun w => w.mica == k

/-- The unacknowledged packets of lane `l` go out again on the other lanes of its port (12 R373). -/
def State.moveRetry (s : State) (q l : Nat) : State :=
  let x := s.lane q l
  let new := fun n => x.wait.any (·.seq == n)
  let s := s.updLane q l fun x => { x with retry := [], wait := [], cur := [], bulk := [] }
  s.forEach x.retry fun s e => s.pushPacket q { e.2.2 with delay := 0, again := e.2.2.again || !new e.1 }

/-- Mesh lane `l` of port `q` leaves its port; a port without lanes is DEAD (12 R385). -/
def State.retireLane (s : State) (q l : Nat) : State :=
  let s := (s.incFld STRATA_CAP1 29 24).moveRetry q l
  if (List.range 8).all (s.laneRetired q) then s.setFld (MESH_PSTAT q) 2 0 6 else s

/-- The effect of retiring a resource. -/
def State.retireEffect (s : State) (kind index : Nat) : State :=
  match kind with
  | 1 => s.retireOch index
  | 2 => s.retireTone (index % 64) (index / 64)
  | 3 => s.retireIch index
  | 4 => s.retireDemod (index % 64) (index / 64)
  | 5 => s.retireMica index
  | 7 => s.retireLane (index / 8) (index % 8)
  | _ => s

/-- Whether a resource of this kind is retired at all. -/
def retirable (kind : Nat) : Bool := (1 ≤ kind && kind ≤ 5) || kind == 7

/-- A hardware error against a resource other than a DRAM page (09 R301, R302). -/
def State.hwError (s : State) (kind index cause : Nat) : State :=
  let k := resource kind index
  let res := resource kind (recIndex kind index)
  if (s.err k).retired then s
  else
    let c := s.countErr k
    let s := c.1
    let p := s.resOwner kind index
    let rec_ := fun cls : Nat =>
      errorRec cls cause 1 (match p with | some p => s.jobNum p | none => 0) 0#64 s.now res c.2
    if retirable kind then
      if s.permK ≤ c.2 then
        ((s.updErr k fun e => { e with retired := true }).errorOut p (rec_ 5)).retireEffect kind index
      else s
    else (if s.permK ≤ c.2 then s.stick STRATA_STAT 0 else s).errorOut p (rec_ 8)

/-! DRAM pages (11 R344, R347, R349). -/

/-- Region code of a page, 0 for none. -/
def State.regionOf (s : State) (page : Nat) : Nat :=
  match (List.range 5).find? fun i =>
    let b := s.fld (MEM_RBASE i) 24 0
    decide (b ≤ page) && decide (page < b + 4096 * s.fld (MEM_RSIZE i) 12 0) with
  | some i => i + 1
  | none => 0

/-- The key of a page's errors. -/
def pageKey (page : Nat) : Nat := 2 ^ 32 + page

/-- An ECC or write-CRC event in a page: the page is retired once K fall within W, while its region has a spare. -/
def State.pageError (s : State) (page cause : Nat) : State :=
  let s := s.updMem fun m => { m with pages := put (fun _ => 0) m.pages page (look (fun _ => 0) m.pages page + 1) }
  let code := s.regionOf page
  if (s.err (pageKey page)).retired then s
  else
    let c := s.countErr (pageKey page)
    let s := c.1
    let rec_ := fun cls : Nat => errorRec cls cause 1 0 0#64 s.now (resource 8 code) page
    if code = 0 ∨ c.2 < s.permK then s
    else if s.regN (MEM_RSPARE (code - 1)) = 0 then
      let s := (s.stick MEM_STAT 5).stick STRATA_STAT 0
      if c.2 = s.permK then s.queueEv (rec_ 8) else s
    else
      let s := s.updErr (pageKey page) fun e => { e with retired := true }
      let s := s.setN (MEM_RSPARE (code - 1)) (s.regN (MEM_RSPARE (code - 1)) - 1)
      let s := ((s.inc (MEM_RRETIRED (code - 1))).inc STRATA_CAP2).queueEv (rec_ 5)
      s.updMem fun m => { m with copying := m.copying ++ [page] }

/-- HARDWARE_ERROR (09 R301): counted against its resource; one with a taint cause also taints the owner's attempt, or
is reported, and one of a device-owned resource is reported on PF0. -/
def execHardwareError (kind : Byte) (index : BitVec 24) (cause : Nat) (s : State) : Host.Outcome State Fault Refusal :=
  answer s (
    let kind := kind.toNat
    let i := index.toNat
    if kind = 8 then s.pageError i cause
    else if !s.resExists kind i then s
    else
      let res := resource kind (recIndex kind i)
      let s := if cause = 0 ∨ 11 < cause then s
        else match s.resOwner kind i with
          | some p => s.cause p cause 0xFF res 0 0#64
          | none => if !retirable kind then s else s.coalescedEv (errKey cause res) (errorRec 9 cause 1 0 0#64 s.now res (s.regN TIME_STAT))
      s.hwError kind i cause)

end Sys2Proof.Machine
end

