-- ==== Sys2Proof/Machine/Memory.lean ====
section
/-!
DEFINITION. The commands of the memory controller: maintenance, errors and their readers, the page predictor, neighbour
refresh, and deep HOLD (11 R336-R360; 09 R299).
-/
namespace Sys2Proof.Machine

/-- Whether channel `c` exists and its DRAM runs: it is not in self-refresh. -/
def State.memOn (s : State) (c : Nat) : Bool := decide (c < s.nChan) && s.deep != 2

/-! Maintenance (11 R337, R341, R348). -/

/-- The channel of the 256-byte block `n` (11 R336): the channel counts are powers of 2, and as many low bits of [19:17] are
taken. -/
def State.blockChannel (s : State) (n : Nat) : Nat := (n % s.nChan) ^^^ (bits n 19 17 % s.nChan)

/-- The rows next to row `r` that exist: 16 Gb ×8 devices have 65,536 rows in a bank (11 R334, R353; log 149). -/
def neighbours (r : Nat) : List Nat := (if r = 0 then [] else [r - 1]) ++ (if r + 1 < 65536 then [r + 1] else [])

/-- Pending directed refreshes of bank `b` of channel `c` are issued, in the fallback by activating the neighbours; any
refresh closes the row (11 R351, R353). -/
def State.issueDirected (s : State) (c b : Nat) : State :=
  let l := (s.bank (64 * c + b)).pending
  let own := if s.bit (MEM_CHSTAT c) 9 then [] else l.flatMap neighbours
  (s.inc (MEM_NRCNT c) l.length).updBank (64 * c + b) fun x => { x with
    row := none, pending := [], refreshed := if l.isEmpty then x.refreshed else own }

/-- REFRESH (11 R337): the bank of this number closes in every bank group of both subchannels. -/
def execMemRefresh (c : Fin 8) (bank : Fin 32) (s : State) : Host.Outcome State Fault Refusal :=
  answer s (
    if !s.memOn c.val then s
    else
      let s := s.updMem fun m => { m with
        refreshes := put (fun _ => 0) m.refreshes c.val (look (fun _ => 0) m.refreshes c.val + 1) }
      s.forEach ((List.range 64).filter fun b => b % 4 == bank.val % 4) fun s b => s.issueDirected c.val b)

/-- MR4_POLL (11 R337). -/
def execMr4Poll (c : Fin 8) (hot : Bool) (s : State) : Host.Outcome State Fault Refusal :=
  answer s (
    if !s.memOn c.val then s
    else (s.updMem fun m => { m with interval := put (fun _ => false) m.interval c.val hot }).setBit (MEM_CHSTAT c.val) 8 hot)

/-- ZQ_CALIBRATION (11 R341). -/
def execZqCalibration (c : Fin 8) (s : State) : Host.Outcome State Fault Refusal :=
  answer s (
    if !s.memOn c.val then s
    else s.updMem fun m => { m with zq := put (fun _ => 0) m.zq c.val (look (fun _ => 0) m.zq c.val + 1) })

/-- DQS_TRACKING (11 R341). -/
def execDqsTracking (c : Fin 8) (s : State) : Host.Outcome State Fault Refusal :=
  answer s (
    if !s.memOn c.val then s
    else s.updMem fun m => { m with dqs := put (fun _ => 0) m.dqs c.val (look (fun _ => 0) m.dqs c.val + 1) })

/-- Pages of every region; the regions lie one after the other from address 0 (11 R349). -/
def State.regionPages (s : State) : Nat := 4096 * ((List.range 5).map fun i => s.fld (MEM_RSIZE i) 12 0).sum

/-- A corrected read of a burst in `page`, on channel `c` (11 R344). -/
def State.correctedAt (s : State) (c page : Nat) : State := (s.inc (MEM_CECNT c)).pageError page 4

/-- An uncorrectable read of a burst in `page`, on channel `c` (11 R344). -/
def State.uncorrectableAt (s : State) (c page : Nat) : State := (s.inc (MEM_UECNT c)).pageError page 4

/-- SCRUB (11 R348): the next page of the patrol is read. -/
def execMemScrub (corrected uncorrectable : Bool) (c : Fin 8) (s : State) : Host.Outcome State Fault Refusal :=
  answer s (
    let n := s.regionPages
    if !s.bit MEM_CFG 9 || n = 0 || s.deep != 0 || decide (s.nChan ≤ c.val) then s
    else
      let page := s.mem.scrubAt
      let s := s.updMem fun m => { m with scrubAt := (page + 1) % n }
      let s := if corrected then s.correctedAt c.val page else s
      if uncorrectable then s.uncorrectableAt c.val page else s)

/-! Errors (11 R343-R346). -/

/-- CORRECTED_READ (11 R344). -/
def execCorrectedRead (c : Fin 8) (page : Nat) (s : State) : Host.Outcome State Fault Refusal :=
  answer s (if !s.memOn c.val then s else s.correctedAt c.val page)

/-- The list without the `n` records that the journal held which follow the first `k` of them. -/
def dropHeld : Nat → Nat → List Rec → List Rec
  | _, _, [] => []
  | k + 1, n, r :: l => r :: dropHeld (if r.journalled then k else k + 1) n l
  | 0, 0, l => l
  | 0, n + 1, r :: l => if r.journalled then dropHeld 0 n l else r :: dropHeld 0 (n + 1) l

/-- The delivered attempt of mark `m` has an uncorrectable journal entry (09 R299): none of its records is released. It is
replayed while its checkpoint is the one held, no other attempt has begun and the limit is not spent; else its shot
fails. -/
def State.recallAtt (s : State) (p : Nat) (m : Nat × Nat × Nat) : State :=
  let q := s.part p
  let can := !q.attempt.active && q.attempt.relFrom == m.1 && q.attempt.localDone.isSome && q.mode == .shot && q.job.isSome
    && q.probe.isNone && q.ckpt.valid && decide (q.attempt.num < s.fld (STRATA_CFG p) 3 0)
  let before := ((q.relMarks.takeWhile (· != m)).map (·.2.2)).sum
  let s := s.updPart p fun q => { q with relMarks := q.relMarks.erase m, relq := dropHeld before m.2.2 q.relq }
  let s := s.updJob p fun j => { j with
    delivered := j.delivered - 1, failedShots := if can then j.failedShots else j.failedShots + 1 }
  let s := (s.inc (STRATA_CAUSECNT p 4)).inc (if can then STRATA_REPLAYS p else STRATA_FAILS p)
  let cls := if can then 1 else 2
  let s := s.queueRec p (errorRec cls 4 1 (s.jobNum p) 0#64 s.now (resource 0x0E p) (q.attempt.num + cls - 1))
  if can then ((s.rollback p).coresReplay p).updPart p fun q => { q with replay := true } else s

/-- Journal entry number `n` of partition `p` is uncorrectable (09 R299): the attempt in progress is tainted where the entry
is its own, one already delivered is recalled, and an entry of any other attempt concerns nobody. -/
def State.journalEcc (s : State) (p n : Nat) : State :=
  let q := s.part p
  if q.attempt.active && decide (q.attempt.relFrom ≤ n) then s.cause p 4 0xFF (resource 0x0E p) 0 0#64
  else match q.relMarks.find? fun m => decide (m.1 ≤ n) && decide (n < m.2.1) with
    | some m => s.recallAtt p m
    | none => s

/-- Both copies of a round of partition `p`'s Garnet history are uncorrectable (11 R346). -/
def State.garnetEcc (s : State) (p : Nat) : State :=
  (s.cause p 4 0xF2 (resource 0x0F p) 0 0#64).updGraph p fun g => { g with run := { pauli := g.run.pauli } }

/-- What the reader of uncorrectable data in `page` does (11 R345). -/
def State.poisonTo (s : State) (page : Nat) : Reader → State
  | .fill n pg =>
    match s.obj n, s.geo.pages.find? fun g => g.obj == n && g.page == pg && !g.filled && g.isPinned with
    | some o, some g => s.fillError n pg o g.loadPin
    | _, _ => s
  | .fetch c => match s.qtzLive c.val with | some p => s.fetchError c.val p | none => s
  | .journal p n => s.journalEcc p.val n
  | .garnet p both => if both then s.garnetEcc p.val else s
  | .drain r => s.updRing r.val fun g => { g with recs := match g.recs with
      | x :: l => { x with poison := true, badPage := page } :: l
      | [] => [] }
  | .window => s.updRd fun x => { x with poisoned := true }
  | .scrub => s

/-- UNCORRECTABLE_READ (11 R345). -/
def execUncorrectableRead (c : Fin 8) (page : Nat) (reader : Reader) (s : State) : Host.Outcome State Fault Refusal :=
  answer s (if !s.memOn c.val then s else (s.uncorrectableAt c.val page).poisonTo page reader)

/-- WRITE_CRC_ERROR (11 R343): `repeats` attempts of the write of a burst have failed; each up to the third is
repeated, and after the fourth the burst is written poisoned. A burst that does not lie in the page and on the channel named
(11 R336) is none that the channel writes. -/
def execWriteCrcError (c : Fin 8) (page burst : Nat) (repeats : Nat) (s : State) : Host.Outcome State Fault Refusal :=
  answer s (
    let n := min repeats 3
    if !s.memOn c.val || burst / 64 != page || s.blockChannel (burst / 4) != c.val then s
    else
      let s := State.forEach (s.inc (MEM_CRCRETRY c.val) n) (List.range n) fun s _ => s.pageError page 4
      let clean := s.updMem fun m => { m with poisoned := m.poisoned.filter (· != burst) }
      if repeats < 4 then clean
      else (clean.updMem fun m => { m with poisoned := burst :: m.poisoned }).inc (MEM_CRCFAIL c.val))

/-! The page predictor and neighbour refresh (11 R351-R353). -/

/-- Whether a bank keeps its row open after an access, under page policy `pol`. -/
def Bank.keepOpen (b : Bank) (pol : Nat) : Bool :=
  match pol with
  | 1 => false
  | 2 => true
  | _ => decide (2 ≤ (look (fun _ => 1#2) b.ctr b.hist.toNat).toNat)

/-- The bank after an access at row `r`. -/
def Bank.access (b : Bank) (r pol : Nat) : Bank :=
  let o := decide (r = b.last)
  let c := (look (fun _ => 1#2) b.ctr b.hist.toNat).toNat
  let b := { b with
    ctr := put (fun _ => 1#2) b.ctr b.hist.toNat (BitVec.ofNat 2 (if o then min (c + 1) 3 else c - 1))
    hist := BitVec.ofNat 4 (2 * b.hist.toNat + bn o), last := r }
  { b with row := if b.keepOpen pol then some r else none }

/-- NEIGHBOUR_REFRESH (11 R353): an access at `row` that must activate it may be sampled; a sample queues a directed
refresh, or is dropped when four are pending. -/
def execNeighbourRefresh (c : Fin 8) (bank : Fin 64) (row : Nat) (s : State) : Host.Outcome State Fault Refusal :=
  answer s (
    let c := c.val
    let i := 64 * c + bank.val
    if !s.memOn c then s
    else
      let b := s.bank i
      let cnt := match b.row with | none => MEM_PEMPTY c | some r => if r = row then MEM_PHIT c else MEM_PCONF c
      let s := (s.inc cnt).updBank i fun b => b.access row (s.fld MEM_CFG 1 0)
      if b.row = some row then s
      else
        let n := s.fab.freeN
        let s := s.updFab fun f => { f with freeN := n + 1 }
        if !Config.activateSampled n then s
        else if b.pending.length < 4 then s.updBank i fun b => { b with pending := b.pending ++ [row] }
        else (s.inc (MEM_NRDROP c)).stick MEM_STAT 6)

/-- ROW_IDLE_CLOSE (11 R351): an idle bank closes its row, and its pending directed refreshes are issued. -/
def execRowIdleClose (c : Fin 8) (bank : Fin 64) (s : State) : Host.Outcome State Fault Refusal :=
  answer s (if !s.memOn c.val then s else s.issueDirected c.val bank.val)

/-- PAGE_REMAP (11 R347): the copy of a retired page is complete. -/
def execPageRemap (page : Nat) (s : State) : Host.Outcome State Fault Refusal :=
  answer s (
    if s.mem.copying.contains page then
      s.updMem fun m => { m with
        copying := m.copying.filter (· != page), remaps := put (fun _ => 0) m.remaps page (1 + s.regionOf page) }
    else s)

/-! Deep HOLD (11 R357-R359). -/

/-- Whether a request for deep HOLD is accepted (11 R357). -/
def State.deepOk (s : State) : Bool :=
  s.mode == .run && (List.range s.nPart).all (fun p =>
      (s.part p).mode == .hold && (s.part p).posted == (s.part p).taken && (s.part p).job.isNone)
    && s.reqs.all (fun q => !q.armed) && (List.range 32).all (fun r => (s.ring r).recs.isEmpty) && !s.mem.rewrite

/-- A write of 1 to MEM_CTRL.DEEP_REQ. -/
def State.deepReq (s : State) : State :=
  if s.deep ≠ 0 then s
  else if s.deepOk then (s.setBit MEM_CTRL 0 true).setFld MEM_STAT 1 0 1
  else (s.stick MEM_STAT 2).setBit MEM_CTRL 0 false

/-- DEEP_REQ (11 R357). -/
def execDeepReq (s : State) : Host.Outcome State Fault Refusal := answer s (s.pf0 s.deepReq)

/-- DEEP_ENTRY (11 R358). -/
def execDeepEntry (s : State) : Host.Outcome State Fault Refusal :=
  answer s (
    if s.deep ≠ 1 then s
    else
      let s := s.forEach (List.range s.nChan) fun s c =>
        State.setBit (s.forEach (List.range 64) fun s b => s.issueDirected c b) (MEM_CHSTAT c) 7 true
      (s.setFld MEM_STAT 1 0 2).updPins fun x => { x with phyIdle := true })

/-- DEEP_EXIT (11 R359): DEEP_REQ is written 0. -/
def execDeepExit (s : State) : Host.Outcome State Fault Refusal := answer s (s.pf0 s.deepWake)

/-- Channel `c` after its training or verification (11 R338, R339, R353). -/
def State.trainChan (s : State) (c : Nat) (t : ChTrain) : State :=
  let a := MEM_CHSTAT c
  let s := (((s.setBit a 1 (t.failStep.val == 0)).setBit a 2 t.fromRecord).setFld a 6 3 t.failStep.val).setBit a 7 false
  s.setBit a 9 (t.drfm && !s.bit MEM_CFG 8)

/-- The channels after training; a full training may leave a record to rewrite (11 R339, R340). -/
def State.trainAll (s : State) (l : List ChTrain) : State :=
  let ts := (List.range s.nChan).map fun c => (c, l.getD c {})
  let s := s.forEach ts fun s x => s.trainChan x.1 x.2
  if ts.any fun x => !x.2.fromRecord && x.2.changed then s.updMem fun m => { m with rewrite := true } else s

/-- MEM_CNTCLR (11 R360). -/
def State.memCntclr (s : State) (c : Fin 8) : State :=
    if s.nChan ≤ c.val then s
    else s.clearCounts [MEM_CECNT c.val, MEM_UECNT c.val, MEM_CRCRETRY c.val, MEM_CRCFAIL c.val, MEM_NRCNT c.val,
        MEM_NRDROP c.val,
      MEM_PHIT c.val, MEM_PEMPTY c.val, MEM_PCONF c.val]

/-- The command of that write. -/
def execMemCntclr (c : Fin 8) (s : State) : Host.Outcome State Fault Refusal :=
  answer s (s.pf0 (s.memCntclr c))

end Sys2Proof.Machine
end

