-- ==== Sys2Proof/Machine/Mesh.lean ====
section
/-!
DEFINITION. The commands of the mesh ports and lanes: bring-up, retry, sleep and test (12 R361-R389).
-/
namespace Sys2Proof.Machine

/-! Ports (12 R366). -/

def pDown : Nat := 0
def pDetect : Nat := 1
def pTraining : Nat := 2
def pIdentify : Nat := 3
def pUp : Nat := 4
def pMismatch : Nat := 5
def pDead : Nat := 6
def pTest : Nat := 7

def State.setPort (s : State) (q st : Nat) : State := s.setFld (MESH_PSTAT q) 2 0 st

/-- A LINK packet of kind `k` on lane `l`: 1 IDENT, 2 SLEEP, 3 a request for sleep, 4 its withdrawal, 5 ACK (12 R367, R373,
R386). -/
def State.notice (s : State) (q k l : Nat) : State :=
  (s.updPort q fun x => { x with notices := (k, l) :: x.notices }).updLane q l fun x =>
      { x with linkWait := x.linkWait ++ [k] }

/-- A packet that waits at port `q`, which goes DOWN, takes the route that is left, or is dropped and counted
(12 R369, R379). -/
def State.reroute (s : State) (q : Nat) (p : Packet) : State :=
  match s.route (p.body.getD 4 0#8).toNat with
  | some (r, _) => s.pushPacket r p
  | none => s.inc (MESH_DROP q)

/-- Port `q` goes DOWN: its lanes start afresh and the retry buffers are discarded (12 R369). -/
def State.portDown (s : State) (q : Nat) : State :=
  let held := (s.port q).wait
  let s := s.updPort q fun x => { x with lanes := [], wait := [], timeWait := [], ackOwed := false }
  let s := if s.portState q = pDead then s else (s.setPort q pDown).setBit (MESH_PSTAT q) 29 false
  s.forEach held fun s p => s.reroute q p

/-- PORT_PRESENT (12 R367): an enabled port goes from DOWN to DETECT, outside BOOT. -/
def execPortPresent (q : Fin 4) (s : State) : Host.Outcome State Fault Refusal :=
  answer s (
    let q := q.val
    if s.nPort ≤ q then s
    else
      let s := s.setBit (MESH_PSTAT q) 28 true
      let on := s.mode != .boot && s.mode != .failed && s.bit (MESH_PCFG q) 0
      if on && s.portState q == pDown then (s.setPort q pDetect).updPort q fun x => { x with detectAt := s.now } else s)

/-- LANE_SIGNAL_DETECT (12 R367). -/
def execLaneSignalDetect (q : Fin 4) (l : Fin 8) (s : State) : Host.Outcome State Fault Refusal :=
  answer s (
    let q := q.val
    if s.nPort ≤ q || s.laneRetired q l.val then s
    else if s.portState q = pDetect ∨ s.portState q = pTraining then
      (s.updLane q l.val fun x => { x with signal := true }).setPort q pTraining
    else if s.portState q = pUp then s.updLane q l.val fun x => { x with signal := true }
    else s)

/-- A training of lane `l` has failed: it counts against the lane while another lane of the port is trained (12 R368). -/
def State.trainFail (s : State) (q l : Nat) : State :=
  let s := (s.inc (MESH_TRAINFAIL q)).updLane q l fun x => { x with trained := false, failed := true, retraining := false }
  if (List.range 8).any fun k => k != l && (s.lane q k).trained then s.hwError 7 (8 * q + l) 0 else s

/-- Lane `l` has trained: its coder starts afresh (12 R364, R367). -/
def State.trainGood (s : State) (q l : Nat) : State :=
  s.updLane q l fun x =>
    { x.fresh with trained := true, aligned := true, signal := true, failed := false, retraining := false }

/-- LANE_TRAINED (12 R367). -/
def execLaneTrained (q : Fin 4) (l : Fin 8) (good : Bool) (s : State) : Host.Outcome State Fault Refusal :=
  answer s (
    let x := s.lane q.val l.val
    if s.nPort ≤ q.val || s.portState q.val != pTraining || !x.signal || x.trained || x.failed then s
    else if good then s.trainGood q.val l.val else s.trainFail q.val l.val)

/-- IDENTIFY (12 R367): every lane that showed signal has trained or failed, or 80 ms have passed; one lane at least has
trained. -/
def execIdentify (q : Fin 4) (s : State) : Host.Outcome State Fault Refusal :=
  answer s (
    let q := q.val
    let ls := (List.range 8).filter fun l => (s.lane q l).trained
    let settled := (List.range 8).all fun l => let x := s.lane q l; !x.signal || x.trained || x.failed
    if s.nPort ≤ q || s.portState q != pTraining || ls.isEmpty
        || (!settled && decide (s.now < (s.port q).detectAt + 51200000)) then s
    else (s.setPort q pIdentify).forEach ls fun s l => s.notice q 1 l)

/-- IDENT (12 R367): the partner's identity takes the port to UP or MISMATCH. -/
def execMeshIdent (q : Fin 4) (cluster : BitVec 16) (dev : Fin 64) (parent : Bool) (s : State) :
    Host.Outcome State Fault Refusal :=
  answer s (
    let q := q.val
    if s.nPort ≤ q || s.portState q != pIdentify then s
    else
      let ok := cluster.toNat == s.fld MESH_ID 23 8 &&
        (!s.bit (MESH_PCFG q) 1 || dev.val == s.fld (MESH_PCFG q) 7 2)
      let s := (s.setFld (MESH_PSTAT q) 27 22 dev.val).setBit (MESH_PSTAT q) 29 parent
      s.setPort q (if ok then pUp else pMismatch))

/-- PORT_ABSENT (12 R369). -/
def execPortAbsent (q : Fin 4) (s : State) : Host.Outcome State Fault Refusal :=
  answer s (if s.nPort ≤ q.val then s else (s.setBit (MESH_PSTAT q.val) 28 false).portDown q.val)

/-- SIGNAL_LOST (12 R369): every lane has lost its signal. -/
def execSignalLost (q : Fin 4) (s : State) : Host.Outcome State Fault Refusal :=
  answer s (
    if s.nPort ≤ q.val then s
    else if s.portState q.val = pUp then s.portDown q.val
    else s.forEach (List.range 8) fun s l => s.updLane q.val l fun x => { x with signal := false })

/-! Sleep (12 R386, R387). -/

/-- Lanes whose transmit side is asked to sleep do so once their retry buffers are empty; the time lane never does. Packets
that wait at the port then take the lanes that have room. -/
def State.settleSleep (s : State) (q : Nat) : State :=
  State.forEach (s.placeWaiting q) (List.range 8) fun s l =>
    let x := s.lane q l
    if s.sleepAsked q l && s.laneUp q l && !x.txSleep && x.retry.isEmpty then
      (s.updLane q l fun x => { x with txSleep := true }).notice q 2 l
    else s

/-- TXSLEEP (12 R386). -/
def State.txsleepWrite (s : State) (q : Fin 4) (mask : Byte) : State :=
  if s.nPort ≤ q.val then s else (s.setFld (MESH_SLEEP q.val) 7 0 mask.toNat).settleSleep q.val

/-- The command of that write. -/
def execTxsleep (q : Fin 4) (mask : Byte) (s : State) : Host.Outcome State Fault Refusal :=
  answer s (s.pf0 (s.txsleepWrite q mask))

/-- RXSLEEP (12 R386): the partner is asked to sleep, or to wake. -/
def State.rxsleepWrite (s : State) (q : Fin 4) (mask : Byte) : State :=
    let q := q.val
    if s.nPort ≤ q then s
    else
      let old := s.fld (MESH_SLEEP q) 15 8
      let s := s.setFld (MESH_SLEEP q) 15 8 mask.toNat
      s.forEach (List.range 8) fun s l =>
        let on := bitOf mask.toNat l
        if on = bitOf old l || s.timeLane q == some l then s else s.notice q (if on then 3 else 4) l

/-- The command of that write. -/
def execRxsleep (q : Fin 4) (mask : Byte) (s : State) : Host.Outcome State Fault Refusal :=
  answer s (s.pf0 (s.rxsleepWrite q mask))

/-- SLEEP_NOTICE (12 R386). -/
def execSleepNotice (q : Fin 4) (l : Fin 8) (s : State) : Host.Outcome State Fault Refusal :=
  answer s (
    if s.nPort ≤ q.val || !s.laneUp q.val l.val || s.timeLane q.val == some l.val then s
    else s.updLane q.val l.val fun x => { x with rxSleep := true })

/-- RXSLEEP_REQUEST (12 R386): the partner asks the local transmit side to sleep, or no longer does. -/
def execRxsleepRequest (q : Fin 4) (l : Fin 8) (on : Bool) (s : State) : Host.Outcome State Fault Refusal :=
  answer s (
    if s.nPort ≤ q.val then s
    else (s.updLane q.val l.val fun x => { x with peerReq := on }).settleSleep q.val)

/-- LANE_WAKE (12 R386): a direction that no side asks to sleep is back in service. -/
def execLaneWake (q : Fin 4) (l : Fin 8) (tx : Bool) (s : State) : Host.Outcome State Fault Refusal :=
  answer s (
    let q := q.val
    let l := l.val
    if s.nPort ≤ q then s
    else if tx then
      if s.bit (MESH_SLEEP q) l || (s.lane q l).peerReq then s else s.updLane q l fun x => { x with txSleep := false }
    else if s.bit (MESH_SLEEP q) (8 + l) then s
    else s.updLane q l fun x => { x with rxSleep := false })

/-! Lanes of a port that is up (12 R365, R368, R373). -/

/-- LANE_RETRAIN (12 R368): a lane of an UP port that is out of service without a sleep notice trains again. -/
def execLaneRetrain (q : Fin 4) (l : Fin 8) (good : Bool) (s : State) : Host.Outcome State Fault Refusal :=
  answer s (
    let q := q.val
    let l := l.val
    if s.nPort ≤ q || s.portState q != pUp || s.laneUp q l || s.laneRetired q l || (s.lane q l).rxSleep
        || (s.lane q l).testing then s
    else if good then (s.trainGood q l).settleSleep q else (s.trainFail q l).settleSleep q)

/-- ALIGNMENT_LOSS (12 R365). -/
def execAlignmentLoss (q : Fin 4) (l : Fin 8) (s : State) : Host.Outcome State Fault Refusal :=
  answer s (
    if s.nPort ≤ q.val || !(s.lane q.val l.val).trained then s
    else (s.updLane q.val l.val fun x => { x with aligned := false }).settleSleep q.val)

/-- LANE_REALIGN (12 R365). -/
def execLaneRealign (q : Fin 4) (l : Fin 8) (s : State) : Host.Outcome State Fault Refusal :=
  answer s (
    if s.nPort ≤ q.val || !(s.lane q.val l.val).trained then s
    else s.updLane q.val l.val fun x => { x with aligned := true })

/-- The retry buffer after an acknowledgement of every packet up to `seq`. -/
def ackTo {α : Type} (seq : Nat) (l : List (Nat × α)) : List (Nat × α) :=
  if l.any (·.1 == seq) then (l.dropWhile (·.1 != seq)).drop 1 else l

/-- The lane sends every packet from sequence number `n` on again, with RETRY set; one of them that still waits for its first
sending only waits (12 R373). -/
def Lane.resend (x : Lane) (n : Nat) : Lane :=
  let rest := if x.retry.any (·.1 == n) then x.retry.dropWhile (·.1 != n) else x.retry
  let again := fun e : Nat × Nat × Packet =>
    if x.wait.any (·.seq == e.1) then e else (e.1, e.2.1 + 1, { e.2.2 with again := true, delay := 0 })
  { x with retry := rest.map again, wait := (rest.map again).map (·.2.2) }

/-- ACK (12 R373). -/
def execMeshAck (q : Fin 4) (l : Fin 8) (seq : BitVec 12) (s : State) : Host.Outcome State Fault Refusal :=
  answer s (
    if s.nPort ≤ q.val then s
    else (s.updLane q.val l.val fun x => { x with retry := ackTo seq.toNat x.retry }).settleSleep q.val)

/-- NAK (12 R373): packets before the named one are acknowledged, the others go out again; the NAK counts against the
lane unless errors are injected on it (12 R388). -/
def execMeshNak (q : Fin 4) (l : Fin 8) (seq : BitVec 12) (s : State) : Host.Outcome State Fault Refusal :=
  answer s (
    let q := q.val
    let l := l.val
    if s.nPort ≤ q then s
    else
      let s := s.updLane q l fun x => x.resend seq.toNat
      let a := MESH_TEST q l
      if s.mode == .test && s.bit a 10 && decide (10 ≤ s.fld a 9 5) then s else s.hwError 7 (8 * q + l) 3)

/-- RETRY_EXHAUSTED (12 R373): a packet sent five times makes the lane retrain; its packets move to the other lanes. -/
def execRetryExhausted (q : Fin 4) (l : Fin 8) (s : State) : Host.Outcome State Fault Refusal :=
  answer s (
    let q := q.val
    let l := l.val
    if s.nPort ≤ q || !((s.lane q l).retry.any fun e => decide (5 ≤ e.2.1)) then s
    else ((s.updLane q l fun x => { x with trained := false, retraining := true }).moveRetry q l).settleSleep q)

/-! Test (12 R388). -/

/-- The port shows TEST while pattern tests hold every lane that it had in service. -/
def State.testPort (s : State) (q : Nat) : State :=
  if s.portState q = pUp ∧ (s.lanesUp q).isEmpty ∧ ((List.range 8).any fun l => (s.lane q l).testing) = true then
    s.setPort q pTest
  else if s.portState q = pTest ∧ ((List.range 8).any fun l => (s.lane q l).testing) = false then s.setPort q pUp
  else s

/-- MESH_TEST (12 R388): reserved encodings keep the field's value (00 R12); a pattern takes effect in TEST mode only. -/
def State.meshTestWrite (s : State) (q : Fin 4) (l : Fin 8) (data : Word) : State :=
    let q := q.val
    let l := l.val
    let d := data.toNat
    let a := MESH_TEST q l
    if s.nPort ≤ q then s
    else
      let s := if bitOf d 1 && !s.bit a 1 then s.setN (MESH_TESTERR q l) 0 else s
      let s := (((s.setFld a 1 0 (bits d 1 0)).setBit a 4 (bitOf d 4))).setBit a 10 (bitOf d 10)
      let s := if bits d 3 2 = 3 then s else s.setFld a 3 2 (bits d 3 2)
      let s := if 1 ≤ bits d 9 5 ∧ bits d 9 5 ≤ 9 then s else s.setFld a 9 5 (bits d 9 5)
      if s.mode != .test then s
      else
        let run := s.fld a 1 0 != 0 && !s.bit a 10
        let was := (s.lane q l).testing
        let s := s.updLane q l fun x =>
          if run then { x with testing := true }
          else if was then { x with testing := false, trained := false, retraining := true } else x
        s.testPort q

/-- The command of that write. -/
def execMeshTest (q : Fin 4) (l : Fin 8) (data : Word) (s : State) : Host.Outcome State Fault Refusal :=
  answer s (s.pf0 (s.meshTestWrite q l data))

/-- When TEST ends, every tested lane retrains (12 R388). -/
def State.endMeshTest (s : State) : State :=
  s.forEach (List.range s.nPort) fun s q =>
    let s := s.forEach (List.range 8) fun s l =>
      if (s.lane q l).testing then
        s.updLane q l fun x => { x with testing := false, trained := false, retraining := true }
      else s
    s.testPort q

/-- MESH_CNTCLR (12 R389). -/
def State.meshCntclr (s : State) (q : Fin 4) : State :=
    if s.nPort ≤ q.val then s
    else s.clearCounts ([MESH_NAK q.val, MESH_CRCERR q.val, MESH_DLATE q.val, MESH_DROP q.val, MESH_TRAINFAIL q.val] ++
      (List.range 8).map (MESH_TESTERR q.val))

/-- The command of that write. -/
def execMeshCntclr (q : Fin 4) (s : State) : Host.Outcome State Fault Refusal :=
  answer s (s.pf0 (s.meshCntclr q))

end Sys2Proof.Machine
end

