-- ==== Sys2Proof/Machine/DevMode.lean ====
section
/-!
DEFINITION. The device modes: leaving CALIBRATE and TEST, and what ends them (01 R29, R34; 06 R200; 12 R388; 15 R440,
R447, R453; 16 R463).
-/
namespace Sys2Proof.Machine

/-- Whether every partition is in HOLD. -/
def State.allHold (s : State) : Bool := (List.range s.nPart).all fun p => (s.part p).mode == .hold

/-- Digital gains and zones are applied to the powered input channels (06 R200). -/
def State.applyGains (s : State) : State :=
  let s := s.updTime fun t => { t with gainAt := some s.now }
  s.forEach ((List.range s.nIch).filter fun m => s.bit (ICH_STAT m) 0) fun s m => s.setBit (ICH_STAT m) 1 true

/-- The device leaves CALIBRATE or TEST: its partitions run, in HOLD (01 R29, 06 R200, 15 R440). -/
def State.leaveControl (s : State) : State := { s.biasRestore.applyGains with mode := .run }

/-- The self-test ends with TEST: the monitor guards its input again, as the comparison was last seen (15 R447). -/
def State.endSelfTest (s : State) : State :=
  if s.flint.step.isNone then s
  else
    let m := s.flint.mon
    let s := State.setBit { s with flint := {} } FLINT_TSTAT 0 false
    s.setLatch m (s.bit (FLINT_CFG m) 0 && !s.bit (FLINT_STAT m) 0)

/-- TEST ends. -/
def State.endTest (s : State) : State := s.endSelfTest.endMeshTest.leaveControl

/-- The housekeeping converter is the scan's again: entry 0 comes next, with the longest settling (15 R453). -/
def State.hkRelease (s : State) : State :=
  (s.setBit HK_STAT 2 false).updHk fun h => { h with entry := 0, last := none, list := [] }

/-- A calibration run ends without effect, with error `code` (16 R459, R463). -/
def State.calFail (s : State) (code : Nat) : State :=
  if !s.cal.run then s
  else
    let s := s.updCal fun c => { c with run := false }
    ((((s.setFld CAL_STAT 2 0 4).setFld CAL_STAT 15 8 code).hkRelease).leaveControl).irqEvent 8 2

/-- CALIBRATE and TEST end at a trip or a press (01 R29, 16 R463). -/
def State.endModes (s : State) (code : Nat) : State :=
  match s.mode with
  | .calibrate => s.calFail code
  | .test => s.endTest
  | _ => s

end Sys2Proof.Machine
end

