-- ==== Sys2Proof/Machine/Time.lean ====
section
/-!
DEFINITION. The commands of device time: the epoch load, SYNC_OUT,
    cluster alignment and the loss of the reference (02 R48-R61;
12 R375, R376).
-/
namespace Sys2Proof.Machine

/-! Stored instants after DTIME has been set (02 R55). What was due after an interval stays due after it. -/

/-- Tick `t` on a count that has been moved by `d`. -/
def shiftT (d : Int) (t : Nat) : Nat := ((t : Int) + d).toNat

def Event.shift (d : Int) (e : Event) : Event :=
  { e with
    inst := shiftT (32 * d) e.inst
    stage := match e.stage with | .transit a => .transit (shiftT d a) | x => x }

def Pulse.shift (d : Int) (u : Pulse) : Pulse :=
  { u with
    start := shiftT (32 * d) u.start, rsvFrom := shiftT d u.rsvFrom, rsvTo := u.rsvTo.map (shiftT d)
    stopAt := u.stopAt.map (shiftT (32 * d)) }

def Window.shift (d : Int) (w : Window) : Window :=
  { w with
    tl := shiftT d w.tl, ws := shiftT d w.ws, we := shiftT d w.we, ls := shiftT d w.ls, marks := w.marks.map (shiftT d)
    ovf := w.ovf.map (shiftT d), gsat := w.gsat.map (shiftT d) }

def Fab.shift (d : Int) (b : Fab) : Fab :=
  { b with
    events := b.events.map (Event.shift d), pulses := b.pulses.map (Pulse.shift d), wins := b.wins.map (Window.shift d)
    chans := b.chans.map fun c => (c.1, { c.2 with
      edge := c.2.edge.map fun x => (shiftT d x.1, x.2), evalTo := shiftT (32 * d) c.2.evalTo })
    units := b.units.map fun u => (u.1, shiftT d u.2.1, u.2.2)
    users := b.users.map fun u => (u.1, shiftT d u.2.1, u.2.2), past := [], inputs := [] }

def quietShift (d : Int) (l : List (Nat × Nat × Rec × Nat)) : List (Nat × Nat × Rec × Nat) :=
  l.map fun x => (x.1, shiftT d x.2.1, x.2.2)

def Attempt.shift (d : Int) (a : Attempt) : Attempt :=
  { a with s := shiftT d a.s, e := a.e.map (shiftT d), localDone := a.localDone.map (shiftT d) }

def Job.shift (d : Int) (j : Job) : Job :=
  { j with
    startTick := shiftT d j.startTick, lastEvent := shiftT (32 * d) j.lastEvent, waitFirst := shiftT d j.waitFirst
    waitLast := shiftT d j.waitLast }

def Part.shift (d : Int) (q : Part) : Part :=
  { q with
    holdAt := shiftT d q.holdAt, quiet := quietShift d q.quiet, prevE := q.prevE.map (shiftT d)
    shotE := q.shotE.map (shiftT d), offeredAt := shiftT d q.offeredAt, attempt := q.attempt.shift d
    job := q.job.map (Job.shift d) }

def Core.shift (d : Int) (q : Core) : Core :=
  { q with syncAt := shiftT d q.syncAt, stallFrom := shiftT d q.stallFrom, asked := q.asked.map (shiftT d) }

def Slot.shift (d : Int) (x : Slot) : Slot :=
  { x with validAt := shiftT d x.validAt, hist := x.hist.map fun h => (h.1, h.2.1, shiftT d h.2.2) }

/-- Tick `t`, or the mark of a pin that its user ends, on a count moved by `d`. -/
def shiftPin (d : Int) (t : Nat) : Nat := if t = 2 ^ 64 then t else shiftT d t

def Page.shift (d : Int) (g : Page) : Page :=
  let f := fun x : Nat × Nat × Nat => (x.1, x.2.1, shiftPin d x.2.2)
  { g with requested := shiftT d g.requested, due := shiftT d g.due, pins := g.pins.map f, want := g.want.map f }

def Ring.shift (d : Int) (g : Ring) : Ring :=
  { g with
    lastTime := g.lastTime.map (shiftT d)
    coll := g.coll.map fun c => { c with first := shiftT d c.first, appended := shiftT d c.appended }
    held := g.held.map fun x => (shiftT d x.1, x.2)
    gaps := g.gaps.map fun x => { x with opened := shiftT d x.opened }
    gapAt := g.gapAt.map fun x => (x.1, x.2.1, shiftT d x.2.2), epoch := true }

def Bias.shift (d : Int) (b : Bias) : Bias :=
  { b with
    next := b.next.map fun t => (shiftT d t + 639) / 640 * 640, zFrame := b.zFrame.map fun t =>
        (shiftT d t + 639) / 640 * 640
    moved := shiftT d b.moved, shortAt := b.shortAt.map (shiftT d), events := b.events.map fun e => (shiftT d e.1, e.2) }

def Dom.shift (d : Int) (x : Dom) : Dom :=
  { x with
    foreign := x.foreign.map fun f => (f.1, shiftT d f.2.1, f.2.2), annAt := shiftT d x.annAt,
    syncAt := shiftT d x.syncAt, waitTick := shiftT d x.waitTick }

def Time.shift (d : Int) (t : Time) : Time :=
  { t with
    parentAt := shiftT d t.parentAt, followAt := shiftT d t.followAt, slewAt := t.slewAt.map (shiftT d),
    armAt := shiftT d t.armAt, clearAt := t.clearAt.map (shiftT d), settleTo := shiftT d t.settleTo
    settleFrom := shiftT d t.settleFrom, gainAt := t.gainAt.map (shiftT d)
    ftPast := t.ftPast.map fun x => (shiftT d x.1, x.2) }

def tabMap {α : Type} (f : α → α) (t : Tab α) : Tab α := t.map fun x => (x.1, f x.2)

/-- DTIME becomes `v` (02 R53, R55): the sample counters restart, every stored instant moves with it, and every ring owes
a TIME record of reason 0x04 (10 R317). -/
def State.loadTime (s : State) (v : BitVec 64) : State :=
  let d : Int := (v.toNat : Int) - (s.now : Int)
  { s with
    time := { s.time.shift d with dtime := v, sample := 0 }
    parts := tabMap (Part.shift d) s.parts
    cores := tabMap (Core.shift d) s.cores
    slots := tabMap (Slot.shift d) s.slots
    geo := { s.geo with pages := s.geo.pages.map (Page.shift d) }
    reqs := s.reqs.map fun q => { q with since := shiftT d q.since }
    pins := { s.pins with trigLow := if s.pins.trigLow = 0 then 0 else shiftT d s.pins.trigLow }
    fab := s.fab.shift d
    rings := (List.range 32).foldl (fun t r => put (fun _ => {}) t r ((s.ring r).shift d)) []
    errs := tabMap (fun e => { e with times := e.times.map (shiftT d) }) s.errs
    ports := tabMap (fun q => { q with detectAt := shiftT d q.detectAt }) s.ports
    doms := tabMap (Dom.shift d) s.doms
    biases := tabMap (Bias.shift d) s.biases
    flint := { s.flint with started := shiftT d s.flint.started }
    cal := { s.cal with lastTrim := tabMap (shiftT d) s.cal.lastTrim, freeAt := tabMap (shiftT d) s.cal.freeAt }
    ev := { s.ev with quiet := quietShift d s.ev.quiet }
    irq := { s.irq with
      pendAt := tabMap (Option.map (shiftT d)) s.irq.pendAt, lastAt := tabMap (Option.map (shiftT d)) s.irq.lastAt } }

/-! The epoch load (02 R53-R56). -/

/-- TIME_EPOCH as it stands. -/
def State.epochWord (s : State) : BitVec 64 := BitVec.ofNat 64 (s.regN TIME_EPOCH_LO + 2 ^ 32 * s.regN TIME_EPOCH_HI)

/-- EPOCH_ARM: a write of TIME_CTRL. DESIGN CHOICE (log 121): an arm accepted while a load is in progress abandons that
load. -/
def State.timeCtrlWrite (s : State) (data : Word) : State :=
    let d := data.toNat
    let s := if bits d 3 2 = 3 then s else s.setFld TIME_CTRL 3 2 (bits d 3 2)
    let s := s.setBit TIME_CTRL 7 (bitOf d 7)
    let s := if s.fld TIME_CTRL 3 2 = 0 then s.updPins fun x => { x with syncOut := false, syncLeft := 0 } else s
    if !bitOf d 0 then s
    else if s.mode == .run && s.allHold then
      (s.setBit TIME_CTRL 0 true).updTime fun t =>
        { t with armed := true, armAt := s.now, edge := none, follow := none, epoch := s.epochWord }
    else ((s.stick TIME_STAT 5).setBit TIME_CTRL 0 false).updTime fun t => { t with armed := false }

/-- The command of that write. -/
def execEpochArm (data : Word) (s : State) : Host.Outcome State Fault Refusal :=
  answer s (s.pf0 (s.timeCtrlWrite data))

/-- EPOCH_CAPTURE (02 R54): the capture edge E of a load, a rising edge of REFCLK after the arm: for SYNC_IN this tick,
for a soft load the first one. Such edges lie where DTIME mod 4 = 0 (02 R50); after a slip they lie anywhere (log 120). -/
def execEpochCapture (s : State) : Host.Outcome State Fault Refusal :=
  answer s (
    let soft := s.bit TIME_CTRL 7
    let first := (s.time.armAt / 4 + 1) * 4
    let slipped := s.bit TIME_STAT 3
    let edge := if slipped then some 0
      else if soft then (if first ≤ s.now then some (s.now - first) else none)
      else if s.now % 4 = 0 ∧ s.time.armAt < s.now then some 0
      else none
    if s.time.armed && s.time.edge.isNone && (soft || !s.bit TIME_CTRL 1) && edge.isSome then
      ((s.setBit TIME_CTRL 0 false).setBit TIME_STAT 7 true).updTime fun t => { t with
        armed := false, edge := edge, stage := 0, repeated := false }
    else s)

/-- Ticks since the capture edge are at least `n` and the load stands at `stage`. -/
def State.loadAt (s : State) (n stage : Nat) : Bool :=
  (match s.time.edge with | some k => decide (n ≤ k) | none => false) && s.time.stage == stage

/-- EPOCH_LOAD_COMMAND (02 R55). -/
def execEpochLoadCommand (s : State) : Host.Outcome State Fault Refusal :=
  answer s (if s.loadAt 4 0 then s.updTime fun t => { t with stage := 1 } else s)

/-- SYNC_OUT rises for 8 REFCLK periods (02 R56). -/
def State.syncPulse (s : State) : State := s.updPins fun x => { x with syncOut := true, syncLeft := 32 }

/-- SYNC_OUT_REPEAT (02 R56). -/
def execSyncOutRepeat (s : State) : Host.Outcome State Fault Refusal :=
  answer s (
    if s.loadAt 32 1 && !s.time.repeated && s.fld TIME_CTRL 3 2 == 1 then
      s.syncPulse.updTime fun t => { t with repeated := true }
    else s)

/-- EPOCH_TILE_LOAD (02 R55): the tile copies take the epoch value of tick 64. -/
def execEpochTileLoad (s : State) : Host.Outcome State Fault Refusal :=
  answer s (match s.time.edge with
    | none => s
    | some k =>
      if k < 64 ∨ s.time.stage ≠ 1 then s
      else (s.loadTime (s.time.epoch + BitVec.ofNat 64 (k - 64))).updTime fun t => { t with stage := 2 })

/-- A TIME packet of subtype `k` waits at port `q` for its launch (12 R372, R375): for a PROBE and an EPOCH nothing is known
of the payload yet, for an ECHO the count and the PROBE's arrival, for a SYNC its last eight bytes. -/
def State.timePacket (s : State) (q k : Nat) (a b : BitVec 64) : State :=
  s.updPort q fun x => { x with timeWait := x.timeWait ++ [(k, a, b)] }

/-- An EPOCH packet to child port `q` (12 R375). -/
def State.sendEpoch (s : State) (q : Nat) : State :=
  if s.portState q = 4 && s.bit (MESH_PSTAT q) 29 && (s.timeLane q).isSome then s.timePacket q 4 0#64 0#64 else s

/-- The payload of a waiting TIME packet that is launched now: the launch time of a PROBE or SYNC, the residence time of an
ECHO in 0.25 ps, 6,250 a tick, and V of an EPOCH, a multiple of 4 at least 1,024 ticks after the launch (12 R375). -/
def State.timePayload (s : State) : Nat × BitVec 64 × BitVec 64 → BitVec 64 × BitVec 64
  | (2, count, arrival) => (count, BitVec.ofNat 64 (6250 * s.now) - arrival)
  | (3, _, b) => (s.time.dtime, b)
  | (4, _, _) => (BitVec.ofNat 64 (4 * ((s.now + 1027) / 4 + Config.epochLead s.fab.freeN)), 0#64)
  | _ => (s.time.dtime, 0#64)

/-- The oldest TIME packet that waits at port `q` is launched on the time lane, unless a packet other than BULK is in
progress there (12 R372, R375). -/
def State.launchTime (s : State) (q : Nat) : State :=
  match (s.port q).timeWait, s.timeLane q with
  | e :: l, some n =>
    if (s.lane q n).cur.isEmpty then
      let (a, b) := s.timePayload e
      let h : Head := { hops := 1, dst := Fin.ofNat 64 (s.fld (MESH_PSTAT q) 27 22), src := Fin.ofNat 64 s.devId }
      let body := packetBody e.1 h (toBytes 8 a.toNat ++ if e.1 = 2 ∨ e.1 = 3 then toBytes 8 b.toNat else [])
      let s := s.updPort q fun x => { x with
        timeWait := l, timeOut := (e.1, a, b) :: x.timeOut, probeAt := if e.1 = 1 then s.now else x.probeAt }
      let s := s.updLane q n fun x => { x with cur := packetCodes kSTM body false }
      if e.1 = 4 then s.updFab fun f => { f with freeN := f.freeN + 1 } else s
    else s
  | _, _ => s

/-- The epoch is valid from now on (02 R51, R55; 12 R376). -/
def State.epochValid (s : State) : State :=
  let s := (((s.setBit TIME_STAT 1 true).setBit TIME_STAT 3 false).setBit TIME_STAT 4 false).setBit TIME_STAT 7 false
  s.forEach (List.range s.nPort) State.sendEpoch

/-- EPOCH_VALID_SET (02 R55): units in flight from before the load are discarded. -/
def execEpochValidSet (s : State) : Host.Outcome State Fault Refusal :=
  answer s (
    if s.loadAt 66 2 then
      let s := s.updTime fun t => { t with edge := none, stage := 0 }
      (({ s with dueq := [] } : State).updFab fun b => { b with units := [], users := [] }).epochValid
    else s)

/-- SYNC_OUT_GENERATE (02 R56). -/
def execSyncOutGenerate (s : State) : Host.Outcome State Fault Refusal :=
  answer s (if s.fld TIME_CTRL 3 2 == 2 && s.now % 2 ^ 32 == s.regN TIME_SYNCGEN_LO then s.syncPulse else s)

/-! Alignment (02 R58-R61; 12 R375, R376). -/

/-- The parent's port of a follower. -/
def State.parentPort (s : State) : Option Nat :=
  if s.bit TIME_CTRL 6 then none else some (s.fld TIME_CTRL 5 4)

/-- A TIME packet has come from port `q`. -/
def State.heard (s : State) (q : Nat) : State :=
  if s.parentPort == some q then s.updTime fun t => { t with parentAt := s.now } else s


/-- A device-wide condition of time: the PF0 time interrupt and a record of class DEVICE (02 R51, R60; 09 R304). -/
def State.timeAlarm (s : State) : State :=
  (s.irqEvent 8 1).queueEv (errorRec 9 3 1 0 0#64 s.now 0 (s.regN TIME_STAT))

/-- ALIGN_LOST is raised (02 R60). -/
def State.loseAlign (s : State) : State := if s.bit TIME_STAT 4 then s else (s.setBit TIME_STAT 4 true).timeAlarm

/-- `x` as a signed 16-bit field. -/
def sat16 (x : Int) : Nat := wrapInt 16 (clamp (-32768) 32767 x)

/-- The fine skew moves by `step` against a residual, in units of 1/256 ps; TIME_SKEW shows both. -/
def State.moveSkew (s : State) (step residual : Int) : State :=
  let s := s.updTime fun t => { t with skew := t.skew - step }
  s.setN TIME_SKEW (sat16 s.time.skew + 65536 * sat16 residual)

/-- Whether a re-measurement of the parent is due: one every 65,536 ticks, and the tile copies agree within 2 ticks (02 R57,
R60; log 122). -/
def State.slewDue (s : State) : Bool :=
  match s.time.slewAt with
  | some t => decide (t + 65534 ≤ s.now)
  | none => true

/-- A residual found against the parent, in units of 1/256 ps: the fine skew takes up to 0.1 ps of it once in a
re-measurement (02 R60, R61). -/
def State.slewSkew (s : State) (residual : Int) : State :=
  let step := if s.slewDue then clamp (-25) 25 residual else 0
  let after := residual - step
  let s := if s.slewDue then s.updTime fun t => { t with slewAt := some s.now } else s
  let s := s.moveSkew step residual
  if after < -6144 ∨ 6144 < after then s.loseAlign
  else if decide (-512 ≤ residual) && decide (residual ≤ 512) && !s.bit TIME_STAT 3 then s.setBit TIME_STAT 4 false
  else s

/-- FOLLOWER_EPOCH_LOAD (02 R58; 12 R376): at the tile boundary that lies the link's delay after the parent's boundary
V, which is 1,024 ticks or more after the packet came (log 130); the fine skew then takes all of the offset of the
boundaries. Never while a partition is outside HOLD (02 R60). -/
def execFollowerEpochLoad (s : State) : Host.Outcome State Fault Refusal :=
  answer s (match s.time.follow with
    | none => s
    | some v =>
      if !s.allHold || decide (s.now < s.time.followAt + 1024) then s
      else
        let n := s.fab.freeN
        let offset := Config.boundaryOffset n
        let s := (s.loadTime v).updTime fun t => { t with armed := false, follow := none }
        let s := s.updFab fun f => { f with freeN := n + 1 }
        ((s.setBit TIME_CTRL 0 false).moveSkew offset offset).epochValid)

/-- TIME_REMEASURE (02 R60). -/
def execTimeRemeasure (residual : Int) (s : State) : Host.Outcome State Fault Refusal :=
  answer s (if s.parentPort.isNone then s else s.slewSkew residual)

/-- TIME_PARENT_TIMEOUT (02 R60). -/
def execTimeParentTimeout (s : State) : Host.Outcome State Fault Refusal :=
  answer s (match s.parentPort with
    | none => s
    | some _ => if s.time.parentAt + 640000 ≤ s.now then s.loseAlign else s)

/-- Whether port `q` carries TIME packets. -/
def State.timePort (s : State) (q : Nat) : Bool := decide (q < s.nPort) && s.portState q == 4 && (s.timeLane q).isSome

/-- TIME_PROBE (12 R375): answered with an ECHO that carries the count and the residence time, which counts from the
arrival: a tile tick and 0.25 ps in it, 6,250 a tick. -/
def execTimeProbe (q : Fin 4) (count arrival : BitVec 64) (fine : Fin 6250) (s : State) :
    Host.Outcome State Fault Refusal :=
  answer s (
    if !s.timePort q.val then s
    else (s.heard q.val).timePacket q.val 2 count (BitVec.ofNat 64 (6250 * arrival.toNat + fine.val)))

/-- TIME_ECHO (12 R376): `arrival` counts 0.25 ps on the tile clock, 6,250 a tick. -/
def execTimeEcho (q : Fin 4) (count residence arrival : BitVec 64) (s : State) : Host.Outcome State Fault Refusal :=
  answer s (
    let q := q.val
    if !s.timePort q || count.toNat != (s.port q).probeAt then s
    else
      let trip : Int := (arrival.toNat : Int) - 6250 * (count.toNat : Int)
      let asym := toSigned 16 (s.fld (MESH_PCFG q) 31 16)
      (s.heard q).setFld (MESH_DELAY q) 27 0 (wrapInt 28 (roundOpen 5 (trip - (residence.toNat : Int) + asym) 2)))

/-- TIME_SYNC (12 R376, 02 R60, R61): used for skew whether or not the parent's epoch is valid. -/
def execTimeSync (q : Fin 4) (_valid : Bool) (residual : Int) (s : State) : Host.Outcome State Fault Refusal :=
  answer s (
    if !s.timePort q.val || s.parentPort != some q.val then s
    else (s.heard q.val).slewSkew residual)

/-- TIME_EPOCH (12 R376): an armed follower takes the first EPOCH packet of its parent. -/
def execTimeEpoch (q : Fin 4) (v : BitVec 64) (s : State) : Host.Outcome State Fault Refusal :=
  answer s (
    if !s.timePort q.val || s.parentPort != some q.val then s
    else
      let s := s.heard q.val
      if s.time.armed && s.time.follow.isNone && s.bit TIME_CTRL 1 && !s.bit TIME_CTRL 7 && v.toNat % 4 == 0 then
        s.updTime fun t => { t with follow := some v, followAt := s.now }
      else s)

/-- PARENT_SYNC_SEND (12 R375): SYNC, and with EPOCH_VALID also EPOCH, to a child. -/
def execParentSyncSend (q : Fin 4) (s : State) : Host.Outcome State Fault Refusal :=
  answer s (
    let q := q.val
    if !s.timePort q || !s.bit (MESH_PSTAT q) 29 then s
    else
      let ok := s.bit TIME_STAT 1
      let body := BitVec.ofNat 64 (s.fld (MESH_DELAY q) 27 0 + 2 ^ 32 * bn ok)
      let s := s.timePacket q 3 0#64 body
      if ok then s.sendEpoch q else s)

/-! Loss of the reference (02 R51). -/

/-- A burst in progress of request `k` is truncated, and the request goes on (02 R51, 10 R324). -/
def State.stopBurst (s : State) (k : Nat) : State :=
  let s := s.beginBurst k
  match s.req k with
  | none => s
  | some q =>
    match q.burst with
    | none => s
    | some (_, e, n) =>
      let s := (s.unhold q.ring k).updReq k fun q => { q with
        burst := none, armed := false, resv := 0, zone := [], bursts := q.bursts + 1 }
      (s.stopped q n e).reserve k

/-- REF_LOST. -/
def execRefLost (s : State) : Host.Outcome State Fault Refusal :=
  answer s (
    if s.time.lost || s.mode == .boot || s.mode == .failed then s
    else
      let s := (s.stick TIME_STAT 2).setBit TIME_STAT 0 false
      let s := s.updTime fun t => { t with lost := true, clearAt := none, settleFrom := s.now, settleTo := 2 ^ 64 }
      let s := s.timeAlarm
      let s := s.forEach (List.range s.nOch) fun s n => s.muteCh n (s.now + 1)
      let s := (s.forEach (s.reqs.map Req.key) State.stopBurst).calFail 0x0D
      s.forEach (List.range s.nPart) fun s p =>
        let hit := (s.part p).mode == .shot && (s.part p).attempt.active
        let s := s.cause p 3 0xFF (resource 0 0) 0 0#64
        if hit then s.queueRec p (errorRec 9 3 1 (s.jobNum p) 0#64 s.now 0 (s.regN TIME_STAT)) else s)

/-- REF_LOCK_RETURN. -/
def execRefLockReturn (slipped : Bool) (s : State) : Host.Outcome State Fault Refusal :=
  answer s (
    if !s.time.lost then s
    else
      let s := s.updTime fun t => { t with lost := false, clearAt := some s.now, settleTo := s.now + 2048 }
      let s := (s.setBit TIME_STAT 2 false).setBit TIME_STAT 0 true
      if slipped then ((s.setBit TIME_STAT 3 true).setBit TIME_STAT 1 false).loseAlign else s)

/-- REF_CLEAR_UNMUTE: channels of STREAM partitions that hold a playing tone. -/
def execRefClearUnmute (s : State) : Host.Outcome State Fault Refusal :=
  answer s (match s.time.clearAt with
    | none => s
    | some t =>
      if s.now < t + 1024 || s.time.lost then s
      else
        let chs := (s.fab.pulses.filter fun u => u.cw && u.playing && !u.done && (s.part u.part).mode == .stream).map (·.ch)
        let s := s.updTime fun x => { x with clearAt := none }
        s.forEach (chs.eraseDups.filter fun n => s.ochState n == 1) fun s n =>
          (s.setFld (OCH_STAT n) 2 0 6).updChan n fun c => { c with edge := some (s.now, true) })

end Sys2Proof.Machine
end

