-- ==== Sys2Proof/Machine/Ptp.lean ====
section
/-!
DEFINITION. Facility time: the two PTP domains, the clock states, steps, slews and switches (14 R416-R432). Times of PTP
messages come in units of 2^-16 ns; they are kept in fifths of that unit, in which 0.1 ns is a whole number.
-/
namespace Sys2Proof.Machine

/-- Units of one nanosecond. -/
def uNs : Int := 327680

/-- A difference of times of which one is known modulo 2^32 ns (14 R418). -/
def wrapU (x : Int) : Int :=
  let m := 4294967296 * uNs
  let y := x % m
  if 2 * y < m then y else y - m

/-- A value in signed Q24.8 ns, 1,280 units a step. -/
def q24 (x : Int) : Nat := wrapInt 32 (clamp (-2147483648) 2147483647 (roundOpen 4 x 1280))

def State.ptpSel (s : State) : Nat := s.fld PTP_STAT 0 0
def State.cstate (s : State) : Nat := s.fld PTP_STAT 2 1
def State.setCstate (s : State) (n : Nat) : State := s.setFld PTP_STAT 2 1 n
/-- STATE of domain `d`: 0 DISABLED, 1 LISTENING, 2 UNCALIBRATED, 3 SLAVE. -/
def State.dstate (s : State) (d : Nat) : Nat := s.fld (PTP_DSTAT d) 1 0
def State.setDstate (s : State) (d n : Nat) : State := s.setFld (PTP_DSTAT d) 1 0 n

/-- Whether messages of domain `d` are heard on port `q`. -/
def State.ptpHears (s : State) (d q : Nat) : Bool :=
  s.mode != .boot && s.mode != .failed && s.bit (PTP_DCFG d) 0 && s.bit (PTP_DCFG d) (1 + q)

/-- Whether port `q` is that of domain `d`'s chosen master. -/
def State.ptpPort (s : State) (d q : Nat) : Bool :=
  s.ptpHears d q && decide (2 ≤ s.dstate d) && s.fld (PTP_DSTAT d) 2 2 == q

/-! The increment (14 R416, R419). -/

def nominalInc : Int := 6710886400
/-- The slew bound in units of 2^-32 ns (14 R419). -/
def State.slewBound (s : State) : Int := (nominalInc * (s.fld PTP_CFG 14 5 : Nat) + 500000) / 1000000

/-- INC becomes nominal plus `x`. -/
def State.setInc (s : State) (x : Int) : State :=
  let n := (nominalInc + x).toNat
  (s.ftMark.setN PTP_INC_LO (n % 2 ^ 32)).setN PTP_INC_HI (n / 2 ^ 32 % 256)

/-- The servo's increment for offset `ofs`: during a switch the whole bound towards the offset until it is inside
LOCK_IN, else the frequency term and a phase term within the bound (14 R419, R421, R429; log 26). -/
def State.servo (s : State) (ofs : Int) (inside : Bool) : State :=
  let n := s.fab.freeN
  let b := s.slewBound
  let s := s.updFab fun f => { f with freeN := n + 1 }
  if s.bit PTP_STAT 3 then
    if inside then (s.setBit PTP_STAT 3 false).setInc s.time.freq else s.setInc (if 0 ≤ ofs then b else -b)
  else
    let f := clamp (-b) b (Config.servoFreq n)
    (s.updTime fun t => { t with freq := f }).setInc (clamp (-b) b (f + Config.servoPhase n))

/-! Offsets (14 R420, R421, R424). -/

/-- A step by `ofs`: FT takes the master's time, and every enabled ring owes a TIME record of reason 0x03. -/
def State.stepFt (s : State) (ofs : Int) : State :=
  let s := s.ftMark.updTime fun t => { t with ft := BitVec.ofNat 64 (wrapInt 64 ((t.ft.toNat : Int) + ofs * 65536 / 5)) }
  let s := (s.inc PTP_STEPCNT).stick PTP_STAT 4
  s.forEach ((List.range 32).filter fun r => s.bit (CAP_RCFG r) 3) fun s r => s.updRing r fun g => { g with stepped := true }

/-- The clock follows a measured offset of the selected domain (14 R420, R421). -/
def State.followOffset (s : State) (d : Nat) (ofs : Int) : State :=
  let inNs := uNs * (s.fld (PTP_DLIM d) 9 0 : Nat)
  let outNs := uNs * (s.fld (PTP_DLIM d) 19 10 : Nat)
  let a : Int := (ofs.natAbs : Nat)
  let free := decide (s.cstate < 2)
  let s := if s.cstate = 0 then s.setCstate 1 else s
  let s := s.updDom d fun x => { x with
    inCount := if a < inNs then x.inCount + 1 else 0, outCount := if outNs < a then x.outCount + 1 else 0 }
  let x := s.dom d
  if free && s.bit PTP_CFG 3 && decide (uNs * 1000 * (s.fld (PTP_DLIM d) 31 20 : Nat) < a) then
    (s.stepFt ofs).updDom d fun x => { x with inCount := 0, outCount := 0 }
  else
    if 4 ≤ x.outCount ∧ s.cstate = 2 ∧ s.bit PTP_STAT 3 = false then (s.setCstate 3).setInc s.time.freq
    else
      let s := if 16 ≤ x.inCount ∧ s.cstate ≠ 2 then (s.setCstate 2).updDom d fun x => { x with locked := true } else s
      s.servo ofs (decide (a < inNs))

/-- Domain `d` becomes a SLAVE; a clock in FREERUN that follows it goes to ACQUIRE (14 R421). -/
def State.slave (s : State) (d : Nat) : State :=
  let s := s.setDstate d 3
  if s.ptpSel = d ∧ s.cstate = 0 then s.setCstate 1 else s

/-- A Sync of domain `d` with master time `t1` and receive time `t2` is accepted (14 R424, R430). -/
def State.acceptSync (s : State) (d : Nat) (t1 t2 : Int) : State :=
  let s := s.updDom d fun x => { x with t1 := t1, t2 := t2, synced := true, syncAt := s.now, waitFu := none }
  let x := s.dom d
  let m := ((t1 + x.delay) / uNs).toNat
  let sec := m / 1000000000
  let s := (((s.setN (PTP_ANC_SEC_LO d) (sec % 2 ^ 32)).setN (PTP_ANC_SEC_HI d) (sec / 2 ^ 32 % 65536)).setN (PTP_ANC_NS d)
    (m % 1000000000)).setN (PTP_ANC_FT d) (wrapInt 32 (t2 / uNs))
  if s.dstate d ≠ 3 then s
  else
    let ofs := wrapU (t1 + x.delay - t2)
    let s := s.setN (PTP_DOFS d) (q24 ofs)
    if s.ptpSel = d then s.followOffset d ofs else s

/-! Messages (14 R423-R426). -/

/-- An ingress stamp of port `q` referred to the far end of its module: from `x` in 2^-16 ns. -/
def State.ingress (s : State) (q : Nat) (x : Int) : Int :=
  5 * x - (if s.bit PTP_CFG 0 then 0 else 13631488) - 32768 * (s.fld (PTP_PCFG q) 15 0 : Nat)

/-- An egress stamp of port `q` likewise. -/
def State.egress (s : State) (q : Nat) (x : Int) : Int :=
  5 * x + (if s.bit PTP_CFG 0 then 0 else 12582912) + 32768 * (s.fld (PTP_PCFG q) 31 16 : Nat)

/-- Ticks of `n` message intervals of 2^`log` s, a whole number from log -7 on (14 R423). -/
def logTicks (n : Nat) (log : Int) : Nat := n * (5000000 * 2 ^ (log + 7).toNat)

/-- Whether data set `a` is better than `b` in the default best master clock algorithm (14 R423, log 151): of one grandmaster
the fewer steps, of two the first difference of priority1, class, accuracy, variance, priority2 and identity. -/
def annBetter (a b : Announce) : Bool :=
  let key := fun x : Announce =>
    if a.grandmaster = b.grandmaster then [x.steps.toNat, x.sender.toNat]
    else [x.priority1.toNat, x.clockClass.toNat, x.accuracy.toNat, x.variance.toNat, x.priority2.toNat, x.grandmaster.toNat]
  decide (key a < key b)

/-- The masters of domain `d` whose last Announce has not lapsed (14 R423). -/
def State.ptpMasters (s : State) (d : Nat) : List (Nat × Nat × Announce) :=
  (s.dom d).foreign.filter fun x => decide (s.now < x.2.1)

/-- The best of the masters heard. -/
def bestMaster (l : List (Nat × Nat × Announce)) : Option (Nat × Nat × Announce) :=
  l.foldl (fun m x => match m with | none => some x | some y => if annBetter x.2.2 y.2.2 then some x else some y) none

/-- ANNOUNCE (14 R423): the best master clock algorithm chooses among the masters heard, each for three of its intervals
after its last Announce; a new choice starts the domain afresh. -/
def execPtpAnnounce (d q : Fin 2) (a : Announce) (logInterval : Int) (s : State) : Host.Outcome State Fault Refusal :=
  answer s (
    let d := d.val
    if !s.ptpHears d q.val then s
    else
      let l := (s.ptpMasters d).filter (fun x => !(x.1 == q.val && x.2.2.sender == a.sender)) ++
        [(q.val, s.now + logTicks 3 logInterval, a)]
      let s := s.updDom d fun x => { x with foreign := l }
      match bestMaster l with
      | none => s
      | some (p, t, b) =>
        if (s.dom d).master = some b.sender ∧ s.fld (PTP_DSTAT d) 2 2 = p then s.updDom d fun x => { x with annAt := t }
        else
          let s := s.updDom d fun x => {
            master := some b.sender, foreign := l, annAt := t, syncAt := s.now, seq := x.seq, locked := x.locked }
          (s.setDstate d 2).setFld (PTP_DSTAT d) 2 2 p)

/-- PTP_SYNC (14 R424): with its origin time, or the first of two steps, whose origin time a Follow_Up brings. -/
def execPtpSync (d q : Fin 2) (seq : BitVec 16) (origin : Option Int) (ingress correction logInterval : Int) (s : State) :
    Host.Outcome State Fault Refusal :=
  answer s (
    let d := d.val
    if !s.ptpPort d q.val then s
    else
      let t2 := s.ingress q.val ingress
      let s := s.updDom d fun x => { x with syncLog := logInterval }
      match origin with
      | some o => s.acceptSync d (5 * (o + correction)) t2
      | none =>
        let s := if (s.dom d).waitFu.isSome then s.inc (PTP_PDISC q.val) else s
        s.updDom d fun x => { x with waitFu := some seq.toNat, waitTick := s.now, t1 := 5 * correction, t2 := t2 })

/-- FOLLOW_UP (14 R424). -/
def execFollowUp (d q : Fin 2) (seq : BitVec 16) (origin correction : Int) (s : State) : Host.Outcome State Fault Refusal :=
  answer s (
    let d := d.val
    let x := s.dom d
    if s.ptpPort d q.val && x.waitFu == some seq.toNat && decide (s.now ≤ x.waitTick + 640000000) then
      s.acceptSync d (5 * (origin + correction) + x.t1) x.t2
    else s)

/-- FOLLOW_UP_TIMEOUT (14 R424). -/
def execFollowUpTimeout (d q : Fin 2) (s : State) : Host.Outcome State Fault Refusal :=
  answer s (
    let x := s.dom d.val
    if x.waitFu.isSome && s.fld (PTP_DSTAT d.val) 2 2 == q.val && decide (x.waitTick + 640000000 ≤ s.now) then
      (s.updDom d.val fun x => { x with waitFu := none }).inc (PTP_PDISC q.val)
    else s)

/-- DELAY_REQ (14 R423): sent on the port of the chosen master. -/
def execDelayReq (d q : Fin 2) (egress : Int) (s : State) : Host.Outcome State Fault Refusal :=
  answer s (
    if !s.ptpPort d.val q.val then s
    else s.updDom d.val fun x => { x with
      t3 := s.egress q.val egress, reqSeq := some x.seq, seq := (x.seq + 1) % 65536 })

/-- DELAY_RESP (14 R424): the path delay; the first one makes the domain a SLAVE. -/
def execDelayResp (d q : Fin 2) (seq : BitVec 16) (receive correction : Int) (logMin : Int) (s : State) :
    Host.Outcome State Fault Refusal :=
  answer s (
    let d := d.val
    let x := s.dom d
    if !s.ptpPort d q.val || x.reqSeq != some seq.toNat then
      if s.ptpHears d q.val then s.inc (PTP_PDISC q.val) else s
    else if !x.synced || x.waitFu.isSome then s.updDom d fun x => { x with reqSeq := none, logMin := logMin }
    else
      let dl := roundOpen 6 (wrapU (x.t2 - x.t1) + wrapU (5 * (receive - correction) - x.t3)) 2
      let s := s.updDom d fun x => { x with reqSeq := none, logMin := logMin, delay := dl }
      (s.setN (PTP_DDELAY d) (q24 dl)).slave d)

/-! Loss and switch (14 R421, R428, R429). -/

/-- Whether domain `d` has lost its master (14 R428): no Announce of it for three of its intervals, no port of the
domain with a module and a signal, or no Sync accepted for eight Sync intervals. -/
def State.masterLost (s : State) (d : Nat) : Bool :=
  let x := s.dom d
  let ann := match x.foreign.find? fun f => some f.2.2.sender == x.master && f.1 == s.fld (PTP_DSTAT d) 2 2 with
    | some f => decide (f.2.1 ≤ s.now)
    | none => true
  let dark := (List.range 2).all fun q => !s.bit (PTP_DCFG d) (1 + q) || !s.bit (PTP_PSTAT q) 0 || s.bit (PTP_PSTAT q) 1
  ann || dark || decide (x.syncAt + logTicks 8 x.syncLog ≤ s.now)

/-- MASTER_LOSS (14 R428): a LOCKED clock goes to HOLDOVER with its last frequency term, one never locked to FREERUN. -/
def execMasterLoss (d : Fin 2) (s : State) : Host.Outcome State Fault Refusal :=
  answer s (
    let d := d.val
    if s.dstate d < 2 || !s.masterLost d then s
    else
      let s := (s.updDom d fun x => { seq := x.seq, locked := x.locked }).setDstate d 1
      if s.ptpSel ≠ d then s
      else if s.cstate = 2 then (s.setCstate 3).setInc s.time.freq
      else if s.cstate = 1 then (s.setCstate 0).setInc 0
      else s)

/-- The selected domain becomes the other one (14 R429). -/
def State.switchDomain (s : State) : State :=
  let o := 1 - s.ptpSel
  let s := (s.setFld PTP_STAT 0 0 o).updDom o fun x => { x with inCount := 0, outCount := 0 }
  if s.cstate < 2 then s.setCstate 1
  else
    let ofs := toSigned 32 (s.regN (PTP_DOFS o))
    (s.setBit PTP_STAT 3 true).setInc (if 0 ≤ ofs then s.slewBound else -s.slewBound)

/-- A write of PTP_CTRL.SWITCH (14 R429): a switch to a domain that is no SLAVE, or during a switch, is refused. -/
def State.switchWrite (s : State) : State :=
  if s.dstate (1 - s.ptpSel) == 3 && !s.bit PTP_STAT 3 then s.switchDomain else s.stick PTP_STAT 5

/-- SWITCH (14 R429): an automatic switch needs the loss of the selected master and a domain that is SLAVE. -/
def execPtpSwitch (automatic : Bool) (s : State) : Host.Outcome State Fault Refusal :=
  answer s (
    if !automatic then s.pf0 s.switchWrite
    else if s.dstate (1 - s.ptpSel) == 3 && !s.bit PTP_STAT 3 && s.bit PTP_CFG 4 && decide (s.dstate s.ptpSel < 2) then
      s.switchDomain
    else s)

/-- MODULE_PRESENCE (14 R422). -/
def execModulePresence (q : Fin 2) (present los : Bool) (s : State) : Host.Outcome State Fault Refusal :=
  answer s (
    let s := s.setN (PTP_PSTAT q.val) (bn present + 2 * bn los + 4 * bn (present && !los))
    s.updPins fun x => { x with txdis := BitVec.ofNat 2 (setBits x.txdis.toNat q.val q.val (bn !present)) })

end Sys2Proof.Machine
end

