-- ==== Sys2Proof/Machine/Cal.lean ====
section
/-!
DEFINITION. Calibration: the store, the trims in force, runs and commits (16 R457-R470; 06 R201; 08 R259; 15 R453;
18 R503). What a run measures comes with the command that completes it.
-/
namespace Sys2Proof.Machine

/-! The store (16 R469). -/

def stGet (st : Tab Byte) (o : Nat) : Byte := look (fun _ => 0#8) st o
/-- The little-endian field of `n` bytes at offset `o`. -/
def stLe (st : Tab Byte) (o : Nat) : Nat → Nat
  | 0 => 0
  | n + 1 => (stGet st o).toNat + 256 * stLe st (o + 1) n
def stPut (st : Tab Byte) (o : Nat) : List Byte → Tab Byte
  | [] => st
  | b :: l => stPut (put (fun _ => 0#8) st o b) (o + 1) l
/-- The store's first `n` bytes. -/
def stBytes (st : Tab Byte) (n : Nat) : List Byte := (List.range n).map (stGet st)

/-- Offset of set `k`. -/
def setOff (k : Nat) : Nat := 1088 + 72064 * k
/-- Recorded temperature of die `t` (CD0-CD3, analogue) in set `k`. -/
def setTemp (st : Tab Byte) (k t : Nat) : Int := toSigned 16 (stLe st (setOff k + 2 * t) 2)
/-- Items measured in set `k`; 0 for an empty set. -/
def setItems (st : Tab Byte) (k : Nat) : Nat := stLe st (setOff k + 10) 1
def setGen (st : Tab Byte) (k : Nat) : Nat := stLe st (setOff k + 12) 4
/-- Length of a store with `n` sets. -/
def storeLen (n : Nat) : Nat := 1088 + 72064 * n
def stNsets (st : Tab Byte) : Nat := stLe st 7 1
def stOrigin (st : Tab Byte) : Nat := stLe st 24 1

/-- Code of the variant in stores and images. -/
def State.variantCode (s : State) : Nat := match s.variant with | .pfq6416 => 0 | .pfq3208 => 1 | .pfq1604 => 2

/-- Whether `l` is a store that this device applies (16 R465). -/
def State.storeOk (s : State) (l : List Byte) : Bool :=
  le l 0 4 == 0x43414C53 && le l 4 2 == 1 && le l 6 1 == s.variantCode && le l 8 8 == s.serial.toNat
    && decide (1 ≤ le l 7 1) && decide (le l 7 1 ≤ s.nSets) && le l 20 4 == storeLen (le l 7 1)
    && l.length == le l 20 4 && le l 28 4 == crc32 (blank l 28 4)

/-- The store with its header written, generation `gen` (16 R469). -/
def State.sealStore (s : State) (st : Tab Byte) (gen n origin : Nat) : Tab Byte :=
  let len := storeLen n
  let st := stPut st 0 (toBytes 4 0x43414C53 ++ toBytes 2 1 ++ toBytes 1 s.variantCode ++ toBytes 1 n ++
    toBytes 8 s.serial.toNat ++ toBytes 4 gen ++ toBytes 4 len ++ toBytes 1 origin ++ toBytes 7 0)
  stPut st 28 (toBytes 4 (crc32 (stBytes st len)))

/-- CAL_INFO and CAL_SETTEMP show the store in force. -/
def State.calInfo (s : State) : State :=
  let st := s.cal.store
  let s := s.setN CAL_INFO (bn s.cal.valid + 2 * (stOrigin st % 2) + 4 * (stNsets st % 8) + 65536 * (stLe st 16 4 % 65536))
  s.forEach (List.range s.nSets) fun s k =>
    ((s.setN (CAL_SETTEMP0 k) (stLe st (setOff k) 4)).setN (CAL_SETTEMP1 k) (stLe st (setOff k + 4) 4)).setN
      (CAL_SETTEMP2 k) (stLe st (setOff k + 8) 2 + 65536 * (setItems st k % 64))

/-! Trims in force (16 R465, R468). -/

/-- Reading of the sensor of die `t`: CD0-CD3, then the analogue die. -/
def State.dieTemp (s : State) (t : Nat) : Int := toSigned 18 (s.fld (HK_TEMP (3 + t)) 17 0)

/-- The set of `l` that `better` prefers. -/
def pickSet (better : Nat → Nat → Bool) : List Nat → Option Nat
  | [] => none
  | k :: l => match pickSet better l with
    | none => some k
    | some j => if better j k then some j else some k

/-- The field of `size` bytes at offset `off` of the sets, for `item` and die `t`, interpolated for that die at the
temperature `now`; `neutral` without a store. -/
def State.trimAt (s : State) (item t : Nat) (now : Int) (off size : Nat) (sgn : Bool) (neutral : Int) : Int :=
  let st := s.cal.store
  let val : Nat → Int := fun k =>
    let n := stLe st (setOff k + off) size
    if sgn then toSigned (8 * size) n else (n : Int)
  let temp : Nat → Int := fun k => setTemp st k t
  let full := (List.range s.nSets).filter fun k => setItems st k != 0
  let held := full.filter fun k => bitOf (setItems st k) item
  let l := if held.isEmpty then full else held
  let l := l.filter fun k => !(l.any fun j => j != k && decide ((temp j - temp k).natAbs ≤ 16) &&
      decide (setGen st k < setGen st j))
  let lo := pickSet (fun a b => decide (temp b < temp a)) (l.filter fun k => decide (temp k ≤ now))
  let hi := pickSet (fun a b => decide (temp a < temp b)) (l.filter fun k => decide (now ≤ temp k))
  if !s.cal.valid then neutral
  else match lo, hi with
    | some a, some b =>
      let d := temp b - temp a
      if d = 0 then val a else divAway (val a * d + (val b - val a) * (now - temp a)) d
    | some a, none => val a
    | none, some b => val b
    | none, none => neutral

/-- That field at the die's present reading. -/
def State.trim (s : State) (item t off size : Nat) (sgn : Bool) (neutral : Int) : Int :=
  s.trimAt item t (s.dieTemp t) off size sgn neutral

/-- The housekeeping trims in force at gain `g`: offset in 1/16 code and gain in 2^-30 (15 R448; 16 R468, R469). -/
def State.hkTrim (s : State) (g : Nat) : Int × Int :=
  (s.trimAt 0 4 s.cal.anaTemp (32 + 8 * g) 4 true 0, s.trimAt 0 4 s.cal.anaTemp (36 + 8 * g) 4 false (2 ^ 30))

/-- The bias corrections in force for output `n` in its span: offset in 1/16 LSB, gain in 2^-30, and those of the 63
elements in 1/16 LSB (15 R433; 16 R468, R469). -/
def State.biasTrim (s : State) (n : Nat) : Int × Int × List Int :=
  let b := 2432 + 544 * n + 136 * s.fld (BIAS_STAT n) 4 3
  (s.trimAt 1 4 s.cal.anaTemp b 4 true 0, s.trimAt 1 4 s.cal.anaTemp (b + 4) 4 false (2 ^ 30),
    (List.range 63).map fun j => s.trimAt 1 4 s.cal.anaTemp (b + 8 + 2 * j) 2 true 0)

/-- Channel `n` takes its trims (16 R468, 03 R102). -/
def State.applyOch (s : State) (n : Nat) : State :=
  let b := 64 + 8 * n
  let t := n / 16
  let cal := (s.trim 4 t (b + 4) 1 false 61).toNat
  let sum := s.fld (OCH_DELAY n) 7 0 + cal
  let s := (s.setFld (OCH_DCOFS n) 15 0 (wrapInt 16 (s.trim 2 t b 2 true 0))).setFld (OCH_FSTRIM n) 11 0
    (wrapInt 12 (s.trim 2 t (b + 2) 2 true 0))
  ((s.setFld (OCH_DELAY n) 15 8 cal).setFld (OCH_DELAY n) 23 16 (min 244 sum)).setBit (OCH_STAT n) 7 (decide (244 < sum))

/-- Input channel `m` takes its trims, those of its sub-converters from the set of its Nyquist zone (06 R186, R188,
R189, R201). -/
def State.applyIch (s : State) (m : Nat) : State :=
  let b := 576 + 104 * m
  let t := m / 4
  let cal := (s.trim 4 t (b + 100) 1 false 61).toNat
  let s := (s.setFld (ICH_DCOFS m) 15 0 (wrapInt 16 (s.trim 3 t (b + 96) 2 true 0))).setFld (ICH_GTRIM m) 11 0
    (wrapInt 12 (s.trim 3 t (b + 98) 2 true 0))
  let z := b + 48 * s.fld (ICH_CTRL m) 0 0
  let subs := (List.range 8).map fun i => (s.trim 3 t (z + 6 * i) 2 true 0, s.trim 3 t (z + 6 * i + 2) 2 true 0,
    s.trim 3 t (z + 6 * i + 4) 2 true 0)
  let s := s.updCal fun c => { c with subs := put (fun _ => []) c.subs m subs }
  (s.setFld (ICH_DELAY m) 15 8 cal).setFld (ICH_DELAY m) 23 16 (min 244 (s.fld (ICH_DELAY m) 7 0 + cal))

/-- The trims of the analogue die take their interpolated values: the Flint threshold offsets, and by the reading they are
taken at those of the housekeeping converter and of the bias outputs (16 R468). -/
def State.applyFlint (s : State) : State :=
  let s := s.updCal fun c => { c with anaTemp := s.dieTemp 4 }
  s.forEach ((List.range 48).filter s.hasMon) fun s k =>
    s.setN (CAL_FLINTOFS k) (wrapInt 16 (s.trim 5 4 (2240 + 4 * k) 2 true 0)
      + 65536 * wrapInt 16 (s.trim 5 4 (2242 + 4 * k) 2 true 0))

/-- Every trim comes into force at once (16 R464, R465). -/
def State.applyTrims (s : State) : State :=
  let s := s.forEach (List.range s.nOch) State.applyOch
  let s := s.forEach (List.range s.nIch) State.applyIch
  s.applyFlint.updCal fun c => { c with trimDue := [] }

/-- A temperature insertion has brought new readings: on the PFQ6416 every trim follows (16 R468). -/
def State.trimsDue (s : State) : State :=
  if s.nSets = 1 then s
  else s.updCal fun c => { c with
    trimDue := List.range s.nOch ++ (List.range s.nIch).map (· + 64) ++ [80] }

/-- Whether thing `k` of `Cal.trimDue` may take its trims by the bound of 1 ms. -/
def State.trimMay (s : State) (k : Nat) : Bool :=
  let t := look (fun _ => 0) s.cal.lastTrim k
  s.cal.trimDue.contains k && (t == 0 || decide (t - 1 + 640000 ≤ s.now))

/-- Thing `k` has taken its trims. -/
def State.trimTook (s : State) (k : Nat) : State :=
  s.updCal fun c => { c with
    trimDue := c.trimDue.filter (· != k), lastTrim := put (fun _ => 0) c.lastTrim k (s.now + 1) }

/-- OUTPUT_TRIM_UPDATE (16 R468): at a tick at which none of the channel's lanes is occupied. -/
def execOutputTrimUpdate (n : Fin 64) (s : State) : Host.Outcome State Fault Refusal :=
  answer s (
    let n := n.val
    if n < s.nOch ∧ s.trimMay n ∧ s.lanesAt n s.now = 0 then (s.applyOch n).trimTook n else s)

/-- Whether a reservation of input channel `m` is held at tick `t` (06 R195). -/
def State.ichHeld (s : State) (m t : Nat) : Bool :=
  s.fab.wins.any fun w => w.ich == m && decide (w.ls ≤ t) && decide (t ≤ w.we + decQ w.dec)

/-- Whether tick `t` is the boundary of two chained windows of channel `m`. -/
def State.ichChained (s : State) (m t : Nat) : Bool :=
  s.fab.wins.any fun w => w.ich == m && w.ws == t && w.chained.isSome

/-- ICH_TRIM_UPDATE (06 R201): at a free instant, or at a chained boundary of a channel held for 640,000 ticks. -/
def execIchTrimUpdate (m : Fin 16) (s : State) : Host.Outcome State Fault Refusal :=
  answer s (
    let m := m.val
    let long := decide (look (fun _ => 0) s.cal.freeAt m + 640000 ≤ s.now) && s.ichChained m s.now
    if m < s.nIch ∧ s.trimMay (64 + m) ∧ (!s.ichHeld m s.now || long) then
      ((s.applyIch m).trimTook (64 + m)).markIch m s.now
    else s)

/-! Commands (16 R462, R466, R467). -/

/-- A command is refused: STATE stays (16 R462). -/
def State.calRefuse (s : State) (code : Nat) : State := (s.setFld CAL_STAT 15 8 code).irqEvent 8 2

/-- The set that a run writes (16 R466). -/
def State.calSet (s : State) (set : Nat) : Option Nat :=
  let st := s.cal.store
  if s.nSets = 1 then some 0
  else if set ≤ 4 then some set
  else
    match (List.range 5).find? fun k => setItems st k != 0 && decide ((setTemp st k 4 - s.dieTemp 4).natAbs ≤ 48) with
    | some k => some k
    | none => (List.range 5).find? fun k => setItems st k == 0

/-- Why a CAL_CMD with fields `d` is refused before its own conditions: 0 when it is not. -/
def State.calBar (s : State) (d : Nat) : Nat :=
  let set := bits d 12 10
  if !s.allHold then 1
  else if s.mode != .run || s.cal.run || s.cal.commit then 2
  else if 2 ≤ bits d 3 2 || set == 5 || set == 6 || (s.nSets == 1 && set != 0 && set != 7) then 3
  else 0

/-- Calibration owns the housekeeping converter (15 R453). -/
def State.hkTake (s : State) : State :=
  ((s.setBit HK_STAT 2 true).setBit HK_STAT 0 false).updHk fun h => { h with entry := 0, list := [] }

/-- A RUN that is accepted enters CALIBRATE at once (16 R462, 15 R440). -/
def State.calStart (s : State) (items k : Nat) : State :=
  let first := ((List.range 6).find? (bitOf items)).getD 0
  let s := s.setN CAL_STAT (1 + 8 * first)
  let s := s.updCal fun c => { c with
    run := true, items := items, set := k, startTemp := (List.range 5).map s.dieTemp, refv := s.fld CAL_REFV 22 0
    bmask := BitVec.ofNat 128 (((List.range 4).map fun i => s.regN (CAL_BMASK i) * 2 ^ (32 * i)).sum) }
  let s : State := { s.biasControl with mode := .calibrate }
  let s := if bitOf items 1 then s.biasMeasured else s
  if s.hk.inj.isSome then s else s.hkTake

/-- CAL_CMD RUN (16 R462, R465, R466). -/
def State.calRun (s : State) (d : Nat) : State :=
  let items := bits d 9 4
  if s.calBar d ≠ 0 then s.calRefuse (s.calBar d)
  else if items = 0 ∨ (s.cal.valid ∧ stOrigin s.cal.store = 0 ∧ items ≠ 63) then s.calRefuse 3
  else match s.calSet (bits d 12 10) with
    | none => s.calRefuse 0x0E
    | some k => s.calStart items k

/-- The store's flash write begins (16 R464, 17 R480). -/
def State.calCommit (s : State) : State :=
  let s := (s.updCal fun c => { c with commit := true }).updBoot fun b => { b with wb := true, wrote := false }
  (s.setFld CAL_STAT 2 0 2).setBit BOOT_FLSTAT 0 true

/-- The reference of loop `l` becomes `v`, in the loop and in the shadow (08 R259, 17 R478). -/
def State.setRef (s : State) (l : Nat) (v : BitVec 64) : State :=
  let s := s.updLoop l fun x => { x with ref := v }
  match s.trkKind l with
  | 0 => { s with discShadow := put pf0Reset s.discShadow (s.trkT01 l) (BitVec.ofNat 32 v.toNat) }
  | 1 => { s with discShadow := put pf0Reset s.discShadow (s.trkRot l) (BitVec.ofNat 32 v.toNat) }
  | _ =>
    let f := s.trkTarget l
    let x := look (fun _ => {}) s.frameShadow f
    { s with frameShadow := put (fun _ => {}) s.frameShadow f { x with fw := BitVec.ofNat 48 v.toNat } }

/-- Enabled loops. -/
def State.trkAll (s : State) : List Nat := (List.range 64).filter fun l => s.bit (DEC_TRKCFG l) 2

/-- CAL_CMD SAVE_TRACK (16 R467). -/
def State.calSave (s : State) (d : Nat) : State :=
  if s.calBar d ≠ 0 then s.calRefuse (s.calBar d)
  else
    let s := s.setN CAL_STAT 0
    let s := s.forEach s.trkAll fun s l => s.setRef l (BitVec.ofInt 64 (s.trkNow l).2)
    let st := s.trkAll.foldl (fun st l => stPut st (64 + 16 * l) (toBytes 8 1 ++ toBytes 8 (s.loop l).ref.toNat)) s.cal.store
    let st := s.sealStore st (stLe st 16 4 + 1) (max 1 (stNsets st)) (stOrigin st)
    ((s.updCal fun c => { c with store := st, valid := true }).calInfo).calCommit

/-- A CAL_CMD that is judged now. -/
def State.calJudge (s : State) (d : Nat) : State := if bits d 3 2 = 1 then s.calSave d else s.calRun d

/-- A write of CAL_CMD: ABORT, then GO; in deep HOLD the command waits for the exit (16 R462, 11 R359). -/
def State.calWrite (s : State) (d : Nat) : State :=
  let s := if bitOf d 1 then s.calFail 0x0A else s
  if !bitOf d 0 then s
  else if s.deep = 0 then s.calJudge d
  else s.deepWake.updMem fun m => { m with waits := m.waits ++ [(1, BitVec.ofNat 32 d)] }

/-- RUN: `data` is the word written to CAL_CMD, its OP taken as RUN. -/
def State.calRunWrite (s : State) (data : Word) : State :=
  s.calWrite (setBits data.toNat 3 2 0)

/-- The command of that write. -/
def execCalRun (data : Word) (s : State) : Host.Outcome State Fault Refusal :=
  answer s (s.pf0 (s.calRunWrite data))

/-- SAVE_TRACK: `data` is the word written to CAL_CMD, its OP taken as SAVE_TRACK. -/
def State.calSaveWrite (s : State) (data : Word) : State :=
  s.calWrite (setBits data.toNat 3 2 1)

/-- The command of that write. -/
def execCalSaveTrack (data : Word) (s : State) : Host.Outcome State Fault Refusal :=
  answer s (s.pf0 (s.calSaveWrite data))

/-- The least tolerance of a pair among an item's measurements, in the units of its store fields (16 R458, R469). -/
def pairTol (item : Nat) : Nat := [32, 64, 2, 2, 1, 2].getD item 0

/-- ABORT (16 R459, R463): the run ends at its current point. A code 0x04-0x09 is what the run itself found; any other
`cause` is the command's ABORTED. -/
def execCalAbort (cause : Byte) (item : Fin 6) (index : Byte) (measA measB : Word) (s : State) :
    Host.Outcome State Fault Refusal :=
  answer s (
    let c := cause.toNat
    if !s.cal.run || !bitOf s.cal.items item.val && decide (4 ≤ c ∧ c ≤ 9)
      || ((c == 4 || c == 5) && item.val != 0)
      || c == 6 && decide ((measA.toInt - measB.toInt).natAbs ≤ pairTol item.val) then s
    else if 4 ≤ c ∧ c ≤ 9 then
      let s := (s.setFld CAL_STAT 5 3 item.val).setFld CAL_STAT 23 16 index.toNat
      let s := if c = 9 then s else (s.setReg CAL_MEASA measA).setReg CAL_MEASB measB
      s.calFail c
    else s.calFail 0x0A)

/-! A run's end (16 R458, R464-R466). -/

/-- The fields of a set that the items name: offset and size. Retired channels keep their entries (16 R458, R463). -/
def State.setFields (s : State) (items : Nat) : List (Nat × Nat) :=
  let och := (List.range s.nOch).filter fun n => !s.bit (OCH_STAT n) 3
  let ich := (List.range s.nIch).filter fun m => !s.bit (ICH_STAT m) 3
  let part := fun (i : Nat) (l : List (Nat × Nat)) => if bitOf items i then l else []
  part 0 [(32, 32)] ++
  part 1 (((List.range s.nBias).filter fun n => bitOf s.cal.bmask.toNat n).map fun n => (2432 + 544 * n, 544)) ++
  part 2 (och.map fun n => (64 + 8 * n, 4)) ++
  part 3 (ich.map fun m => (576 + 104 * m, 100)) ++
  part 4 (och.map (fun n => (68 + 8 * n, 1)) ++ ich.map fun m => (676 + 104 * m, 1)) ++
  part 5 (((List.range 48).filter s.hasMon).map fun k => (2240 + 4 * k, 4))

/-- Every field of a set with the value in force: offset, size, value (16 R466). -/
def State.inForce (s : State) : List (Nat × Nat × Int) :=
  let f := fun (item t off size : Nat) (sgn : Bool) (neutral : Int) => (off, size, s.trim item t off size sgn neutral)
  (List.range 3).flatMap (fun g => [f 0 4 (32 + 8 * g) 4 true 0, f 0 4 (36 + 8 * g) 4 false (2 ^ 30)]) ++
  (List.range s.nOch).flatMap (fun n =>
    [f 2 (n / 16) (64 + 8 * n) 2 true 0, f 2 (n / 16) (66 + 8 * n) 2 true 0, f 4 (n / 16) (68 + 8 * n) 1 false 61]) ++
  (List.range s.nIch).flatMap (fun m =>
    (List.range 50).map (fun i => f 3 (m / 4) (576 + 104 * m + 2 * i) 2 true 0) ++
        [f 4 (m / 4) (676 + 104 * m) 1 false 61]) ++
  ((List.range 48).filter s.hasMon).flatMap (fun k => [f 5 4 (2240 + 4 * k) 2 true 0, f 5 4 (2242 + 4 * k) 2 true 0]) ++
  (List.range (4 * s.nBias)).flatMap (fun i =>
    let b := 2432 + 136 * i
    [f 1 4 b 4 true 0, f 1 4 (b + 4) 4 false (2 ^ 30)] ++ (List.range 63).map fun j => f 1 4 (b + 8 + 2 * j) 2 true 0)

/-- The store after the run: `new` holds what was measured, laid out as a set. -/
def State.runStore (s : State) (new : List Byte) : Tab Byte :=
  let c := s.cal
  let k := c.set
  let old := c.store
  let gen := stLe old 16 4 + 1
  let base := if c.valid ∧ setItems old k ≠ 0 then old
    else s.inForce.foldl (fun st x => stPut st (setOff k + x.1) (toBytes x.2.1 (wrapInt (8 * x.2.1) x.2.2))) old
  let st := (s.setFields c.items).foldl (fun st x =>
    stPut st (setOff k + x.1) ((List.range x.2).map fun i => new.getD (x.1 + i) 0#8)) base
  let head := (c.startTemp.flatMap fun t => toBytes 2 (wrapInt 16 t)) ++
    toBytes 2 (setItems old k ||| c.items) ++ toBytes 4 gen ++ toBytes 4 c.refv
  let st := stPut st (setOff k) head
  let factory := c.valid && stOrigin old == 0
  let st := if factory then
      st.filter fun x => decide (x.1 < 1088) || (decide (setOff k ≤ x.1) && decide (x.1 < setOff (k + 1)))
    else st
  s.sealStore st gen (if factory then k + 1 else max (stNsets old) (k + 1)) 1

/-- Whether the entries of `new` that the run measured lie in the sanity windows (16 R458), in the units of 16 R469. -/
def State.sane (s : State) (new : List Byte) : Bool :=
  let u := fun (o n : Nat) => (le new o n : Int)
  let v := fun (o n : Nat) => toSigned (8 * n) (le new o n)
  let near := fun (x a : Int) (d : Nat) => decide ((x - a).natAbs ≤ d)
  let och := (List.range s.nOch).filter fun n => !s.bit (OCH_STAT n) 3
  let ich := (List.range s.nIch).filter fun m => !s.bit (ICH_STAT m) 3
  let on := fun (i : Nat) (b : Bool) => !bitOf s.cal.items i || b
  let unity : Int := 2 ^ 30
  on 0 ((List.range 3).all fun g =>
    near (500 * v (32 + 8 * g) 4) 0 (524288 * 2 ^ g) && near (50 * u (36 + 8 * g) 4) (50 * unity) (2 ^ 30)) &&
  on 1 (((List.range s.nBias).filter fun n => bitOf s.cal.bmask.toNat n).all fun n => (List.range 4).all fun k =>
    let b := 2432 + 544 * n + 136 * k
    near (1000 * [1, 2, 2, 4].getD k 1 * v b 4) 0 (2 ^ 24) && near (100 * u (b + 4) 4) (100 * unity) (2 ^ 30)
      && (List.range 63).all fun j => near (v (b + 8 + 2 * j) 2) 0 1024) &&
  on 2 (och.all fun n => near (v (64 + 8 * n) 2) 0 512 && near (v (66 + 8 * n) 2) 0 500) &&
  on 3 (ich.all fun m =>
    let b := 576 + 104 * m
    ((List.range 16).all fun i =>
      near (v (b + 6 * i) 2) 0 256 && near (v (b + 6 * i + 2) 2) 0 3000 && near (v (b + 6 * i + 4) 2) 0 300)
      && near (v (b + 96) 2) 0 256 && near (v (b + 98) 2) 0 300) &&
  on 4 ((och.all fun n => near (u (68 + 8 * n) 1) 61 61) && ich.all fun m => near (u (676 + 104 * m) 1) 61 61) &&
  on 5 (((List.range 48).filter s.hasMon).all fun k =>
    near (v (2240 + 4 * k) 2) 0 40 && near (v (2242 + 4 * k) 2) 0 40)

/-- Whether the ramp-downs of item BIAS have ended (16 R460). -/
def State.measuredDown (s : State) : Bool :=
  (List.range s.nBias).all fun n => !bitOf s.cal.bmask.toNat n || (s.bias n).next.isNone

/-- CAL_RUN_COMPLETE (16 R464): the new values come into force, CALIBRATE ends and the commit starts. A run completes
with every mean in its window only (16 R459). -/
def execCalRunComplete (newStore : List Byte) (s : State) : Host.Outcome State Fault Refusal :=
  answer s (
    if !s.cal.run || !s.bit HK_STAT 2 || (bitOf s.cal.items 1 && !s.measuredDown) || !s.sane newStore then s
    else
      let st := s.runStore newStore
      let s := (s.updCal fun c => { c with store := st, valid := true, run := false }).calInfo.applyTrims
      (s.hkRelease.leaveControl).calCommit)

/-- CAL_COMMIT (16 R464): `good` tells whether the store's write is found whole once the write-back has ended. -/
def execCalCommit (good : Bool) (s : State) : Host.Outcome State Fault Refusal :=
  answer s (
    if !s.cal.commit || s.boot.wb then s
    else
      let s := s.updCal fun c => { c with commit := false }
      let s := if good && s.boot.wrote then (s.setFld CAL_STAT 2 0 3).setBit CAL_STAT 6 true
        else (s.setFld CAL_STAT 2 0 4).setFld CAL_STAT 15 8 0x0F
      s.irqEvent 8 2)

end Sys2Proof.Machine
end

