-- ==== Sys2Proof/Machine/Flint.lean ====
section
/-!
DEFINITION. Flint trips, latches and the self-test, and the housekeeping converter (15 R442-R456).
-/
namespace Sys2Proof.Machine

/-! Trips and clears (15 R444-R446). -/

/-- Partitions in the mask of monitor `m`. -/
def State.flintMask (s : State) (m : Nat) : List Nat :=
  (List.range s.nPart).filter fun p => s.bit (FLINT_CFG m) (4 + p)

/-- A trip holds partition `p`: yield record first, then the copy of the error record if the trip ended an attempt or a
stream (01 R47, 09 R305). -/
def State.tripPart (s : State) (p m side : Nat) : State :=
  let q := s.part p
  let ended := q.attempt.active || q.mode == .stream
  let s := s.forEach (s.ochsOf p) State.asyncMute
  if q.mode = .hold then s.enterHold p .trip []
  else
    let tag := mkTag s.now 0 p q.attempt.shotNo 0 3 q.attempt.active false false false q.attempt.num
    let r := errorRec 7 7 1 (s.jobNum p) tag s.now (resource 10 m) side
    let s := if ended then s.yields p 1 2 1 tag (s.lostEvents p) 255 else s
    s.enterHold p .trip (if ended then [r] else [])

/-- FLINT_TRIP (15 R444): an enabled monitor that guards its input becomes OUTSIDE. -/
def execFlintTrip (m : Fin 48) (high : Bool) (s : State) : Host.Outcome State Fault Refusal :=
  answer s (
    let m := m.val
    let side := bn high
    let tested := s.flint.step.isSome && s.flint.mon == m
    if !s.hasMon m || !s.bit (FLINT_CFG m) 0 || tested || s.mode == .boot || s.mode == .failed then s
    else
      let s := ((s.setBit (FLINT_STAT m) 0 false).setBit (FLINT_STAT m) 1 false).latchAnew m
      if s.flintLatched m then s
      else
        let s := ((s.setLatch m true).setBit (FLINT_STAT m) 3 high).inc (FLINT_TRIPCNT m)
        let s := s.triggerAll (fun q => q.tsrc == 2 && q.tidx == m) s.now
        let s := s.forEach (s.flintMask m) fun s p => s.tripPart p m side
        let s := (s.queueEv (errorRec 7 7 1 0 0#64 s.now (resource 10 m) side)).irqEvent 8 3
        s.endModes 0x0B)

/-- FLINT_LATCH_WRITE (15 R445): each 1 attempts a clear; until the image is loaded every latch is held. -/
def State.flintLatchWrite (s : State) (mask : BitVec 48) (inputs : List FlintIn) : State :=
    if s.mode == .boot || s.mode == .failed then s
    else s.forEach ((List.range 48).filter fun m => bitOf mask.toNat m && s.hasMon m && s.flintLatched m) (fun s m =>
      s.flintTry inputs m)

/-- The command of that write. -/
def execFlintLatchWrite (mask : BitVec 48) (inputs : List FlintIn) (s : State) : Host.Outcome State Fault Refusal :=
  answer s (s.pf0 (s.flintLatchWrite mask inputs))

/-- FLINT_PERIOD_CLEAR (15 R445). -/
def execFlintPeriodClear (m : Fin 48) (input : FlintIn) (s : State) : Host.Outcome State Fault Refusal :=
  answer s (
    let m := m.val
    if s.hasMon m && s.bit (FLINT_CFG m) 0 && s.fld (FLINT_CFG m) 3 2 == 1 && s.flintLatched m
        && s.now % max 1 (s.fld (FLINT_PERIOD m) 23 0) == 0 && s.mode != .boot && s.mode != .failed then
      s.flintClear m input
    else s)

/-! The self-test (15 R447). -/

/-- FLINT_TEST_RUN: a write of FLINT_TEST. -/
def State.flintTestWrite (s : State) (data : Word) : State :=
    let d := data.toNat
    let s := if bits d 5 0 ≤ 47 then s.setFld FLINT_TEST 5 0 (bits d 5 0) else s
    let s := s.setBit FLINT_TEST 7 (bitOf d 7)
    let m := s.fld FLINT_TEST 5 0
    if !bitOf d 6 then s
    else if s.mode == .test && s.flint.step.isNone && s.hasMon m then
      let s : State := { s with flint := { mon := m, step := some 1, started := s.now, quiet := bitOf d 7 } }
      (s.setBit FLINT_TSTAT 0 true).setFld FLINT_TSTAT 6 3 0
    else s.stick FLINT_TSTAT 2

/-- The command of that write. -/
def execFlintTestRun (data : Word) (s : State) : Host.Outcome State Fault Refusal :=
  answer s (s.pf0 (s.flintTestWrite data))

/-- What the comparator is tied to in step `k`; none for a step that is skipped. -/
def State.tie (s : State) (m k : Nat) : Option Nat :=
  let lo := s.fld (FLINT_THR m) 11 0
  let hi := s.fld (FLINT_THR m) 27 16
  match k with
  | 1 => some ((lo + hi) / 2)
  | 2 => if lo < 16 then none else some (lo - 16)
  | 3 => if 4079 < hi then none else some (hi + 16)
  | _ => none

/-- The latch path of monitor `m` runs in the test: TOQUIET keeps TRIP_OUT_N as it is. -/
def State.testLatch (s : State) (m : Nat) (b : Bool) : State :=
  let out := s.pins.tripOut
  let s := s.setLatch m b
  if s.flint.quiet then s.updPins fun x => { x with tripOut := out } else s

/-- FLINT_TEST_STEP: the step in progress ends, `seen` telling what the comparison gave for the tied input, or in step 4
for the real one; `swappedOk` tells that each comparator's output there was the complement of its unswapped output. -/
def execFlintTestStep (seen : FlintIn) (swappedOk : Bool) (s : State) : Host.Outcome State Fault Refusal :=
  answer s (match s.flint.step with
    | none => s
    | some k =>
      if s.now < s.flint.started + 640 * k then s
      else
        let m := s.flint.mon
        let pass := match k with
          | 1 => seen == .inside
          | 2 => seen == .low || (s.tie m 2).isNone
          | 3 => seen == .high || (s.tie m 3).isNone
          | _ => swappedOk
        let s := s.setBit FLINT_TSTAT (2 + k) pass
        if k < 4 then
          let hit := (k == 2 || k == 3) && (s.tie m k).isSome && (seen == .low || seen == .high)
          let s : State := { s with flint := { s.flint with step := some (k + 1) } }
          if hit then s.testLatch m true else s
        else
          let s := s.flintSee m seen
          let s : State := { s with flint := {} }
          let s := (s.setBit FLINT_TSTAT 0 false).stick FLINT_TSTAT 1
          s.setLatch m (s.bit (FLINT_CFG m) 0 && !s.bit (FLINT_STAT m) 0))

/-! The housekeeping converter (15 R448-R453). -/

/-- GAIN as a conversion of input `sel` takes it (15 R449). -/
def hkGain (sel gain : Nat) : Nat := if 0x40 ≤ sel then 0 else gain

/-- SETTLE samples before a conversion (15 R450). -/
def State.hkSettle (s : State) (sel sub gain : Nat) : Nat :=
  match s.hk.last with
  | none => 12
  | some (a, b, g) => if g ≠ hkGain sel gain then 12 else if a ≠ sel ∨ b ≠ sub then 4 else 0

/-- A conversion of the input has been made: its SETTLE samples are counted. -/
def State.hkTook (s : State) (sel sub gain : Nat) : State :=
  (s.inc HK_SETTLECNT (s.hkSettle sel sub gain)).updHk fun h => { h with last := some (sel, sub, hkGain sel gain) }

/-- The converter powers up, when it is not (15 R451). -/
def State.hkPower (s : State) : State :=
  if s.bit HK_STAT 1 then s else (s.setBit HK_STAT 1 true).updHk fun h => { h with last := none }

/-- In gapped mode the converter powers down when nothing follows. -/
def State.hkIdle (s : State) : State :=
  if s.bit HK_CTRL 1 && !s.bit HK_STAT 0 && s.hk.inj.isNone then s.setBit HK_STAT 1 false else s

/-- Whether the converter serves scans now. -/
def State.hkFree (s : State) : Bool := s.mode != .boot && s.mode != .failed && !s.bit HK_STAT 2

/-- HK_SCAN_START (15 R450, R451). -/
def execHkScanStart (s : State) : Host.Outcome State Fault Refusal :=
  answer s (
    let gapped := s.bit HK_CTRL 1
    let due := !gapped || s.now % max 1 (s.fld HK_PERIOD 23 0) == 0
    if !s.hkFree || !s.bit HK_CTRL 0 || !due || s.mode == .calibrate then s
    else if s.bit HK_STAT 0 then (if gapped then s.inc HK_SKIP else s)
    else
      let l := (List.range (s.fld HK_LEN 6 0)).map fun e =>
        let a := HK_ENTRY e
        (s.fld a 6 0, s.fld a 13 7, s.fld a 15 14, s.fld a 23 16)
      let s := s.hkPower.updHk fun h => { h with entry := 0, count := h.count + 1, list := l }
      (s.setBit HK_STAT 0 true).setFld HK_STAT 11 6 0)

/-- VALUE of a conversion: 16 times the mean of its samples, rounded to nearest (15 R450). -/
def hkValue (l : List Int) : Nat := wrapInt 18 (roundTie 2 (16 * l.sum) (max 1 l.length))

/-- HK_CONVERSION_DONE (15 R450, R453): the result of the scan entry or injected request in progress. -/
def execHkConversionDone (injected : Bool) (samples : List Int) (railed : Bool) (s : State) :
    Host.Outcome State Fault Refusal :=
  answer s (
    let v := hkValue samples + 2 ^ 18 + 2 ^ 19 * bn railed
    if injected then
      match s.hk.inj with
      | none => s
      | some (sel, sub, gain, avg) =>
        if !s.hk.injRun || samples.length ≠ avg + 1 then s
        else
          let s := ((s.hkTook sel sub gain).setN HK_INJRES v).updHk fun h => { h with inj := none, injRun := false }
          let s := (s.setBit HK_STAT 3 false).stick HK_STAT 4
          if s.mode == .calibrate then s.hkTake else s.hkIdle
    else if !s.bit HK_STAT 0 || s.hk.injRun || !s.hkFree then s
    else match s.hk.list[s.hk.entry]? with
      | none => s
      | some (sel, sub, gain, avg) =>
        if samples.length ≠ avg + 1 then s
        else
          let e := s.hk.entry
          let s := (s.hkTook sel sub gain).setN (HK_RES e) (v + 2 ^ 20 * (s.hk.count % 256))
          let s := s.updHk fun h => { h with entry := e + 1, injRun := h.inj.isSome }
          if e + 1 < s.hk.list.length then s.setFld HK_STAT 11 6 (e + 1)
          else (((s.updHk fun h => { h with entry := 0 }).setBit HK_STAT 0 false).setFld HK_STAT 11 6 0).hkIdle)

/-- Whether temperature sensor `i` is present (00 R2). -/
def State.hasSensor (s : State) (i : Nat) : Bool :=
  match i with
  | 1 => s.hasGarnet
  | 3 | 4 | 5 | 6 => decide (i - 3 < s.nDie)
  | _ => true

/-- HK_TEMP_INSERT (15 R452): the readings of the eight sensors, in 1/16 °C; the trims follow (16 R468). -/
def execHkTempInsert (temps : List Int) (s : State) : Host.Outcome State Fault Refusal :=
  answer s (
    if !s.hkFree || !s.hk.temps || s.mode == .calibrate then s
    else
      let s := s.hkPower.updHk fun h => { h with temps := false }
      let s := s.forEach ((List.range 8).filter s.hasSensor) fun s i =>
        let s := s.hkTook (0x40 + i) 0 0
        match temps[i]? with
        | some t => s.setN (HK_TEMP i) (wrapInt 18 t + 2 ^ 18)
        | none => s
      s.trimsDue.hkIdle)

/-- HK_INJ (15 R453): a write of HK_INJ; GO requests a conversion of the fields as they stand. A temperature insertion that
is due and waits for no scan entry is in progress, after its start-up (log 155). -/
def State.hkInject (s : State) (d : Nat) : State :=
  let sel := bits d 6 0
  let s := if sel ≤ 0x23 ∨ (0x30 ≤ sel ∧ sel ≤ 0x3D) ∨ (0x40 ≤ sel ∧ sel ≤ 0x47) then s.setFld HK_INJ 6 0 sel else s
  let s := s.setFld HK_INJ 13 7 (bits d 13 7)
  let s := if bits d 15 14 ≤ 2 then s.setFld HK_INJ 15 14 (bits d 15 14) else s
  let s := s.setFld HK_INJ 23 16 (bits d 23 16)
  if !bitOf d 24 then s
  else
    let busy := match s.hk.list[s.hk.entry]? with
      | some (_, _, _, avg) => s.bit HK_STAT 0 && avg != 0
      | none => false
    let inserting := s.hk.temps && !s.bit HK_STAT 0 && (s.bit HK_STAT 1 || decide (1600 ≤ s.now % 640000))
    if busy || inserting || s.hk.inj.isSome || !s.hkFree || s.mode == .calibrate then (s.inc HK_INJDROP).stick HK_STAT 5
    else
      let r := (s.fld HK_INJ 6 0, s.fld HK_INJ 13 7, s.fld HK_INJ 15 14, s.fld HK_INJ 23 16)
      let s := s.hkPower.updHk fun h => { h with inj := some r, injRun := !s.bit HK_STAT 0 }
      s.setBit HK_STAT 3 true

/-- HK_INJ. -/
def execHkInj (data : Word) (s : State) : Host.Outcome State Fault Refusal := answer s (s.pf0 (s.hkInject data.toNat))

/-- HK_CNTCLR (15 R456). -/
def State.hkCntclr (s : State) : State :=
  s.clearCounts [HK_INJDROP, HK_SETTLECNT, HK_SKIP]

/-- The command of that write. -/
def execHkCntclr (s : State) : Host.Outcome State Fault Refusal :=
  answer s (s.pf0 s.hkCntclr)

end Sys2Proof.Machine
end

