-- ==== Sys2Proof/Machine/Image.lean ====
section
/-!
DEFINITION. The Luros image: its header, sections and CONFIG records, and what they load into the state (00 R3; 02 R65;
07 R245; 08 R275-R278; 11 R349; 17 R471-R478).
-/
namespace Sys2Proof.Machine

/-! Reading the flash (17 R472). -/

/-- The `n` flash bytes from address `a`. -/
def readFlash (fl : Tab Byte) (a n : Nat) : List Byte := (List.range n).map fun i => look flashDef fl (a + i)

/-- Flash address of slot `k`'s image and of half `h` of its calibration area. -/
def slotBase (k : Nat) : Nat := 0x2000000 * k
def halfBase (k h : Nat) : Nat := 0x2000000 * k + 0x1000000 + 0x100000 * h

/-! The header and the section table (17 R473, R474). -/

def imgLen (b : List Byte) : Nat := le b 8 4
def imgNsect (b : List Byte) : Nat := le b 7 1

/-- The image of slot `k`, as long as its header says. -/
def State.slotImage (s : State) (k : Nat) : List Byte :=
  readFlash s.flash (slotBase k) (min (imgLen (readFlash s.flash (slotBase k) 64)) 0x1000000)

/-- Error of the header (17 R473, R477, R483): 0, 0x05 HEADER or 0x09 VARIANT. `h` is the header and section table. -/
def State.headerErr (s : State) (h : List Byte) : Nat :=
  let n := imgNsect h
  let ok := le h 0 4 == 0x4C555253 && le h 4 2 == 1 && decide (1 ≤ n) && decide (n ≤ 64)
    && le h 60 4 == crc32 (h.take 60 ++ (h.drop 64).take (16 * n))
    && decide (64 + 16 * n ≤ imgLen h) && decide (imgLen h ≤ 0x1000000) && allZero ((h.drop 24).take 36) &&
        bits (le h 6 1) 7 3 == 0
  if !ok then 5 else if bitOf (le h 6 1) s.variantCode then 0 else 9

/-- The entries of the section table. -/
def sectEntries (b : List Byte) : List (List Byte) := chunks 16 (imgNsect b) (b.drop 64)
def secType (e : List Byte) : Nat := le e 0 1
def secOff (e : List Byte) : Nat := le e 4 4
def secLen (e : List Byte) : Nat := le e 8 4
/-- The bytes of a section. -/
def secBytes (b e : List Byte) : List Byte := (b.drop (secOff e)).take (secLen e)

/-- The sections with their index, in table order. -/
def sections (b : List Byte) : List (Nat × List Byte × List Byte) :=
  (sectEntries b).zipIdx.map fun x => (x.2, x.1, secBytes b x.1)

/-- The sections of type `t`: index and bytes. -/
def secsOf (b : List Byte) (t : Nat) : List (Nat × List Byte) :=
  ((sections b).filter fun x => secType x.2.1 == t).map fun x => (x.1, x.2.2)

/-! CONFIG records (17 R475). -/

/-- The little-endian words of `l`, at most `fuel`. -/
def wordsOf : Nat → List Byte → List Nat
  | 0, _ => []
  | _, [] => []
  | k + 1, l => le l 0 4 :: wordsOf k (l.drop 4)

/-- The records of a CONFIG section: offset and words; none for one that leaves the section. -/
def cfgRecords : Nat → List Byte → List (Option (Nat × List Nat))
  | 0, _ => []
  | _, [] => []
  | k + 1, l =>
    let n := le l 4 4
    if l.length < 8 ∨ l.length < 8 + 4 * n then [none]
    else some (le l 0 4, wordsOf n (l.drop 8)) :: cfgRecords k (l.drop (8 + 4 * n))

/-- Whether value `v` is one that the field allows. -/
def Fld.allows (f : Fld) (v : Nat) : Bool :=
  f.legal.isEmpty || f.legal.any fun (lo, hi, step) => decide (lo ≤ v) && decide (v ≤ hi) && (v - lo) % step == 0

def Fld.get (f : Fld) (w : Nat) : Nat := bits w f.hi f.lo
def Fld.put (f : Fld) (w v : Nat) : Nat := setBits w f.hi f.lo v
/-- Whether an image write may set the field. -/
def Fld.writable (f : Fld) : Bool := f.acc == .rw || f.acc == .rwl
/-- Whether bits outside the register's fields are all 0. -/
def RegRow.noReserved (r : RegRow) (w : Nat) : Bool := onlyBits w (r.flds.map fun f => (f.hi, f.lo))

/-- Offset in the Mica memory windows, and whether it holds a program or constant word (07 R245). -/
def micaWindow (a : Nat) : Bool := decide (0x1000000 ≤ a) && decide (a < 0x1800000)
def micaWord (a : Nat) : Bool :=
  let o := a % 0x20000
  decide (o < 0x4000) || (decide (0x10000 ≤ o) && decide (o < 0x18000))

/-- Whether a CONFIG record may write word `w` to offset `a`. -/
def cfgWordOk (a w : Nat) : Bool :=
  if micaWindow a then micaWord a
  else match pf0Row a with
    | none => false
    | some r => r.flds.any Fld.writable && r.noReserved w && r.flds.all fun f => !f.writable || f.allows (f.get w)

/-- The words of a record with their offsets. -/
def recWords (r : Nat × List Nat) : List (Nat × Nat) := r.2.zipIdx.map fun x => (r.1 + 4 * x.2, x.1)

def cfgRecOk (r : Option (Nat × List Nat)) : Bool :=
  match r with
  | none => false
  | some (a, l) => a % 4 == 0 && decide (1 ≤ l.length) && decide (l.length ≤ 65536) && (recWords (a, l)).all fun x =>
      cfgWordOk x.1 x.2

/-- Error of the CONFIG sections: 0x08 with the section and the record. -/
def cfgErr (b : List Byte) : Option (Nat × Nat) :=
  (secsOf b 1).findSome? fun (i, l) =>
    (((cfgRecords l.length l).zipIdx.find? fun x => !cfgRecOk x.1).map fun x => (8, i + 256 * (x.2 % 2 ^ 24)))

/-! Other section formats (04 R120; 08 R275; 17 R474, R476). -/

def ownerByte (v : Byte) : Bool := decide (v.toNat < 8) || v == 0xFF#8

def assignOk (l : List Byte) : Bool :=
  l.length == 2344 && (l.take 1824).all ownerByte && (l.drop 1832).all ownerByte

/-- Whether the fields of a measurement descriptor are in range (04 R120). -/
def descFormat (b : List Byte) : Bool :=
  let d := parseDesc b
  (d.poch == 255 || (decide (d.poch < 64) && decide (le b 0 2 < 1024))) && decide (d.ich < 16) && decide (le b 8 2 < 1024)
    && decide (d.mica < 64) && d.mica / 4 == d.ich && decide (d.dec < 4) && decide (d.wofs < 1048576)
    && decide (1 ≤ d.wlen) && decide (d.wlen ≤ 1048576) && allZero (b.drop 22)

def trkDescs (l : List Byte) : List (List Byte) := chunks 32 (l.length / 32) l

/-- Whether the header of a graph is right (08 R275). -/
def graphHead (l : List Byte) : Bool :=
  let nl := le l 8 2
  let nf := le l 10 2
  decide (64 ≤ l.length) && le l 0 4 == 0x47524E54 && le l 4 2 == 1 && decide (le l 6 1 < 8) && decide (le l 7 1 < 4)
    && decide (1 ≤ nl) && decide (nl ≤ 4096) && decide (nf ≤ 4096)
    && decide (1 ≤ le l 12 2) && decide (le l 12 2 ≤ 32768) && decide (le l 14 2 ≤ 32768)
    && decide (2 ≤ le l 16 1) && decide (le l 16 1 ≤ 32) && decide (le l 17 1 ≤ 8) && decide (le l 18 2 ≤ 1024)
    && (List.range 4).all (fun i => bits (le l 20 1) (2 * i + 1) (2 * i) != 3)
    && allZero ((l.drop 21).take 3) && allZero ((l.drop 40).take 24)
    && decide (le l 24 4 + 16 * (nl + nf) ≤ l.length) && decide (le l 28 4 + 8 * (le l 12 2 + le l 14 2) ≤ l.length)
    && decide (le l 32 4 + 16 * le l 17 1 ≤ l.length) && decide (le l 36 4 + 4 * le l 18 2 ≤ l.length)

/-- Whether section `i` of the image is well formed by itself and towards the sections before it. -/
def sectOk (b : List Byte) (i : Nat) (e l : List Byte) : Bool :=
  let before := (sectEntries b).take i
  let same := (before.filter fun x => secType x == secType e).length
  let apart := fun x => decide (secOff x + secLen x ≤ secOff e) || decide (secOff e + secLen e ≤ secOff x)
  allZero ((e.drop 1).take 3) && secOff e % 64 == 0 && decide (secOff e + secLen e ≤ imgLen b) && before.all apart
    && match secType e with
      | 1 => decide (same < 16)
      | 2 => same == 0 && assignOk l
      | 3 => same == 0 && l.length % 32 == 0 && decide (32 ≤ l.length) && decide (l.length ≤ 2048) &&
        (trkDescs l).all descFormat
      | 4 => decide (same < 8) && graphHead l &&
          !((before.filter fun x => secType x == 4).any fun x => le (secBytes b x) 6 1 == le l 6 1)
      | 5 => same == 0 && l.length == 32 && allZero ((l.drop 6).take 2) && allZero ((l.drop 12).take 4)
          && allZero ((l.drop 22).take 2) && allZero ((l.drop 28).take 4)
      | _ => false

/-- The first error of the image before the configuration check: code and DETAIL (17 R477, R483). -/
def State.imageErr (s : State) (k : Nat) (b : List Byte) : Option (Nat × Nat) :=
  let h := readFlash s.flash (slotBase k) (64 + 16 * 64)
  if s.headerErr h ≠ 0 then some (s.headerErr h, Config.bootDetail (s.headerErr h))
  else match (sections b).find? fun x => crc32 x.2.2 != le x.2.1 12 4 with
    | some x => some (6, x.1)
    | none =>
      match (sections b).find? fun x => !sectOk b x.1 x.2.1 x.2.2 with
      | some x => some (7, x.1)
      | none =>
        if (secsOf b 1).isEmpty ∨ (secsOf b 2).isEmpty then some (7, Config.bootDetail 7)
        else cfgErr b

/-! What the sections load. -/

/-- Whether the instance of the register or window word at `a` is present on the variant (00 R2, R3). -/
def State.present (s : State) (a : Nat) : Bool :=
  let within := fun (base stride n : Nat) => decide ((a - base) / stride < n)
  if a < 0x10040 then true
  else if a < 0x10060 then within 0x10040 4 s.nPart
  else if a < 0x30040 then true
  else if a < 0x30090 then within 0x30040 0x10 s.nSets
  else if a < 0x30100 then true
  else if a < 0x301C0 then s.hasMon ((a - 0x30100) / 4)
  else if a < 0x40100 then true
  else if a < 0x40700 then s.hasMon ((a - 0x40100) / 0x20)
  else if a < 0x50040 then true
  else if a < 0x50060 then s.hasSensor ((a - 0x50040) / 4)
  else if a < 0x60000 then true
  else if a < 0x62000 then within 0x60000 0x40 s.nBias
  else if a < 0x80000 then true
  else if a < 0x84000 then within 0x80000 0x100 s.nOch
  else if a < 0xC0000 then true
  else if a < 0xC2000 then within 0xC0000 0x200 s.nIch
  else if a < 0xE0000 then true
  else if a < 0xE2000 then within 0xE0000 0x80 s.nMica
  else if a < 0x100000 then true
  else if a < 0x110000 then within 0x100000 0x1000 s.nQtz
  else if a < 0x200100 then true
  else if a < 0x200300 then within 0x200100 0x40 s.nPart
  else if a < 0x210100 then true
  else if a < 0x210200 then within 0x210100 0x20 s.nPart
  else if a < 0x220100 then true
  else if a < 0x220500 then within 0x220100 0x80 s.nPart
  else if a < 0x230000 then true
  else if a < 0x230100 then s.hasGarnet
  else if a < 0x230300 then s.hasGarnet && within 0x230100 0x40 s.nPart
  else if a < 0x300000 then true
  else if a < 0x308000 then within 0x300000 0x1000 s.nChan
  else if a < 0x308200 then true
  else if a < 0x308280 then within 0x308200 0x10 s.nPart
  else if a < 0x340040 then true
  else if a < 0x3400C0 then within 0x340040 0x10 s.nPart
  else if a < 0x340C00 then true
  else if a < 0x340D00 then within 0x340C00 4 s.nMica
  else if a < 0x380200 then true
  else if a < 0x380220 then within 0x380200 4 s.nPart
  else if a < 0x381000 then true
  else if a < 0x381400 then within 0x381000 0x100 s.nPort
  else if a < 0x3E0100 then true
  else if a < 0x3E0180 then within 0x3E0100 0x10 s.nPart
  else if a < 0x1000000 then true
  else if a < 0x2000000 then within 0x1000000 0x20000 s.nMica
  else true

/-- Field by field, the fields of `r` that `ok` admits take their value of `w`, reserved encodings excepted (00 R12). -/
def RegRow.merge (r : RegRow) (ok : Fld → Bool) (old w : Nat) : Nat :=
  r.flds.foldl (fun x f => if ok f && f.allows (f.get w) then f.put x (f.get w) else x) old

/-- The frame table word at `a` takes the value `w`, as applied and as issued. -/
def State.setFrameWord (s : State) (a w : Nat) : State :=
  let f := (a - 0x400000) / 16
  let x := s.frame f
  let v : Frame := match a % 16 with
    | 0 => { x with fw := BitVec.ofNat 48 (setBits x.fw.toNat 31 0 w) }
    | 4 => { x with fw := BitVec.ofNat 48 (setBits x.fw.toNat 47 32 w) }
    | 8 => { x with ph := BitVec.ofNat 48 (setBits x.ph.toNat 31 0 w) }
    | _ => { x with ph := BitVec.ofNat 48 (setBits x.ph.toNat 47 32 w) }
  (s.setFrame f v).setIssued f v

/-- A Mica window word takes the value `w` (07 R245). -/
def State.setMicaWord (s : State) (a w : Nat) : State :=
  let k := (a - 0x1000000) / 0x20000
  let o := a % 0x20000
  if o < 0x10000 then s.updMica k fun m => { m with prog := put (fun _ => 0#32) m.prog (o / 4) (BitVec.ofNat 32 w) }
  else s.updMica k fun m => { m with const := put (fun _ => 0#32) m.const ((o - 0x10000) / 4) (BitVec.ofNat 32 w) }

/-- A word of a CONFIG record, or of an override (`ok` admits RWL fields only), takes effect; an absent instance ignores
it. -/
def State.cfgWord (s : State) (ok : Fld → Bool) (a w : Nat) : State :=
  if !s.present a then s
  else if micaWindow a then s.setMicaWord a w
  else if 0x400000 ≤ a then s.setFrameWord a w
  else match pf0Row a with
    | none => s
    | some r => s.setN a (r.merge ok (s.regN a) w)

/-- Defaults that depend on the variant or on other sections (05 R170; 09 R297; 11 R349). -/
def State.imageDefaults (s : State) (backlog : Bool) : State :=
  let fill := match s.variant with | .pfq6416 => 10 | .pfq3208 => 4 | .pfq1604 => 5
  let rate := match s.variant with | .pfq6416 => 512 | .pfq3208 => 256 | .pfq1604 => 128
  let s := s.forEach (List.range 8) fun s p => (s.setN (GEODE_FILLQ p) fill).setN (STRATA_JRATE p) rate
  ((((s.setN (MEM_RSIZE 0) 1024).setN (MEM_RSIZE 1) 512).setN (MEM_RSIZE 2) 0).setN (MEM_RSIZE 3)
    (if backlog then 8 else 0)).setN (MEM_RSIZE 4) 64

/-- Owner fields [lo+2:lo] and ASSIGNED above them of register `a`, from owner byte `v`. -/
def State.setOwner (s : State) (a lo : Nat) (v : Byte) : State :=
  if v = 0xFF#8 then s else (s.setFld a (lo + 2) lo v.toNat).setBit a (lo + 3) true

/-- The ASSIGN section `l` takes effect (17 R476); an absent instance ignores its owner. -/
def State.loadAssign (s : State) (l : List Byte) : State :=
  let own := fun o i => l.getD (o + i) 0xFF#8
  let s := s.forEach (List.range s.nOch) fun s n => s.setOwner (OCH_CTRL n) 8 (own 0 n)
  let s := s.forEach (List.range s.nIch) fun s n => s.setOwner (ICH_CTRL n) 8 (own 64 n)
  let s := s.forEach (List.range s.nBias) fun s n => s.setOwner (BIAS_CFG n) 0 (own 80 n)
  let s := s.forEach (List.range s.nQtz) fun s n => s.setOwner (QTZ_CFG n) 0 (own 208 n)
  let s := s.forEach (List.range s.nMica) fun s n =>
    ((s.setOwner (MICA_CFG n) 0 (own 224 n)).setFld (MICA_CFG n) 7 4 (n / 4)).setFld (MICA_CFG n) 9 8 (n % 4)
  let s := s.forEach (List.range 512) fun s n => s.setOwner (DEC_SLOTCFG n) 0 (own 1312 n)
  let s : State := { s with frameOwner := (List.range 1024).foldl (fun t f =>
    if own 288 f = 0xFF#8 then t else put (fun _ => 0) t f (1 + (own 288 f).toNat)) [] }
  let s := s.updBoot fun b => { b with spanOf := ((l.drop 1824).take 8).map (·.toNat), partner := l.drop 1832 }
  s.forEach (List.range s.nQtz) fun s c =>
    s.setBit (QTZ_CFG c) 4 (match s.qtzOwner c with | some p => (s.spanOf p).isSome | none => false)

/-! Graphs (08 R275-R278). -/

def parseDet (b : List Byte) : Det :=
  { kind := le b 0 1, prev := le b 2 2, src := (List.range (le b 1 1)).map fun i => le b (4 + 2 * i) 2 }

def parseEdge (b : List Byte) : Edge :=
  { a := le b 0 2, b := le b 2 2, w := le b 4 1, obs := BitVec.ofNat 8 (le b 5 1), pauli := BitVec.ofNat 16 (le b 6 2) }

def graphDets (l : List Byte) : List (List Byte) := chunks 16 (le l 8 2 + le l 10 2) (l.drop (le l 24 4))
def graphEdges (l : List Byte) : List (List Byte) := chunks 8 (le l 12 2 + le l 14 2) (l.drop (le l 28 4))
def graphObs (l : List Byte) : List (List Byte) := chunks 16 (le l 17 1) (l.drop (le l 32 4))
def graphQubits (l : List Byte) : List (List Byte) := chunks 4 (le l 18 2) (l.drop (le l 36 4))
/-- The data slots of observable entry `o`. -/
def obsSlots (l o : List Byte) : List Nat := (chunks 2 (le o 2 2) (l.drop (le o 4 4))).map fun b => le b 0 2

def parseGraph (l : List Byte) : Graph :=
  let nl := le l 8 2
  let ne := le l 12 2
  let dets := (graphDets l).map parseDet
  let edges := (graphEdges l).map parseEdge
  { valid := true, backlogMode := bitOf (le l 7 1) 0, seam := bitOf (le l 7 1) 1, win := le l 16 1
    statemap := BitVec.ofNat 8 (le l 20 1), layer := dets.take nl, final := dets.drop nl, ledges := edges.take ne
    fedges := edges.drop ne, obs := (graphObs l).map fun o => (le o 0 2, obsSlots l o)
    qubits := (graphQubits l).map fun q => (bits (le q 0 4) 9 0, bitOf (le q 0 4) 15) }

/-- The graph section `l` takes effect. -/
def State.loadGraph (s : State) (l : List Byte) : State :=
  let p := le l 6 1
  let s := s.updGraph p fun _ => parseGraph l
  let s := s.setN (GARNET_GCFG p) (1 + 2 * (le l 7 1 % 2) + 4 * (le l 16 1 - 1) + 128 * (le l 7 1 / 2 % 2) + 256 * le l 17 1)
  s.setN (GARNET_GSIZE p) (le l 8 2 + 65536 * le l 10 2)

/-- The words of every CONFIG section, with the index of the section that writes them, in order. -/
def cfgWords (b : List Byte) : List (Nat × Nat × Nat) :=
  (secsOf b 1).flatMap fun (i, l) =>
    (cfgRecords l.length l).flatMap fun r => match r with
      | some r => (recWords r).map fun x => (x.1, x.2, i)
      | none => []

/-- The state with the image `b` and the overrides `ov` loaded, before its check (17 R477, R478, R484). -/
def State.loadImage (s : State) (b : List Byte) (ov : List (Nat × Word)) : State :=
  let gs := (secsOf b 4).map (·.2)
  let s := s.imageDefaults (gs.any fun l => bitOf (le l 7 1) 0)
  let s := s.forEach (cfgWords b) fun s x => s.cfgWord Fld.writable x.1 x.2.1
  let s := s.forEach ov fun s x => s.cfgWord (·.acc == .rwl) x.1 x.2.toNat
  let s := s.forEach (secsOf b 2) fun s x => s.loadAssign x.2
  let s := s.forEach gs fun s l => s.loadGraph l
  s.updBoot fun x => { x with
    trkDesc := ((secsOf b 3).map (·.2)).flatMap fun l => (trkDescs l).map parseDesc
    netid := ((secsOf b 5).map (·.2)).flatten }

end Sys2Proof.Machine
end

