-- ==== Sys2Proof/Machine/Check.lean ====
section
/-!
DEFINITION. The configuration check of an image (17 R477, R483): every condition of the manual that fails it, over the
state with the image and the overrides loaded.
-/
namespace Sys2Proof.Machine

/-- One condition: whether it holds, and what takes part in it: registers, and sections by their index. -/
structure Rule where
  ok : Bool
  regs : List Nat := []
  sects : List Nat := []

def State.sum (s : State) (f : Nat → Nat) : Nat := ((List.range s.nPart).map f).sum
/-- The register of every partition present. -/
def State.ofParts (s : State) (f : Nat → Nat) : List Nat := (List.range s.nPart).map f

/-- The only ASSIGN section: its index, and its bytes. -/
def asgIdx (b : List Byte) : List Nat := (secsOf b 2).map (·.1)
def asgBytes (b : List Byte) : List Byte := ((secsOf b 2).map (·.2)).flatten

/-- Whether word `w` at offset `a` assigns, enables or reserves the instance (00 R4). DESIGN CHOICE (log 123): a field that
only names an absent instance is not counted: the port of a route or of the time parent, partitions in a monitor's mask. -/
def reserves (a w : Nat) : Bool :=
  match pf0Row a with
  | none => false
  | some r =>
    if r.base == FLINT_CFG 0 || r.base == MESH_PCFG 0 then bitOf w 0
    else if r.base == CAP_MRING 0 then bitOf w 5
    else if r.base == OCH_CTRL 0 then bitOf w 2
    else if r.base == GEODE_OBJRANGE 0 then decide (bits w 15 0 ≤ bits w 31 16)
    else ([GEODE_LIBQ 0, GEODE_PINQ 0, GEODE_FILLQ 0, SCHED_QUOTA 0, STRATA_JRATE 0, STRATA_JSIZE 0, MEM_CAPQ 0,
        MESH_PSHARE 0].contains
      r.base) && w != 0

/-- 00 R4: no absent resource is assigned, enabled or reserved. `w` are the words written, with overrides, in order. -/
def State.rulesAbsent (s : State) (b : List Byte) (w : List (Nat × Nat)) : List Rule :=
  let a := asgBytes b
  let n := fun i => (a.getD i 0xFF#8).toNat
  let none := fun lo hi => ((List.range (hi - lo)).all fun i => n (lo + i) == 255)
  let here := fun i => n i == 255 || decide (n i < s.nPart)
  let gone := (w.map (·.1)).filter fun x => !s.present x
  { ok := none s.nOch 64 && none (64 + s.nIch) 80 && none (80 + s.nBias) 208 && none (208 + s.nQtz) 224
      && none (224 + s.nMica) 288 && (List.range 1824).all here && none (1824 + s.nPart) 1832, sects := asgIdx b }
  :: gone.map (fun x => { ok := !reserves x ((((w.reverse.find? (·.1 == x)).map (·.2)).getD 0)), regs := [x] })
  ++ (secsOf b 4).map (fun g => { ok := s.hasGarnet && decide (le g.2 6 1 < s.nPart), sects := [g.1] })
  ++ (List.range 64).map (fun l =>
    { ok := !s.bit (DEC_TRKCFG l) 2 || decide (s.trkOwner l < s.nPart), regs := [DEC_TRKCFG l] })
  ++ (List.range 32).map (fun r =>
    { ok := !s.bit (CAP_RCFG r) 3 || decide (s.fld (CAP_RCFG r) 2 0 < s.nPart), regs := [CAP_RCFG r] })

/-- Ganging (03 R79), LEAD (04 R144), Mica owners (07 R212). -/
def State.rulesCores (s : State) (b : List Byte) : List Rule :=
  (List.range s.nOch).map (fun n =>
    { ok := !s.bit (OCH_CTRL n) 2 || (n % 2 == 0 && ((s.ochOwner (n + 1)).isNone || s.ochOwner (n + 1) == s.ochOwner n))
      regs := [OCH_CTRL n], sects := asgIdx b })
  ++ (List.range s.nPart).map (fun p =>
    { ok := (s.qtzOf p).all fun c => (s.qtzOf p).all fun d => s.fld (QTZ_CFG c) 31 16 == s.fld (QTZ_CFG d) 31 16
      regs := (s.qtzOf p).map QTZ_CFG, sects := asgIdx b })
  ++ [{ ok := (List.range s.nMica).all fun k => (s.micaOwner k).isNone || s.micaOwner k == s.ichOwner (k / 4)
        sects := asgIdx b }]

/-- Waveform ranges and the quotas of Geode and the scheduler (05 R160, R164, R168, R170, R181). -/
def State.rulesGeode (s : State) : List Rule :=
  let apart := fun p q =>
    let lo := fun p => s.fld (GEODE_OBJRANGE p) 15 0
    let hi := fun p => s.fld (GEODE_OBJRANGE p) 31 16
    decide (hi p < lo p) || decide (hi q < lo q) || decide (hi p < lo q) || decide (hi q < lo p)
  let parts := List.range s.nPart
  parts.flatMap (fun p => (parts.filter (p < ·)).map fun q =>
    { ok := apart p q, regs := [GEODE_OBJRANGE p, GEODE_OBJRANGE q] })
  ++ [{ ok := decide (s.sum (fun p => s.fld (GEODE_LIBQ p) 24 0) ≤ 4096 * s.fld (MEM_RSIZE 0) 12 0)
        regs := MEM_RSIZE 0 :: s.ofParts GEODE_LIBQ },
      { ok := decide (s.sum (fun p => s.fld (GEODE_PINQ p) 14 0) ≤ 16384), regs := s.ofParts GEODE_PINQ },
      { ok := decide (s.sum s.fillQuota ≤ s.fillCap), regs := s.ofParts GEODE_FILLQ },
      { ok := decide (s.sum (fun p => s.fld (SCHED_QUOTA p) 17 0) ≤ 126976), regs := s.ofParts SCHED_QUOTA }]

/-- An enabled loop that tracks frames and whose probes use slot `i` (08 R246, R257). -/
def State.probedBy (s : State) (p i : Nat) : Bool :=
  (List.range 64).any fun l => s.bit (DEC_TRKCFG l) 2 && s.trkKind l == 2 && s.trkOwner l == p &&
      s.fld (DEC_TRKPROBE2 l) 24 16 == i

/-- Whether everything that loop `l` of owner `p` names is its owner's (08 R257). -/
def State.loopOk (s : State) (b : List Byte) (l p : Nat) : Bool :=
  let slot := s.fld (DEC_TRKPROBE2 l) 24 16
  let ds := ((secsOf b 3).map (·.2)).flatMap trkDescs
  if s.trkKind l == 2 then
    s.frameOwn (s.trkTarget l) == some p && s.ochOwner (s.fld (DEC_TRKPROBE2 l) 5 0) == some p
      && s.objInRange p (s.fld (DEC_TRKPROBE l) 15 0) && s.slotOwner slot == some p && s.slotSrc slot == 3
      && match ds[s.fld (DEC_TRKPROBE2 l) 13 8]? with
        | some d => s.mdescOk p d && ((parseDesc d).poch == 255 || s.objInRange p (parseDesc d).pwave)
        | none => false
  else s.micaOwner (s.trkTarget l / 4) == some p

/-- Slots (08 R246) and tracking loops (08 R257). -/
def State.rulesDec (s : State) (b : List Byte) : List Rule :=
  let trk := (secsOf b 3).map (·.1)
  let loops := s.trkAll
  (List.range 512).map (fun i =>
    { ok := match s.slotOwner i with
        | none => true
        | some p => match s.slotSrc i with
          | 1 => (s.spanOf p).isSome
          | 2 => (s.graph p).obs.any (·.1 == i)
          | 3 => s.probedBy p i
          | _ => true
      regs := [DEC_SLOTCFG i], sects := asgIdx b })
  ++ loops.map (fun l =>
    { ok := s.loopOk b l (s.trkOwner l)
      regs := [DEC_TRKCFG l] ++ (if s.trkKind l == 2 then
        [DEC_TRKPROBE l, DEC_TRKPROBE2 l, GEODE_OBJRANGE (s.trkOwner l),
          DEC_SLOTCFG (s.fld (DEC_TRKPROBE2 l) 24 16)] else [])
      sects := asgIdx b ++ (if s.trkKind l == 2 then trk else []) })
  ++ loops.flatMap (fun l => (loops.filter (l < ·)).map fun m =>
    { ok := s.trkKind l != s.trkKind m || s.trkTarget l != s.trkTarget m, regs := [DEC_TRKCFG l, DEC_TRKCFG m] })

/-- Whether a word of a detector table's edge names a detector of it (08 R277). -/
def edgeEnd (nl nf w : Nat) (final : Bool) : Bool :=
  let i := bits w 12 0
  !bitOf w 15 && (i == 0x1FFF || if bitOf w 14 then final && decide (i < nf) else decide (i < nl))

/-- Whether the tables of graph section `l` are right and name what partition `p` owns (08 R276-R278). -/
def State.graphOk (s : State) (l : List Byte) (p : Nat) : Bool :=
  let nl := le l 8 2
  let nf := le l 10 2
  let nq := le l 18 2
  let meas := fun i => decide (i < 512) && s.slotOwner i == some p && s.slotSrc i == 0
  let srcOk := fun k i => if k == 2 then decide (i < 512) && s.slotOwner i == some p && s.slotSrc i == 1 else meas i
  let dets := (graphDets l).zipIdx
  let edges := (graphEdges l).zipIdx
  let used := (graphDets l).flatMap fun d => (parseDet d).src
  dets.all (fun (d, i) =>
      let x := parseDet d
      let n := le d 1 1
      (if i < nl then (x.kind == 0 || x.kind == 2) && n == 1
        else x.kind == 1 && decide (1 ≤ n) && decide (n ≤ 4) && decide (x.prev < nl))
        && x.src.all (srcOk x.kind) && ((List.range 4).all fun k => decide (k < n) || le d (4 + 2 * k) 2 == 0xFFFF)
        && allZero (d.drop 12))
    && used.eraseDups.length == used.length
    && edges.all (fun (e, i) =>
      let x := parseEdge e
      let final := decide (le l 12 2 ≤ i)
      edgeEnd nl nf x.a final && edgeEnd nl nf x.b final
        && !(bits x.a 12 0 == 0x1FFF && bits x.b 12 0 == 0x1FFF) && decide (1 ≤ x.w) && decide (x.w ≤ 15)
        && decide (x.obs.toNat < 2 ^ le l 17 1) && bits x.pauli.toNat 15 13 == 0
        && (bits x.pauli.toNat 11 10 == 0 || decide (bits x.pauli.toNat 9 0 < nq)))
    && (graphObs l).all (fun o =>
      decide (le o 0 2 < 512) && s.slotOwner (le o 0 2) == some p && s.slotSrc (le o 0 2) == 2
        && decide (1 ≤ le o 2 2) && decide (le o 2 2 ≤ 256) && decide (le o 4 4 + 2 * le o 2 2 ≤ l.length)
        && (obsSlots l o).all meas && allZero (o.drop 8))
    && (graphQubits l).all (fun q => s.frameOwn (bits (le q 0 4) 9 0) == some p && onlyBits (le q 0 4) [(9, 0), (15, 15)])

/-- Graphs (08 R272, R276-R278). -/
def State.rulesGarnet (s : State) (b : List Byte) : List Rule :=
  let gs := secsOf b 4
  let all := fun f : List Byte → Nat => (gs.map fun g => f g.2).sum
  { ok := decide (all (fun l => le l 8 2 * le l 16 1 + le l 10 2) ≤ s.nDet)
      && decide (all (fun l => le l 12 2 * le l 16 1 + le l 14 2) ≤ s.nEdge), sects := gs.map (·.1) }
  :: gs.map (fun g =>
    { ok := s.graphOk g.2 (le g.2 6 1)
      regs := ((graphDets g.2).flatMap (fun d => (parseDet d).src) ++ (graphObs g.2).map (fun o => le o 0 2)
        ++ (graphObs g.2).flatMap (obsSlots g.2)).map DEC_SLOTCFG
      sects := g.1 :: asgIdx b })

/-- The capture rings that the image makes. -/
def State.capRings (s : State) : List Nat := (List.range 32).filter fun r => s.bit (CAP_RCFG r) 3

/-- Journal and capture (09 R296, R297; 10 R308, R309, R329). -/
def State.rulesRings (s : State) (b : List Byte) : List Rule :=
  [{ ok := decide (s.sum (fun p => s.fld (STRATA_JSIZE p) 12 0) ≤ 16 * s.fld (MEM_RSIZE 1) 12 0)
     regs := MEM_RSIZE 1 :: s.ofParts STRATA_JSIZE },
   { ok := decide (s.sum (fun p => s.fld (STRATA_JRATE p) 12 0) ≤ 4096), regs := s.ofParts STRATA_JRATE },
   { ok := decide ((s.capRings.map fun r => s.fld (CAP_RSIZE r) 12 0).sum ≤ s.fld (MEM_RSIZE 2) 12 0)
     regs := MEM_RSIZE 2 :: s.capRings.map CAP_RSIZE ++ s.capRings.map CAP_RCFG }]
  ++ (List.range s.nMica).map (fun k =>
    { ok := !s.bit (CAP_MRING k) 5 || match s.micaOwner k with
        | some p => s.ringOwned (s.fld (CAP_MRING k) 4 0) p
        | none => false
      regs := [CAP_MRING k, CAP_RCFG (s.fld (CAP_MRING k) 4 0)], sects := asgIdx b })
  ++ s.capRings.map (fun r =>
    { ok := s.fld (CAP_RCFG r) 5 4 == 0 || s.fld (CAP_RCFG r) 11 6 != s.devId, regs := [CAP_RCFG r, MESH_ID] })

/-- Bandwidth that the image commits, in BU (11 R355). -/
def State.committed (s : State) : Nat :=
  s.sum (fun p => 64 * s.fillQuota p + s.fld (STRATA_JRATE p) 12 0 / 2 + s.fld (MEM_CAPQ p) 13 0) + 320
    + (if (List.range 8).any fun p => (s.graph p).backlogMode then 100 else 0)
/-- The guarantee of 11 R354. -/
def State.guaranteed (s : State) : Nat := 125 * s.nOch

/-- Regions and bandwidth (11 R349, R355). -/
def State.rulesMem (s : State) (b : List Byte) : List Rule :=
  let size := fun i => s.fld (MEM_RSIZE i) 12 0
  let back := (secsOf b 4).filter fun g => bitOf (le g.2 7 1) 0
  [{ ok := decide (((List.range 5).map size).sum * 16 ≤ 2040 * s.nOch), regs := (List.range 5).map MEM_RSIZE },
   { ok := decide (size 0 ≤ 64 * s.nOch), regs := [MEM_RSIZE 0] },
   { ok := decide (size 2 ≤ 112 * s.nOch), regs := [MEM_RSIZE 2] },
   { ok := decide (back.length ≤ size 3), regs := [MEM_RSIZE 3], sects := back.map (·.1) },
   { ok := size 4 % 8 == 0 && decide (16 ≤ size 4), regs := [MEM_RSIZE 4] },
   { ok := decide (s.committed ≤ s.guaranteed), sects := back.map (·.1)
     regs := s.ofParts GEODE_FILLQ ++ s.ofParts STRATA_JRATE ++ s.ofParts MEM_CAPQ }]

/-- Mesh shares (12 R383), Flint thresholds (15 R443), partners (17 R476). -/
def State.rulesOther (s : State) (b : List Byte) : List Rule :=
  { ok := decide (s.sum (fun p => s.fld (MESH_PSHARE p) 7 0 + s.fld (MESH_PSHARE p) 19 8) + 16 ≤ 2048),
      regs := s.ofParts MESH_PSHARE }
  :: ((List.range 48).filter s.hasMon).map (fun m =>
    { ok := decide (s.fld (FLINT_THR m) 11 0 + 2 * s.fld (FLINT_HYST m) 11 0 ≤ s.fld (FLINT_THR m) 27 16)
      regs := [FLINT_THR m, FLINT_HYST m] })
  ++ (List.range s.nPart).map (fun p =>
    { ok := (s.spanOf p).isNone || s.partnerOf p s.devId == some p, regs := [MESH_ID], sects := asgIdx b })

/-- Low byte of the DETAIL of a rule that fails (17 R483). -/
def Rule.blame (r : Rule) (b : List Byte) (ov : List (Nat × Word)) : Nat :=
  if r.regs.any fun a => ov.any (·.1 == a) then 0xFF
  else (((cfgWords b).filter fun x => r.regs.contains x.1).map (·.2.2) ++ r.sects).max?.getD 0xFF

/-- The configuration check of the loaded state: none when it passes, else code and DETAIL. -/
def State.checkErr (s : State) (b : List Byte) (ov : List (Nat × Word)) : Option (Nat × Nat) :=
  let w := (cfgWords b).map (fun x => (x.1, x.2.1)) ++ ov.map fun x => (x.1, x.2.toNat)
  let rules := s.rulesAbsent b w ++ s.rulesCores b ++ s.rulesGeode ++ s.rulesDec b ++ s.rulesGarnet b ++ s.rulesRings b
    ++ s.rulesMem b ++ s.rulesOther b
  (rules.find? fun r => !r.ok).map fun r => (8, 0xFFFFFF00 + r.blame b ov)

end Sys2Proof.Machine
end

