-- ==== Sys2Proof/Machine/Boot.lean ====
section
/-!
DEFINITION. Cold and warm resets and the boot sequence (02 R48, R52; 03 R104; 11 R338-R340, R349; 15 R440, R446; 16 R465;
17 R477-R490; 19 R515, R522, R523).
-/
namespace Sys2Proof.Machine

/-! What a reset leaves (17 R488). -/

/-- The state after a cold reset whose causes are `b`; DRAM keeps its contents (11 R350). -/
def State.wipe (s : State) (b : Boot) : State :=
  { variant := s.variant, serial := s.serial, flash := s.flash, pending := s.pending, boot := b
    pins := { therm := s.pins.therm }
    fab := { freeN := s.fab.freeN }, mem := { poisoned := s.mem.poisoned } }

/-- A cold reset; `held` tells whether RESET_N or the rails hold it. -/
def State.coldReset (s : State) (held : Bool) : State :=
  s.wipe { held := held, thermal := s.boot.thermal, extest := s.boot.extest }

def State.bootStage (s : State) : Nat := s.fld BOOT_STAT 3 0
def State.toStage (s : State) (v : Nat) : State := s.setFld BOOT_STAT 3 0 v
/-- Whether the boot is in stage `v`. -/
def State.inStage (s : State) (v : Nat) : Bool := s.mode == .boot && !s.heldOff && s.bootStage == v

/-- The boot starts stage PLL once nothing holds the reset. -/
def State.tryBoot (s : State) : State :=
  if s.heldOff then s else (s.toStage 1).updBoot fun b => { b with ticks := 0 }

/-- The boot ends in BOOT_FAILED (17 R482, R483). -/
def State.bootFail (s : State) (code detail : Nat) : State :=
  let s := ((s.toStage 14).setFld BOOT_STAT 11 4 code).setN BOOT_DETAIL detail
  let s := s.forEach (List.range 128) State.biasClamp
  { s with mode := .failed }

/-- COLD_RESET (17 R488): power-on, or RESET_N low. -/
def execColdReset (s : State) : Host.Outcome State Fault Refusal := answer s (s.coldReset true)

/-- RESET_N_RELEASE (17 R482, 19 R515). -/
def execResetNRelease (s : State) : Host.Outcome State Fault Refusal :=
  answer s (if s.boot.held then (s.updBoot fun b => { b with held := false }).tryBoot else s)

/-- RAIL_UNDERVOLTAGE (19 R515). -/
def execRailUndervoltage (s : State) : Host.Outcome State Fault Refusal := answer s (s.coldReset true)

/-- EXTEST (19 R522). -/
def execExtest (enter : Bool) (s : State) : Host.Outcome State Fault Refusal :=
  answer s (
    if enter then (s.coldReset s.boot.held).updBoot fun b => { b with extest := true }
    else if s.boot.extest then (s.updBoot fun b => { b with extest := false }).tryBoot
    else s)

/-! Thermal comparators (19 R523), readings in degrees Celsius. -/

def State.setTherm (s : State) (b : Bool) : State := s.updPins fun x => { x with therm := b }

/-- THERMAL_WARNING: THERM_N falls at 100 °C and releases below 95 °C; it stays low throughout a shutdown. -/
def execThermalWarning (temps : List Int) (s : State) : Host.Outcome State Fault Refusal :=
  answer s (
    if temps.any (fun t => decide (100 ≤ t)) then s.setTherm true
    else if temps.all (fun t => decide (t < 95)) && !s.boot.thermal then s.setTherm false
    else s)

/-- THERMAL_SHUTDOWN. -/
def execThermalShutdown (temps : List Int) (s : State) : Host.Outcome State Fault Refusal :=
  answer s (
    if temps.any (fun t => decide (115 ≤ t)) then
      ((s.coldReset s.boot.held).updBoot fun b => { b with thermal := true }).setTherm true
    else s)

/-- THERMAL_RECOVERY. -/
def execThermalRecovery (temps : List Int) (s : State) : Host.Outcome State Fault Refusal :=
  answer s (
    if s.boot.thermal && temps.all (fun t => decide (t < 95)) then
      ((s.updBoot fun b => { b with thermal := false }).setTherm false).tryBoot
    else s)

/-! The warm reset (15 R440, 17 R489, R490). -/

/-- Whether a warm reset keeps output `n` (15 R440). -/
def State.warmKeeps (s : State) (n : Nat) : Bool := (s.biasOwner n).isSome && s.bit (BIAS_CFG n) 7

/-- The bias registers that stand while a warm reset waits: counters and sticky bits are cleared. -/
def State.biasRegs (s : State) : Tab Word :=
  let regs := s.regs.filter fun x => decide (0x60000 ≤ x.1) && decide (x.1 < 0x80000)
  let s : State := { s with regs := regs }
  (s.forEach (List.range 128) fun s n => (s.zeroRegs [BIAS_LATECNT n, BIAS_SCCNT n]).setFld (BIAS_STAT n) 10 6 0).regs

/-- A warm reset begins: outputs without WARM_HOLD ramp to 0 V and clamp. -/
def State.warmReset (s : State) : State :=
  let s := if s.mode == .calibrate || s.mode == .test then s.biasRestore else s
  let kept := (List.range s.nBias).filter s.warmKeeps
  let s := s.forEach ((List.range s.nBias).filter fun n => !kept.contains n) fun s n => s.biasToClamp n (frameFrom s.now)
  let first := s.bit BOOT_CTRL 0
  let t := s.wipe { held := false, warm := true, biasWait := true, kept := kept }
  State.setBit { t with
    regs := s.biasRegs, biases := s.biases.map (fun x => (x.1, { x.2 with events := [] })),
    time := { dtime := s.time.dtime } }
    BOOT_CTRL 0 first

/-- WARM_RESET: GLB_CTRL.DEV_RESET, or PERST# with PERST_MODE 0. -/
def execWarmReset (s : State) : Host.Outcome State Fault Refusal := answer s (if s.heldOff then s else s.warmReset)

/-- Bias output `n` at the start of a warm boot: kept, with its ramp on the frames of the new DTIME, or as after a cold
reset. -/
def State.bootBiases (s : State) : Tab Bias :=
  (s.biases.filter fun x => s.boot.kept.contains x.1).map fun x =>
    (x.1,
      { x.2 with next := x.2.next.map (fun _ => 0), zFrame := x.2.zFrame.map fun _ => 0, prev := x.2.out, moved := 0,
                 shortAt := none })

/-- BOOT_WAIT (17 R489): the bias wait ends when every output that is not kept has clamped. -/
def execBootWait (s : State) : Host.Outcome State Fault Refusal :=
  answer s (
    if s.mode == .boot && s.boot.biasWait && (List.range s.nBias).all (fun n => s.boot.kept.contains n ||
        s.biasState n == bClamped) then
      let biases := s.bootBiases
      State.tryBoot { s with time := {}, biases := biases, boot := { s.boot with biasWait := false } }
    else s)

/-! Stages PLL to DDR (17 R482). -/

/-- BOOT_PLL (02 R48). -/
def execBootPll (refclk locked : Bool) (s : State) : Host.Outcome State Fault Refusal :=
  answer s (
    if !s.inStage 1 then s
    else if refclk && locked then (s.setBit TIME_STAT 0 true).toStage 2
    else s.bootFail 1 (Config.bootDetail 1))

/-- Whether half `h` of slot `k`'s calibration area is valid, and its GEN (17 R479). -/
def State.halfGen (s : State) (k h : Nat) : Option Nat :=
  let b := readFlash s.flash (halfBase k h) 64
  if le b 0 4 = 0x43414C48 ∧ le b 60 4 = crc32 (b.take 60) then some (le b 4 4) else none

/-- The valid half of slot `k`'s calibration area with the later GEN, and that GEN. -/
def State.calHalf (s : State) (k : Nat) : Option (Nat × Nat) :=
  match s.halfGen k 0, s.halfGen k 1 with
  | some a, some b =>
    let d := (b + 2 ^ 32 - a) % 2 ^ 32
    if 0 < d ∧ d < 2 ^ 31 then some (1, b) else some (0, a)
  | some a, none => some (0, a)
  | none, some b => some (1, b)
  | none, none => none

/-- The slot booted or tried. -/
def State.bootSlot (s : State) : Nat := s.fld BOOT_STAT 12 12

/-- The calibration area of the slot in BOOT_STAT is taken. -/
def State.takeHalf (s : State) : State :=
  let x := s.calHalf s.bootSlot
  s.updBoot fun b => { b with half := x.map (·.1), gen := (x.map (·.2)).getD 0 }

/-- Header field at offset `o` of the half in force: STORELEN at 8, TRAINLEN at 12; 0 without a half. -/
def State.halfField (s : State) (o : Nat) : Nat :=
  match s.boot.half with
  | some h => le (readFlash s.flash (halfBase s.bootSlot h) 64) o 4
  | none => 0

/-- BOOT_FLASH (17 R471, R481): the slot tried first. -/
def execBootFlash (sfdp : Bool) (jedec : Word) (s : State) : Host.Outcome State Fault Refusal :=
  answer s (
    if !s.inStage 2 then s
    else if !sfdp then s.bootFail 2 (Config.bootDetail 2)
    else
      let s := (s.setN BOOT_FLID (jedec.toNat % 2 ^ 24)).setBit BOOT_STAT 12 (s.boot.warm && s.bit BOOT_CTRL 0)
      s.takeHalf.toStage 3)

/-- BOOT_D2D. -/
def execBootD2d (failed : Option (Fin 5)) (s : State) : Host.Outcome State Fault Refusal :=
  answer s (
    if !s.inStage 3 then s
    else match failed with
      | some d => s.bootFail 3 d.val
      | none => s.toStage 4)

/-- BOOT_DDR (11 R338-R340): a warm boot uses the record where there is one. -/
def execBootDdr (chans : List ChTrain) (s : State) : Host.Outcome State Fault Refusal :=
  answer s (
    if !s.inStage 4 then s
    else
      let hasRec := s.halfField 12 != 0
      let useRec := s.boot.warm && hasRec
      let ts := (List.range s.nChan).map fun c =>
        let t := chans.getD c {}
        { t with fromRecord := t.fromRecord && useRec }
      let full := ts.any fun t => !t.fromRecord
      let s := s.trainAll ts
      let s := if full && s.boot.warm then s.setBit MEM_STAT 3 true else s
      let s := if full && !hasRec then s.updMem fun m => { m with rewrite := true } else s
      match (List.range s.nChan).find? fun c => (ts.getD c {}).failStep != 0 with
      | some c => s.bootFail 4 c
      | none => s.toStage 5)

/-! Stage IMAGE (17 R477, R478, R481, R484). -/

/-- The state with slot `k`'s image loaded and checked, or its error. -/
def State.trySlot (s : State) (k : Nat) (ov : List (Nat × Word)) : Except (Nat × Nat) State :=
  let b := s.slotImage k
  match s.imageErr k b with
  | some e => .error e
  | none =>
    let t := s.loadImage b ov
    match t.checkErr b ov with
    | some e => .error e
    | none => .ok (t.setN BOOT_IMGSEQ (le b 12 4))

/-- Registers that report what the image lays out (05; 08 R272; 09; 10 R309; 11 R349, R355). -/
def State.imageReports (s : State) : State :=
  let size := fun i => s.fld (MEM_RSIZE i) 12 0
  let s := s.forEach (List.range 5) fun s i =>
    (s.setN (MEM_RBASE i) (4096 * ((List.range i).map size).sum)).setN (MEM_RSPARE i) (16 * size i)
  let s := (s.setN MEM_BW (s.guaranteed + 65536 * s.committed)).setN CAP_REGION (size 2)
  (s.setN GARNET_CAP (s.nDet + 65536 * s.nEdge)).setN STRATA_CAP0 (8 * s.nOch + 65536 * (32 * s.nIch))

/-- Output channels after the image: ganged pairs (03 R79). -/
def State.imageOuts (s : State) : State :=
  s.forEach (List.range s.nOch) fun s n =>
    let gang := s.bit (OCH_CTRL n) 2
    let silent := n % 2 == 1 && s.bit (OCH_CTRL (n - 1)) 2
    (s.setFld (OCH_STAT n) 12 8 (if gang then 16 else 8)).setBit (OCH_STAT n) 4 silent

/-- Bias outputs after the image: the others take their span, and one without an owner is CLAMPED (15 R440). -/
def State.imageBiases (s : State) : State :=
  s.forEach (List.range s.nBias) fun s n =>
    if (s.biasOwner n).isNone then (s.biasClamp n).biasLoadSpan n
    else if s.boot.kept.contains n then s else s.biasLoadSpan n

/-- The shadow of the image (17 R478). -/
def State.imageShadow (s : State) : State :=
  { s with
    frameShadow := s.frames
    discShadow := s.regs.filter fun x => decide (0xE0000 ≤ x.1) && decide (x.1 < 0xE2000) && decide (0x40 ≤ x.1 % 0x80)
    micas := s.micas.map fun x => (x.1, { x.2 with constShadow := x.2.const }) }

/-- The image has passed. -/
def State.imageDone (s : State) : State :=
  (s.imageReports.imageOuts.imageBiases.imageShadow.takeHalf).toStage 6

/-- The bias registers that an image does not give, kept through a warm reset. -/
def State.dropBiasCfg (s : State) : State :=
  { s with regs := s.regs.filter fun x => decide (x.1 < 0x60000) || decide (0x80000 ≤ x.1) || x.1 % 0x40 == 0x1C }

/-- BOOT_IMAGE. -/
def execBootImage (s : State) : Host.Outcome State Fault Refusal :=
  answer s (
    if !s.inStage 5 then s
    else
      let s := s.dropBiasCfg
      let k := s.bootSlot
      match s.trySlot k s.boot.overrides with
      | .ok t => t.imageDone
      | .error (c, d) =>
        let s := ((s.setBit BOOT_STAT 13 true).setBit BOOT_STAT 12 (k == 0)).setN BOOT_FAIL (c + 256 * (d % 2 ^ 24))
        let s := ((s.setFld BOOT_STAT 11 4 c).setN BOOT_DETAIL d).updBoot fun b => { b with second := true, overrides := [] }
        match s.trySlot (1 - k) [] with
        | .ok t => t.imageDone
        | .error (c, d) => s.bootFail c d)

/-- BOOT_LOCK (17 R485). -/
def execBootLock (s : State) : Host.Outcome State Fault Refusal :=
  answer s (if s.inStage 6 then ((s.setBit GLB_STAT 3 true).updBoot fun b => { b with overrides := [] }).toStage 7 else s)

/-! Stage CALAPPLY (08 R259, 16 R465, 17 R478, R479). -/

/-- The store of the half in force comes into force, or the neutral trims. -/
def State.takeStore (s : State) : State :=
  let len := s.halfField 8
  let l := readFlash s.flash (halfBase s.bootSlot (s.boot.half.getD 0) + 0x40) (min len 0x7FFC0)
  if len ≠ 0 ∧ s.storeOk l then s.updCal fun c => { c with store := stPut [] 0 l, valid := true }
  else (s.updCal fun c => { c with store := [], valid := false }).irqEvent 8 2

/-- The reference that boot gives loop `l`: the store's, or the image default. -/
def State.bootRef (s : State) (l : Nat) : BitVec 64 :=
  if s.cal.valid && bitOf (stLe s.cal.store (64 + 16 * l) 1) 0 then BitVec.ofNat 64 (stLe s.cal.store (72 + 16 * l) 8)
  else BitVec.ofInt 64 (s.trkNow l).2

/-- Loop `l`'s target takes the value `v`. -/
def State.writeTarget (s : State) (l : Nat) (v : BitVec 64) : State :=
  match s.trkKind l with
  | 0 => s.setReg (s.trkT01 l) (BitVec.ofNat 32 v.toNat)
  | 1 => s.setReg (s.trkRot l) (BitVec.ofNat 32 v.toNat)
  | _ =>
    let f := s.trkTarget l
    let x : Frame := { s.frame f with fw := BitVec.ofNat 48 v.toNat }
    (s.setFrame f x).setIssued f x

/-- BOOT_CALAPPLY. -/
def execBootCalapply (s : State) : Host.Outcome State Fault Refusal :=
  answer s (
    if !s.inStage 7 then s
    else
      let s := s.takeStore.applyTrims.calInfo
      let s := s.forEach s.trkAll fun s l => (s.setRef l (s.bootRef l)).writeTarget l (s.bootRef l)
      s.toStage 8)

/-! Stage BIAS and the end of BOOT (02 R52; 03 R104; 08 R259; 15 R440, R446). -/

/-- Monitor `m` resolves its input: an input that the command does not bring counts as OUTSIDE. -/
def State.flintResolve (s : State) (inputs : List FlintIn) (m : Nat) : State :=
  let x := inputs.getD m .low
  let inside := x == .inside || (x == .band && s.bit (FLINT_CFG m) 1)
  let s := (s.setBit (FLINT_STAT m) 0 inside).setBit (FLINT_STAT m) 1 (x == .band)
  if !s.hasMon m || !s.bit (FLINT_CFG m) 0 || inside then s.setLatch m false else s.setBit (FLINT_STAT m) 3 (x == .high)

/-- A monitor still latched at the end of BOOT. -/
def State.flintPutrip (s : State) (m : Nat) : State :=
  if s.hasMon m && s.flintLatched m then
    let s := s.setBit (FLINT_STAT m) 4 true
    let s := s.forEach (s.flintMask m) fun s p => s.updPart p fun q => { q with resumeNeeded := true }
    s.queueEv (errorRec 7 7 1 0 0#64 0 (resource 10 m) (bn (s.bit (FLINT_STAT m) 3)))
  else s

/-- Channels, loops and domains at the end of BOOT. -/
def State.bootUnits (s : State) : State :=
  let s := s.forEach (List.range s.nOch) fun s n =>
    if (s.ochOwner n).isSome && !s.bit (OCH_STAT n) 4 then s.setFld (OCH_STAT n) 1 0 1 else s
  let s := s.forEach ((List.range s.nIch).filter fun m => (s.ichOwner m).isSome) fun s m => s.setBit (ICH_STAT m) 0 true
  let s := s.forEach s.trkAll fun s l => s.updLoop l fun x => { x with state := 1 }
  s.forEach ((List.range 2).filter fun d => s.bit (PTP_DCFG d) 0) fun s d => s.setFld (PTP_DSTAT d) 1 0 1

/-- The first writes of the bias outputs with a default, at frame 0. -/
def State.bootDefaults (s : State) : State :=
  s.forEach ((List.range s.nBias).filter fun n =>
    (s.biasOwner n).isSome && s.bit (BIAS_CFG n) 4 && !s.boot.kept.contains n) fun s n =>
      s.biasWrite n (s.fld (BIAS_DEFAULT n) 19 0) 0

/-- BOOT_BIAS: the boot reaches DONE with every partition in HOLD. -/
def execBootBias (inputs : List FlintIn) (s : State) : Host.Outcome State Fault Refusal :=
  answer s (
    if !s.inStage 8 then s
    else
      let s := s.updTime fun _ => { running := true }
      let s := (s.forEach (List.range 48) fun s m => s.flintResolve inputs m).bootUnits.applyGains.bootDefaults
      let s := s.forEach (List.range 48) State.flintPutrip
      let s := ((s.setFld BOOT_STAT 11 4 0).setN BOOT_DETAIL 0).setN BOOT_TIME (s.boot.ticks / 640000)
      State.toStage { s with mode := .run } 15)

end Sys2Proof.Machine
end

