-- ==== Sys2Proof/Machine/Flash.lean ====
section
/-!
DEFINITION. What PF0 does before the lock, and the flash: overrides, host flash commands, the write-back of the
calibration area and the training record (11 R340; 17 R479, R480, R484, R486, R487; 18 R503).
-/
namespace Sys2Proof.Machine

/-! Overrides (17 R484). -/

/-- A PF0 write outside GLB and BOOT before DONE that is no override is counted. -/
def State.overrideLost (s : State) : State := s.inc BOOT_OVRCNT

/-- Whether PF0 offset `off` holds an RWL field: in a register, a frame word, or Mica program memory (07 R245). -/
def hasRwl (off : Nat) : Bool :=
  off % 4 == 0 &&
    ((match pf0Row off with | some r => r.flds.any (·.acc == .rwl) | none => false)
      || (micaWindow off && micaWord off && decide (off % 0x20000 < 0x10000)))

/-- Whether a write to PF0 offset `off` is an override: before the lock, to an RWL field. -/
def State.isOverride (s : State) (off : Nat) : Bool :=
  s.mode == .boot && !s.heldOff && decide (s.bootStage ≤ 5) && hasRwl off

/-- The override is held, up to 256. -/
def State.override (s : State) (off : Nat) (data : Word) : State :=
  if s.boot.overrides.length < 256 then s.updBoot fun b => { b with overrides := b.overrides ++ [(off, data)] }
  else s.overrideLost

/-- A PF0 write to `off` outside GLB and BOOT, or to an RWL field, before DONE or in BOOT_FAILED. -/
def State.earlyWrite (s : State) (off : Nat) (data : Word) : State :=
  let word := off % 4 == 0 && ((pf0Row off).isSome || (micaWindow off && micaWord off))
  let own : Bool := decide (off ≤ 0xFFFF) || (decide (0x20000 ≤ off) && decide (off ≤ 0x2FFFF))
  if s.heldOff || (s.mode != .boot && s.mode != .failed) then s
  else if s.isOverride off then s.override off data
  else if word && !own then s.overrideLost
  else s

/-- CONFIG_OVERRIDE. -/
def execConfigOverride (off : BitVec 26) (data : Word) (s : State) : Host.Outcome State Fault Refusal :=
  answer s (if hasRwl off.toNat then s.earlyWrite off.toNat data else s)

/-! Host flash commands (17 R486, R487). -/

/-- Whether the device takes flash commands: device HOLD, or BOOT_FAILED. -/
def State.flMode (s : State) : Bool := s.mode == .failed || (s.mode == .run && s.allHold)

/-- Whether `n` bytes at `a` touch the calibration area of the booted slot. -/
def State.flProtected (s : State) (a n : Nat) : Bool :=
  let c := slotBase s.bootSlot + 0x1000000
  s.mode != .failed && decide (a < c + 0x200000) && decide (c < a + n)

/-- Result of a flash command when it is issued: 0 when it is accepted. -/
def State.flJudge (s : State) (op a n : Nat) : Nat :=
  let range := match op with
    | 0 => decide (1 ≤ n) && decide (n ≤ 4096) && decide (a + n ≤ 0x4000000)
    | 1 => decide (a < 0x4000000)
    | 2 => decide (1 ≤ n) && decide (a % 256 + n ≤ 256) && decide (a < 0x4000000)
    | _ => true
  let prot := match op with
    | 1 => s.flProtected (a / 4096 * 4096) 4096
    | 2 => s.flProtected a n
    | _ => false
  if !s.flMode then 2 else if s.boot.flOp.isSome || s.boot.wb then 3 else if !range then 1 else if prot then 4 else 0

/-- The first `n` bytes of the flash buffer. -/
def State.flBytes (s : State) (n : Nat) : List Byte :=
  ((List.range ((n + 3) / 4)).flatMap fun i => toBytes 4 (s.regN (BOOT_FLBUF i))).take n

/-- A write of BOOT_FLCMD with GO (17 R486): its parameters are taken now (18 R503). -/
def State.flGo (s : State) (op len : Nat) : State :=
  if s.heldOff then s
  else
    let s := (s.setFld BOOT_FLCMD 1 0 op).setFld BOOT_FLCMD 15 3 len
    let a := s.fld BOOT_FLADDR 25 0
    let c := s.flJudge op a len
    if c ≠ 0 then s.setFld BOOT_FLSTAT 4 2 c
    else (s.setBit BOOT_FLSTAT 0 true).updBoot fun b => { b with
      flOp := some (op, a, len, if op = 2 then s.flBytes len else []), flLeft := op == 0 }

/-- READ. -/
def execFlRead (len : BitVec 13) (s : State) : Host.Outcome State Fault Refusal := answer s (s.flGo 0 len.toNat)
/-- ERASE. -/
def execFlErase (len : BitVec 13) (s : State) : Host.Outcome State Fault Refusal := answer s (s.flGo 1 len.toNat)
/-- PROGRAM. -/
def execFlProgram (len : BitVec 13) (s : State) : Host.Outcome State Fault Refusal := answer s (s.flGo 2 len.toNat)
/-- COPYCAL. -/
def execFlCopycal (len : BitVec 13) (s : State) : Host.Outcome State Fault Refusal := answer s (s.flGo 3 len.toNat)

/-- The bytes `l` fill the flash buffer from its start. -/
def State.flFill (s : State) (l : List Byte) : State :=
  s.forEach (List.range ((l.length + 3) / 4)) fun s i =>
    let old := toBytes 4 (s.regN (BOOT_FLBUF i))
    let new := (l.drop (4 * i)).take 4
    s.setN (BOOT_FLBUF i) (leBytes (new ++ old.drop new.length))

/-- The flash command in progress ends, its work done when `good`. -/
def State.flEnd (s : State) (good : Bool) : State :=
  let s := (s.setBit BOOT_FLSTAT 0 s.boot.wb).stick BOOT_FLSTAT 1
  (s.setFld BOOT_FLSTAT 4 2 (if good then 0 else 5)).updBoot fun b => { b with flOp := none, flLeft := false }

/-- Ranges that a flash command erases, and what it writes. -/
def State.flWork (s : State) (op a : Nat) (l : List Byte) : List (Nat × Nat) × List (Nat × List Byte) :=
  match op with
  | 1 => ([(a / 4096 * 4096, 4096)], [])
  | 2 => ([], [(a, l)])
  | 3 =>
    match s.calHalf s.bootSlot with
    | none => ([], [])
    | some (h, _) =>
      let b := readFlash s.flash (halfBase s.bootSlot h) 0x100000
      let o := 1 - s.bootSlot
      ([(halfBase o 0, 0x200000)], [(halfBase o 0, b), (halfBase o 1, b)])
  | _ => ([], [])

/-- FLASH_COMMAND_DONE (17 R486). -/
def execFlashCommandDone (good : Bool) (s : State) : Host.Outcome State Fault Refusal :=
  match s.boot.flOp with
  | none => answer s s
  | some (op, a, n, l) =>
    let t := if good && op == 0 then s.flFill (readFlash s.flash a n) else s
    let w := if good then s.flWork op a l else ([], [])
    answerFlash s (t.flEnd good) w.1 w.2

/-! Write-back (11 R340, 17 R480). -/

/-- Header of a calibration half. -/
def halfHeader (gen storelen trainlen : Nat) : List Byte :=
  let h := toBytes 4 0x43414C48 ++ toBytes 4 gen ++ toBytes 4 storelen ++ toBytes 4 trainlen ++ List.replicate 44 0#8
  h ++ toBytes 4 (crc32 h)

/-- Bytes of the store in force. -/
def State.storeBytes (s : State) : List Byte :=
  if s.cal.valid then stBytes s.cal.store (storeLen (stNsets s.cal.store)) else []

/-- CAL_AREA_WRITE (17 R480): the other half is erased and written, its header last with GEN one greater. A failed
write leaves that half without a header. -/
def execCalAreaWrite (training : List Byte) (good : Bool) (s : State) : Host.Outcome State Fault Refusal :=
  if !s.boot.wb || s.boot.flOp.isSome then answer s s
  else
    let h := match s.boot.half with | some 0 => 1 | _ => 0
    let base := halfBase s.bootSlot h
    let gen := (s.boot.gen + 1) % 2 ^ 32
    let st := s.storeBytes
    let tr := training.take 0x80000
    let t := s.setBit BOOT_FLSTAT 0 false
    if good then
      answerFlash s (t.updBoot fun b => { b with wb := false, wrote := true, half := some h, gen := gen }) [(base, 0x100000)]
        [(base + 0x40, st), (base + 0x80000, tr), (base, halfHeader gen st.length tr.length)]
    else
      answerFlash s ((t.stick BOOT_STAT 14).updBoot fun b => { b with wb := false, wrote := false }) [(base, 0x100000)] []

/-- TRAINING_RECORD_REWRITE (11 R340): starts once the device has reached HOLD, and ends when its write-back has
succeeded. -/
def execTrainingRecordRewrite (written : Bool) (s : State) : Host.Outcome State Fault Refusal :=
  answer s (
    if !s.mem.rewrite || s.boot.wb || s.mode == .boot || s.mode == .failed then s
    else if written then
      if s.boot.wrote then (s.updMem fun m => { m with rewrite := false }).setBit MEM_STAT 4 true else s
    else (s.updBoot fun b => { b with wb := true, wrote := false }).setBit BOOT_FLSTAT 0 true)

end Sys2Proof.Machine
end

