-- ==== Sys2Proof/Machine/Resets.lean ====
section
/-!
DEFINITION. Partition resets, PERST# as a link reset, TEST and OPERATOR_HOLD_N (01 R29, R34; 07 R243; 08 R271, R283;
13 R411-R413; 15 R440; 17 R489-R491; 18 R505).
-/
namespace Sys2Proof.Machine

/-! The partition reset (13 R411). -/

/-- Counters, peaks and sticky bits that a reset of partition `p` clears (18 R505). -/
def State.partCounters (s : State) (p : Nat) : State :=
  let s := s.forEach (s.ochsOf p) fun s n =>
    (s.zeroRegs [OCH_SATCNT n, OCH_JCNT n, OCH_JLATE n, OCH_PEAK n]).setN (OCH_STAT n)
      (setBits (setBits (s.regN (OCH_STAT n)) 6 5 0) 2 2 0)
  let s := s.forEach (s.ichsOf p) fun s m =>
    (s.zeroRegs [ICH_OVRCNT m, ICH_SATCNT m, ICH_WINCNT m, ICH_SETTLECNT m, ICH_REFUSE m,
        ICH_PEAK m]).setBit (ICH_STAT m) 2 false
  let s := s.forEach (s.biasesOf p) fun s n => (s.zeroRegs [BIAS_LATECNT n, BIAS_SCCNT n]).setFld (BIAS_STAT n) 10 7 0
  s.zeroRegs ([GEODE_UNDERRUN p, GEODE_SETFULL p, GEODE_FILLS p, SCHED_PEAK p, SCHED_LXCNT p, SCHED_DLATE p, STRATA_JMAX p,
    STRATA_REPLAYS p, STRATA_FAILS p, GARNET_ROUNDS p, GARNET_LATE p, GARNET_ERR p, GARNET_LATMAX p, GARNET_LASTLAT p,
    CAP_PTRIG p, CAP_TRIGCNT p, CAP_TRIGIGN p, MEM_PLENT p, MEM_PBORROWED p] ++ (List.range 12).map (STRATA_CAUSECNT p))

/-- The Mica cores of partition `p`: contexts cleared, constants and discriminators from the shadow (07 R233, R243). -/
def State.partMicas (s : State) (p : Nat) : State :=
  s.forEach (s.micasOf p) fun s k =>
    let s := ((s.micaClear k).setN (MICA_FAULT k) 0).updMica k fun m => { m with const := m.constShadow }
    s.forEach ((List.range 4).flatMap fun d => [MICA_DROT k d, MICA_DT01 k d, MICA_DT12 k d, MICA_DCFG k d]) fun s a =>
      s.setReg a (look pf0Reset s.discShadow a)

/-- The library of partition `p` is emptied (05 R164). -/
def State.partLibrary (s : State) (p : Nat) : State :=
  let gone := (s.objsOf p).map (·.1)
  let s := s.forEach gone fun s n => s.setObj n none
  s.updGeo fun g => { g with pages := g.pages.filter fun x => !gone.contains x.obj }

/-- Frames, slots, loops and graph of partition `p` (02 R65; 08 R247, R271, R283). -/
def State.partDecisions (s : State) (p : Nat) : State :=
  let s := s.forEach (s.framesOf p) fun s f =>
    let v := look (fun _ => {}) s.frameShadow f
    (s.setFrame f v).setIssued f v
  let s := s.forEach (s.slotsOf p) fun s i => s.updSlot i fun _ => {}
  let s := s.forEach (s.trkAll.filter fun l => s.trkOwner l == p) fun s l =>
    (s.updLoop l fun x => { state := 1, ref := x.ref }).zeroRegs [DEC_TRKCTL l, DEC_TRKADJ l]
  s.updGraph p fun g => { g with run := {} }

/-- Partition `p` is reset: its work is discarded without completion records, and it is in HOLD. A trigger of the same
tick that ranks above stays the cause (01 R33). -/
def State.partReset (s : State) (p : Nat) : State :=
  let was := s.part p
  let above := was.mode == .hold && was.holdAt == s.now && decide (holdRank was.cause < holdRank .reset)
  let s := s.forEach (s.ochsOf p) State.asyncMute
  let s := (s.enterHold p .reset []).discardAll p
  let s := s.updFab fun b => { b with events := b.events.filter (·.part != p), users := b.users.filter (·.1 != p) }
  let q := s.part p
  let s := s.updPart p fun _ => {
    cause := if above then was.cause else .reset, holdAt := s.now, resumeNeeded := above, rbusy := true,
    preset := q.preset, cfgerr := q.cfgerr, d3 := q.d3 }
  let s := s.forEach (s.qtzOf p) State.qtzClear
  let s := ((s.partMicas p).partLibrary p).partDecisions p
  ((s.captureReset p).biasReset p).partCounters p

/-- VF registers of partition `p` at their reset values; MSI-X loses what waits (13 R411). -/
def State.vfClear (s : State) (p : Nat) : State :=
  let s : State := { s with
    vregs := s.vregs.filter fun x => x.1 / 0x100000 != p
    irq :=
      { s.irq with pendAt := s.irq.pendAt.filter (fun x => x.1 / 4 != p), lastAt := s.irq.lastAt.filter (fun x => x.1 / 4 != p),
                   table := s.irq.table.filter fun x => x.1 / 16 != p }
    rd := { s.rd with hi := s.rd.hi.filter fun x => x.1 / 2 ^ 26 != p } }
  s.updPart p fun q => { q with preset := false, cfgerr := false, d3 := false }

/-- Whether a partition reset can act: the device has booted and the partition exists. -/
def State.partLive (s : State) (p : Nat) : Bool := s.mode != .boot && s.mode != .failed && decide (p < s.nPart)

/-- FLR of VF(p + 1). -/
def execFlr (p : Fin 8) (s : State) : Host.Outcome State Fault Refusal :=
  answer s (if s.partLive p.val then (s.partReset p.val).vfClear p.val else s)

/-- HOST_PART_RESET: ring addresses and sizes are kept. -/
def State.partResetWrite (s : State) (p : Nat) : State :=
  if s.partLive p then
    let s := s.partReset p
    (s.setV p VF_RINGCTL 0).updPart p fun q => { q with preset := true, cfgerr := false, fresh := [9] }
  else s

/-- PART_RESET. -/
def execPartReset (p : Fin 8) (s : State) : Host.Outcome State Fault Refusal := answer s (s.pf0 (s.partResetWrite p.val))

/-- PARTITION_RESET_DONE (13 R412). -/
def execPartitionResetDone (p : Fin 8) (s : State) : Host.Outcome State Fault Refusal :=
  answer s (if (s.part p.val).rbusy then s.updPart p.val fun q => { q with rbusy := false } else s)

/-- PERST_LINK_RESET (17 R489): PERST# with PERST_MODE 1. -/
def execPerstLinkReset (s : State) : Host.Outcome State Fault Refusal :=
  answer s (
    if !s.bit GLB_CFG 0 || s.mode == .boot || s.mode == .failed then s
    else
      let s := (s.updPins fun x => { x with linkUp := false, d3 := false }).setN HOST_LINK 0
      let s := s.forEach (List.range s.nPart) fun s p => (s.partReset p).vfClear p
      { s with irq := {}, rd := {} })

/-! TEST (01 R29, R34; 11 R359; 15 R440). -/

/-- A test command that is judged now. -/
def State.testJudge (s : State) : State :=
  if s.mode != .run || !s.allHold then s.stick GLB_STAT 6
  else { s.biasControl with mode := .test }

/-- A write of GLB_CTRL.TEST; in deep HOLD it waits for the exit. -/
def State.testWrite (s : State) : State :=
  if s.heldOff then s
  else if s.deep = 0 then s.testJudge
  else s.deepWake.updMem fun m => { m with waits := m.waits ++ [(2, 0#32)] }

/-- TEST. -/
def execTestEnter (s : State) : Host.Outcome State Fault Refusal := answer s s.testWrite

/-- A write of GLB_CTRL.TESTEND. -/
def State.testEndWrite (s : State) : State := if s.mode == .test then s.endTest else s

/-- TESTEND. -/
def execTestend (s : State) : Host.Outcome State Fault Refusal := answer s s.testEndWrite

/-! OPERATOR_HOLD_N (17 R491). -/

/-- OPERATOR_HOLD_PRESS: a press has registered. -/
def execOperatorHoldPress (s : State) : Host.Outcome State Fault Refusal :=
  answer s (
    if s.heldOff then s
    else
      let s := s.setBit GLB_STAT 4 true
      (s.forEach (List.range s.nPart) fun s p => s.holdRequest p .shortPress).endModes 0x0C)

/-- OPERATOR_HOLD_LONGPRESS: no release has registered 2 s after the press. -/
def execOperatorHoldLongpress (s : State) : Host.Outcome State Fault Refusal :=
  answer s (
    if s.heldOff || !s.opHold then s
    else
      let s := s.setBit GLB_STAT 5 true
      s.forEach (List.range s.nPart) fun s p => s.enterHold p .longPress [])

/-- OPERATOR_HOLD_RELEASE. -/
def execOperatorHoldRelease (s : State) : Host.Outcome State Fault Refusal :=
  answer s ((s.setBit GLB_STAT 4 false).setBit GLB_STAT 5 false)

end Sys2Proof.Machine
end

