-- ==== Sys2Proof/Machine/View.lean ====
section
/-!
DEFINITION. What a register read returns (00 R3, R10-R12; 17 R484, R492, R493; 18 R496, R500, R506-R508). Registers
that the state holds elsewhere are computed here from it; every other register reads as stored.
-/
namespace Sys2Proof.Machine

/-! Codes of the status fields. -/

def DevMode.code : DevMode → Nat
  | .boot => 0 | .run => 1 | .calibrate => 2 | .test => 3 | .failed => 4

def PMode.code : PMode → Nat
  | .hold => 0 | .shot => 1 | .stream => 2

def CoreSt.code : CoreSt → Nat
  | .halted => 0 | .running => 1 | .stallLa => 2 | .stallBrd => 3 | .stallSync => 4 | .stallShot => 5 | .stallFetch => 6
  | .stallMeas => 7 | .faulted => 8 | .stallSched => 9

/-! VF registers (13 R414). -/

/-- VF_STATE[6:0] of VF(p + 1). -/
def State.vfState (s : State) (p : Nat) : Nat :=
  let q := s.part p
  q.mode.code + 4 * causeCode q.cause + 32 * bn q.resumeNeeded + 64 * bn (s.blocked p)

/-- The VF register at offset `o` of VF(p + 1); those of an absent VF read as 0 (00 R3). -/
def State.vfView (s : State) (p o : Nat) : Nat :=
  let q := s.part p
  if s.nPart ≤ p then 0
  else match o with
  | 0x0 => s.vfState p + 128 * bn q.dberr + 256 * bn q.cfgerr + 512 * bn q.preset
  | 0x24 => setBits (s.vregN p VF_RINGCTL) 0 0 (bn q.enabled)
  | 0x50 => q.taken % 2 ^ 32
  | 0x54 => q.done % 2 ^ 32
  | 0x58 => q.rlost
  | _ => s.vregN p o

/-! PF0 registers, block by block. -/

def State.glbView (s : State) (a : Nat) : Nat :=
  match a with
  | 0x0 => 0x50460000 + (match s.variant with | .pfq6416 => 0x6416 | .pfq3208 => 0x3208 | .pfq1604 => 0x1604)
  | 0x4 => 0xB1 + 256 * s.variantCode
  | 0x8 => s.serial.toNat % 2 ^ 32
  | 0xC => s.serial.toNat / 2 ^ 32
  | 0x10 => setBits (s.regN GLB_STAT) 2 0 s.mode.code
  | _ => s.regN a

/-- TIME registers; TIME_NOW shows the core-die copy, here equal to the tiles' (02 R57; DESIGN CHOICE, log 126). -/
def State.timeView (s : State) (a : Nat) : Nat :=
  if a = TIME_NOW_LO then s.now % 2 ^ 32 else if a = TIME_NOW_HI then s.now / 2 ^ 32 else s.regN a

def State.biasView (s : State) (a : Nat) : Nat :=
  let n := (a - 0x60000) / 0x40
  match a % 0x40 with
  | 0x14 => wrapInt 20 (s.bias n).target
  | 0x18 => wrapInt 20 ((s.bias n).atConverter s.now)
  | 0x1C => setBits (s.regN a) 6 6 (bn (s.limitActs n))
  | _ => s.regN a

def State.ochView (s : State) (a : Nat) : Nat :=
  if a % 0x100 = 0x20 ∧ s.ochState ((a - 0x80000) / 0x100) = 0 then setBits (s.regN a) 12 8 0 else s.regN a

/-- The raw tap of input channel `m`: whether it is active and packed (06 R210). -/
def State.tapOf (s : State) (m : Nat) : Option Bool := (s.reqs.find? fun q => q.chans.contains m).map (·.fmt)

def State.ichView (s : State) (a : Nat) : Nat :=
  if a % 0x200 = 0x20 then
    match s.tapOf ((a - 0xC0000) / 0x200) with
    | some f => setBits (s.regN a) 21 20 (1 + 2 * bn f)
    | none => setBits (s.regN a) 21 20 0
  else s.regN a

def State.micaView (s : State) (a : Nat) : Nat :=
  let k := (a - 0xE0000) / 0x80
  if a % 0x80 = 8 then
    let xs := (List.range 8).map (s.ctx k)
    (xs.filter (·.win.isSome)).length + 16 * (xs.map (·.queue.length)).sum + 1024 * bn (s.mica k).faulted
      + 2048 * (if (s.err (resource 5 k)).retired then 0 else s.groupLanes k)
  else s.regN a

def State.qtzView (s : State) (a : Nat) : Nat :=
  let q := s.qtz ((a - 0x100000) / 0x1000)
  match a % 0x1000 with
  | 0xC => q.st.code + 16 * bn q.inShot + 32 * q.loops.length + 512 * q.calls.length + 2 ^ 14 * bn (s.bit a 14)
      + 2 ^ 15 * bn (q.part && !q.paged && !q.loading) + 2 ^ 16 * (q.tl % 32)
  | 0x18 => q.pc
  | 0x1C => q.shotNo % 2 ^ 32
  | 0x20 => q.attempt + 256 * q.lastCause
  | 0x40 => q.tl / 32 % 2 ^ 32
  | 0x44 => q.tl / 32 / 2 ^ 32
  | _ => s.regN a

def State.geodeView (s : State) (a : Nat) : Nat :=
  let n := s.fld GEODE_OBJSEL 15 0
  let p := (a - 0x200100) / 0x40
  if a = GEODE_STAT then s.setCounts.foldl max 0
  else if a = GEODE_LIBPAGES then (s.allObjs.map (·.npages)).sum
  else if a = GEODE_CACHE then
    (s.geo.pages.filter (·.filled)).length + 65536 * ((List.range s.nPart).map s.pinLoad).sum
  else if a = GEODE_OBJINFO0 then
    match s.obj n with
    | some o => o.npages + 2 ^ 19 + 2 ^ 20 * bn o.pinned + 2 ^ 21 * bn o.damaged + 2 ^ 22 * o.part
    | none => 0
  else if a = GEODE_OBJINFO1 then
    match s.obj n with | some o => o.maxlen.getD 0xFFFFFFFF | none => 0
  else if a = GEODE_OBJINFO2 then
    match s.obj n with | some o => min o.head 65535 + 65536 * o.sets.headD 0 | none => 0
  else if a = GEODE_LIBUSED p then s.libUsed p
  else if a = GEODE_PINUSED p then
    s.pinUsed p + 65536 * s.pinLoad p + 2 ^ 31 * bn (decide (0 < s.pinBorrowed p))
  else s.regN a

def State.schedView (s : State) (a : Nat) : Nat :=
  let p := (a - 0x210100) / 0x20
  if a = SCHED_STAT then s.fab.events.length + 2 ^ 18 * s.reserveUsed
  else if a = SCHED_USED p then s.entUsed p
  else if a = SCHED_BORROW p then s.entBorrowed p
  else s.regN a

def State.strataView (s : State) (a : Nat) : Nat :=
  let q := s.part ((a - 0x220100) / 0x80)
  let p := (a - 0x220100) / 0x80
  if a = STRATA_JHEAD_LO p then q.jcount % 2 ^ 32
  else if a = STRATA_JHEAD_HI p then q.jcount / 2 ^ 32
  else if a = STRATA_JOPEN p then q.jopen % 2 ^ 32
  else s.regN a

def State.garnetView (s : State) (a : Nat) : Nat :=
  let p := (a - 0x230100) / 0x40
  if a = GARNET_STAT then 1 + 2 * ((List.range 8).map fun p => 2 ^ p * bn (s.graph p).valid).sum
  else if a = GARNET_GSTAT p then (s.graph p).run.backlog.length + 2 ^ 13 * bn (s.graph p).run.inseq
  else s.regN a

/-- Slot registers (08 R247, R249). -/
def State.slotView (s : State) (i o : Nat) : Option Nat :=
  let x := s.slot i
  match o with
  | 4 => some (x.value.state.toNat + 4 * bn (!x.queue.isEmpty) + 8 * x.queue.length + 64 * bn (tagBit x.value.tag 4)
      + 128 * bn (tagBit x.value.tag 5) + 256 * bn (tagBit x.value.tag 6))
  | 8 => some x.value.i.toNat
  | 0xC => some x.value.q.toNat
  | _ => none

def State.decView (s : State) (a : Nat) : Nat :=
  let l := (a - 0x244000) / 0x40
  if a = DEC_STAT then ((List.range 512).filter fun i => !(s.slot i).queue.isEmpty).length
  else if 0x241000 ≤ a ∧ a < 0x243000 then (s.slotView ((a - 0x241000) / 16) (a % 16)).getD (s.regN a)
  else if a = DEC_TRKSTAT l then (s.loop l).shown + 65536 * min (s.loop l).count 65535
  else if a = DEC_TRKREF_LO l then (s.loop l).ref.toNat % 2 ^ 32
  else if a = DEC_TRKREF_HI l then (s.loop l).ref.toNat / 2 ^ 32
  else s.regN a

def State.memView (s : State) (a : Nat) : Nat :=
  if a < 0x308000 ∧ a % 0x1000 = 0 then setBits (s.regN a) 0 0 1 else s.regN a

def State.capView (s : State) (a : Nat) : Nat :=
  let r := (a - 0x340100) / 0x40
  if a = CAP_STAT then setBits (s.regN a) 2 0 s.taps.length
  else if a = CAP_RFILL r then s.ringUsed r / 128
  else if a = CAP_RSTAT r then
    let qs := s.reqs.filter (·.ring == r)
    bn (s.ring r).host.isSome + 2 * bn (!(s.ring r).gaps.isEmpty) + 4 * bn (qs.any fun q => !q.armed)
      + 8 * bn (qs.any (·.armed)) + 16 * bn (qs.any (·.burst.isSome))
  else s.regN a

/-- A mask with one bit for each lane that `f` admits. -/
def laneMask (f : Nat → Bool) : Nat := ((List.range 8).map fun l => 2 ^ l * bn (f l)).sum

def State.meshView (s : State) (a : Nat) : Nat :=
  let q := (a - 0x381000) / 0x100
  if a = MESH_STAT then
    ((List.range s.nPort).map fun q => 2 ^ q * bn (s.portState q == pUp) + 2 ^ (q + 4) * bn (s.portState q == pMismatch)).sum
  else if a = MESH_PSTAT q then
    setBits (setBits (setBits (s.regN a) 10 3 (laneMask (s.laneUp q))) 18 11 (laneMask (s.laneRetired q))) 21 19
      ((s.timeLane q).getD 0)
  else if a = MESH_SLEEP q then
    setBits (setBits (s.regN a) 23 16 (laneMask fun l => (s.lane q l).txSleep)) 31 24 (laneMask fun l => (s.lane q l).rxSleep)
  else s.regN a

def State.ptpView (s : State) (a : Nat) : Nat :=
  if a = PTP_NOW_DT_LO then s.now % 2 ^ 32
  else if a = PTP_NOW_DT_HI then s.now / 2 ^ 32
  else if a = PTP_NOW_FT_LO then s.time.ft.toNat % 2 ^ 32
  else if a = PTP_NOW_FT_HI then s.time.ft.toNat / 2 ^ 32
  else s.regN a

def State.hostView (s : State) (a : Nat) : Nat :=
  let p := (a - 0x3E0100) / 0x10
  if a = HOST_PSTAT p then
    s.vfState p + 128 * bn (s.part p).rbusy + 256 * bn (decide (p < s.fld HOST_LINK 12 9) && (s.part p).enabled)
  else if a = HOST_PJOB p then (s.part p).taken % 2 ^ 32
  else s.regN a

/-- The frame table window: the frames as issued (02 R67). -/
def State.frameView (s : State) (a : Nat) : Nat :=
  let f := (a - 0x400000) / 16
  let x := s.frameIssued f
  match a % 16 with
  | 0 => x.fw.toNat % 2 ^ 32
  | 4 => x.fw.toNat / 2 ^ 32 + (match s.frameOwn f with | some p => 65536 * p + 2 ^ 19 | none => 0)
  | 8 => x.ph.toNat % 2 ^ 32
  | _ => x.ph.toNat / 2 ^ 32

/-- A word of the Mica memory windows (07 R245). -/
def State.micaWordView (s : State) (a : Nat) : Nat :=
  let m := s.mica ((a - 0x1000000) / 0x20000)
  let o := a % 0x20000
  if o < 0x10000 then (look (fun _ => 0#32) m.prog (o / 4)).toNat
  else (look (fun _ => 0#32) m.const ((o - 0x10000) / 4)).toNat

/-- The value that PF0 offset `a` shows on the running device: 0 at a reserved offset and in an absent instance. -/
def State.view (s : State) (a : Nat) : Nat :=
  if a % 4 ≠ 0 ∨ !s.present a then 0
  else if 0x1000000 ≤ a then (if micaWindow a && micaWord a then s.micaWordView a else 0)
  else if (pf0Row a).isNone then 0
  else if a ≤ 0xFFFF then s.glbView a
  else if a ≤ 0x1FFFF then s.timeView a
  else if a ≤ 0x5FFFF then s.regN a
  else if a ≤ 0x7FFFF then s.biasView a
  else if a ≤ 0xBFFFF then s.ochView a
  else if a ≤ 0xDFFFF then s.ichView a
  else if a ≤ 0xFFFFF then s.micaView a
  else if a ≤ 0x1FFFFF then s.qtzView a
  else if a ≤ 0x20FFFF then s.geodeView a
  else if a ≤ 0x21FFFF then s.schedView a
  else if a ≤ 0x22FFFF then s.strataView a
  else if a ≤ 0x23FFFF then s.garnetView a
  else if a ≤ 0x2FFFFF then s.decView a
  else if a ≤ 0x33FFFF then s.memView a
  else if a ≤ 0x37FFFF then s.capView a
  else if a ≤ 0x3BFFFF then s.meshView a
  else if a ≤ 0x3DFFFF then s.ptpView a
  else if a ≤ 0x3FFFFF then s.hostView a
  else s.frameView a

/-! Who sees what (17 R484; 18 R507, R508). -/

/-- Whether PF0 answers a read at `a` now: until DONE, the GLB and BOOT blocks only. -/
def State.pf0Reads (s : State) (a : Nat) : Bool :=
  !s.heldOff && (decide (a ≤ 0xFFFF) || (decide (0x20000 ≤ a) && decide (a ≤ 0x2FFFF)) ||
      (s.mode != .boot && s.mode != .failed))

/-- Whether `a` lies in the register group of partition `p` at `base`. -/
def inGroup (a base stride p : Nat) : Bool := decide (base + stride * p ≤ a) && decide (a < base + stride * (p + 1))

/-- Whether the view of VF(p + 1) shows the register at `a` (18 R508). -/
def State.vfSees (s : State) (p a : Nat) : Bool :=
  if a ≤ 0xFFFF then true
  else if a ≤ 0x1FFFF then a == TIME_NOW_LO || a == TIME_NOW_HI || a == TIME_STAT || inGroup a 0x10040 4 p
  else if a ≤ 0x5FFFF then false
  else if a ≤ 0x7FFFF then s.biasOwner ((a - 0x60000) / 0x40) == some p
  else if a ≤ 0xBFFFF then s.ochOwner ((a - 0x80000) / 0x100) == some p
  else if a ≤ 0xDFFFF then s.ichOwner ((a - 0xC0000) / 0x200) == some p
  else if a ≤ 0xFFFFF then s.micaOwner ((a - 0xE0000) / 0x80) == some p
  else if a ≤ 0x1FFFFF then s.qtzOwner ((a - 0x100000) / 0x1000) == some p
  else if a ≤ 0x20FFFF then inGroup a 0x200100 0x40 p
  else if a ≤ 0x21FFFF then inGroup a 0x210100 0x20 p
  else if a ≤ 0x22FFFF then inGroup a 0x220100 0x80 p
  else if a ≤ 0x23FFFF then inGroup a 0x230100 0x40 p
  else if a ≤ 0x243FFF then decide (0x241000 ≤ a) && s.slotOwner ((a - 0x241000) / 0x10) == some p
  else if a ≤ 0x2FFFFF then
    let l := (a - 0x244000) / 0x40
    s.bit (DEC_TRKCFG l) 2 && s.trkOwner l == p
  else if a ≤ 0x33FFFF then inGroup a 0x308200 0x10 p
  else if a ≤ 0x3400FF then inGroup a 0x340040 0x10 p
  else if a ≤ 0x340BFF then s.ringOwned ((a - 0x340100) / 0x40) p
  else if a ≤ 0x37FFFF then s.micaOwner ((a - 0x340C00) / 4) == some p
  else if a ≤ 0x3BFFFF then inGroup a 0x380200 4 p
  else if a ≤ 0x3DFFFF then false
  else if a ≤ 0x3FFFFF then inGroup a 0x3E0100 0x10 p
  else false

/-- Whether function `f` (8 is PF0, p is VF(p + 1) through its view) gets the value of the PF0 register at `a`. -/
def State.mayRead (s : State) (f a : Nat) : Bool :=
  if f = 8 then s.pf0Reads a
  else s.vfOn f && s.pf0Reads a && s.vregN f VF_VIEWSEL == a / 0x40000 && s.vfSees f a

/-! MSI-X (13 R408; 18 R495, R497, R506; log 16). -/

/-- What word `i` of an MSI-X table holds after a reset: vector control with its mask bit set, as PCI Express has it. -/
def msixReset (i : Nat) : Word := if i % 4 = 3 then 1#32 else 0#32

/-- Word `i` of the MSI-X table of function `f` (8 is PF0). -/
def State.msix (s : State) (f i : Nat) : Word := look msixReset s.irq.table (16 * f + i)

/-- A write of word `i` of that table; of vector control the mask bit alone. -/
def State.msixWrite (s : State) (f i : Nat) (data : Word) : State :=
  let v := if i % 4 = 3 then data &&& 1#32 else data
  { s with irq := { s.irq with table := put msixReset s.irq.table (16 * f + i) v } }

/-- The pending-bit array of function `f`: the vectors that wait. -/
def State.msixPending (s : State) (f : Nat) : Nat :=
  ((List.range 4).map fun v => bn (look (fun _ => none) s.irq.pendAt (4 * f + v)).isSome * 2 ^ v).sum

/-- What function `f` reads in the MSI-X window of its BAR0, `o` bytes from its start. -/
def State.msixRead (s : State) (f o : Nat) : Word :=
  if o < 0x40 then s.msix f (o / 4) else if o = 0x1000 then BitVec.ofNat 32 (s.msixPending f) else 0#32

/-! Latched reads (18 R500). -/

/-- Key of the word that function `f` has captured for offset `a`. -/
def hiKey (f a : Nat) : Nat := 2 ^ 26 * f + a

/-- The words that function `f` has captured at the registers `l`. -/
def State.capture (s : State) (f : Nat) (l : List Nat) : Tab Word :=
  l.foldl (fun t a => put (fun _ => 0#32) t (hiKey f a) (BitVec.ofNat 32 (s.view a))) s.rd.hi

/-- A read that completes without effect: it returns 0 (00 R10, 18 R500). -/
def State.readNothing (s : State) : State := s.updRd fun r => { r with data := 0#32, poisoned := false, entry := [] }

/-- A read of `size` bytes by function `f` at the register `a`, which captures those at `l`; a read that fails the test, or
is no 32-bit word, returns 0 and captures nothing. -/
def State.latchRead (s : State) (f a size : Nat) (l : List Nat) : State :=
  if size = 4 ∧ s.mayRead f a then
    s.updRd fun r => { r with data := BitVec.ofNat 32 (s.view a), poisoned := false, hi := s.capture f l, entry := [] }
  else s.readNothing

/-- Registers that a read shows as captured (18 R500). -/
def isLatched (a : Nat) : Bool :=
  a == TIME_NOW_HI || (decide (0x100000 ≤ a) && decide (a ≤ 0x10FFFF) && a % 0x1000 == 0x44)
    || (decide (0x220100 ≤ a) && decide (a < 0x220500) && a % 0x80 == 0x10)
    || a == PTP_NOW_DT_HI || a == PTP_NOW_FT_LO || a == PTP_NOW_FT_HI
    || (decide (0x3C0040 ≤ a) && decide (a < 0x3C00C0) && decide (0x18 ≤ a % 0x40) && decide (a % 0x40 ≤ 0x20))

/-- What function `f` reads at the PF0 register `a`. -/
def State.readReg (s : State) (f a : Nat) : Word :=
  if s.mayRead f a then
    if isLatched a then look (fun _ => 0#32) s.rd.hi (hiKey f a) else BitVec.ofNat 32 (s.view a)
  else 0#32

/-- What a read of `size` bytes by function `f` at offset `a` of its BAR0 returns: 0 where it is no aligned 32-bit word
(00 R10); a VF sees its own registers and, from 0xC0000, the selected block of PF0 (13 R414, 18 R506, R507). -/
def State.readBar (s : State) (f a size : Nat) : Word :=
  if size ≠ 4 ∨ a % 4 ≠ 0 then 0#32
  else if f = 8 then
    if 0x3F00000 ≤ a ∧ a < 0x3F02000 then (if s.pf0Reads a then s.msixRead 8 (a - 0x3F00000) else 0#32) else s.readReg 8 a
  else if 0x80000 ≤ a ∧ a < 0x82000 then (if s.vfOn f then s.msixRead f (a - 0x80000) else 0#32)
  else if a < 0xC0000 then (if s.vfOn f then BitVec.ofNat 32 (s.vfView f a) else 0#32)
  else s.readReg f (0x40000 * s.vregN f VF_VIEWSEL + (a - 0xC0000))

/-- TIME_NOW_LO_READ (02 R57). -/
def execTimeNowLoRead (r : RegRead) (s : State) : Host.Outcome State Fault Refusal :=
  answer s (s.latchRead r.f.val TIME_NOW_LO r.size [TIME_NOW_HI])

/-- QTZ_TL_LO_READ (04 R159). -/
def execQtzTlLoRead (r : RegRead) (c : Fin 16) (s : State) : Host.Outcome State Fault Refusal :=
  answer s (s.latchRead r.f.val (QTZ_TL_LO c.val) r.size [QTZ_TL_HI c.val])

/-- STRATA_JHEAD_LO_READ (09 R296). -/
def execStrataJheadLoRead (r : RegRead) (p : Fin 8) (s : State) : Host.Outcome State Fault Refusal :=
  answer s (s.latchRead r.f.val (STRATA_JHEAD_LO p.val) r.size [STRATA_JHEAD_HI p.val])

/-- PTP_NOW_DT_LO_READ (14 R431). -/
def execPtpNowDtLoRead (r : RegRead) (s : State) : Host.Outcome State Fault Refusal :=
  answer s (s.latchRead r.f.val PTP_NOW_DT_LO r.size [PTP_NOW_DT_HI, PTP_NOW_FT_LO, PTP_NOW_FT_HI])

/-- PTP_ANC_SEC_LO_READ (14 R430). -/
def execPtpAncSecLoRead (r : RegRead) (d : Fin 2) (s : State) : Host.Outcome State Fault Refusal :=
  answer s (s.latchRead r.f.val (PTP_ANC_SEC_LO d.val) r.size [PTP_ANC_SEC_HI d.val, PTP_ANC_NS d.val, PTP_ANC_FT d.val])

/-! The journal window (09 R300). -/

/-- The entry that the window shows at byte offset `off`: none outside the area, or while the partition is not in HOLD. -/
def State.journalEntry (s : State) (off : Nat) : Option Rec :=
  let p := s.fld STRATA_JWSEL 2 0
  let i := (0x1000000 * s.fld STRATA_JWSEL 15 8 + off) / 32
  if (s.part p).mode == .hold && decide (p < s.nPart) && decide (i < s.jarea p) then
    some (look (fun _ => {}) (s.part p).journal i)
  else none

/-- Word `i` of a record. -/
def Rec.word (r : Rec) (i : Nat) : Word :=
  match i with
  | 0 => r.w0 | 1 => r.w1 | 2 => r.w2 | 3 => r.w3 | 4 => r.w4 | 5 => r.w5 | 6 => r.w6 | _ => r.w7

/-- A read of the journal window that completes now. -/
def State.journalWindow (s : State) (off : Nat) : State :=
  s.updRd fun r =>
    match s.journalEntry off with
    | some e => { r with data := e.word (off % 32 / 4), poisoned := false, entry := [e] }
    | none => { r with data := 0#32, poisoned := false, entry := [] }

/-- JOURNAL_WINDOW_READ; one that is no aligned 32-bit word is completed without effect (00 R10). In deep HOLD it starts
the exit and completes after it (11 R359). -/
def execJournalWindowRead (r : WindowRead) (s : State) : Host.Outcome State Fault Refusal :=
  let off := r.off
  answer s (
    if r.size ≠ 4 ∨ off.toNat % 4 ≠ 0 ∨ !s.pf0Reads 0x2000000 then s.readNothing
    else if s.deep = 0 then s.journalWindow off.toNat
    else s.deepWake.updMem fun m => { m with waits := m.waits ++ [(3, BitVec.ofNat 32 off.toNat)] })

/-- The IDCODE register of the JTAG port (19 R522). -/
def State.idcode (s : State) : Word :=
  match s.variant with | .pfq6416 => 0x06416ED3#32 | .pfq3208 => 0x03208ED3#32 | .pfq1604 => 0x01604ED3#32

/-! The lights (17 R492). -/

/-- What LED_N shows of one light: off, blinking at 2 Hz or 8 Hz, or on. -/
inductive Light where
  | off
  | blink2
  | blink8
  | on
  deriving DecidableEq, Repr

/-- Light `i` of LED_N. -/
def State.light (s : State) (i : Nat) : Light :=
  if s.heldOff then .off
  else if s.bit GLB_LED 4 then (if s.bit GLB_LED i then .on else .off)
  else match i with
    | 0 => if s.mode == .boot then .blink2 else if s.mode == .failed then .blink8 else .on
    | 1 =>
      if s.mode == .calibrate || s.mode == .test then .blink2
      else if (List.range s.nPart).all fun p => (s.part p).mode == .hold then .off else .on
    | 2 =>
      if (List.range 48).any fun m => s.hasMon m && s.flintLatched m then .blink8 else if s.opHold then .blink2 else .off
    | _ =>
      if s.bit TIME_STAT 2 || s.bit TIME_STAT 3 then .blink8 else if s.bit TIME_STAT 4 then .blink2
      else if s.bit TIME_STAT 1 then .on else .off

end Sys2Proof.Machine
end

