-- ==== Sys2Proof/Machine/Registers.lean ====
section
/-!
DEFINITION. Register writes (00 R3, R10-R12; 13 R393-R397, R407, R409, R414; 17 R484, R485; 18 R496-R503) and the end of
deep HOLD (11 R359). A register that has a command of its own takes the same operation here.
-/
namespace Sys2Proof.Machine

/-! Plain fields (00 R11, R12; 18 R499). -/

/-- The word that a register of row `r` holding `old` takes from a write of `w` after the lock. A 1 clears an RW1C bit that
`before` holds: one that the device has set in this tick stays (18 R502). -/
def RegRow.write (r : RegRow) (old before w : Nat) : Nat :=
  r.flds.foldl (fun x f => match f.acc with
    | .rw => if f.allows (f.get w) then f.put x (f.get w) else x
    | .rw1c => f.put x (f.get x - (f.get x &&& f.get w &&& f.get before))
    | _ => x) old

/-- PF0 register `a` takes a write of `d` field by field. -/
def State.plainWrite (s : State) (a d : Nat) : State :=
  match pf0Row a with
  | some r => s.setN a (r.write (s.regN a) (s.beforeN a) d)
  | none => s

/-! GLB and BOOT (17 R486, R493, R494; 18 R503). -/

def State.glbCtrlWrite (s : State) (d : Nat) : State :=
  if bitOf d 0 then s.warmReset
  else
    let s := if bitOf d 1 then s.testWrite else s
    if bitOf d 2 then s.testEndWrite else s

/-- Whether a READ is still to fill buffer word `i`. -/
def State.flFills (s : State) (i : Nat) : Bool :=
  s.boot.flLeft && match s.boot.flOp with | some (_, _, n, _) => decide (i < (n + 3) / 4) | none => false

def State.bootWrite (s : State) (a d : Nat) : State :=
  if a = BOOT_FLCMD then
    if bitOf d 2 then s.flGo (bits d 1 0) (bits d 15 3) else s.plainWrite a d
  else if 0x21000 ≤ a ∧ s.flFills ((a - 0x21000) / 4) then s
  else s.plainWrite a d

/-! The blocks that answer once the device has booted. -/

/-- `t` when bit `i` of `d` is 1, else `s`. -/
def onBit (d i : Nat) (s t : State) : State := if bitOf d i then t else s

def State.timeWrite (s : State) (a d : Nat) (data : Word) : State :=
  if a = TIME_CTRL then s.timeCtrlWrite data
  else if a = TIME_STAT ∧ s.time.lost then s.plainWrite a (setBits d 2 2 0)
  else s.plainWrite a d

def State.flintWrite (s : State) (a d : Nat) (data : Word) : State :=
  if a = FLINT_LATCH_LO then s.flintLatchWrite (BitVec.ofNat 48 d) []
  else if a = FLINT_LATCH_HI then s.flintLatchWrite (BitVec.ofNat 48 (d % 65536 * 2 ^ 32)) []
  else if a = FLINT_TEST then s.flintTestWrite data
  else s.plainWrite a d

def State.hkWrite (s : State) (a d : Nat) : State :=
  if a = HK_INJ then s.hkInject d
  else if a = HK_CNTCLR then onBit d 0 s s.hkCntclr
  else s.plainWrite a d

def State.biasRegWrite (s : State) (a d : Nat) (data : Word) : State :=
  let n := Fin.ofNat 128 ((a - 0x60000) / 0x40)
  match a % 0x40 with
  | 0x04 => s.biasSpanWrite n data
  | 0x28 => onBit d 0 s (s.biasCntclr n)
  | _ => s.plainWrite a d

def State.ochWrite (s : State) (a d : Nat) : State :=
  if a % 0x100 = 0x30 then onBit d 0 s (s.ochCntclr (Fin.ofNat 64 ((a - 0x80000) / 0x100))) else s.plainWrite a d

def State.ichWrite (s : State) (a d : Nat) : State :=
  if a % 0x200 = 0x3C then onBit d 0 s (s.ichCntclr (Fin.ofNat 16 ((a - 0xC0000) / 0x200))) else s.plainWrite a d

def State.micaWrite (s : State) (a d : Nat) : State :=
  let k := Fin.ofNat 64 ((a - 0xE0000) / 0x80)
  match a % 0x80 with
  | 0x00 => onBit d 0 s (s.micaCoreReset k)
  | 0x2C => onBit d 0 s (s.micaCntclr k)
  | _ => s.plainWrite a d

def State.qtzWrite (s : State) (a d : Nat) : State :=
  let c := Fin.ofNat 16 ((a - 0x100000) / 0x1000)
  match a % 0x1000 with
  | 0x00 => onBit d 0 s (s.qtzCoreReset c)
  | 0x3C => onBit d 0 s (s.qtzCntclr c)
  | _ => s.plainWrite a d

def State.geodeWrite (s : State) (a d : Nat) : State :=
  let p := (a - 0x200100) / 0x40
  if a = GEODE_CNTCLR p then onBit d 0 s (s.geodeCntclr (Fin.ofNat 8 p)) else s.plainWrite a d

def State.schedWrite (s : State) (a d : Nat) : State :=
  let p := (a - 0x210100) / 0x20
  if a = SCHED_CNTCLR p then onBit d 0 s (s.schedCntclr (Fin.ofNat 8 p)) else s.plainWrite a d

def State.strataWrite (s : State) (a d : Nat) : State :=
  let p := (a - 0x220100) / 0x80
  if a = STRATA_CNTCLR p then onBit d 0 s (s.strataCntclr (Fin.ofNat 8 p)) else s.plainWrite a d

def State.garnetWrite (s : State) (a d : Nat) : State :=
  let p := (a - 0x230100) / 0x40
  if a = GARNET_CNTCLR p then onBit d 0 s (s.garnetCntclr (Fin.ofNat 8 p)) else s.plainWrite a d

/-- DEC_TRKCTL: FREEZE takes its value, then RESTART acts. -/
def State.trkCtlWrite (s : State) (l d : Nat) : State :=
  let s := s.trkFreezeWrite l (bitOf d 0)
  onBit d 1 s (s.trkRestartWrite l)

def State.decWrite (s : State) (a d : Nat) : State :=
  let l := (a - 0x244000) / 0x40
  if a = DEC_CNTCLR then onBit d 0 s s.decCntclr
  else if a = DEC_TRKCTL l then s.trkCtlWrite l d
  else s.plainWrite a d

def State.memWrite (s : State) (a d : Nat) : State :=
  if a < 0x308000 ∧ a % 0x1000 = 0x28 then onBit d 0 s (s.memCntclr (Fin.ofNat 8 ((a - 0x300000) / 0x1000)))
  else if a = MEM_CTRL then (if bitOf d 0 then s.deepReq else s.deepWake)
  else s.plainWrite a d

def State.capWrite (s : State) (a d : Nat) : State :=
  let p := (a - 0x340040) / 0x10
  let r := (a - 0x340100) / 0x40
  if a = CAP_PTRIG p then
    let s := onBit d 1 s (s.capPtrigClear (Fin.ofNat 8 p))
    onBit d 0 s (s.softTrigger (Fin.ofNat 8 p))
  else if a = CAP_RCNTCLR r then onBit d 0 s (s.capRcntclr (Fin.ofNat 32 r))
  else s.plainWrite a d

def State.meshWrite (s : State) (a d : Nat) (data : Word) : State :=
  let q := Fin.ofNat 4 ((a - 0x381000) / 0x100)
  let o := a % 0x100
  if a < 0x381000 then s.plainWrite a d
  else if o = 0x08 then (s.txsleepWrite q (BitVec.ofNat 8 d)).rxsleepWrite q (BitVec.ofNat 8 (d / 256))
  else if o = 0x24 then onBit d 0 s (s.meshCntclr q)
  else if 0x40 ≤ o ∧ o % 8 = 0 then s.meshTestWrite q (Fin.ofNat 8 ((o - 0x40) / 8)) data
  else s.plainWrite a d

def State.ptpWrite (s : State) (a d : Nat) : State :=
  if a = PTP_CTRL then onBit d 0 s s.switchWrite else s.plainWrite a d

/-- The HOLD and RESUME bits of a command word of VF_CMD, or of HOST_PCMD when `pf0`: a write that sets both acts as HOLD
alone (13 R407). -/
def State.holdResume (s : State) (p d : Nat) (pf0 : Bool) : State :=
  if bitOf d 0 then s.holdBy (Fin.ofNat 8 p) pf0
  else if bitOf d 1 then s.resumeBy (Fin.ofNat 8 p) [] pf0
  else s

def State.hostWrite (s : State) (a d : Nat) (data : Word) : State :=
  let p := (a - 0x3E0100) / 0x10
  if a = HOST_EVCTL then s.evctlWrite data
  else if a = HOST_EVDB then s.eventDoorbell data
  else if HOST_EVBASE_LO ≤ a ∧ a ≤ HOST_EVCNT_HI ∧ s.bit HOST_EVCTL 0 then s
  else if a = HOST_PCMD p then s.holdResume p d true
  else if a = HOST_PART_RESET p then onBit d 0 s (s.partResetWrite p)
  else s.plainWrite a d

/-- A word of a Mica window: program memory is locked; a constant follows 07 R233. -/
def State.micaWordWrite (s : State) (a : Nat) (data : Word) : State :=
  if 0x10000 ≤ a % 0x20000 then
    s.micaConstantWrite (Fin.ofNat 64 ((a - 0x1000000) / 0x20000)) (Fin.ofNat 8192 ((a % 0x20000 - 0x10000) / 4)) data
  else s

/-- A write of `data` to PF0 offset `a` of the running device. The frame table and the journal window are read-only. -/
def State.lateWrite (s : State) (a : Nat) (data : Word) : State :=
  let d := data.toNat
  if !s.present a then s
  else if 0x1000000 ≤ a then (if micaWindow a && micaWord a then s.micaWordWrite a data else s)
  else if (pf0Row a).isNone then s
  else if a ≤ 0x1FFFF then s.timeWrite a d data
  else if a ≤ 0x3FFFF then (if a = CAL_CMD then s.calWrite d else s.plainWrite a d)
  else if a ≤ 0x4FFFF then s.flintWrite a d data
  else if a ≤ 0x5FFFF then s.hkWrite a d
  else if a ≤ 0x7FFFF then s.biasRegWrite a d data
  else if a ≤ 0xBFFFF then s.ochWrite a d
  else if a ≤ 0xDFFFF then s.ichWrite a d
  else if a ≤ 0xFFFFF then s.micaWrite a d
  else if a ≤ 0x1FFFFF then s.qtzWrite a d
  else if a ≤ 0x20FFFF then s.geodeWrite a d
  else if a ≤ 0x21FFFF then s.schedWrite a d
  else if a ≤ 0x22FFFF then s.strataWrite a d
  else if a ≤ 0x23FFFF then s.garnetWrite a d
  else if a ≤ 0x2FFFFF then s.decWrite a d
  else if a ≤ 0x33FFFF then s.memWrite a d
  else if a ≤ 0x37FFFF then s.capWrite a d
  else if a ≤ 0x3BFFFF then s.meshWrite a d data
  else if a ≤ 0x3DFFFF then s.ptpWrite a d
  else if a ≤ 0x3FFFFF then s.hostWrite a d data
  else s

/-- A write of `data` to PF0 offset `a`, aligned. -/
def State.pf0Write (s : State) (a : Nat) (data : Word) : State :=
  let early := s.mode == .boot || s.mode == .failed
  if s.heldOff then s
  else if early && (hasRwl a || !(decide (a ≤ 0xFFFF) || (decide (0x20000 ≤ a) && decide (a ≤ 0x2FFFF)))) then
    s.earlyWrite a data
  else if a = GLB_CTRL then s.glbCtrlWrite data.toNat
  else if a ≤ 0xFFFF then s.plainWrite a data.toNat
  else if 0x20000 ≤ a ∧ a ≤ 0x2FFFF then s.bootWrite a data.toNat
  else s.lateWrite a data

/-! VF registers (13 R414). -/

/-- The fields of a VF register take a write. -/
def State.plainVf (s : State) (p o d : Nat) : State :=
  match vfRow o with
  | some r => s.setV p o (r.write (s.vregN p o) (2 ^ 32 - 1) d)
  | none => s

/-- VF_STATE: a 1 clears its sticky bit, unless the device has set it in this tick (18 R502). -/
def State.vfStateWrite (s : State) (p d : Nat) : State :=
  s.updPart p fun q =>
    let keep := fun i => !bitOf d i || q.fresh.contains i
    { q with dberr := q.dberr && keep 7, cfgerr := q.cfgerr && keep 8, preset := q.preset && keep 9 }

/-- A write of `data` to offset `o` of VF(p + 1) BAR0. The view is read-only; ring addresses and sizes are writable only
while the rings are not enabled. -/
def State.vfWrite (s : State) (p o : Nat) (data : Word) : State :=
  let d := data.toNat
  let f := Fin.ofNat 8 p
  if !s.vfOn p then s
  else if o = VF_STATE then s.vfStateWrite p d
  else if VF_JRING_LO ≤ o ∧ o ≤ VF_RSIZE then (if (s.part p).enabled then s else s.plainVf p o d)
  else if o = VF_RINGCTL then s.ringctlWrite f data
  else if o = VF_JOBDB then s.jobDoorbell f data
  else if o = VF_RESDB then s.resultDoorbell f data
  else if o = VF_CMD then s.holdResume p d false
  else if o = VF_TRIG then onBit d 0 s (s.softTrigger f)
  else if VF_CAPDB 0 ≤ o ∧ o ≤ VF_CAPDB 31 then s.captureDoorbell f (Fin.ofNat 32 ((o - VF_CAPDB 0) / 4)) data
  else s.plainVf p o d

/-- REGISTER_WRITE (00 R10, R11): a write of `size` bytes by function `f` (8 is PF0) at offset `off`; one that is no
aligned 32-bit word is discarded. -/
def execRegisterWrite (f : Fin 9) (off : BitVec 26) (size : Nat) (data : Word) (s : State) :
    Host.Outcome State Fault Refusal :=
  answer s (
    let a := off.toNat
    if size ≠ 4 ∨ a % 4 ≠ 0 then s
    else if f.val = 8 ∧ 0x3F00000 ≤ a ∧ a < 0x3F00040 then
      if s.pf0Reads a then s.msixWrite 8 ((a - 0x3F00000) / 4) data else s
    else if f.val < 8 ∧ 0x80000 ≤ a ∧ a < 0x80040 then
      if s.vfOn f.val then s.msixWrite f.val ((a - 0x80000) / 4) data else s
    else if f.val = 8 then s.pf0Write a data
    else s.vfWrite f.val a data)

/-! The end of deep HOLD (11 R359). -/

/-- Work that waited for the exit proceeds. -/
def State.afterDeep (s : State) (w : Nat × Word) : State :=
  match w.1 with
  | 1 => s.calJudge w.2.toNat
  | 2 => s.testJudge
  | _ => s.journalWindow w.2.toNat

/-- DEEP_EXIT_DONE: the channels are verified or trained, mesh records held go to their rings, and what waited starts. -/
def execDeepExitDone (chans : List ChTrain) (s : State) : Host.Outcome State Fault Refusal :=
  answer s (
    if s.deep ≠ 3 then s
    else
      let full := (List.range s.nChan).any fun c => !(chans.getD c {}).fromRecord
      let s := s.trainAll chans
      let s := ((s.setBit MEM_STAT 3 full).setFld MEM_STAT 1 0 0).updPins fun x => { x with phyIdle := false }
      let s := s.forEach (List.range 32) fun s r => s.bulkTake r ((s.ring r).early.length + 1)
      let ws := s.mem.waits
      (s.updMem fun m => { m with waits := [] }).forEach ws State.afterDeep)

end Sys2Proof.Machine
end

