-- ==== Sys2Proof/Machine/Dispatch.lean ====
section
/-! DEFINITION. The meaning of each command, one arm for each constructor. -/
namespace Sys2Proof.Machine

def exec (i : Instr) (s : State) : Host.Outcome State Fault Refusal :=
  match i with
  | .coldReset => Sys2Proof.Machine.execColdReset s
  | .warmReset => Sys2Proof.Machine.execWarmReset s
  | .perstLinkReset => Sys2Proof.Machine.execPerstLinkReset s
  | .bootWait => Sys2Proof.Machine.execBootWait s
  | .bootPll refclk locked => Sys2Proof.Machine.execBootPll refclk locked s
  | .bootFlash sfdp jedec => Sys2Proof.Machine.execBootFlash sfdp jedec s
  | .bootD2d failed => Sys2Proof.Machine.execBootD2d failed s
  | .bootDdr chans => Sys2Proof.Machine.execBootDdr chans s
  | .bootImage => Sys2Proof.Machine.execBootImage s
  | .bootLock => Sys2Proof.Machine.execBootLock s
  | .bootCalapply => Sys2Proof.Machine.execBootCalapply s
  | .bootBias inputs => Sys2Proof.Machine.execBootBias inputs s
  | .trainingRecordRewrite written => Sys2Proof.Machine.execTrainingRecordRewrite written s
  | .railUndervoltage => Sys2Proof.Machine.execRailUndervoltage s
  | .thermalWarning temps => Sys2Proof.Machine.execThermalWarning temps s
  | .thermalShutdown temps => Sys2Proof.Machine.execThermalShutdown temps s
  | .thermalRecovery temps => Sys2Proof.Machine.execThermalRecovery temps s
  | .operatorHoldPress => Sys2Proof.Machine.execOperatorHoldPress s
  | .operatorHoldLongpress => Sys2Proof.Machine.execOperatorHoldLongpress s
  | .operatorHoldRelease => Sys2Proof.Machine.execOperatorHoldRelease s
  | .configOverride off data => Sys2Proof.Machine.execConfigOverride off data s
  | .flRead len => Sys2Proof.Machine.execFlRead len s
  | .flErase len => Sys2Proof.Machine.execFlErase len s
  | .flProgram len => Sys2Proof.Machine.execFlProgram len s
  | .flCopycal len => Sys2Proof.Machine.execFlCopycal len s
  | .flashCommandDone good => Sys2Proof.Machine.execFlashCommandDone good s
  | .calAreaWrite training good => Sys2Proof.Machine.execCalAreaWrite training good s
  | .flr p => Sys2Proof.Machine.execFlr p s
  | .partReset p => Sys2Proof.Machine.execPartReset p s
  | .partitionResetDone p => Sys2Proof.Machine.execPartitionResetDone p s
  | .testEnter => Sys2Proof.Machine.execTestEnter s
  | .testend => Sys2Proof.Machine.execTestend s
  | .epochArm data => Sys2Proof.Machine.execEpochArm data s
  | .epochCapture => Sys2Proof.Machine.execEpochCapture s
  | .epochLoadCommand => Sys2Proof.Machine.execEpochLoadCommand s
  | .syncOutRepeat => Sys2Proof.Machine.execSyncOutRepeat s
  | .epochTileLoad => Sys2Proof.Machine.execEpochTileLoad s
  | .epochValidSet => Sys2Proof.Machine.execEpochValidSet s
  | .syncOutGenerate => Sys2Proof.Machine.execSyncOutGenerate s
  | .followerEpochLoad => Sys2Proof.Machine.execFollowerEpochLoad s
  | .refLost => Sys2Proof.Machine.execRefLost s
  | .refLockReturn slipped => Sys2Proof.Machine.execRefLockReturn slipped s
  | .timeRemeasure residual => Sys2Proof.Machine.execTimeRemeasure residual s
  | .timeParentTimeout => Sys2Proof.Machine.execTimeParentTimeout s
  | .timeProbe q count arrival fine => Sys2Proof.Machine.execTimeProbe q count arrival fine s
  | .timeEcho q count residence arrival => Sys2Proof.Machine.execTimeEcho q count residence arrival s
  | .timeSync q valid residual => Sys2Proof.Machine.execTimeSync q valid residual s
  | .timeEpoch q v => Sys2Proof.Machine.execTimeEpoch q v s
  | .jobTake p desc body => Sys2Proof.Machine.execJobTake p desc body s
  | .jobEnd p => Sys2Proof.Machine.execJobEnd p s
  | .nop c bits => Sys2Proof.Machine.execNop c bits s
  | .halt c bits => Sys2Proof.Machine.execHalt c bits s
  | .wait c bits => Sys2Proof.Machine.execWait c bits s
  | .waituntil c bits => Sys2Proof.Machine.execWaituntil c bits s
  | .play c bits => Sys2Proof.Machine.execPlay c bits s
  | .playcw c bits => Sys2Proof.Machine.execPlaycw c bits s
  | .playcwStop c bits => Sys2Proof.Machine.execPlaycwStop c bits s
  | .setf c bits => Sys2Proof.Machine.execSetf c bits s
  | .setph c bits => Sys2Proof.Machine.execSetph c bits s
  | .shiftph c bits => Sys2Proof.Machine.execShiftph c bits s
  | .meas c bits => Sys2Proof.Machine.execMeas c bits s
  | .br c bits => Sys2Proof.Machine.execBr c bits s
  | .brv c bits => Sys2Proof.Machine.execBrv c bits s
  | .brd c bits => Sys2Proof.Machine.execBrd c bits s
  | .brdResume c => Sys2Proof.Machine.execBrdResume c s
  | .loop c bits => Sys2Proof.Machine.execLoop c bits s
  | .endl c bits => Sys2Proof.Machine.execEndl c bits s
  | .call c bits => Sys2Proof.Machine.execCall c bits s
  | .ret c bits => Sys2Proof.Machine.execRet c bits s
  | .shot c bits => Sys2Proof.Machine.execShot c bits s
  | .shotStart p => Sys2Proof.Machine.execShotStart p s
  | .endshot c bits => Sys2Proof.Machine.execEndshot c bits s
  | .sync c bits => Sys2Proof.Machine.execSync c bits s
  | .syncComplete p => Sys2Proof.Machine.execSyncComplete p s
  | .syncTimeout c => Sys2Proof.Machine.execSyncTimeout c s
  | .setbias c bits => Sys2Proof.Machine.execSetbias c bits s
  | .emitv c bits => Sys2Proof.Machine.execEmitv c bits s
  | .add c bits => Sys2Proof.Machine.execAdd c bits s
  | .sub c bits => Sys2Proof.Machine.execSub c bits s
  | .and_ c bits => Sys2Proof.Machine.execAnd c bits s
  | .or_ c bits => Sys2Proof.Machine.execOr c bits s
  | .xor_ c bits => Sys2Proof.Machine.execXor c bits s
  | .shl c bits => Sys2Proof.Machine.execShl c bits s
  | .shr c bits => Sys2Proof.Machine.execShr c bits s
  | .sra c bits => Sys2Proof.Machine.execSra c bits s
  | .mul c bits => Sys2Proof.Machine.execMul c bits s
  | .min_ c bits => Sys2Proof.Machine.execMin c bits s
  | .max_ c bits => Sys2Proof.Machine.execMax c bits s
  | .mov c bits => Sys2Proof.Machine.execMov c bits s
  | .addp c bits => Sys2Proof.Machine.execAddp c bits s
  | .subp c bits => Sys2Proof.Machine.execSubp c bits s
  | .addi c bits => Sys2Proof.Machine.execAddi c bits s
  | .subi c bits => Sys2Proof.Machine.execSubi c bits s
  | .andi c bits => Sys2Proof.Machine.execAndi c bits s
  | .ori c bits => Sys2Proof.Machine.execOri c bits s
  | .xori c bits => Sys2Proof.Machine.execXori c bits s
  | .shli c bits => Sys2Proof.Machine.execShli c bits s
  | .shri c bits => Sys2Proof.Machine.execShri c bits s
  | .srai c bits => Sys2Proof.Machine.execSrai c bits s
  | .muli c bits => Sys2Proof.Machine.execMuli c bits s
  | .mini c bits => Sys2Proof.Machine.execMini c bits s
  | .maxi c bits => Sys2Proof.Machine.execMaxi c bits s
  | .ldi c bits => Sys2Proof.Machine.execLdi c bits s
  | .movs c bits => Sys2Proof.Machine.execMovs c bits s
  | .rnd c bits => Sys2Proof.Machine.execRnd c bits s
  | .lookaheadStallEnd c => Sys2Proof.Machine.execLookaheadStallEnd c s
  | .icacheMissFill c good => Sys2Proof.Machine.execIcacheMissFill c good s
  | .qtzCoreReset c => Sys2Proof.Machine.execQtzCoreReset c s
  | .schedStallEnd c => Sys2Proof.Machine.execSchedStallEnd c s
  | .eventDispatch port => Sys2Proof.Machine.execEventDispatch port s
  | .eventArrive id link => Sys2Proof.Machine.execEventArrive id link s
  | .eventRelease id => Sys2Proof.Machine.execEventRelease id s
  | .laneBind id => Sys2Proof.Machine.execLaneBind id s
  | .unmute n => Sys2Proof.Machine.execUnmute n s
  | .frameWriteApply id => Sys2Proof.Machine.execFrameWriteApply id s
  | .deferredFrameWrite f => Sys2Proof.Machine.execDeferredFrameWrite f s
  | .muteApply id => Sys2Proof.Machine.execMuteApply id s
  | .granuleDue id => Sys2Proof.Machine.execGranuleDue id s
  | .outputLimitTrip n => Sys2Proof.Machine.execOutputLimitTrip n s
  | .jumpRegister id => Sys2Proof.Machine.execJumpRegister id s
  | .segmentPassEnd id => Sys2Proof.Machine.execSegmentPassEnd id s
  | .fillComplete obj page good => Sys2Proof.Machine.execFillComplete obj page good s
  | .usePinRelease obj page => Sys2Proof.Machine.execUsePinRelease obj page s
  | .libLoad p op image => Sys2Proof.Machine.execLibLoad p op image s
  | .libDelete p op => Sys2Proof.Machine.execLibDelete p op s
  | .libPin p op => Sys2Proof.Machine.execLibPin p op s
  | .libUnpin p op => Sys2Proof.Machine.execLibUnpin p op s
  | .libDeleteAll p op => Sys2Proof.Machine.execLibDeleteAll p op s
  | .inputBlock m samples => Sys2Proof.Machine.execInputBlock m samples s
  | .windowEventArrive event => Sys2Proof.Machine.execWindowEventArrive event s
  | .windowBind id => Sys2Proof.Machine.execWindowBind id s
  | .settlingEnd m => Sys2Proof.Machine.execSettlingEnd m s
  | .ichTrimUpdate m => Sys2Proof.Machine.execIchTrimUpdate m s
  | .windowStart id => Sys2Proof.Machine.execWindowStart id s
  | .laneFifoSample id => Sys2Proof.Machine.execLaneFifoSample id s
  | .micaNop k x bits => Sys2Proof.Machine.execMicaNop k x bits s
  | .micaEnd k x bits => Sys2Proof.Machine.execMicaEnd k x bits s
  | .micaRep k x bits => Sys2Proof.Machine.execMicaRep k x bits s
  | .micaBr k x bits => Sys2Proof.Machine.execMicaBr k x bits s
  | .micaBrc k x bits => Sys2Proof.Machine.execMicaBrc k x bits s
  | .micaDjnz k x bits => Sys2Proof.Machine.execMicaDjnz k x bits s
  | .micaMacw k x bits => Sys2Proof.Machine.execMicaMacw k x bits s
  | .micaMacx k x bits => Sys2Proof.Machine.execMicaMacx k x bits s
  | .micaAccs k x bits => Sys2Proof.Machine.execMicaAccs k x bits s
  | .micaMacm k x bits => Sys2Proof.Machine.execMicaMacm k x bits s
  | .micaMacr k x bits => Sys2Proof.Machine.execMicaMacr k x bits s
  | .micaClra k x bits => Sys2Proof.Machine.execMicaClra k x bits s
  | .micaAdda k x bits => Sys2Proof.Machine.execMicaAdda k x bits s
  | .micaIn k x bits => Sys2Proof.Machine.execMicaIn k x bits s
  | .micaLd k x bits => Sys2Proof.Machine.execMicaLd k x bits s
  | .micaSt k x bits => Sys2Proof.Machine.execMicaSt k x bits s
  | .micaLdi k x bits => Sys2Proof.Machine.execMicaLdi k x bits s
  | .micaSeta k x bits => Sys2Proof.Machine.execMicaSeta k x bits s
  | .micaAdd k x bits => Sys2Proof.Machine.execMicaAdd k x bits s
  | .micaSub k x bits => Sys2Proof.Machine.execMicaSub k x bits s
  | .micaAnd k x bits => Sys2Proof.Machine.execMicaAnd k x bits s
  | .micaOr k x bits => Sys2Proof.Machine.execMicaOr k x bits s
  | .micaXor k x bits => Sys2Proof.Machine.execMicaXor k x bits s
  | .micaShl k x bits => Sys2Proof.Machine.execMicaShl k x bits s
  | .micaShr k x bits => Sys2Proof.Machine.execMicaShr k x bits s
  | .micaSra k x bits => Sys2Proof.Machine.execMicaSra k x bits s
  | .micaCmul k x bits => Sys2Proof.Machine.execMicaCmul k x bits s
  | .micaAbs2 k x bits => Sys2Proof.Machine.execMicaAbs2 k x bits s
  | .micaMov k x bits => Sys2Proof.Machine.execMicaMov k x bits s
  | .micaCmp k x bits => Sys2Proof.Machine.execMicaCmp k x bits s
  | .micaLatch k x bits => Sys2Proof.Machine.execMicaLatch k x bits s
  | .micaDisc k x bits => Sys2Proof.Machine.execMicaDisc k x bits s
  | .micaSetst k x bits => Sys2Proof.Machine.execMicaSetst k x bits s
  | .micaEmit k x bits => Sys2Proof.Machine.execMicaEmit k x bits s
  | .micaOuts k x bits => Sys2Proof.Machine.execMicaOuts k x bits s
  | .micaEmitr k x bits => Sys2Proof.Machine.execMicaEmitr k x bits s
  | .micaRda k x bits => Sys2Proof.Machine.execMicaRda k x bits s
  | .micaRds k x bits => Sys2Proof.Machine.execMicaRds k x bits s
  | .micaCoreReset k => Sys2Proof.Machine.execMicaCoreReset k s
  | .micaConstantWrite k w data => Sys2Proof.Machine.execMicaConstantWrite k w data s
  | .resultArrive id => Sys2Proof.Machine.execResultArrive id s
  | .bindingCommit slot => Sys2Proof.Machine.execBindingCommit slot s
  | .meshResult q h u => Sys2Proof.Machine.execMeshResult q h u s
  | .decideDue => Sys2Proof.Machine.execDecideDue s
  | .forwardTimeout slot => Sys2Proof.Machine.execForwardTimeout slot s
  | .meshBarrier q h u => Sys2Proof.Machine.execMeshBarrier q h u s
  | .meshVerdict q h u => Sys2Proof.Machine.execMeshVerdict q h u s
  | .meshSeam q h u => Sys2Proof.Machine.execMeshSeam q h u s
  | .judgement p inputs => Sys2Proof.Machine.execJudgement p inputs s
  | .probeShot l => Sys2Proof.Machine.execProbeShot l s
  | .trkFreeze l on => Sys2Proof.Machine.execTrkFreeze l on s
  | .trkRestart l => Sys2Proof.Machine.execTrkRestart l s
  | .decodePass p => Sys2Proof.Machine.execDecodePass p s
  | .decodePassEnd p => Sys2Proof.Machine.execDecodePassEnd p s
  | .pauliFrameWrite p => Sys2Proof.Machine.execPauliFrameWrite p s
  | .decodeLate p => Sys2Proof.Machine.execDecodeLate p s
  | .journalWrite p => Sys2Proof.Machine.execJournalWrite p s
  | .verdictTimeout p => Sys2Proof.Machine.execVerdictTimeout p s
  | .recordRelease p => Sys2Proof.Machine.execRecordRelease p s
  | .hardwareError kind index cause => Sys2Proof.Machine.execHardwareError kind index cause s
  | .coalescePeriodEnd f key => Sys2Proof.Machine.execCoalescePeriodEnd f key s
  | .attach p block => Sys2Proof.Machine.execAttach p block s
  | .armRaw p block => Sys2Proof.Machine.execArmRaw p block s
  | .disarm p block => Sys2Proof.Machine.execDisarm p block s
  | .detach p block => Sys2Proof.Machine.execDetach p block s
  | .reservationHeld p reqid => Sys2Proof.Machine.execReservationHeld p reqid s
  | .softwareTrigger p => Sys2Proof.Machine.execSoftwareTrigger p s
  | .trigIn high => Sys2Proof.Machine.execTrigIn high s
  | .burstComplete p reqid => Sys2Proof.Machine.execBurstComplete p reqid s
  | .samplesFlush r k x => Sys2Proof.Machine.execSamplesFlush r k x s
  | .ringDrain r => Sys2Proof.Machine.execRingDrain r s
  | .gapClose r cause src => Sys2Proof.Machine.execGapClose r cause src s
  | .meshBulk q h ring rseq recs => Sys2Proof.Machine.execMeshBulk q h ring rseq recs s
  | .jobDoorbell p value => Sys2Proof.Machine.execJobDoorbell p value s
  | .resultDoorbell p value => Sys2Proof.Machine.execResultDoorbell p value s
  | .captureDoorbell p r value => Sys2Proof.Machine.execCaptureDoorbell p r value s
  | .ringEnable p data => Sys2Proof.Machine.execRingEnable p data s
  | .holdRequest p => Sys2Proof.Machine.execHoldRequest p s
  | .hostResume p inputs => Sys2Proof.Machine.execHostResume p inputs s
  | .eventDoorbell value => Sys2Proof.Machine.execEventDoorbell value s
  | .eventRingEnable data => Sys2Proof.Machine.execEventRingEnable data s
  | .recordWrite f => Sys2Proof.Machine.execRecordWrite f s
  | .irqModeration f v => Sys2Proof.Machine.execIrqModeration f v s
  | .memRefresh c bank => Sys2Proof.Machine.execMemRefresh c bank s
  | .mr4Poll c hot => Sys2Proof.Machine.execMr4Poll c hot s
  | .zqCalibration c => Sys2Proof.Machine.execZqCalibration c s
  | .dqsTracking c => Sys2Proof.Machine.execDqsTracking c s
  | .memScrub corrected uncorrectable c => Sys2Proof.Machine.execMemScrub corrected uncorrectable c s
  | .correctedRead c page => Sys2Proof.Machine.execCorrectedRead c page s
  | .uncorrectableRead c page reader => Sys2Proof.Machine.execUncorrectableRead c page reader s
  | .writeCrcError c page burst repeats => Sys2Proof.Machine.execWriteCrcError c page burst repeats s
  | .neighbourRefresh c bank row => Sys2Proof.Machine.execNeighbourRefresh c bank row s
  | .rowIdleClose c bank => Sys2Proof.Machine.execRowIdleClose c bank s
  | .pageRemap page => Sys2Proof.Machine.execPageRemap page s
  | .deepReq => Sys2Proof.Machine.execDeepReq s
  | .deepEntry => Sys2Proof.Machine.execDeepEntry s
  | .deepExit => Sys2Proof.Machine.execDeepExit s
  | .deepExitDone chans => Sys2Proof.Machine.execDeepExitDone chans s
  | .portPresent q => Sys2Proof.Machine.execPortPresent q s
  | .laneTrained q l good => Sys2Proof.Machine.execLaneTrained q l good s
  | .identify q => Sys2Proof.Machine.execIdentify q s
  | .meshIdent q cluster dev parent => Sys2Proof.Machine.execMeshIdent q cluster dev parent s
  | .portAbsent q => Sys2Proof.Machine.execPortAbsent q s
  | .signalLost q => Sys2Proof.Machine.execSignalLost q s
  | .laneRetrain q l good => Sys2Proof.Machine.execLaneRetrain q l good s
  | .alignmentLoss q l => Sys2Proof.Machine.execAlignmentLoss q l s
  | .meshAck q l seq => Sys2Proof.Machine.execMeshAck q l seq s
  | .meshNak q l seq => Sys2Proof.Machine.execMeshNak q l seq s
  | .retryExhausted q l => Sys2Proof.Machine.execRetryExhausted q l s
  | .txsleep q mask => Sys2Proof.Machine.execTxsleep q mask s
  | .rxsleep q mask => Sys2Proof.Machine.execRxsleep q mask s
  | .sleepNotice q l => Sys2Proof.Machine.execSleepNotice q l s
  | .meshTest q l data => Sys2Proof.Machine.execMeshTest q l data s
  | .ptpAnnounce d q a logInterval => Sys2Proof.Machine.execPtpAnnounce d q a logInterval s
  | .ptpSync d q seq origin ingress correction logInterval => Sys2Proof.Machine.execPtpSync d q seq origin ingress correction logInterval s
  | .followUp d q seq origin correction => Sys2Proof.Machine.execFollowUp d q seq origin correction s
  | .delayResp d q seq receive correction logMin => Sys2Proof.Machine.execDelayResp d q seq receive correction logMin s
  | .delayReq d q egress => Sys2Proof.Machine.execDelayReq d q egress s
  | .followUpTimeout d q => Sys2Proof.Machine.execFollowUpTimeout d q s
  | .masterLoss d => Sys2Proof.Machine.execMasterLoss d s
  | .ptpSwitch automatic => Sys2Proof.Machine.execPtpSwitch automatic s
  | .setbiasArrive event => Sys2Proof.Machine.execSetbiasArrive event s
  | .biasFrame n => Sys2Proof.Machine.execBiasFrame n s
  | .slewStep n => Sys2Proof.Machine.execSlewStep n s
  | .biasSpanWrite n data => Sys2Proof.Machine.execBiasSpanWrite n data s
  | .spanSwitch n => Sys2Proof.Machine.execSpanSwitch n s
  | .spanUp n => Sys2Proof.Machine.execSpanUp n s
  | .biasShort n => Sys2Proof.Machine.execBiasShort n s
  | .biasRailLoss => Sys2Proof.Machine.execBiasRailLoss s
  | .flintTrip m high => Sys2Proof.Machine.execFlintTrip m high s
  | .flintLatchWrite mask inputs => Sys2Proof.Machine.execFlintLatchWrite mask inputs s
  | .flintPeriodClear m input => Sys2Proof.Machine.execFlintPeriodClear m input s
  | .flintTestRun data => Sys2Proof.Machine.execFlintTestRun data s
  | .flintTestStep seen swappedOk => Sys2Proof.Machine.execFlintTestStep seen swappedOk s
  | .hkScanStart => Sys2Proof.Machine.execHkScanStart s
  | .hkConversionDone injected samples railed => Sys2Proof.Machine.execHkConversionDone injected samples railed s
  | .hkTempInsert temps => Sys2Proof.Machine.execHkTempInsert temps s
  | .outputTrimUpdate n => Sys2Proof.Machine.execOutputTrimUpdate n s
  | .hkInj data => Sys2Proof.Machine.execHkInj data s
  | .calRun data => Sys2Proof.Machine.execCalRun data s
  | .calRunComplete newStore => Sys2Proof.Machine.execCalRunComplete newStore s
  | .calCommit good => Sys2Proof.Machine.execCalCommit good s
  | .calSaveTrack data => Sys2Proof.Machine.execCalSaveTrack data s
  | .calAbort cause item index measA measB => Sys2Proof.Machine.execCalAbort cause item index measA measB s
  | .timeNowLoRead r => Sys2Proof.Machine.execTimeNowLoRead r s
  | .qtzTlLoRead r c => Sys2Proof.Machine.execQtzTlLoRead r c s
  | .strataJheadLoRead r p => Sys2Proof.Machine.execStrataJheadLoRead r p s
  | .ptpNowDtLoRead r => Sys2Proof.Machine.execPtpNowDtLoRead r s
  | .ptpAncSecLoRead r d => Sys2Proof.Machine.execPtpAncSecLoRead r d s
  | .journalWindowRead r => Sys2Proof.Machine.execJournalWindowRead r s
  | .ochCntclr n => Sys2Proof.Machine.execOchCntclr n s
  | .ichCntclr m => Sys2Proof.Machine.execIchCntclr m s
  | .qtzCntclr c => Sys2Proof.Machine.execQtzCntclr c s
  | .micaCntclr k => Sys2Proof.Machine.execMicaCntclr k s
  | .geodeCntclr p => Sys2Proof.Machine.execGeodeCntclr p s
  | .schedCntclr p => Sys2Proof.Machine.execSchedCntclr p s
  | .strataCntclr p => Sys2Proof.Machine.execStrataCntclr p s
  | .decCntclr => Sys2Proof.Machine.execDecCntclr s
  | .garnetCntclr p => Sys2Proof.Machine.execGarnetCntclr p s
  | .capRcntclr r => Sys2Proof.Machine.execCapRcntclr r s
  | .capPtrigClear p => Sys2Proof.Machine.execCapPtrigClear p s
  | .memCntclr c => Sys2Proof.Machine.execMemCntclr c s
  | .meshCntclr q => Sys2Proof.Machine.execMeshCntclr q s
  | .biasCntclr n => Sys2Proof.Machine.execBiasCntclr n s
  | .hkCntclr => Sys2Proof.Machine.execHkCntclr s
  | .registerWrite f off size data => Sys2Proof.Machine.execRegisterWrite f off size data s
  | .resetNRelease => Sys2Proof.Machine.execResetNRelease s
  | .laneSignalDetect q l => Sys2Proof.Machine.execLaneSignalDetect q l s
  | .laneRealign q l => Sys2Proof.Machine.execLaneRealign q l s
  | .parentSyncSend q => Sys2Proof.Machine.execParentSyncSend q s
  | .rxsleepRequest q l on => Sys2Proof.Machine.execRxsleepRequest q l on s
  | .laneWake q l tx => Sys2Proof.Machine.execLaneWake q l tx s
  | .pcieLinkDown => Sys2Proof.Machine.execPcieLinkDown s
  | .pcieLinkUp speed width => Sys2Proof.Machine.execPcieLinkUp speed width s
  | .powerStateChange f d3 => Sys2Proof.Machine.execPowerStateChange f d3 s
  | .modulePresence q present los => Sys2Proof.Machine.execModulePresence q present los s
  | .extest enter => Sys2Proof.Machine.execExtest enter s
  | .clampClose n => Sys2Proof.Machine.execClampClose n s
  | .refClearUnmute => Sys2Proof.Machine.execRefClearUnmute s

end Sys2Proof.Machine
end

