-- ==== Sys2Proof/Machine/Tick.lean ====
section
/-!
DEFINITION. One tick of the block's clock: what a step does when no command waits (log 1). Everything that the spec ties
to the passing of time alone happens here; what a command names happens when the command comes (log 8).
-/
namespace Sys2Proof.Machine

/-- Whether device time runs: outside BOOT, and while a warm reset waits for the bias outputs (02 R52, 17 R489). -/
def State.clockRuns (s : State) : Bool :=
  !s.heldOff && ((s.mode != .boot && s.mode != .failed) || s.boot.biasWait)

/-- The tick counts: time since the boot started, since the capture edge, and of the SYNC_OUT pulse (02 R55, R56;
17 R494). -/
def State.tickCounts (s : State) : State :=
  let s := s.updTime fun t => { t with edge := t.edge.map (· + 1) }
  let s := s.updPins fun x => { x with syncLeft := x.syncLeft - 1, syncOut := x.syncOut && decide (1 < x.syncLeft) }
  if s.heldOff then s else s.updBoot fun b => { b with ticks := b.ticks + 1 }

/-- DTIME and facility time after the tick (02 R52, 14 R416). -/
def State.tickTime (s : State) : State :=
  s.updTime fun t => { t with dtime := t.dtime + 1#64, ft := t.ft + BitVec.ofNat 64 s.ftInc }

/-- Whether window `w` has ended for good: served, its result past, its binding resolved and committed, and no window
chained to it. -/
def State.windowOver (s : State) (w : Window) : Bool :=
  w.served && decide (w.we + decQ w.dec + 64 < s.now) && !((s.slot w.slot).queue.any (·.id == w.id))
    && !(s.fab.units.any (·.1 == w.id)) && !(s.fab.wins.any (·.chained == some w.id))

/-- Released events whose instant has passed, but for frame writes, which leave as they apply, pulses whose reservation
has ended and windows that are over leave the fabric (05 R177, R180; 06 R194). -/
def State.tickFabric (s : State) : State :=
  let passed := fun (e : Event) => match e.stage with
    | .released => decide (e.inst / 32 ≤ s.now) && e.kind.frameWritten.isNone
    | _ => false
  let past := fun (u : Pulse) => u.done && (match u.rsvTo with | some t => decide (t < s.now) | none => false)
  let old := (s.fab.pulses.filter past).map (·.id)
  let s := s.updFab fun b => { b with
    events := b.events.filter fun e => !passed e
    wins := b.wins.filter fun w => !s.windowOver w
    past := b.past.filter fun x => decide (32 * s.now < x.2.1 + 16384) }
  s.forEach old State.dropPulse

/-- The bursts of the triggers registered in the tick before begin (10 R324). -/
def State.tickBursts (s : State) : State :=
  s.forEach ((s.reqs.filter (·.trig.isSome)).map Req.key) State.beginBurst

/-- User records of STREAM mode whose TIME has come go to their ring (04 R134). -/
def State.tickUsers (s : State) : State :=
  let due := s.fab.users.filter fun x => decide (x.2.1 ≤ s.now)
  let s := s.updFab fun b => { b with users := b.users.filter fun x => decide (s.now < x.2.1) }
  s.forEach due fun s x => s.queueRec x.1 x.2.2

/-- What DRAM takes of the capture records on chip in a period: each partition's share, and of what the guarantee leaves
besides the other shares and reserves an amount that has no lower bound, lowest partition first (11 R355, R356; log 154). -/
def State.capServe (s : State) : State :=
  let ps := List.range s.nPart
  let share := fun p => min (s.part p).capWait (2 * s.fld (MEM_CAPQ p) 13 0)
  let total := (ps.map fun p => 128 * s.fillQuota p + s.fld (STRATA_JRATE p) 12 0).sum
  let others := total - (ps.map s.idleShare).sum + 840
  let spare := 2 * s.guaranteed - others - (ps.map share).sum
  let n := min spare (Config.captureServed s.fab.freeN)
  let s := s.updFab fun f => { f with freeN := f.freeN + 1 }
  let x := ps.foldl (fun (x : State × Nat) p =>
    let w := (x.1.part p).capWait - share p
    (x.1.updPart p fun q => { q with capWait := w - min w x.2 }, x.2 - min w x.2)) (s, n)
  x.1

/-- What a period of 1,024 ticks allows starts afresh (05 R170; 09 R297; 12 R383). -/
def State.tickShares (s : State) : State :=
  if s.now % 1024 ≠ 0 then s
  else
    let s := if (List.range s.nPart).all fun p => (s.part p).capWait == 0 then s else s.capServe
    let s := s.forEach (List.range s.nPart) fun s p => s.updPart p fun q => { q with jused := 0, fillUsed := 0, lent := 0 }
    let s := s.forEach (List.range s.nPort) fun s q => s.updPort q fun x => { x with dused := [], bused := [] }
    s.updGeo fun g => { g with fills := g.fills - s.fillCap, freeFills := 0 }

/-- Waits of the partitions that last through the tick (01 R45; 13 R398). -/
def State.tickWaits (s : State) : State :=
  s.forEach (List.range s.nPart) fun s p =>
    let s := if (s.part p).fresh.isEmpty then s else s.updPart p fun q => { q with fresh := [] }
    let s := s.shotWaits p
    if s.wantsJob p && !s.mayTake p then s.updPart p fun q => { q with jobWait := q.jobWait + 1 } else s

/-- Temperature insertions fall due, and the Flint trims follow at a frame (15 R452; 16 R468). -/
def State.tickTrims (s : State) : State :=
  let s := if s.now % 640000 = 0 then s.updHk fun h => { h with temps := true } else s
  let s := if s.now % 640 = 0 ∧ s.cal.trimDue.contains 80 then s.applyFlint.trimTook 80 else s
  s.forEach (List.range s.nIch) fun s m =>
    if !s.ichHeld m s.now then
      s.updCal fun c => { c with freeAt := put (fun _ => 0) c.freeAt m s.now }
    else s

/-- A PROBE on every port that is UP, every 65,536 ticks (12 R375). -/
def State.tickProbes (s : State) : State :=
  if s.now % 65536 ≠ 0 then s
  else s.forEach ((List.range s.nPort).filter s.timePort) fun s q => s.timePacket q 1 0#64 0#64

/-- Whether lane `l` of port `q` drives its line: trained, in service or being identified, and awake or not yet empty
(12 R367, R386). -/
def State.laneDrives (s : State) (q l : Nat) : Bool :=
  let x := s.lane q l
  x.trained && !x.retraining && !s.laneRetired q l && (!x.txSleep || !(x.cur.isEmpty && x.linkWait.isEmpty))

/-- The tick of a lane under pattern test: the generator sends, and the checker counts bit errors, in loopback those of the
lane's own line (12 R388; log 147). -/
def State.testLine (s : State) (q l : Nat) : State :=
  let a := MESH_TEST q l
  let x := s.lane q l
  let pat := s.fld a 3 2
  let n := codesIn s.boot.ticks
  let y := if s.bit a 0 then ({ x with levels := [] } : Lane).runPattern pat (s.fld a 9 5) n else { x with levels := [] }
  let errors :=
    if !s.bit a 1 then 0
    else if s.bit a 4 then
      if s.bit a 0 then checkPattern pat n x.sent { x with rxRd := x.txRd, rxPre := x.txPre } y.levels else 0
    else Config.patternErrors s.fab.freeN
  let s := (s.updLane q l fun _ => y).updFab fun f => { f with freeN := f.freeN + 1 }
  s.setN (MESH_TESTERR q l) (min (s.regN (MESH_TESTERR q l) + errors) (2 ^ 32 - 1))

/-- The tick of a lane's transmitter: its codewords of this tick (12 R372). -/
def State.driveLine (s : State) (q l : Nat) : State :=
  let a := MESH_TEST q l
  let inj := if s.mode == .test && s.bit a 10 then s.fld a 9 5 else 0
  let h : Head := { dst := Fin.ofNat 64 (s.fld (MESH_PSTAT q) 27 22), src := Fin.ofNat 64 s.devId }
  s.updLane q l fun x =>
    let x := Lane.transmit h inj (codesIn s.boot.ticks) { x with levels := [] }
    { x with gap := x.gap - 1, wait := x.wait.map fun p => { p with delay := p.delay - 1 } }

/-- An ACK on the time lane of a port that has received packets, every 64 ticks (12 R373; log 148). -/
def State.tickAck (s : State) (q : Nat) : State :=
  match s.timeLane q with
  | some l => if (s.port q).ackOwed then (s.notice q 5 l).updPort q fun x => { x with ackOwed := false } else s
  | none => s

/-- The mesh transmitters (12 R372, R375): a TIME packet starts where a codeword begins at a tick boundary, once in 64 ticks;
then each lane sends the codewords of the tick. -/
def State.tickLines (s : State) : State :=
  s.forEach (List.range s.nPort) fun s q =>
    if (s.port q).lanes.isEmpty then s
    else
      let s := if s.boot.ticks % 64 = 0 ∧ s.portState q = pUp then (s.tickAck q).launchTime q else s
      let s := s.updPort q fun x => { x with wait := x.wait.map fun p => { p with delay := p.delay - 1 } }
      s.forEach (List.range 8) fun s l =>
        if (s.lane q l).testing then s.testLine q l
        else if (s.portState q == pIdentify || s.portState q == pUp || s.portState q == pMismatch) && s.laneDrives q l then
          s.driveLine q l
        else s

/-- The state one tick later. -/
def tick (s : State) : State :=
  let t := if s.mode == .boot || s.mode == .failed || s.heldOff then s else s.tickOutputs
  let t := t.tickCounts
  let t := if t.clockRuns then t.tickTime else t
  let t := if t.mode == .boot || t.mode == .failed || t.heldOff then t
    else t.tickBursts.tickFabric.tickPins.tickUsers.tickShares.tickWaits.tickTrims.tickProbes.tickLines
  { t with before := t.regs, pending := s.pending, variant := s.variant, serial := s.serial, flash := s.flash }

end Sys2Proof.Machine
end

