-- ==== Sys2Proof/Safety.lean ====
section
/-!
DEFINITION. What counts as a safe run, and the terms in which statements say what a command does: that it answers, and
what it leaves alone.
-/
namespace Sys2Proof.Machine

/-- The flash table is canonical: equal flash contents are equal data. -/
abbrev State.flashWf (s : State) : Prop := wf flashDef s.flash = true

/-- A step answers a next state. -/
def Steps (s : State) : Prop := ∃ t, step s = .next t

/-- Command `c` answers a next state at `s`, and that state satisfies `P`. -/
def Answers (c : Instr) (s : State) (P : State → Prop) : Prop := ∃ t, exec c s = .next t ∧ P t

/-- The device takes PF0 writes to every block: it is out of reset and its boot has ended at DONE (17 R484). -/
abbrev State.opened (s : State) : Prop := s.heldOff = false ∧ s.mode ≠ .boot ∧ s.mode ≠ .failed

/-- Core `c` executes its next instruction for partition `p` (04 R111, R157). -/
abbrev State.executes (s : State) (c p : Nat) : Prop :=
  s.qtzLive c = some p ∧ (s.qtz c).pc < s.codeLen p ∧ (s.qtz c).cached = true ∧ s.reservedAt p (s.qtz c).pc = false

/-! Frames: instances outside the list are as before. -/

def RegsBut (s t : State) (l : List Nat) : Prop := ∀ a, a ∉ l → t.reg a = s.reg a
def CoresBut (s t : State) (l : List Nat) : Prop := ∀ c, c ∉ l → t.qtz c = s.qtz c
def PartsBut (s t : State) (l : List Nat) : Prop := ∀ p, p ∉ l → t.part p = s.part p

/-- `c` at `s` writes `x` to V[d] of Quartz core `q`, goes on to the next instruction, and does nothing else. -/
def WritesV (c : Instr) (s : State) (q d : Nat) (x : Word) : Prop :=
  Answers c s fun t =>
    t = { s with cores := t.cores } ∧ CoresBut s t [q] ∧
    t.qtz q = { (s.qtz q).fetched with v := (t.qtz q).v, pc := ((s.qtz q).pc + 1) % 2 ^ 21 } ∧
    t.vr q d = x ∧ ∀ k, k ≠ d → t.vr q k = s.vr q k

/-- `c` at `s` changes Quartz core `q` to `x` and does nothing else. -/
def SetsCore (c : Instr) (s : State) (q : Nat) (x : Core) : Prop :=
  Answers c s fun t => t = { s with cores := t.cores } ∧ CoresBut s t [q] ∧ t.qtz q = x

/-- The loops of Quartz core `q` that a branch may pop: those opened since the most recent active CALL, or all of them
when no call is active (04 R138). -/
def Core.poppable (q : Core) : Nat :=
  match q.calls with
  | [] => q.loops.length
  | f :: _ => q.loops.length - f.depth

/-- `c` at `s` makes Quartz core `q` branch by `off`: the target is the next instruction, and the innermost `k` loops pop,
where `k` is the number of poppable loops, counted from the innermost, before the first whose extent holds the target
(04 R136, R138). Nothing else changes. -/
def Branches (c : Instr) (s : State) (q : Nat) (off : BitVec 24) : Prop :=
  let i := (((s.qtz q).pc + off.toInt) % 2 ^ 21).toNat
  ∃ k, k ≤ (s.qtz q).poppable ∧
    (∀ f ∈ (s.qtz q).loops.take k, i < f.start ∨ f.stop < i) ∧
    (k < (s.qtz q).poppable → ∃ f, (s.qtz q).loops[k]? = some f ∧ f.start ≤ i ∧ i ≤ f.stop) ∧
    SetsCore c s q { (s.qtz q).fetched with pc := i, loops := (s.qtz q).loops.drop k }

/-- `c` at `s` is core fault `code` of Quartz core `q` (04 R157). -/
def Faults (c : Instr) (s : State) (q code : Nat) : Prop := exec c s = answer s ((s.fetch q).coreFault q code)

/-- The registers that accounting a record or a journal entry of partition `p` may change: the DRAM loans of 11 R356. -/
def recordRegs (p : Nat) : List Nat := MEM_PBORROWED p :: (List.range 8).map MEM_PLENT

/-- From `s` to `t` only records, taints and journal entries have been made, on behalf of partition `p`: partitions'
record queues and journals, and the loan counters, may differ; no partition's mode or collected attempt records do. -/
def Records (s t : State) (p : Nat) : Prop :=
  t = { s with parts := t.parts, regs := t.regs } ∧ RegsBut s t (recordRegs p) ∧
  ∀ q, (t.part q).mode = (s.part q).mode ∧ (t.part q).attempt.recs = (s.part q).attempt.recs

/-- The registers that the issue of an event by Quartz core `q` of partition `p` may change. -/
def issueRegs (q p : Nat) : List Nat :=
  [QTZ_STAT q, QTZ_LATECNT q, QTZ_SLACKMIN q, SCHED_PEAK p, GEODE_SETFULL p] ++ recordRegs p

/-- Partition `p`'s core `q` may issue `n` events now: mode, look-ahead limit, reference and scheduler entries allow it
(01 R41; 02 R51, R62; 04 R141; 05 R181). -/
abbrev State.mayIssue (s : State) (q p n : Nat) : Prop :=
  ((s.part p).mode = .stream ∨ (s.qtz q).inShot = true) ∧
  (s.qtz q).tl / 32 ≤ s.now + s.fld (TIME_LOOKAHEAD p) 19 0 ∧
  (s.time.lost = false ∨ (s.part p).mode ≠ .stream) ∧
  s.canTake p n (s.begun q p && s.inLine p ((s.qtz q).asked.getD s.now)) = true

/-- Core `q` of partition `p` has issued event `k` at its cursor, from `s` to `t`, and goes on: one entry more, with the
next acceptance number (04 R114; 05 R180). Frames, slots, channels, flash and all else that the relation does not name are
as before. -/
def Issued (s t : State) (q p : Nat) (k : EvKind) : Prop :=
  (∃ e : Event, t.fab.events = s.fab.events ++ [e] ∧ e.id = s.fab.nextId ∧ e.part = p ∧ e.core = q ∧
    e.inst = (s.qtz q).tl ∧ e.kind = k ∧ e.stage = .held ∧ e.device = false) ∧
  t.fab = { s.fab with events := t.fab.events, nextId := s.fab.nextId + 1, pulses := t.fab.pulses, wins := t.fab.wins } ∧
  t.qtz q = { (s.qtz q).fetched with pc := ((s.qtz q).pc + 1) % 2 ^ 21, made := (t.qtz q).made, asked := none } ∧
  CoresBut s t [q] ∧ RegsBut s t (issueRegs q p) ∧ (∀ r, (t.part r).mode = (s.part r).mode) ∧
  t = { s with cores := t.cores, parts := t.parts, regs := t.regs, before := t.before, fab := t.fab, geo := t.geo,
               issued := t.issued, slots := t.slots, graphs := t.graphs }

/-- Context `x` of Mica core `k` executes an instruction of its program, for window `w` of partition `p` (07 R215, R228). -/
abbrev State.runs (s : State) (k x p : Nat) (w : Window) : Prop :=
  s.micaLive k x = some (p, w) ∧ (s.ctx k x).pc < 4096 ∧ s.micaReserved k x = false

/-- `c` at `s` makes of context `x` of Mica core `k` what `f` makes of it, and the context goes on to its next instruction
or repetition (07 R230); nothing else changes. -/
def SetsCtx (c : Instr) (s : State) (k x : Nat) (f : Ctx → Ctx) : Prop :=
  exec c s = .next (s.updCtx k x fun a => (f a).next)

/-- The window error of 07 R237 and no more, at which the context goes on. -/
def WindowError (c : Instr) (s : State) (k x p : Nat) (w : Window) : Prop :=
  exec c s = .next ((s.micaError k p w).mnext k x)

/-- Cause and HOLD_RESUME need that a reset leaves in partition `p`: its own, but for a trigger of the same tick that
ranks above a reset, which stays (01 R33). -/
def State.resetCause (s : State) (p : Nat) : HoldCause × Bool :=
  let q := s.part p
  if q.mode = .hold ∧ q.holdAt = s.now ∧ holdRank q.cause < holdRank .reset then (q.cause, true) else (.reset, false)

end Sys2Proof.Machine
end

