-- ==== Sys2Proof/Certificates/Slice0/Obligations.lean ====
section
/-!
DEFINITION. What the provers are asked to prove of the model, family by family. Each statement's comment names the
rules of the spec that it states.
-/
open Sys2Proof Sys2Proof.Machine

/-- A step takes the command at the front of the queue and runs it on the state with the queue's rest. -/
def Obligations.StepRunsTheFrontCommand : Prop :=
  (∀ (s : State) (c : Instr) (rest : List Instr), s.pending = c :: rest → step s = exec c { s with pending := rest }) ∧
  ∀ (s : State) (c : Instr), step (s.withFront c) = exec c s

/-- Every command, in every state, answers a next state: none stops the block. It leaves the queue and the fuses as they
are, and no command but the two that end a flash operation writes the flash. -/
def Obligations.EveryCommandAnswers : Prop :=
  ∀ (c : Instr) (s : State), Answers c s fun t => t.pending = s.pending ∧ t.variant = s.variant ∧ t.serial = s.serial ∧
    (t.flash = s.flash ∨ (∃ g, c = .flashCommandDone g) ∨ ∃ tr g, c = .calAreaWrite tr g)

/-- Every step keeps the flash canonical: addresses rise strictly and no listed byte is the erased value, so that equal
flash contents are equal data. -/
def Obligations.FlashStaysCanonical : Prop :=
  ∀ (s t : State), step s = .next t → s.flashWf → t.flashWf

/-- 17 R482, R488; 15 R438; 02 R51: right after reset the device is held in BOOT, every register reads its reset value,
every partition is in HOLD without a job, every bias output is CLAMPED, no epoch is valid, nothing waits and the flash is
canonical. What the spec does not state of that instant (that the reset is still held, an erased flash, the variant) is
the model's choice: log 4, 5, 6. -/
def Obligations.ResetState : Prop :=
  let s := State.reset
  s.mode = .boot ∧ s.heldOff = true ∧ (∀ a, s.reg a = pf0Reset a) ∧ (∀ p o, s.vreg p o = vfReset (0x100000 * p + o)) ∧
  (∀ p, (s.part p).mode = .hold ∧ (s.part p).job = none ∧ (s.part p).resumeNeeded = false) ∧
  (∀ c, (s.qtz c).st = .halted) ∧ (∀ n < 128, s.biasState n = bClamped) ∧ s.bit TIME_STAT 1 = false ∧
  s.fab.events = [] ∧ s.fab.pulses = [] ∧ s.fab.wins = [] ∧ s.pending = [] ∧ s.flashWf

/-- 02 R48, R52; 14 R416: on an empty queue a step is one tick (the model's choice, log 1): DTIME and facility time count
while the device is out of BOOT, the time since the boot started counts in BOOT, and no core, frame, slot or mode
changes. -/
def Obligations.EmptyQueueTicks : Prop :=
  ∀ (s : State), s.pending = [] → ∃ t, step s = .next t ∧ t = tick s ∧ t.pending = [] ∧
    (s.heldOff = false → s.mode ≠ .boot → s.mode ≠ .failed → t.time.dtime = s.time.dtime + 1#64 ∧
      t.time.ft = s.time.ft + BitVec.ofNat 64 (s.regN PTP_INC_LO + 2 ^ 32 * s.fld PTP_INC_HI 7 0)) ∧
    (s.heldOff = true → t.time.dtime = s.time.dtime ∧ t.boot = s.boot) ∧
    (s.mode = .boot → s.boot.biasWait = false → t.time.dtime = s.time.dtime) ∧
    (s.heldOff = false → t.boot = { s.boot with ticks := s.boot.ticks + 1 }) ∧
    t.time.edge = s.time.edge.map (· + 1) ∧ (t.pins.syncOut = true ↔ s.pins.syncOut = true ∧ 1 < s.pins.syncLeft) ∧
    t.mode = s.mode ∧ t.cores = s.cores ∧ t.frames = s.frames ∧ t.slots = s.slots ∧ t.flash = s.flash ∧
    ∀ p, (t.part p).mode = (s.part p).mode ∧ (t.part p).job.map (·.num) = (s.part p).job.map (·.num)

/-- 00 R13: the fields of a tag word. -/
def Obligations.TagWordFields : Prop :=
  ∀ (time sub part shot frame kind attempt : Nat) (taint settle ovf late : Bool),
    let t := (mkTag time sub part shot frame kind taint settle ovf late attempt).toNat
    bits t 63 40 = time % 2 ^ 24 ∧ bits t 39 35 = sub % 32 ∧ bits t 34 32 = part % 8 ∧ bits t 31 20 = shot % 4096 ∧
    bits t 19 10 = frame % 1024 ∧ bits t 9 8 = kind % 4 ∧ bitOf t 7 = taint ∧ bitOf t 6 = settle ∧ bitOf t 5 = ovf ∧
    bitOf t 4 = late ∧ bits t 3 0 = attempt % 16

/-- 00 R15: the full DTIME of a tag's TIME is the one value within 2^23 ticks of a DTIME already known. -/
def Obligations.TagTimeReconstructs : Prop :=
  ∀ known time : Nat, known < time + 2 ^ 23 → time < known + 2 ^ 23 → fullTime known (time % 2 ^ 24) = time

/-- 04 R111, R118, R122, R157: a Quartz core that does not run executes no instruction; one that runs faults with
FETCH_RANGE at or beyond the code's end, stalls and counts a miss where its instruction cache does not hold the line, and
faults with ILLEGAL at a reserved opcode; a core fault records its code and its PC, halts every core of the partition and
holds it at once, with cause coreFault unless it was in HOLD before. -/
def Obligations.QuartzFetchAndFaults : Prop :=
  (∀ (s : State) (c : Fin 16) (w : BitVec 56),
    ∀ i ∈ [Instr.add c w, .sub c w, .and_ c w, .or_ c w, .xor_ c w, .shl c w, .shr c w, .sra c w, .mul c w, .min_ c w,
      .max_ c w, .mov c w, .addp c w, .subp c w, .addi c w, .subi c w, .andi c w, .ori c w, .xori c w, .shli c w, .shri c w,
      .srai c w, .muli c w, .mini c w, .maxi c w, .ldi c w, .rnd c w, .movs c w, .nop c w, .wait c w, .waituntil c w, .br c w,
      .brv c w, .brd c w, .loop c w, .endl c w, .call c w, .ret c w, .halt c w, .shot c w, .endshot c w, .sync c w, .play c w,
      .playcw c w, .playcwStop c w, .setf c w, .setph c w, .shiftph c w, .meas c w, .setbias c w, .emitv c w],
      (s.qtzLive c.val = none → exec i s = .next s) ∧
      (∀ p, s.qtzLive c.val = some p → s.codeLen p ≤ (s.qtz c.val).pc → exec i s = answer s (s.coreFault c.val 6)) ∧
      (∀ p, s.qtzLive c.val = some p → (s.qtz c.val).pc < s.codeLen p → (s.qtz c.val).cached = false →
        exec i s = .next ((s.inc (QTZ_ICMISS c.val)).updQtz c.val fun q => { q with st := .stallFetch, stallFrom := s.now })) ∧
      (∀ p, s.qtzLive c.val = some p → (s.qtz c.val).pc < s.codeLen p → (s.qtz c.val).cached = true →
        s.reservedAt p (s.qtz c.val).pc = true → exec i s = answer s (s.coreFault c.val 5))) ∧
  ∀ (s : State) (c code p : Nat), s.qtzOwner c = some p → c < s.nQtz → p < s.nPart →
    let t := s.coreFault c code
    t.regN (QTZ_FAULT c) = code % 2 ^ 32 ∧ t.regN (QTZ_FAULTPC c) = (s.qtz c).pc % 2 ^ 32 ∧ (t.qtz c).st = .faulted ∧
    (t.qtz c).pc = (s.qtz c).pc ∧ (t.qtz c).v = (s.qtz c).v ∧ (t.part p).mode = .hold ∧
    ((s.part p).mode ≠ .hold → (t.part p).cause = .coreFault ∧ (t.part p).resumeNeeded = true ∧
      ∀ k ∈ s.qtzOf p, k ≠ c → (t.qtz k).st = .halted) ∧
    ∀ q, q ≠ p → (t.part q).mode = (s.part q).mode

/-- 04 R131: the register forms of the arithmetic instructions, with D in [55:50], A in [49:44], B in [43:38], for every
register of each, also when D names A or B; only V[D] and the PC change. 04 R131: the immediate forms, with D in [55:50],
A in [49:44] and IMM in [31:0]; LDI with A = 0. 04 R124, R131 to R133: the pair instructions (even indices only), the
random number and the special values. -/
def Obligations.QuartzArithmetic : Prop :=
  (
  ∀ (s : State) (c : Fin 16) (p : Nat) (d a b : BitVec 6), s.executes c.val p →
    let w : BitVec 56 := d ++ a ++ b ++ 0#38
    let x := s.vr c.val a.toNat
    let y := s.vr c.val b.toNat
    WritesV (.add c w) s c.val d.toNat (x + y) ∧
    WritesV (.sub c w) s c.val d.toNat (x - y) ∧
    WritesV (.and_ c w) s c.val d.toNat (x &&& y) ∧
    WritesV (.or_ c w) s c.val d.toNat (x ||| y) ∧
    WritesV (.xor_ c w) s c.val d.toNat (x ^^^ y) ∧
    WritesV (.shl c w) s c.val d.toNat (x <<< (y.toNat % 32)) ∧
    WritesV (.shr c w) s c.val d.toNat (x >>> (y.toNat % 32)) ∧
    WritesV (.sra c w) s c.val d.toNat (x.sshiftRight (y.toNat % 32)) ∧
    WritesV (.mul c w) s c.val d.toNat (x * y) ∧
    WritesV (.min_ c w) s c.val d.toNat (BitVec.ofInt 32 (min x.toInt y.toInt)) ∧
    WritesV (.max_ c w) s c.val d.toNat (BitVec.ofInt 32 (max x.toInt y.toInt)) ∧
    WritesV (.mov c w) s c.val d.toNat x
  ) ∧ (
  ∀ (s : State) (c : Fin 16) (p : Nat) (d a : BitVec 6) (y : Word), s.executes c.val p →
    let w : BitVec 56 := d ++ a ++ 0#12 ++ y
    let x := s.vr c.val a.toNat
    WritesV (.addi c w) s c.val d.toNat (x + y) ∧
    WritesV (.subi c w) s c.val d.toNat (x - y) ∧
    WritesV (.andi c w) s c.val d.toNat (x &&& y) ∧
    WritesV (.ori c w) s c.val d.toNat (x ||| y) ∧
    WritesV (.xori c w) s c.val d.toNat (x ^^^ y) ∧
    WritesV (.shli c w) s c.val d.toNat (x <<< (y.toNat % 32)) ∧
    WritesV (.shri c w) s c.val d.toNat (x >>> (y.toNat % 32)) ∧
    WritesV (.srai c w) s c.val d.toNat (x.sshiftRight (y.toNat % 32)) ∧
    WritesV (.muli c w) s c.val d.toNat (x * y) ∧
    WritesV (.mini c w) s c.val d.toNat (BitVec.ofInt 32 (min x.toInt y.toInt)) ∧
    WritesV (.maxi c w) s c.val d.toNat (BitVec.ofInt 32 (max x.toInt y.toInt)) ∧
    WritesV (.ldi c (d ++ 0#18 ++ y)) s c.val d.toNat y
  ) ∧ (
  ∀ (s : State) (c : Fin 16) (p : Nat) (d : BitVec 6), s.executes c.val p →
    (∀ a b : BitVec 6, d.toNat % 2 = 0 → a.toNat % 2 = 0 → b.toNat % 2 = 0 →
      let w : BitVec 56 := d ++ a ++ b ++ 0#38
      let pair := fun (z : BitVec 48) (c' : Instr) =>
        Answers c' s fun t =>
          t = { s with cores := t.cores } ∧ CoresBut s t [c.val] ∧
          t.qtz c.val = { (s.qtz c.val).fetched with v := (t.qtz c.val).v, pc := ((s.qtz c.val).pc + 1) % 2 ^ 21 } ∧
          t.vr c.val d.toNat = z.setWidth 32 ∧ t.vr c.val (d.toNat + 1) = (z >>> 32).setWidth 32 ∧
          ∀ k, k ≠ d.toNat → k ≠ d.toNat + 1 → t.vr c.val k = s.vr c.val k
      pair (s.vpair c.val a.toNat + s.vpair c.val b.toNat) (.addp c w) ∧
      pair (s.vpair c.val a.toNat - s.vpair c.val b.toNat) (.subp c w)) ∧
    (Answers (.rnd c (d ++ 0#50)) s fun t =>
      let x1 := (s.qtz c.val).rng ^^^ ((s.qtz c.val).rng <<< 13)
      let x2 := x1 ^^^ (x1 >>> 7)
      let x3 := x2 ^^^ (x2 <<< 17)
      t = { s with cores := t.cores } ∧ CoresBut s t [c.val] ∧
      t.qtz c.val = { (s.qtz c.val).fetched with v := (t.qtz c.val).v, rng := x3, pc := ((s.qtz c.val).pc + 1) % 2 ^ 21 } ∧
      t.vr c.val d.toNat = (x3 >>> 32).setWidth 32 ∧ ∀ k, k ≠ d.toNat → t.vr c.val k = s.vr c.val k) ∧
    WritesV (.movs c (d ++ 0#50)) s c.val d.toNat (BitVec.ofNat 32 (s.qtz c.val).shotNo) ∧
    WritesV (.movs c (d ++ 1#6 ++ 0#44)) s c.val d.toNat (BitVec.ofNat 32 (s.qtz c.val).attempt) ∧
    WritesV (.movs c (d ++ 2#6 ++ 0#44)) s c.val d.toNat (BitVec.ofNat 32 (s.qtz c.val).lastCause) ∧
    WritesV (.movs c (d ++ 3#6 ++ 0#44)) s c.val d.toNat (BitVec.ofNat 32 c.val) ∧
    WritesV (.movs c (d ++ 4#6 ++ 0#44)) s c.val d.toNat (BitVec.ofNat 32 p) ∧
    WritesV (.movs c (d ++ 5#6 ++ 0#44)) s c.val d.toNat
      (BitVec.ofNat 32 (if (s.qtz c.val).inShot then min ((s.qtz c.val).tl / 32 - (s.part p).attempt.s) (2 ^ 32 - 1) else 0))
  )

/-- 04 R112, R125, R139, R140: NOP, WAIT in both forms, where the cursor is a 64-bit tick count and a 5-bit sub-tick, and
HALT outside a shot with no core waiting for this one; each changes its own core only. 04 R136, R138: BR, and BRV with
each condition of the table and with ZERO; a taken branch pops loops as R138 says, and a reserved condition is ILLEGAL.
04 R137: LOOP with an immediate count, where 0 means 2^32, and with a register count, where 0 skips the body; ENDL
returns to the body start or pops the loop; and the faults LOOP_END and LOOP_OVF. 04 R138: CALL records the loop depth;
RET pops the loops opened since that CALL, and returns; a seventeenth CALL is CSTACK_OVF, a RET with no call active
CSTACK_UNF. -/
def Obligations.QuartzControlFlow : Prop :=
  (
  ∀ (s : State) (c : Fin 16) (p : Nat), s.executes c.val p →
    let q := (s.qtz c.val).fetched
    let pc' := (q.pc + 1) % 2 ^ 21
    SetsCore (.nop c 0#56) s c.val { q with pc := pc' } ∧
    (∀ (sub : BitVec 5) (ticks : Word),
      SetsCore (.wait c (0#11 ++ sub ++ ticks ++ 0#8)) s c.val
        { q with tl := wrapTl (q.tl + (32 * ticks.toNat + sub.toNat)), pc := pc' }) ∧
    (∀ a : BitVec 6, SetsCore (.wait c (a ++ 0#49 ++ 1#1)) s c.val
      { q with tl := wrapTl (q.tl + 32 * (s.vr c.val a.toNat).toNat), pc := pc' }) ∧
    (q.inShot = true → Faults (.halt c 0#56) s c.val 8) ∧
    (q.inShot = false → (∀ d ∈ s.cast p, (s.qtz d).atShot = false ∧ (s.qtz d).syncId = none) →
      SetsCore (.halt c 0#56) s c.val { q with st := .halted, stallFrom := s.now })
  ) ∧ (
  ∀ (s : State) (c : Fin 16) (p : Nat) (off : BitVec 24), s.executes c.val p →
    Branches (.br c (0#24 ++ off ++ 0#8)) s c.val off ∧
    ∀ (a b : BitVec 6) (cnd : BitVec 4) (zero : Bool),
      let i : Instr := .brv c (a ++ b ++ cnd ++ 0#8 ++ off ++ 0#7 ++ BitVec.ofBool zero)
      let x := s.vr c.val a.toNat
      let y := if zero then 0#32 else s.vr c.val b.toNat
      let go := fun holds : Prop =>
        (holds → Branches i s c.val off) ∧
        (¬ holds → SetsCore i s c.val { (s.qtz c.val).fetched with pc := ((s.qtz c.val).pc + 1) % 2 ^ 21 })
      (cnd = 0#4 → go (x = y)) ∧ (cnd = 1#4 → go (x ≠ y)) ∧
      (cnd = 2#4 → go (x.toInt < y.toInt)) ∧ (cnd = 3#4 → go (y.toInt ≤ x.toInt)) ∧
      (cnd = 4#4 → go (x.toNat < y.toNat)) ∧ (cnd = 5#4 → go (y.toNat ≤ x.toNat)) ∧
      (6 ≤ cnd.toNat → Faults i s c.val 5)
  ) ∧ (
  ∀ (s : State) (c : Fin 16) (p : Nat), s.executes c.val p →
    let q := (s.qtz c.val).fetched
    (∀ (body : BitVec 23) (cnt : Word) (reg : Bool), (reg = true → cnt.toNat < 64) →
      let i : Instr := .loop c (BitVec.ofBool reg ++ body ++ cnt)
      let n := if reg then (s.vr c.val cnt.toNat).toNat else if cnt = 0#32 then 2 ^ 32 else cnt.toNat
      let last := q.pc + body.toNat + 1
      (s.opcodeAt p last ≠ some 0x1D → Faults i s c.val 4) ∧
      (s.opcodeAt p last = some 0x1D → n = 0 → SetsCore i s c.val { q with pc := last + 1 }) ∧
      (s.opcodeAt p last = some 0x1D → n ≠ 0 → q.loops.length < 8 →
        SetsCore i s c.val { q with loops := { left := n, start := q.pc + 1, stop := last } :: q.loops,
                                    pc := (q.pc + 1) % 2 ^ 21 }) ∧
      (s.opcodeAt p last = some 0x1D → n ≠ 0 → 8 ≤ q.loops.length → Faults i s c.val 3)) ∧
    (q.loops = [] → Faults (.endl c 0#56) s c.val 4) ∧
    ∀ (f : LoopFrame) (l : List LoopFrame), q.loops = f :: l →
      (f.stop ≠ q.pc → Faults (.endl c 0#56) s c.val 4) ∧
      (f.stop = q.pc → 1 < f.left →
        SetsCore (.endl c 0#56) s c.val { q with loops := { f with left := f.left - 1 } :: l, pc := f.start }) ∧
      (f.stop = q.pc → f.left ≤ 1 → SetsCore (.endl c 0#56) s c.val { q with loops := l, pc := (q.pc + 1) % 2 ^ 21 })
  ) ∧ (
  ∀ (s : State) (c : Fin 16) (p : Nat) (off : BitVec 24), s.executes c.val p →
    let q := (s.qtz c.val).fetched
    let i : Instr := .call c (0#24 ++ off ++ 0#8)
    (q.calls.length < 16 → SetsCore i s c.val
      { q with calls := { ret := q.pc + 1, depth := q.loops.length } :: q.calls,
               pc := ((q.pc + off.toInt) % 2 ^ 21).toNat }) ∧
    (16 ≤ q.calls.length → Faults i s c.val 1) ∧
    (q.calls = [] → Faults (.ret c 0#56) s c.val 2) ∧
    ∀ (f : CallFrame) (l : List CallFrame), q.calls = f :: l → f.depth ≤ q.loops.length →
      ∃ opened kept, q.loops = opened ++ kept ∧ kept.length = f.depth ∧
        SetsCore (.ret c 0#56) s c.val { q with calls := l, loops := kept, pc := f.ret }
  )

/-- 04 R123, R127; 03 R80; 05 R177, R180: PLAY on a chain that ends and PLAYCW on a FOREVER chain, with every operand
immediate or from a register: one event at TL, and one pulse with its lane reservation. 03 R86, 04 R127: the stop form of
PLAYCW: one event at TL, and the tones of its frame and channel that started before it get an end of their reservation,
no other pulse. 02 R66, R67; 04 R128: SETF, SETPH and SHIFTPH from the pair V[A]:V[A+1] or the immediate in bits [47:16]:
one event at TL, and the frame as issued changes at once; no other frame does. -/
def Obligations.QuartzPulsesAndFrames : Prop :=
  (
  ∀ (s : State) (c : Fin 16) (p : Nat) (f : BitVec 10) (ch : BitVec 6) (obj g : BitVec 16) (fv wv gv : Bool) (o : Obj),
    s.executes c.val p → s.mayIssue c.val p 1 →
    (fv = true → f.toNat < 64) → (wv = true → obj.toNat < 64) → (gv = true → g.toNat < 64) →
    let w : BitVec 56 := f ++ ch ++ obj ++ g ++ 0#5 ++ BitVec.ofBool fv ++ BitVec.ofBool wv ++ BitVec.ofBool gv
    let F := if fv then (s.vr c.val f.toNat).toNat % 1024 else f.toNat
    let O := if wv then (s.vr c.val obj.toNat).toNat % 65536 else obj.toNat
    let G := if gv then (s.vr c.val g.toNat).setWidth 16 else g
    let tl := (s.qtz c.val).tl
    let last := o.maxlen.map fun m => rsvEnd tl m o.ratio
    s.frameOwn F = some p → s.ochUsable p ch.toNat = true → s.objUsable p O = true → s.obj O = some o →
    o.damaged = false → s.bit (OCH_STAT ch.toNat) 3 = false → s.laneFits ch.toNat (tl / 32 - 2) last = true →
    let plays := fun (i : Instr) (cw : Bool) => Answers i s fun t =>
      Issued s t c.val p (.play F O ch.toNat G cw) ∧ t.fab.wins = s.fab.wins ∧ t.issued = s.issued ∧
      t.slots = s.slots ∧ t.graphs = s.graphs ∧
      ∃ u, t.fab.pulses = s.fab.pulses ++ [u] ∧ u.id = s.fab.nextId ∧ u.part = p ∧ u.ch = ch.toNat ∧ u.frame = F ∧
        u.obj = O ∧ u.gain = G ∧ u.start = tl ∧ u.rsvFrom = tl / 32 - 2 ∧ u.rsvTo = last ∧ u.cw = cw
    (o.forever = false → plays (.play c w) false) ∧
    (o.forever = true → (s.part p).mode = .stream → plays (.playcw c w) true)
  ) ∧ (
  ∀ (s : State) (c : Fin 16) (p : Nat) (f : BitVec 10) (ch : BitVec 6) (fv : Bool),
    s.executes c.val p → s.mayIssue c.val p 1 → (fv = true → f.toNat < 64) → (s.part p).mode = .stream →
    let w : BitVec 56 := f ++ ch ++ 0#36 ++ 1#1 ++ BitVec.ofBool fv ++ 0#2
    let F := if fv then (s.vr c.val f.toNat).toNat % 1024 else f.toNat
    s.frameOwn F = some p → s.ochUsable p ch.toNat = true →
    Answers (.playcwStop c w) s fun t =>
      Issued s t c.val p (.stop F ch.toNat) ∧ t.fab.wins = s.fab.wins ∧ t.issued = s.issued ∧ t.geo = s.geo ∧
      t.slots = s.slots ∧ t.graphs = s.graphs ∧
      ∃ e : Pulse → Nat, t.fab.pulses = s.fab.pulses.map fun u =>
        if u.part = p ∧ u.frame = F ∧ u.ch = ch.toNat ∧ u.isOpen = true ∧ u.start < (s.qtz c.val).tl
        then { u with rsvTo := some (e u) } else u
  ) ∧ (
  ∀ (s : State) (c : Fin 16) (p : Nat) (f : BitVec 10) (a : BitVec 6) (imm : Word) (fv iv : Bool),
    s.executes c.val p → s.mayIssue c.val p 1 → (fv = true → f.toNat < 64) → (iv = false → a.toNat % 2 = 0) →
    let w : BitVec 56 := f ++ a ++ imm ++ 0#5 ++ BitVec.ofBool fv ++ 0#1 ++ BitVec.ofBool iv
    let F := if fv then (s.vr c.val f.toNat).toNat % 1024 else f.toNat
    let v : BitVec 48 := if iv then imm ++ 0#16 else s.vpair c.val a.toNat
    s.frameOwn F = some p →
    let writes := fun (i : Instr) (k : EvKind) (x : Frame) => Answers i s fun t =>
      Issued s t c.val p k ∧ t.fab.pulses = s.fab.pulses ∧ t.fab.wins = s.fab.wins ∧ t.geo = s.geo ∧
      t.slots = s.slots ∧ t.graphs = s.graphs ∧
      t.frameIssued F = x ∧ ∀ g, g ≠ F → t.frameIssued g = s.frameIssued g
    let x := s.frameIssued F
    (s.freqTarget F = false → writes (.setf c w) (.setf F v) { x with fw := v }) ∧
    writes (.setph c w) (.setph F v) { x with ph := v } ∧
    writes (.shiftph c w) (.shiftph F v) { x with ph := x.ph + v }
  )

/-- 04 R129; 06 R193, R194; 08 R248: MEAS with and without a probe, its operands immediate or from a register: a window
event and window at TL + WOFS of WLEN ticks, a binding at the end of the slot's queue, and the probe's event. 04 R123,
R134, R135: SETBIAS outside a shot issues one event at TL with its output and code; EMITV sends a user record with the
code, the tag and V[A] to V[A + N]: into the attempt in SHOT mode, into the ring's queue or the list of records held for
their TIME in STREAM mode. -/
def Obligations.QuartzMeasureBiasAndUser : Prop :=
  (
  ∀ (s : State) (c : Fin 16) (p : Nat) (n : BitVec 8) (i : BitVec 9) (dv sv : Bool) (d : Desc) (j : Job) (o : Obj),
    s.executes c.val p → s.mayIssue c.val p (if d.poch = 255 then 1 else 2) →
    (dv = true → n.toNat < 64) → (sv = true → i.toNat < 64) →
    let w : BitVec 56 := n ++ i ++ 0#37 ++ BitVec.ofBool dv ++ BitVec.ofBool sv
    let N := if dv then (s.vr c.val n.toNat).toNat % 256 else n.toNat
    let I := if sv then (s.vr c.val i.toNat).toNat % 512 else i.toNat
    let tl := (s.qtz c.val).tl
    (s.part p).job = some j → j.descs[N]? = some d → s.slotOwner I = some p → s.fld (DEC_SLOTCFG I) 5 4 = 0 →
    (s.slot I).queue.length < 4 → s.garnetFull p I = false → s.bit (ICH_STAT d.ich) 3 = false →
        (s.err (resource 5 d.mica)).retired = false →
    s.demodFits { s.mkWindow c.val p I d with id := s.fab.nextId + if d.poch = 255 then 0 else 1 } = true →
    (d.poch ≠ 255 → s.ochUsable p d.poch = true ∧ s.objUsable p d.pwave = true ∧ s.obj d.pwave = some o ∧
      o.forever = false ∧ o.damaged = false ∧ s.bit (OCH_STAT d.poch) 3 = false ∧
      s.laneFits d.poch (tl / 32 - 2) (o.maxlen.map fun m => rsvEnd tl m o.ratio) = true) →
    Answers (.meas c w) s fun t =>
      (∃ x : Window, t.fab.wins = s.fab.wins ++ [x] ∧ x.part = p ∧ x.core = c.val ∧ x.slot = I ∧ x.ich = d.ich ∧
        x.mica = d.mica ∧ x.dframe = d.dframe ∧ x.dec = d.dec ∧ x.ws = tl / 32 + d.wofs ∧ x.we = x.ws + d.wlen ∧
        (∃ e, e ∈ t.fab.events ∧ e.kind = .window x.id ∧ e.inst = tl ∧ e.part = p ∧ e.core = c.val) ∧
        (s.slot I).queue ++ [{ id := x.id, core := c.val }] <+: (t.slot I).queue) ∧
      (d.poch ≠ 255 → ∃ e, e ∈ t.fab.events ∧ e.kind = .play d.pframe d.pwave d.poch d.pgain false ∧ e.inst = tl) ∧
      (d.poch = 255 → t.fab.pulses = s.fab.pulses) ∧ (∀ e, e ∈ s.fab.events → e ∈ t.fab.events) ∧
      t.qtz c.val = { (s.qtz c.val).fetched with
        pc := ((s.qtz c.val).pc + 1) % 2 ^ 21, made := (t.qtz c.val).made, asked := none } ∧
      CoresBut s t [c.val] ∧ RegsBut s t (issueRegs c.val p) ∧
      t = { s with cores := t.cores, parts := t.parts, regs := t.regs, before := t.before, fab := t.fab, geo := t.geo,
                   slots := t.slots, graphs := t.graphs }
  ) ∧ (
  ∀ (s : State) (c : Fin 16) (p : Nat), s.executes c.val p →
    (∀ (n : BitVec 7) (v : BitVec 20) (bv vv : Bool), (bv = true → n.toNat < 64) → (vv = true → v.toNat < 64) →
      let w : BitVec 56 := n ++ 0#21 ++ v ++ 0#6 ++ BitVec.ofBool bv ++ BitVec.ofBool vv
      let N := if bv then (s.vr c.val n.toNat).toNat % 128 else n.toNat
      let V := if vv then (s.vr c.val v.toNat).setWidth 20 else v
      s.biasOwner N = some p →
      ((s.part p).mode = .shot → (s.qtz c.val).inShot = true → Faults (.setbias c w) s c.val 9) ∧
      (((s.part p).mode = .stream ∨ (s.qtz c.val).inShot = false) →
        (s.qtz c.val).tl / 32 ≤ s.now + s.fld (TIME_LOOKAHEAD p) 19 0 →
        (s.time.lost = false ∨ (s.part p).mode ≠ .stream) → s.canTake p 1 (s.begun c.val p &&
          s.inLine p ((s.qtz c.val).asked.getD s.now)) = true →
        Answers (.setbias c w) s fun t =>
          Issued s t c.val p (.setbias N V) ∧ t.fab.pulses = s.fab.pulses ∧ t.fab.wins = s.fab.wins ∧ t.geo = s.geo ∧
          t.issued = s.issued ∧ t.slots = s.slots ∧ t.graphs = s.graphs)) ∧
    ∀ (a : BitVec 6) (n : BitVec 2) (code : BitVec 16), a.toNat + n.toNat ≤ 63 →
      let i : Instr := .emitv c (a ++ n ++ 0#16 ++ code ++ 0#16)
      let x := fun k => if k ≤ n.toNat then (s.vr c.val (a.toNat + k)).toNat else 0
      let r := mkRec (b4 2 n.toNat code.toNat (code.toNat / 256))
        (if (s.qtz c.val).inShot then (s.qtz c.val).shotNo else 0) (s.cursorTag c.val p 0 1) (x 0) (x 1) (x 2) (x 3)
      let goes := fun t : State =>
        t.qtz c.val = { (s.qtz c.val).fetched with pc := ((s.qtz c.val).pc + 1) % 2 ^ 21 } ∧ CoresBut s t [c.val]
      ((s.part p).mode = .shot → (s.qtz c.val).inShot = true → Answers i s fun t =>
        goes t ∧ (t.part p).attempt.recs = (s.part p).attempt.recs ++ [r] ∧ RegsBut s t (recordRegs p) ∧
        t = { s with cores := t.cores, parts := t.parts, regs := t.regs }) ∧
      ((s.part p).mode = .stream → (s.qtz c.val).tl / 32 ≤ s.now → Answers i s fun t =>
        goes t ∧ t = { s.queueRec p r with cores := t.cores }) ∧
      ((s.part p).mode = .stream → s.now < (s.qtz c.val).tl / 32 → Answers i s fun t =>
        goes t ∧ t = { s with cores := t.cores, fab := { s.fab with
          users := s.fab.users ++ [(p, (s.qtz c.val).tl / 32, r)] } })
  )

/-- 04 R126: WAITUNTIL in both modes: shot-relative inside and outside a shot, with its stall while E is not known, and
the earliest aligned tick; E is that of the shot whose ENDSHOT the cores executed last; a reserved bit or encoding is
ILLEGAL. -/
def Obligations.QuartzWaitUntil : Prop :=
  ∀ (s : State) (c : Fin 16) (p : Nat), s.executes c.val p →
    (∀ w : BitVec 56, (w.extractLsb' 40 8 ≠ 0#8 ∨ w.extractLsb' 0 8 ≠ 0#8 ∨ 2 ≤ (w.extractLsb' 54 2).toNat ∨
      32 < (w.extractLsb' 48 6).toNat) → Faults (.waituntil c w) s c.val 5) ∧
    ∀ (k : BitVec 6) (T : Word), k.toNat ≤ 32 →
    let q := (s.qtz c.val).fetched
    let a := (s.part p).attempt
    let pc' := (q.pc + 1) % 2 ^ 21
    let w0 : BitVec 56 := 0#2 ++ k ++ 0#8 ++ T ++ 0#8
    let upTo := fun x : Nat => SetsCore (.waituntil c w0) s c.val { q with tl := max q.tl (wrapTl (32 * (x + T.toNat))), pc := pc' }
    (q.inShot = true → upTo a.s) ∧
    (q.inShot = false → a.active = true → a.e = none → (s.part p).probe = none →
      Answers (.waituntil c w0) s fun t => CoresBut s t [c.val] ∧ t = { s with cores := t.cores } ∧
        (t.qtz c.val).st = .stallShot ∧ (t.qtz c.val).tl = q.tl ∧ (t.qtz c.val).pc = q.pc ∧
        (t.qtz c.val).held = some (0x03#8 ++ w0)) ∧
    (∀ e, q.inShot = false → (a.active = false ∨ a.e ≠ none ∨ (s.part p).probe ≠ none) → (s.part p).shotE = some e → upTo e) ∧
    (∀ j, q.inShot = false → (a.active = false ∨ a.e ≠ none ∨ (s.part p).probe ≠ none) → (s.part p).shotE = none →
      (s.part p).job = some j → upTo j.startTick) ∧
    ∃ x, q.tl ≤ 32 * x ∧ x % 2 ^ k.toNat = T.toNat % 2 ^ k.toNat ∧
      (∀ y, q.tl ≤ 32 * y → y % 2 ^ k.toNat = T.toNat % 2 ^ k.toNat → x ≤ y) ∧
      SetsCore (.waituntil c (1#2 ++ k ++ 0#8 ++ T ++ 0#8)) s c.val { q with tl := wrapTl (32 * x), pc := pc' }

/-- 01 R37; 04 R150, R151: BRD on a result that is valid, on none (then the slot's value at the shot's start, or the
value of a STREAM slot), and on a pending one, which stalls; and BRD_RESUME, no earlier than six ticks after the commit.
04 R117; 05 R181: the end of a stall runs the stalled instruction at the state in which its core runs again and its stall
is counted; before the condition of its end holds, nothing happens. 04 R118, R158: the line that a core waits for comes,
and the core runs again with it as its latest; else the load of its first 256 KiB is done; CORE_RESET of a core whose
partition is in HOLD clears all of it, and CNTCLR clears its counters but for what this tick counted (18 R502), SLACKMIN
to the largest value, and nothing else. -/
def Obligations.QuartzResultsAndStalls : Prop :=
  (
  ∀ (s : State) (c : Fin 16) (p : Nat), (s.executes c.val p →
    ∀ (i : BitVec 9) (mask : BitVec 4) (off : BitVec 24) (sv : Bool), (sv = true → i.toNat < 64) →
    let q := (s.qtz c.val).fetched
    let w : Instr := .brd c (i ++ mask ++ 0#11 ++ off ++ 0#7 ++ BitVec.ofBool sv)
    let I := if sv then (s.vr c.val i.toNat).toNat % 512 else i.toNat
    let there := (((q.pc : Int) + off.toInt) % 2 ^ 21).toNat
    s.slotOwner I = some p →
    (∀ b st t, s.brdBinding c.val p I = some b → s.bindingState I b = some (st, t) → st < 4 →
      let q' := { q with tl := max q.tl (32 * (t + 66)), st := .running, brd := none, held := none }
      SetsCore w s c.val (if mask.getLsbD st then q'.branch there else q'.next)) ∧
    (s.brdBinding c.val p I = none →
      let atS := look (fun _ => {}) (s.part p).ckpt.slots I
      let x := if (s.part p).mode = .shot then atS.value else (s.slot I).value
      SetsCore w s c.val (if mask.getLsbD x.state.toNat then q.branch there else q.next)) ∧
    (∀ b, s.brdBinding c.val p I = some b → s.bindingState I b = none →
      Answers w s fun t => CoresBut s t [c.val] ∧
        t.qtz c.val = { q with st := .stallBrd, stallFrom := s.now,
                               brd := some { slot := I, binding := b, mask := mask, offset := off.toNat } } ∧
        t = { s with cores := t.cores, geo := t.geo, parts := t.parts, regs := t.regs } ∧
        RegsBut s t (issueRegs c.val p))) ∧
    ∀ (b : BrdWait) (st t : Nat), (s.qtz c.val).brd = some b → s.bindingState b.slot b.binding = some (st, t) →
      (s.now < t + 6 → exec (.brdResume c) s = .next s) ∧
      ((s.qtz c.val).st = .stallBrd → t + 6 ≤ s.now →
        Answers (.brdResume c) s fun u =>
          u.qtz c.val = (s.qtz c.val).brdDone b.mask.toNat b.offset.toNat st t ∧ CoresBut s u [c.val] ∧
          u.regN (QTZ_STALL_BRD c.val) = min (s.regN (QTZ_STALL_BRD c.val) + (s.now - (s.qtz c.val).stallFrom)) (2 ^ 32 - 1) ∧
          RegsBut s u [QTZ_STALL_BRD c.val] ∧ u = { s with cores := u.cores, regs := u.regs, geo := u.geo })
  ) ∧ (
  ∀ (s : State) (c : Fin 16) (p : Nat) (w : BitVec 56) (op : BitVec 8), s.qtzOwner c.val = some p →
    (s.qtz c.val).held = some (op ++ w) →
    let free := s.updQtz c.val fun q => { q with st := .running, held := none }
    let t := s.now - (s.qtz c.val).stallFrom
    let counted := free.setN (QTZ_STALL_LA c.val) (min (s.regN (QTZ_STALL_LA c.val) + t) (2 ^ 32 - 1))
    let within := (s.qtz c.val).tl / 32 ≤ s.now + s.fld (TIME_LOOKAHEAD p) 19 0 ∧
      (s.time.lost = false ∨ (s.part p).mode ≠ .stream)
    let runs := fun i j : Instr =>
      ((s.qtz c.val).st = .stallLa → within → exec (.lookaheadStallEnd c) s = exec i counted) ∧
      ((s.qtz c.val).st = .stallLa → ¬ within → exec (.lookaheadStallEnd c) s = .next s) ∧
      ((s.qtz c.val).st = .stallSched → s.now + 58 ≤ (s.qtz c.val).tl / 32 → exec (.schedStallEnd c) s = exec j free)
    (op = 0x08#8 → runs (.play c w) (.play c w)) ∧ (op = 0x09#8 → runs (.playcw c w) (.playcw c w)) ∧
    (op = 0x0C#8 → runs (.setf c w) (.setf c w)) ∧ (op = 0x0D#8 → runs (.setph c w) (.setph c w)) ∧
    (op = 0x0E#8 → runs (.shiftph c w) (.shiftph c w)) ∧ (op = 0x10#8 → runs (.meas c w) (.meas c w)) ∧
    (op = 0x28#8 → runs (.setbias c w) (.setbias c w)) ∧
    ((s.qtz c.val).st = .stallSched → (s.qtz c.val).tl / 32 < s.now + 58 → (s.part p).mode = .shot →
      (s.part p).attempt.active = true → Answers (.schedStallEnd c) s fun u =>
        (∃ x ∈ (u.part p).attempt.taints, x.cause = 11 ∧ x.tick = s.now) ∧
        u.qtz c.val = { s.qtz c.val with st := .running, held := none, asked := none, pc := ((s.qtz c.val).pc + 1) % 2 ^ 21 } ∧
        CoresBut s u [c.val] ∧ RegsBut s u (recordRegs p) ∧
        u = { s with cores := u.cores, parts := u.parts, regs := u.regs })
  ) ∧ (
  ∀ (s : State) (c : Fin 16),
    ((s.qtzOwner c.val = none ∨ ((s.qtz c.val).st ≠ .stallFetch ∧ (s.qtz c.val).loading = false)) →
      exec (.icacheMissFill c true) s = .next s) ∧
    (∀ p, s.qtzOwner c.val = some p → (s.qtz c.val).st = .stallFetch →
      Answers (.icacheMissFill c true) s fun t =>
        t.qtz c.val = { s.qtz c.val with st := .running, held := none, lines := (t.qtz c.val).lines } ∧
        (t.qtz c.val).lines.head? = some ((s.qtz c.val).pc / 16) ∧ (t.qtz c.val).cached = true ∧
        (∀ l ∈ (s.qtz c.val).lines.take 2047, l ∈ (t.qtz c.val).lines) ∧
        CoresBut s t [c.val] ∧ t = { s with cores := t.cores }) ∧
    (∀ p, s.qtzOwner c.val = some p → (s.qtz c.val).st ≠ .stallFetch → (s.qtz c.val).loading = true →
      SetsCore (.icacheMissFill c true) s c.val { s.qtz c.val with loading := false }) ∧
    (s.opened → c.val < s.nQtz →
      let ctrs := [QTZ_LATECNT c.val, QTZ_ICMISS c.val, QTZ_STALL_LA c.val, QTZ_STALL_BRD c.val, QTZ_STALL_SYNC c.val]
      (Answers (.qtzCntclr c) s fun t =>
        (∀ a ∈ ctrs, t.regN a = s.regN a - s.beforeN a) ∧ t.regN (QTZ_SLACKMIN c.val) = 0x7FFFFF ∧
        RegsBut s t (QTZ_SLACKMIN c.val :: ctrs) ∧ t = { s with regs := t.regs, before := t.before }) ∧
      ((∀ p, s.qtzOwner c.val = some p → (s.part p).mode = .hold) → Answers (.qtzCoreReset c) s fun t =>
        t.qtz c.val = {} ∧ CoresBut s t [c.val] ∧ (∀ a ∈ ctrs, t.regN a = s.regN a - s.beforeN a) ∧
        t.regN (QTZ_SLACKMIN c.val) = 0x7FFFFF ∧ t.regN (QTZ_FAULT c.val) = 0 ∧ t.bit (QTZ_STAT c.val) 14 = false ∧
        (∀ i, i < 32 → i ≠ 14 → t.bit (QTZ_STAT c.val) i = s.bit (QTZ_STAT c.val) i) ∧
        RegsBut s t (QTZ_FAULT c.val :: QTZ_STAT c.val :: QTZ_SLACKMIN c.val :: ctrs) ∧
        t = { s with cores := t.cores, regs := t.regs, before := t.before }))
  )

/-- 04 R143, R146; 09 R290: SHOT stalls its core, and once every core waits and nothing holds the shot, it starts at the
earliest whole tick S that R143 allows: every cursor becomes S, the attempt is active from S with its number, and the
checkpoint is taken. 04 R141, R142, R145: ENDSHOT ends the core's part of the attempt; once every core has ended, E is
the least whole tick that no cursor exceeds. In STREAM mode it is the fault MODE, outside a shot SHOT_NEST. 04 R154,
R156: SYNC stalls its core. A barrier is known by how many its cores have passed; four ticks after its last participant
has arrived, every core that still waits takes the largest TL presented and goes on. One that times out inside a shot
goes on alone, with the largest TL that has arrived, tainted with LINK, and still counts as arrived; outside a shot it is
the fault SYNC_TIMEOUT. -/
def Obligations.QuartzShots : Prop :=
  (
  ∀ (s : State) (c : Fin 16) (p : Fin 8) (reset : BitVec 24),
    (s.executes c.val p.val → (s.part p.val).mode = .shot → (s.qtz c.val).inShot = false →
      (∀ d ∈ s.cast p.val, d ≠ c.val → (s.qtz d).st ≠ .halted) →
      Answers (.shot c (reset ++ 0#32)) s fun t =>
        t.qtz c.val = { (s.qtz c.val).fetched with atShot := true, shotReset := reset.toNat, st := .stallShot, stallFrom := s.now } ∧
        CoresBut s t [c.val] ∧ RegsBut s t (issueRegs c.val p.val) ∧
        t = { s with cores := t.cores, parts := t.parts, regs := t.regs, geo := t.geo }) ∧
    (s.atBarrier p.val = true → s.shotHolds p.val = [] → s.codeLoads p.val = false → s.time.lost = false →
        (s.part p.val).holdReq = none →
      s.spanOf p.val = none →
      let allowed := fun S : Nat => (∀ d ∈ s.cast p.val, (s.qtz d).tl ≤ 32 * S) ∧
        (∀ e, (s.part p.val).prevE = some e → e + s.shotReset p.val ≤ S) ∧
        (∀ j, (s.part p.val).prevE = none → (s.part p.val).job = some j → j.startTick + s.shotReset p.val ≤ S) ∧
        (∀ d l, s.cast p.val = d :: l → s.now + s.fld (QTZ_CFG d) 31 16 ≤ S)
      ∃ S, allowed S ∧ (∀ x, allowed x → S ≤ x) ∧
        (Answers (.shotStart p) s fun t =>
          let a := (t.part p.val).attempt
          let was := (s.part p.val).attempt
          a.active = true ∧ a.s = S ∧ a.e = none ∧
          ((s.part p.val).replay = true → a.shotNo = was.shotNo ∧ a.num = was.num + 1 ∧
            (t.part p.val).shotNext = (s.part p.val).shotNext) ∧
          ((s.part p.val).replay = false → a.shotNo = (s.part p.val).shotNext ∧ a.num = 0 ∧
            (t.part p.val).shotNext = (s.part p.val).shotNext + 1) ∧
          (t.part p.val).ckpt.valid = true ∧ (t.part p.val).mode = .shot ∧
          (∀ d ∈ s.cast p.val, (t.qtz d).tl = 32 * S ∧ (t.qtz d).inShot = true ∧ (t.qtz d).st = .running ∧
            (t.qtz d).atShot = false ∧ (t.qtz d).pc = (s.qtz d).pc + 1 ∧ (t.qtz d).v = (s.qtz d).v) ∧
          CoresBut s t (s.cast p.val) ∧
          t = { s with cores := t.cores, parts := t.parts, regs := t.regs, fab := t.fab, geo := t.geo, issued := t.issued,
                       frames := t.frames, slots := t.slots, loops := t.loops }))
  ) ∧ (
  ∀ (s : State) (c : Fin 16) (p : Nat), s.executes c.val p →
    let q := (s.qtz c.val).fetched
    let q' := { q with pc := (q.pc + 1) % 2 ^ 21, inShot := false, ended := true, endTl := q.tl, endPc := some (q.pc + 1) }
    ((s.part p).mode = .stream → Faults (.endshot c 0#56) s c.val 9) ∧
    ((s.part p).mode = .shot → q.inShot = false → Faults (.endshot c 0#56) s c.val 8) ∧
    ((s.part p).mode = .shot → q.inShot = true → s.endshotAt p q.shotPc = some q.pc →
      q.loops.length = q.shotLoops → q.calls.length = q.shotCalls → q.part = true →
      ((∃ d ∈ s.cast p, d ≠ c.val ∧ (s.qtz d).ended = false) → SetsCore (.endshot c 0#56) s c.val q') ∧
      ((∀ d ∈ s.cast p, d ≠ c.val → (s.qtz d).ended = true ∧ (s.qtz d).st ≠ .stallShot) →
        ∃ e, (∀ d ∈ s.cast p, (if d = c.val then q.tl else (s.qtz d).endTl) ≤ 32 * e) ∧
          (∀ e', (∀ d ∈ s.cast p, (if d = c.val then q.tl else (s.qtz d).endTl) ≤ 32 * e') → e ≤ e') ∧
          Answers (.endshot c 0#56) s fun t =>
            t.qtz c.val = q' ∧ CoresBut s t [c.val] ∧ PartsBut s t [p] ∧
            t.part p = { s.part p with attempt := { (s.part p).attempt with e := some e }, shotE := some e } ∧
            t = { s with cores := t.cores, parts := t.parts }))
  ) ∧ (
  ∀ (s : State) (c : Fin 16) (p : Fin 8) (id : BitVec 8),
    (s.executes c.val p.val → (∀ d ∈ s.cast p.val, d ≠ c.val → (s.qtz d).st ≠ .halted ∧ (s.qtz d).syncSpan = false ∧
        ∀ x, (s.qtz d).arrived (s.qtz c.val).passed = some x → x.1 = id.toNat) →
      SetsCore (.sync c (id ++ 0#48)) s c.val { (s.qtz c.val).fetched with
        syncId := some id.toNat, syncSpan := false, syncAt := s.now, st := .stallSync, stallFrom := s.now }) ∧
    (∀ k, s.waitAt p.val k ≠ [] → (∀ d ∈ s.cast p.val, (s.qtz d).syncId ≠ none → k ≤ (s.qtz d).passed) →
      s.spanAt p.val k = false →
      (((∃ d ∈ s.cast p.val, (s.qtz d).arrived k = none) ∨ ∃ d ∈ s.waitAt p.val k, s.now < (s.qtz d).syncAt + 4) →
        exec (.syncComplete p) s = .next s) ∧
      ((∀ d ∈ s.cast p.val, (s.qtz d).arrived k ≠ none) → (∀ d ∈ s.waitAt p.val k, (s.qtz d).syncAt + 4 ≤ s.now) →
        ∃ m, (∃ x ∈ s.arrivals p.val k, x.2 = m) ∧ (∀ x ∈ s.arrivals p.val k, x.2 ≤ m) ∧
          Answers (.syncComplete p) s fun t =>
            (∀ d ∈ s.waitAt p.val k, t.qtz d = { s.qtz d with
              tl := m, st := .running, syncId := none, passed := (s.qtz d).passed + 1
              left := (s.qtz d).left.filter (·.1 != k), pc := ((s.qtz d).pc + 1) % 2 ^ 21 }) ∧
            (∀ d ∈ s.cast p.val, d ∉ s.waitAt p.val k →
              t.qtz d = { s.qtz d with left := (s.qtz d).left.filter (·.1 != k) }) ∧
            CoresBut s t (s.cast p.val) ∧ RegsBut s t ((s.waitAt p.val k).map QTZ_STALL_SYNC) ∧
            t = { s with cores := t.cores, regs := t.regs })) ∧
    (c.val < s.nQtz → s.qtzOwner c.val = some p.val → (s.qtz c.val).syncId ≠ none →
      let q := s.qtz c.val
      s.spanAt p.val q.passed = false →
      (s.now < q.syncAt + s.fld (QTZ_SYNCTMO c.val) 19 0 → exec (.syncTimeout c) s = .next s) ∧
      (q.syncAt + s.fld (QTZ_SYNCTMO c.val) 19 0 ≤ s.now →
        (q.inShot = false → exec (.syncTimeout c) s = answer s (s.coreFault c.val 0x0D)) ∧
        (q.inShot = true → q.part = true → (s.part p.val).mode = .shot → (s.part p.val).attempt.active = true →
          ∃ m, (∃ x ∈ s.arrivals p.val q.passed, x.2 = m) ∧ (∀ x ∈ s.arrivals p.val q.passed, x.2 ≤ m) ∧
            Answers (.syncTimeout c) s fun t =>
              t.qtz c.val = { q with
                tl := m, st := .running, syncId := none, passed := q.passed + 1, left := (t.qtz c.val).left
                pc := (q.pc + 1) % 2 ^ 21 } ∧
              ((∃ d ∈ s.cast p.val, d ≠ c.val ∧ ((s.qtz d).arrived q.passed = none ∨ d ∈ s.waitAt p.val q.passed)) →
                (∃ i, q.syncId = some i ∧ (t.qtz c.val).left = (q.passed, i, q.tl) :: q.left) ∧ CoresBut s t [c.val]) ∧
              (∃ x ∈ (t.part p.val).attempt.taints, x.cause = 3 ∧ x.tick = s.now) ∧ (t.part p.val).mode = .shot ∧
              CoresBut s t (s.cast p.val) ∧ RegsBut s t (QTZ_STALL_SYNC c.val :: recordRegs p.val) ∧
              t = { s with cores := t.cores, parts := t.parts, regs := t.regs })))
  )

/-- 05 R182: a port is offered its earliest held event, none before TIME - 256, also while REF_LOST holds; it arrives 10
ticks later, and one that leaves with less than 58 ticks of slack is counted in DLATE. 01 R21, R22, R24; 03 R530: events
of one port arrive in the order in which they were sent; one that arrives at least 48 ticks before TIME is held at its
tile; a later one is late: it is freed and not applied, and in SHOT mode it taints its attempt with LATE, or LINK after a
link replay; a mute is never late: one that arrives later than that takes the first tick boundary after its arrival. 01
R22; 03 R86; 05 R179: release at TIME - 38 sets a pulse playing, or marks the tones that a stop ends; at TIME - 2 a pulse
takes the lowest lane that is not retired and that no other pulse holds. -/
def Obligations.EventsReachTheirTile : Prop :=
  (
  ∀ (s : State) (q : Fin 18) (e : Event), s.portNext q.val = some e →
    (e ∈ s.fab.events ∧ e.stage = .held ∧ s.portOf e = q.val ∧
      ∀ x ∈ s.fab.events, x.stage = .held → s.portOf x = q.val → e.inst < x.inst ∨ (e.inst = x.inst ∧ e.id ≤ x.id)) ∧
    (s.now + 256 < e.tick → exec (.eventDispatch q) s = .next s) ∧
    (e.tick ≤ s.now + 256 →
      (∀ x ∈ s.fab.events, s.portOf x = q.val → x.stage ≠ .transit (s.now + 10)) →
      let sent := s.updEvent e.id fun x => { x with stage := .transit (s.now + 10) }
      (s.now + 58 ≤ e.tick ∨ e.isMute = true → exec (.eventDispatch q) s = .next sent) ∧
      (e.tick < s.now + 58 → e.isMute = false → exec (.eventDispatch q) s =
        .next (sent.setN (SCHED_DLATE e.part) (min (s.regN (SCHED_DLATE e.part) + 1) (2 ^ 32 - 1)))))
  ) ∧ (
  ∀ (s : State) (id a : Nat) (link : Bool) (e : Event), s.event id = some e → e.stage = .transit a →
    (∀ w, e.kind ≠ .window w) → (∀ n v, e.kind ≠ .setbias n v) →
    (s.now < a ∨ (∃ x ∈ s.fab.events, s.portOf x = s.portOf e ∧ ∃ b, x.stage = .transit b ∧ b < a) →
      exec (.eventArrive id link) s = .next s) ∧
    (s.inOrder e a = true → a ≤ s.now → e.isMute = false → s.now + 48 ≤ e.tick →
      exec (.eventArrive id link) s = .next (s.updEvent id fun x => { x with stage := .tile, link := link })) ∧
    (s.inOrder e a = true → a ≤ s.now → e.isMute = true →
      let b := if e.tick < s.now + 48 then s.now + 1 else e.tick
      exec (.eventArrive id link) s = .next (s.updEvent id fun x => { x with stage := .tile, inst := 32 * b })) ∧
    (s.inOrder e a = true → a ≤ s.now → e.isMute = false → e.tick < s.now + 48 →
      Answers (.eventArrive id link) s fun t =>
        (∀ x ∈ t.fab.events, x.id ≠ id) ∧ (∀ x ∈ s.fab.events, x.id ≠ id → x ∈ t.fab.events) ∧
        ((s.part e.part).mode = .shot → (s.part e.part).attempt.active = true →
          ∃ x ∈ (t.part e.part).attempt.taints, x.cause = (if link then 3 else 1) ∧ x.tick = s.now) ∧
        RegsBut s t (recordRegs e.part) ∧
        t = { s with fab := t.fab, geo := t.geo, parts := t.parts, regs := t.regs })
  ) ∧ (
  ∀ (s : State) (id : Nat),
    (∀ e, s.event id = some e → e.stage = .tile → e.tick ≤ s.now + 38 →
      let gone := s.updEvent id fun x => { x with stage := .released }
      (∀ f o ch g cw, e.kind = .play f o ch g cw →
        exec (.eventRelease id) s = .next (gone.updPulse id fun u => { u with playing := true })) ∧
      (∀ f ch, e.kind = .stop f ch → Answers (.eventRelease id) s fun t =>
        t = { gone with fab := { gone.fab with pulses := t.fab.pulses } } ∧
        t.fab.pulses = s.fab.pulses.map fun u =>
          if u.part = e.part ∧ u.frame = f ∧ u.ch = ch ∧ u.isOpen = true ∧ u.start < e.inst
          then { u with stopAt := some (min (u.stopAt.getD e.inst) e.inst) } else u) ∧
      (∀ f v, e.kind = .setf f v ∨ e.kind = .setph f v ∨ e.kind = .shiftph f v →
        exec (.eventRelease id) s = .next gone)) ∧
    (∀ e, s.event id = some e → s.now + 38 < e.tick → exec (.eventRelease id) s = .next s) ∧
    (∀ u l, s.pulse id = some u → u.lane = none → u.done = false → u.playing = true → u.start / 32 ≤ s.now + 2 →
      l < s.tones u.ch → l ∉ s.lanesBusy u.ch id s.now → s.toneRetired u.ch l = false →
      (∀ m < l, m ∈ s.lanesBusy u.ch id s.now ∨ s.toneRetired u.ch m = true) → u.id = id →
      exec (.laneBind id) s = .next (s.updPulse id fun x => { x with lane := some l }))
  )

/-- 01 R23; 02 R51; 03 R105 to R107: the first pulse start after a mute unmutes a MUTED channel with B = TIME - 4, not
while the reference is lost; a scheduled mute applies at its boundary, after the frame writes of that instant, mutes a
DRIVEN channel and ends its tones; no other register changes. 01 R23; 02 R66; 06 R199, R203, R204: of the writes to a
frame that wait, the first in instant, then a program's before the device's, then as issued, applies at its instant: it
sets FW, sets PH or adds to PH, changes no other frame, and marks the windows on the frame from the first whole tick on.
A program's write in conflict with a window is not applied, taints the attempt with PROGRAM in SHOT mode, and counts at
each window's channel; in STREAM mode it is applied where it was accepted before every window that it meets. A device's
write never conflicts: it is deferred while the frame is protected, and the deferred ones apply in order once it is free. -/
def Obligations.ChannelsAndFrames : Prop :=
  (
  ∀ (s : State),
    (∀ n : Fin 64, s.time.lost = true → exec (.unmute n) s = .next s) ∧
    (∀ (n : Fin 64) (u : Pulse), s.time.lost = false → s.ochState n.val = 1 → s.unmuter n.val = some u →
      Answers (.unmute n) s fun t =>
        u ∈ s.fab.pulses ∧ u.ch = n.val ∧ u.start / 32 ≤ s.now + 4 ∧
        t.ochState n.val = 2 ∧ t.fld (OCH_STAT n.val) 31 3 = s.fld (OCH_STAT n.val) 31 3 ∧
        (t.chan n.val).edge = some (u.start / 32 - 4, true) ∧ (∀ m, m ≠ n.val → t.chan m = s.chan m) ∧
        RegsBut s t [OCH_STAT n.val] ∧ t = { s with regs := t.regs, fab := { s.fab with chans := t.fab.chans } }) ∧
    ∀ (id n : Nat) (e : Event), s.event id = some e → e.kind = .mute n → e.stage = .tile →
      (s.now < e.tick ∨ s.writesWait e.inst = true → exec (.muteApply id) s = .next s) ∧
      (e.tick ≤ s.now → s.writesWait e.inst = false → Answers (.muteApply id) s fun t =>
        (s.ochState n = 2 → t.ochState n = 1 ∧ (t.chan n).edge = some (e.tick, false)) ∧
        (s.ochState n ≠ 2 → t.ochState n = s.ochState n ∧ t.chan n = s.chan n) ∧
        (∀ u ∈ t.fab.pulses, u.ch = n → u.cw = true → u.done = true) ∧
        (∀ x ∈ t.fab.events, x.id ≠ id) ∧ (∀ m, m ≠ n → t.chan m = s.chan m) ∧ RegsBut s t [OCH_STAT n] ∧
        t = { s with regs := t.regs, fab := t.fab, geo := t.geo })
  ) ∧ (
  ∀ (s : State) (id f : Nat),
    (∀ (e x : Event) (l : List Event), s.event id = some e → e.kind.frameWritten = some f → e.atTile = true →
      s.frameQueue f e.inst = x :: l →
      (s.now < e.tick ∨ x.id ≠ id → exec (.frameWriteApply id) s = .next s) ∧
      (e.tick ≤ s.now → x.id = id → e.id = id →
        let free := s.conflicts f e.inst = []
        let frees := fun t : State => (∀ y ∈ t.fab.events, y.id ≠ id) ∧ ∀ y ∈ s.fab.events, y.id ≠ id → y ∈ t.fab.events
        let gives := fun (x : Frame) (t : State) => t.frame f = x ∧ (∀ g, g ≠ f → t.frame g = s.frame g) ∧ frees t ∧
          t.fab.wins = s.fab.wins.map (fun w => if w.dframe = f then { w with marks := w.marks ++ [(e.inst + 31) / 32] } else w)
        let y := s.frame f
        let after := fun k : EvKind => match k with
          | .setf _ v => { y with fw := v }
          | .setph _ v => { y with ph := v }
          | .shiftph _ v => { y with ph := y.ph + v }
          | _ => y
        (e.device = false → free → Answers (.frameWriteApply id) s fun t =>
          gives (after e.kind) t ∧ t = { s with frames := t.frames, fab := t.fab }) ∧
        (e.device = false → ¬ free → (s.part e.part).mode = .shot → (s.part e.part).attempt.active = true →
          Answers (.frameWriteApply id) s fun t =>
            t.frames = s.frames ∧ frees t ∧ (∃ x ∈ (t.part e.part).attempt.taints, x.cause = 9 ∧ x.tick = s.now) ∧
            (∀ w ∈ s.conflicts f e.inst, t.fld (ICH_REFUSE w.ich) 31 16 = min (s.fld (ICH_REFUSE w.ich) 31 16 + 1) 65535 ∧
              t.fld (ICH_REFUSE w.ich) 15 0 = s.fld (ICH_REFUSE w.ich) 15 0) ∧
            RegsBut s t ((s.conflicts f e.inst).map (fun w => ICH_REFUSE w.ich) ++ recordRegs e.part) ∧
            t = { s with fab := { s.fab with events := t.fab.events }, parts := t.parts, regs := t.regs }) ∧
        (e.device = false → (s.part e.part).mode = .stream → (∀ w ∈ s.conflicts f e.inst, id < w.id) →
          Answers (.frameWriteApply id) s (gives (after e.kind))) ∧
        (∀ v, e.device = true → e.kind = .setf f v → free → Answers (.frameWriteApply id) s (gives { y with fw := v })) ∧
        (∀ v, e.device = true → e.kind = .setf f v → ¬ free → Answers (.frameWriteApply id) s fun t =>
          frees t ∧ t.frames = s.frames ∧ t.fab.deferred = s.fab.deferred ++ [(f, v, true, e.part, 0xF3)] ∧
          t = { s with fab := t.fab }))) ∧
    ∀ g : Fin 1024, (s.fab.deferred.filter fun d => d.1 == g.val) ≠ [] →
      (s.conflicts g.val (32 * s.now) ≠ [] → exec (.deferredFrameWrite g) s = .next s) ∧
      (s.conflicts g.val (32 * s.now) = [] → Answers (.deferredFrameWrite g) s fun t =>
        t.frame g.val = (s.fab.deferred.filter fun d => d.1 == g.val).foldl
          (fun x d => if d.2.2.1 then { x with fw := d.2.1 } else { x with ph := x.ph + d.2.1 }) (s.frame g.val) ∧
        (∀ h, h ≠ g.val → t.frame h = s.frame h) ∧
        t.fab.deferred = s.fab.deferred.filter (fun d => d.1 != g.val) ∧
        t = { s with frames := t.frames, fab := t.fab, parts := t.parts, regs := t.regs, loops := t.loops })
  )

/-- 03 R92, R101; 05 R169, R172: a due granule plays, with its page resident, and the next one follows it; without its
page the pulse of a shot outputs zeros to its end, counts an underrun and taints the attempt; where a code of the next
samples, up to 8 ticks ahead, lies beyond PEAK, the pulses that play at such a sample are marked, or with ACTION trip the
channel mutes and its owner goes into HOLD. 03 R92 to R97: a fresh result registers a jump request in a pass of a jump
segment; at the end of a pass the segment repeats, the next one follows, the chain ends, or a registered jump takes
effect and is counted; a stop ends the tone there, and a request of its last pass is missed, which counts as MISSED, and
as LATE too where it came late (the model's choice, log 118). -/
def Obligations.PulsesPlay : Prop :=
  (
  (∀ (s : State) (id : Nat) (u : Pulse) (o : Obj), s.pulse id = some u → u.id = id → s.obj u.obj = some o →
    u.part < 8 → u.ch < 64 → u.playing = true → u.done = false → u.gran < (o.seg u.seg).len →
    (s.now < u.due o → exec (.granuleDue id) s = .next s) ∧
    (u.due o ≤ s.now → (o.limit = 0 ∨ u.played < o.limit) →
      (s.resident u.obj (o.pageOf u.seg u.gran) = true → Answers (.granuleDue id) s fun t =>
        (∃ v, t.pulse id = some v ∧ v.gran = u.gran + 1 ∧ v.played = u.played + 1 ∧ v.zeroed = false ∧ v.seg = u.seg ∧
          v.pass = u.pass ∧ v.done = false) ∧
        t = { s with fab := t.fab, geo := t.geo, parts := t.parts, regs := t.regs }) ∧
      (s.resident u.obj (o.pageOf u.seg u.gran) = false → s.quotaWaits u.obj (o.pageOf u.seg u.gran) = false →
        u.zeroed = false → (s.part u.part).mode = .shot → (s.part u.part).attempt.active = true →
        Answers (.granuleDue id) s fun t =>
          (∃ v, t.pulse id = some v ∧ v.done = true ∧ v.zeroed = true) ∧
          t.regN (GEODE_UNDERRUN u.part) = min (s.regN (GEODE_UNDERRUN u.part) + 1) (2 ^ 32 - 1) ∧
          (∃ x ∈ (t.part u.part).attempt.taints, x.cause = 2 ∧ x.tick = s.now) ∧
          t = { s with fab := t.fab, geo := t.geo, parts := t.parts, regs := t.regs }))) ∧
  ∀ (s : State) (n : Fin 64),
    let from_ := max (s.chan n.val).evalTo (32 * s.now)
    let ahead := List.range' from_ (32 * (s.now + 9) - from_)
    let beyond := fun T : Nat => s.fld (OCH_LIMIT n.val) 13 0 < (s.codeAt n.val T).1.natAbs
    ((∀ T ∈ ahead, ¬ beyond T) → exec (.outputLimitTrip n) s = .next s) ∧
    ((∃ T ∈ ahead, beyond T) → s.bit (OCH_LIMIT n.val) 16 = false → Answers (.outputLimitTrip n) s fun t =>
      t.bit (OCH_STAT n.val) 6 = true ∧
      t.fab.pulses = (s.fab.pulses.map fun u =>
        if ∃ T ∈ ahead, (beyond T ∨ (s.codeAt n.val T).2 = true) ∧ u.id ∈ s.playingAt n.val T
        then { u with ovf := true } else u) ∧
      t.fab = { s.fab with pulses := t.fab.pulses, events := t.fab.events } ∧ RegsBut s t [OCH_STAT n.val] ∧
      t = { s with regs := t.regs, before := t.before, fab := t.fab }) ∧
    ((∃ T ∈ ahead, beyond T) → s.bit (OCH_LIMIT n.val) 16 = true →
      ∀ p, s.ochOwner n.val = some p → (s.part p).mode ≠ .hold → Answers (.outputLimitTrip n) s fun t =>
        t.bit (OCH_STAT n.val) 6 = true ∧ (t.part p).mode = .hold ∧ (t.part p).cause = .trip ∧
        (t.part p).resumeNeeded = true ∧ (t.part p).job = none ∧ (s.ochState n.val = 2 → t.ochState n.val = 1))
  ) ∧ (
  ∀ (s : State) (id : Nat) (u : Pulse) (o : Obj), s.pulse id = some u → u.id = id → s.obj u.obj = some o →
    u.part < 8 → u.ch < 64 → u.playing = true → u.done = false →
    let g := o.seg u.seg
    (g.jen = true → u.req = none → u.carry = none → (s.slot g.jslot).queue = [] →
      (g.jslot, (s.slot g.jslot).commits) ∉ u.used → u.passAt o ≤ s.now → s.now < u.passAt o + g.len * o.gp →
      exec (.jumpRegister id) s = .next (s.updPulse id fun x => { x with
        req := some (s.slot g.jslot).value.state.toNat, used := (g.jslot, (s.slot g.jslot).commits) :: x.used
        reqLate := decide (u.passAt o + (g.len - 1) * o.gp < s.now) })) ∧
    (g.jen = false → exec (.jumpRegister id) s = .next s) ∧
    (g.len ≤ u.gran → u.due o ≤ s.now → u.stopAt = none → u.carry = none →
      (u.req = none → (g.jen = false ∨ g.forever = true ∨ u.pass ≠ g.reps) →
        (g.forever = true ∨ u.pass < g.reps →
          exec (.segmentPassEnd id) s = .next (s.updPulse id fun x => { x with
            pass := x.pass + 1, gran := 0, req := none, reqLate := false })) ∧
        (g.forever = false → g.reps ≤ u.pass → u.seg + 1 < o.segs.length →
          exec (.segmentPassEnd id) s = .next (s.updPulse id fun x => { x with
            seg := x.seg + 1, pass := 0, gran := 0, req := none, reqLate := false })) ∧
        (g.forever = false → g.reps ≤ u.pass → o.segs.length ≤ u.seg + 1 → Answers (.segmentPassEnd id) s fun t =>
          (∃ v, t.pulse id = some v ∧ v.done = true ∧ v.req = none) ∧
          t = { s with fab := { s.fab with pulses := t.fab.pulses }, geo := t.geo })) ∧
      (∀ st, u.req = some st → u.reqLate = false → g.target st < 254 → Answers (.segmentPassEnd id) s fun t =>
        (∃ v, t.pulse id = some v ∧ v.seg = g.target st ∧ v.pass = 0 ∧ v.gran = 0 ∧ v.req = none ∧ v.done = false) ∧
        t.regN (OCH_JCNT u.ch) = min (s.regN (OCH_JCNT u.ch) + 1) (2 ^ 32 - 1) ∧
        t = { s with fab := { s.fab with pulses := t.fab.pulses }, parts := t.parts, regs := t.regs })) ∧
    (g.len ≤ u.gran → u.due o ≤ s.now → u.carry = none → ∀ i st, u.stopAt = some i → i < u.at_ o → u.req = some st →
      Answers (.segmentPassEnd id) s fun t =>
        (∃ v, t.pulse id = some v ∧ v.done = true ∧ v.req = none) ∧
        t.fld (OCH_JLATE u.ch) 31 16 = min (s.fld (OCH_JLATE u.ch) 31 16 + 1) 65535 ∧
        t.fld (OCH_JLATE u.ch) 15 0 = min (s.fld (OCH_JLATE u.ch) 15 0 + if u.reqLate then 1 else 0) 65535 ∧
        t = { s with fab := { s.fab with pulses := t.fab.pulses }, geo := t.geo, parts := t.parts, regs := t.regs })
  )

/-- 05 R162, R163; 13 R400: LOAD checks the image, the range, the chain and the quotas in that order; a failed operation
leaves the library as it was, a good one replaces the object whole, with its pages' entries, and ends, or waits for its
load pins. 05 R162, R167: DELETE, PIN, UNPIN and DELETE_ALL on objects of the range that exist, and the end of the last
operation's job; an operation on an object outside the range, or on none, fails and changes no object. 13 R400: with its
last operation a library job ends. -/
def Obligations.LibraryJobs : Prop :=
  (
  ∀ (s : State) (p : Fin 8) (op : LibOp) (b : List Byte) (j : Job), (s.part p.val).job = some j → j.type = .library →
    j.waitObj = none → j.ops[j.next]? = some 1 → (∃ x, j.ops[j.next + 1]? = some x ∧ 1 ≤ x ∧ x ≤ 5) →
    let n := op.obj.toNat
    let o := parseObj p.val b
    let fails := fun (im : Option (List Byte)) (code : Nat) => exec (.libLoad p op im) s = .next (s.updPart p.val fun q =>
      { q with job := some { j with next := j.next + 1, failed := some (j.failed.getD (j.next, code)) } })
    (s.objInRange p.val n = true → fails none 8) ∧
    (imageOk b n op.len.toNat = false → fails (some b) 1) ∧
    (imageOk b n op.len.toNat = true → s.objInRange p.val n = false → fails (some b) 2) ∧
    (imageOk b n op.len.toNat = true → s.objInRange p.val n = true → chainOk (b.drop 32) (le b 12 4) = false →
      fails (some b) 3) ∧
    (imageOk b n op.len.toNat = true → s.objInRange p.val n = true → chainOk (b.drop 32) (le b 12 4) = true →
      s.fld (GEODE_LIBQ p.val) 24 0 < s.libUsed p.val - ((s.obj n).elim 0 (·.npages)) + o.npages → fails (some b) 4) ∧
    (s.loadCode p.val op b o = 0 → Answers (.libLoad p op (some b)) s fun t =>
      (∃ l, t.obj n = some { o with sets := l } ∧ l.length = o.npages ∧ ∀ x ∈ l, x < 1024) ∧
      (∀ m, m ≠ n → t.obj m = s.obj m) ∧
      (t.geo.pages.filter fun x => x.obj != n) = (s.geo.pages.filter fun x => x.obj != n) ∧
      (∀ x ∈ t.geo.pages, x.obj = n → x.filled = false ∧ x.loadPin = true ∧ o.pinned = true) ∧
      (o.pinned = false → t.part p.val = { s.part p.val with
        job := some { j with next := j.next + 1, okCount := j.okCount + 1 } }) ∧
      (o.pinned = true → 0 < o.npages → t.part p.val = { s.part p.val with job := some { j with waitObj := some n } }) ∧
      PartsBut s t [p.val] ∧ t = { s with parts := t.parts, geo := t.geo })
  ) ∧ (
  ∀ (s : State) (p : Fin 8) (op : LibOp) (j : Job), (s.part p.val).job = some j → j.type = .library → j.waitObj = none →
    (∃ x, j.ops[j.next + 1]? = some x ∧ 1 ≤ x ∧ x ≤ 5) → op.rsv = 0#8 → op.len = 0#32 → op.addr = 0#64 →
    let n := op.obj.toNat
    let ends := fun (code : Nat) (u : State) => u.updPart p.val fun q => { q with job := some { j with
      next := j.next + 1
      okCount := if code = 0 then j.okCount + 1 else j.okCount
      failed := if code = 0 then j.failed else some (j.failed.getD (j.next, code)) } }
    (j.ops[j.next]? = some 2 →
      (s.objInRange p.val n = false → exec (.libDelete p op) s = .next (ends 2 s)) ∧
      (s.objInRange p.val n = true → s.obj n = none → exec (.libDelete p op) s = .next (ends 7 s)) ∧
      (s.objInRange p.val n = true → s.obj n ≠ none → Answers (.libDelete p op) s fun t =>
        t.obj n = none ∧ (∀ m, m ≠ n → t.obj m = s.obj m) ∧ t.geo.pages = (s.geo.pages.filter fun x => x.obj != n) ∧
        t.geo.nextSet = s.geo.nextSet ∧ t = ends 0 { s with geo := t.geo })) ∧
    (j.ops[j.next]? = some 3 → ∀ o, s.objInRange p.val n = true → s.obj n = some o →
      (o.pinned = false → s.fld (GEODE_PINQ p.val) 14 0 < s.pinLoad p.val + o.npages →
        exec (.libPin p op) s = .next (ends 5 s)) ∧
      (o.pinned = false → s.pinLoad p.val + o.npages ≤ s.fld (GEODE_PINQ p.val) 14 0 →
        pinSetsOk ((s.geo.objs.filter (·.1 != n)).filterMap (·.2)) o.sets = true → Answers (.libPin p op) s fun t =>
          t.obj n = some { o with pinned := true } ∧ (∀ m, m ≠ n → t.obj m = s.obj m) ∧
          (∀ pg, t.resident n pg = s.resident n pg) ∧
          (∀ pg < o.npages, ∃ x ∈ t.geo.pages, x.obj = n ∧ x.page = pg ∧ x.loadPin = true) ∧
          ((∀ pg < o.npages, s.resident n pg = true) → t = ends 0 { s with geo := t.geo }) ∧
          ((∃ pg < o.npages, s.resident n pg = false) →
            t = { s with geo := t.geo }.updPart p.val fun q => { q with job := some { j with waitObj := some n } }))) ∧
    (j.ops[j.next]? = some 4 → ∀ o, s.objInRange p.val n = true → s.obj n = some o → Answers (.libUnpin p op) s fun t =>
      t.obj n = some { o with pinned := false } ∧ (∀ m, m ≠ n → t.obj m = s.obj m) ∧
      (∀ x ∈ t.geo.pages, x.obj = n → x.loadPin = false) ∧ (∀ m pg, t.resident m pg = s.resident m pg) ∧
      t = ends 0 { s with geo := t.geo }) ∧
    (j.ops[j.next]? = some 5 → Answers (.libDeleteAll p op) s fun t =>
      (∀ m o, s.obj m = some o → o.part = p.val → t.obj m = none) ∧
      (∀ m, (∀ o, (m, some o) ∈ s.geo.objs → o.part ≠ p.val) → t.obj m = s.obj m) ∧
      t.geo.nextSet = s.geo.nextSet ∧ t = ends 0 { s with geo := t.geo })
  ) ∧ (
  ∀ (s : State) (p : Fin 8) (op : LibOp) (j : Job), (s.part p.val).job = some j → j.type = .library → j.waitObj = none →
    j.ops[j.next]? = some 2 → j.ops.length = j.next + 1 → Answers (.libDelete p op) s fun t =>
      (t.part p.val).job = none ∧ ∀ q, q ≠ p.val → (t.part q).job = (s.part q).job
  )

/-- 05 R167, R169, R170, R174, R175: of the fills that can be made, the first in order is made: a fill within its
partition's quota makes the page resident whatever has been lent; a load pin's waits once the variant's bound is used;
one whose set has no way waits, which counts once; one with an uncorrectable error leaves the page out, and a second
error in the page damages the object; pins past their last need go. The order among fills of one rank is that of their
earliest need (log 136). -/
def Obligations.FillsAndPins : Prop :=
  ∀ (s : State) (n pg : Nat),
    (∀ (o : Obj) (g : Page), s.obj n = some o → g ∈ s.geo.pages → g.obj = n → g.page = pg → g.filled = false →
      g.isPinned = true → (∀ x ∈ s.geo.pages, x.obj = n → x.page = pg → x = g) → g.quotaWait = false →
      (s.wayFree g.set = true → s.fillFirst g = false → ∀ b, exec (.fillComplete n pg b) s = .next s) ∧
      (s.wayFree g.set = true → g.loadPin = true → s.fillCap ≤ s.geo.fills →
        ∀ b, exec (.fillComplete n pg b) s = .next s) ∧
      (s.wayFree g.set = false → ∀ b,
        (g.setFull = true → exec (.fillComplete n pg b) s = .next s) ∧
        (g.setFull = false → Answers (.fillComplete n pg b) s fun t =>
          t.regN (GEODE_SETFULL o.part) = min (s.regN (GEODE_SETFULL o.part) + 1) (2 ^ 32 - 1) ∧
          RegsBut s t [GEODE_SETFULL o.part] ∧
          (∀ x ∈ t.geo.pages, x.obj = n → x.page = pg → x = { g with setFull := true }) ∧
          t = { s with regs := t.regs, geo := { s.geo with pages := t.geo.pages } })) ∧
      (s.fillFirst g = true → g.loadPin = false → (s.part o.part).fillUsed < s.fillQuota o.part →
        s.wayFree g.set = true → (s.part o.part).job.bind (·.waitObj) = none →
        Answers (.fillComplete n pg true) s (fun t =>
          t.resident n pg = true ∧ t.geo.fills = s.geo.fills + 1 ∧ t.geo.objs = s.geo.objs ∧
          t.part o.part = { s.part o.part with fillUsed := (s.part o.part).fillUsed + 1 } ∧ PartsBut s t [o.part] ∧
          t.regN (GEODE_FILLS o.part) = min (s.regN (GEODE_FILLS o.part) + 1) (2 ^ 32 - 1) ∧
          RegsBut s t [GEODE_FILLS o.part] ∧ t = { s with parts := t.parts, geo := t.geo, regs := t.regs }) ∧
        Answers (.fillComplete n pg false) s (fun t =>
          t.resident n pg = false ∧
          (o.ecc.contains pg = false → t.obj n = some { o with ecc := pg :: o.ecc }) ∧
          (o.ecc.contains pg = true → t.obj n = some { o with damaged := true }) ∧
          (∀ m, m ≠ n → t.obj m = s.obj m) ∧ RegsBut s t (recordRegs o.part) ∧
          ((s.part o.part).mode = .shot → (s.part o.part).attempt.active = true →
            ∃ x ∈ (t.part o.part).attempt.taints, x.cause = 4 ∧ x.tick = s.now) ∧
          t = { s with parts := t.parts, geo := t.geo, regs := t.regs })) ∧
      (s.fillFirst g = true → g.loadPin = true → s.geo.fills < s.fillCap → s.wayFree g.set = true →
        (s.part o.part).job.bind (·.waitObj) = none → Answers (.fillComplete n pg true) s fun t =>
          t.resident n pg = true ∧ t.geo.fills = s.geo.fills + 1 ∧
          t.regN (GEODE_FILLS o.part) = min (s.regN (GEODE_FILLS o.part) + 1) (2 ^ 32 - 1) ∧
          RegsBut s t [GEODE_FILLS o.part] ∧ t = { s with geo := t.geo, regs := t.regs })) ∧
    Answers (.usePinRelease n pg) s fun t =>
      (∀ x ∈ t.geo.pages, x.obj = n → x.page = pg → ∀ k ∈ x.pins, s.now < k.2.2) ∧
      (∀ m i, t.resident m i = s.resident m i) ∧ t.geo.objs = s.geo.objs ∧ t = { s with geo := t.geo }

/-- 07 R222, R223: a part of an accumulator takes the exact sum where 48 bits hold it, else the nearest bound with SAT
and the sum modulo 2^48 without; GUARD and OVF are sticky; the other accumulators keep their values. -/
def Obligations.MicaAccumulator : Prop :=
  ∀ (c : Ctx) (a : Nat) (sat : Bool) (d : Cx),
    let t := c.accAdd a sat d
    let re := (c.accCx a).1 + d.1
    let im := (c.accCx a).2 + d.2
    let fits := fun e : Int => -2 ^ 47 ≤ e ∧ e < 2 ^ 47
    let held := fun e v : Int =>
      (fits e → v = e) ∧ (sat = true → 2 ^ 47 ≤ e → v = 2 ^ 47 - 1) ∧ (sat = true → e < -2 ^ 47 → v = -2 ^ 47) ∧
      (sat = false → (v - e) % 2 ^ 48 = 0)
    held re (t.accCx a).1 ∧ held im (t.accCx a).2 ∧ (∀ b, b ≠ a → t.accCx b = c.accCx b) ∧
    (t.fOvf = true ↔ c.fOvf = true ∨ ¬ fits re ∨ ¬ fits im) ∧
    (t.fGuard = true ↔ c.fGuard = true ∨ ¬ (-2 ^ 39 ≤ re ∧ re < 2 ^ 39) ∨ ¬ (-2 ^ 39 ≤ im ∧ im < 2 ^ 39)) ∧
    t = { c with acc := t.acc, fGuard := t.fGuard, fOvf := t.fOvf }

/-- 07 R228: the register instructions, with D in [24:21], A in [20:17], B in [16:13], for every register of each: the
two-operand ones with B and with the sign-extended IMM in [11:0], CMUL, ABS2, MOV, CMP and LDI. 07 R215, R228, R230,
R239: a context that serves no window executes nothing; a PC of 4,096 or more is PC_RANGE and a reserved opcode ILLEGAL,
whatever the instruction. NOP, BR, BRC, DJNZ and REP; a target at or beyond 4,096, or below 0, is PC_RANGE; a repeated
instruction runs n times, none for n = 0; at a set reserved bit, and at what REP may not repeat, the core faults. 07
R216, R232: END closes the window (one without EMIT resolves indeterminate two ticks later, a window error in SHOT mode)
and the next queued start begins at its MENTRY with cleared registers. -/
def Obligations.MicaRegistersAndControl : Prop :=
  (
  ∀ (s : State) (k : Fin 64) (x : Fin 8) (p : Nat) (w : Window) (d a b : BitVec 4) (imm : BitVec 12) (n : BitVec 16),
    s.runs k.val x.val p w →
    let rr : BitVec 26 := 0#1 ++ d ++ a ++ b ++ 0#13
    let ri : BitVec 26 := 0#1 ++ d ++ a ++ 0#4 ++ 1#1 ++ imm
    let alu := fun (i : BitVec 26 → Instr) (f : Word → Word → Word) =>
      SetsCtx (i rr) s k.val x.val (fun c => c.setX d.toNat (f (c.xr a.toNat) (c.xr b.toNat))) ∧
      SetsCtx (i ri) s k.val x.val (fun c => c.setX d.toNat (f (c.xr a.toNat) (imm.signExtend 32)))
    alu (.micaAdd k x) (fun u v => u + v) ∧ alu (.micaSub k x) (fun u v => u - v) ∧
    alu (.micaAnd k x) (fun u v => u &&& v) ∧ alu (.micaOr k x) (fun u v => u ||| v) ∧
    alu (.micaXor k x) (fun u v => u ^^^ v) ∧ alu (.micaShl k x) (fun u v => u <<< (v.toNat % 32)) ∧
    alu (.micaShr k x) (fun u v => u >>> (v.toNat % 32)) ∧ alu (.micaSra k x) (fun u v => u.sshiftRight (v.toNat % 32)) ∧
    SetsCtx (.micaMov k x (0#1 ++ d ++ a ++ 0#17)) s k.val x.val (fun c => c.setX d.toNat (c.xr a.toNat)) ∧
    SetsCtx (.micaCmp k x (0#5 ++ a ++ b ++ 0#13)) s k.val x.val (fun c => { c with
      fZ := decide (c.xr a.toNat = c.xr b.toNat), fN := decide ((c.xr a.toNat).toInt < (c.xr b.toNat).toInt) }) ∧
    SetsCtx (.micaCmp k x (0#5 ++ a ++ 0#4 ++ 1#1 ++ imm)) s k.val x.val (fun c => { c with
      fZ := decide (c.xr a.toNat = imm.signExtend 32), fN := decide ((c.xr a.toNat).toInt < imm.toInt) }) ∧
    SetsCtx (.micaCmul k x (0#1 ++ d ++ a ++ b ++ 0#13)) s k.val x.val (fun c =>
      let r := cxRound 16 15 (cxMul (cxOf (c.xr a.toNat)) (cxOf (c.xr b.toNat)))
      { c.setX d.toNat (cxWord r.1) with fOvf := c.fOvf || r.2 }) ∧
    SetsCtx (.micaAbs2 k x (0#1 ++ d ++ a ++ 0#17)) s k.val x.val (fun c =>
      let v := cxOf (c.xr a.toNat)
      let m := v.1 * v.1 + v.2 * v.2
      { c.setX d.toNat (BitVec.ofInt 32 (min m (2 ^ 31 - 1))) with fOvf := c.fOvf || decide (2 ^ 31 ≤ m) }) ∧
    SetsCtx (.micaLdi k x (0#1 ++ d ++ 0#5 ++ n)) s k.val x.val (fun c => c.setX d.toNat (n.signExtend 32)) ∧
    SetsCtx (.micaLdi k x (0#1 ++ d ++ 1#1 ++ 0#4 ++ n)) s k.val x.val (fun c =>
      c.setX d.toNat (n ++ (c.xr d.toNat).setWidth 16))
  ) ∧ (
  (∀ (s : State) (k : Fin 64) (x : Fin 8) (b : BitVec 26),
    ∀ i ∈ [Instr.micaNop k x b, .micaEnd k x b, .micaRep k x b, .micaBr k x b, .micaBrc k x b, .micaDjnz k x b, .micaMacw k x b,
      .micaMacx k x b, .micaAccs k x b, .micaMacm k x b, .micaMacr k x b, .micaClra k x b, .micaAdda k x b, .micaIn k x b,
      .micaLd k x b, .micaSt k x b, .micaLdi k x b, .micaSeta k x b, .micaAdd k x b, .micaSub k x b, .micaAnd k x b,
      .micaOr k x b, .micaXor k x b, .micaShl k x b, .micaShr k x b, .micaSra k x b, .micaCmul k x b, .micaAbs2 k x b,
      .micaMov k x b, .micaCmp k x b, .micaLatch k x b, .micaDisc k x b, .micaSetst k x b, .micaEmit k x b, .micaOuts k x b,
      .micaEmitr k x b, .micaRda k x b, .micaRds k x b],
      (s.micaLive k.val x.val = none → exec i s = .next s) ∧
      ((s.micaLive k.val x.val).isSome = true → 4096 ≤ (s.ctx k.val x.val).pc →
        exec i s = answer s (s.micaFault k.val x.val 2)) ∧
      ((s.micaLive k.val x.val).isSome = true → (s.ctx k.val x.val).pc < 4096 → s.micaReserved k.val x.val = true →
        exec i s = answer s (s.micaFault k.val x.val 1))) ∧
  (∀ (s : State) (k : Fin 64) (x : Fin 8) (p : Nat) (w : Window) (r : BitVec 4) (o : BitVec 16) (n : BitVec 12),
    s.runs k.val x.val p w →
    let c := s.ctx k.val x.val
    let i := (c.pc : Int) + o.toInt
    let goes := fun (j : Instr) (u : State) =>
      (0 ≤ i → i < 4096 → exec j s = .next (u.updCtx k.val x.val fun c => { c with pc := i.toNat })) ∧
      (i < 0 ∨ 4096 ≤ i → exec j s = answer s (u.micaFault k.val x.val 2))
    SetsCtx (.micaNop k x 0#26) s k.val x.val id ∧
    goes (.micaBr k x (0#10 ++ o)) s ∧
    (∀ (cc : BitVec 3) (b : Bool), [c.fZ, !c.fZ, c.fN, !c.fN, c.fSettle, c.fOvf][cc.toNat]? = some b →
      (b = true → goes (.micaBrc k x (cc ++ 0#7 ++ o)) s) ∧
      (b = false → SetsCtx (.micaBrc k x (cc ++ 0#7 ++ o)) s k.val x.val id)) ∧
    (c.xr r.toNat ≠ 1#32 → goes (.micaDjnz k x (0#1 ++ r ++ 0#5 ++ o))
      (s.updCtx k.val x.val fun c => c.setX r.toNat (c.xr r.toNat - 1#32))) ∧
    (c.xr r.toNat = 1#32 → SetsCtx (.micaDjnz k x (0#1 ++ r ++ 0#5 ++ o)) s k.val x.val fun c => c.setX r.toNat 0#32) ∧
    (noRep.contains (s.opAt k.val (c.pc + 1)) = false →
      let rx := (c.xr r.toNat).toNat % 8192
      exec (.micaRep k x (0#14 ++ n)) s = .next (s.updCtx k.val x.val fun c =>
        { c with pc := c.pc + 1, rep := some (n.toNat + 1) }) ∧
      (rx = 0 → exec (.micaRep k x (1#1 ++ r ++ 0#21)) s = .next (s.updCtx k.val x.val fun c => { c with pc := c.pc + 2 })) ∧
      (0 < rx → rx ≤ 4096 → exec (.micaRep k x (1#1 ++ r ++ 0#21)) s = .next (s.updCtx k.val x.val fun c =>
        { c with pc := c.pc + 1, rep := some rx }))) ∧
    (noRep.contains (s.opAt k.val (c.pc + 1)) = true →
      exec (.micaRep k x (0#14 ++ n)) s = answer s (s.micaFault k.val x.val 1)) ∧
    (∀ b : BitVec 26, b ≠ 0#26 → exec (.micaNop k x b) s = answer s (s.micaFault k.val x.val 1))) ∧
  ∀ (e : Ctx) (m : Nat), (e.rep = none → e.next = { e with pc := e.pc + 1 }) ∧
    (e.rep = some (m + 2) → e.next = { e with rep := some (m + 1) }) ∧
    (e.rep = some 1 → e.next = { e with rep := none, pc := e.pc + 1 })
  ) ∧ (
  ∀ (s : State) (k : Fin 64) (x : Fin 8) (p : Nat) (w : Window), s.runs k.val x.val p w →
    (s.ctx k.val x.val).fCbrst = false →
    let c := s.ctx k.val x.val
    (c.emitted = true → c.queue = [] → Answers (.micaEnd k x 0#26) s fun t =>
      (t.ctx k.val x.val).win = none ∧ (t.ctx k.val x.val).x = c.x ∧ (t.ctx k.val x.val).acc = c.acc ∧
      (∀ m ∈ (t.ctx k.val x.val).fifo, m.win ≠ w.id) ∧ (∀ v ∈ t.fab.wins, v.id = w.id → v.served = true) ∧
      RegsBut s t [MICA_FIFODROP k.val] ∧
      t = { s with micas := t.micas, fab := { s.fab with wins := t.fab.wins }, regs := t.regs }) ∧
    (c.emitted = false → c.queue = [] → Answers (.micaEnd k x 0#26) s fun t =>
      (t.ctx k.val x.val).win = none ∧ t.fab.units = s.fab.units ++ [(w.id, s.now + 2, indeterminate (s.winTag w false))] ∧
      ((s.part p).mode = .shot → t.regN (MICA_ERRCNT k.val) = min (s.regN (MICA_ERRCNT k.val) + 1) (2 ^ 32 - 1)) ∧
      ((s.part p).mode ≠ .shot → t.parts = s.parts) ∧
      RegsBut s t (MICA_FIFODROP k.val :: MICA_ERRCNT k.val :: recordRegs p) ∧
      t = { s with micas := t.micas, fab := { s.fab with wins := t.fab.wins, units := t.fab.units }, regs := t.regs,
                   parts := t.parts }) ∧
    (∀ i l v, c.emitted = true → c.queue = i :: l → s.win i = some v → i ≠ w.id → v.mentry < 4096 → v.chained = none →
      Answers (.micaEnd k x 0#26) s fun t =>
        let d := t.ctx k.val x.val
        d.win = some i ∧ d.pc = v.mentry ∧ d.queue = l ∧ d.x = [] ∧ d.acc = [] ∧ d.scratch = [] ∧ d.wn = v.count ∧ d.pops = 0 ∧
        d.emitted = false ∧ d.rep = none ∧ d.prev = some i ∧ (∀ q, (t.part q).mode = (s.part q).mode) ∧
        (s.micaRing k.val = none → RegsBut s t [MICA_FIFODROP k.val] ∧
          t = { s with micas := t.micas, fab := { s.fab with wins := t.fab.wins }, regs := t.regs }) ∧
        (∀ g, s.micaRing k.val = some g → (∀ y ∈ (t.ring g).coll, ¬ (y.mica = k.val ∧ y.ctx = x.val)) ∧
          ∀ q, q ≠ g → t.ring q = s.ring q) ∧
        t = { s with micas := t.micas, fab := { s.fab with wins := t.fab.wins }, rings := t.rings, regs := t.regs
                     before := t.before, parts := t.parts })
  )

/-- 07 R219, R228, R237: IN, MACW, MACX and ACCS pop the window's next sample and take its flags with it; they wait while
it has not arrived; beyond WN the pop is a window error, which gives 0 in SHOT mode and in STREAM mode leaves the
instruction without effect. 07 R225 to R228, R231: data memory, address registers, the instructions on accumulators
without a pop, and the special values. Constants lie at 0x0000 to 0x1FFF, the scratch area at 0x2000 to 0x23FF; an access
elsewhere, and a store outside the scratch area, is a window error. 07 R228, R234 to R236, R238: the result latch, RDA,
EMIT (once a window; the unit reaches the fabric two ticks later with the window's tag), and OUTS and EMITR, which are
window errors in SHOT mode. -/
def Obligations.MicaInputAndResults : Prop :=
  (
  ∀ (s : State) (k : Fin 64) (x : Fin 8) (p : Nat) (w : Window) (r : BitVec 4) (acc : BitVec 2) (a : BitVec 3) (sat : Bool),
    s.runs k.val x.val p w →
    let c := s.ctx k.val x.val
    let sb : BitVec 1 := BitVec.ofBool sat
    let inn := Instr.micaIn k x (0#1 ++ r ++ 0#21)
    let macx := Instr.micaMacx k x (sb ++ acc ++ r ++ 0#19)
    let accs := Instr.micaAccs k x (sb ++ acc ++ 0#23)
    let macw := fun cj : Bool => Instr.micaMacw k x (sb ++ acc ++ a ++ BitVec.ofBool cj ++ 0#19)
    (∀ (m : Sample) (l : List Sample), c.fifo = m :: l → m.win = w.id → c.pops < c.wn →
      let popped := fun c : Ctx => { c with
        fifo := l, pops := c.pops + 1, fOvf := c.fOvf || m.ovf, fSettle := c.fSettle || m.settle, lastTime := m.time
        lastSettle := m.settle, lastOvf := m.ovf }
      let y := cxOf m.iq
      let does := fun (i : Instr) (f : Ctx → Ctx) =>
        exec i s = .next ((s.updCtx k.val x.val popped).updCtx k.val x.val fun c => (f c).next)
      does inn (fun c => c.setX r.toNat m.iq) ∧
      does macx (fun c => c.accAdd acc.toNat sat (cxMul (cxOf (c.xr r.toNat)) y)) ∧
      does accs (fun c => c.accAdd acc.toNat sat (32768 * y.1, 32768 * y.2)) ∧
      ∀ (cj : Bool) (v : Word), s.dmem k.val x.val (c.ar a.toNat) = some v →
        does (macw cj) fun c =>
          (c.accAdd acc.toNat sat (cxMul ((cxOf v).1, if cj then -(cxOf v).2 else (cxOf v).2) y)).postInc a.toNat) ∧
    (c.fifo = [] → c.pops < c.wn → w.seen < w.count →
      exec inn s = .next s ∧ exec macx s = .next s ∧ exec accs s = .next s ∧
      ((s.dmem k.val x.val (c.ar a.toNat)).isSome = true → ∀ cj, exec (macw cj) s = .next s)) ∧
    (c.wn ≤ c.pops → (s.part p).mode = .shot →
      exec inn s = answer s ((s.micaError k.val p w).mnext k.val x.val fun c => c.setX r.toNat 0#32)) ∧
    (c.wn ≤ c.pops → (s.part p).mode = .stream →
      WindowError inn s k.val x.val p w ∧ WindowError macx s k.val x.val p w ∧ WindowError accs s k.val x.val p w ∧
      ∀ cj, WindowError (macw cj) s k.val x.val p w) ∧
    (s.dmem k.val x.val (c.ar a.toNat) = none → ∀ cj, WindowError (macw cj) s k.val x.val p w)
  ) ∧ (
  ∀ (s : State) (k : Fin 64) (x : Fin 8) (p : Nat) (w : Window) (r r' : BitVec 4) (acc acc' : BitVec 2) (a : BitVec 3)
    (imm : BitVec 14) (sat b : Bool), s.runs k.val x.val p w →
    let c := s.ctx k.val x.val
    let m := c.ar a.toNat
    let sb : BitVec 1 := BitVec.ofBool sat
    let bb : BitVec 1 := BitVec.ofBool b
    let post := fun c : Ctx => if b then c.postInc a.toNat else c
    let ld := Instr.micaLd k x (0#1 ++ r ++ a ++ bb ++ 0#17)
    let st := Instr.micaSt k x (0#1 ++ r ++ a ++ bb ++ 0#17)
    let macm := Instr.micaMacm k x (sb ++ acc ++ a ++ r ++ 0#16)
    (∀ v : Word, (m < 0x2000 ∧ v = look (fun _ => 0#32) (s.mica k.val).const m) ∨
        (0x2000 ≤ m ∧ m < 0x2400 ∧ v = look (fun _ => 0#32) c.scratch (m - 0x2000)) →
      SetsCtx ld s k.val x.val (fun c => post (c.setX r.toNat v)) ∧
      SetsCtx macm s k.val x.val fun c =>
        (c.accAdd acc.toNat sat (cxMul (cxOf v) (cxOf (c.xr r.toNat)))).postInc a.toNat) ∧
    (0x2400 ≤ m → WindowError ld s k.val x.val p w ∧ WindowError macm s k.val x.val p w ∧ WindowError st s k.val x.val p w) ∧
    (m < 0x2000 → WindowError st s k.val x.val p w) ∧
    (0x2000 ≤ m → m < 0x2400 → SetsCtx st s k.val x.val fun c =>
      post { c with scratch := put (fun _ => 0#32) c.scratch (m - 0x2000) (c.xr r.toNat) }) ∧
    SetsCtx (.micaMacr k x (sb ++ acc ++ r ++ r' ++ 0#15)) s k.val x.val (fun c =>
      c.accAdd acc.toNat sat (cxMul (cxOf (c.xr r.toNat)) (cxOf (c.xr r'.toNat)))) ∧
    SetsCtx (.micaClra k x (0#1 ++ acc ++ 0#23)) s k.val x.val (fun c => c.setAcc acc.toNat 0#48 0#48) ∧
    SetsCtx (.micaAdda k x (sb ++ acc ++ acc' ++ bb ++ 0#20)) s k.val x.val (fun c =>
      let v := c.accCx acc'.toNat
      c.accAdd acc.toNat sat (if b then (-v.1, -v.2) else v)) ∧
    (c.lr a.toNat = 0 → SetsCtx (.micaSeta k x (0#1 ++ a ++ 0#2 ++ 0#1 ++ 0#4 ++ 0#1 ++ imm)) s k.val x.val fun c =>
      c.setA a.toNat imm.toNat) ∧
    (c.lr a.toNat ≠ 0 → c.br a.toNat ≤ (c.xr r.toNat).toNat % 0x4000 →
      (c.xr r.toNat).toNat % 0x4000 < c.br a.toNat + c.lr a.toNat →
      SetsCtx (.micaSeta k x (0#1 ++ a ++ 0#2 ++ 1#1 ++ r ++ 0#15)) s k.val x.val fun c =>
        c.setA a.toNat ((c.xr r.toNat).toNat % 0x4000)) ∧
    (c.lr a.toNat = 0 → SetsCtx (.micaSeta k x (0#1 ++ a ++ 1#2 ++ 0#1 ++ 0#4 ++ 0#1 ++ imm)) s k.val x.val fun c =>
      (c.setBase a.toNat imm.toNat).setA a.toNat imm.toNat) ∧
    (imm = 0#14 → SetsCtx (.micaSeta k x (0#1 ++ a ++ 2#2 ++ 0#1 ++ 0#4 ++ 0#1 ++ imm)) s k.val x.val fun c =>
      c.setLen a.toNat 0) ∧
    (imm ≠ 0#14 → 0x4000 < c.br a.toNat + imm.toNat →
      WindowError (.micaSeta k x (0#1 ++ a ++ 2#2 ++ 0#1 ++ 0#4 ++ 0#1 ++ imm)) s k.val x.val p w) ∧
    SetsCtx (.micaRds k x (0#1 ++ r ++ 0#21)) s k.val x.val (fun c => c.setX r.toNat (BitVec.ofNat 32 c.wn)) ∧
    SetsCtx (.micaRds k x (0#1 ++ r ++ 1#5 ++ 0#16)) s k.val x.val (fun c => c.setX r.toNat (BitVec.ofNat 32 c.pops)) ∧
    SetsCtx (.micaRds k x (0#1 ++ r ++ 2#5 ++ 0#16)) s k.val x.val (fun c => c.setX r.toNat (BitVec.ofNat 32 c.flags)) ∧
    SetsCtx (.micaRds k x (0#1 ++ r ++ 4#5 ++ 0#16)) s k.val x.val (fun c =>
      c.setX r.toNat (if c.chained then 1#32 else 0#32)) ∧
    SetsCtx (.micaRds k x (0#1 ++ r ++ 5#5 ++ 0#16)) s k.val x.val (fun c =>
      c.setX r.toNat (BitVec.ofNat 32 (c.lastTime % 2 ^ 24))) ∧
    SetsCtx (.micaRds k x (0#1 ++ r ++ 3#5 ++ 0#16)) s k.val x.val (fun c =>
      c.setX r.toNat (if (s.part p).mode = .stream then 1#32 else 0#32))
  ) ∧ (
  ∀ (s : State) (k : Fin 64) (x : Fin 8) (p : Nat) (w : Window) (r : BitVec 4) (acc e : BitVec 2) (sh : BitVec 5)
    (code : BitVec 16), s.runs k.val x.val p w →
    let c := s.ctx k.val x.val
    let lat := fun c : Ctx =>
      let v := cxRound 32 (8 + sh.toNat) (c.accCx acc.toNat)
      let o := c.fOvf || v.2
      { c with
          fOvf := o
          rl := { state := 3#2, i := BitVec.ofInt 32 v.1.1, q := BitVec.ofInt 32 v.1.2, ovf := o, settle := c.fSettle } }
    SetsCtx (.micaLatch k x (0#1 ++ acc ++ 0#2 ++ sh ++ 0#16)) s k.val x.val lat ∧
    SetsCtx (.micaDisc k x (0#1 ++ acc ++ e ++ sh ++ 0#16)) s k.val x.val (fun c => c.doDisc k.val acc.toNat e.toNat sh.toNat) ∧
    (let d := c.doDisc k.val acc.toNat e.toNat sh.toNat
     d = { lat c with rl := d.rl } ∧
     d.rl = { (lat c).rl with state := d.rl.state, disc := d.rl.disc } ∧
     ((bitOf (look (fun _ => 0#32) c.disc (4 * e.toNat + 3)).toNat 2 = true ∧ (lat c).fOvf = true) ∨
       (bitOf (look (fun _ => 0#32) c.disc (4 * e.toNat + 3)).toNat 3 = true ∧ c.fSettle = true) → d.rl.state = 3#2)) ∧
    SetsCtx (.micaSetst k x (0#1 ++ r ++ 0#21)) s k.val x.val (fun c =>
      { c with rl := { c.rl with state := (c.xr r.toNat).setWidth 2 } }) ∧
    SetsCtx (.micaRda k x (0#1 ++ r ++ acc ++ sh ++ 0#14)) s k.val x.val (fun c =>
      let v := cxRound 16 (15 + sh.toNat) (c.accCx acc.toNat)
      { c.setX r.toNat (cxWord v.1) with fOvf := c.fOvf || v.2 }) ∧
    (c.emitted = true → WindowError (.micaEmit k x 0#26) s k.val x.val p w) ∧
    (c.emitted = false → Answers (.micaEmit k x 0#26) s fun t =>
      t.ctx k.val x.val = ({ c with emitted := true } : Ctx).next ∧
      (∃ u : Result, t.fab.units = s.fab.units ++ [(w.id, s.now + 2, u)] ∧ u.state = c.rl.state ∧ u.i = c.rl.i ∧ u.q = c.rl.q ∧
        u.tag = tagOr (tagOr (s.winTag w false) 5 c.rl.ovf) 6 c.rl.settle) ∧
      t.regN (MICA_EMITCNT k.val) = min (s.regN (MICA_EMITCNT k.val) + 1) (2 ^ 32 - 1) ∧
      RegsBut s t [MICA_EMITCNT k.val, MICA_OVFCNT k.val] ∧ PartsBut s t [p] ∧
      (t.part p) = { s.part p with attempt := { (s.part p).attempt with discs := (t.part p).attempt.discs } } ∧
      t = { s with micas := t.micas, fab := { s.fab with units := t.fab.units }, regs := t.regs, parts := t.parts }) ∧
    ((s.part p).mode = .shot →
      WindowError (.micaOuts k x (0#1 ++ r ++ 0#21)) s k.val x.val p w ∧
      WindowError (.micaEmitr k x (0#1 ++ r ++ e ++ 0#3 ++ code)) s k.val x.val p w) ∧
    ((s.part p).mode = .stream → ∀ g, s.micaRing k.val = some g →
      exec (.micaOuts k x (0#1 ++ r ++ 0#21)) s = .next ((s.samplesAdd g k.val x.val c.lastTime (c.lastTag w) (c.xr r.toNat)
        c.lastSettle c.lastOvf).mnext k.val x.val) ∧
      Answers (.micaEmitr k x (0#1 ++ r ++ e ++ 0#3 ++ code)) s fun t => t.ctx k.val x.val = c.next ∧
        (∀ q, (t.part q).mode = (s.part q).mode ∧ (t.part q).job = (s.part q).job ∧ (t.part q).attempt = (s.part q).attempt) ∧
        t = { s with micas := t.micas, rings := t.rings, regs := t.regs, before := t.before, parts := t.parts, reqs := t.reqs,
                     fab := { s.fab with freeN := t.fab.freeN } })
  )

/-- 07 R233, R243: a constant write takes effect only while the owner is in HOLD, and is counted otherwise; a core reset
clears the core's contexts, and its counters but for what this tick counted (18 R502), and while the partition runs it is
the fault RESET, which puts it into HOLD. -/
def Obligations.MicaCoreCommands : Prop :=
  ∀ (s : State) (k : Fin 64) (i : Fin 8192) (v : Word) (p : Nat), s.opened → k.val < s.nMica → s.micaOwner k.val = some p →
    let counters := [MICA_EMITCNT k.val, MICA_OVFCNT k.val, MICA_ERRCNT k.val, MICA_FIFODROP k.val, MICA_CBRSTCNT k.val,
      MICA_DMWREF k.val]
    ((s.part p).mode = .hold →
      exec (.micaConstantWrite k i v) s = .next (s.updMica k.val fun m =>
        { m with const := put (fun _ => 0#32) m.const i.val v }) ∧
      Answers (.micaCoreReset k) s fun t =>
        t.mica k.val = { s.mica k.val with ctx := [], stopped := false, faulted := false } ∧
        (∀ a ∈ counters, t.regN a = s.regN a - s.beforeN a) ∧ t.reg (MICA_FIFOMAX k.val) = 0#32 ∧
        t.reg (MICA_FAULT k.val) = 0#32 ∧ RegsBut s t (MICA_FIFOMAX k.val :: MICA_FAULT k.val :: counters) ∧
        (∀ j, j ≠ k.val → t.mica j = s.mica j) ∧ t = { s with micas := t.micas, regs := t.regs, before := t.before }) ∧
    ((s.part p).mode ≠ .hold →
      exec (.micaConstantWrite k i v) s =
        .next (s.setN (MICA_DMWREF k.val) (min (s.regN (MICA_DMWREF k.val) + 1) (2 ^ 32 - 1))) ∧
      Answers (.micaCoreReset k) s fun t =>
        (t.part p).mode = .hold ∧ (t.part p).cause = .coreFault ∧ (t.part p).resumeNeeded = true ∧ (t.part p).job = none ∧
        t.regN (MICA_FAULT k.val) % 256 = 3 ∧ (t.mica k.val).ctx = [] ∧ (t.mica k.val).faulted = true)

/-- 06 R187, R191, R205, R210, R200, R201: a block of 16 samples raises the sticky overrange flag, its counter and the
peak, leaves the gain stage's outputs to the lanes of the channel, and taints the windows it reaches when OVRTRIP is set;
settling ends 2,048 ticks after a gain change; a pending trim set applies at a free instant and marks the channel's
windows. 01 R21, R24; 06 R191, R193, R194, R196, R209; 07 R216, R218 to R220: a window on time is held at its tile, takes
the lowest lane of its group that is not retired and that no other window spans at LS, and begins at WS + 10 in an idle
context at MENTRY; a late one is not served, resolves as indeterminate, and taints its attempt with LATE, or LINK after a
link replay; without a lane the cause is RETIRED. Each output sample enters the lane's FIFO at its tick. -/
def Obligations.InputChannels : Prop :=
  (
  ∀ (s : State) (m : Fin 16) (l : List AdcSample), m.val < s.nIch →
    (s.bit (ICH_STAT m.val) 0 = true → l.length = 16 → 15 ≤ s.now →
      let codes := s.trims m.val l
      let ovr := (codes.filter (·.2)).length
      let g := s.fld (ICH_GAIN m.val) 15 0
      (s.bit (ICH_CTRL m.val) 1 = false → s.reqs = [] → Answers (.inputBlock m l) s fun t =>
        (0 < ovr → t.bit (ICH_STAT m.val) 2 = true) ∧ (ovr = 0 → t.reg (ICH_STAT m.val) = s.reg (ICH_STAT m.val)) ∧
        t.regN (ICH_OVRCNT m.val) = min (s.regN (ICH_OVRCNT m.val) + ovr) (2 ^ 32 - 1) ∧
        (∀ a ∈ codes, a.1.natAbs ≤ t.regN (ICH_PEAK m.val)) ∧ s.regN (ICH_PEAK m.val) ≤ t.regN (ICH_PEAK m.val) ∧
        (ovr = 0 → (∀ a ∈ codes, g * a.1.natAbs < 2 ^ 23) → t.fab.wins = s.fab.wins) ∧
        ((∃ w ∈ s.fab.wins, w.ich = m.val) →
          (look (fun _ => []) t.fab.inputs m.val).head? = some (s.now - 15, codes.map fun a => gainOut g a.1)) ∧
        (∀ a ∈ codes, -2 ^ 17 ≤ gainOut g a.1 ∧ gainOut g a.1 < 2 ^ 17) ∧
        RegsBut s t [ICH_STAT m.val, ICH_OVRCNT m.val, ICH_PEAK m.val] ∧
        t = { s with regs := t.regs, before := t.before, fab := { s.fab with wins := t.fab.wins, inputs := t.fab.inputs } }) ∧
      (∀ w ∈ s.fab.wins, s.bit (ICH_CTRL m.val) 1 = true → 0 < ovr → s.reqs = [] → w.ich = m.val → w.opened = true →
        w.spans (s.now - 15) = true → (s.part w.part).mode = .shot → (s.part w.part).attempt.active = true →
        Answers (.inputBlock m l) s fun t => ∃ x ∈ (t.part w.part).attempt.taints, x.cause = 5 ∧ x.tick = s.now)) ∧
    (∀ g, s.time.gainAt = some g →
      (s.now < g + 2048 → exec (.settlingEnd m) s = .next s) ∧
      (g + 2048 ≤ s.now → Answers (.settlingEnd m) s fun t =>
        t.bit (ICH_STAT m.val) 1 = false ∧ (∀ i, i ≠ 1 → t.bit (ICH_STAT m.val) i = s.bit (ICH_STAT m.val) i) ∧
        RegsBut s t [ICH_STAT m.val] ∧ t = { s with regs := t.regs })) ∧
    (s.trimMay (64 + m.val) = true → s.ichHeld m.val s.now = false →
      exec (.ichTrimUpdate m) s = .next (((s.applyIch m.val).trimTook (64 + m.val)).markIch m.val s.now)) ∧
    (s.trimMay (64 + m.val) = false → exec (.ichTrimUpdate m) s = .next s)
  ) ∧ (
  ∀ (s : State) (id : Nat) (e : Event) (w : Window), s.win id = some w → w.id = id →
    (∀ a link, s.event id = some e → e.stage = .transit a →
      (s.now < a ∨ s.inOrder e a = false → exec (.windowEventArrive { id := id, link := link }) s = .next s) ∧
      (s.inOrder e a = true → a ≤ s.now → s.now + 48 ≤ e.tick →
        exec (.windowEventArrive { id := id, link := link }) s = .next (s.updEvent id fun x => { x with stage := .tile, link := link })) ∧
      (s.inOrder e a = true → a ≤ s.now → e.tick < s.now + 48 → (s.part e.part).mode = .shot →
        (s.part e.part).attempt.active = true → Answers (.windowEventArrive { id := id, link := link }) s fun t =>
          (∀ v ∈ t.fab.wins, v.id = id → v.served = true) ∧ (∀ x ∈ t.fab.events, x.id ≠ id) ∧
          (∃ u : Result, (id, w.we + decResolve w.dec - 2, u) ∈ t.fab.units ∧ u.state = 3#2 ∧ tagBit u.tag 4 = true) ∧
          (∃ x ∈ (t.part e.part).attempt.taints, x.cause = (if link then 3 else 1) ∧ x.tick = s.now) ∧
          RegsBut s t (recordRegs e.part) ∧ t = { s with fab := t.fab, parts := t.parts, regs := t.regs })) ∧
    (s.event id = some e → e.stage = .tile → w.opened = false → w.served = false → w.chained = none →
      (s.now + 2 < w.ls → exec (.windowBind id) s = .next s) ∧
      (w.ls ≤ s.now + 2 → ∀ l < 8, s.demodRetired w.mica l = false → l ∉ s.groupBusy w.mica id w.ls →
        (∀ m < l, m ∈ s.groupBusy w.mica id w.ls ∨ s.demodRetired w.mica m = true) →
        exec (.windowBind id) s = .next
          (((s.updEvent id fun x => { x with stage := .released }).updWin id fun v =>
            { v with lane := some l, opened := true }).setN (ICH_WINCNT w.ich)
              (min (s.regN (ICH_WINCNT w.ich) + 1) (2 ^ 32 - 1)))) ∧
      (w.ls ≤ s.now + 2 → (∀ l < 8, l ∈ s.groupBusy w.mica id w.ls ∨ s.demodRetired w.mica l = true) →
        (s.part w.part).mode = .shot → (s.part w.part).attempt.active = true → Answers (.windowBind id) s fun t =>
          (∀ v ∈ t.fab.wins, v.id = id → v.served = true) ∧
          (∃ x ∈ (t.part w.part).attempt.taints, x.cause = 10 ∧ x.tick = s.now))) ∧
    (∀ x, w.lane = some x → w.opened = true → w.served = false → (s.mica w.mica).stopped = false →
      let c := s.ctx w.mica x
      (s.now < w.ws + 10 → exec (.windowStart id) s = .next s) ∧
      (w.ws + 10 ≤ s.now → c.win = none → c.queue = [] → w.mentry < 4096 → w.chained = none →
        Answers (.windowStart id) s fun t =>
          let d := t.ctx w.mica x
          d.win = some id ∧ d.pc = w.mentry ∧ d.wn = w.count ∧ d.pops = 0 ∧ d.emitted = false ∧ d.fifo = c.fifo ∧ d.x = [] ∧
          d.acc = [] ∧ d.a = [] ∧ d.base = [] ∧ d.len = [] ∧ d.scratch = [] ∧ d.fOvf = false ∧ d.fSettle = false ∧ d.rep = none ∧
          (s.micaRing w.mica = none → t = { s with micas := t.micas }) ∧
          (∀ r, s.micaRing w.mica = some r → (∀ y ∈ (t.ring r).coll, ¬ (y.mica = w.mica ∧ y.ctx = x)) ∧
            ∀ q, q ≠ r → t.ring q = s.ring q) ∧
          (∀ q, (t.part q).mode = (s.part q).mode) ∧
          t = { s with micas := t.micas, rings := t.rings, regs := t.regs, before := t.before, parts := t.parts }) ∧
      (w.ws + 10 ≤ s.now → c.win.isSome = true → c.win ≠ some id → id ∉ c.queue → c.queue.length < 4 →
        exec (.windowStart id) s = .next (s.updCtx w.mica x fun c => { c with queue := c.queue ++ [id] }))) ∧
    (∀ x, w.lane = some x → w.opened = true → w.served = false →
      (w.count ≤ w.seen ∨ s.now < w.arrive w.seen → exec (.laneFifoSample id) s = .next s) ∧
      (w.seen < w.count → w.arrive w.seen ≤ s.now → (s.ctx w.mica x).fifo.length < 512 →
        let T := w.sampleAt w.seen
        let z := s.laneSample w T
        let sat := z.2 || s.spanSat w T
        Answers (.laneFifoSample id) s fun t =>
          (∃ it : Sample, t.ctx w.mica x = { s.ctx w.mica x with fifo := (s.ctx w.mica x).fifo ++ [it] } ∧ it.win = id ∧
            it.iq = z.1 ∧ it.time = T.toNat ∧ it.settle = s.settles w T ∧ it.ovf = (sat || s.spanOvr w T)) ∧
          (∃ v, t.win id = some v ∧ v = { w with seen := w.seen + 1 }) ∧
          t.regN (ICH_SATCNT w.ich) = min (s.regN (ICH_SATCNT w.ich) + if sat then 1 else 0) (2 ^ 32 - 1) ∧
          t.regN (ICH_SETTLECNT w.ich) = min (s.regN (ICH_SETTLECNT w.ich) + if s.settles w T then 1 else 0) (2 ^ 32 - 1) ∧
          (s.ctx w.mica x).fifo.length + 1 ≤ t.regN (MICA_FIFOMAX w.mica) ∧
          RegsBut s t [ICH_SATCNT w.ich, ICH_SETTLECNT w.ich, MICA_FIFOMAX w.mica] ∧
          t = { s with micas := t.micas, regs := t.regs, fab := { s.fab with wins := t.fab.wins } }))
  )

/-- 01 R21; 08 R247 to R249, R255: a result resolves its binding, in the order in which its Mica core sent its units; the
binding at the head of a slot's queue commits, two ticks after its result arrived, as the slot's value and one count
more; a forwarded binding open DEC_FWDTMO ticks after the SHOT commits as indeterminate and taints the attempt with LINK.
12 R371, R377; 08 R254; 04 R155; 09 R294; 08 R282: a DECIDE packet for this device is held to its due tick, at which a
RESULT resolves the oldest open forwarded binding of its shot or is counted as lost, a BARRIER and a VERDICT join what
their span device told, unless the barrier is already over, and a SEAM packet gives its entries to the pass of its round,
of which one with 255 entries is not the last; a port that is not UP takes nothing, and any packet that one takes is owed
an ACK. A result that lies too far ahead is refused, with PROGRAM (02 R63). -/
def Obligations.ResultsAndDecisions : Prop :=
  (
  ∀ (s : State),
    (∀ (id : Nat) (u : Nat × Nat × Result), s.fab.units.find? (·.1 == id) = some u →
      (s.now < u.2.1 ∨ s.unitFirst id = false → exec (.resultArrive id) s = .next s) ∧
      (u.2.1 ≤ s.now → s.unitFirst id = true → ∀ x, s.slots.find? (fun x => x.2.queue.any (·.id == id)) = some x →
        exec (.resultArrive id) s = .next (s.updSlot x.1 fun y => { y with queue := y.queue.map fun b =>
          if b.id = id ∧ b.result = none then { b with result := some u.2.2 } else b }))) ∧
    ∀ (i : Fin 512) (p : Nat) (b : Binding), s.slotOwner i.val = some p → (∀ c, (s.qtz c).st ≠ .stallMeas) →
      (s.slot i.val).queue = [b] → s.bit (DEC_SLOTCFG i.val) 6 = false → s.bit (DEC_SLOTCFG i.val) 7 = false →
      (s.graph p).valid = false →
      let commits := fun (t : State) (r : Result) =>
        t.slot i.val = { value := r, queue := [], commits := (s.slot i.val).commits + 1, validAt := s.now
                         hist := (b.id, r.state.toNat, s.now) :: (s.slot i.val).hist } ∧
        (∀ k, k ≠ i.val → t.slot k = s.slot k) ∧
        t = { s with slots := t.slots, fab := { s.fab with units := t.fab.units }, parts := t.parts, regs := t.regs }
      (b.result = none → exec (.bindingCommit i) s = .next s) ∧
      (∀ r, b.result = some r → (∀ u ∈ s.fab.units, u.1 = b.id → u.2.1 + 2 ≤ s.now) →
        Answers (.bindingCommit i) s fun t => commits t r ∧ RegsBut s t (recordRegs p) ∧
          ((s.part p).mode ≠ .shot → (s.part p).attempt.active = false → t.parts = s.parts ∧ t.regs = s.regs)) ∧
      (∀ r, b.result = some r → (∃ u ∈ s.fab.units, u.1 = b.id ∧ s.now < u.2.1 + 2) →
        exec (.bindingCommit i) s = .next s) ∧
      (b.result = none → s.slotSrc i.val = 1 → (s.part p).attempt.active = true → (s.part p).mode = .shot →
        (s.now < (s.part p).attempt.s + s.fld DEC_FWDTMO 15 0 → exec (.forwardTimeout i) s = .next s) ∧
        ((s.part p).attempt.s + s.fld DEC_FWDTMO 15 0 ≤ s.now → (∀ u ∈ s.fab.units, u.1 ≠ b.id) →
          Answers (.forwardTimeout i) s fun t =>
            (∃ r : Result, commits t r ∧ r.state = 3#2 ∧ tagBit r.tag 4 = true) ∧ RegsBut s t (recordRegs p) ∧
            ∃ x ∈ (t.part p).attempt.taints, x.cause = 3 ∧ x.tick = s.now))
  ) ∧ (
  ∀ (s : State) (q : Fin 4) (h : Head) (r : ResultPkt) (b : BarrierPkt) (v : VerdictPkt) (m : SeamPkt),
    let cmds : List (Instr × DecideBody) :=
      [(.meshResult q h r, .result h r), (.meshBarrier q h b, .barrier h b), (.meshVerdict q h v, .verdict h v),
       (.meshSeam q h m, .seam h m)]
    (s.nPort ≤ q.val ∨ s.portState q.val ≠ 4 → ∀ x ∈ cmds, exec x.1 s = .next s) ∧
    (q.val < s.nPort → s.portState q.val = 4 →
      let owes := s.updPort q.val fun x => { x with ackOwed := true }
      let drop := owes.setN (MESH_DROP q.val) (min (s.regN (MESH_DROP q.val) + 1) (2 ^ 32 - 1))
      (h.legal = false → ∀ x ∈ cmds, exec x.1 s = .next drop) ∧
      (h.legal = true → h.dst.val ≠ s.devId → h.hops.val = 0 → ∀ x ∈ cmds, exec x.1 s = .next drop) ∧
      (h.legal = true → h.dst.val = s.devId → (∀ d ∈ s.dueq, s.decideReady d = false) → ∀ x ∈ cmds,
        s.now < s.fullDue x.2.due → exec x.1 s =
          .next { owes with dueq := s.dueq ++ [{ port := q.val, due := s.fullDue x.2.due, late := false, body := x.2 }] })) ∧
    ((∀ d ∈ s.dueq, s.decideReady d = false) → exec .decideDue s = .next s) ∧
    (∀ d : Decide, s.dueq = [d] → d.due ≤ s.now →
      let p := h.dpart.val
      let a := (s.part p).attempt
      (d.body = .barrier h b → s.spanIs p b.span = true →
        let key := h.src.val + 64 * bn b.shotKind + 128 * b.id.toNat + 32768 * b.shot.toNat
        (key ∉ (s.part p).barrierOwed → exec .decideDue s = .next (({ s with dueq := [] } : State).updPart p fun x =>
          { x with barrierTl := x.barrierTl ++ [(key, b.tl.toNat)] })) ∧
        (key ∈ (s.part p).barrierOwed → exec .decideDue s = .next (({ s with dueq := [] } : State).updPart p fun x =>
          { x with barrierOwed := x.barrierOwed.erase key }))) ∧
      (d.body = .verdict h v → s.spanIs p v.span = true → a.active = true → v.shot.toNat = a.shotNo → v.attempt.toNat = a.num →
        exec .decideDue s = .next (({ s with dueq := [] } : State).updPart p fun x => { x with attempt := { x.attempt with
          spanVerdicts := x.attempt.spanVerdicts ++ [(h.src.val, v.verdict.val, v.cause.toNat)] } })) ∧
      (∀ g, d.body = .seam h m → (s.graph p).run.busy = some g → g.num = m.round.toNat → (s.graph p).run.seamWait = true →
        exec .decideDue s = .next (({ s with dueq := [] } : State).updGraph p fun x => { x with run := { x.run with
          seam := x.run.seam ++ m.entries.map (fun e => (e.1.toNat, e.2.toNat))
          seamWait := decide (m.entries.length = 255) } })) ∧
      (d.body = .result h r → s.tooFar p (fullTime s.now (tagTime r.tag)) = true → a.active = true → (s.part p).mode = .shot →
        Answers .decideDue s fun t =>
          t.regN DEC_FWDRX = min (s.regN DEC_FWDRX + 1) (2 ^ 32 - 1) ∧ t.slots = s.slots ∧
          (∃ x ∈ (t.part p).attempt.taints, x.cause = 9 ∧ x.tick = s.now) ∧ RegsBut s t (DEC_FWDRX :: recordRegs p) ∧
          t = { s with dueq := [], regs := t.regs, parts := t.parts }) ∧
      (d.body = .result h r → s.tooFar p (fullTime s.now (tagTime r.tag)) = false →
        (s.slotOwner r.dslot.val ≠ some p ∨ s.slotSrc r.dslot.val ≠ 1 ∨ a.active = false) →
        Answers .decideDue s fun t =>
          t.regN DEC_FWDRX = min (s.regN DEC_FWDRX + 1) (2 ^ 32 - 1) ∧
          t.regN DEC_FWDLOST = min (s.regN DEC_FWDLOST + 1) (2 ^ 32 - 1) ∧ t.slots = s.slots ∧
          RegsBut s t [DEC_FWDRX, DEC_FWDLOST] ∧ t = { s with dueq := [], regs := t.regs, parts := t.parts }) ∧
      (∀ k : Binding, d.body = .result h r → s.tooFar p (fullTime s.now (tagTime r.tag)) = false → d.late = false →
        s.slotOwner r.dslot.val = some p → s.slotSrc r.dslot.val = 1 →
        a.active = true → bits r.tag.toNat 31 20 = a.shotNo % 4096 → (s.slot r.dslot.val).queue = [k] → k.result = none →
        s.bit TIME_STAT 4 = false → (∀ u ∈ s.fab.units, u.1 ≠ k.id) → (∀ c, (s.qtz c).st ≠ .stallMeas) →
        (s.graph p).valid = false → s.bit (DEC_SLOTCFG r.dslot.val) 6 = false → s.bit (DEC_SLOTCFG r.dslot.val) 7 = false →
        Answers .decideDue s fun t =>
          (t.slot r.dslot.val).value = { state := r.state, i := r.i, q := r.q, tag := r.tag } ∧
          (t.slot r.dslot.val).commits = (s.slot r.dslot.val).commits + 1 ∧ (t.slot r.dslot.val).queue = [] ∧
          t.regN DEC_FWDRX = min (s.regN DEC_FWDRX + 1) (2 ^ 32 - 1) ∧ (∀ k, k ≠ r.dslot.val → t.slot k = s.slot k)))
  )

/-- 08 R261, R264, R265, R268, R269: an update moves a value by at most STEP and never beyond RANGE of its reference;
FREEZE waits for the shot boundary; RESTART clears the sums and the loop is HOLDING; a due FREQ loop starts shot A, whose
events are each issued 2,048 ticks before their own instant, and a pair that is over counts when it is clean; a pair that
cannot run suspends the loop. -/
def Obligations.TrackingLoops : Prop :=
  ∀ (s : State) (l : Fin 64),
    (∀ cur aim ref : Int, let m := s.trkMove l.val cur aim ref
      (ref - s.trkRange l.val ≤ m.1 ∧ m.1 ≤ ref + s.trkRange l.val) ∧
      (m.2 = 1 → m.1 = aim) ∧ (m.2 = 2 → (m.1 - cur).natAbs = s.trkStep l.val) ∧
      (m.2 = 3 → m.1 = ref - s.trkRange l.val ∨ m.1 = ref + s.trkRange l.val) ∧ (m.2 = 1 ∨ m.2 = 2 ∨ m.2 = 3)) ∧
    (s.opened → s.bit (DEC_TRKCFG l.val) 2 = true →
      (∀ on : Bool, s.bit (DEC_TRKCTL l.val) 0 ≠ on → Answers (.trkFreeze l on) s fun t =>
        t.bit (DEC_TRKCTL l.val) 0 = on ∧ t.loop l.val = { s.loop l.val with freezePend := some on } ∧
        (∀ k, k ≠ l.val → t.loop k = s.loop k) ∧ RegsBut s t [DEC_TRKCTL l.val] ∧ t = { s with regs := t.regs, loops := t.loops }) ∧
      Answers (.trkRestart l) s fun t =>
        t.loop l.val = { (s.loop l.val).clear with state := 1 } ∧ (∀ k, k ≠ l.val → t.loop k = s.loop k) ∧
        t.regs = s.regs ∧ t = { s with loops := t.loops, parts := t.parts }) ∧
    (let p := s.trkOwner l.val
     let q := s.part p
     let reset := s.fld (DEC_TRKRESET l.val) 23 0
     (s.loopsOf p).contains l.val = true → q.mode = .shot → q.job.isSome = true →
     (q.probe = none → (s.loop l.val).due = false → exec (.probeShot l) s = .next s) ∧
     (q.probe = none → (s.loop l.val).due = true → q.attempt.active = false → s.trkLive l.val = true →
       ((s.loopsOf p).find? fun k => (s.loop k).due) = some l.val →
       let t0 := max (q.prevE.getD 0 + reset) (q.attempt.localDone.getD 0 + 2048)
       let obj := s.fld (DEC_TRKPROBE l.val) 15 0
       let ch := s.fld (DEC_TRKPROBE2 l.val) 5 0
       let ok := s.reserveUsed < 4096 ∧ s.devPulseOk p obj ch t0 = true
       (s.now + 2048 < t0 → exec (.probeShot l) s = .next s) ∧
       (t0 ≤ s.now + 2048 → s.now + 2048 < t0 + s.fld (DEC_TRKTAU l.val) 19 0 + 16 → (∀ k, (s.loop k).fwPend = none) →
         (ok → Answers (.probeShot l) s fun t =>
           (t.part p).probe = some (l.val, false) ∧ (t.part p).attempt.active = true ∧ (t.part p).attempt.s = t0 ∧
           (t.part p).attempt.e = some (s.probeWindow l.val p t0).we ∧
           (∃ u ∈ t.fab.pulses, u ∉ s.fab.pulses ∧ u.part = p ∧ u.ch = ch ∧ u.obj = obj ∧ u.start = 32 * t0) ∧
           (∃ t1 k, ((t.part p).probeActs.head?) = some (t1, k) ∧ s.now + 2048 < t1) ∧
           (t.part p).ckpt.valid = true ∧ t.cores = s.cores ∧ t.rings = s.rings ∧ t.slots = s.slots ∧ t.fab.wins = s.fab.wins) ∧
         (¬ ok → q.holdReq = none → Answers (.probeShot l) s fun t =>
           (t.loop l.val).state = 5 ∧ (t.loop l.val).due = false ∧ (t.part p).probe = none ∧ t.fab = s.fab ∧
           (∀ k, k ≠ l.val → t.loop k = s.loop k) ∧ t = { s with loops := t.loops, parts := t.parts }))) ∧
     (∀ b t1 n, q.probe = some (l.val, b) → q.probeActs = [(t1, .window n)] →
       (s.now + 2048 < t1 → Answers (.probeShot l) s fun t =>
         (t.part p).probeActs = q.probeActs ∧ t.fab = s.fab ∧ PartsBut s t [] ∧ t = { s with parts := t.parts }) ∧
       (t1 ≤ s.now + 2048 → s.probeActOk l.val p t1 (.window n) = true → Answers (.probeShot l) s fun t =>
         (∃ w, t.fab.wins = s.fab.wins ++ [w] ∧ w.part = p ∧ w.tl = t1 ∧ w.slot = s.fld (DEC_TRKPROBE2 l.val) 24 16 ∧
           (t.slot w.slot).queue = (s.slot w.slot).queue ++ [{ id := w.id, core := 255 }]) ∧
         (t.part p).probeActs = [] ∧ (t.part p).probe = q.probe ∧
         t = { s with fab := t.fab, slots := t.slots, parts := t.parts })) ∧
     (q.probe = some (l.val, true) → q.probeActs = [] → s.probeOver p = true → q.holdReq = none →
       Answers (.probeShot l) s fun t =>
       (t.part p).probe = none ∧ (t.part p).attempt.active = false ∧ (t.part p).prevE = q.attempt.e ∧
       (t.loop l.val).due = false ∧ (q.attempt.taints ≠ [] → (t.loop l.val).pairs = (s.loop l.val).pairs) ∧
       (t.loop l.val).pairs ≤ (s.loop l.val).pairs + 1 ∧ t = { s with loops := t.loops, parts := t.parts }))

/-- 08 R279 to R281: a pass takes the oldest round of the backlog; at its end the qubit records toggle where an odd
number of finalised correction edges names the qubit; π is added to a frame at its due tick, after the program's writes
of that instant; a round whose pass has not ended 2,048 ticks on taints its attempt with DECODE_LATE. -/
def Obligations.GarnetPasses : Prop :=
  ∀ (s : State) (p : Fin 8),
    let g := s.graph p.val
    (g.run.busy.isSome = true ∨ g.run.backlog = [] → exec (.decodePass p) s = .next s) ∧
    (∀ r l, g.valid = true → g.seam = false → g.run.busy = none → g.run.backlog = r :: l → exec (.decodePass p) s =
      .next (s.updGraph p.val fun x => { x with run := { x.run with backlog := l, busy := some r, seamWait := false
                                                                    window := if r.final then x.run.window else
                                                                      x.run.window ++ [r] } })) ∧
    (g.run.busy = none ∨ g.run.seamWait = true → exec (.decodePassEnd p) s = .next s) ∧
    (∀ r, g.run.busy = some r → g.run.seamWait = false → g.seam = false → g.run.seam = [] → r.final = false →
      Answers (.decodePassEnd p) s fun t =>
        let own := if g.win ≤ g.run.window.length then
          ((g.decode g.run.window none (g.defects g.run.window none)).filter fun e =>
            (0 < e.u && e.u ≤ g.layer.length) || (0 < e.v && e.v ≤ g.layer.length)).map (·.e) else []
        let odd := fun (bit q : Nat) => (own.filter fun e => bitOf e.pauli.toNat bit && e.qubit == q).length % 2 = 1
        let u := (t.graph p.val).run
        (∀ q, look (fun _ => false) u.xrec q = (look (fun _ => false) g.run.xrec q != decide (odd 10 q))) ∧
        (∀ q, look (fun _ => false) u.zrec q = (look (fun _ => false) g.run.zrec q != decide (odd 11 q))) ∧
        u.busy = none ∧ u.backlog = g.run.backlog ∧ (own = [] → u.obs = g.run.obs ∧ u.pauli = g.run.pauli) ∧
        (∀ x ∈ u.pauli, x ∈ g.run.pauli ∨ x.2 = s.now + 64) ∧
        t.regN (GARNET_ROUNDS p.val) = min (s.regN (GARNET_ROUNDS p.val) + 1) (2 ^ 32 - 1) ∧
        RegsBut s t [GARNET_ROUNDS p.val, GARNET_LASTLAT p.val, GARNET_LATMAX p.val] ∧
        (∀ k, k ≠ p.val → t.graph k = s.graph k) ∧ t = { s with graphs := t.graphs, regs := t.regs }) ∧
    (∀ f d, g.run.pauli = [(f, d)] →
      (s.now < d ∨ s.frameQueue f (32 * d) ≠ [] →
        Answers (.pauliFrameWrite p) s fun t => (∀ k, t.graph k = s.graph k) ∧ t = { s with graphs := t.graphs }) ∧
      (d ≤ s.now → s.frameQueue f (32 * d) = [] → s.conflicts f (32 * d) = [] → Answers (.pauliFrameWrite p) s fun t =>
        t.frame f = { s.frame f with ph := (s.frame f).ph + BitVec.ofNat 48 (2 ^ 47) } ∧
        (∀ k, k ≠ f → t.frame k = s.frame k) ∧ (t.graph p.val).run = { g.run with pauli := [] } ∧ RegsBut s t (recordRegs p.val) ∧
        t = { s with graphs := t.graphs, frames := t.frames, issued := t.issued,
                     fab := { s.fab with wins := t.fab.wins, past := t.fab.past }, parts := t.parts, regs := t.regs })) ∧
    (g.backlogMode = true → exec (.decodeLate p) s = .next s) ∧
    (∀ r, g.backlogMode = false → g.run.busy = some r → g.run.backlog = [] → r.late = false → r.final = false →
      r.doneAt + 2048 ≤ s.now → (∀ c, (s.qtz c).st ≠ .stallMeas) → (s.part p.val).mode = .shot →
      (s.part p.val).attempt.active = true → (s.part p.val).attempt.shotNo = r.shot → (s.part p.val).attempt.num = r.attempt →
      Answers (.decodeLate p) s fun t =>
        (t.graph p.val).run = { g.run with busy := some { r with late := true } } ∧
        (∃ x ∈ (t.part p.val).attempt.taints, x.cause = 6 ∧ x.tick = s.now) ∧
        t.regN (GARNET_LATE p.val) = min (s.regN (GARNET_LATE p.val) + 1) (2 ^ 32 - 1) ∧
        RegsBut s t (GARNET_LATE p.val :: recordRegs p.val) ∧ t = { s with graphs := t.graphs, parts := t.parts, regs := t.regs })

/-- 04 R145 to R148; 09 R284 to R287, R295: an attempt that is complete is delivered without a taint, replayed with
replayable ones below the limit, and else failed, where the journal has room for its VERDICT; a verdict exchange that a
span device does not end in time replays with LINK. 09 R289, R296 to R299: the journal's write, the release of delivered
records to the ring's queue, and the end of a coalescing period. -/
def Obligations.VerdictsAndJournal : Prop :=
  (
  ∀ (s : State) (p : Fin 8) (inputs : List FlintIn) (j : Job), (s.part p.val).job = some j → (s.part p.val).holdReq = none →
    let a := (s.part p.val).attempt
    let limit := s.fld (STRATA_CFG p.val) 3 0
    let counted := fun (t : State) (reg : Nat) => min (s.regN reg + 1) (2 ^ 32 - 1) ≤ t.regN reg
    let delivered := fun (t : State) =>
      (t.part p.val).attempt.active = false ∧ (t.part p.val).mode = .shot ∧
      (t.part p.val).job = some { j with delivered := j.delivered + 1 } ∧
      (∀ r ∈ a.recs, r ∈ (t.part p.val).relq) ∧ (t.part p.val).prevE = some (a.e.getD s.now) ∧ t.frames = s.frames
    let replayed := fun (t : State) =>
      (t.part p.val).attempt.active = false ∧ (t.part p.val).mode = .shot ∧ (t.part p.val).replay = true ∧
      (t.part p.val).job = some j ∧ counted t (STRATA_REPLAYS p.val) ∧ (t.part p.val).relq = (s.part p.val).relq ∧
      (∀ x ∈ (s.part p.val).ckpt.cores, (t.qtz x.1).st = .stallShot ∧ (t.qtz x.1).atShot = true ∧
        ∃ y ∈ (s.part p.val).ckpt.cores, y.1 = x.1 ∧ (t.qtz x.1).v = y.2.v)
    let failed := fun (t : State) =>
      (t.part p.val).attempt.active = false ∧ (t.part p.val).mode = .shot ∧
      (t.part p.val).job = some { j with failedShots := j.failedShots + 1 } ∧ counted t (STRATA_FAILS p.val) ∧
      (∀ x ∈ (s.part p.val).ckpt.cores, (t.qtz x.1).st = .running ∧ (t.qtz x.1).inShot = false ∧
        ∃ y ∈ (s.part p.val).ckpt.cores, y.1 = x.1 ∧ (t.qtz x.1).v = y.2.v)
    (s.attemptOver p.val = false → exec (.judgement p inputs) s = .next s) ∧
    (s.attemptOver p.val = true → s.spanOf p.val = none → fits (s.jappend p.val {}) p.val = true →
      (a.taints = [] → Answers (.judgement p inputs) s delivered) ∧
      (a.taints ≠ [] → (∀ x ∈ a.taints, x.cause < 7) → a.num < limit → Answers (.judgement p inputs) s replayed) ∧
      ((∃ x ∈ a.taints, 7 ≤ x.cause) ∨ (a.taints ≠ [] ∧ limit ≤ a.num) → Answers (.judgement p inputs) s failed)) ∧
    (∀ t0 c l, a.localDone = some t0 → a.active = true → (s.part p.val).probe = none → (s.part p.val).mode = .shot →
      s.cast p.val = c :: l → fits (s.jappend p.val {}) p.val = true → (∃ d ∈ s.spanDevs p.val, ∀ x ∈ a.spanVerdicts, x.1 ≠ d) →
      (s.now < t0 + s.fld (QTZ_SYNCTMO c) 19 0 → exec (.verdictTimeout p) s = .next s) ∧
      (t0 + s.fld (QTZ_SYNCTMO c) 19 0 ≤ s.now → a.num < limit → Answers (.verdictTimeout p) s replayed) ∧
      (t0 + s.fld (QTZ_SYNCTMO c) 19 0 ≤ s.now → limit ≤ a.num → Answers (.verdictTimeout p) s failed))
  ) ∧ (
  ∀ (s : State) (p : Fin 8),
    let q := s.part p.val
    (∀ e, q.jbuf = [e] → q.jused < s.fld (STRATA_JRATE p.val) 12 0 → s.jusedAll < 4096 → Answers (.journalWrite p) s fun t =>
      let i := if s.jarea p.val = 0 then 0 else q.jcount % s.jarea p.val
      look (fun _ => {}) (t.part p.val).journal i = e ∧
      (∀ k, k ≠ i → look (fun _ => {}) (t.part p.val).journal k = look (fun _ => {}) q.journal k) ∧
      t.part p.val = { q with jbuf := [], jcount := q.jcount + 1, jused := q.jused + 1, journal := (t.part p.val).journal
                              jopen := if e.typ = 1 then q.jcount else q.jopen } ∧
      PartsBut s t [p.val] ∧ t = { s with parts := t.parts }) ∧
    (s.fld (STRATA_JRATE p.val) 12 0 ≤ q.jused ∨ 4096 ≤ s.jusedAll → exec (.journalWrite p) s = .next s) ∧
    (∀ r, q.relq = [r] → (r.journalled = false ∨ q.waitq.length < s.ringFree p.val) → exec (.recordRelease p) s =
      .next (s.updPart p.val fun x => { x with relq := [], waitq := x.waitq ++ [r]
                                               relMarks := if r.journalled then relOne x.relMarks else x.relMarks })) ∧
    (∀ r l, q.relq = r :: l → r.journalled = true → s.ringFree p.val ≤ q.waitq.length → exec (.recordRelease p) s = .next s) ∧
    (∀ key t0 r n, s.ev.quiet = [(key, t0, r, n)] →
      (s.now < t0 + 640000 → exec (.coalescePeriodEnd 8 key) s = .next s) ∧
      (t0 + 640000 ≤ s.now → n = 0 →
        exec (.coalescePeriodEnd 8 key) s = .next { s with ev := { s.ev with quiet := [] } }) ∧
      (t0 + 640000 ≤ s.now → n ≠ 0 → s.ev.waitq.length < 256 → exec (.coalescePeriodEnd 8 key) s =
        .next { s with ev := { s.ev with quiet := [(key, s.now, r, 0)], waitq := s.ev.waitq ++ [r.withCount n] } })) ∧
    (∀ (f : Fin 8) key t0 r n, (s.part f.val).quiet = [(key, t0, r, n)] → t0 + 640000 ≤ s.now → n = 0 →
      exec (.coalescePeriodEnd ⟨f.val, by omega⟩ key) s = .next (s.updPart f.val fun x => { x with quiet := [] }))
  )

/-- 09 R301 to R305; 05 R179; 06 R196, R209: an error is counted against its resource; at K errors within W the resource
is retired and one record says so: a channel goes OFF, the tone or demodulation lane named is withdrawn, an input channel
powers down, a Mica core halts. Every error of a resource that is never retired is reported to its owner or on PF0, and K
of them set a status bit. A resource that the variant lacks, or that is retired, has no errors. -/
def Obligations.HardwareErrors : Prop :=
  ∀ (s : State) (kind : Byte) (i : BitVec 24), kind ≠ 8#8 →
    let k := resource kind.toNat i.toNat
    let times := s.now :: (s.err k).times.filter fun t => decide (s.now ≤ t + 640000 * s.fld STRATA_PERM 31 16)
    let cmd := Instr.hardwareError kind i 0
    (s.resExists kind.toNat i.toNat = false ∨ (s.err k).retired = true → exec cmd s = .next s) ∧
    (s.resExists kind.toNat i.toNat = true → (s.err k).retired = false →
      (retirable kind.toNat = true → times.length < s.fld STRATA_PERM 3 0 →
        exec cmd s = .next (s.updErr k fun e => { e with times := times })) ∧
      (s.fld STRATA_PERM 3 0 ≤ times.length →
        (kind = 1#8 → s.bit (OCH_STAT i.toNat) 3 = false → Answers cmd s fun t =>
          (t.err k).retired = true ∧ t.bit (OCH_STAT i.toNat) 3 = true ∧ t.ochState i.toNat = 0 ∧
          (∀ n, n ≠ k → t.err n = s.err n) ∧ (∀ n < 64, n ≠ i.toNat → t.reg (OCH_STAT n) = s.reg (OCH_STAT n))) ∧
        (kind = 3#8 → s.bit (ICH_STAT i.toNat) 3 = false → Answers cmd s fun t =>
          (t.err k).retired = true ∧ t.bit (ICH_STAT i.toNat) 3 = true ∧ t.bit (ICH_STAT i.toNat) 0 = false ∧
          (∀ n, n ≠ k → t.err n = s.err n)) ∧
        (kind = 5#8 → Answers cmd s fun t =>
          (t.err k).retired = true ∧ (t.mica i.toNat).stopped = true ∧ (∀ n, n ≠ i.toNat → t.mica n = s.mica n) ∧
          (∀ n, n ≠ k → t.err n = s.err n)) ∧
        (kind = 2#8 → 1 < s.fld (OCH_STAT (i.toNat % 64)) 12 8 → Answers cmd s fun t =>
          t.toneRetired (i.toNat % 64) (i.toNat / 64) = true ∧
          t.fld (OCH_STAT (i.toNat % 64)) 12 8 = s.fld (OCH_STAT (i.toNat % 64)) 12 8 - 1 ∧
          t.ochState (i.toNat % 64) = s.ochState (i.toNat % 64) ∧ (∀ n, n ≠ k → t.err n = s.err n)) ∧
        (kind = 4#8 → 1 < s.groupLanes (i.toNat % 64) → Answers cmd s fun t =>
          t.demodRetired (i.toNat % 64) (i.toNat / 64) = true ∧
          t.groupLanes (i.toNat % 64) = s.groupLanes (i.toNat % 64) - 1 ∧
          t.bit (ICH_STAT (i.toNat % 64 / 4)) 0 = s.bit (ICH_STAT (i.toNat % 64 / 4)) 0 ∧ (∀ n, n ≠ k → t.err n = s.err n))) ∧
      (retirable kind.toNat = false →
        let r := fun job => errorRec 8 0 1 job 0#64 s.now k times.length
        let stat := fun t : State => (t.err k) = { s.err k with times := times } ∧ (∀ n, n ≠ k → t.err n = s.err n) ∧
          t.bit STRATA_STAT 0 = (s.bit STRATA_STAT 0 || decide (s.fld STRATA_PERM 3 0 ≤ times.length))
        (s.resOwner kind.toNat i.toNat = none → s.ev.waitq.length - s.evFree < 256 → Answers cmd s fun t =>
          stat t ∧ t.ev = { s.ev with waitq := s.ev.waitq ++ [r 0] } ∧ RegsBut s t [STRATA_STAT] ∧
          t = { s with errs := t.errs, regs := t.regs, before := t.before, ev := t.ev }) ∧
        (∀ p : Fin 8, s.resOwner kind.toNat i.toNat = some p.val → s.queued p.val < 192 → Answers cmd s fun t =>
          stat t ∧ t.part p.val = { s.part p.val with waitq := (s.part p.val).waitq ++ [r (s.jobNum p.val)] } ∧
          PartsBut s t [p.val] ∧ RegsBut s t [STRATA_STAT] ∧
          t = { s with errs := t.errs, regs := t.regs, before := t.before, parts := t.parts })))

/-- 11 R337, R341, R351, R353: maintenance of a channel that runs. A refresh closes the rows of the banks of its number
and issues their directed refreshes, in the fallback by activating the rows next to each; an access moves the bank's
predictor, and one that activates a row may queue a directed refresh, up to four; an idle bank closes its row. A channel
in self-refresh, or that the variant lacks, takes nothing. 11 R336, R343 to R348: reads and writes with errors, the scrub
and the remap of a retired page. A write goes to the channel of its block, and a fourth failed write leaves the burst
poisoned; a reader of uncorrectable data is told. Page errors below K are only counted. 11 R357 to R359: deep HOLD is
requested only with every partition in HOLD and nothing posted, entered with every bank's row closed and every channel in
self-refresh, and left by a write of 0. -/
def Obligations.Memory : Prop :=
  (
  ∀ (s : State) (c : Fin 8) (hot : Bool) (b32 : Fin 32) (b64 : Fin 64) (row : Nat),
    (s.memOn c.val = false →
      ∀ x ∈ [Instr.mr4Poll c hot, .zqCalibration c, .dqsTracking c, .memRefresh c b32, .rowIdleClose c b64,
        .neighbourRefresh c b64 row], exec x s = .next s) ∧
    (∀ r < 65536, ∀ n, n ∈ neighbours r ↔ n < 65536 ∧ (n + 1 = r ∨ n = r + 1)) ∧
    (s.memOn c.val = true →
      let closed := fun b : Bank => { b with row := none, pending := [], refreshed :=
        if b.pending = [] then b.refreshed else if s.bit (MEM_CHSTAT c.val) 9 then [] else b.pending.flatMap neighbours }
      exec (.mr4Poll c hot) s = .next (({ s with mem := { s.mem with
        interval := put (fun _ => false) s.mem.interval c.val hot } } : State).setBit (MEM_CHSTAT c.val) 8 hot) ∧
      exec (.zqCalibration c) s = .next { s with mem := { s.mem with
        zq := put (fun _ => 0) s.mem.zq c.val (look (fun _ => 0) s.mem.zq c.val + 1) } } ∧
      exec (.dqsTracking c) s = .next { s with mem := { s.mem with
        dqs := put (fun _ => 0) s.mem.dqs c.val (look (fun _ => 0) s.mem.dqs c.val + 1) } } ∧
      (Answers (.memRefresh c b32) s fun t =>
        look (fun _ => 0) t.mem.refreshes c.val = look (fun _ => 0) s.mem.refreshes c.val + 1 ∧
        (∀ b < 64, b % 4 = b32.val % 4 → t.bank (64 * c.val + b) = closed (s.bank (64 * c.val + b))) ∧
        (∀ d, (∀ b < 64, b % 4 = b32.val % 4 → d ≠ 64 * c.val + b) → t.bank d = s.bank d) ∧
        RegsBut s t [MEM_NRCNT c.val] ∧
        t = { s with regs := t.regs, mem := { s.mem with refreshes := t.mem.refreshes, banks := t.mem.banks } }) ∧
      (Answers (.rowIdleClose c b64) s fun t =>
        let i := 64 * c.val + b64.val
        t.bank i = closed (s.bank i) ∧ (∀ d, d ≠ i → t.bank d = s.bank d) ∧
        t.regN (MEM_NRCNT c.val) = min (s.regN (MEM_NRCNT c.val) + (s.bank i).pending.length) (2 ^ 32 - 1) ∧
        RegsBut s t [MEM_NRCNT c.val] ∧ t = { s with regs := t.regs, mem := { s.mem with banks := t.mem.banks } }) ∧
      let i := 64 * c.val + b64.val
      let b := s.bank i
      let pol := s.fld MEM_CFG 1 0
      let counted := fun (t : State) (reg : Nat) => t.regN reg = min (s.regN reg + 1) (2 ^ 32 - 1)
      (b.row = some row → Answers (.neighbourRefresh c b64 row) s fun t =>
        t.bank i = b.access row pol ∧ (∀ d, d ≠ i → t.bank d = s.bank d) ∧ counted t (MEM_PHIT c.val) ∧
        RegsBut s t [MEM_PHIT c.val] ∧ t = { s with regs := t.regs, mem := { s.mem with banks := t.mem.banks } }) ∧
      (b.row ≠ some row → Answers (.neighbourRefresh c b64 row) s fun t =>
        let cnt := if b.row = none then MEM_PEMPTY c.val else MEM_PCONF c.val
        let smp := Config.activateSampled s.fab.freeN
        t.bank i = { b.access row pol with pending := if smp && decide (b.pending.length < 4) then b.pending ++ [row] else b.pending } ∧
        (∀ d, d ≠ i → t.bank d = s.bank d) ∧ counted t cnt ∧
        (smp = true → 4 ≤ b.pending.length → counted t (MEM_NRDROP c.val) ∧ t.bit MEM_STAT 6 = true) ∧
        RegsBut s t [cnt, MEM_NRDROP c.val, MEM_STAT] ∧
        t = { s with
              regs := t.regs, before := t.before, fab := { s.fab with freeN := s.fab.freeN + 1 }
              mem := { s.mem with banks := t.mem.banks } })) ∧
    ∀ (b : Bank) (r : Nat), b.hist.toNat < 16 →
      let c0 := (look (fun _ => 1#2) b.ctr b.hist.toNat).toNat
      let a := fun pol : Nat => b.access r pol
      (∀ pol, (a pol).last = r ∧ (a pol).pending = b.pending ∧ (a pol).hist = (b.hist <<< 1) ||| (if r = b.last then 1#4 else 0#4) ∧
        (look (fun _ => 1#2) (a pol).ctr b.hist.toNat).toNat = (if r = b.last then min (c0 + 1) 3 else c0 - 1) ∧
        ∀ h, h ≠ b.hist.toNat → look (fun _ => 1#2) (a pol).ctr h = look (fun _ => 1#2) b.ctr h) ∧
      (a 1).row = none ∧ (a 2).row = some r ∧
      ((a 0).row = some r ↔ 2 ≤ (look (fun _ => 1#2) (a 0).ctr (a 0).hist.toNat).toNat)
  ) ∧ (
  (∀ (s : State) (c : Fin 8) (page burst n : Nat), s.memOn c.val = true →
    let few := (s.err (pageKey page)).retired = false ∧ (s.regionOf page = 0 ∨
      ((s.err (pageKey page)).times.filter fun t => decide (s.now ≤ t + 640000 * s.fld STRATA_PERM 31 16)).length + 1 < s.permK)
    let one := fun (t : State) (reg : Nat) =>
      t.regN reg = min (s.regN reg + 1) (2 ^ 32 - 1) ∧ RegsBut s t [reg] ∧
      look (fun _ => 0) t.mem.pages page = look (fun _ => 0) s.mem.pages page + 1 ∧
      (∀ k, k ≠ page → look (fun _ => 0) t.mem.pages k = look (fun _ => 0) s.mem.pages k) ∧
      (t.err (pageKey page)).times.head? = some s.now ∧ (∀ k, k ≠ pageKey page → t.err k = s.err k) ∧
      t.mem = { s.mem with pages := t.mem.pages }
    (few → Answers (.correctedRead c page) s fun t =>
      one t (MEM_CECNT c.val) ∧ t = { s with regs := t.regs, errs := t.errs, mem := t.mem }) ∧
    (few → Answers (.uncorrectableRead c page .window) s fun t =>
      one t (MEM_UECNT c.val) ∧ t.rd.poisoned = true ∧
      t = { s with regs := t.regs, errs := t.errs, mem := t.mem, rd := { s.rd with poisoned := true } }) ∧
    (few → ∀ (r : Fin 32) (x : CapRec) (l : List CapRec), (s.ring r.val).recs = x :: l →
      Answers (.uncorrectableRead c page (.drain r)) s fun t =>
        one t (MEM_UECNT c.val) ∧ t.ring r.val = { s.ring r.val with recs := { x with poison := true, badPage := page } :: l } ∧
        (∀ k, k ≠ r.val → t.ring k = s.ring k) ∧
        t = { s with regs := t.regs, errs := t.errs, mem := t.mem, rings := t.rings }) ∧
    (burst / 64 ≠ page ∨ s.blockChannel (burst / 4) ≠ c.val → exec (.writeCrcError c page burst n) s = .next s) ∧
    (burst / 64 = page → s.blockChannel (burst / 4) = c.val → 4 ≤ n → Answers (.writeCrcError c page burst n) s fun t =>
      burst ∈ t.mem.poisoned ∧ (∀ x, x ≠ burst → (x ∈ t.mem.poisoned ↔ x ∈ s.mem.poisoned)) ∧ t.parts = s.parts ∧
      min (s.regN (MEM_CRCFAIL c.val) + 1) (2 ^ 32 - 1) ≤ t.regN (MEM_CRCFAIL c.val)) ∧
    (burst / 64 = page → s.blockChannel (burst / 4) = c.val → n = 0 → Answers (.writeCrcError c page burst n) s fun t =>
      burst ∉ t.mem.poisoned ∧ (∀ x, x ≠ burst → (x ∈ t.mem.poisoned ↔ x ∈ s.mem.poisoned)) ∧
      t = { s with regs := t.regs, mem := { s.mem with poisoned := t.mem.poisoned } }) ∧
    (s.bit MEM_CFG 9 = true → 0 < s.regionPages → s.deep = 0 → c.val < s.nChan →
      exec (.memScrub false false c) s = .next { s with mem := { s.mem with scrubAt := (s.mem.scrubAt + 1) % s.regionPages } }) ∧
    (s.bit MEM_CFG 9 = false → exec (.memScrub true true c) s = .next s)) ∧
  ∀ (s : State) (page : Nat),
    (page ∈ s.mem.copying → exec (.pageRemap page) s = .next { s with mem := { s.mem with
      copying := s.mem.copying.filter (· != page), remaps := put (fun _ => 0) s.mem.remaps page (1 + s.regionOf page) } }) ∧
    (page ∉ s.mem.copying → exec (.pageRemap page) s = .next s)
  ) ∧ (
  ∀ (s : State),
    (s.opened → s.deep = 0 →
      (s.deepOk = true → Answers .deepReq s fun t => t.deep = 1 ∧ t.bit MEM_CTRL 0 = true ∧ t.bit MEM_STAT 2 = s.bit MEM_STAT 2 ∧
        RegsBut s t [MEM_CTRL, MEM_STAT] ∧ t = { s with regs := t.regs }) ∧
      (s.deepOk = false → Answers .deepReq s fun t => t.deep = 0 ∧ t.bit MEM_CTRL 0 = false ∧ t.bit MEM_STAT 2 = true ∧
        RegsBut s t [MEM_CTRL, MEM_STAT] ∧ t = { s with regs := t.regs, before := t.before })) ∧
    ((∃ p < s.nPart, (s.part p).mode ≠ .hold ∨ (s.part p).posted ≠ (s.part p).taken) → s.deepOk = false) ∧
    (s.deep ≠ 1 → exec .deepEntry s = .next s) ∧
    (s.deep = 1 → Answers .deepEntry s fun t =>
      t.deep = 2 ∧ t.pins = { s.pins with phyIdle := true } ∧
      (∀ c < s.nChan, t.bit (MEM_CHSTAT c) 7 = true ∧ ∀ b < 64, (t.bank (64 * c + b)).row = none ∧ (t.bank (64 * c + b)).pending = []) ∧
      t = { s with regs := t.regs, pins := t.pins, mem := { s.mem with banks := t.mem.banks } }) ∧
    (s.opened → s.deep = 1 ∨ s.deep = 2 → Answers .deepExit s fun t =>
      t.deep = 3 ∧ t.bit MEM_CTRL 0 = false ∧ t.pins = { s.pins with phyIdle := false } ∧ RegsBut s t [MEM_CTRL, MEM_STAT] ∧
      t = { s with regs := t.regs, pins := t.pins })
  )

/-- 10 R318 to R320, R324; 13 R400: a capture job does what its block asks, or is refused with a code and changes nothing
but the partition's job and records; it ends with its completion record. 10 R320, R322 to R324: an ARMING request arms
once its ring has the room; a trigger of its source is registered for an armed request, at the earliest tick of one
tick's triggers, and is only counted for one that does not acquire or has a burst; a registered trigger starts its burst,
and is counted; a burst whose last block is written ends its request, or lets it arm again while COUNT lasts. -/
def Obligations.CaptureJobsAndTriggers : Prop :=
  (
  ∀ (s : State) (p : Fin 8) (b : List Byte),
    ((s.part p.val).mode = .hold ∨ ((s.part p.val).holdReq = none ∧ (s.part p.val).posted ≠ (s.part p.val).taken)) →
    let r := le b 1 1
    let ended := fun t : State => (t.part p.val).job = none ∧ PartsBut s t [p.val] ∧ (t.part p.val).mode = (s.part p.val).mode
    (∀ x ∈ [(Instr.attach p b, 1, s.attachCode p.val b), (.armRaw p b, 2, s.armCode p.val b), (.disarm p b, 3, s.disarmCode p.val b),
        (.detach p b, 4, s.detachCode p.val b)],
      (s.capJob p.val x.2.1 = false → exec x.1 s = .next s) ∧
      (s.capJob p.val x.2.1 = true → x.2.2 ≠ none → Answers x.1 s fun t => ended t ∧ t = { s with parts := t.parts })) ∧
    (s.capJob p.val 1 = true → s.attachCode p.val b = none → Answers (.attach p b) s fun t => ended t ∧
      t.ring r = { s.ring r with host := some (BitVec.ofNat 64 (le b 8 8), le b 16 4, BitVec.ofNat 64 (le b 24 8))
                                 out := [], drained := 0, consumed := 0 } ∧
      (∀ k, k ≠ r → t.ring k = s.ring k) ∧ t = { s with parts := t.parts, rings := t.rings }) ∧
    (s.capJob p.val 4 = true → s.detachCode p.val b = none → Answers (.detach p b) s fun t => ended t ∧
      t.ring r = { s.ring r with host := none } ∧ (∀ k, k ≠ r → t.ring k = s.ring k) ∧
      t = { s with parts := t.parts, rings := t.rings }) ∧
    (s.capJob p.val 2 = true → s.armCode p.val b = none → Answers (.armRaw p b) s fun t => ended t ∧
      (∃ q, t.reqs = s.reqs ++ [q] ∧ q.key = (parseReq p.val b).key ∧ q.ring = r ∧ q.need = (parseReq p.val b).need ∧
        (q.armed = true ↔ (parseReq p.val b).need + 2 ≤ s.ringSpace r) ∧ (q.armed = true → q.resv = q.need)) ∧
      t = { s with parts := t.parts, reqs := t.reqs }) ∧
    (s.capJob p.val 3 = true → s.disarmCode p.val b = none → Answers (.disarm p b) s fun t => ended t ∧
      (∀ q ∈ t.reqs, q.key ≠ 65536 * p.val + le b 2 2) ∧ (∀ q ∈ s.reqs, q.key ≠ 65536 * p.val + le b 2 2 → q ∈ t.reqs) ∧
      t = { s with parts := t.parts, reqs := t.reqs, rings := t.rings, regs := t.regs, before := t.before })
  ) ∧ (
  (∀ s : State, (s.pins.trigLow = 0 → exec (.trigIn true) s = .next s ∧
      exec (.trigIn false) s = .next { s with pins := { s.pins with trigLow := s.now + 1 } }) ∧
    (s.pins.trigLow ≠ 0 → exec (.trigIn false) s = .next s)) ∧
  ∀ (s : State) (p : Fin 8) (id : BitVec 16) (q : Req), s.reqs = [q] → q.key = 65536 * p.val + id.toNat → q.part = p.val →
    (q.armed = false → q.need + 2 ≤ s.ringSpace q.ring → exec (.reservationHeld p id) s =
      .next { s with reqs := [{ q with armed := true, resv := q.need, since := s.now, zone := [] }] }) ∧
    (q.armed = true ∨ s.ringSpace q.ring < q.need + 2 → exec (.reservationHeld p id) s = .next s) ∧
    (let ready := q.armed = true ∧ (s.part p.val).mode ≠ .hold ∧ q.burst = none ∧ s.time.lost = false
     let registered := { s with reqs := [{ q with trig := some (s.now, s.now) }] }
     let ignored := s.setN (CAP_TRIGIGN p.val) (min (s.regN (CAP_TRIGIGN p.val) + 1) (2 ^ 32 - 1))
     let low := fun t : State => { t with pins := { s.pins with trigLow := 0 } }
     (s.part p.val).rbusy = false →
     (q.tsrc = 0 → ready → q.trig = none → exec (.softwareTrigger p) s = .next registered) ∧
     (q.tsrc = 0 → ready → ∀ r u, q.trig = some (r, u) → u ≤ s.now → exec (.softwareTrigger p) s = .next s) ∧
     (q.tsrc = 0 → ¬ready → exec (.softwareTrigger p) s = .next ignored) ∧
     (q.tsrc ≠ 0 → exec (.softwareTrigger p) s = .next s) ∧
     (s.pins.trigLow ≠ 0 → s.pins.trigLow + 1 ≤ s.now →
       (q.tsrc = 1 → ready → q.trig = none → exec (.trigIn true) s = .next (low registered)) ∧
       (q.tsrc = 1 → ¬ready → exec (.trigIn true) s = .next (low ignored)) ∧
       (q.tsrc ≠ 1 → exec (.trigIn true) s = .next (low s))) ∧
     (s.pins.trigLow = s.now → s.now ≠ 0 → exec (.trigIn true) s = .next (low s))) ∧
    (q.trig.isSome = true → q.burst = none → let t := s.beginBurst q.key
      (∃ u : Req, t.reqs = [u] ∧ u.key = q.key ∧ u.trig = none ∧ u.burst.isSome = true) ∧
      t.regN (CAP_TRIGCNT p.val) = min (s.regN (CAP_TRIGCNT p.val) + 1) (2 ^ 32 - 1) ∧
      t = { s with reqs := t.reqs, rings := t.rings, regs := t.regs, before := t.before, parts := t.parts }) ∧
    (∀ f e n, q.burst = some (f, e, n) →
      (n < e → exec (.burstComplete p id) s = .next s) ∧
      (e ≤ n → q.forever = false → q.count ≤ 1 → Answers (.burstComplete p id) s fun t =>
        t.reqs = [] ∧ (∀ k, k ≠ q.ring → t.ring k = s.ring k) ∧
        (t.ring q.ring).recs = (s.ring q.ring).recs.map (fun c => { c with hold := c.hold.filter (· != q.key) }) ∧
        t = { s with reqs := [], rings := t.rings }) ∧
      (e ≤ n → q.forever = true → Answers (.burstComplete p id) s fun t =>
        (∃ u : Req, t.reqs = [u] ∧ u.key = q.key ∧ u.burst = none ∧ u.bursts = q.bursts + 1 ∧ u.count = q.count) ∧
        t = { s with reqs := t.reqs, rings := t.rings }))
  )

/-- 10 R309, R313, R326 to R331; 12 R381, R382: a collection whose time has come becomes a record; a ring drains to its
host buffer, or over the mesh, in order and counts what it wrote; an open gap is written with its TIME record; a RECEIVE
ring takes BULK packets in RSEQ order and owes an ACK for each. Rings take their turns to drain, and a record that finds
no room on its way is counted lost. 10 R310, R316, R331: an open gap is written as a gap record and a TIME record, and
closes: one of RING_FULL once 2 units stay free behind them, any other with the next record of its source that is kept. -/
def Obligations.CaptureRingsAndGaps : Prop :=
  (
  ∀ (s : State) (r : Fin 32), s.ringTimeDue r.val = none → (s.ring r.val).gaps = [] →
    let g := s.ring r.val
    let p := s.fld (CAP_RCFG r.val) 2 0
    let kept := fun (t : State) (x : CapRec) (u : Ring) =>
      t.ring r.val = { u with recs := u.recs ++ [{ x with
        hold := (s.reqs.filter fun q => q.ring == r.val && q.armed).map Req.key }] } ∧
      t.regN (CAP_RWRITTEN r.val) = min (s.regN (CAP_RWRITTEN r.val) + 1) (2 ^ 32 - 1) ∧
      RegsBut s t [CAP_RWRITTEN r.val] ∧ (∀ k, k ≠ r.val → t.ring k = s.ring k) ∧
      t.part p = { s.part p with capWait := (s.part p).capWait + x.units } ∧ PartsBut s t [p] ∧
      t = { s with rings := t.rings, regs := t.regs, parts := t.parts, ports := t.ports }
    let lost := fun (t : State) (cause src : Nat) =>
      (∃ y : Gap, (t.ring r.val) = { g with coll := [], gaps := [y] } ∧ y.cause = cause ∧ y.src = src ∧ y.records = 1) ∧
      t.regN (CAP_RDROPPED r.val) = min (s.regN (CAP_RDROPPED r.val) + 1) (2 ^ 32 - 1)
    (∀ (k : Fin 64) (x : Fin 8) (c : Samples), g.coll = [c] → g.held = [] → c.mica = k.val → c.ctx = x.val →
      (s.now < c.appended + s.fld (CAP_RFLUSH r.val) 23 0 → exec (.samplesFlush r k x) s = .next s) ∧
      (c.appended + s.fld (CAP_RFLUSH r.val) 23 0 ≤ s.now → s.capRoom p (c.toRec s).units = true →
        ((c.toRec s).units + 2 ≤ s.ringSpace r.val → Answers (.samplesFlush r k x) s fun t =>
          kept t (c.toRec s) { g with coll := [] } ∧ t.ports = s.ports) ∧
        (s.ringSpace r.val < (c.toRec s).units + 2 → Answers (.samplesFlush r k x) s fun t =>
          lost t 1 k.val ∧ RegsBut s t [CAP_RDROPPED r.val] ∧ t = { s with rings := t.rings, regs := t.regs })) ∧
      (c.appended + s.fld (CAP_RFLUSH r.val) 23 0 ≤ s.now → s.capRoom p (c.toRec s).units = false →
        Answers (.samplesFlush r k x) s fun t =>
          lost t 2 k.val ∧ t.bit CAP_STAT 3 = true ∧ RegsBut s t [CAP_RDROPPED r.val, CAP_STAT] ∧
          t = { s with rings := t.rings, regs := t.regs, before := t.before })) ∧
    (∀ cause src, exec (.gapClose r cause src) s = .next s) ∧
    (s.bit (CAP_RCFG r.val) 3 = false → exec (.ringDrain r) s = .next s) ∧
    (s.fab.drainTurn < 32 → (s.drainNext = some r.val ↔ s.hostRun r.val ≠ [] ∧
      ∀ k < 32, (k + 31 - s.fab.drainTurn) % 32 < (r.val + 31 - s.fab.drainTurn) % 32 → s.hostRun k = [])) ∧
    (s.fld (CAP_RCFG r.val) 5 4 ≠ 1 → s.drainNext ≠ some r.val → exec (.ringDrain r) s = .next s) ∧
    (s.bit (CAP_RCFG r.val) 3 = true → ∀ c, g.recs = [c] → c.hold = [] → c.poison = false →
      (∀ a size w, s.fld (CAP_RCFG r.val) 5 4 ≠ 1 → g.host = some (a, size, w) → 32 * c.units ≤ g.consumed + size - g.drained →
        s.hostUp p = true → (s.part p).rbusy = false → s.drainNext = some r.val →
        Answers (.ringDrain r) s fun t =>
          t.ring r.val = { g with recs := [], out := c :: g.out, drained := g.drained + 32 * c.units } ∧
          (∀ k, k ≠ r.val → t.ring k = s.ring k) ∧
          t = { s with rings := t.rings, irq := t.irq, fab := { s.fab with drainTurn := r.val } }) ∧
      (∀ q h, s.fld (CAP_RCFG r.val) 5 4 = 1 → s.route (s.fld (CAP_RCFG r.val) 11 6) = some (q, h) → 32 * c.units ≤ 4088 →
        (s.laneFor q (24 + 32 * c.units)).isSome = true → Answers (.ringDrain r) s fun t =>
          t.ring r.val = { g with recs := [], rseq := (g.rseq + 1) % 2 ^ 32 } ∧ (∀ k, k ≠ r.val → t.ring k = s.ring k) ∧
          (t.port q).bulkOut = (s.fld (CAP_RCFG r.val) 11 6, s.fld (CAP_RCFG r.val) 16 12, g.rseq, [c]) :: (s.port q).bulkOut ∧
          (∀ k, k ≠ q → t.port k = s.port k) ∧ t = { s with rings := t.rings, ports := t.ports })) ∧
    ∀ (q : Fin 4) (h : Head) (rseq : Nat) (x : RawRec),
      (s.nPort ≤ q.val ∨ s.portState q.val ≠ 4 → exec (.meshBulk q h r rseq [x]) s = .next s) ∧
      let owes := s.updPort q.val fun x => { x with ackOwed := true }
      let drop := owes.setN (MESH_DROP q.val) (min (s.regN (MESH_DROP q.val) + 1) (2 ^ 32 - 1))
      (q.val < s.nPort → s.portState q.val = 4 → h.legal = false → exec (.meshBulk q h r rseq [x]) s = .next drop) ∧
      (q.val < s.nPort → s.portState q.val = 4 → h.legal = true → h.dst.val = s.devId →
        (s.fld (CAP_RCFG r.val) 5 4 ≠ 2 → exec (.meshBulk q h r rseq [x]) s = .next drop) ∧
        (s.bit (CAP_RCFG r.val) 3 = true → s.fld (CAP_RCFG r.val) 5 4 = 2 → s.fld (CAP_RCFG r.val) 11 6 = h.src.val →
          s.deep = 0 → g.early = [] → rseq % 2 ^ 32 = g.rseq → x.units.toNat + 2 ≤ s.ringSpace r.val →
          s.capRoom p x.units.toNat = true → Answers (.meshBulk q h r rseq [x]) s fun t =>
            kept t (rawCap x h.poison) { g with rseq := (g.rseq + 1) % 2 ^ 32 } ∧ t.ports = owes.ports))
  ) ∧ (
  ∀ (s : State) (r : Fin 32) (x : Gap), (s.ring r.val).gaps = [x] → (s.ring r.val).gapAt = [] → s.ringTimeDue r.val = none →
    (s.ringSpace r.val < 5 ∨ x.cause ≠ 1 → exec (.gapClose r x.cause x.src) s = .next s) ∧
    (∀ (c : CapRec) (n : Nat), c.src = x.src → s.capRoom (s.fld (CAP_RCFG r.val) 2 0) c.units = true →
      c.units + 5 ≤ s.ringSpace r.val → let t := s.ringPut r.val c n
      (∃ a b d : CapRec, (t.ring r.val).recs = (s.ring r.val).recs ++ [a, b, d] ∧ a.type = 0x13 ∧ a.src = x.src ∧
        b.type = 0x14 ∧ d = { c with hold := d.hold }) ∧ (t.ring r.val).gaps = []) ∧
    (5 ≤ s.ringSpace r.val → x.cause = 1 → Answers (.gapClose r x.cause x.src) s fun t =>
      (∃ a b : CapRec, (t.ring r.val).recs = (s.ring r.val).recs ++ [a, b] ∧ a.type = 0x13 ∧ a.src = x.src ∧
        a.body.head? = some (BitVec.ofNat 32 x.cause) ∧ b.type = 0x14) ∧
      (t.ring r.val).gaps = [] ∧ (t.ring r.val).gapAt = [(x.cause, x.src, s.now)] ∧
      t.regN (CAP_RGAPS r.val) = min (s.regN (CAP_RGAPS r.val) + 1) (2 ^ 32 - 1) ∧
      RegsBut s t [CAP_RWRITTEN r.val, CAP_RGAPS r.val] ∧ (∀ k, k ≠ r.val → t.ring k = s.ring k) ∧
      t = { s with rings := t.rings, regs := t.regs })
  )

/-- 13 R394, R396, R397, R409: a doorbell in range moves its count by the advance of its low 32 bits; one out of range,
or of a ring that is not enabled, sets the error flag and moves nothing; one to a function that is not reachable is lost.
13 R393, R395, R408, R409, R414: ENABLE starts the counts from 0, or is refused with CFGERR; waiting records are written
oldest first while the ring has room, and counted; a moderated vector fires when its interval has passed. -/
def Obligations.DoorbellsAndRings : Prop :=
  (
  ∀ (s : State) (p : Fin 8) (r : Fin 32) (v : Word),
    let q := s.part p.val
    let g := s.ring r.val
    let dberr := (s.updPart p.val fun q => { q with dberr := true, fresh := 7 :: q.fresh })
    (s.vfOn p.val = false → exec (.jobDoorbell p v) s = .next s ∧ exec (.resultDoorbell p v) s = .next s ∧
      exec (.captureDoorbell p r v) s = .next s) ∧
    (s.vfOn p.val = true →
      (let a := (v.toNat + 2 ^ 32 - q.taken % 2 ^ 32) % 2 ^ 32
       (q.enabled = true → a ≤ 64 → q.posted - q.taken ≤ a → s.deep = 0 →
         exec (.jobDoorbell p v) s = .next (s.updPart p.val fun q => { q with posted := q.taken + a })) ∧
       (q.enabled = false ∨ 64 < a ∨ a < q.posted - q.taken → exec (.jobDoorbell p v) s = .next dberr)) ∧
      (let a := (v.toNat + 2 ^ 32 - q.consumed % 2 ^ 32) % 2 ^ 32
       (q.enabled = true → q.consumed + a ≤ q.written →
         exec (.resultDoorbell p v) s = .next (s.updPart p.val fun q => { q with consumed := q.consumed + a })) ∧
       (q.enabled = false ∨ q.written < q.consumed + a → exec (.resultDoorbell p v) s = .next dberr)) ∧
      (let a := (v.toNat + 2 ^ 32 - g.consumed % 2 ^ 32) % 2 ^ 32
       (s.ringOwned r.val p.val = true → g.host ≠ none → g.consumed + a ≤ g.drained →
         exec (.captureDoorbell p r v) s = .next (s.updRing r.val fun g => { g with consumed := g.consumed + a })) ∧
       (s.ringOwned r.val p.val = false ∨ g.host = none ∨ g.drained < g.consumed + a →
         exec (.captureDoorbell p r v) s = .next dberr))) ∧
    (s.opened →
      let a := (v.toNat + 2 ^ 32 - s.ev.consumed % 2 ^ 32) % 2 ^ 32
      (s.bit HOST_EVCTL 0 = true → s.ev.consumed + a ≤ s.ev.written →
        exec (.eventDoorbell v) s = .next { s with ev := { s.ev with consumed := s.ev.consumed + a } }) ∧
      (s.bit HOST_EVCTL 0 = false ∨ s.ev.written < s.ev.consumed + a →
        Answers (.eventDoorbell v) s fun t => t.bit HOST_EVCTL 5 = true ∧ t.fld HOST_EVCTL 4 0 = s.fld HOST_EVCTL 4 0 ∧
          t.fld HOST_EVCTL 31 6 = s.fld HOST_EVCTL 31 6 ∧ RegsBut s t [HOST_EVCTL] ∧
          t = { s with regs := t.regs, before := t.before }))
  ) ∧ (
  ∀ (s : State) (p : Fin 8) (d : Word),
    (s.vfOn p.val = true → (s.part p.val).enabled = false → d.getLsbD 0 = true →
      let ok := s.vregN p.val VF_JRING_LO % 4096 = 0 ∧ s.vregN p.val VF_RRING_LO % 4096 = 0 ∧ s.vregN p.val VF_RCNT_LO % 8 = 0 ∧
        s.vregN p.val VF_RSIZE % 32 ≤ 16
      Answers (.ringEnable p d) s fun t =>
        (ok → t.part p.val = { s.part p.val with
          enabled := true, posted := 0, taken := 0, written := 0, consumed := 0, countWord := 0, ring := [] }) ∧
        (¬ ok → t.part p.val = { s.part p.val with cfgerr := true, fresh := 8 :: (s.part p.val).fresh }) ∧ PartsBut s t [p.val] ∧
        (∀ q o, (q, o) ≠ (p.val, VF_RINGCTL) → o < 0x100000 → t.vreg q o = s.vreg q o) ∧
        t = { s with parts := t.parts, vregs := t.vregs }) ∧
    (s.vfOn p.val = false → exec (.ringEnable p d) s = .next s) ∧
    (s.opened → s.bit HOST_EVCTL 0 = false → d.getLsbD 0 = true → Answers (.eventRingEnable d) s fun t =>
      let ok := s.fld HOST_EVBASE_LO 11 0 = 0 ∧ s.fld HOST_EVCNT_LO 2 0 = 0 ∧ d.toNat / 2 % 16 ≤ 8
      (ok → t.bit HOST_EVCTL 0 = true) ∧ (¬ ok → t.bit HOST_EVCTL 0 = false ∧ t.bit HOST_EVCTL 6 = true) ∧
      RegsBut s t [HOST_EVCTL] ∧ t = { s with regs := t.regs, before := t.before }) ∧
    ((let q := s.part p.val
      let l := q.waitq.take (s.ringFree p.val)
      (l = [] → exec (.recordWrite ⟨p.val, by omega⟩) s = .next s) ∧
      (l ≠ [] → Answers (.recordWrite ⟨p.val, by omega⟩) s fun t =>
        (t.part p.val).ring = l.reverse ++ q.ring ∧ (t.part p.val).waitq = q.waitq.drop l.length ∧
        (t.part p.val).written = q.written + 32 * l.length ∧ (t.part p.val).countWord = q.written + 32 * l.length ∧
        (t.part p.val).done = q.done + (l.filter (·.typ == 7)).length ∧ (t.part p.val).mode = q.mode ∧
        (t.part p.val).job = q.job ∧ PartsBut s t [p.val] ∧ t = { s with parts := t.parts, irq := t.irq }))) ∧
    (s.ev.waitq.take s.evFree ≠ [] → Answers (.recordWrite 8) s fun t =>
      let l := s.ev.waitq.take s.evFree
      t.ev = { s.ev with waitq := s.ev.waitq.drop l.length, ring := l.reverse ++ s.ev.ring
                         written := s.ev.written + 32 * l.length, countWord := s.ev.written + 32 * l.length } ∧
      t = { s with ev := t.ev, irq := t.irq }) ∧
    ∀ (f : Fin 9) (v : Fin 4), let k := 4 * f.val + v.val
      (look (fun _ => none) s.irq.pendAt k = none → exec (.irqModeration f v) s = .next s) ∧
      (∀ t0 w, look (fun _ => none) s.irq.pendAt k = some w → look (fun _ => none) s.irq.lastAt k = some t0 →
        (s.now < t0 + s.irqMod f.val v.val → exec (.irqModeration f v) s = .next s) ∧
        (t0 + s.irqMod f.val v.val ≤ s.now → s.hostUp f.val = true → Answers (.irqModeration f v) s fun t =>
          look (fun _ => 0) t.irq.fired k = look (fun _ => 0) s.irq.fired k + 1 ∧ look (fun _ => none) t.irq.pendAt k = none ∧
          look (fun _ => none) t.irq.lastAt k = some s.now ∧
          (∀ j, j ≠ k → look (fun _ => 0) t.irq.fired j = look (fun _ => 0) s.irq.fired j ∧
            look (fun _ => none) t.irq.pendAt j = look (fun _ => none) s.irq.pendAt j) ∧ t = { s with irq := t.irq }))
  )

/-- 01 R29, R32, R33; 09 R290, R531: entering HOLD at once discards the partition's events but its mutes, its pulses and
windows, halts its cores, mutes its driven channels, and ends its job and attempt; no other partition's mode, job or core
changes. Of the triggers of one tick the first in the order of 01 R33 is the cause; a later one changes nothing. -/
def Obligations.EnteringHold : Prop :=
  ∀ (s : State) (p : Fin 8) (c : HoldCause) (l : List Rec),
    let t := s.enterHold p.val c l
    let q := s.part p.val
    (q.mode = .hold → l = [] →
      (q.holdAt = s.now → holdRank c < holdRank q.cause → (t.part p.val).cause = c ∧ (t.part p.val).mode = .hold ∧
        ((t.part p.val).resumeNeeded = true ↔ q.resumeNeeded = true ∨ needsResume c = true) ∧ PartsBut s t [p.val] ∧
        t = { s with parts := t.parts, irq := t.irq }) ∧
      (q.holdAt ≠ s.now ∨ holdRank q.cause ≤ holdRank c → t = s)) ∧
    (holdRank .trip < holdRank .coreFault ∧ holdRank .coreFault < holdRank .longPress ∧
      holdRank .longPress < holdRank .reset ∧ holdRank .reset < holdRank .request) ∧
    (q.mode ≠ .hold →
    (t.part p.val).mode = .hold ∧ (t.part p.val).cause = c ∧ (t.part p.val).job = none ∧
    (t.part p.val).attempt.active = false ∧ (t.part p.val).holdAt = s.now ∧
    ((t.part p.val).resumeNeeded = true ↔ (s.part p.val).resumeNeeded = true ∨ needsResume c = true) ∧
    (∀ e ∈ t.fab.events, e.part = p.val → e.isMute = true) ∧ (∀ u ∈ t.fab.pulses, u.part ≠ p.val) ∧
    (∀ w ∈ t.fab.wins, w.part ≠ p.val) ∧ (∀ k ∈ s.qtzOf p.val, (t.qtz k).st = .halted) ∧
    (∀ k, k ∉ s.qtzOf p.val → t.qtz k = s.qtz k) ∧
    (∀ n ∈ s.ochsOf p.val, s.ochState n = 2 → t.ochState n = 1) ∧
    (∀ q, q ≠ p.val → (t.part q).mode = (s.part q).mode ∧ (t.part q).job = (s.part q).job))

/-- 13 R407; 01 R29, R30: HOLD acts at once on an idle shot partition and on a stream program, and waits for the boundary
of a begun shot; RESUME clears RESUME_NEEDED; neither acts during a partition reset, and of a HOLD and a RESUME that the
two registers carry in one tick the HOLD acts. 13 R399, R400, R405; 01 R29, R30; 04 R111, R139: a descriptor is taken
when its conditions hold: T advances and the job has that number; a program job starts its cores in its mode, and a
descriptor out of range is refused; a program job whose cores have halted ends. -/
def Obligations.HoldResumeAndJobs : Prop :=
  (
  ∀ (s : State) (p : Fin 8) (l : List FlintIn),
    let q := s.part p.val
    let told := fun x : Part => { x with resumeNeeded := x.resumeNeeded || x.fresh.contains 23
                                         fresh := 20 :: x.fresh }
    (q.rbusy = true → exec (.holdRequest p) s = .next s) ∧
    (q.rbusy = false → q.mode = .hold → exec (.holdRequest p) s = .next (s.updPart p.val told)) ∧
    (q.rbusy = false → q.mode = .shot → (q.attempt.active = true ∨ q.replay = true) → exec (.holdRequest p) s =
        .next (s.updPart p.val fun x => { told x with holdReq := x.holdReq.or (some .request) })) ∧
    (q.rbusy = false → ((q.mode = .shot ∧ q.attempt.active = false ∧ q.replay = false) ∨ q.mode = .stream) →
      (∀ j, q.job = some j → j.type = .program) → Answers (.holdRequest p) s fun t =>
        (t.part p.val).mode = .hold ∧ (t.part p.val).cause = .request ∧ (t.part p.val).resumeNeeded = true ∧
        (t.part p.val).job = none ∧ (t.part p.val).holdReq = none ∧ ∀ k ∈ s.qtzOf p.val, (t.qtz k).st = .halted) ∧
    (q.resumeNeeded = false ∨ q.rbusy = true ∨ q.fresh.contains 22 = true → exec (.hostResume p l) s = .next s) ∧
    (q.resumeNeeded = true → q.rbusy = false → q.fresh.contains 22 = false → Answers (.hostResume p l) s fun t =>
      t.part p.val = { q with resumeNeeded := false, fresh := 21 :: q.fresh } ∧ PartsBut s t [p.val] ∧
      t = { s with parts := t.parts, regs := t.regs, before := t.before, pins := t.pins })
  ) ∧ (
  ∀ (s : State) (p : Fin 8) (d b : List Byte),
    let q := s.part p.val
    (s.mayTake p.val = false → ∀ x y, exec (.jobTake p x y) s = .next s) ∧
    (s.mayTake p.val = true → s.otherMode p.val d = false → descOk d = true → b.length = le d 4 4 → le d 0 1 = 1 →
      s.progOk p.val b = true → le d 4 4 ≤ s.progArea → Answers (.jobTake p (some d) (some b)) s fun t =>
        (t.part p.val).mode = (if le d 1 1 = 0 then .shot else .stream) ∧ (t.part p.val).taken = q.taken + 1 ∧
        (∃ j, (t.part p.val).job = some j ∧ j.num = q.taken + 1 ∧ j.type = .program ∧ j.usertag = BitVec.ofNat 64 (le d 16 8) ∧
          j.code.length = le b 12 4 / 8) ∧
        (∀ e ∈ objEntries b, (t.qtz (le e 0 1)).st = .running ∧ (t.qtz (le e 0 1)).pc = le e 4 4 ∧
          (t.qtz (le e 0 1)).tl = 32 * (s.now + s.fld (QTZ_CFG (le e 0 1)) 31 16) ∧ (t.qtz (le e 0 1)).part = true) ∧
        (∀ k ∈ s.qtzOf p.val, (∀ e ∈ objEntries b, le e 0 1 ≠ k) → (t.qtz k).st = .halted ∧ (t.qtz k).part = false) ∧
        (t.part p.val).attempt = {} ∧ (t.part p.val).shotNext = 0 ∧ PartsBut s t [p.val]) ∧
    (s.mayTake p.val = true → descOk d = false → q.mode = .hold → Answers (.jobTake p (some d) (some b)) s fun t =>
      (t.part p.val).taken = q.taken + 1 ∧ (t.part p.val).job = none ∧ (t.part p.val).mode = .hold ∧ PartsBut s t [p.val] ∧
      t = { s with parts := t.parts, micas := t.micas }) ∧
    (∀ j, q.job = some j → j.type = .program → q.mode = .shot → q.attempt.active = false → q.probe = none → q.holdReq = none →
      q.posted ≠ q.taken → (∀ c ∈ s.cast p.val, (s.qtz c).st = .halted) → (∀ l ∈ s.loopsOf p.val, (s.loop l).due = false) →
      Answers (.jobEnd p) s fun t => (t.part p.val).job = none ∧ (t.part p.val).mode = .shot ∧ t.cores = s.cores ∧
        t = { s with parts := t.parts, regs := t.regs, graphs := t.graphs }) ∧
    (∀ j, q.job = some j → (q.attempt.active = true ∨ ∃ c ∈ s.cast p.val, (s.qtz c).st ≠ .halted) → exec (.jobEnd p) s = .next s)
  )

/-- 13 R390, R391: link up shows rate, width and the VFs; link down shows none; a power state is the function's own. -/
def Obligations.LinkAndPower : Prop :=
  ∀ (s : State) (speed : Fin 8) (width : Fin 32) (f : Fin 9) (d3 : Bool),
    (s.heldOff = true → exec (.pcieLinkUp speed width) s = .next s) ∧
    (s.heldOff = false → Answers (.pcieLinkUp speed width) s fun t =>
      t.pins = { s.pins with linkUp := true } ∧ t.fld HOST_LINK 2 0 = speed.val ∧ t.fld HOST_LINK 8 4 = width.val ∧
      RegsBut s t [HOST_LINK] ∧ t = { s with pins := t.pins, regs := t.regs }) ∧
    (Answers .pcieLinkDown s fun t =>
      t.pins = { s.pins with linkUp := false } ∧ t.fld HOST_LINK 8 0 = 0 ∧ t.fld HOST_LINK 12 9 = s.fld HOST_LINK 12 9 ∧
      RegsBut s t [HOST_LINK] ∧ t = { s with pins := t.pins, regs := t.regs }) ∧
    exec (.powerStateChange f d3) s = .next (if f.val = 8 then { s with pins := { s.pins with d3 := d3 } }
      else s.updPart f.val fun q => { q with d3 := d3 })

/-- 12 R364, R366, R367, R369: the port's way from DOWN over DETECT, TRAINING and IDENTIFY to UP or MISMATCH, and back; a
lane that trains starts its coder afresh, each trained lane sends the identity, and what waits at a port that goes DOWN
is dropped where it has no other route. A port that the variant lacks does nothing. -/
def Obligations.MeshPortBringUp : Prop :=
  ∀ (s : State) (q : Fin 4) (l : Fin 8) (cl : BitVec 16) (dev : Fin 64) (parent : Bool),
    let st := s.portState q.val
    let only := fun t : State => RegsBut s t [MESH_PSTAT q.val] ∧ (∀ k, k ≠ q.val → t.port k = s.port k) ∧
      t = { s with regs := t.regs, ports := t.ports }
    let x := s.lane q.val l.val
    (s.nPort ≤ q.val → ∀ c ∈ [Instr.portPresent q, .laneSignalDetect q l, .laneTrained q l true, .laneTrained q l false,
      .identify q, .meshIdent q cl dev parent, .portAbsent q, .signalLost q, .laneRetrain q l true, .alignmentLoss q l,
      .laneRealign q l, .sleepNotice q l], exec c s = .next s) ∧
    (q.val < s.nPort →
      (s.mode = .run → s.bit (MESH_PCFG q.val) 0 = true → st = 0 → Answers (.portPresent q) s fun t => only t ∧
        t.portState q.val = 1 ∧ t.bit (MESH_PSTAT q.val) 28 = true ∧ t.port q.val = { s.port q.val with detectAt := s.now }) ∧
      (s.bit (MESH_PCFG q.val) 0 = false → Answers (.portPresent q) s fun t => only t ∧ t.portState q.val = st ∧
        t.bit (MESH_PSTAT q.val) 28 = true ∧ t.ports = s.ports) ∧
      (s.laneRetired q.val l.val = false → st = 1 ∨ st = 2 → Answers (.laneSignalDetect q l) s fun t => only t ∧
        t.portState q.val = 2 ∧ t.lane q.val l.val = { x with signal := true } ∧
        ∀ k, k ≠ l.val → t.lane q.val k = s.lane q.val k) ∧
      (st = 2 → x.signal = true → x.trained = false → x.failed = false →
        exec (.laneTrained q l true) s = .next (s.updLane q.val l.val fun x => { x with
            trained := true, aligned := true, signal := true, failed := false, retraining := false, txRd := false, txPre := 0
            rxRd := false, rxPre := 0, levels := [], cur := [], bulk := [] }) ∧
        ((∀ k < 8, (s.lane q.val k).trained = false) → Answers (.laneTrained q l false) s fun t =>
          t.lane q.val l.val = { x with trained := false, failed := true, retraining := false } ∧
          t.regN (MESH_TRAINFAIL q.val) = min (s.regN (MESH_TRAINFAIL q.val) + 1) (2 ^ 32 - 1) ∧
          RegsBut s t [MESH_TRAINFAIL q.val] ∧ t = { s with regs := t.regs, ports := t.ports })) ∧
      (st = 2 → (∃ k < 8, (s.lane q.val k).trained = true) →
        (∀ k < 8, (s.lane q.val k).signal = false ∨ (s.lane q.val k).trained = true ∨ (s.lane q.val k).failed = true) →
        Answers (.identify q) s fun t => only t ∧ t.portState q.val = 3 ∧ ∀ k < 8,
          t.lane q.val k = (if (s.lane q.val k).trained then { s.lane q.val k with linkWait := (s.lane q.val k).linkWait ++ [1] }
            else s.lane q.val k)) ∧
      (st = 2 → (∀ k < 8, (s.lane q.val k).trained = false) → exec (.identify q) s = .next s) ∧
      (st = 3 → Answers (.meshIdent q cl dev parent) s fun t => only t ∧ t.ports = s.ports ∧
        t.portState q.val = (if cl.toNat = s.fld MESH_ID 23 8 ∧ (s.bit (MESH_PCFG q.val) 1 = false ∨
          dev.val = s.fld (MESH_PCFG q.val) 7 2) then 4 else 5) ∧
        t.fld (MESH_PSTAT q.val) 27 22 = dev.val ∧ t.bit (MESH_PSTAT q.val) 29 = parent) ∧
      (st ≠ 3 → exec (.meshIdent q cl dev parent) s = .next s) ∧
      let down := fun t : State => t.portState q.val = 0 ∧ t.bit (MESH_PSTAT q.val) 29 = false ∧
        t.port q.val = { s.port q.val with lanes := [], wait := [], timeWait := [], ackOwed := false }
      ((s.port q.val).wait = [] →
        (st ≠ 6 → Answers (.portAbsent q) s fun t => only t ∧ down t ∧ t.bit (MESH_PSTAT q.val) 28 = false) ∧
        (st = 4 → Answers (.signalLost q) s fun t => only t ∧ down t)) ∧
      ((∀ d < 64, s.bit (MESH_ROUTE d) 2 = false ∧ s.bit (MESH_ROUTE d) 8 = false) →
        (∀ k ∈ (s.port q.val).wait, (k.body.getD 4 0#8).toNat < 64) → st = 4 → Answers (.signalLost q) s fun t =>
          down t ∧ (∀ k, k ≠ q.val → t.port k = s.port k) ∧ RegsBut s t [MESH_PSTAT q.val, MESH_DROP q.val] ∧
          t.regN (MESH_DROP q.val) = min (s.regN (MESH_DROP q.val) + (s.port q.val).wait.length) (2 ^ 32 - 1) ∧
          t = { s with regs := t.regs, ports := t.ports }))

/-- 12 R365, R368, R373, R386, R387: on a port without sleep requests: loss and return of alignment, retraining, and the
retry buffer, which an ACK empties up to its packet and a NAK sends again from its packet on; the packets of a lane that
has sent one five times move to the other lanes, or wait at the port. 12 R386 to R388: a lane that is asked to sleep and
has nothing to resend sleeps with its notice, but never the time lane; a notice parks the receive side; a lane that
nobody asks to sleep wakes; a pattern runs only in TEST. 12 R364, R365: every codeword has ten bits whose disparity the
next one makes good, and a receiver that stands where the sender does recovers it from five levels and stands where the
sender then does. -/
def Obligations.MeshLanes : Prop :=
  (
  ∀ (s : State) (q : Fin 4) (l : Fin 8) (seq : BitVec 12), q.val < s.nPort → s.fld (MESH_SLEEP q.val) 7 0 = 0 →
    (∀ k, (s.lane q.val k).peerReq = false) → (s.port q.val).wait = [] →
    let x := s.lane q.val l.val
    (x.trained = true →
      exec (.alignmentLoss q l) s = .next (s.updLane q.val l.val fun x => { x with aligned := false }) ∧
      exec (.laneRealign q l) s = .next (s.updLane q.val l.val fun x => { x with aligned := true })) ∧
    (s.portState q.val = 4 → s.laneUp q.val l.val = false → s.laneRetired q.val l.val = false → x.rxSleep = false →
      x.testing = false → exec (.laneRetrain q l true) s = .next (s.updLane q.val l.val fun x => { x with
            trained := true, aligned := true, signal := true, failed := false, retraining := false, txRd := false, txPre := 0
            rxRd := false, rxPre := 0, levels := [], cur := [], bulk := [] })) ∧
    (s.laneUp q.val l.val = true → exec (.laneRetrain q l true) s = .next s) ∧
    (∀ (a b : List (Nat × Nat × Packet)) (n : Nat) (k : Packet), x.retry = a ++ (seq.toNat, n, k) :: b → (∀ e ∈ a, e.1 ≠ seq.toNat) →
      exec (.meshAck q l seq) s = .next (s.updLane q.val l.val fun x => { x with retry := b }) ∧
      (let key := resource 7 (8 * q.val + l.val)
       let again := fun e : Nat × Nat × Packet =>
         if ∃ o ∈ x.wait, o.seq = e.1 then e else (e.1, e.2.1 + 1, { e.2.2 with again := true, delay := 0 })
       (s.err key).retired = true → exec (.meshNak q l seq) s = .next (s.updLane q.val l.val fun x => { x with
         retry := ((seq.toNat, n, k) :: b).map again, wait := (((seq.toNat, n, k) :: b).map again).map (·.2.2) }))) ∧
    ((∀ e ∈ x.retry, e.2.1 < 5) → exec (.retryExhausted q l) s = .next s) ∧
    ((∃ e ∈ x.retry, 5 ≤ e.2.1) → Answers (.retryExhausted q l) s fun t =>
      t.lane q.val l.val = { x with trained := false, retraining := true, retry := [], wait := [], cur := [], bulk := [] } ∧
      (∀ e ∈ x.retry, (∃ k < 8, k ≠ l.val ∧ ∃ f ∈ (t.lane q.val k).retry, f.2.2.body = e.2.2.body) ∨
        ∃ o ∈ (t.port q.val).wait, o.body = e.2.2.body) ∧
      (∀ k, k ≠ q.val → t.port k = s.port k) ∧ t = { s with ports := t.ports })
  ) ∧ (
  ∀ (s : State) (q : Fin 4) (l : Fin 8) (d : Word), q.val < s.nPort → (s.port q.val).wait = [] →
    let x := s.lane q.val l.val
    let one := fun (f : Lane → Lane) => s.updLane q.val l.val f
    (s.opened → (∀ k, (s.lane q.val k).peerReq = false) → Answers (.txsleep q (BitVec.ofNat 8 (2 ^ l.val))) s fun t =>
      t.fld (MESH_SLEEP q.val) 7 0 = 2 ^ l.val ∧
      (s.laneUp q.val l.val = true → s.timeLane q.val ≠ some l.val → x.txSleep = false → x.retry = [] →
        t.lane q.val l.val = { x with txSleep := true, linkWait := x.linkWait ++ [2] } ∧ (2, l.val) ∈ (t.port q.val).notices) ∧
      (s.timeLane q.val = some l.val → t.lane q.val l.val = x) ∧ (∀ k, k ≠ l.val → t.lane q.val k = s.lane q.val k) ∧
      RegsBut s t [MESH_SLEEP q.val] ∧ t = { s with regs := t.regs, ports := t.ports }) ∧
    (s.opened → s.fld (MESH_SLEEP q.val) 15 8 = 0 → Answers (.rxsleep q (BitVec.ofNat 8 (2 ^ l.val))) s fun t =>
      t.fld (MESH_SLEEP q.val) 15 8 = 2 ^ l.val ∧
      (t.port q.val).notices = (if s.timeLane q.val = some l.val then [] else [(3, l.val)]) ++ (s.port q.val).notices ∧
      t.lane q.val l.val = (if s.timeLane q.val = some l.val then x else { x with linkWait := x.linkWait ++ [3] }) ∧
      (∀ k, k ≠ l.val → t.lane q.val k = s.lane q.val k) ∧ RegsBut s t [MESH_SLEEP q.val] ∧
      t = { s with regs := t.regs, ports := t.ports }) ∧
    (s.laneUp q.val l.val = true → s.timeLane q.val ≠ some l.val →
      exec (.sleepNotice q l) s = .next (one fun x => { x with rxSleep := true })) ∧
    (s.timeLane q.val = some l.val → exec (.sleepNotice q l) s = .next s) ∧
    (s.laneUp q.val l.val = false → s.fld (MESH_SLEEP q.val) 7 0 = 0 → (∀ k, k ≠ l.val → (s.lane q.val k).peerReq = false) →
      ∀ on, exec (.rxsleepRequest q l on) s = .next (one fun x => { x with peerReq := on })) ∧
    (s.bit (MESH_SLEEP q.val) l.val = false → x.peerReq = false →
      exec (.laneWake q l true) s = .next (one fun x => { x with txSleep := false })) ∧
    (s.bit (MESH_SLEEP q.val) l.val = true → exec (.laneWake q l true) s = .next s) ∧
    (s.bit (MESH_SLEEP q.val) (8 + l.val) = false →
      exec (.laneWake q l false) s = .next (one fun x => { x with rxSleep := false })) ∧
    (s.opened → Answers (.meshTest q l d) s fun t =>
      t.fld (MESH_TEST q.val l.val) 1 0 = d.toNat % 4 ∧
      t.fld (MESH_TEST q.val l.val) 3 2 =
        (if d.toNat / 4 % 4 = 3 then s.fld (MESH_TEST q.val l.val) 3 2 else d.toNat / 4 % 4) ∧
      (s.mode ≠ .test → t.ports = s.ports ∧ RegsBut s t [MESH_TEST q.val l.val, MESH_TESTERR q.val l.val]) ∧
      (s.mode = .test → d.toNat % 4 ≠ 0 → d.getLsbD 10 = false → (t.lane q.val l.val) = { x with testing := true }) ∧
      (∀ k, k ≠ l.val → t.lane q.val k = s.lane q.val k) ∧ t = { s with regs := t.regs, ports := t.ports })
  ) ∧ (
  (∀ c ∈ allCodes, ∀ rd, let w := (encodeCode c rd).1
    w < 1024 ∧ decodeCode w rd = some c ∧ ((encodeCode c rd).2 = rd ↔ ones 10 w = 5) ∧
    (if rd then 4 ≤ ones 10 w ∧ ones 10 w ≤ 5 else 5 ≤ ones 10 w ∧ ones 10 w ≤ 6)) ∧
  ∀ (x y : Lane) (c : Code), c ∈ allCodes → x.txPre < 4 → x.txPre = y.rxPre → x.txRd = y.rxRd →
    let t := x.send c
    let l := t.levels.drop x.levels.length
    t.levels = x.levels ++ l ∧ l.length = 5 ∧ (∀ v ∈ l, v ∈ [-3, -1, 1, 3]) ∧
      y.receive l = (some c, { y with rxPre := t.txPre, rxRd := t.txRd })
  )

/-- 02 R50, R53 to R56, R58; 12 R375: an epoch load is armed only with every partition in HOLD; at the capture edge, a
rising edge of REFCLK after the arm, it runs, at tick 4 its command goes out, at tick 64 DTIME takes the value, at tick
66 the epoch is valid; SYNC_OUT follows its selection. A follower loads its parent's epoch 1,024 ticks or more after the
packet, and the fine skew takes the boundaries' offset (free, log 130). After a slip the edges lie anywhere (log 120). -/
def Obligations.EpochLoad : Prop :=
  ∀ (s : State) (d : Word),
    let moved := fun t : State => t.frames = s.frames ∧ t.graphs = s.graphs ∧ t.geo = { s.geo with pages := t.geo.pages } ∧
      (∀ c : Fin 16, t.qtz c.val = { s.qtz c.val with
        syncAt := (t.qtz c.val).syncAt, stallFrom := (t.qtz c.val).stallFrom, asked := (t.qtz c.val).asked }) ∧
      ∀ i : Fin 512, t.slot i.val = { s.slot i.val with validAt := (t.slot i.val).validAt, hist := (t.slot i.val).hist }
    (s.opened → d.getLsbD 0 = true → Answers (.epochArm d) s fun t =>
      (s.mode = .run ∧ s.allHold = true → t.bit TIME_CTRL 0 = true ∧
        t.time = { s.time with armed := true, armAt := s.now, edge := none, follow := none
                               epoch := BitVec.ofNat 64 (s.regN TIME_EPOCH_LO + 2 ^ 32 * s.regN TIME_EPOCH_HI) }) ∧
      (s.mode ≠ .run ∨ s.allHold = false → t.bit TIME_STAT 5 = true ∧ t.bit TIME_CTRL 0 = false ∧ t.time.armed = false) ∧
      t.time.dtime = s.time.dtime ∧ RegsBut s t [TIME_CTRL, TIME_STAT] ∧
      t = { s with regs := t.regs, before := t.before, time := t.time, pins := t.pins }) ∧
    (let soft := s.bit TIME_CTRL 7
     let first := (s.time.armAt / 4 + 1) * 4
     (∀ k : Nat, s.time.armed = true → s.time.edge = none →
       (soft = true ∧ s.bit TIME_STAT 3 = false ∧ first + k = s.now) ∨
       (soft = false ∧ s.bit TIME_CTRL 1 = false ∧ s.bit TIME_STAT 3 = false ∧ s.now % 4 = 0 ∧ s.time.armAt < s.now ∧ k = 0) ∨
       ((soft = true ∨ s.bit TIME_CTRL 1 = false) ∧ s.bit TIME_STAT 3 = true ∧ k = 0) →
       Answers .epochCapture s fun t =>
         t.time = { s.time with armed := false, edge := some k, stage := 0, repeated := false } ∧ t.bit TIME_CTRL 0 = false ∧
         t.bit TIME_STAT 7 = true ∧ RegsBut s t [TIME_CTRL, TIME_STAT] ∧ t = { s with regs := t.regs, time := t.time }) ∧
     (soft = true → s.bit TIME_STAT 3 = false → s.now < first → exec .epochCapture s = .next s) ∧
     (soft = false → s.bit TIME_CTRL 1 = true → exec .epochCapture s = .next s) ∧
     (soft = false → s.bit TIME_STAT 3 = false → s.now % 4 ≠ 0 ∨ s.now ≤ s.time.armAt → exec .epochCapture s = .next s)) ∧
    (s.time.armed = false → exec .epochCapture s = .next s) ∧
    (∀ k, s.time.edge = some k →
      (4 ≤ k → s.time.stage = 0 → exec .epochLoadCommand s = .next { s with time := { s.time with stage := 1 } }) ∧
      (k < 4 → exec .epochLoadCommand s = .next s) ∧
      (32 ≤ k → s.time.stage = 1 → s.time.repeated = false → s.fld TIME_CTRL 3 2 = 1 → exec .syncOutRepeat s =
        .next { s with pins := { s.pins with syncOut := true, syncLeft := 32 }, time := { s.time with repeated := true } }) ∧
      (k < 64 → exec .epochTileLoad s = .next s) ∧
      (64 ≤ k → s.time.stage = 1 → Answers .epochTileLoad s fun t =>
        t.time.dtime = s.time.epoch + BitVec.ofNat 64 (k - 64) ∧ t.time.sample = 0 ∧ t.time.stage = 2 ∧
        t.regs = s.regs ∧ moved t ∧
        (∀ r : Fin 32, (t.ring r.val).epoch = true ∧ (t.ring r.val).recs = (s.ring r.val).recs)) ∧
      (k < 66 → exec .epochValidSet s = .next s) ∧
      (66 ≤ k → s.time.stage = 2 → Answers .epochValidSet s fun t =>
        t.bit TIME_STAT 1 = true ∧ t.bit TIME_STAT 3 = false ∧ t.bit TIME_STAT 4 = false ∧ t.bit TIME_STAT 7 = false ∧
        t.time = { s.time with edge := none, stage := 0 } ∧ RegsBut s t [TIME_STAT] ∧
        t = { s with regs := t.regs, time := t.time, fab := { s.fab with units := [], users := [] }, dueq := []
                     ports := t.ports })) ∧
    (s.fld TIME_CTRL 3 2 = 2 → s.now % 2 ^ 32 = s.regN TIME_SYNCGEN_LO →
      exec .syncOutGenerate s = .next { s with pins := { s.pins with syncOut := true, syncLeft := 32 } }) ∧
    (s.fld TIME_CTRL 3 2 ≠ 2 ∨ s.now % 2 ^ 32 ≠ s.regN TIME_SYNCGEN_LO → exec .syncOutGenerate s = .next s) ∧
    (∀ v, s.time.follow = some v →
      (s.allHold = false ∨ s.now < s.time.followAt + 1024 → exec .followerEpochLoad s = .next s) ∧
      (s.allHold = true → s.time.followAt + 1024 ≤ s.now → Answers .followerEpochLoad s fun t =>
        t.time.dtime = v ∧ t.time.sample = 0 ∧ t.time.armed = false ∧ t.time.follow = none ∧ t.bit TIME_STAT 1 = true ∧
        t.time.skew = s.time.skew - Config.boundaryOffset s.fab.freeN ∧
        RegsBut s t [TIME_CTRL, TIME_STAT, TIME_SKEW] ∧ moved t))

/-- 02 R60, R61; 12 R375, R376: TIME packets: a probe is answered, an echo gives the delay, a residual slews the skew by
at most 25/256 ps in a re-measurement, ALIGN_LOST follows the residual and the parent's silence, an armed follower takes
the parent's epoch. What a port sends waits for its launch, at which its times are filled in. -/
def Obligations.ClusterAlignment : Prop :=
  ∀ (s : State) (q : Fin 4) (count a b v : BitVec 64) (fine : Fin 6250) (valid : Bool) (res : Int),
    let due := s.time.slewAt.all fun t0 => decide (t0 + 65534 ≤ s.now)
    let step := if due then clamp (-25) 25 res else 0
    let slews := fun (t : State) =>
      t.time.skew = s.time.skew - step ∧ t.time.slewAt = (if due then some s.now else s.time.slewAt) ∧
      RegsBut s t [TIME_SKEW, TIME_STAT, HOST_EVLOST] ∧
      ((res - step < -6144 ∨ 6144 < res - step) → t.bit TIME_STAT 4 = true) ∧
      (-512 ≤ res → res ≤ 512 → s.bit TIME_STAT 3 = false → t.bit TIME_STAT 4 = false) ∧
      t = { s with time := t.time, regs := t.regs, irq := t.irq, ev := t.ev }
    (s.parentPort = none → exec (.timeRemeasure res) s = .next s) ∧
    (s.parentPort ≠ none → Answers (.timeRemeasure res) s slews) ∧
    (∀ p, s.parentPort = some p →
      (s.now < s.time.parentAt + 640000 → exec .timeParentTimeout s = .next s) ∧
      (s.time.parentAt + 640000 ≤ s.now → Answers .timeParentTimeout s fun t => t.bit TIME_STAT 4 = true ∧
        RegsBut s t [TIME_STAT, HOST_EVLOST] ∧ t = { s with regs := t.regs, irq := t.irq, ev := t.ev })) ∧
    (s.timePort q.val = false → ∀ c ∈ [Instr.timeProbe q count a fine, .timeEcho q count a b, .timeSync q valid res,
      .timeEpoch q v, .parentSyncSend q], exec c s = .next s) ∧
    (s.timePort q.val = true →
      let heard := { s.time with parentAt := if s.parentPort = some q.val then s.now else s.time.parentAt }
      (Answers (.timeProbe q count a fine) s fun t =>
        t.port q.val = { s.port q.val with
          timeWait := (s.port q.val).timeWait ++ [(2, count, BitVec.ofNat 64 (6250 * a.toNat + fine.val))] } ∧
        t.time = heard ∧
        (∀ k, k ≠ q.val → t.port k = s.port k) ∧ t = { s with time := t.time, ports := t.ports }) ∧
      (count.toNat = (s.port q.val).probeAt → Answers (.timeEcho q count a b) s fun t =>
        (∃ v : Int, (2 * v - ((b.toNat : Int) - 6250 * count.toNat - a.toNat + toSigned 16 (s.fld (MESH_PCFG q.val) 31 16))).natAbs
          ≤ 1 ∧ (t.fld (MESH_DELAY q.val) 27 0 : Int) = v % 2 ^ 28) ∧
        RegsBut s t [MESH_DELAY q.val] ∧ t.time = heard ∧ t = { s with time := t.time, regs := t.regs }) ∧
      (count.toNat ≠ (s.port q.val).probeAt → exec (.timeEcho q count a b) s = .next s) ∧
      (s.parentPort = some q.val → Answers (.timeSync q valid res) s slews) ∧
      (s.parentPort ≠ some q.val → exec (.timeSync q valid res) s = .next s ∧ exec (.timeEpoch q v) s = .next s) ∧
      (s.parentPort = some q.val → s.time.armed = true → s.time.follow = none → s.bit TIME_CTRL 1 = true →
        s.bit TIME_CTRL 7 = false → v.toNat % 4 = 0 →
        exec (.timeEpoch q v) s = .next { s with time := { s.time with
          parentAt := s.now, follow := some v, followAt := s.now } }) ∧
      (s.bit (MESH_PSTAT q.val) 29 = true → s.bit TIME_STAT 1 = false → Answers (.parentSyncSend q) s fun t =>
        (t.port q.val).timeWait = (s.port q.val).timeWait ++ [(3, 0#64, BitVec.ofNat 64 (s.fld (MESH_DELAY q.val) 27 0))] ∧
        (∀ k, k ≠ q.val → t.port k = s.port k) ∧ t = { s with ports := t.ports }) ∧
      (s.bit (MESH_PSTAT q.val) 29 = true → s.bit TIME_STAT 1 = true → Answers (.parentSyncSend q) s fun t =>
        (t.port q.val).timeWait = (s.port q.val).timeWait ++
          [(3, 0#64, BitVec.ofNat 64 (s.fld (MESH_DELAY q.val) 27 0 + 2 ^ 32)), (4, 0#64, 0#64)] ∧
        (∀ k, k ≠ q.val → t.port k = s.port k) ∧ t = { s with ports := t.ports }) ∧
      ∀ (k : Nat) (l : List (Nat × BitVec 64 × BitVec 64)) (n : Nat), s.timeLane q.val = some n →
        (s.port q.val).timeWait = (k, a, b) :: l →
        ((s.lane q.val n).cur ≠ [] → s.launchTime q.val = s) ∧
        ((s.lane q.val n).cur = [] → let t := s.launchTime q.val
          (t.port q.val).timeWait = l ∧ (∀ j, j ≠ q.val → t.port j = s.port j) ∧
          (k = 1 → (t.port q.val).timeOut = (1, s.time.dtime, 0#64) :: (s.port q.val).timeOut ∧
            (t.port q.val).probeAt = s.now) ∧
          (k = 2 → (t.port q.val).timeOut = (2, a, BitVec.ofNat 64 (6250 * s.now) - b) :: (s.port q.val).timeOut) ∧
          (k = 3 → (t.port q.val).timeOut = (3, s.time.dtime, b) :: (s.port q.val).timeOut) ∧
          (k = 4 → s.now < 2 ^ 63 → ∀ e ∈ (t.port q.val).timeOut.take 1, e.1 = 4 ∧ e.2.1.toNat % 4 = 0 ∧
            (e.2.1.toNat < 2 ^ 64 - 2 → s.now + 1024 ≤ e.2.1.toNat))))

/-- 02 R51: the loss of the reference mutes every driven channel and taints every begun attempt with LINK; its return
clears REF_LOST, and with a slipped boundary the epoch and the alignment are lost; 1,024 ticks later the channels of
streams with a playing tone are driven again. -/
def Obligations.ReferenceLoss : Prop :=
  ∀ (s : State),
    (s.time.lost = true ∨ s.mode = .boot ∨ s.mode = .failed → exec .refLost s = .next s) ∧
    (s.time.lost = false → s.mode ≠ .boot → s.mode ≠ .failed → Answers .refLost s fun t =>
      t.time.lost = true ∧ t.bit TIME_STAT 2 = true ∧ t.bit TIME_STAT 0 = false ∧
      (∀ n < s.nOch, t.ochState n ≠ 2) ∧
      (∀ p < s.nPart, (s.part p).mode = .shot → (s.part p).attempt.active = true →
        ∃ x ∈ (t.part p).attempt.taints, x.cause = 3 ∧ x.tick = s.now) ∧
      (∀ p, (t.part p).mode = (s.part p).mode) ∧ t.cores = s.cores ∧ t.frames = s.frames ∧ t.slots = s.slots) ∧
    (s.time.lost = false → ∀ b, exec (.refLockReturn b) s = .next s) ∧
    (s.time.lost = true → ∀ b, Answers (.refLockReturn b) s fun t =>
      t.time = { s.time with lost := false, clearAt := some s.now, settleTo := s.now + 2048 } ∧
      t.bit TIME_STAT 2 = false ∧ t.bit TIME_STAT 0 = true ∧
      (b = true → t.bit TIME_STAT 1 = false ∧ t.bit TIME_STAT 3 = true ∧ t.bit TIME_STAT 4 = true) ∧
      (b = false → t.bit TIME_STAT 1 = s.bit TIME_STAT 1 ∧ t.ev = s.ev) ∧ RegsBut s t [TIME_STAT, HOST_EVLOST] ∧
      t = { s with time := t.time, regs := t.regs, irq := t.irq, ev := t.ev }) ∧
    (∀ t0, s.time.clearAt = some t0 → s.time.lost = false →
      (s.now < t0 + 1024 → exec .refClearUnmute s = .next s) ∧
      (t0 + 1024 ≤ s.now → Answers .refClearUnmute s fun t => t.time = { s.time with clearAt := none } ∧
        (∀ u ∈ s.fab.pulses, u.cw = true → u.playing = true → u.done = false → (s.part u.part).mode = .stream → u.ch < 64 →
          s.ochState u.ch = 1 → t.ochState u.ch = 2) ∧
        (∀ n, s.ochState n ≠ 1 → t.reg (OCH_STAT n) = s.reg (OCH_STAT n)) ∧
        t = { s with time := t.time, regs := t.regs, fab := { s.fab with chans := t.fab.chans } }))

/-- 14 R421 to R429: the best of the masters whose Announces are heard is chosen; a one-step Sync, or a two-step one with
its Follow_Up, gives t1 and t2; a Delay_Resp gives the path delay and makes the domain a SLAVE; the loss of the master
sends it to LISTENING, and a locked clock to HOLDOVER; a switch needs the other domain to be a SLAVE. -/
def Obligations.PtpMessages : Prop :=
  ∀ (s : State) (d q : Fin 2) (a : Announce) (seq : BitVec 16) (org ing cor lm : Int),
    let x := s.dom d.val
    (s.ptpHears d.val q.val = false → exec (.ptpAnnounce d q a lm) s = .next s ∧
      ∀ o, exec (.ptpSync d q seq o ing cor lm) s = .next s) ∧
    (let chosen := fun t : State =>
       (t.dom d.val).master = some a.sender ∧ (t.dom d.val).annAt = s.now + logTicks 3 lm ∧
         (t.dom d.val).synced = false ∧ t.dstate d.val = 2 ∧
       t.fld (PTP_DSTAT d.val) 2 2 = q.val ∧ RegsBut s t [PTP_DSTAT d.val] ∧ (∀ k, k ≠ d.val → t.dom k = s.dom k) ∧
       t = { s with regs := t.regs, doms := t.doms }
     s.ptpHears d.val q.val = true →
      (x.foreign = [] → x.master ≠ some a.sender → Answers (.ptpAnnounce d q a lm) s fun t =>
        (t.dom d.val).foreign = [(q.val, s.now + logTicks 3 lm, a)] ∧ chosen t) ∧
      ∀ (t0 : Nat) (b : Announce), x.foreign = [(q.val, t0, b)] → x.master = some b.sender → s.fld (PTP_DSTAT d.val) 2 2 = q.val →
        b.sender ≠ a.sender →
        (s.now < t0 → annBetter a b = false → exec (.ptpAnnounce d q a lm) s = .next (s.updDom d.val
          fun x => { x with foreign := [(q.val, t0, b), (q.val, s.now + logTicks 3 lm, a)], annAt := t0 })) ∧
        (t0 ≤ s.now ∨ annBetter a b = true → Answers (.ptpAnnounce d q a lm) s chosen)) ∧
    (∀ b : Announce, (a.grandmaster = b.grandmaster → a.steps.toNat < b.steps.toNat → annBetter a b = true ∧ annBetter b a = false) ∧
      (a.grandmaster ≠ b.grandmaster → a.priority1.toNat < b.priority1.toNat → annBetter a b = true ∧ annBetter b a = false)) ∧
    (s.ptpPort d.val q.val = true → s.dstate d.val = 2 →
      (Answers (.ptpSync d q seq (some org) ing cor lm) s fun t =>
        t.dom d.val = { x with
          syncLog := lm, t1 := 5 * (org + cor), t2 := s.ingress q.val ing, synced := true, syncAt := s.now
          waitFu := none } ∧
        (∀ k, k ≠ d.val → t.dom k = s.dom k) ∧
        RegsBut s t [PTP_ANC_SEC_LO d.val, PTP_ANC_SEC_HI d.val, PTP_ANC_NS d.val, PTP_ANC_FT d.val] ∧
        t = { s with regs := t.regs, doms := t.doms }) ∧
      (x.waitFu = none → exec (.ptpSync d q seq none ing cor lm) s = .next (s.updDom d.val fun x =>
        { x with syncLog := lm, waitFu := some seq.toNat, waitTick := s.now, t1 := 5 * cor, t2 := s.ingress q.val ing })) ∧
      (x.waitFu = some seq.toNat → s.now ≤ x.waitTick + 640000000 → Answers (.followUp d q seq org cor) s fun t =>
        t.dom d.val = { x with t1 := 5 * (org + cor) + x.t1, synced := true, syncAt := s.now, waitFu := none } ∧
        (∀ k, k ≠ d.val → t.dom k = s.dom k) ∧ t = { s with regs := t.regs, doms := t.doms }) ∧
      (x.waitFu ≠ some seq.toNat → exec (.followUp d q seq org cor) s = .next s) ∧
      exec (.delayReq d q ing) s = .next (s.updDom d.val fun x =>
        { x with t3 := s.egress q.val ing, reqSeq := some x.seq, seq := (x.seq + 1) % 65536 }) ∧
      (x.reqSeq = some seq.toNat → x.synced = true → x.waitFu = none → Answers (.delayResp d q seq org cor lm) s fun t =>
        (2 * (t.dom d.val).delay - (wrapU (x.t2 - x.t1) + wrapU (5 * (org - cor) - x.t3))).natAbs ≤ 1 ∧ (t.dom d.val).reqSeq = none ∧
        t.dstate d.val = 3 ∧ t.cstate = (if s.ptpSel = d.val ∧ s.cstate = 0 then 1 else s.cstate) ∧
        RegsBut s t [PTP_DDELAY d.val, PTP_DSTAT d.val, PTP_STAT] ∧ (∀ k, k ≠ d.val → t.dom k = s.dom k) ∧
        t = { s with regs := t.regs, doms := t.doms }) ∧
      (x.reqSeq ≠ some seq.toNat → exec (.delayResp d q seq org cor lm) s =
        .next (s.setN (PTP_PDISC q.val) (min (s.regN (PTP_PDISC q.val) + 1) (2 ^ 32 - 1))))) ∧
    (x.waitFu.isSome = true → s.fld (PTP_DSTAT d.val) 2 2 = q.val → x.waitTick + 640000000 ≤ s.now →
      Answers (.followUpTimeout d q) s fun t => t.dom d.val = { x with waitFu := none } ∧
        t.regN (PTP_PDISC q.val) = min (s.regN (PTP_PDISC q.val) + 1) (2 ^ 32 - 1) ∧ RegsBut s t [PTP_PDISC q.val] ∧
        (∀ k, k ≠ d.val → t.dom k = s.dom k) ∧ t = { s with regs := t.regs, doms := t.doms }) ∧
    (x.waitFu = none → exec (.followUpTimeout d q) s = .next s) ∧
    (∀ (t0 : Nat) (b : Announce), x.foreign = [(q.val, t0, b)] → x.master = some b.sender → s.fld (PTP_DSTAT d.val) 2 2 = q.val →
      s.bit (PTP_DCFG d.val) (1 + q.val) = true → s.bit (PTP_PSTAT q.val) 0 = true → s.bit (PTP_PSTAT q.val) 1 = false →
      (s.masterLost d.val = true ↔ t0 ≤ s.now ∨ x.syncAt + logTicks 8 x.syncLog ≤ s.now)) ∧
    ((∀ k < 2, s.bit (PTP_DCFG d.val) (1 + k) = false ∨ s.bit (PTP_PSTAT k) 0 = false ∨ s.bit (PTP_PSTAT k) 1 = true) →
      s.masterLost d.val = true) ∧
    (s.dstate d.val < 2 ∨ s.masterLost d.val = false → exec (.masterLoss d) s = .next s) ∧
    (2 ≤ s.dstate d.val → s.masterLost d.val = true → Answers (.masterLoss d) s fun t => t.dstate d.val = 1 ∧
        (t.dom d.val).master = none ∧
      (t.dom d.val).synced = false ∧
      (s.ptpSel = d.val → s.cstate = 2 → t.cstate = 3) ∧ (s.ptpSel = d.val → s.cstate = 1 → t.cstate = 0) ∧
      (s.ptpSel ≠ d.val → t.cstate = s.cstate) ∧ RegsBut s t [PTP_DSTAT d.val, PTP_STAT, PTP_INC_LO, PTP_INC_HI] ∧
      (∀ k, k ≠ d.val → t.dom k = s.dom k) ∧
      t = { s with regs := t.regs, doms := t.doms, time := { s.time with ftPast := t.time.ftPast } }) ∧
    (let switched := fun t : State => t.ptpSel = 1 - d.val ∧ (s.cstate < 2 → t.cstate = 1) ∧
       (2 ≤ s.cstate → t.cstate = s.cstate ∧ t.bit PTP_STAT 3 = true) ∧
       t = { s with regs := t.regs, doms := t.doms, time := { s.time with ftPast := t.time.ftPast } }
     s.ptpSel = d.val → s.dstate (1 - d.val) = 3 → s.bit PTP_STAT 3 = false →
       (s.opened → Answers (.ptpSwitch false) s switched) ∧
       (s.bit PTP_CFG 4 = true → s.dstate d.val < 2 → Answers (.ptpSwitch true) s switched)) ∧
    (s.opened → s.dstate (1 - s.ptpSel) ≠ 3 → exec (.ptpSwitch false) s = .next (s.stick PTP_STAT 5)) ∧
    (s.bit PTP_CFG 4 = false → exec (.ptpSwitch true) s = .next s) ∧
    (∀ present los : Bool, Answers (.modulePresence q present los) s fun t =>
      t.regN (PTP_PSTAT q.val) = bn present + 2 * bn los + 4 * bn (present && !los) ∧ RegsBut s t [PTP_PSTAT q.val] ∧
      (t.pins.txdis.getLsbD q.val = !present) ∧ (t.pins.txdis.getLsbD (1 - q.val) = s.pins.txdis.getLsbD (1 - q.val)) ∧
      t = { s with regs := t.regs, pins := { s.pins with txdis := t.pins.txdis } })

/-- 01 R21; 15 R435 to R439: a SETBIAS event in time sets the target at the first frame at or after its TIME, a late one
acts at the next frame in SHOT mode and is discarded in STREAM mode; a frame applies the last one issued; the first write
opens the clamp at code 0; the limiter moves the code by at most STEP per step and never past the target, also in
CONTROL. A late event alone opens no clamp, and a write to a clamped output whose span is to change takes it in the new
span: both are the model's choice (log 153). -/
def Obligations.BiasTargets : Prop :=
  (∀ (s : State) (id n a : Nat) (code : BitVec 20) (e : Event) (link : Bool), s.event id = some e →
    e.kind = .setbias n code → e.stage = .transit a → n < 128 →
    (s.now < a ∨ s.inOrder e a = false → exec (.setbiasArrive { id := id, link := link }) s = .next s) ∧
    (a ≤ s.now → s.inOrder e a = true → 32 * (s.now + 48) ≤ e.inst → exec (.setbiasArrive { id := id, link := link }) s = .next
      ((s.updBias n fun b => { b with events := b.events ++ [((e.inst + 31) / 32, id, code.toNat, false)] }).updEvent id
        fun e => { e with stage := .tile })) ∧
    (a ≤ s.now → s.inOrder e a = true → e.inst < 32 * (s.now + 48) → (s.part e.part).mode = .shot →
     Answers (.setbiasArrive { id := id, link := link }) s fun t =>
      (t.bias n).events = (s.bias n).events ++ [(s.now + 1, id, code.toNat, true)] ∧ t.bit (BIAS_STAT n) 9 = true ∧
      t.regN (BIAS_LATECNT n) = min (s.regN (BIAS_LATECNT n) + 1) (2 ^ 32 - 1) ∧
      RegsBut s t [BIAS_LATECNT n, BIAS_STAT n] ∧
      t = { s with regs := t.regs, before := t.before, biases := t.biases, fab := t.fab }) ∧
    (a ≤ s.now → s.inOrder e a = true → e.inst < 32 * (s.now + 48) → (s.part e.part).mode = .stream →
     Answers (.setbiasArrive { id := id, link := link }) s fun t =>
      t.event id = none ∧ t.biases = s.biases ∧
      t.regN (BIAS_LATECNT n) = min (s.regN (BIAS_LATECNT n) + 1) (2 ^ 32 - 1) ∧
      RegsBut s t [BIAS_LATECNT n] ∧ t = { s with regs := t.regs, parts := t.parts, fab := t.fab })) ∧
  (∀ (s : State) (n : Fin 128), let b := s.bias n.val
    let due := b.events.filter fun e => decide (e.1 ≤ s.now)
    (due = [] ∨ s.now % 640 ≠ 0 → exec (.biasFrame n) s = .next s) ∧
    (due ≠ [] → s.now % 640 = 0 → (s.biasOwner n.val).isSome = true → Answers (.biasFrame n) s fun t =>
      ∃ w ∈ due, (∀ e ∈ due, e.2.1 ≤ w.2.1) ∧
        (t.bias n.val).events = (b.events.filter fun e => !decide (e.1 ≤ s.now)) ∧
        (∀ e ∈ due, t.event e.2.1 = none) ∧ RegsBut s t [BIAS_STAT n.val] ∧
        (let v := codeVal (s.fld (BIAS_STAT n.val) 4 3) w.2.2.1
         (s.biasState n.val = bControl → (t.bias n.val).target = b.target ∧ t.regs = s.regs) ∧
         (s.biasState n.val = bDown ∨ s.biasState n.val = bSwitch → b.changing = true →
           (t.bias n.val).codeTo = codeVal b.spanTo w.2.2.1 ∧ (t.bias n.val).target = b.target ∧ t.regs = s.regs) ∧
         (s.biasState n.val = bClamped → (∀ e ∈ due, e.2.2.2 = true) →
           t.biasState n.val = bClamped ∧ t.regs = s.regs ∧ (t.bias n.val).out = b.out) ∧
         (s.biasState n.val = bClamped → (∃ e ∈ due, e.2.2.2 = false) → b.changing = true → b.spanTo < 4 →
           t.fld (BIAS_STAT n.val) 4 3 = b.spanTo ∧ (t.bias n.val).target = codeVal b.spanTo w.2.2.1 ∧
           (t.bias n.val).changing = false ∧ t.bit (BIAS_STAT n.val) 5 = true) ∧
         (s.biasState n.val = bClamped → (∃ e ∈ due, e.2.2.2 = false) → b.changing = false → t.bit (BIAS_STAT n.val) 5 = true ∧
           (t.bias n.val).target = v ∧ (t.bias n.val).out = 0 ∧
           (v ≠ 0 → t.biasState n.val = bRamping ∧ (t.bias n.val).next = some s.now) ∧
           (v = 0 → t.biasState n.val = bSteady ∧ (t.bias n.val).next = none)) ∧
         (s.biasState n.val = bSteady → b.changing = false → b.next = none → (t.bias n.val).target = v ∧
           (t.bias n.val).out = b.out ∧ (v ≠ b.out → t.biasState n.val = bRamping ∧ (t.bias n.val).next = some s.now)) ∧
         (s.biasState n.val = bRamping → b.changing = false → b.next.isSome = true → (t.bias n.val).target = v ∧
           (t.bias n.val).out = b.out ∧ (t.bias n.val).next = b.next ∧ t.regs = s.regs)))) ∧
  (∀ (s : State) (n : Fin 128), let b := s.bias n.val
    (b.next = none → exec (.slewStep n) s = .next s) ∧
    (∀ f, b.next = some f →
      (s.now < f → exec (.slewStep n) s = .next s) ∧
      (f ≤ s.now → Answers (.slewStep n) s fun t =>
        let step := s.fld (BIAS_SLEW n.val) 19 0
        let x := (t.bias n.val).out
        (step = 0 → x = b.target) ∧
        (step ≠ 0 → (x - b.out).natAbs = min step (b.target - b.out).natAbs) ∧
        (b.target - x).natAbs + (x - b.out).natAbs = (b.target - b.out).natAbs ∧
        (t.bias n.val).target = b.target ∧ (t.bias n.val).events = b.events ∧
        (t.bias n.val).prev = b.out ∧ (t.bias n.val).moved = f ∧
        (x ≠ b.target → t.regs = s.regs ∧
          (t.bias n.val).next = some (f + 640 * max 1 (s.fld (BIAS_UI n.val) 15 0))) ∧
        (x = b.target → (t.bias n.val).next = none ∧
          (s.biasState n.val = bControl → t.regs = s.regs ∧ (t.bias n.val).zFrame = b.zFrame) ∧
          (s.biasState n.val ≠ bControl → s.biasState n.val = bDown ∨ b.clampAfter = true →
            (t.bias n.val).zFrame = some (f + 640) ∧ t.regs = s.regs) ∧
          (s.biasState n.val ≠ bControl → s.biasState n.val ≠ bDown → b.clampAfter = false →
            t.biasState n.val = bSteady ∧ (t.bias n.val).changing = false)) ∧
        RegsBut s t [BIAS_STAT n.val] ∧ (∀ k, k ≠ n.val → t.bias k = s.bias k) ∧
        t = { s with regs := t.regs, biases := t.biases })))

/-- 15 R439: an accepted span change ramps down from D0, closes the clamp at frame Z, switches at Z + 10 frames and ramps
up from Z + 20; on a clamped output the span switches at D0; a write that is not accepted sets SPANREF. 15 R440, R441,
R454: a short counts and sets SC, and with SCCLAMP clamps the output; the loss of a rail clamps every output at once;
CNTCLR clears the two counters of what they held before the tick (18 R502). -/
def Obligations.BiasSpansAndFaults : Prop :=
  (
  ∀ (s : State) (n : Fin 128) (d : Word),
    let b := s.bias n.val
    let d0 := (s.now / 640 + 1) * 640
    let st := s.biasState n.val
    let only := fun t : State => RegsBut s t [BIAS_STAT n.val, BIAS_SPAN n.val] ∧
      (∀ k, k ≠ n.val → t.bias k = s.bias k) ∧ t = { s with regs := t.regs, biases := t.biases }
    (s.opened → n.val < s.nBias →
      (∀ p, s.biasOwner n.val = some p → (s.part p).mode = .hold → s.mode = .run → b.changing = false →
        Answers (.biasSpanWrite n d) s fun t => only t ∧ (t.bias n.val).changing = true ∧
          (t.bias n.val).spanTo = d.toNat % 4 ∧ t.fld (BIAS_SPAN n.val) 1 0 = d.toNat % 4 ∧
          t.fld (BIAS_SPAN n.val) 23 4 = d.toNat / 16 % 2 ^ 20 ∧ (t.bias n.val).out = b.out ∧
          (st = bClamped → (t.bias n.val).zFrame = some d0 ∧ t.biasState n.val = bClamped) ∧
          (st ≠ bClamped → (t.bias n.val).target = 0 ∧ (t.bias n.val).next = some d0 ∧ t.biasState n.val = bDown ∧
            (t.bias n.val).codeTo = codeVal (d.toNat % 4) (d.toNat / 16 % 2 ^ 20))) ∧
      (s.biasOwner n.val = none ∨ s.mode ≠ .run ∨ b.changing = true ∨
          (∃ p, s.biasOwner n.val = some p ∧ (s.part p).mode ≠ .hold) →
        exec (.biasSpanWrite n d) s = .next (s.stick (BIAS_STAT n.val) 8))) ∧
    (∀ z, b.zFrame = some z → b.changing = true →
      (s.now < z → exec (.clampClose n) s = .next s ∧ exec (.spanSwitch n) s = .next s ∧ exec (.spanUp n) s = .next s) ∧
      (z ≤ s.now → st = bDown → exec (.clampClose n) s = .next (s.setBiasState n.val bSwitch)) ∧
      (z + 6400 ≤ s.now → st = bSwitch → exec (.spanSwitch n) s = .next (s.setFld (BIAS_STAT n.val) 4 3 b.spanTo)) ∧
      (s.now < z + 6400 → st = bSwitch → exec (.spanSwitch n) s = .next s) ∧
      (z ≤ s.now → st = bClamped → Answers (.spanSwitch n) s fun t => only t ∧ t.fld (BIAS_STAT n.val) 4 3 = b.spanTo % 4 ∧
        t.biasState n.val = bClamped ∧ (t.bias n.val).changing = false ∧ (t.bias n.val).out = b.out) ∧
      (z + 12800 ≤ s.now → st = bSwitch → s.fld (BIAS_STAT n.val) 4 3 = b.spanTo → b.codeTo ≠ 0 →
        Answers (.spanUp n) s fun t => only t ∧ t.biasState n.val = bUp ∧ (t.bias n.val).target = b.codeTo ∧
          (t.bias n.val).next = some (z + 12800) ∧ (t.bias n.val).out = b.out) ∧
      (s.now < z + 12800 → exec (.spanUp n) s = .next s)) ∧
    (b.zFrame = none → exec (.clampClose n) s = .next s ∧ exec (.spanSwitch n) s = .next s ∧ exec (.spanUp n) s = .next s) ∧
    (∀ z, b.zFrame = some z → b.changing = false → b.clampAfter = true → z ≤ s.now → Answers (.clampClose n) s fun t =>
      only t ∧ t.biasState n.val = bClamped ∧ t.bit (BIAS_STAT n.val) 5 = false ∧ (t.bias n.val).out = 0 ∧
      (t.bias n.val).zFrame = none)
  ) ∧ (
  ∀ (s : State) (n : Fin 128),
    (s.nBias ≤ n.val → exec (.biasShort n) s = .next s) ∧
    (n.val < s.nBias → Answers (.biasShort n) s fun t => t.bit (BIAS_STAT n.val) 7 = true ∧
      t.regN (BIAS_SCCNT n.val) = min (s.regN (BIAS_SCCNT n.val) + 1) (2 ^ 32 - 1) ∧
      (s.bit (BIAS_CFG n.val) 8 = true → t.biasState n.val = bClamped ∧ t.bit (BIAS_STAT n.val) 5 = false ∧
        (t.bias n.val).out = 0 ∧ (t.bias n.val).next = none ∧ (t.bias n.val).changing = false) ∧
      (s.bit (BIAS_CFG n.val) 8 = false → t.bias n.val = { s.bias n.val with shortAt := some s.now } ∧
        t.biasState n.val = s.biasState n.val ∧ (s.biasState n.val ≠ bClamped → t.limitActs n.val = true)) ∧
      (t.biasState n.val = bClamped → t.limitActs n.val = false) ∧
      RegsBut s t [BIAS_STAT n.val, BIAS_SCCNT n.val] ∧ (∀ k, k ≠ n.val → t.bias k = s.bias k) ∧
      t = { s with regs := t.regs, before := t.before, biases := t.biases }) ∧
    Answers .biasRailLoss s (fun t => (∀ k < s.nBias, t.biasState k = bClamped ∧ t.bit (BIAS_STAT k) 5 = false ∧
        t.bit (BIAS_STAT k) 10 = true ∧ (t.bias k).out = 0 ∧ (t.bias k).target = 0 ∧ (t.bias k).next = none) ∧
      RegsBut s t ((List.range s.nBias).map BIAS_STAT) ∧
      t = { s with regs := t.regs, before := t.before, biases := t.biases }) ∧
    (s.opened → n.val < s.nBias → Answers (.biasCntclr n) s fun t =>
      (∀ a ∈ [BIAS_LATECNT n.val, BIAS_SCCNT n.val], t.regN a = s.regN a - s.beforeN a) ∧
      RegsBut s t [BIAS_LATECNT n.val, BIAS_SCCNT n.val] ∧ t = { s with regs := t.regs, before := t.before })
  )

/-- 15 R443 to R446; 01 R29: an enabled monitor that becomes OUTSIDE latches, counts and holds the partitions of its
mask, their channels muted; a latch clears only while its input is INSIDE, and not in a tick in which it latches (18
R502). 15 R447: a self-test starts only in TEST and alone; its steps pass as the table says, at 640 ticks each; at its
end the latch takes the state of the real input. -/
def Obligations.Flint : Prop :=
  (
  ∀ (s : State) (m : Fin 48) (high : Bool) (mask : BitVec 48) (inputs : List FlintIn) (x : FlintIn),
    (s.hasMon m.val = false ∨ s.bit (FLINT_CFG m.val) 0 = false ∨ s.mode = .boot ∨ s.mode = .failed →
      exec (.flintTrip m high) s = .next s ∧ exec (.flintPeriodClear m x) s = .next s) ∧
    (s.hasMon m.val = true → s.bit (FLINT_CFG m.val) 0 = true → s.mode = .run → s.flint.step = none →
      (s.flintLatched m.val = true → Answers (.flintTrip m high) s fun t => t.bit (FLINT_STAT m.val) 0 = false ∧
        t.flintLatched m.val = true ∧ RegsBut s t [FLINT_STAT m.val] ∧ t.latchFresh m.val = true ∧
        t = { s with regs := t.regs, before := t.before }) ∧
      (s.flintLatched m.val = false → Answers (.flintTrip m high) s fun t =>
        t.flintLatched m.val = true ∧ t.latchFresh m.val = true ∧ t.bit (FLINT_STAT m.val) 3 = high ∧
        t.regN (FLINT_TRIPCNT m.val) = min (s.regN (FLINT_TRIPCNT m.val) + 1) (2 ^ 32 - 1) ∧
        (m.val < 4 → t.pins.tripOut.getLsbD m.val = true) ∧
        (∀ p < s.nPart, s.bit (FLINT_CFG m.val) (4 + p) = true → (t.part p).mode = .hold ∧
          ((s.part p).mode ≠ .hold → (t.part p).cause = .trip ∧ (t.part p).resumeNeeded = true) ∧
          ∀ n ∈ s.ochsOf p, t.ochState n ≠ 2) ∧
        (∀ p < s.nPart, s.bit (FLINT_CFG m.val) (4 + p) = false → (t.part p).mode = (s.part p).mode)) ∧
      (s.fld (FLINT_CFG m.val) 3 2 = 1 → s.flintLatched m.val = true → s.now % max 1 (s.fld (FLINT_PERIOD m.val) 23 0) = 0 →
        Answers (.flintPeriodClear m x) s fun t => (t.flintLatched m.val = false ↔ x = .inside ∧ s.latchFresh m.val = false) ∧
          t = { s with regs := t.regs, pins := t.pins } ∧
          RegsBut s t [FLINT_LATCH_LO, FLINT_LATCH_HI, FLINT_STAT m.val])) ∧
    (s.opened → inputs.length = 48 → Answers (.flintLatchWrite mask inputs) s fun t =>
      (∀ k < 48, (t.flintLatched k = true ↔ s.flintLatched k = true ∧
        ¬(mask.getLsbD k = true ∧ s.hasMon k = true ∧ inputs[k]? = some .inside ∧ s.latchFresh k = false))) ∧
      RegsBut s t ([FLINT_LATCH_LO, FLINT_LATCH_HI] ++ (List.range 48).map FLINT_STAT) ∧
      t = { s with regs := t.regs, pins := t.pins })
  ) ∧ (
  ∀ (s : State) (d : Word) (x : FlintIn) (ok : Bool),
    (s.opened → d.getLsbD 6 = true → d.toNat % 64 ≤ 47 →
      (s.mode = .test → s.flint.step = none → s.hasMon (d.toNat % 64) = true → Answers (.flintTestRun d) s fun t =>
        t.flint = { mon := d.toNat % 64, step := some 1, started := s.now, quiet := d.getLsbD 7 } ∧
        t.bit FLINT_TSTAT 0 = true ∧ t.fld FLINT_TSTAT 6 3 = 0 ∧ RegsBut s t [FLINT_TEST, FLINT_TSTAT] ∧
        t = { s with regs := t.regs, flint := t.flint }) ∧
      (s.mode ≠ .test ∨ s.flint.step ≠ none → Answers (.flintTestRun d) s fun t => t.bit FLINT_TSTAT 2 = true ∧
        RegsBut s t [FLINT_TEST, FLINT_TSTAT] ∧ t = { s with regs := t.regs, before := t.before })) ∧
    (s.flint.step = none → exec (.flintTestStep x ok) s = .next s) ∧
    (∀ k, s.flint.step = some k → s.flint.mon < 48 →
      let m := s.flint.mon
      let lo := s.fld (FLINT_THR m) 11 0
      let hi := s.fld (FLINT_THR m) 27 16
      (s.now < s.flint.started + 640 * k → exec (.flintTestStep x ok) s = .next s) ∧
      (s.flint.started + 640 * k ≤ s.now → 1 ≤ k → k ≤ 4 → Answers (.flintTestStep x ok) s fun t =>
        (k = 1 → (t.bit FLINT_TSTAT 3 = true ↔ x = .inside)) ∧
        (k = 2 → (t.bit FLINT_TSTAT 4 = true ↔ x = .low ∨ lo < 16)) ∧
        (k = 3 → (t.bit FLINT_TSTAT 5 = true ↔ x = .high ∨ 4079 < hi)) ∧
        (k = 4 → t.bit FLINT_TSTAT 6 = ok) ∧
        (k < 4 → t.flint = { s.flint with step := some (k + 1) }) ∧
        (k = 4 → t.flint = {} ∧ t.bit FLINT_TSTAT 0 = false ∧ t.bit FLINT_TSTAT 1 = true ∧
          (x = .inside → t.flintLatched m = false) ∧
          (x = .low ∨ x = .high → t.flintLatched m = s.bit (FLINT_CFG m) 0)) ∧
        (k = 2 → 16 ≤ lo → x = .low ∨ x = .high → t.flintLatched m = true ∧
          (s.flint.quiet = true → t.pins = s.pins) ∧
          (s.flint.quiet = false → m < 4 → t.pins.tripOut.getLsbD m = true)) ∧
        t.regN (FLINT_TRIPCNT m) = s.regN (FLINT_TRIPCNT m) ∧ t.parts = s.parts ∧
        RegsBut s t [FLINT_TSTAT, FLINT_STAT m, FLINT_LATCH_LO, FLINT_LATCH_HI] ∧
        t = { s with regs := t.regs, before := t.before, flint := t.flint, pins := t.pins }))
  )

/-- 15 R450 to R453: a scan takes its list at its start and its entries run in order; a result is 16 times the mean of
its samples, and the settling samples before it are counted; a gapped start that finds a scan unfinished is skipped; an
injected request is dropped while one is pending, or a temperature insertion is in progress (when it is: log 155). -/
def Obligations.HousekeepingScans : Prop :=
  ∀ (s : State) (l : List Int) (railed : Bool),
    let settle := fun (sel sub gain : Nat) => match s.hk.last with
      | none => 12
      | some (a, b, g) => if g ≠ (if 64 ≤ sel then 0 else gain) then 12 else if a ≠ sel ∨ b ≠ sub then 4 else 0
    let free := s.mode ≠ .boot ∧ s.mode ≠ .failed ∧ s.bit HK_STAT 2 = false
    (s.bit HK_CTRL 0 = false ∨ s.bit HK_STAT 2 = true → exec .hkScanStart s = .next s) ∧
    (free → s.mode ≠ .calibrate → s.bit HK_CTRL 0 = true →
      (s.bit HK_CTRL 1 = true → s.now % max 1 (s.fld HK_PERIOD 23 0) ≠ 0 → exec .hkScanStart s = .next s) ∧
      (s.bit HK_CTRL 1 = true → s.now % max 1 (s.fld HK_PERIOD 23 0) = 0 → s.bit HK_STAT 0 = true →
        exec .hkScanStart s = .next (s.setN HK_SKIP (min (s.regN HK_SKIP + 1) (2 ^ 32 - 1)))) ∧
      (s.bit HK_CTRL 1 = false ∨ s.now % max 1 (s.fld HK_PERIOD 23 0) = 0 → s.bit HK_STAT 0 = false →
        Answers .hkScanStart s fun t => t.hk.entry = 0 ∧ t.hk.count = s.hk.count + 1 ∧
          t.hk.list.length = s.fld HK_LEN 6 0 ∧ t.hk.last = (if s.bit HK_STAT 1 then s.hk.last else none) ∧
          (∀ e < s.fld HK_LEN 6 0, t.hk.list[e]? = some (s.fld (HK_ENTRY e) 6 0, s.fld (HK_ENTRY e) 13 7,
            s.fld (HK_ENTRY e) 15 14, s.fld (HK_ENTRY e) 23 16)) ∧
          t.bit HK_STAT 0 = true ∧ t.bit HK_STAT 1 = true ∧ RegsBut s t [HK_STAT] ∧
          t = { s with regs := t.regs, hk := t.hk })) ∧
    (∀ sel sub gain avg, l.length = avg + 1 →
      (free → s.bit HK_STAT 0 = true → s.hk.injRun = false → s.hk.list[s.hk.entry]? = some (sel, sub, gain, avg) →
        s.hk.list.length ≤ 64 → Answers (.hkConversionDone false l railed) s fun t =>
          let r := HK_RES s.hk.entry
          (∃ v : Int, 2 * (v * (avg + 1) - 16 * l.sum).natAbs ≤ avg + 1 ∧ (t.fld r 17 0 : Int) = v % 2 ^ 18) ∧
          t.bit r 18 = true ∧ t.bit r 19 = railed ∧ t.fld r 27 20 = s.hk.count % 256 ∧
          t.regN HK_SETTLECNT = min (s.regN HK_SETTLECNT + settle sel sub gain) (2 ^ 32 - 1) ∧
          t.hk.last = some (sel, sub, if 64 ≤ sel then 0 else gain) ∧ t.hk.injRun = s.hk.inj.isSome ∧
          (s.hk.entry + 1 < s.hk.list.length → t.hk.entry = s.hk.entry + 1 ∧ t.bit HK_STAT 0 = true) ∧
          (s.hk.entry + 1 = s.hk.list.length → t.hk.entry = 0 ∧ t.bit HK_STAT 0 = false) ∧
          RegsBut s t [r, HK_SETTLECNT, HK_STAT] ∧ t = { s with regs := t.regs, hk := t.hk }) ∧
      (s.hk.inj = some (sel, sub, gain, avg) → s.hk.injRun = true → s.mode ≠ .calibrate →
        Answers (.hkConversionDone true l railed) s fun t =>
          (∃ v : Int, 2 * (v * (avg + 1) - 16 * l.sum).natAbs ≤ avg + 1 ∧ (t.fld HK_INJRES 17 0 : Int) = v % 2 ^ 18) ∧
          t.bit HK_INJRES 18 = true ∧ t.bit HK_INJRES 19 = railed ∧ t.hk.inj = none ∧ t.bit HK_STAT 3 = false ∧
          t.bit HK_STAT 4 = true ∧ t.regN HK_SETTLECNT = min (s.regN HK_SETTLECNT + settle sel sub gain) (2 ^ 32 - 1) ∧
          RegsBut s t [HK_INJRES, HK_SETTLECNT, HK_STAT] ∧ t = { s with regs := t.regs, before := t.before, hk := t.hk })) ∧
    (free → s.mode ≠ .calibrate → s.hk.temps = true → l.length = 8 → Answers (.hkTempInsert l) s fun t =>
      (∀ i < 8, s.hasSensor i = true → ∃ x, l[i]? = some x ∧ (t.fld (HK_TEMP i) 17 0 : Int) = x % 2 ^ 18 ∧
        t.bit (HK_TEMP i) 18 = true) ∧ t.hk.temps = false ∧ t.hk.list = s.hk.list ∧ t.hk.entry = s.hk.entry ∧
      RegsBut s t ([HK_SETTLECNT, HK_STAT] ++ (List.range 8).map HK_TEMP) ∧
      t = { s with regs := t.regs, hk := t.hk, cal := { s.cal with trimDue := t.cal.trimDue } }) ∧
    (s.hk.temps = false → exec (.hkTempInsert l) s = .next s) ∧
    (∀ d : Word, s.opened → d.getLsbD 24 = true →
      let inserting := s.hk.temps = true ∧ s.bit HK_STAT 0 = false ∧ (s.bit HK_STAT 1 = true ∨ 1600 ≤ s.now % 640000)
      (s.hk.inj.isSome = true ∨ inserting → Answers (.hkInj d) s fun t => t.hk = s.hk ∧ t.bit HK_STAT 5 = true ∧
        t.regN HK_INJDROP = min (s.regN HK_INJDROP + 1) (2 ^ 32 - 1) ∧ RegsBut s t [HK_INJ, HK_INJDROP, HK_STAT] ∧
        t = { s with regs := t.regs, before := t.before }) ∧
      (s.hk.inj = none → ¬inserting → s.bit HK_STAT 0 = false → s.bit HK_STAT 2 = false → s.mode ≠ .calibrate →
        d.toNat % 128 ≤ 35 → d.toNat / 2 ^ 14 % 4 ≤ 2 → Answers (.hkInj d) s fun t =>
          t.hk.inj = some (d.toNat % 128, d.toNat / 128 % 128, d.toNat / 2 ^ 14 % 4, d.toNat / 2 ^ 16 % 256) ∧
          t.hk.injRun = true ∧ t.bit HK_STAT 3 = true ∧ t.bit HK_STAT 1 = true ∧ RegsBut s t [HK_INJ, HK_STAT] ∧
          t = { s with regs := t.regs, hk := t.hk })) ∧
    (s.opened → Answers .hkCntclr s fun t =>
      (∀ a ∈ [HK_INJDROP, HK_SETTLECNT, HK_SKIP], t.regN a = s.regN a - s.beforeN a) ∧
      RegsBut s t [HK_INJDROP, HK_SETTLECNT, HK_SKIP] ∧ t = { s with regs := t.regs, before := t.before })

/-- 16 R458 to R460, R462 to R464, R466, R467: a refused command leaves STATE and sets ERROR; an accepted RUN enters
CALIBRATE at once; SAVE_TRACK copies the targets into the references and commits; an abort leaves the store, and one that
a run finds by itself names an item of the run; a run completes with every value in its window, once the outputs it
measures are down, comes into force and commits; the commit ends as DONE with PERSISTED, or as FAILED. -/
def Obligations.CalibrationCommands : Prop :=
  (∀ (s : State) (d : Word), s.opened → d.getLsbD 0 = true → d.getLsbD 1 = false →
    let items := d.toNat / 16 % 64
    let set := d.toNat / 1024 % 8
    let refused := fun (t : State) (code : Nat) => t.fld CAL_STAT 15 8 = code ∧
      t.fld CAL_STAT 2 0 = s.fld CAL_STAT 2 0 ∧ RegsBut s t [CAL_STAT] ∧ t = { s with regs := t.regs, irq := t.irq }
    let idle := s.mode = .run ∧ s.cal.run = false ∧ s.cal.commit = false
    (s.deep = 0 → ∀ c ∈ [Instr.calRun d, .calSaveTrack d],
      (s.allHold = false → Answers c s fun t => refused t 1) ∧
      (s.allHold = true → ¬idle → Answers c s fun t => refused t 2) ∧
      (s.allHold = true → idle → set = 5 ∨ set = 6 → Answers c s fun t => refused t 3)) ∧
    (s.deep = 0 → s.allHold = true → idle →
      (items = 0 → Answers (.calRun d) s fun t => refused t 3) ∧
      (items ≠ 0 → items ≠ 63 → s.cal.valid = true → stOrigin s.cal.store = 0 → Answers (.calRun d) s fun t => refused t 3) ∧
      (items ≠ 0 → s.cal.valid = false ∨ stOrigin s.cal.store ≠ 0 ∨ items = 63 →
        (s.nSets ≠ 1 ∧ set ≤ 4) ∨ set = 0 → Answers (.calRun d) s fun t =>
          t.mode = .calibrate ∧ t.fld CAL_STAT 2 0 = 1 ∧ t.fld CAL_STAT 15 8 = 0 ∧ t.cal.run = true ∧
          t.cal.items = items ∧ t.cal.set = set ∧ t.cal.store = s.cal.store ∧ t.cal.valid = s.cal.valid ∧
          t.cal.refv = s.fld CAL_REFV 22 0 ∧
          (∀ n < s.nBias, (s.biasOwner n).isSome = true → t.biasState n = bControl ∧ (t.bias n).recorded.isSome = true) ∧
          (d.getLsbD 5 = true → ∀ n : Fin 128, n.val < s.nBias → (s.biasOwner n.val).isSome = true → s.biasState n.val ≠ bClamped →
            s.bit (CAL_BMASK (n.val / 32)) (n.val % 32) = true →
            (t.bias n.val).target = 0 ∧ (t.bias n.val).next = some ((s.now + 639) / 640 * 640)) ∧
          (s.hk.inj = none → t.bit HK_STAT 2 = true ∧ t.bit HK_STAT 0 = false) ∧
          RegsBut s t ([CAL_STAT, HK_STAT] ++ (List.range s.nBias).map BIAS_STAT) ∧
          t = { s with mode := .calibrate, regs := t.regs, cal := t.cal, hk := t.hk, biases := t.biases }) ∧
      (set ≤ 4 → s.nSets ≠ 1 ∨ set = 0 → Answers (.calSaveTrack d) s fun t =>
        t.mode = .run ∧ t.fld CAL_STAT 2 0 = 2 ∧ t.cal.commit = true ∧ t.cal.valid = true ∧ t.cal.run = false ∧
        t.boot.wb = true ∧ t.bit BOOT_FLSTAT 0 = true ∧
        (∀ l ∈ s.trkAll, (t.loop l).ref = BitVec.ofInt 64 (s.trkNow l).2) ∧
        (∀ l, l ∉ s.trkAll → t.loop l = s.loop l) ∧ t.parts = s.parts ∧ t.frames = s.frames ∧
        stOrigin t.cal.store = stOrigin s.cal.store)) ∧
    (s.deep = 1 → Answers (.calRun d) s fun t => t.mem.waits = s.mem.waits ++ [(1, BitVec.ofNat 32 (setBits d.toNat 3 2 0))] ∧
      t.fld MEM_STAT 1 0 = 3 ∧ t.cal = s.cal ∧ t.mode = s.mode ∧ RegsBut s t [MEM_STAT, MEM_CTRL])) ∧
  ∀ s : State,
    (∀ (cause : Byte) (item : Fin 6) (index : Byte) (a b : Word),
      (s.cal.run = false → exec (.calAbort cause item index a b) s = .next s) ∧
      (let c := cause.toNat
       let may := bitOf s.cal.items item.val = true ∧ (c = 4 ∨ c = 5 → item.val = 0) ∧
         (c = 6 → pairTol item.val < (a.toInt - b.toInt).natAbs)
       let ended := fun t : State =>
         t.mode = .run ∧ t.cal = { s.cal with run := false } ∧ t.fld CAL_STAT 2 0 = 4 ∧ t.bit HK_STAT 2 = false
       s.cal.run = true →
        (4 ≤ c → c ≤ 9 → ¬may → exec (.calAbort cause item index a b) s = .next s) ∧
        (4 ≤ c → c ≤ 9 → may → Answers (.calAbort cause item index a b) s fun t => ended t ∧
          t.fld CAL_STAT 15 8 = c ∧ t.fld CAL_STAT 5 3 = item.val ∧ t.fld CAL_STAT 23 16 = index.toNat ∧
          (c ≠ 9 → t.reg CAL_MEASA = a ∧ t.reg CAL_MEASB = b) ∧ (c = 9 → t.reg CAL_MEASA = s.reg CAL_MEASA)) ∧
        (c < 4 ∨ 9 < c → Answers (.calAbort cause item index a b) s fun t => ended t ∧
          t.fld CAL_STAT 15 8 = 10 ∧ t.reg CAL_MEASA = s.reg CAL_MEASA))) ∧
    (∀ new : List Byte,
      let down := bitOf s.cal.items 1 = true → ∀ n < s.nBias, bitOf s.cal.bmask.toNat n = true → (s.bias n).next = none
      (s.cal.run = false ∨ s.sane new = false ∨ ¬down → exec (.calRunComplete new) s = .next s) ∧
      (s.sane new = true → ∀ n < s.nOch, s.bit (OCH_STAT n) 3 = false →
        (bitOf s.cal.items 2 = true → (toSigned 16 (le new (64 + 8 * n) 2)).natAbs ≤ 512 ∧
          (toSigned 16 (le new (66 + 8 * n) 2)).natAbs ≤ 500) ∧
        (bitOf s.cal.items 4 = true → le new (68 + 8 * n) 1 ≤ 122)) ∧
      (s.cal.run = true → s.bit HK_STAT 2 = true → s.sane new = true → down → Answers (.calRunComplete new) s fun t =>
        t.mode = .run ∧ t.cal.run = false ∧ t.cal.valid = true ∧ t.cal.commit = true ∧ t.cal.trimDue = [] ∧
        t.fld CAL_STAT 2 0 = 2 ∧ t.boot.wb = true ∧ t.bit HK_STAT 2 = false ∧ t.cal.store = s.runStore new ∧
        stOrigin t.cal.store = 1 ∧ stLe t.cal.store 16 4 = (stLe s.cal.store 16 4 + 1) % 2 ^ 32 ∧
        t.parts = s.parts ∧ t.fab = s.fab ∧ t.flash = s.flash)) ∧
    (∀ good : Bool,
      (s.cal.commit = false ∨ s.boot.wb = true → exec (.calCommit good) s = .next s) ∧
      (s.cal.commit = true → s.boot.wb = false → Answers (.calCommit good) s fun t =>
        t.cal = { s.cal with commit := false } ∧
        (good = true → s.boot.wrote = true → t.fld CAL_STAT 2 0 = 3 ∧ t.bit CAL_STAT 6 = true) ∧
        (good = false ∨ s.boot.wrote = false → t.fld CAL_STAT 2 0 = 4 ∧ t.fld CAL_STAT 15 8 = 15) ∧
        RegsBut s t [CAL_STAT] ∧ t = { s with regs := t.regs, cal := t.cal, irq := t.irq }))

/-- 16 R465, R468: without a valid store a trim is neutral; with sets more than 1 °C apart it is that of the coldest or
hottest set beyond them, and between two neighbours it is interpolated, rounded to the field's unit. -/
def Obligations.TrimsInterpolate : Prop :=
  ∀ (s : State) (item t off size : Nat) (sgn : Bool) (neutral : Int),
    let x := s.trim item t off size sgn neutral
    let T := setTemp s.cal.store
    let held := fun k => k < s.nSets ∧ setItems s.cal.store k ≠ 0 ∧ bitOf (setItems s.cal.store k) item = true
    let V := fun k => if sgn then toSigned (8 * size) (stLe s.cal.store (setOff k + off) size)
      else (stLe s.cal.store (setOff k + off) size : Int)
    (s.cal.valid = false → x = neutral) ∧
    (s.cal.valid = true → (∀ j k, held j → held k → j ≠ k → 16 < (T j t - T k t).natAbs) →
      (∀ k, held k → s.dieTemp t ≤ T k t → (∀ j, held j → T k t ≤ T j t) → x = V k) ∧
      (∀ k, held k → T k t ≤ s.dieTemp t → (∀ j, held j → T j t ≤ T k t) → x = V k) ∧
      (∀ a b, held a → held b → T a t < T b t → T a t ≤ s.dieTemp t → s.dieTemp t ≤ T b t →
        (∀ j, held j → T j t ≤ T a t ∨ T b t ≤ T j t) →
        2 * (x * (T b t - T a t) - (V a * (T b t - T a t) + (V b - V a) * (s.dieTemp t - T a t))).natAbs
          ≤ (T b t - T a t).natAbs))

/-- 16 R468; 03 R102: a waiting output channel takes its trims at a tick at which none of its lanes is occupied. -/
def Obligations.OutputTrims : Prop :=
  ∀ (s : State) (n : Fin 64),
    (n.val < s.nOch → s.trimMay n.val = true → s.lanesAt n.val s.now = 0 → Answers (.outputTrimUpdate n) s fun t =>
      let b := 64 + 8 * n.val
      (t.fld (OCH_DCOFS n.val) 15 0 : Int) = s.trim 2 (n.val / 16) b 2 true 0 % 2 ^ 16 ∧
      (t.fld (OCH_FSTRIM n.val) 11 0 : Int) = s.trim 2 (n.val / 16) (b + 2) 2 true 0 % 2 ^ 12 ∧
      t.fld (OCH_DELAY n.val) 7 0 = s.fld (OCH_DELAY n.val) 7 0 ∧
      t.fld (OCH_DELAY n.val) 23 16 =
        min 244 (s.fld (OCH_DELAY n.val) 7 0 + (s.trim 4 (n.val / 16) (b + 4) 1 false 61).toNat) ∧
      n.val ∉ t.cal.trimDue ∧ (∀ k, k ≠ n.val → (k ∈ t.cal.trimDue ↔ k ∈ s.cal.trimDue)) ∧
      RegsBut s t [OCH_DCOFS n.val, OCH_FSTRIM n.val, OCH_DELAY n.val, OCH_STAT n.val] ∧
      t = { s with regs := t.regs, cal := t.cal }) ∧
    (s.nOch ≤ n.val ∨ n.val ∉ s.cal.trimDue ∨ s.lanesAt n.val s.now ≠ 0 → exec (.outputTrimUpdate n) s = .next s)

/-- 00 R10; 02 R57; 04 R159; 09 R296; 14 R430, R431; 18 R500: a read of the low word of a split value returns it and
captures the others for the reading function, all at one instant; a function that may not read it, and a read that is no
32-bit word, gets 0 and captures nothing. 09 R300; 11 R359: the journal window returns the word of the selected
partition's entry in HOLD, and 0 outside HOLD; in deep HOLD the read waits for the exit that it starts. A read that is no
aligned 32-bit word returns 0 and has no effect (00 R10). -/
def Obligations.ReadsOfSplitValuesAndJournal : Prop :=
  (
  ∀ (s : State) (f : Fin 9) (c : Fin 16) (p : Fin 8) (d : Fin 2),
    let w := fun n : Nat => BitVec.ofNat 32 n
    let got := fun (t : State) (a : Nat) => look (fun _ => 0#32) t.rd.hi (hiKey f.val a)
    let only := fun (t : State) (l : List Nat) => t.rd.poisoned = false ∧ t.rd.entry = [] ∧
      (∀ k, k ∉ l.map (hiKey f.val) → look (fun _ => 0#32) t.rd.hi k = look (fun _ => 0#32) s.rd.hi k) ∧ t = { s with rd := t.rd }
    (s.mayRead f.val TIME_NOW_LO = true → Answers (.timeNowLoRead { f := f }) s fun t => t.rd.data = w s.now ∧
      got t TIME_NOW_HI = w (s.now / 2 ^ 32) ∧ only t [TIME_NOW_HI]) ∧
    (s.mayRead f.val (QTZ_TL_LO c.val) = true → c.val < s.nQtz → Answers (.qtzTlLoRead { f := f } c) s fun t =>
      t.rd.data = w ((s.qtz c.val).tl / 32) ∧ got t (QTZ_TL_HI c.val) = w ((s.qtz c.val).tl / 32 / 2 ^ 32) ∧
      only t [QTZ_TL_HI c.val]) ∧
    (s.mayRead f.val (STRATA_JHEAD_LO p.val) = true → p.val < s.nPart → Answers (.strataJheadLoRead { f := f } p) s fun t =>
      t.rd.data = w (s.part p.val).jcount ∧ got t (STRATA_JHEAD_HI p.val) = w ((s.part p.val).jcount / 2 ^ 32) ∧
      only t [STRATA_JHEAD_HI p.val]) ∧
    (s.mayRead f.val PTP_NOW_DT_LO = true → Answers (.ptpNowDtLoRead { f := f }) s fun t => t.rd.data = w s.now ∧
      got t PTP_NOW_DT_HI = w (s.now / 2 ^ 32) ∧ got t PTP_NOW_FT_LO = w s.time.ft.toNat ∧
      got t PTP_NOW_FT_HI = w (s.time.ft.toNat / 2 ^ 32) ∧ only t [PTP_NOW_DT_HI, PTP_NOW_FT_LO, PTP_NOW_FT_HI]) ∧
    (s.mayRead f.val (PTP_ANC_SEC_LO d.val) = true → Answers (.ptpAncSecLoRead { f := f } d) s fun t =>
      t.rd.data = s.reg (PTP_ANC_SEC_LO d.val) ∧ got t (PTP_ANC_SEC_HI d.val) = s.reg (PTP_ANC_SEC_HI d.val) ∧
      got t (PTP_ANC_NS d.val) = s.reg (PTP_ANC_NS d.val) ∧ got t (PTP_ANC_FT d.val) = s.reg (PTP_ANC_FT d.val) ∧
      only t [PTP_ANC_SEC_HI d.val, PTP_ANC_NS d.val, PTP_ANC_FT d.val]) ∧
    (∀ z, ∀ x ∈ [(Instr.timeNowLoRead { f := f, size := z }, TIME_NOW_LO), (.qtzTlLoRead { f := f, size := z } c, QTZ_TL_LO c.val),
        (.strataJheadLoRead { f := f, size := z } p, STRATA_JHEAD_LO p.val), (.ptpNowDtLoRead { f := f, size := z }, PTP_NOW_DT_LO),
        (.ptpAncSecLoRead { f := f, size := z } d, PTP_ANC_SEC_LO d.val)],
      z ≠ 4 ∨ s.mayRead f.val x.2 = false →
        exec x.1 s = .next { s with rd := { s.rd with data := 0#32, poisoned := false, entry := [] } })
  ) ∧ (
  ∀ (s : State) (off : BitVec 24), s.opened →
    let p := s.fld STRATA_JWSEL 2 0
    let i := (2 ^ 24 * s.fld STRATA_JWSEL 15 8 + off.toNat) / 32
    let e : Rec := look (fun _ => {}) (s.part p).journal i
    let words := [e.w0, e.w1, e.w2, e.w3, e.w4, e.w5, e.w6, e.w7]
    (∀ z, z ≠ 4 ∨ off.toNat % 4 ≠ 0 → exec (.journalWindowRead { off := off, size := z }) s =
      .next { s with rd := { s.rd with data := 0#32, poisoned := false, entry := [] } }) ∧
    (s.deep = 0 → off.toNat % 4 = 0 → (s.part p).mode = .hold → p < s.nPart → i < 32768 * s.fld (STRATA_JSIZE p) 12 0 →
      Answers (.journalWindowRead { off := off }) s fun t => words[off.toNat % 32 / 4]? = some t.rd.data ∧
        t = { s with rd := { s.rd with data := t.rd.data, poisoned := false, entry := [e] } }) ∧
    (s.deep = 0 → (s.part p).mode ≠ .hold ∨ 32768 * s.fld (STRATA_JSIZE p) 12 0 ≤ i →
      exec (.journalWindowRead { off := off }) s = .next { s with rd := { s.rd with data := 0#32, poisoned := false, entry := [] } }) ∧
    (s.deep = 1 ∨ s.deep = 2 → off.toNat % 4 = 0 → Answers (.journalWindowRead { off := off }) s fun t => t.deep = 3 ∧ t.rd = s.rd ∧
      t.mem = { s.mem with waits := s.mem.waits ++ [(3, BitVec.ofNat 32 off.toNat)] } ∧ t.parts = s.parts ∧
      RegsBut s t [MEM_STAT, MEM_CTRL])
  )

/-- 03 R109; 04 R158; 05 R178, R183; 06 R211; 07 R244; 08 R273, R284; 10 R333; 11 R360; 12 R389; 17 R484: the write that
clears counters clears those of its instance and nothing else, but for what they have counted in the same tick (18 R502);
an absent instance ignores it; before DONE it is discarded and counted. -/
def Obligations.CounterClears : Prop :=
  ∀ (s : State) (n : Fin 64) (m : Fin 16) (p : Fin 8) (r : Fin 32) (q : Fin 4),
    (∀ x ∈ [(Instr.ochCntclr n, decide (n.val < s.nOch), [OCH_SATCNT n.val, OCH_JCNT n.val, OCH_JLATE n.val], [OCH_PEAK n.val]),
        (.ichCntclr m, decide (m.val < s.nIch), [ICH_OVRCNT m.val, ICH_SATCNT m.val, ICH_WINCNT m.val, ICH_SETTLECNT m.val,
          ICH_REFUSE m.val], [ICH_PEAK m.val]),
        (.micaCntclr n, decide (n.val < s.nMica), [MICA_EMITCNT n.val, MICA_OVFCNT n.val, MICA_ERRCNT n.val, MICA_FIFODROP n.val,
          MICA_CBRSTCNT n.val, MICA_DMWREF n.val], [MICA_FIFOMAX n.val]),
        (.geodeCntclr p, decide (p.val < s.nPart), [GEODE_UNDERRUN p.val, GEODE_SETFULL p.val, GEODE_FILLS p.val], []),
        (.schedCntclr p, decide (p.val < s.nPart), [SCHED_LXCNT p.val, SCHED_DLATE p.val], [SCHED_PEAK p.val]),
        (.strataCntclr p, true, [STRATA_REPLAYS p.val, STRATA_FAILS p.val, MEM_PLENT p.val, MEM_PBORROWED p.val] ++
          (List.range 12).map (STRATA_CAUSECNT p.val), [STRATA_JMAX p.val]),
        (.decCntclr, true, [DEC_FWDTX, DEC_FWDRX, DEC_FWDLOST], []),
        (.garnetCntclr p, true, [GARNET_ROUNDS p.val, GARNET_LATE p.val, GARNET_ERR p.val], [GARNET_LATMAX p.val,
          GARNET_LASTLAT p.val]),
        (.capRcntclr r, true, [CAP_RWRITTEN r.val, CAP_RDROPPED r.val, CAP_RGAPS r.val], []),
        (.capPtrigClear p, true, [CAP_TRIGCNT p.val, CAP_TRIGIGN p.val], []),
        (.memCntclr p, decide (p.val < s.nChan), [MEM_CECNT p.val, MEM_UECNT p.val, MEM_CRCRETRY p.val, MEM_CRCFAIL p.val,
          MEM_NRCNT p.val, MEM_NRDROP p.val, MEM_PHIT p.val, MEM_PEMPTY p.val, MEM_PCONF p.val], []),
        (.meshCntclr q, decide (q.val < s.nPort), [MESH_NAK q.val, MESH_CRCERR q.val, MESH_DLATE q.val, MESH_DROP q.val,
          MESH_TRAINFAIL q.val] ++ (List.range 8).map (MESH_TESTERR q.val), [])],
      (s.opened → x.2.1 = true → Answers x.1 s fun t => (∀ a ∈ x.2.2.1, t.regN a = s.regN a - s.beforeN a) ∧
        (∀ a ∈ x.2.2.2, t.reg a = 0#32) ∧ RegsBut s t (x.2.2.1 ++ x.2.2.2) ∧
        t = { s with regs := t.regs, before := t.before }) ∧
      (s.opened → x.2.1 = false → exec x.1 s = .next s) ∧
      (s.heldOff = false → s.mode = .boot ∨ s.mode = .failed →
        exec x.1 s = .next (s.setN BOOT_OVRCNT (min (s.regN BOOT_OVRCNT + 1) (2 ^ 32 - 1))))) ∧
    (s.opened → m.val < s.nQtz → Answers (.qtzCntclr m) s fun t => t.regN (QTZ_SLACKMIN m.val) = 0x7FFFFF ∧
      (∀ a ∈ [QTZ_LATECNT m.val, QTZ_ICMISS m.val, QTZ_STALL_LA m.val, QTZ_STALL_BRD m.val, QTZ_STALL_SYNC m.val],
        t.regN a = s.regN a - s.beforeN a) ∧
      RegsBut s t [QTZ_SLACKMIN m.val, QTZ_LATECNT m.val, QTZ_ICMISS m.val, QTZ_STALL_LA m.val, QTZ_STALL_BRD m.val,
        QTZ_STALL_SYNC m.val] ∧ t = { s with regs := t.regs, before := t.before })

/-- 00 R11, R12; 18 R499, R502: after the lock a write sets the fields of type RW, unless it brings a reserved encoding;
in a field of type RW1C each 1 clears its bit, unless the device has set it in the same tick; every other field keeps its
value. -/
def Obligations.RegisterFields : Prop :=
  ∀ (a : Nat) (r : RegRow), pf0Row a = some r → ∀ f ∈ r.flds, ∀ old before w : Nat,
    (f.acc = .rw → f.get (r.write old before w) = if f.allows (f.get w) then f.get w else f.get old) ∧
    (f.acc = .rw1c → ∀ i, f.lo ≤ i → i ≤ f.hi → bitOf (r.write old before w) i = (bitOf old i && !(bitOf w i && bitOf before i))) ∧
    (f.acc ≠ .rw → f.acc ≠ .rw1c → f.get (r.write old before w) = f.get old)

/-- 00 R3, R10; 13 R408, R414; 18 R496, R499: a register takes aligned 32-bit writes only; a plain one takes its fields;
an absent instance and a reserved offset ignore writes; a register that has a command of its own acts as that command. A
word of the MSI-X table takes a write of its function; which of its bits do is the model's choice (log 16). -/
def Obligations.RegisterWrites : Prop :=
  ∀ (s : State) (f : Fin 9) (off : BitVec 26) (d : Word),
    (∀ size, size ≠ 4 ∨ off.toNat % 4 ≠ 0 → exec (.registerWrite f off size d) s = .next s) ∧
    (s.opened → off.toNat % 4 = 0 → 0x10000 ≤ off.toNat →
      (off.toNat < 0x3F00000 ∨ 0x3F00040 ≤ off.toNat) → (off.toNat < 0x20000 ∨ 0x30000 ≤ off.toNat) →
      s.present off.toNat = false ∨ (off.toNat < 0x1000000 ∧ pf0Row off.toNat = none) →
      exec (.registerWrite 8 off 4 d) s = .next s) ∧
    (s.opened → ∀ a ∈ [TIME_EPOCH_LO, TIME_EPOCH_HI, TIME_SYNCGEN_LO, CAL_REFV, HK_CTRL, HK_PERIOD, HK_LEN, GEODE_OBJSEL,
        STRATA_JWSEL], ∀ r, pf0Row a = some r →
      exec (.registerWrite 8 (BitVec.ofNat 26 a) 4 d) s = .next (s.setN a (r.write (s.regN a) (s.beforeN a) d.toNat))) ∧
    (s.opened → ∀ x ∈ [(HK_INJ, Instr.hkInj d), (TIME_CTRL, .epochArm d), (FLINT_TEST, .flintTestRun d)],
      exec (.registerWrite 8 (BitVec.ofNat 26 x.1) 4 d) s = exec x.2 s) ∧
    (s.opened → d.getLsbD 0 = true → ∀ x ∈ [(DEC_CNTCLR, Instr.decCntclr), (HK_CNTCLR, .hkCntclr)],
      exec (.registerWrite 8 (BitVec.ofNat 26 x.1) 4 d) s = exec x.2 s) ∧
    (∀ p : Fin 8, s.vfOn p.val = false → off.toNat % 4 = 0 →
      exec (.registerWrite (Fin.ofNat 9 p.val) off 4 d) s = .next s) ∧
    (∀ p : Fin 8, s.vfOn p.val = true → Answers (.registerWrite (Fin.ofNat 9 p.val) (BitVec.ofNat 26 VF_VIEWSEL) 4 d) s fun t =>
      t.vregN p.val VF_VIEWSEL = d.toNat % 16 + 16 * (s.vregN p.val VF_VIEWSEL / 16) ∧ t = { s with vregs := t.vregs }) ∧
    (∀ p : Fin 8, s.vfOn p.val = true → (s.part p.val).enabled = true → off.toNat % 4 = 0 → VF_JRING_LO ≤ off.toNat →
      off.toNat ≤ VF_RSIZE → exec (.registerWrite (Fin.ofNat 9 p.val) off 4 d) s = .next s) ∧
    (let put := fun (g : Nat) (i : Fin 16) (t : State) =>
       t.msix g i.val = (if i.val % 4 = 3 then d &&& 1#32 else d) ∧
       (∀ h < 9, ∀ j < 16, (h, j) ≠ (g, i.val) → t.msix h j = s.msix h j) ∧ t = { s with irq := { s.irq with table := t.irq.table } }
     ∀ i : Fin 16,
      (s.opened → Answers (.registerWrite 8 (BitVec.ofNat 26 (0x3F00000 + 4 * i.val)) 4 d) s (put 8 i)) ∧
      ∀ p : Fin 8, s.vfOn p.val = true →
        Answers (.registerWrite (Fin.ofNat 9 p.val) (BitVec.ofNat 26 (0x80000 + 4 * i.val)) 4 d) s (put p.val i))

/-- 17 R488; 19 R515, R522, R523: a cold reset gives every register its reset value, empties the device and clamps the
bias outputs, the flash and the fuses stay; once nothing holds the reset the boot starts stage PLL; a thermal shutdown
holds it until every sensor is below 95 °C. 15 R440; 17 R489, R490: a warm reset abandons the device's work, keeps the
bias outputs with WARM_HOLD, ramps the others to 0 and keeps DTIME; the boot starts once those have clamped; PERST# as a
link reset resets every partition. -/
def Obligations.ColdAndWarmResets : Prop :=
  (
  ∀ (s : State) (l : List Int),
    let cold := fun t : State => t.mode = .boot ∧ t.heldOff = true ∧ (∀ a, t.reg a = pf0Reset a) ∧ t.parts = [] ∧
      t.cores = [] ∧ t.biases = [] ∧ t.vregs = [] ∧ t.rings = [] ∧ t.time = {} ∧ t.cal = {} ∧ t.pins.tripOut = 15#4 ∧
      t.fab = { freeN := s.fab.freeN } ∧ t.flash = s.flash ∧ t.variant = s.variant ∧ t.serial = s.serial ∧
      t.pending = s.pending ∧ t.mem = { poisoned := s.mem.poisoned }
    let starts := fun t : State => if t.heldOff then t.regs = s.regs else t.bootStage = 1 ∧ t.boot.ticks = 0
    let only := fun t : State => RegsBut s t [BOOT_STAT] ∧ t = { s with regs := t.regs, boot := t.boot, pins := t.pins }
    Answers .coldReset s (fun t => cold t ∧ t.boot.held = true) ∧
    Answers .railUndervoltage s (fun t => cold t ∧ t.boot.held = true) ∧
    Answers (.extest true) s (fun t => cold t ∧ t.boot.extest = true) ∧
    ((∃ x ∈ l, 115 ≤ x) → Answers (.thermalShutdown l) s fun t => cold t ∧ t.boot.thermal = true ∧ t.pins.therm = true) ∧
    ((∀ x ∈ l, x < 115) → exec (.thermalShutdown l) s = .next s) ∧
    (s.boot.held = true → Answers .resetNRelease s fun t => t.boot.held = false ∧ starts t ∧ only t) ∧
    (s.boot.held = false → exec .resetNRelease s = .next s) ∧
    (s.boot.extest = true → Answers (.extest false) s fun t => t.boot.extest = false ∧ starts t ∧ only t) ∧
    (s.boot.thermal = true → (∀ x ∈ l, x < 95) → Answers (.thermalRecovery l) s fun t =>
      t.boot.thermal = false ∧ t.pins.therm = false ∧ starts t ∧ only t) ∧
    (s.boot.thermal = false ∨ (∃ x ∈ l, 95 ≤ x) → exec (.thermalRecovery l) s = .next s) ∧
    ((∃ x ∈ l, 100 ≤ x) → exec (.thermalWarning l) s = .next { s with pins := { s.pins with therm := true } }) ∧
    ((∀ x ∈ l, x < 95) → s.boot.thermal = false →
      exec (.thermalWarning l) s = .next { s with pins := { s.pins with therm := false } }) ∧
    ((∀ x ∈ l, x < 100) → (∃ x ∈ l, 95 ≤ x) → exec (.thermalWarning l) s = .next s)
  ) ∧ (
  ∀ (s : State),
    (s.heldOff = true → exec .warmReset s = .next s) ∧
    (s.heldOff = false → s.mode = .run → Answers .warmReset s fun t =>
      t.mode = .boot ∧ t.heldOff = false ∧ t.boot.warm = true ∧ t.boot.biasWait = true ∧ t.bootStage = 0 ∧
      t.parts = [] ∧ t.cores = [] ∧ t.rings = [] ∧ t.fab.events = [] ∧ t.fab.pulses = [] ∧ t.flash = s.flash ∧
      t.time.dtime = s.time.dtime ∧ (∀ n, n < s.nOch → t.ochState n = 0) ∧
      t.bit BOOT_CTRL 0 = s.bit BOOT_CTRL 0 ∧
      (∀ n < s.nBias, (n ∈ t.boot.kept ↔ (s.biasOwner n).isSome = true ∧ s.bit (BIAS_CFG n) 7 = true)) ∧
      (∀ n < s.nBias, n ∈ t.boot.kept → (t.bias n).out = (s.bias n).out ∧ (t.bias n).target = (s.bias n).target ∧
        t.biasState n = s.biasState n) ∧
      (∀ n < s.nBias, n ∉ t.boot.kept → s.biasState n = bSteady → (t.bias n).target = 0 ∧ (t.bias n).out = (s.bias n).out ∧
        (t.bias n).clampAfter = true ∧ t.biasState n = bRamping)) ∧
    (s.boot.biasWait = false ∨ s.mode ≠ .boot → exec .bootWait s = .next s) ∧
    (s.mode = .boot → s.boot.biasWait = true → s.heldOff = false →
      (∀ n < s.nBias, n ∈ s.boot.kept ∨ s.biasState n = bClamped) → Answers .bootWait s fun t =>
        t.boot.biasWait = false ∧ t.bootStage = 1 ∧ t.time = {} ∧ RegsBut s t [BOOT_STAT] ∧
        (∀ n, n ∉ s.boot.kept → t.bias n = {}) ∧
        (∀ n ∈ s.boot.kept, (t.bias n).out = (s.bias n).out ∧ (t.bias n).prev = (s.bias n).out ∧
          (t.bias n).target = (s.bias n).target ∧ t.biasState n = s.biasState n ∧ (t.bias n).shortAt = none)) ∧
    (s.mode = .boot → (∃ n < s.nBias, n ∉ s.boot.kept ∧ s.biasState n ≠ bClamped) → exec .bootWait s = .next s) ∧
    (s.bit GLB_CFG 0 = false ∨ s.mode = .boot ∨ s.mode = .failed → exec .perstLinkReset s = .next s) ∧
    (s.bit GLB_CFG 0 = true → s.mode ≠ .boot → s.mode ≠ .failed → Answers .perstLinkReset s fun t =>
      t.mode = s.mode ∧ t.pins.linkUp = false ∧ t.regN HOST_LINK = 0 ∧
      ∀ p < s.nPart, (t.part p).mode = .hold ∧ (t.part p).job = none ∧ (t.part p).rbusy = true ∧
        (t.part p).enabled = false ∧ (t.part p).cause = (s.resetCause p).1 ∧ (t.part p).resumeNeeded = (s.resetCause p).2)
  )

/-- 13 R411, R412; 18 R505: a reset of a partition discards its work without completion record, halts and clears its
cores, gives its frames the shadow values and its slots their reset state, and leaves it in HOLD with cause reset, where
no trigger of the same tick ranks above it (01 R33); an FLR also resets its VF registers, PART_RESET keeps the ring
addresses. -/
def Obligations.PartitionResets : Prop :=
  ∀ (s : State) (p : Fin 8),
    let done := fun t : State => (t.part p.val).mode = .hold ∧ (t.part p.val).cause = (s.resetCause p.val).1 ∧
      (t.part p.val).resumeNeeded = (s.resetCause p.val).2 ∧ (t.part p.val).job = none ∧
      (t.part p.val).attempt.active = false ∧ (t.part p.val).rbusy = true ∧ (t.part p.val).enabled = false ∧
      (t.part p.val).taken = 0 ∧ (t.part p.val).waitq = [] ∧ (t.part p.val).jcount = 0 ∧
      (∀ c ∈ s.qtzOf p.val, t.qtz c = {}) ∧ (∀ c, c ∉ s.qtzOf p.val → t.qtz c = s.qtz c) ∧
      (∀ f ∈ s.framesOf p.val, t.frame f = look (fun _ => {}) s.frameShadow f) ∧
      (∀ i ∈ s.slotsOf p.val, t.slot i = {}) ∧ (∀ i, i ∉ s.slotsOf p.val → t.slot i = s.slot i) ∧
      (∀ e ∈ t.fab.events, e.part ≠ p.val) ∧ (∀ n ∈ s.ochsOf p.val, t.ochState n ≠ 2) ∧
      t.mode = s.mode ∧ (∀ q, q ≠ p.val → (t.part q).mode = (s.part q).mode ∧ (t.part q).job = (s.part q).job)
    (s.partLive p.val = true → Answers (.flr p) s fun t => done t ∧ (∀ o < 0x100000, t.vreg p.val o =
      vfReset (0x100000 * p.val + o)) ∧ (t.part p.val).preset = false) ∧
    (s.partLive p.val = false → exec (.flr p) s = .next s) ∧
    (s.opened → p.val < s.nPart → Answers (.partReset p) s fun t => done t ∧ (t.part p.val).preset = true ∧
      (∀ o < 0x100000, o ≠ VF_RINGCTL → t.vreg p.val o = s.vreg p.val o) ∧ t.vregN p.val VF_RINGCTL = 0) ∧
    ((s.part p.val).rbusy = true → exec (.partitionResetDone p) s = .next (s.updPart p.val fun q => { q with rbusy := false })) ∧
    ((s.part p.val).rbusy = false → exec (.partitionResetDone p) s = .next s)

/-- 01 R29, R33, R34; 17 R491: TEST is entered only from RUN with every partition in HOLD, and TESTEND leaves it; a press
of OPERATOR_HOLD_N asks for HOLD at the boundary and ends TEST, a long press holds every partition at once and ranks
above what came in the same tick by the order of causes, a release clears both bits. -/
def Obligations.DeviceModes : Prop :=
  ∀ (s : State),
    (s.heldOff = true → exec .testEnter s = .next s) ∧
    (s.heldOff = false → s.deep ≠ 0 → Answers .testEnter s fun t => t.deep = 3 ∧ t.mode = s.mode ∧ t.parts = s.parts ∧
      t.mem = { s.mem with waits := s.mem.waits ++ [(2, 0#32)] }) ∧
    (s.heldOff = false → s.deep = 0 →
      (s.mode = .run ∧ s.allHold = true → Answers .testEnter s fun t => t.mode = .test ∧ t.parts = s.parts ∧
        (∀ n < s.nBias, (s.biasOwner n).isSome = true → t.biasState n = bControl) ∧
        RegsBut s t ((List.range s.nBias).map BIAS_STAT) ∧
        t = { s with mode := .test, regs := t.regs, biases := t.biases }) ∧
      (s.mode ≠ .run ∨ s.allHold = false → Answers .testEnter s fun t => t.bit GLB_STAT 6 = true ∧
        RegsBut s t [GLB_STAT] ∧ t = { s with regs := t.regs, before := t.before })) ∧
    (s.mode ≠ .test → exec .testend s = .next s) ∧
    (s.mode = .test → Answers .testend s fun t => t.mode = .run ∧ t.parts = s.parts ∧ t.flint.step = none ∧
      (∀ n < s.nBias, (t.bias n).recorded = none) ∧ (∀ q < s.nPort, ∀ l < 8, (t.lane q l).testing = false)) ∧
    (s.heldOff = true → exec .operatorHoldPress s = .next s ∧ exec .operatorHoldLongpress s = .next s) ∧
    (s.heldOff = false → s.mode = .run → Answers .operatorHoldPress s fun t => t.bit GLB_STAT 4 = true ∧ t.mode = .run ∧
      (∀ p < s.nPart, (s.part p).mode = .shot → (s.part p).attempt.active = true →
        (t.part p).mode = .shot ∧ (t.part p).holdReq = (s.part p).holdReq.or (some .shortPress)) ∧
      (∀ p < s.nPart, (s.part p).mode = .stream → (s.part p).job = none → (t.part p).mode = .hold ∧
        (t.part p).cause = .shortPress ∧ (t.part p).resumeNeeded = true)) ∧
    (s.heldOff = false → s.mode = .test → Answers .operatorHoldPress s fun t => t.bit GLB_STAT 4 = true ∧ t.mode = .run) ∧
    (s.heldOff = false → s.bit GLB_STAT 4 = true → Answers .operatorHoldLongpress s fun t => t.bit GLB_STAT 5 = true ∧
      (∀ p < s.nPart, (t.part p).mode = .hold ∧ ((s.part p).mode ≠ .hold → (t.part p).cause = .longPress) ∧
        ((s.part p).mode = .hold → (t.part p).cause =
          if (s.part p).holdAt = s.now ∧ holdRank .longPress < holdRank (s.part p).cause then .longPress
          else (s.part p).cause))) ∧
    (s.bit GLB_STAT 4 = false → exec .operatorHoldLongpress s = .next s) ∧
    exec .operatorHoldRelease s = .next ((s.setBit GLB_STAT 4 false).setBit GLB_STAT 5 false)

/-- 11 R358, R359: the end of the exit from deep HOLD: the memory and the ports return, what waited starts, a channel
that trained without its record raises MEM_STAT.RECTRAIN and each channel shows the step at which it failed. -/
def Obligations.DeepHoldExit : Prop :=
  ∀ (s : State) (chans : List ChTrain),
    (s.deep ≠ 3 → exec (.deepExitDone chans) s = .next s) ∧
    (s.deep = 3 → s.mem.waits = [] → Answers (.deepExitDone chans) s fun t => t.deep = 0 ∧ t.pins.phyIdle = false ∧
      t.mem.waits = [] ∧ t.mode = s.mode ∧ (∀ p, t.part p = { s.part p with capWait := (t.part p).capWait }) ∧
      ((∀ r < 32, (s.ring r).early = []) → t.parts = s.parts) ∧
      ((∃ c < s.nChan, (chans.getD c {}).fromRecord = false) → t.bit MEM_STAT 3 = true) ∧
      ∀ c < s.nChan, t.fld (MEM_CHSTAT c) 6 3 = (chans.getD c {}).failStep.val)

/-- 02 R48; 17 R482, R485, R488; 16 R465; 08 R259: each stage acts only in its turn; a stage that passes gives the next,
one that fails ends in BOOT_FAILED with its code; LOCK sets LOCKED and drops the overrides; the last stage starts DTIME
at 0, with every partition as it stood, and reaches DONE. 17 R484: a write to an RWL field before the lock is held as an
override, the first 256 of them; a further one, and one after the lock and before DONE or in BOOT_FAILED outside GLB and
BOOT, is counted; after DONE the command does nothing. -/
def Obligations.BootAndOverrides : Prop :=
  (
  ∀ (s : State) (id : Word) (die : Fin 5) (chans : List ChTrain) (inputs : List FlintIn),
    let at' := fun k : Nat => s.mode = .boot ∧ s.heldOff = false ∧ s.bootStage = k
    let moves := fun (t : State) (k : Nat) => t.mode = .boot ∧ t.bootStage = k ∧ t.flash = s.flash ∧ t.parts = s.parts
    let fails := fun (t : State) (code detail : Nat) => t.mode = .failed ∧ t.bootStage = 14 ∧ t.fld BOOT_STAT 11 4 = code ∧
      t.regN BOOT_DETAIL = detail ∧ t.flash = s.flash ∧ ∀ n < 128, t.biasState n = bClamped
    (∀ x ∈ [(1, Instr.bootPll true true), (1, .bootPll false false), (2, .bootFlash true id), (2, .bootFlash false id),
        (3, .bootD2d none), (3, .bootD2d (some die)), (4, .bootDdr chans), (5, .bootImage), (6, .bootLock), (7, .bootCalapply),
        (8, .bootBias inputs)], ¬at' x.1 → exec x.2 s = .next s) ∧
    (at' 1 → Answers (.bootPll true true) s (fun t => moves t 2 ∧ t.bit TIME_STAT 0 = true ∧
        RegsBut s t [TIME_STAT, BOOT_STAT] ∧ t = { s with regs := t.regs }) ∧
      Answers (.bootPll false true) s (fun t => fails t 1 (Config.bootDetail 1 % 2 ^ 32)) ∧
      Answers (.bootPll true false) s fun t => fails t 1 (Config.bootDetail 1 % 2 ^ 32)) ∧
    (at' 2 → Answers (.bootFlash false id) s (fun t => fails t 2 (Config.bootDetail 2 % 2 ^ 32)) ∧
      Answers (.bootFlash true id) s fun t => moves t 3 ∧ t.regN BOOT_FLID = id.toNat % 2 ^ 24 ∧
        (t.bootSlot = 1 ↔ s.boot.warm = true ∧ s.bit BOOT_CTRL 0 = true) ∧
        t.boot.half = (t.calHalf t.bootSlot).map (·.1) ∧ RegsBut s t [BOOT_FLID, BOOT_STAT] ∧
        t = { s with regs := t.regs, boot := { s.boot with half := t.boot.half, gen := t.boot.gen } }) ∧
    (at' 3 → Answers (.bootD2d none) s (fun t => moves t 4 ∧ RegsBut s t [BOOT_STAT] ∧ t = { s with regs := t.regs }) ∧
      Answers (.bootD2d (some die)) s fun t => fails t 3 die.val) ∧
    (at' 4 → (∀ c < s.nChan, (chans.getD c {}).failStep = 0) → Answers (.bootDdr chans) s fun t => moves t 5 ∧
      (t.bit MEM_STAT 3 = true ↔ s.bit MEM_STAT 3 = true ∨
        (s.boot.warm = true ∧ ∃ c < s.nChan, s.halfField 12 = 0 ∨ (chans.getD c {}).fromRecord = false)) ∧
      ∀ c < s.nChan, t.fld (MEM_CHSTAT c) 6 3 = 0 ∧ t.bit (MEM_CHSTAT c) 1 = true) ∧
    (at' 4 → ∀ c < s.nChan, (chans.getD c {}).failStep ≠ 0 → (∀ k < c, (chans.getD k {}).failStep = 0) →
      Answers (.bootDdr chans) s fun t => fails t 4 c) ∧
    (at' 5 → Answers .bootImage s fun t => match s.dropBiasCfg.trySlot s.bootSlot s.boot.overrides with
      | .ok u => moves t 6 ∧ t.frames = u.frames ∧ t.frameShadow = u.frames ∧ t.frameOwner = u.frameOwner ∧
          t.regN BOOT_IMGSEQ = u.regN BOOT_IMGSEQ
      | .error e => t.boot.overrides = [] ∧ t.flash = s.flash ∧ ((t.mode = .boot ∧ t.bootStage = 6) ∨
          (t.mode = .failed ∧ t.bootStage = 14 ∧ t.bit BOOT_STAT 13 = true ∧ (t.bootSlot = 1 ↔ s.bootSlot = 0) ∧
            t.regN BOOT_FAIL = (e.1 + 256 * (e.2 % 2 ^ 24)) % 2 ^ 32))) ∧
    (at' 6 → Answers .bootLock s fun t => moves t 7 ∧ t.bit GLB_STAT 3 = true ∧ t.boot = { s.boot with overrides := [] } ∧
      RegsBut s t [GLB_STAT, BOOT_STAT] ∧ t = { s with regs := t.regs, boot := t.boot }) ∧
    (at' 7 → Answers .bootCalapply s fun t => moves t 8 ∧ t.bit CAL_INFO 0 = t.cal.valid ∧ t.cal.trimDue = [] ∧
      (s.boot.half = none → t.cal.valid = false) ∧
      (t.cal.valid = false → t.cal.store = [] ∧
        (∀ n < s.nOch, t.fld (OCH_DCOFS n) 15 0 = 0 ∧ t.fld (OCH_DELAY n) 15 8 = 61) ∧
        ∀ l ∈ s.trkAll, s.trkKind l = 0 → (t.loop l).ref = BitVec.ofInt 64 (toSigned 32 (s.regN (s.trkT01 l))))) ∧
    (at' 8 → Answers (.bootBias inputs) s fun t => t.mode = .run ∧ t.bootStage = 15 ∧ t.fld BOOT_STAT 11 4 = 0 ∧
      t.time.dtime = 0#64 ∧ t.regN BOOT_TIME = s.boot.ticks / 640000 % 2 ^ 32 ∧
      (∀ p, (t.part p).mode = (s.part p).mode ∧ (t.part p).job = (s.part p).job) ∧
      (∀ m < 48, s.hasMon m = true → s.bit (FLINT_CFG m) 0 = true → inputs[m]? = some .inside → t.flintLatched m = false) ∧
      (∀ m < 48, s.hasMon m = true → s.bit (FLINT_CFG m) 0 = true → s.flintLatched m = true → inputs[m]? = some .high →
        t.flintLatched m = true ∧ t.bit (FLINT_STAT m) 4 = true ∧
        ∀ p < s.nPart, s.bit (FLINT_CFG m) (4 + p) = true → (t.part p).resumeNeeded = true) ∧
      (∀ n < s.nOch, (s.ochOwner n).isSome = true → s.bit (OCH_STAT n) 4 = false → t.ochState n = 1) ∧
      (∀ d < 2, s.bit (PTP_DCFG d) 0 = true → t.dstate d = 1))
  ) ∧ (
  ∀ (s : State) (off : BitVec 26) (d : Word),
    (hasRwl off.toNat = true → s.mode = .boot → s.heldOff = false → s.bootStage ≤ 5 →
      (s.boot.overrides.length < 256 → exec (.configOverride off d) s = .next { s with
        boot := { s.boot with overrides := s.boot.overrides ++ [(off.toNat, d)] } }) ∧
      (256 ≤ s.boot.overrides.length → exec (.configOverride off d) s =
        .next (s.setN BOOT_OVRCNT (min (s.regN BOOT_OVRCNT + 1) (2 ^ 32 - 1))))) ∧
    (hasRwl off.toNat = true → s.heldOff = false → s.mode = .failed ∨ (s.mode = .boot ∧ 5 < s.bootStage) →
      exec (.configOverride off d) s = .next (if off.toNat / 0x10000 = 0 ∨ off.toNat / 0x10000 = 2 then s
        else s.setN BOOT_OVRCNT (min (s.regN BOOT_OVRCNT + 1) (2 ^ 32 - 1)))) ∧
    (hasRwl off.toNat = false ∨ s.heldOff = true ∨ s.opened → exec (.configOverride off d) s = .next s)
  )

/-- 17 R486, R487: a flash command is refused outside device HOLD and BOOT_FAILED, while another is in progress, out of
range or on the protected area; READ fills the buffer; ERASE leaves 0xFF in its sector; PROGRAM writes its bytes; COPYCAL
copies the valid half of the booted slot to both halves of the other; a failed command leaves the flash. 11 R340; 17
R480: the write-back erases the other half of the booted slot's calibration area and writes it, its header with GEN one
greater; a failed one leaves that half erased and the half in force as it was; the training record is rewritten once,
outside BOOT. -/
def Obligations.FlashAndCalibrationArea : Prop :=
  (
  ∀ (s : State) (len : BitVec 13), s.heldOff = false →
    let a := s.fld BOOT_FLADDR 25 0
    let byte := fun (t : State) (x : Nat) => look flashDef t.flash x
    let device := s.mode = .failed ∨ (s.mode = .run ∧ s.allHold = true)
    let refused := fun (t : State) (code : Nat) => t.fld BOOT_FLSTAT 4 2 = code ∧ t.boot = s.boot ∧
      RegsBut s t [BOOT_FLCMD, BOOT_FLSTAT] ∧ t = { s with regs := t.regs }
    let taken := fun (t : State) (op : Nat) (l : List Byte) => 
      t.boot = { s.boot with flOp := some (op, a, len.toNat, l), flLeft := op == 0 } ∧
      t.bit BOOT_FLSTAT 0 = true ∧ RegsBut s t [BOOT_FLCMD, BOOT_FLSTAT] ∧ t = { s with regs := t.regs, boot := t.boot }
    (∀ c ∈ [Instr.flRead len, .flErase len, .flProgram len, .flCopycal len],
      (¬device → Answers c s fun t => refused t 2) ∧
      (device → s.boot.flOp.isSome = true ∨ s.boot.wb = true → Answers c s fun t => refused t 3)) ∧
    (device → s.boot.flOp = none → s.boot.wb = false →
      (1 ≤ len.toNat → len.toNat ≤ 4096 → a + len.toNat ≤ 0x4000000 → Answers (.flRead len) s fun t => taken t 0 []) ∧
      (len.toNat = 0 ∨ 4096 < len.toNat → Answers (.flRead len) s fun t => refused t 1) ∧
      (s.flProtected (a / 4096 * 4096) 4096 = false → Answers (.flErase len) s fun t => taken t 1 []) ∧
      (s.flProtected (a / 4096 * 4096) 4096 = true → Answers (.flErase len) s fun t => refused t 4) ∧
      (1 ≤ len.toNat → a % 256 + len.toNat ≤ 256 → s.flProtected a len.toNat = false →
        Answers (.flProgram len) s fun t => taken t 2 (s.flBytes len.toNat)) ∧
      (1 ≤ len.toNat → 256 < a % 256 + len.toNat → Answers (.flProgram len) s fun t => refused t 1) ∧
      Answers (.flCopycal len) s fun t => taken t 3 []) ∧
    (s.boot.flOp = none → ∀ good, exec (.flashCommandDone good) s = .next s) ∧
    (∀ op b n l, s.boot.flOp = some (op, b, n, l) →
      (∀ good, Answers (.flashCommandDone good) s fun t => t.bit BOOT_FLSTAT 1 = true ∧ t.boot.flOp = none ∧
        t.bit BOOT_FLSTAT 0 = s.boot.wb ∧ t.fld BOOT_FLSTAT 4 2 = (if good then 0 else 5) ∧
        (good = false ∨ op = 0 → t.flash = s.flash) ∧
        t = { s with regs := t.regs, before := t.before, boot := { s.boot with flOp := none, flLeft := false }, flash := t.flash }) ∧
      (op = 0 → n ≤ 4096 → Answers (.flashCommandDone true) s fun t =>
        (∀ i < n, bits (t.regN (BOOT_FLBUF (i / 4))) (8 * (i % 4) + 7) (8 * (i % 4)) = (byte s (b + i)).toNat)) ∧
      (op = 1 → Answers (.flashCommandDone true) s fun t => ∀ x,
        byte t x = if b / 4096 * 4096 ≤ x ∧ x < b / 4096 * 4096 + 4096 then 0xFF#8 else byte s x) ∧
      (op = 2 → Answers (.flashCommandDone true) s fun t => ∀ x,
        byte t x = if b ≤ x ∧ x < b + l.length then l.getD (x - b) 0#8 else byte s x) ∧
      (op = 3 → ∀ h g, s.calHalf s.bootSlot = some (h, g) → Answers (.flashCommandDone true) s fun t =>
        let o := halfBase (1 - s.bootSlot) 0
        ∀ x, byte t x = if o ≤ x ∧ x < o + 0x200000 then byte s (halfBase s.bootSlot h + (x - o) % 0x100000) else byte s x))
  ) ∧ (
  ∀ (s : State) (tr : List Byte),
    let h := if s.boot.half = some 0 then 1 else 0
    let base := halfBase s.bootSlot h
    let byte := fun (t : State) (x : Nat) => look flashDef t.flash x
    (s.boot.wb = false ∨ s.boot.flOp ≠ none → ∀ good, exec (.calAreaWrite tr good) s = .next s) ∧
    (s.boot.wb = true → s.boot.flOp = none →
      (∀ good, Answers (.calAreaWrite tr good) s fun t => t.boot.wb = false ∧ t.boot.wrote = good ∧
        t.bit BOOT_FLSTAT 0 = false ∧ (good = false → t.bit BOOT_STAT 14 = true ∧ t.boot.half = s.boot.half ∧
          ∀ x, base ≤ x → x < base + 0x100000 → byte t x = 0xFF#8) ∧
        (∀ x, (x < base ∨ base + 0x100000 ≤ x) → s.storeBytes.length ≤ 0x7FFC0 → byte t x = byte s x) ∧
        RegsBut s t [BOOT_FLSTAT, BOOT_STAT] ∧
        t = { s with regs := t.regs, before := t.before, boot := t.boot, flash := t.flash }) ∧
      (s.storeBytes.length ≤ 0x7FFC0 → Answers (.calAreaWrite tr true) s fun t => t.boot.half = some h ∧
        t.boot.gen = (s.boot.gen + 1) % 2 ^ 32 ∧
        (∀ i < s.storeBytes.length, byte t (base + 0x40 + i) = s.storeBytes.getD i 0#8) ∧
        (∀ i < tr.length, i < 0x80000 → byte t (base + 0x80000 + i) = tr.getD i 0#8) ∧
        t.halfGen s.bootSlot h = some ((s.boot.gen + 1) % 2 ^ 32))) ∧
    (s.mem.rewrite = false ∨ s.boot.wb = true ∨ s.mode = .boot ∨ s.mode = .failed →
      ∀ w, exec (.trainingRecordRewrite w) s = .next s) ∧
    (s.mem.rewrite = true → s.boot.wb = false → s.mode ≠ .boot → s.mode ≠ .failed →
      Answers (.trainingRecordRewrite false) s (fun t => t.boot = { s.boot with wb := true, wrote := false } ∧
        t.bit BOOT_FLSTAT 0 = true ∧ RegsBut s t [BOOT_FLSTAT] ∧ t = { s with regs := t.regs, boot := t.boot }) ∧
      (s.boot.wrote = true → Answers (.trainingRecordRewrite true) s fun t => t.mem = { s.mem with rewrite := false } ∧
        t.bit MEM_STAT 4 = true ∧ RegsBut s t [MEM_STAT] ∧ t = { s with regs := t.regs, mem := t.mem }))
  )
end

