-- ==== Sys2Proof/Laws/Tab.lean ====
section
/-!
SUPPORT. Laws of sparse tables: a read after a write, for every table, and that writes keep the canonical form.
-/
namespace Sys2Proof.Machine

variable {α : Type} {d : Nat → α}

@[simp] theorem look_nil (i : Nat) : look d [] i = d i := rfl

theorem look_drop_eq (t : Tab α) (i : Nat) : look d (drop t i) i = d i := by
  induction t with
  | nil => rfl
  | cons p t ih =>
    simp only [drop]
    split
    · exact ih
    · rename_i h; simp only [look, if_neg h, ih]

theorem look_drop_ne (t : Tab α) {i k : Nat} (hk : k ≠ i) : look d (drop t i) k = look d t k := by
  induction t with
  | nil => rfl
  | cons p t ih =>
    simp only [drop]
    split
    · rename_i h; subst h; simp only [look, if_neg hk, ih]
    · simp only [look, ih]

theorem look_insert_eq (t : Tab α) (i : Nat) (v : α) (h : ∀ p ∈ t, p.1 ≠ i) : look d (insert t i v) i = v := by
  induction t with
  | nil => simp [insert, look]
  | cons p t ih =>
    simp only [insert]
    split
    · simp [look]
    · have hp : i ≠ p.1 := fun e => h p List.mem_cons_self e.symm
      simp only [look, if_neg hp]
      exact ih fun q hq => h q (List.mem_cons_of_mem _ hq)

theorem look_insert_ne (t : Tab α) (i : Nat) (v : α) {k : Nat} (hk : k ≠ i) :
    look d (insert t i v) k = look d t k := by
  induction t with
  | nil => simp [insert, look, hk]
  | cons p t ih =>
    simp only [insert]
    split
    · simp [look, hk]
    · simp only [look, ih]

theorem drop_absent (t : Tab α) (i : Nat) : ∀ p ∈ drop t i, p.1 ≠ i := by
  induction t with
  | nil => simp [drop]
  | cons q t ih =>
    intro p hp
    simp only [drop] at hp
    split at hp
    · exact ih p hp
    · rename_i h
      rcases List.mem_cons.1 hp with rfl | hm
      · exact fun e => h e.symm
      · exact ih p hm

variable [DecidableEq α]

/-- A read of the index written gives the value written. -/
@[simp] theorem look_put_eq (t : Tab α) (i : Nat) (v : α) : look d (put d t i v) i = v := by
  unfold put
  split
  · rename_i h; rw [look_drop_eq, h]
  · exact look_insert_eq _ i v (drop_absent t i)

/-- A write leaves every other index alone. -/
theorem look_put_ne (t : Tab α) {i k : Nat} (v : α) (hk : k ≠ i) : look d (put d t i v) k = look d t k := by
  unfold put
  split
  · exact look_drop_ne t hk
  · rw [look_insert_ne _ i v hk, look_drop_ne t hk]

/-- A read after a write. -/
theorem look_put (t : Tab α) (i k : Nat) (v : α) : look d (put d t i v) k = if k = i then v else look d t k := by
  split
  · rename_i h; subst h; exact look_put_eq t k v
  · rename_i h; exact look_put_ne t v h

/-! The canonical form. -/

theorem wfAbove_mono {t : Tab α} {m n : Nat} (hmn : m ≤ n) (h : wfAbove d n t = true) :
    wfAbove d m t = true := by
  cases t with
  | nil => rfl
  | cons p t =>
    simp only [wfAbove, Bool.and_eq_true, decide_eq_true_eq] at h ⊢
    exact ⟨⟨by omega, h.1.2⟩, h.2⟩

theorem wf_of_wfAbove {t : Tab α} {n : Nat} (h : wfAbove d n t = true) : wf d t = true := by
  cases t with
  | nil => rfl
  | cons p t =>
    simp only [wfAbove, Bool.and_eq_true] at h
    simp only [wf, Bool.and_eq_true]
    exact ⟨h.1.2, h.2⟩

theorem drop_wfAbove {t : Tab α} {n i : Nat} (h : wfAbove d n t = true) : wfAbove d n (drop t i) = true := by
  induction t generalizing n with
  | nil => rfl
  | cons p t ih =>
    simp only [wfAbove, Bool.and_eq_true, decide_eq_true_eq] at h
    simp only [drop]
    split
    · exact wfAbove_mono (Nat.le_of_lt h.1.1) (ih h.2)
    · simp only [wfAbove, Bool.and_eq_true, decide_eq_true_eq]
      exact ⟨h.1, ih h.2⟩

theorem insert_wfAbove {t : Tab α} {n i : Nat} {v : α} (hn : n < i) (hv : v ≠ d i) (ha : ∀ p ∈ t, p.1 ≠ i)
    (h : wfAbove d n t = true) : wfAbove d n (insert t i v) = true := by
  induction t generalizing n with
  | nil => simp [insert, wfAbove, hn, hv]
  | cons p t ih =>
    simp only [wfAbove, Bool.and_eq_true, decide_eq_true_eq, Bool.not_eq_true', decide_eq_false_iff_not] at h
    simp only [insert]
    split
    · simp [wfAbove, hn, hv, h.1.2, h.2]; omega
    · have hp := ha p List.mem_cons_self
      have := ih (n := p.1) (by omega) (fun q hq => ha q (List.mem_cons_of_mem _ hq)) h.2
      simp [wfAbove, this, h.1.1, h.1.2]

theorem drop_wf {t : Tab α} (i : Nat) (h : wf d t = true) : wf d (drop t i) = true := by
  cases t with
  | nil => rfl
  | cons p t =>
    simp only [wf, Bool.and_eq_true] at h
    simp only [drop]
    split
    · exact wf_of_wfAbove (drop_wfAbove h.2)
    · simp only [wf, Bool.and_eq_true]
      exact ⟨h.1, drop_wfAbove h.2⟩

theorem insert_wf {t : Tab α} {i : Nat} {v : α} (hv : v ≠ d i) (ha : ∀ p ∈ t, p.1 ≠ i) (h : wf d t = true) :
    wf d (insert t i v) = true := by
  cases t with
  | nil => simp [insert, wf, wfAbove, hv]
  | cons p t =>
    simp only [wf, Bool.and_eq_true] at h
    have hp := ha p List.mem_cons_self
    simp only [insert]
    split
    · simp only [wf, wfAbove, Bool.and_eq_true, decide_eq_true_eq, Bool.not_eq_true', decide_eq_false_iff_not]
      exact ⟨hv, ⟨by omega, by simpa using h.1⟩, h.2⟩
    · simp only [wf, Bool.and_eq_true]
      exact ⟨h.1, insert_wfAbove (by omega) hv (fun q hq => ha q (List.mem_cons_of_mem _ hq)) h.2⟩

/-- Every write keeps the canonical form. -/
theorem put_wf {t : Tab α} (i : Nat) (v : α) (h : wf d t = true) : wf d (put d t i v) = true := by
  unfold put
  split
  · exact drop_wf i h
  · rename_i hv; exact insert_wf hv (drop_absent t i) (drop_wf i h)

end Sys2Proof.Machine
end

