-- ==== Sys2Proof/Laws/Bits.lean ====
section
/-!
SUPPORT. Laws of bit fields and of the two register tables: a field read after a field write, and what a write leaves.
-/
namespace Sys2Proof.Machine

/-! Fields of a number. -/

theorem bits_lt (w hi lo : Nat) : bits w hi lo < 2 ^ (hi + 1 - lo) := Nat.mod_lt _ (Nat.two_pow_pos _)

/-- The parts of a number around a field. -/
theorem split_field (w n lo : Nat) :
    w = w / 2 ^ (lo + n) * 2 ^ (lo + n) + (w / 2 ^ lo % 2 ^ n) * 2 ^ lo + w % 2 ^ lo := by
  have h1 := Nat.div_add_mod w (2 ^ lo)
  have h2 := Nat.div_add_mod (w / 2 ^ lo) (2 ^ n)
  have h3 : w / 2 ^ lo / 2 ^ n = w / 2 ^ (lo + n) := by rw [Nat.div_div_eq_div_mul, ← Nat.pow_add]
  rw [h3] at h2
  have h4 : (2 : Nat) ^ (lo + n) = 2 ^ lo * 2 ^ n := Nat.pow_add 2 lo n
  rw [h4] at h2 ⊢
  calc w = 2 ^ lo * (w / 2 ^ lo) + w % 2 ^ lo := h1.symm
    _ = 2 ^ lo * (2 ^ n * (w / (2 ^ lo * 2 ^ n)) + w / 2 ^ lo % 2 ^ n) + w % 2 ^ lo := by rw [h2]
    _ = _ := by ring

theorem setBits_parts (w hi lo v : Nat) :
    setBits w hi lo v = w / 2 ^ (lo + (hi + 1 - lo)) * 2 ^ (lo + (hi + 1 - lo)) + (v % 2 ^ (hi + 1 - lo)) * 2 ^ lo + w % 2 ^ lo := by
  have h := split_field w (hi + 1 - lo) lo
  unfold setBits bits
  simp only [Nat.shiftLeft_eq, Nat.shiftRight_eq_div_pow]
  omega

theorem setBits_low (w hi lo v : Nat) : setBits w hi lo v % 2 ^ lo = w % 2 ^ lo := by
  rw [setBits_parts, Nat.pow_add, ← Nat.mul_assoc, Nat.mul_right_comm, ← Nat.add_mul, Nat.add_comm,
    Nat.add_mul_mod_self_right, Nat.mod_mod]

theorem setBits_mid (w hi lo v : Nat) :
    setBits w hi lo v / 2 ^ lo = w / 2 ^ (lo + (hi + 1 - lo)) * 2 ^ (hi + 1 - lo) + v % 2 ^ (hi + 1 - lo) := by
  rw [setBits_parts, Nat.pow_add, ← Nat.mul_assoc, Nat.mul_right_comm, ← Nat.add_mul, Nat.add_comm,
    Nat.add_mul_div_right _ _ (Nat.two_pow_pos lo), Nat.div_eq_of_lt (Nat.mod_lt _ (Nat.two_pow_pos lo)), Nat.zero_add]

/-- A field read after a write of it. -/
@[simp] theorem bits_setBits (w hi lo v : Nat) : bits (setBits w hi lo v) hi lo = v % 2 ^ (hi + 1 - lo) := by
  unfold bits
  rw [Nat.shiftRight_eq_div_pow, setBits_mid, Nat.add_comm, Nat.add_mul_mod_self_right, Nat.mod_mod]

/-- A field below the one written is left alone. -/
theorem bits_setBits_below (w hi lo v hi' lo' : Nat) (h : hi' < lo) :
    bits (setBits w hi lo v) hi' lo' = bits w hi' lo' := by
  have key : ∀ x, bits x hi' lo' = bits (x % 2 ^ lo) hi' lo' := by
    intro x
    unfold bits
    simp only [Nat.shiftRight_eq_div_pow]
    by_cases hl : lo' ≤ hi' + 1
    · have e : (2 : Nat) ^ lo = 2 ^ lo' * 2 ^ (lo - lo') := by rw [← Nat.pow_add]; congr 1; omega
      rw [e, Nat.mod_mul_right_div_self]
      rw [Nat.mod_mod_of_dvd]
      exact Nat.pow_dvd_pow 2 (by omega)
    · have : hi' + 1 - lo' = 0 := by omega
      simp [this, Nat.mod_one]
  rw [key, setBits_low, ← key]

/-- A field above the one written is left alone. -/
theorem bits_setBits_above (w hi lo v hi' lo' : Nat) (h : hi < lo') (hl : lo ≤ hi + 1) :
    bits (setBits w hi lo v) hi' lo' = bits w hi' lo' := by
  have e : lo + (hi + 1 - lo) = hi + 1 := by omega
  have key : setBits w hi lo v / 2 ^ (hi + 1) = w / 2 ^ (hi + 1) := by
    have h1 : (2 : Nat) ^ (hi + 1) = 2 ^ lo * 2 ^ (hi + 1 - lo) := by rw [← Nat.pow_add, e]
    rw [h1, ← Nat.div_div_eq_div_mul, setBits_mid, Nat.add_comm, Nat.add_mul_div_right _ _ (Nat.two_pow_pos _),
      Nat.div_eq_of_lt (Nat.mod_lt _ (Nat.two_pow_pos _)), Nat.zero_add, Nat.pow_add]
  unfold bits
  simp only [Nat.shiftRight_eq_div_pow]
  have h2 : (2 : Nat) ^ lo' = 2 ^ (hi + 1) * 2 ^ (lo' - (hi + 1)) := by rw [← Nat.pow_add]; congr 1; omega
  rw [h2, ← Nat.div_div_eq_div_mul, key, Nat.div_div_eq_div_mul]

theorem bitOf_eq_bits (w i : Nat) : bitOf w i = (bits w i i == 1) := by
  unfold bitOf bits
  rw [show i + 1 - i = 1 by omega, Nat.pow_one]

theorem bits_bit (w i : Nat) : bits w i i = bn (bitOf w i) := by
  have h := bits_lt w i i
  rw [show i + 1 - i = 1 by omega] at h
  rw [bitOf_eq_bits]
  unfold bn
  have : bits w i i = 0 ∨ bits w i i = 1 := by omega
  rcases this with h | h <;> simp [h]

/-- Below 2^32 a field write stays below it. -/
theorem setBits_lt (w hi lo v : Nat) (hw : w < 2 ^ 32) (hh : hi < 32) (hl : lo ≤ hi + 1) : setBits w hi lo v < 2 ^ 32 := by
  have e : lo + (hi + 1 - lo) = hi + 1 := by omega
  rw [setBits_parts, e]
  have h1 : (v % 2 ^ (hi + 1 - lo)) * 2 ^ lo + w % 2 ^ lo < 2 ^ (hi + 1) := by
    have a := Nat.mod_lt v (Nat.two_pow_pos (hi + 1 - lo))
    have b := Nat.mod_lt w (Nat.two_pow_pos lo)
    have c : (2 : Nat) ^ (hi + 1) = 2 ^ (hi + 1 - lo) * 2 ^ lo := by rw [← Nat.pow_add]; congr 1; omega
    rw [c]
    have := Nat.mul_le_mul_right (2 ^ lo) (Nat.succ_le_of_lt a)
    rw [Nat.succ_mul] at this
    omega
  have h2 : (2 : Nat) ^ 32 = 2 ^ (31 - hi) * 2 ^ (hi + 1) := by rw [← Nat.pow_add]; congr 1; omega
  have h3 : w / 2 ^ (hi + 1) < 2 ^ (31 - hi) := by
    rw [Nat.div_lt_iff_lt_mul (Nat.two_pow_pos _), ← h2]; exact hw
  have h4 := Nat.mul_le_mul_right (2 ^ (hi + 1)) (Nat.succ_le_of_lt h3)
  rw [Nat.succ_mul, ← h2] at h4
  omega

/-! PF0 registers. -/

@[simp] theorem reg_setReg (s : State) (a : Nat) (v : Word) : (s.setReg a v).reg a = v := look_put_eq ..

theorem reg_setReg_ne (s : State) {a b : Nat} (v : Word) (h : b ≠ a) : (s.setReg a v).reg b = s.reg b := look_put_ne _ v h

theorem regN_lt (s : State) (a : Nat) : s.regN a < 2 ^ 32 := (s.reg a).isLt

@[simp] theorem regN_setN (s : State) (a v : Nat) : (s.setN a v).regN a = v % 2 ^ 32 := by
  simp [State.regN, State.setN]

theorem regN_setN_ne (s : State) {a b : Nat} (v : Nat) (h : b ≠ a) : (s.setN a v).regN b = s.regN b := by
  simp [State.regN, State.setN, reg_setReg_ne _ _ h]

theorem reg_setN_ne (s : State) {a b : Nat} (v : Nat) (h : b ≠ a) : (s.setN a v).reg b = s.reg b := by
  simp [State.setN, reg_setReg_ne _ _ h]

theorem reg_setFld_ne (s : State) {a b : Nat} (hi lo v : Nat) (h : b ≠ a) : (s.setFld a hi lo v).reg b = s.reg b := by
  simp [State.setFld, reg_setN_ne _ _ h]

theorem reg_setBit_ne (s : State) {a b : Nat} (i : Nat) (v : Bool) (h : b ≠ a) : (s.setBit a i v).reg b = s.reg b := by
  simp [State.setBit, reg_setFld_ne _ _ _ _ h]

theorem regN_setFld (s : State) (a hi lo v : Nat) (hh : hi < 32) (hl : lo ≤ hi + 1) :
    (s.setFld a hi lo v).regN a = setBits (s.regN a) hi lo v := by
  simp only [State.setFld, regN_setN]
  exact Nat.mod_eq_of_lt (setBits_lt _ _ _ _ (regN_lt s a) hh hl)

/-- The field written reads the value written. -/
theorem fld_setFld (s : State) (a hi lo v : Nat) (hh : hi < 32) (hl : lo ≤ hi + 1) :
    (s.setFld a hi lo v).fld a hi lo = v % 2 ^ (hi + 1 - lo) := by
  unfold State.fld; rw [regN_setFld s a hi lo v hh hl, bits_setBits]

/-- A field beside the one written reads as before. -/
theorem fld_setFld_disj (s : State) (a hi lo v hi' lo' : Nat) (hh : hi < 32) (hl : lo ≤ hi + 1) (h : hi' < lo ∨ hi < lo') :
    (s.setFld a hi lo v).fld a hi' lo' = s.fld a hi' lo' := by
  unfold State.fld
  rw [regN_setFld s a hi lo v hh hl]
  rcases h with h | h
  · exact bits_setBits_below _ _ _ _ _ _ h
  · exact bits_setBits_above _ _ _ _ _ _ h hl

theorem fld_ne (s t : State) {a : Nat} (hi lo : Nat) (h : t.reg a = s.reg a) : t.fld a hi lo = s.fld a hi lo := by
  simp [State.fld, State.regN, h]

theorem bit_eq_fld (s : State) (a i : Nat) : s.bit a i = (s.fld a i i == 1) := bitOf_eq_bits _ _

theorem bit_ne (s t : State) {a : Nat} (i : Nat) (h : t.reg a = s.reg a) : t.bit a i = s.bit a i := by
  simp [State.bit, State.regN, h]

/-- The bit written reads the value written. -/
theorem bit_setBit (s : State) (a i : Nat) (v : Bool) (hi : i < 32) : (s.setBit a i v).bit a i = v := by
  rw [bit_eq_fld]
  unfold State.setBit
  rw [fld_setFld s a i i _ hi (by omega), show i + 1 - i = 1 by omega]
  cases v <;> rfl

/-- Another bit of the register reads as before. -/
theorem bit_setBit_ne (s : State) (a i j : Nat) (v : Bool) (hi : i < 32) (h : j ≠ i) : (s.setBit a i v).bit a j = s.bit a j := by
  rw [bit_eq_fld, bit_eq_fld]
  unfold State.setBit
  rw [fld_setFld_disj s a i i _ j j hi (by omega) (by omega)]

/-- A bit outside the field written reads as before. -/
theorem bit_setFld_disj (s : State) (a hi lo v j : Nat) (hh : hi < 32) (hl : lo ≤ hi + 1) (h : j < lo ∨ hi < j) :
    (s.setFld a hi lo v).bit a j = s.bit a j := by
  rw [bit_eq_fld, bit_eq_fld, fld_setFld_disj s a hi lo v j j hh hl h]

/-- A field that leaves out the bit written reads as before. -/
theorem fld_setBit_disj (s : State) (a i : Nat) (v : Bool) (hi' lo' : Nat) (hi : i < 32) (h : hi' < i ∨ i < lo') :
    (s.setBit a i v).fld a hi' lo' = s.fld a hi' lo' := fld_setFld_disj s a i i _ hi' lo' hi (by omega) h

theorem reg_zeroRegs_mem (s : State) (l : List Nat) {a : Nat} (h : a ∈ l) : (s.zeroRegs l).reg a = 0#32 := by
  have keep : ∀ (l : List Nat) (s : State), s.reg a = 0#32 → (s.zeroRegs l).reg a = 0#32 := by
    intro l
    induction l with
    | nil => intro s h; exact h
    | cons b l ih =>
      intro s h
      apply ih
      by_cases e : a = b
      · subst e; simp [State.setN]
      · rw [reg_setN_ne _ _ e, h]
  induction l generalizing s with
  | nil => cases h
  | cons b l ih =>
    rcases List.mem_cons.1 h with rfl | hm
    · exact keep l _ (by simp [State.setN])
    · exact ih _ hm

theorem reg_zeroRegs_ne (s : State) (l : List Nat) {a : Nat} (h : a ∉ l) : (s.zeroRegs l).reg a = s.reg a := by
  induction l generalizing s with
  | nil => rfl
  | cons b l ih =>
    simp only [List.mem_cons, not_or] at h
    exact (ih _ h.2).trans (reg_setN_ne _ _ h.1)

/-! VF registers. -/

@[simp] theorem vregN_setV (s : State) (p o v : Nat) : (s.setV p o v).vregN p o = v % 2 ^ 32 := by
  simp [State.vregN, State.vreg, State.setV]

theorem vreg_setV_ne (s : State) (p o v p' o' : Nat) (h : 0x100000 * p' + o' ≠ 0x100000 * p + o) :
    (s.setV p o v).vreg p' o' = s.vreg p' o' := look_put_ne _ _ h

end Sys2Proof.Machine
end

