-- ==== Sys2Proof/Laws/State.lean ====
section
/-!
SUPPORT. One lemma for each field, or accessor, and each update that leaves it alone: no later proof unfolds a record
update. What an update of one instance does to the instances of its own table stands at the end.
-/
namespace Sys2Proof.Machine

variable (s : State)


/-! setReg leaves every field but `regs`. -/

@[simp] theorem before_setReg (a : Nat) (v : Word) : (s.setReg a v).before = s.before := rfl
@[simp] theorem mode_setReg (a : Nat) (v : Word) : (s.setReg a v).mode = s.mode := rfl
@[simp] theorem time_setReg (a : Nat) (v : Word) : (s.setReg a v).time = s.time := rfl
@[simp] theorem boot_setReg (a : Nat) (v : Word) : (s.setReg a v).boot = s.boot := rfl
@[simp] theorem pins_setReg (a : Nat) (v : Word) : (s.setReg a v).pins = s.pins := rfl
@[simp] theorem flash_setReg (a : Nat) (v : Word) : (s.setReg a v).flash = s.flash := rfl
@[simp] theorem fab_setReg (a : Nat) (v : Word) : (s.setReg a v).fab = s.fab := rfl
@[simp] theorem geo_setReg (a : Nat) (v : Word) : (s.setReg a v).geo = s.geo := rfl
@[simp] theorem mem_setReg (a : Nat) (v : Word) : (s.setReg a v).mem = s.mem := rfl
@[simp] theorem flint_setReg (a : Nat) (v : Word) : (s.setReg a v).flint = s.flint := rfl
@[simp] theorem hk_setReg (a : Nat) (v : Word) : (s.setReg a v).hk = s.hk := rfl
@[simp] theorem cal_setReg (a : Nat) (v : Word) : (s.setReg a v).cal = s.cal := rfl
@[simp] theorem ev_setReg (a : Nat) (v : Word) : (s.setReg a v).ev = s.ev := rfl
@[simp] theorem irq_setReg (a : Nat) (v : Word) : (s.setReg a v).irq = s.irq := rfl
@[simp] theorem rd_setReg (a : Nat) (v : Word) : (s.setReg a v).rd = s.rd := rfl
@[simp] theorem reqs_setReg (a : Nat) (v : Word) : (s.setReg a v).reqs = s.reqs := rfl
@[simp] theorem dueq_setReg (a : Nat) (v : Word) : (s.setReg a v).dueq = s.dueq := rfl
@[simp] theorem frameOwner_setReg (a : Nat) (v : Word) : (s.setReg a v).frameOwner = s.frameOwner := rfl
@[simp] theorem frameShadow_setReg (a : Nat) (v : Word) : (s.setReg a v).frameShadow = s.frameShadow := rfl
@[simp] theorem discShadow_setReg (a : Nat) (v : Word) : (s.setReg a v).discShadow = s.discShadow := rfl
@[simp] theorem variant_setReg (a : Nat) (v : Word) : (s.setReg a v).variant = s.variant := rfl
@[simp] theorem serial_setReg (a : Nat) (v : Word) : (s.setReg a v).serial = s.serial := rfl
@[simp] theorem pending_setReg (a : Nat) (v : Word) : (s.setReg a v).pending = s.pending := rfl
@[simp] theorem vregs_setReg (a : Nat) (v : Word) : (s.setReg a v).vregs = s.vregs := rfl
@[simp] theorem parts_setReg (a : Nat) (v : Word) : (s.setReg a v).parts = s.parts := rfl
@[simp] theorem cores_setReg (a : Nat) (v : Word) : (s.setReg a v).cores = s.cores := rfl
@[simp] theorem micas_setReg (a : Nat) (v : Word) : (s.setReg a v).micas = s.micas := rfl
@[simp] theorem frames_setReg (a : Nat) (v : Word) : (s.setReg a v).frames = s.frames := rfl
@[simp] theorem issued_setReg (a : Nat) (v : Word) : (s.setReg a v).issued = s.issued := rfl
@[simp] theorem slots_setReg (a : Nat) (v : Word) : (s.setReg a v).slots = s.slots := rfl
@[simp] theorem loops_setReg (a : Nat) (v : Word) : (s.setReg a v).loops = s.loops := rfl
@[simp] theorem graphs_setReg (a : Nat) (v : Word) : (s.setReg a v).graphs = s.graphs := rfl
@[simp] theorem rings_setReg (a : Nat) (v : Word) : (s.setReg a v).rings = s.rings := rfl
@[simp] theorem ports_setReg (a : Nat) (v : Word) : (s.setReg a v).ports = s.ports := rfl
@[simp] theorem doms_setReg (a : Nat) (v : Word) : (s.setReg a v).doms = s.doms := rfl
@[simp] theorem biases_setReg (a : Nat) (v : Word) : (s.setReg a v).biases = s.biases := rfl
@[simp] theorem errs_setReg (a : Nat) (v : Word) : (s.setReg a v).errs = s.errs := rfl
@[simp] theorem vregN_setReg (a : Nat) (v : Word) (x y : Nat) : (s.setReg a v).vregN x y = s.vregN x y := rfl
@[simp] theorem part_setReg (a : Nat) (v : Word) (x : Nat) : (s.setReg a v).part x = s.part x := rfl
@[simp] theorem qtz_setReg (a : Nat) (v : Word) (x : Nat) : (s.setReg a v).qtz x = s.qtz x := rfl
@[simp] theorem mica_setReg (a : Nat) (v : Word) (x : Nat) : (s.setReg a v).mica x = s.mica x := rfl
@[simp] theorem frame_setReg (a : Nat) (v : Word) (x : Nat) : (s.setReg a v).frame x = s.frame x := rfl
@[simp] theorem frameIssued_setReg (a : Nat) (v : Word) (x : Nat) : (s.setReg a v).frameIssued x = s.frameIssued x := rfl
@[simp] theorem slot_setReg (a : Nat) (v : Word) (x : Nat) : (s.setReg a v).slot x = s.slot x := rfl
@[simp] theorem loop_setReg (a : Nat) (v : Word) (x : Nat) : (s.setReg a v).loop x = s.loop x := rfl
@[simp] theorem graph_setReg (a : Nat) (v : Word) (x : Nat) : (s.setReg a v).graph x = s.graph x := rfl
@[simp] theorem ring_setReg (a : Nat) (v : Word) (x : Nat) : (s.setReg a v).ring x = s.ring x := rfl
@[simp] theorem port_setReg (a : Nat) (v : Word) (x : Nat) : (s.setReg a v).port x = s.port x := rfl
@[simp] theorem dom_setReg (a : Nat) (v : Word) (x : Nat) : (s.setReg a v).dom x = s.dom x := rfl
@[simp] theorem bias_setReg (a : Nat) (v : Word) (x : Nat) : (s.setReg a v).bias x = s.bias x := rfl
@[simp] theorem now_setReg (a : Nat) (v : Word) : (s.setReg a v).now = s.now := rfl

/-! setN leaves every field but `regs`. -/

@[simp] theorem before_setN (a v : Nat) : (s.setN a v).before = s.before := rfl
@[simp] theorem mode_setN (a v : Nat) : (s.setN a v).mode = s.mode := rfl
@[simp] theorem time_setN (a v : Nat) : (s.setN a v).time = s.time := rfl
@[simp] theorem boot_setN (a v : Nat) : (s.setN a v).boot = s.boot := rfl
@[simp] theorem pins_setN (a v : Nat) : (s.setN a v).pins = s.pins := rfl
@[simp] theorem flash_setN (a v : Nat) : (s.setN a v).flash = s.flash := rfl
@[simp] theorem fab_setN (a v : Nat) : (s.setN a v).fab = s.fab := rfl
@[simp] theorem geo_setN (a v : Nat) : (s.setN a v).geo = s.geo := rfl
@[simp] theorem mem_setN (a v : Nat) : (s.setN a v).mem = s.mem := rfl
@[simp] theorem flint_setN (a v : Nat) : (s.setN a v).flint = s.flint := rfl
@[simp] theorem hk_setN (a v : Nat) : (s.setN a v).hk = s.hk := rfl
@[simp] theorem cal_setN (a v : Nat) : (s.setN a v).cal = s.cal := rfl
@[simp] theorem ev_setN (a v : Nat) : (s.setN a v).ev = s.ev := rfl
@[simp] theorem irq_setN (a v : Nat) : (s.setN a v).irq = s.irq := rfl
@[simp] theorem rd_setN (a v : Nat) : (s.setN a v).rd = s.rd := rfl
@[simp] theorem reqs_setN (a v : Nat) : (s.setN a v).reqs = s.reqs := rfl
@[simp] theorem dueq_setN (a v : Nat) : (s.setN a v).dueq = s.dueq := rfl
@[simp] theorem frameOwner_setN (a v : Nat) : (s.setN a v).frameOwner = s.frameOwner := rfl
@[simp] theorem frameShadow_setN (a v : Nat) : (s.setN a v).frameShadow = s.frameShadow := rfl
@[simp] theorem discShadow_setN (a v : Nat) : (s.setN a v).discShadow = s.discShadow := rfl
@[simp] theorem variant_setN (a v : Nat) : (s.setN a v).variant = s.variant := rfl
@[simp] theorem serial_setN (a v : Nat) : (s.setN a v).serial = s.serial := rfl
@[simp] theorem pending_setN (a v : Nat) : (s.setN a v).pending = s.pending := rfl
@[simp] theorem vregs_setN (a v : Nat) : (s.setN a v).vregs = s.vregs := rfl
@[simp] theorem parts_setN (a v : Nat) : (s.setN a v).parts = s.parts := rfl
@[simp] theorem cores_setN (a v : Nat) : (s.setN a v).cores = s.cores := rfl
@[simp] theorem micas_setN (a v : Nat) : (s.setN a v).micas = s.micas := rfl
@[simp] theorem frames_setN (a v : Nat) : (s.setN a v).frames = s.frames := rfl
@[simp] theorem issued_setN (a v : Nat) : (s.setN a v).issued = s.issued := rfl
@[simp] theorem slots_setN (a v : Nat) : (s.setN a v).slots = s.slots := rfl
@[simp] theorem loops_setN (a v : Nat) : (s.setN a v).loops = s.loops := rfl
@[simp] theorem graphs_setN (a v : Nat) : (s.setN a v).graphs = s.graphs := rfl
@[simp] theorem rings_setN (a v : Nat) : (s.setN a v).rings = s.rings := rfl
@[simp] theorem ports_setN (a v : Nat) : (s.setN a v).ports = s.ports := rfl
@[simp] theorem doms_setN (a v : Nat) : (s.setN a v).doms = s.doms := rfl
@[simp] theorem biases_setN (a v : Nat) : (s.setN a v).biases = s.biases := rfl
@[simp] theorem errs_setN (a v : Nat) : (s.setN a v).errs = s.errs := rfl
@[simp] theorem vregN_setN (a v : Nat) (x y : Nat) : (s.setN a v).vregN x y = s.vregN x y := rfl
@[simp] theorem part_setN (a v : Nat) (x : Nat) : (s.setN a v).part x = s.part x := rfl
@[simp] theorem qtz_setN (a v : Nat) (x : Nat) : (s.setN a v).qtz x = s.qtz x := rfl
@[simp] theorem mica_setN (a v : Nat) (x : Nat) : (s.setN a v).mica x = s.mica x := rfl
@[simp] theorem frame_setN (a v : Nat) (x : Nat) : (s.setN a v).frame x = s.frame x := rfl
@[simp] theorem frameIssued_setN (a v : Nat) (x : Nat) : (s.setN a v).frameIssued x = s.frameIssued x := rfl
@[simp] theorem slot_setN (a v : Nat) (x : Nat) : (s.setN a v).slot x = s.slot x := rfl
@[simp] theorem loop_setN (a v : Nat) (x : Nat) : (s.setN a v).loop x = s.loop x := rfl
@[simp] theorem graph_setN (a v : Nat) (x : Nat) : (s.setN a v).graph x = s.graph x := rfl
@[simp] theorem ring_setN (a v : Nat) (x : Nat) : (s.setN a v).ring x = s.ring x := rfl
@[simp] theorem port_setN (a v : Nat) (x : Nat) : (s.setN a v).port x = s.port x := rfl
@[simp] theorem dom_setN (a v : Nat) (x : Nat) : (s.setN a v).dom x = s.dom x := rfl
@[simp] theorem bias_setN (a v : Nat) (x : Nat) : (s.setN a v).bias x = s.bias x := rfl
@[simp] theorem now_setN (a v : Nat) : (s.setN a v).now = s.now := rfl

/-! setFld leaves every field but `regs`. -/

@[simp] theorem before_setFld (a hi lo v : Nat) : (s.setFld a hi lo v).before = s.before := rfl
@[simp] theorem mode_setFld (a hi lo v : Nat) : (s.setFld a hi lo v).mode = s.mode := rfl
@[simp] theorem time_setFld (a hi lo v : Nat) : (s.setFld a hi lo v).time = s.time := rfl
@[simp] theorem boot_setFld (a hi lo v : Nat) : (s.setFld a hi lo v).boot = s.boot := rfl
@[simp] theorem pins_setFld (a hi lo v : Nat) : (s.setFld a hi lo v).pins = s.pins := rfl
@[simp] theorem flash_setFld (a hi lo v : Nat) : (s.setFld a hi lo v).flash = s.flash := rfl
@[simp] theorem fab_setFld (a hi lo v : Nat) : (s.setFld a hi lo v).fab = s.fab := rfl
@[simp] theorem geo_setFld (a hi lo v : Nat) : (s.setFld a hi lo v).geo = s.geo := rfl
@[simp] theorem mem_setFld (a hi lo v : Nat) : (s.setFld a hi lo v).mem = s.mem := rfl
@[simp] theorem flint_setFld (a hi lo v : Nat) : (s.setFld a hi lo v).flint = s.flint := rfl
@[simp] theorem hk_setFld (a hi lo v : Nat) : (s.setFld a hi lo v).hk = s.hk := rfl
@[simp] theorem cal_setFld (a hi lo v : Nat) : (s.setFld a hi lo v).cal = s.cal := rfl
@[simp] theorem ev_setFld (a hi lo v : Nat) : (s.setFld a hi lo v).ev = s.ev := rfl
@[simp] theorem irq_setFld (a hi lo v : Nat) : (s.setFld a hi lo v).irq = s.irq := rfl
@[simp] theorem rd_setFld (a hi lo v : Nat) : (s.setFld a hi lo v).rd = s.rd := rfl
@[simp] theorem reqs_setFld (a hi lo v : Nat) : (s.setFld a hi lo v).reqs = s.reqs := rfl
@[simp] theorem dueq_setFld (a hi lo v : Nat) : (s.setFld a hi lo v).dueq = s.dueq := rfl
@[simp] theorem frameOwner_setFld (a hi lo v : Nat) : (s.setFld a hi lo v).frameOwner = s.frameOwner := rfl
@[simp] theorem frameShadow_setFld (a hi lo v : Nat) : (s.setFld a hi lo v).frameShadow = s.frameShadow := rfl
@[simp] theorem discShadow_setFld (a hi lo v : Nat) : (s.setFld a hi lo v).discShadow = s.discShadow := rfl
@[simp] theorem variant_setFld (a hi lo v : Nat) : (s.setFld a hi lo v).variant = s.variant := rfl
@[simp] theorem serial_setFld (a hi lo v : Nat) : (s.setFld a hi lo v).serial = s.serial := rfl
@[simp] theorem pending_setFld (a hi lo v : Nat) : (s.setFld a hi lo v).pending = s.pending := rfl
@[simp] theorem vregs_setFld (a hi lo v : Nat) : (s.setFld a hi lo v).vregs = s.vregs := rfl
@[simp] theorem parts_setFld (a hi lo v : Nat) : (s.setFld a hi lo v).parts = s.parts := rfl
@[simp] theorem cores_setFld (a hi lo v : Nat) : (s.setFld a hi lo v).cores = s.cores := rfl
@[simp] theorem micas_setFld (a hi lo v : Nat) : (s.setFld a hi lo v).micas = s.micas := rfl
@[simp] theorem frames_setFld (a hi lo v : Nat) : (s.setFld a hi lo v).frames = s.frames := rfl
@[simp] theorem issued_setFld (a hi lo v : Nat) : (s.setFld a hi lo v).issued = s.issued := rfl
@[simp] theorem slots_setFld (a hi lo v : Nat) : (s.setFld a hi lo v).slots = s.slots := rfl
@[simp] theorem loops_setFld (a hi lo v : Nat) : (s.setFld a hi lo v).loops = s.loops := rfl
@[simp] theorem graphs_setFld (a hi lo v : Nat) : (s.setFld a hi lo v).graphs = s.graphs := rfl
@[simp] theorem rings_setFld (a hi lo v : Nat) : (s.setFld a hi lo v).rings = s.rings := rfl
@[simp] theorem ports_setFld (a hi lo v : Nat) : (s.setFld a hi lo v).ports = s.ports := rfl
@[simp] theorem doms_setFld (a hi lo v : Nat) : (s.setFld a hi lo v).doms = s.doms := rfl
@[simp] theorem biases_setFld (a hi lo v : Nat) : (s.setFld a hi lo v).biases = s.biases := rfl
@[simp] theorem errs_setFld (a hi lo v : Nat) : (s.setFld a hi lo v).errs = s.errs := rfl
@[simp] theorem vregN_setFld (a hi lo v : Nat) (x y : Nat) : (s.setFld a hi lo v).vregN x y = s.vregN x y := rfl
@[simp] theorem part_setFld (a hi lo v : Nat) (x : Nat) : (s.setFld a hi lo v).part x = s.part x := rfl
@[simp] theorem qtz_setFld (a hi lo v : Nat) (x : Nat) : (s.setFld a hi lo v).qtz x = s.qtz x := rfl
@[simp] theorem mica_setFld (a hi lo v : Nat) (x : Nat) : (s.setFld a hi lo v).mica x = s.mica x := rfl
@[simp] theorem frame_setFld (a hi lo v : Nat) (x : Nat) : (s.setFld a hi lo v).frame x = s.frame x := rfl
@[simp] theorem frameIssued_setFld (a hi lo v : Nat) (x : Nat) : (s.setFld a hi lo v).frameIssued x = s.frameIssued x := rfl
@[simp] theorem slot_setFld (a hi lo v : Nat) (x : Nat) : (s.setFld a hi lo v).slot x = s.slot x := rfl
@[simp] theorem loop_setFld (a hi lo v : Nat) (x : Nat) : (s.setFld a hi lo v).loop x = s.loop x := rfl
@[simp] theorem graph_setFld (a hi lo v : Nat) (x : Nat) : (s.setFld a hi lo v).graph x = s.graph x := rfl
@[simp] theorem ring_setFld (a hi lo v : Nat) (x : Nat) : (s.setFld a hi lo v).ring x = s.ring x := rfl
@[simp] theorem port_setFld (a hi lo v : Nat) (x : Nat) : (s.setFld a hi lo v).port x = s.port x := rfl
@[simp] theorem dom_setFld (a hi lo v : Nat) (x : Nat) : (s.setFld a hi lo v).dom x = s.dom x := rfl
@[simp] theorem bias_setFld (a hi lo v : Nat) (x : Nat) : (s.setFld a hi lo v).bias x = s.bias x := rfl
@[simp] theorem now_setFld (a hi lo v : Nat) : (s.setFld a hi lo v).now = s.now := rfl

/-! setBit leaves every field but `regs`. -/

@[simp] theorem before_setBit (a i : Nat) (b : Bool) : (s.setBit a i b).before = s.before := rfl
@[simp] theorem mode_setBit (a i : Nat) (b : Bool) : (s.setBit a i b).mode = s.mode := rfl
@[simp] theorem time_setBit (a i : Nat) (b : Bool) : (s.setBit a i b).time = s.time := rfl
@[simp] theorem boot_setBit (a i : Nat) (b : Bool) : (s.setBit a i b).boot = s.boot := rfl
@[simp] theorem pins_setBit (a i : Nat) (b : Bool) : (s.setBit a i b).pins = s.pins := rfl
@[simp] theorem flash_setBit (a i : Nat) (b : Bool) : (s.setBit a i b).flash = s.flash := rfl
@[simp] theorem fab_setBit (a i : Nat) (b : Bool) : (s.setBit a i b).fab = s.fab := rfl
@[simp] theorem geo_setBit (a i : Nat) (b : Bool) : (s.setBit a i b).geo = s.geo := rfl
@[simp] theorem mem_setBit (a i : Nat) (b : Bool) : (s.setBit a i b).mem = s.mem := rfl
@[simp] theorem flint_setBit (a i : Nat) (b : Bool) : (s.setBit a i b).flint = s.flint := rfl
@[simp] theorem hk_setBit (a i : Nat) (b : Bool) : (s.setBit a i b).hk = s.hk := rfl
@[simp] theorem cal_setBit (a i : Nat) (b : Bool) : (s.setBit a i b).cal = s.cal := rfl
@[simp] theorem ev_setBit (a i : Nat) (b : Bool) : (s.setBit a i b).ev = s.ev := rfl
@[simp] theorem irq_setBit (a i : Nat) (b : Bool) : (s.setBit a i b).irq = s.irq := rfl
@[simp] theorem rd_setBit (a i : Nat) (b : Bool) : (s.setBit a i b).rd = s.rd := rfl
@[simp] theorem reqs_setBit (a i : Nat) (b : Bool) : (s.setBit a i b).reqs = s.reqs := rfl
@[simp] theorem dueq_setBit (a i : Nat) (b : Bool) : (s.setBit a i b).dueq = s.dueq := rfl
@[simp] theorem frameOwner_setBit (a i : Nat) (b : Bool) : (s.setBit a i b).frameOwner = s.frameOwner := rfl
@[simp] theorem frameShadow_setBit (a i : Nat) (b : Bool) : (s.setBit a i b).frameShadow = s.frameShadow := rfl
@[simp] theorem discShadow_setBit (a i : Nat) (b : Bool) : (s.setBit a i b).discShadow = s.discShadow := rfl
@[simp] theorem variant_setBit (a i : Nat) (b : Bool) : (s.setBit a i b).variant = s.variant := rfl
@[simp] theorem serial_setBit (a i : Nat) (b : Bool) : (s.setBit a i b).serial = s.serial := rfl
@[simp] theorem pending_setBit (a i : Nat) (b : Bool) : (s.setBit a i b).pending = s.pending := rfl
@[simp] theorem vregs_setBit (a i : Nat) (b : Bool) : (s.setBit a i b).vregs = s.vregs := rfl
@[simp] theorem parts_setBit (a i : Nat) (b : Bool) : (s.setBit a i b).parts = s.parts := rfl
@[simp] theorem cores_setBit (a i : Nat) (b : Bool) : (s.setBit a i b).cores = s.cores := rfl
@[simp] theorem micas_setBit (a i : Nat) (b : Bool) : (s.setBit a i b).micas = s.micas := rfl
@[simp] theorem frames_setBit (a i : Nat) (b : Bool) : (s.setBit a i b).frames = s.frames := rfl
@[simp] theorem issued_setBit (a i : Nat) (b : Bool) : (s.setBit a i b).issued = s.issued := rfl
@[simp] theorem slots_setBit (a i : Nat) (b : Bool) : (s.setBit a i b).slots = s.slots := rfl
@[simp] theorem loops_setBit (a i : Nat) (b : Bool) : (s.setBit a i b).loops = s.loops := rfl
@[simp] theorem graphs_setBit (a i : Nat) (b : Bool) : (s.setBit a i b).graphs = s.graphs := rfl
@[simp] theorem rings_setBit (a i : Nat) (b : Bool) : (s.setBit a i b).rings = s.rings := rfl
@[simp] theorem ports_setBit (a i : Nat) (b : Bool) : (s.setBit a i b).ports = s.ports := rfl
@[simp] theorem doms_setBit (a i : Nat) (b : Bool) : (s.setBit a i b).doms = s.doms := rfl
@[simp] theorem biases_setBit (a i : Nat) (b : Bool) : (s.setBit a i b).biases = s.biases := rfl
@[simp] theorem errs_setBit (a i : Nat) (b : Bool) : (s.setBit a i b).errs = s.errs := rfl
@[simp] theorem vregN_setBit (a i : Nat) (b : Bool) (x y : Nat) : (s.setBit a i b).vregN x y = s.vregN x y := rfl
@[simp] theorem part_setBit (a i : Nat) (b : Bool) (x : Nat) : (s.setBit a i b).part x = s.part x := rfl
@[simp] theorem qtz_setBit (a i : Nat) (b : Bool) (x : Nat) : (s.setBit a i b).qtz x = s.qtz x := rfl
@[simp] theorem mica_setBit (a i : Nat) (b : Bool) (x : Nat) : (s.setBit a i b).mica x = s.mica x := rfl
@[simp] theorem frame_setBit (a i : Nat) (b : Bool) (x : Nat) : (s.setBit a i b).frame x = s.frame x := rfl
@[simp] theorem frameIssued_setBit (a i : Nat) (b : Bool) (x : Nat) : (s.setBit a i b).frameIssued x = s.frameIssued x := rfl
@[simp] theorem slot_setBit (a i : Nat) (b : Bool) (x : Nat) : (s.setBit a i b).slot x = s.slot x := rfl
@[simp] theorem loop_setBit (a i : Nat) (b : Bool) (x : Nat) : (s.setBit a i b).loop x = s.loop x := rfl
@[simp] theorem graph_setBit (a i : Nat) (b : Bool) (x : Nat) : (s.setBit a i b).graph x = s.graph x := rfl
@[simp] theorem ring_setBit (a i : Nat) (b : Bool) (x : Nat) : (s.setBit a i b).ring x = s.ring x := rfl
@[simp] theorem port_setBit (a i : Nat) (b : Bool) (x : Nat) : (s.setBit a i b).port x = s.port x := rfl
@[simp] theorem dom_setBit (a i : Nat) (b : Bool) (x : Nat) : (s.setBit a i b).dom x = s.dom x := rfl
@[simp] theorem bias_setBit (a i : Nat) (b : Bool) (x : Nat) : (s.setBit a i b).bias x = s.bias x := rfl
@[simp] theorem now_setBit (a i : Nat) (b : Bool) : (s.setBit a i b).now = s.now := rfl

/-! inc leaves every field but `regs`. -/

@[simp] theorem before_inc (a n : Nat) : (s.inc a n).before = s.before := rfl
@[simp] theorem mode_inc (a n : Nat) : (s.inc a n).mode = s.mode := rfl
@[simp] theorem time_inc (a n : Nat) : (s.inc a n).time = s.time := rfl
@[simp] theorem boot_inc (a n : Nat) : (s.inc a n).boot = s.boot := rfl
@[simp] theorem pins_inc (a n : Nat) : (s.inc a n).pins = s.pins := rfl
@[simp] theorem flash_inc (a n : Nat) : (s.inc a n).flash = s.flash := rfl
@[simp] theorem fab_inc (a n : Nat) : (s.inc a n).fab = s.fab := rfl
@[simp] theorem geo_inc (a n : Nat) : (s.inc a n).geo = s.geo := rfl
@[simp] theorem mem_inc (a n : Nat) : (s.inc a n).mem = s.mem := rfl
@[simp] theorem flint_inc (a n : Nat) : (s.inc a n).flint = s.flint := rfl
@[simp] theorem hk_inc (a n : Nat) : (s.inc a n).hk = s.hk := rfl
@[simp] theorem cal_inc (a n : Nat) : (s.inc a n).cal = s.cal := rfl
@[simp] theorem ev_inc (a n : Nat) : (s.inc a n).ev = s.ev := rfl
@[simp] theorem irq_inc (a n : Nat) : (s.inc a n).irq = s.irq := rfl
@[simp] theorem rd_inc (a n : Nat) : (s.inc a n).rd = s.rd := rfl
@[simp] theorem reqs_inc (a n : Nat) : (s.inc a n).reqs = s.reqs := rfl
@[simp] theorem dueq_inc (a n : Nat) : (s.inc a n).dueq = s.dueq := rfl
@[simp] theorem frameOwner_inc (a n : Nat) : (s.inc a n).frameOwner = s.frameOwner := rfl
@[simp] theorem frameShadow_inc (a n : Nat) : (s.inc a n).frameShadow = s.frameShadow := rfl
@[simp] theorem discShadow_inc (a n : Nat) : (s.inc a n).discShadow = s.discShadow := rfl
@[simp] theorem variant_inc (a n : Nat) : (s.inc a n).variant = s.variant := rfl
@[simp] theorem serial_inc (a n : Nat) : (s.inc a n).serial = s.serial := rfl
@[simp] theorem pending_inc (a n : Nat) : (s.inc a n).pending = s.pending := rfl
@[simp] theorem vregs_inc (a n : Nat) : (s.inc a n).vregs = s.vregs := rfl
@[simp] theorem parts_inc (a n : Nat) : (s.inc a n).parts = s.parts := rfl
@[simp] theorem cores_inc (a n : Nat) : (s.inc a n).cores = s.cores := rfl
@[simp] theorem micas_inc (a n : Nat) : (s.inc a n).micas = s.micas := rfl
@[simp] theorem frames_inc (a n : Nat) : (s.inc a n).frames = s.frames := rfl
@[simp] theorem issued_inc (a n : Nat) : (s.inc a n).issued = s.issued := rfl
@[simp] theorem slots_inc (a n : Nat) : (s.inc a n).slots = s.slots := rfl
@[simp] theorem loops_inc (a n : Nat) : (s.inc a n).loops = s.loops := rfl
@[simp] theorem graphs_inc (a n : Nat) : (s.inc a n).graphs = s.graphs := rfl
@[simp] theorem rings_inc (a n : Nat) : (s.inc a n).rings = s.rings := rfl
@[simp] theorem ports_inc (a n : Nat) : (s.inc a n).ports = s.ports := rfl
@[simp] theorem doms_inc (a n : Nat) : (s.inc a n).doms = s.doms := rfl
@[simp] theorem biases_inc (a n : Nat) : (s.inc a n).biases = s.biases := rfl
@[simp] theorem errs_inc (a n : Nat) : (s.inc a n).errs = s.errs := rfl
@[simp] theorem vregN_inc (a n : Nat) (x y : Nat) : (s.inc a n).vregN x y = s.vregN x y := rfl
@[simp] theorem part_inc (a n : Nat) (x : Nat) : (s.inc a n).part x = s.part x := rfl
@[simp] theorem qtz_inc (a n : Nat) (x : Nat) : (s.inc a n).qtz x = s.qtz x := rfl
@[simp] theorem mica_inc (a n : Nat) (x : Nat) : (s.inc a n).mica x = s.mica x := rfl
@[simp] theorem frame_inc (a n : Nat) (x : Nat) : (s.inc a n).frame x = s.frame x := rfl
@[simp] theorem frameIssued_inc (a n : Nat) (x : Nat) : (s.inc a n).frameIssued x = s.frameIssued x := rfl
@[simp] theorem slot_inc (a n : Nat) (x : Nat) : (s.inc a n).slot x = s.slot x := rfl
@[simp] theorem loop_inc (a n : Nat) (x : Nat) : (s.inc a n).loop x = s.loop x := rfl
@[simp] theorem graph_inc (a n : Nat) (x : Nat) : (s.inc a n).graph x = s.graph x := rfl
@[simp] theorem ring_inc (a n : Nat) (x : Nat) : (s.inc a n).ring x = s.ring x := rfl
@[simp] theorem port_inc (a n : Nat) (x : Nat) : (s.inc a n).port x = s.port x := rfl
@[simp] theorem dom_inc (a n : Nat) (x : Nat) : (s.inc a n).dom x = s.dom x := rfl
@[simp] theorem bias_inc (a n : Nat) (x : Nat) : (s.inc a n).bias x = s.bias x := rfl
@[simp] theorem now_inc (a n : Nat) : (s.inc a n).now = s.now := rfl

/-! setV leaves every field but `vregs`. -/

@[simp] theorem before_setV (p o v : Nat) : (s.setV p o v).before = s.before := rfl
@[simp] theorem mode_setV (p o v : Nat) : (s.setV p o v).mode = s.mode := rfl
@[simp] theorem time_setV (p o v : Nat) : (s.setV p o v).time = s.time := rfl
@[simp] theorem boot_setV (p o v : Nat) : (s.setV p o v).boot = s.boot := rfl
@[simp] theorem pins_setV (p o v : Nat) : (s.setV p o v).pins = s.pins := rfl
@[simp] theorem flash_setV (p o v : Nat) : (s.setV p o v).flash = s.flash := rfl
@[simp] theorem fab_setV (p o v : Nat) : (s.setV p o v).fab = s.fab := rfl
@[simp] theorem geo_setV (p o v : Nat) : (s.setV p o v).geo = s.geo := rfl
@[simp] theorem mem_setV (p o v : Nat) : (s.setV p o v).mem = s.mem := rfl
@[simp] theorem flint_setV (p o v : Nat) : (s.setV p o v).flint = s.flint := rfl
@[simp] theorem hk_setV (p o v : Nat) : (s.setV p o v).hk = s.hk := rfl
@[simp] theorem cal_setV (p o v : Nat) : (s.setV p o v).cal = s.cal := rfl
@[simp] theorem ev_setV (p o v : Nat) : (s.setV p o v).ev = s.ev := rfl
@[simp] theorem irq_setV (p o v : Nat) : (s.setV p o v).irq = s.irq := rfl
@[simp] theorem rd_setV (p o v : Nat) : (s.setV p o v).rd = s.rd := rfl
@[simp] theorem reqs_setV (p o v : Nat) : (s.setV p o v).reqs = s.reqs := rfl
@[simp] theorem dueq_setV (p o v : Nat) : (s.setV p o v).dueq = s.dueq := rfl
@[simp] theorem frameOwner_setV (p o v : Nat) : (s.setV p o v).frameOwner = s.frameOwner := rfl
@[simp] theorem frameShadow_setV (p o v : Nat) : (s.setV p o v).frameShadow = s.frameShadow := rfl
@[simp] theorem discShadow_setV (p o v : Nat) : (s.setV p o v).discShadow = s.discShadow := rfl
@[simp] theorem variant_setV (p o v : Nat) : (s.setV p o v).variant = s.variant := rfl
@[simp] theorem serial_setV (p o v : Nat) : (s.setV p o v).serial = s.serial := rfl
@[simp] theorem pending_setV (p o v : Nat) : (s.setV p o v).pending = s.pending := rfl
@[simp] theorem regs_setV (p o v : Nat) : (s.setV p o v).regs = s.regs := rfl
@[simp] theorem parts_setV (p o v : Nat) : (s.setV p o v).parts = s.parts := rfl
@[simp] theorem cores_setV (p o v : Nat) : (s.setV p o v).cores = s.cores := rfl
@[simp] theorem micas_setV (p o v : Nat) : (s.setV p o v).micas = s.micas := rfl
@[simp] theorem frames_setV (p o v : Nat) : (s.setV p o v).frames = s.frames := rfl
@[simp] theorem issued_setV (p o v : Nat) : (s.setV p o v).issued = s.issued := rfl
@[simp] theorem slots_setV (p o v : Nat) : (s.setV p o v).slots = s.slots := rfl
@[simp] theorem loops_setV (p o v : Nat) : (s.setV p o v).loops = s.loops := rfl
@[simp] theorem graphs_setV (p o v : Nat) : (s.setV p o v).graphs = s.graphs := rfl
@[simp] theorem rings_setV (p o v : Nat) : (s.setV p o v).rings = s.rings := rfl
@[simp] theorem ports_setV (p o v : Nat) : (s.setV p o v).ports = s.ports := rfl
@[simp] theorem doms_setV (p o v : Nat) : (s.setV p o v).doms = s.doms := rfl
@[simp] theorem biases_setV (p o v : Nat) : (s.setV p o v).biases = s.biases := rfl
@[simp] theorem errs_setV (p o v : Nat) : (s.setV p o v).errs = s.errs := rfl
@[simp] theorem reg_setV (p o v : Nat) (x : Nat) : (s.setV p o v).reg x = s.reg x := rfl
@[simp] theorem regN_setV (p o v : Nat) (x : Nat) : (s.setV p o v).regN x = s.regN x := rfl
@[simp] theorem fld_setV (p o v : Nat) (x y z : Nat) : (s.setV p o v).fld x y z = s.fld x y z := rfl
@[simp] theorem bit_setV (p o v : Nat) (x y : Nat) : (s.setV p o v).bit x y = s.bit x y := rfl
@[simp] theorem part_setV (p o v : Nat) (x : Nat) : (s.setV p o v).part x = s.part x := rfl
@[simp] theorem qtz_setV (p o v : Nat) (x : Nat) : (s.setV p o v).qtz x = s.qtz x := rfl
@[simp] theorem mica_setV (p o v : Nat) (x : Nat) : (s.setV p o v).mica x = s.mica x := rfl
@[simp] theorem frame_setV (p o v : Nat) (x : Nat) : (s.setV p o v).frame x = s.frame x := rfl
@[simp] theorem frameIssued_setV (p o v : Nat) (x : Nat) : (s.setV p o v).frameIssued x = s.frameIssued x := rfl
@[simp] theorem slot_setV (p o v : Nat) (x : Nat) : (s.setV p o v).slot x = s.slot x := rfl
@[simp] theorem loop_setV (p o v : Nat) (x : Nat) : (s.setV p o v).loop x = s.loop x := rfl
@[simp] theorem graph_setV (p o v : Nat) (x : Nat) : (s.setV p o v).graph x = s.graph x := rfl
@[simp] theorem ring_setV (p o v : Nat) (x : Nat) : (s.setV p o v).ring x = s.ring x := rfl
@[simp] theorem port_setV (p o v : Nat) (x : Nat) : (s.setV p o v).port x = s.port x := rfl
@[simp] theorem dom_setV (p o v : Nat) (x : Nat) : (s.setV p o v).dom x = s.dom x := rfl
@[simp] theorem bias_setV (p o v : Nat) (x : Nat) : (s.setV p o v).bias x = s.bias x := rfl
@[simp] theorem now_setV (p o v : Nat) : (s.setV p o v).now = s.now := rfl

/-! setBefore leaves every field but `before`. -/

@[simp] theorem mode_setBefore (a v : Nat) : (s.setBefore a v).mode = s.mode := rfl
@[simp] theorem time_setBefore (a v : Nat) : (s.setBefore a v).time = s.time := rfl
@[simp] theorem boot_setBefore (a v : Nat) : (s.setBefore a v).boot = s.boot := rfl
@[simp] theorem pins_setBefore (a v : Nat) : (s.setBefore a v).pins = s.pins := rfl
@[simp] theorem flash_setBefore (a v : Nat) : (s.setBefore a v).flash = s.flash := rfl
@[simp] theorem fab_setBefore (a v : Nat) : (s.setBefore a v).fab = s.fab := rfl
@[simp] theorem geo_setBefore (a v : Nat) : (s.setBefore a v).geo = s.geo := rfl
@[simp] theorem mem_setBefore (a v : Nat) : (s.setBefore a v).mem = s.mem := rfl
@[simp] theorem flint_setBefore (a v : Nat) : (s.setBefore a v).flint = s.flint := rfl
@[simp] theorem hk_setBefore (a v : Nat) : (s.setBefore a v).hk = s.hk := rfl
@[simp] theorem cal_setBefore (a v : Nat) : (s.setBefore a v).cal = s.cal := rfl
@[simp] theorem ev_setBefore (a v : Nat) : (s.setBefore a v).ev = s.ev := rfl
@[simp] theorem irq_setBefore (a v : Nat) : (s.setBefore a v).irq = s.irq := rfl
@[simp] theorem rd_setBefore (a v : Nat) : (s.setBefore a v).rd = s.rd := rfl
@[simp] theorem reqs_setBefore (a v : Nat) : (s.setBefore a v).reqs = s.reqs := rfl
@[simp] theorem dueq_setBefore (a v : Nat) : (s.setBefore a v).dueq = s.dueq := rfl
@[simp] theorem frameOwner_setBefore (a v : Nat) : (s.setBefore a v).frameOwner = s.frameOwner := rfl
@[simp] theorem frameShadow_setBefore (a v : Nat) : (s.setBefore a v).frameShadow = s.frameShadow := rfl
@[simp] theorem discShadow_setBefore (a v : Nat) : (s.setBefore a v).discShadow = s.discShadow := rfl
@[simp] theorem variant_setBefore (a v : Nat) : (s.setBefore a v).variant = s.variant := rfl
@[simp] theorem serial_setBefore (a v : Nat) : (s.setBefore a v).serial = s.serial := rfl
@[simp] theorem pending_setBefore (a v : Nat) : (s.setBefore a v).pending = s.pending := rfl
@[simp] theorem regs_setBefore (a v : Nat) : (s.setBefore a v).regs = s.regs := rfl
@[simp] theorem vregs_setBefore (a v : Nat) : (s.setBefore a v).vregs = s.vregs := rfl
@[simp] theorem parts_setBefore (a v : Nat) : (s.setBefore a v).parts = s.parts := rfl
@[simp] theorem cores_setBefore (a v : Nat) : (s.setBefore a v).cores = s.cores := rfl
@[simp] theorem micas_setBefore (a v : Nat) : (s.setBefore a v).micas = s.micas := rfl
@[simp] theorem frames_setBefore (a v : Nat) : (s.setBefore a v).frames = s.frames := rfl
@[simp] theorem issued_setBefore (a v : Nat) : (s.setBefore a v).issued = s.issued := rfl
@[simp] theorem slots_setBefore (a v : Nat) : (s.setBefore a v).slots = s.slots := rfl
@[simp] theorem loops_setBefore (a v : Nat) : (s.setBefore a v).loops = s.loops := rfl
@[simp] theorem graphs_setBefore (a v : Nat) : (s.setBefore a v).graphs = s.graphs := rfl
@[simp] theorem rings_setBefore (a v : Nat) : (s.setBefore a v).rings = s.rings := rfl
@[simp] theorem ports_setBefore (a v : Nat) : (s.setBefore a v).ports = s.ports := rfl
@[simp] theorem doms_setBefore (a v : Nat) : (s.setBefore a v).doms = s.doms := rfl
@[simp] theorem biases_setBefore (a v : Nat) : (s.setBefore a v).biases = s.biases := rfl
@[simp] theorem errs_setBefore (a v : Nat) : (s.setBefore a v).errs = s.errs := rfl
@[simp] theorem reg_setBefore (a v : Nat) (x : Nat) : (s.setBefore a v).reg x = s.reg x := rfl
@[simp] theorem regN_setBefore (a v : Nat) (x : Nat) : (s.setBefore a v).regN x = s.regN x := rfl
@[simp] theorem fld_setBefore (a v : Nat) (x y z : Nat) : (s.setBefore a v).fld x y z = s.fld x y z := rfl
@[simp] theorem bit_setBefore (a v : Nat) (x y : Nat) : (s.setBefore a v).bit x y = s.bit x y := rfl
@[simp] theorem vregN_setBefore (a v : Nat) (x y : Nat) : (s.setBefore a v).vregN x y = s.vregN x y := rfl
@[simp] theorem part_setBefore (a v : Nat) (x : Nat) : (s.setBefore a v).part x = s.part x := rfl
@[simp] theorem qtz_setBefore (a v : Nat) (x : Nat) : (s.setBefore a v).qtz x = s.qtz x := rfl
@[simp] theorem mica_setBefore (a v : Nat) (x : Nat) : (s.setBefore a v).mica x = s.mica x := rfl
@[simp] theorem frame_setBefore (a v : Nat) (x : Nat) : (s.setBefore a v).frame x = s.frame x := rfl
@[simp] theorem frameIssued_setBefore (a v : Nat) (x : Nat) : (s.setBefore a v).frameIssued x = s.frameIssued x := rfl
@[simp] theorem slot_setBefore (a v : Nat) (x : Nat) : (s.setBefore a v).slot x = s.slot x := rfl
@[simp] theorem loop_setBefore (a v : Nat) (x : Nat) : (s.setBefore a v).loop x = s.loop x := rfl
@[simp] theorem graph_setBefore (a v : Nat) (x : Nat) : (s.setBefore a v).graph x = s.graph x := rfl
@[simp] theorem ring_setBefore (a v : Nat) (x : Nat) : (s.setBefore a v).ring x = s.ring x := rfl
@[simp] theorem port_setBefore (a v : Nat) (x : Nat) : (s.setBefore a v).port x = s.port x := rfl
@[simp] theorem dom_setBefore (a v : Nat) (x : Nat) : (s.setBefore a v).dom x = s.dom x := rfl
@[simp] theorem bias_setBefore (a v : Nat) (x : Nat) : (s.setBefore a v).bias x = s.bias x := rfl
@[simp] theorem now_setBefore (a v : Nat) : (s.setBefore a v).now = s.now := rfl

/-! stick leaves every field but `regs` and `before`. -/

@[simp] theorem mode_stick (a i : Nat) : (s.stick a i).mode = s.mode := rfl
@[simp] theorem time_stick (a i : Nat) : (s.stick a i).time = s.time := rfl
@[simp] theorem boot_stick (a i : Nat) : (s.stick a i).boot = s.boot := rfl
@[simp] theorem pins_stick (a i : Nat) : (s.stick a i).pins = s.pins := rfl
@[simp] theorem flash_stick (a i : Nat) : (s.stick a i).flash = s.flash := rfl
@[simp] theorem fab_stick (a i : Nat) : (s.stick a i).fab = s.fab := rfl
@[simp] theorem geo_stick (a i : Nat) : (s.stick a i).geo = s.geo := rfl
@[simp] theorem mem_stick (a i : Nat) : (s.stick a i).mem = s.mem := rfl
@[simp] theorem flint_stick (a i : Nat) : (s.stick a i).flint = s.flint := rfl
@[simp] theorem hk_stick (a i : Nat) : (s.stick a i).hk = s.hk := rfl
@[simp] theorem cal_stick (a i : Nat) : (s.stick a i).cal = s.cal := rfl
@[simp] theorem ev_stick (a i : Nat) : (s.stick a i).ev = s.ev := rfl
@[simp] theorem irq_stick (a i : Nat) : (s.stick a i).irq = s.irq := rfl
@[simp] theorem rd_stick (a i : Nat) : (s.stick a i).rd = s.rd := rfl
@[simp] theorem reqs_stick (a i : Nat) : (s.stick a i).reqs = s.reqs := rfl
@[simp] theorem dueq_stick (a i : Nat) : (s.stick a i).dueq = s.dueq := rfl
@[simp] theorem frameOwner_stick (a i : Nat) : (s.stick a i).frameOwner = s.frameOwner := rfl
@[simp] theorem frameShadow_stick (a i : Nat) : (s.stick a i).frameShadow = s.frameShadow := rfl
@[simp] theorem discShadow_stick (a i : Nat) : (s.stick a i).discShadow = s.discShadow := rfl
@[simp] theorem variant_stick (a i : Nat) : (s.stick a i).variant = s.variant := rfl
@[simp] theorem serial_stick (a i : Nat) : (s.stick a i).serial = s.serial := rfl
@[simp] theorem pending_stick (a i : Nat) : (s.stick a i).pending = s.pending := rfl
@[simp] theorem vregs_stick (a i : Nat) : (s.stick a i).vregs = s.vregs := rfl
@[simp] theorem parts_stick (a i : Nat) : (s.stick a i).parts = s.parts := rfl
@[simp] theorem cores_stick (a i : Nat) : (s.stick a i).cores = s.cores := rfl
@[simp] theorem micas_stick (a i : Nat) : (s.stick a i).micas = s.micas := rfl
@[simp] theorem frames_stick (a i : Nat) : (s.stick a i).frames = s.frames := rfl
@[simp] theorem issued_stick (a i : Nat) : (s.stick a i).issued = s.issued := rfl
@[simp] theorem slots_stick (a i : Nat) : (s.stick a i).slots = s.slots := rfl
@[simp] theorem loops_stick (a i : Nat) : (s.stick a i).loops = s.loops := rfl
@[simp] theorem graphs_stick (a i : Nat) : (s.stick a i).graphs = s.graphs := rfl
@[simp] theorem rings_stick (a i : Nat) : (s.stick a i).rings = s.rings := rfl
@[simp] theorem ports_stick (a i : Nat) : (s.stick a i).ports = s.ports := rfl
@[simp] theorem doms_stick (a i : Nat) : (s.stick a i).doms = s.doms := rfl
@[simp] theorem biases_stick (a i : Nat) : (s.stick a i).biases = s.biases := rfl
@[simp] theorem errs_stick (a i : Nat) : (s.stick a i).errs = s.errs := rfl
@[simp] theorem vregN_stick (a i : Nat) (x y : Nat) : (s.stick a i).vregN x y = s.vregN x y := rfl
@[simp] theorem part_stick (a i : Nat) (x : Nat) : (s.stick a i).part x = s.part x := rfl
@[simp] theorem qtz_stick (a i : Nat) (x : Nat) : (s.stick a i).qtz x = s.qtz x := rfl
@[simp] theorem mica_stick (a i : Nat) (x : Nat) : (s.stick a i).mica x = s.mica x := rfl
@[simp] theorem frame_stick (a i : Nat) (x : Nat) : (s.stick a i).frame x = s.frame x := rfl
@[simp] theorem frameIssued_stick (a i : Nat) (x : Nat) : (s.stick a i).frameIssued x = s.frameIssued x := rfl
@[simp] theorem slot_stick (a i : Nat) (x : Nat) : (s.stick a i).slot x = s.slot x := rfl
@[simp] theorem loop_stick (a i : Nat) (x : Nat) : (s.stick a i).loop x = s.loop x := rfl
@[simp] theorem graph_stick (a i : Nat) (x : Nat) : (s.stick a i).graph x = s.graph x := rfl
@[simp] theorem ring_stick (a i : Nat) (x : Nat) : (s.stick a i).ring x = s.ring x := rfl
@[simp] theorem port_stick (a i : Nat) (x : Nat) : (s.stick a i).port x = s.port x := rfl
@[simp] theorem dom_stick (a i : Nat) (x : Nat) : (s.stick a i).dom x = s.dom x := rfl
@[simp] theorem bias_stick (a i : Nat) (x : Nat) : (s.stick a i).bias x = s.bias x := rfl
@[simp] theorem now_stick (a i : Nat) : (s.stick a i).now = s.now := rfl

/-! clearCount leaves every field but `regs` and `before`. -/

@[simp] theorem mode_clearCount (a : Nat) : (s.clearCount a).mode = s.mode := rfl
@[simp] theorem time_clearCount (a : Nat) : (s.clearCount a).time = s.time := rfl
@[simp] theorem boot_clearCount (a : Nat) : (s.clearCount a).boot = s.boot := rfl
@[simp] theorem pins_clearCount (a : Nat) : (s.clearCount a).pins = s.pins := rfl
@[simp] theorem flash_clearCount (a : Nat) : (s.clearCount a).flash = s.flash := rfl
@[simp] theorem fab_clearCount (a : Nat) : (s.clearCount a).fab = s.fab := rfl
@[simp] theorem geo_clearCount (a : Nat) : (s.clearCount a).geo = s.geo := rfl
@[simp] theorem mem_clearCount (a : Nat) : (s.clearCount a).mem = s.mem := rfl
@[simp] theorem flint_clearCount (a : Nat) : (s.clearCount a).flint = s.flint := rfl
@[simp] theorem hk_clearCount (a : Nat) : (s.clearCount a).hk = s.hk := rfl
@[simp] theorem cal_clearCount (a : Nat) : (s.clearCount a).cal = s.cal := rfl
@[simp] theorem ev_clearCount (a : Nat) : (s.clearCount a).ev = s.ev := rfl
@[simp] theorem irq_clearCount (a : Nat) : (s.clearCount a).irq = s.irq := rfl
@[simp] theorem rd_clearCount (a : Nat) : (s.clearCount a).rd = s.rd := rfl
@[simp] theorem reqs_clearCount (a : Nat) : (s.clearCount a).reqs = s.reqs := rfl
@[simp] theorem dueq_clearCount (a : Nat) : (s.clearCount a).dueq = s.dueq := rfl
@[simp] theorem frameOwner_clearCount (a : Nat) : (s.clearCount a).frameOwner = s.frameOwner := rfl
@[simp] theorem frameShadow_clearCount (a : Nat) : (s.clearCount a).frameShadow = s.frameShadow := rfl
@[simp] theorem discShadow_clearCount (a : Nat) : (s.clearCount a).discShadow = s.discShadow := rfl
@[simp] theorem variant_clearCount (a : Nat) : (s.clearCount a).variant = s.variant := rfl
@[simp] theorem serial_clearCount (a : Nat) : (s.clearCount a).serial = s.serial := rfl
@[simp] theorem pending_clearCount (a : Nat) : (s.clearCount a).pending = s.pending := rfl
@[simp] theorem vregs_clearCount (a : Nat) : (s.clearCount a).vregs = s.vregs := rfl
@[simp] theorem parts_clearCount (a : Nat) : (s.clearCount a).parts = s.parts := rfl
@[simp] theorem cores_clearCount (a : Nat) : (s.clearCount a).cores = s.cores := rfl
@[simp] theorem micas_clearCount (a : Nat) : (s.clearCount a).micas = s.micas := rfl
@[simp] theorem frames_clearCount (a : Nat) : (s.clearCount a).frames = s.frames := rfl
@[simp] theorem issued_clearCount (a : Nat) : (s.clearCount a).issued = s.issued := rfl
@[simp] theorem slots_clearCount (a : Nat) : (s.clearCount a).slots = s.slots := rfl
@[simp] theorem loops_clearCount (a : Nat) : (s.clearCount a).loops = s.loops := rfl
@[simp] theorem graphs_clearCount (a : Nat) : (s.clearCount a).graphs = s.graphs := rfl
@[simp] theorem rings_clearCount (a : Nat) : (s.clearCount a).rings = s.rings := rfl
@[simp] theorem ports_clearCount (a : Nat) : (s.clearCount a).ports = s.ports := rfl
@[simp] theorem doms_clearCount (a : Nat) : (s.clearCount a).doms = s.doms := rfl
@[simp] theorem biases_clearCount (a : Nat) : (s.clearCount a).biases = s.biases := rfl
@[simp] theorem errs_clearCount (a : Nat) : (s.clearCount a).errs = s.errs := rfl
@[simp] theorem vregN_clearCount (a : Nat) (x y : Nat) : (s.clearCount a).vregN x y = s.vregN x y := rfl
@[simp] theorem part_clearCount (a : Nat) (x : Nat) : (s.clearCount a).part x = s.part x := rfl
@[simp] theorem qtz_clearCount (a : Nat) (x : Nat) : (s.clearCount a).qtz x = s.qtz x := rfl
@[simp] theorem mica_clearCount (a : Nat) (x : Nat) : (s.clearCount a).mica x = s.mica x := rfl
@[simp] theorem frame_clearCount (a : Nat) (x : Nat) : (s.clearCount a).frame x = s.frame x := rfl
@[simp] theorem frameIssued_clearCount (a : Nat) (x : Nat) : (s.clearCount a).frameIssued x = s.frameIssued x := rfl
@[simp] theorem slot_clearCount (a : Nat) (x : Nat) : (s.clearCount a).slot x = s.slot x := rfl
@[simp] theorem loop_clearCount (a : Nat) (x : Nat) : (s.clearCount a).loop x = s.loop x := rfl
@[simp] theorem graph_clearCount (a : Nat) (x : Nat) : (s.clearCount a).graph x = s.graph x := rfl
@[simp] theorem ring_clearCount (a : Nat) (x : Nat) : (s.clearCount a).ring x = s.ring x := rfl
@[simp] theorem port_clearCount (a : Nat) (x : Nat) : (s.clearCount a).port x = s.port x := rfl
@[simp] theorem dom_clearCount (a : Nat) (x : Nat) : (s.clearCount a).dom x = s.dom x := rfl
@[simp] theorem bias_clearCount (a : Nat) (x : Nat) : (s.clearCount a).bias x = s.bias x := rfl
@[simp] theorem now_clearCount (a : Nat) : (s.clearCount a).now = s.now := rfl

/-! updPart leaves every field but `parts`. -/

@[simp] theorem before_updPart (p : Nat) (f : Part → Part) : (s.updPart p f).before = s.before := rfl
@[simp] theorem mode_updPart (p : Nat) (f : Part → Part) : (s.updPart p f).mode = s.mode := rfl
@[simp] theorem time_updPart (p : Nat) (f : Part → Part) : (s.updPart p f).time = s.time := rfl
@[simp] theorem boot_updPart (p : Nat) (f : Part → Part) : (s.updPart p f).boot = s.boot := rfl
@[simp] theorem pins_updPart (p : Nat) (f : Part → Part) : (s.updPart p f).pins = s.pins := rfl
@[simp] theorem flash_updPart (p : Nat) (f : Part → Part) : (s.updPart p f).flash = s.flash := rfl
@[simp] theorem fab_updPart (p : Nat) (f : Part → Part) : (s.updPart p f).fab = s.fab := rfl
@[simp] theorem geo_updPart (p : Nat) (f : Part → Part) : (s.updPart p f).geo = s.geo := rfl
@[simp] theorem mem_updPart (p : Nat) (f : Part → Part) : (s.updPart p f).mem = s.mem := rfl
@[simp] theorem flint_updPart (p : Nat) (f : Part → Part) : (s.updPart p f).flint = s.flint := rfl
@[simp] theorem hk_updPart (p : Nat) (f : Part → Part) : (s.updPart p f).hk = s.hk := rfl
@[simp] theorem cal_updPart (p : Nat) (f : Part → Part) : (s.updPart p f).cal = s.cal := rfl
@[simp] theorem ev_updPart (p : Nat) (f : Part → Part) : (s.updPart p f).ev = s.ev := rfl
@[simp] theorem irq_updPart (p : Nat) (f : Part → Part) : (s.updPart p f).irq = s.irq := rfl
@[simp] theorem rd_updPart (p : Nat) (f : Part → Part) : (s.updPart p f).rd = s.rd := rfl
@[simp] theorem reqs_updPart (p : Nat) (f : Part → Part) : (s.updPart p f).reqs = s.reqs := rfl
@[simp] theorem dueq_updPart (p : Nat) (f : Part → Part) : (s.updPart p f).dueq = s.dueq := rfl
@[simp] theorem frameOwner_updPart (p : Nat) (f : Part → Part) : (s.updPart p f).frameOwner = s.frameOwner := rfl
@[simp] theorem frameShadow_updPart (p : Nat) (f : Part → Part) : (s.updPart p f).frameShadow = s.frameShadow := rfl
@[simp] theorem discShadow_updPart (p : Nat) (f : Part → Part) : (s.updPart p f).discShadow = s.discShadow := rfl
@[simp] theorem variant_updPart (p : Nat) (f : Part → Part) : (s.updPart p f).variant = s.variant := rfl
@[simp] theorem serial_updPart (p : Nat) (f : Part → Part) : (s.updPart p f).serial = s.serial := rfl
@[simp] theorem pending_updPart (p : Nat) (f : Part → Part) : (s.updPart p f).pending = s.pending := rfl
@[simp] theorem regs_updPart (p : Nat) (f : Part → Part) : (s.updPart p f).regs = s.regs := rfl
@[simp] theorem vregs_updPart (p : Nat) (f : Part → Part) : (s.updPart p f).vregs = s.vregs := rfl
@[simp] theorem cores_updPart (p : Nat) (f : Part → Part) : (s.updPart p f).cores = s.cores := rfl
@[simp] theorem micas_updPart (p : Nat) (f : Part → Part) : (s.updPart p f).micas = s.micas := rfl
@[simp] theorem frames_updPart (p : Nat) (f : Part → Part) : (s.updPart p f).frames = s.frames := rfl
@[simp] theorem issued_updPart (p : Nat) (f : Part → Part) : (s.updPart p f).issued = s.issued := rfl
@[simp] theorem slots_updPart (p : Nat) (f : Part → Part) : (s.updPart p f).slots = s.slots := rfl
@[simp] theorem loops_updPart (p : Nat) (f : Part → Part) : (s.updPart p f).loops = s.loops := rfl
@[simp] theorem graphs_updPart (p : Nat) (f : Part → Part) : (s.updPart p f).graphs = s.graphs := rfl
@[simp] theorem rings_updPart (p : Nat) (f : Part → Part) : (s.updPart p f).rings = s.rings := rfl
@[simp] theorem ports_updPart (p : Nat) (f : Part → Part) : (s.updPart p f).ports = s.ports := rfl
@[simp] theorem doms_updPart (p : Nat) (f : Part → Part) : (s.updPart p f).doms = s.doms := rfl
@[simp] theorem biases_updPart (p : Nat) (f : Part → Part) : (s.updPart p f).biases = s.biases := rfl
@[simp] theorem errs_updPart (p : Nat) (f : Part → Part) : (s.updPart p f).errs = s.errs := rfl
@[simp] theorem reg_updPart (p : Nat) (f : Part → Part) (x : Nat) : (s.updPart p f).reg x = s.reg x := rfl
@[simp] theorem regN_updPart (p : Nat) (f : Part → Part) (x : Nat) : (s.updPart p f).regN x = s.regN x := rfl
@[simp] theorem fld_updPart (p : Nat) (f : Part → Part) (x y z : Nat) : (s.updPart p f).fld x y z = s.fld x y z := rfl
@[simp] theorem bit_updPart (p : Nat) (f : Part → Part) (x y : Nat) : (s.updPart p f).bit x y = s.bit x y := rfl
@[simp] theorem vregN_updPart (p : Nat) (f : Part → Part) (x y : Nat) : (s.updPart p f).vregN x y = s.vregN x y := rfl
@[simp] theorem qtz_updPart (p : Nat) (f : Part → Part) (x : Nat) : (s.updPart p f).qtz x = s.qtz x := rfl
@[simp] theorem mica_updPart (p : Nat) (f : Part → Part) (x : Nat) : (s.updPart p f).mica x = s.mica x := rfl
@[simp] theorem frame_updPart (p : Nat) (f : Part → Part) (x : Nat) : (s.updPart p f).frame x = s.frame x := rfl
@[simp] theorem frameIssued_updPart (p : Nat) (f : Part → Part) (x : Nat) : (s.updPart p f).frameIssued x = s.frameIssued x := rfl
@[simp] theorem slot_updPart (p : Nat) (f : Part → Part) (x : Nat) : (s.updPart p f).slot x = s.slot x := rfl
@[simp] theorem loop_updPart (p : Nat) (f : Part → Part) (x : Nat) : (s.updPart p f).loop x = s.loop x := rfl
@[simp] theorem graph_updPart (p : Nat) (f : Part → Part) (x : Nat) : (s.updPart p f).graph x = s.graph x := rfl
@[simp] theorem ring_updPart (p : Nat) (f : Part → Part) (x : Nat) : (s.updPart p f).ring x = s.ring x := rfl
@[simp] theorem port_updPart (p : Nat) (f : Part → Part) (x : Nat) : (s.updPart p f).port x = s.port x := rfl
@[simp] theorem dom_updPart (p : Nat) (f : Part → Part) (x : Nat) : (s.updPart p f).dom x = s.dom x := rfl
@[simp] theorem bias_updPart (p : Nat) (f : Part → Part) (x : Nat) : (s.updPart p f).bias x = s.bias x := rfl
@[simp] theorem now_updPart (p : Nat) (f : Part → Part) : (s.updPart p f).now = s.now := rfl

/-! updQtz leaves every field but `cores`. -/

@[simp] theorem before_updQtz (c : Nat) (f : Core → Core) : (s.updQtz c f).before = s.before := rfl
@[simp] theorem mode_updQtz (c : Nat) (f : Core → Core) : (s.updQtz c f).mode = s.mode := rfl
@[simp] theorem time_updQtz (c : Nat) (f : Core → Core) : (s.updQtz c f).time = s.time := rfl
@[simp] theorem boot_updQtz (c : Nat) (f : Core → Core) : (s.updQtz c f).boot = s.boot := rfl
@[simp] theorem pins_updQtz (c : Nat) (f : Core → Core) : (s.updQtz c f).pins = s.pins := rfl
@[simp] theorem flash_updQtz (c : Nat) (f : Core → Core) : (s.updQtz c f).flash = s.flash := rfl
@[simp] theorem fab_updQtz (c : Nat) (f : Core → Core) : (s.updQtz c f).fab = s.fab := rfl
@[simp] theorem geo_updQtz (c : Nat) (f : Core → Core) : (s.updQtz c f).geo = s.geo := rfl
@[simp] theorem mem_updQtz (c : Nat) (f : Core → Core) : (s.updQtz c f).mem = s.mem := rfl
@[simp] theorem flint_updQtz (c : Nat) (f : Core → Core) : (s.updQtz c f).flint = s.flint := rfl
@[simp] theorem hk_updQtz (c : Nat) (f : Core → Core) : (s.updQtz c f).hk = s.hk := rfl
@[simp] theorem cal_updQtz (c : Nat) (f : Core → Core) : (s.updQtz c f).cal = s.cal := rfl
@[simp] theorem ev_updQtz (c : Nat) (f : Core → Core) : (s.updQtz c f).ev = s.ev := rfl
@[simp] theorem irq_updQtz (c : Nat) (f : Core → Core) : (s.updQtz c f).irq = s.irq := rfl
@[simp] theorem rd_updQtz (c : Nat) (f : Core → Core) : (s.updQtz c f).rd = s.rd := rfl
@[simp] theorem reqs_updQtz (c : Nat) (f : Core → Core) : (s.updQtz c f).reqs = s.reqs := rfl
@[simp] theorem dueq_updQtz (c : Nat) (f : Core → Core) : (s.updQtz c f).dueq = s.dueq := rfl
@[simp] theorem frameOwner_updQtz (c : Nat) (f : Core → Core) : (s.updQtz c f).frameOwner = s.frameOwner := rfl
@[simp] theorem frameShadow_updQtz (c : Nat) (f : Core → Core) : (s.updQtz c f).frameShadow = s.frameShadow := rfl
@[simp] theorem discShadow_updQtz (c : Nat) (f : Core → Core) : (s.updQtz c f).discShadow = s.discShadow := rfl
@[simp] theorem variant_updQtz (c : Nat) (f : Core → Core) : (s.updQtz c f).variant = s.variant := rfl
@[simp] theorem serial_updQtz (c : Nat) (f : Core → Core) : (s.updQtz c f).serial = s.serial := rfl
@[simp] theorem pending_updQtz (c : Nat) (f : Core → Core) : (s.updQtz c f).pending = s.pending := rfl
@[simp] theorem regs_updQtz (c : Nat) (f : Core → Core) : (s.updQtz c f).regs = s.regs := rfl
@[simp] theorem vregs_updQtz (c : Nat) (f : Core → Core) : (s.updQtz c f).vregs = s.vregs := rfl
@[simp] theorem parts_updQtz (c : Nat) (f : Core → Core) : (s.updQtz c f).parts = s.parts := rfl
@[simp] theorem micas_updQtz (c : Nat) (f : Core → Core) : (s.updQtz c f).micas = s.micas := rfl
@[simp] theorem frames_updQtz (c : Nat) (f : Core → Core) : (s.updQtz c f).frames = s.frames := rfl
@[simp] theorem issued_updQtz (c : Nat) (f : Core → Core) : (s.updQtz c f).issued = s.issued := rfl
@[simp] theorem slots_updQtz (c : Nat) (f : Core → Core) : (s.updQtz c f).slots = s.slots := rfl
@[simp] theorem loops_updQtz (c : Nat) (f : Core → Core) : (s.updQtz c f).loops = s.loops := rfl
@[simp] theorem graphs_updQtz (c : Nat) (f : Core → Core) : (s.updQtz c f).graphs = s.graphs := rfl
@[simp] theorem rings_updQtz (c : Nat) (f : Core → Core) : (s.updQtz c f).rings = s.rings := rfl
@[simp] theorem ports_updQtz (c : Nat) (f : Core → Core) : (s.updQtz c f).ports = s.ports := rfl
@[simp] theorem doms_updQtz (c : Nat) (f : Core → Core) : (s.updQtz c f).doms = s.doms := rfl
@[simp] theorem biases_updQtz (c : Nat) (f : Core → Core) : (s.updQtz c f).biases = s.biases := rfl
@[simp] theorem errs_updQtz (c : Nat) (f : Core → Core) : (s.updQtz c f).errs = s.errs := rfl
@[simp] theorem reg_updQtz (c : Nat) (f : Core → Core) (x : Nat) : (s.updQtz c f).reg x = s.reg x := rfl
@[simp] theorem regN_updQtz (c : Nat) (f : Core → Core) (x : Nat) : (s.updQtz c f).regN x = s.regN x := rfl
@[simp] theorem fld_updQtz (c : Nat) (f : Core → Core) (x y z : Nat) : (s.updQtz c f).fld x y z = s.fld x y z := rfl
@[simp] theorem bit_updQtz (c : Nat) (f : Core → Core) (x y : Nat) : (s.updQtz c f).bit x y = s.bit x y := rfl
@[simp] theorem vregN_updQtz (c : Nat) (f : Core → Core) (x y : Nat) : (s.updQtz c f).vregN x y = s.vregN x y := rfl
@[simp] theorem part_updQtz (c : Nat) (f : Core → Core) (x : Nat) : (s.updQtz c f).part x = s.part x := rfl
@[simp] theorem mica_updQtz (c : Nat) (f : Core → Core) (x : Nat) : (s.updQtz c f).mica x = s.mica x := rfl
@[simp] theorem frame_updQtz (c : Nat) (f : Core → Core) (x : Nat) : (s.updQtz c f).frame x = s.frame x := rfl
@[simp] theorem frameIssued_updQtz (c : Nat) (f : Core → Core) (x : Nat) : (s.updQtz c f).frameIssued x = s.frameIssued x := rfl
@[simp] theorem slot_updQtz (c : Nat) (f : Core → Core) (x : Nat) : (s.updQtz c f).slot x = s.slot x := rfl
@[simp] theorem loop_updQtz (c : Nat) (f : Core → Core) (x : Nat) : (s.updQtz c f).loop x = s.loop x := rfl
@[simp] theorem graph_updQtz (c : Nat) (f : Core → Core) (x : Nat) : (s.updQtz c f).graph x = s.graph x := rfl
@[simp] theorem ring_updQtz (c : Nat) (f : Core → Core) (x : Nat) : (s.updQtz c f).ring x = s.ring x := rfl
@[simp] theorem port_updQtz (c : Nat) (f : Core → Core) (x : Nat) : (s.updQtz c f).port x = s.port x := rfl
@[simp] theorem dom_updQtz (c : Nat) (f : Core → Core) (x : Nat) : (s.updQtz c f).dom x = s.dom x := rfl
@[simp] theorem bias_updQtz (c : Nat) (f : Core → Core) (x : Nat) : (s.updQtz c f).bias x = s.bias x := rfl
@[simp] theorem now_updQtz (c : Nat) (f : Core → Core) : (s.updQtz c f).now = s.now := rfl

/-! updMica leaves every field but `micas`. -/

@[simp] theorem before_updMica (k : Nat) (f : Mica → Mica) : (s.updMica k f).before = s.before := rfl
@[simp] theorem mode_updMica (k : Nat) (f : Mica → Mica) : (s.updMica k f).mode = s.mode := rfl
@[simp] theorem time_updMica (k : Nat) (f : Mica → Mica) : (s.updMica k f).time = s.time := rfl
@[simp] theorem boot_updMica (k : Nat) (f : Mica → Mica) : (s.updMica k f).boot = s.boot := rfl
@[simp] theorem pins_updMica (k : Nat) (f : Mica → Mica) : (s.updMica k f).pins = s.pins := rfl
@[simp] theorem flash_updMica (k : Nat) (f : Mica → Mica) : (s.updMica k f).flash = s.flash := rfl
@[simp] theorem fab_updMica (k : Nat) (f : Mica → Mica) : (s.updMica k f).fab = s.fab := rfl
@[simp] theorem geo_updMica (k : Nat) (f : Mica → Mica) : (s.updMica k f).geo = s.geo := rfl
@[simp] theorem mem_updMica (k : Nat) (f : Mica → Mica) : (s.updMica k f).mem = s.mem := rfl
@[simp] theorem flint_updMica (k : Nat) (f : Mica → Mica) : (s.updMica k f).flint = s.flint := rfl
@[simp] theorem hk_updMica (k : Nat) (f : Mica → Mica) : (s.updMica k f).hk = s.hk := rfl
@[simp] theorem cal_updMica (k : Nat) (f : Mica → Mica) : (s.updMica k f).cal = s.cal := rfl
@[simp] theorem ev_updMica (k : Nat) (f : Mica → Mica) : (s.updMica k f).ev = s.ev := rfl
@[simp] theorem irq_updMica (k : Nat) (f : Mica → Mica) : (s.updMica k f).irq = s.irq := rfl
@[simp] theorem rd_updMica (k : Nat) (f : Mica → Mica) : (s.updMica k f).rd = s.rd := rfl
@[simp] theorem reqs_updMica (k : Nat) (f : Mica → Mica) : (s.updMica k f).reqs = s.reqs := rfl
@[simp] theorem dueq_updMica (k : Nat) (f : Mica → Mica) : (s.updMica k f).dueq = s.dueq := rfl
@[simp] theorem frameOwner_updMica (k : Nat) (f : Mica → Mica) : (s.updMica k f).frameOwner = s.frameOwner := rfl
@[simp] theorem frameShadow_updMica (k : Nat) (f : Mica → Mica) : (s.updMica k f).frameShadow = s.frameShadow := rfl
@[simp] theorem discShadow_updMica (k : Nat) (f : Mica → Mica) : (s.updMica k f).discShadow = s.discShadow := rfl
@[simp] theorem variant_updMica (k : Nat) (f : Mica → Mica) : (s.updMica k f).variant = s.variant := rfl
@[simp] theorem serial_updMica (k : Nat) (f : Mica → Mica) : (s.updMica k f).serial = s.serial := rfl
@[simp] theorem pending_updMica (k : Nat) (f : Mica → Mica) : (s.updMica k f).pending = s.pending := rfl
@[simp] theorem regs_updMica (k : Nat) (f : Mica → Mica) : (s.updMica k f).regs = s.regs := rfl
@[simp] theorem vregs_updMica (k : Nat) (f : Mica → Mica) : (s.updMica k f).vregs = s.vregs := rfl
@[simp] theorem parts_updMica (k : Nat) (f : Mica → Mica) : (s.updMica k f).parts = s.parts := rfl
@[simp] theorem cores_updMica (k : Nat) (f : Mica → Mica) : (s.updMica k f).cores = s.cores := rfl
@[simp] theorem frames_updMica (k : Nat) (f : Mica → Mica) : (s.updMica k f).frames = s.frames := rfl
@[simp] theorem issued_updMica (k : Nat) (f : Mica → Mica) : (s.updMica k f).issued = s.issued := rfl
@[simp] theorem slots_updMica (k : Nat) (f : Mica → Mica) : (s.updMica k f).slots = s.slots := rfl
@[simp] theorem loops_updMica (k : Nat) (f : Mica → Mica) : (s.updMica k f).loops = s.loops := rfl
@[simp] theorem graphs_updMica (k : Nat) (f : Mica → Mica) : (s.updMica k f).graphs = s.graphs := rfl
@[simp] theorem rings_updMica (k : Nat) (f : Mica → Mica) : (s.updMica k f).rings = s.rings := rfl
@[simp] theorem ports_updMica (k : Nat) (f : Mica → Mica) : (s.updMica k f).ports = s.ports := rfl
@[simp] theorem doms_updMica (k : Nat) (f : Mica → Mica) : (s.updMica k f).doms = s.doms := rfl
@[simp] theorem biases_updMica (k : Nat) (f : Mica → Mica) : (s.updMica k f).biases = s.biases := rfl
@[simp] theorem errs_updMica (k : Nat) (f : Mica → Mica) : (s.updMica k f).errs = s.errs := rfl
@[simp] theorem reg_updMica (k : Nat) (f : Mica → Mica) (x : Nat) : (s.updMica k f).reg x = s.reg x := rfl
@[simp] theorem regN_updMica (k : Nat) (f : Mica → Mica) (x : Nat) : (s.updMica k f).regN x = s.regN x := rfl
@[simp] theorem fld_updMica (k : Nat) (f : Mica → Mica) (x y z : Nat) : (s.updMica k f).fld x y z = s.fld x y z := rfl
@[simp] theorem bit_updMica (k : Nat) (f : Mica → Mica) (x y : Nat) : (s.updMica k f).bit x y = s.bit x y := rfl
@[simp] theorem vregN_updMica (k : Nat) (f : Mica → Mica) (x y : Nat) : (s.updMica k f).vregN x y = s.vregN x y := rfl
@[simp] theorem part_updMica (k : Nat) (f : Mica → Mica) (x : Nat) : (s.updMica k f).part x = s.part x := rfl
@[simp] theorem qtz_updMica (k : Nat) (f : Mica → Mica) (x : Nat) : (s.updMica k f).qtz x = s.qtz x := rfl
@[simp] theorem frame_updMica (k : Nat) (f : Mica → Mica) (x : Nat) : (s.updMica k f).frame x = s.frame x := rfl
@[simp] theorem frameIssued_updMica (k : Nat) (f : Mica → Mica) (x : Nat) : (s.updMica k f).frameIssued x = s.frameIssued x := rfl
@[simp] theorem slot_updMica (k : Nat) (f : Mica → Mica) (x : Nat) : (s.updMica k f).slot x = s.slot x := rfl
@[simp] theorem loop_updMica (k : Nat) (f : Mica → Mica) (x : Nat) : (s.updMica k f).loop x = s.loop x := rfl
@[simp] theorem graph_updMica (k : Nat) (f : Mica → Mica) (x : Nat) : (s.updMica k f).graph x = s.graph x := rfl
@[simp] theorem ring_updMica (k : Nat) (f : Mica → Mica) (x : Nat) : (s.updMica k f).ring x = s.ring x := rfl
@[simp] theorem port_updMica (k : Nat) (f : Mica → Mica) (x : Nat) : (s.updMica k f).port x = s.port x := rfl
@[simp] theorem dom_updMica (k : Nat) (f : Mica → Mica) (x : Nat) : (s.updMica k f).dom x = s.dom x := rfl
@[simp] theorem bias_updMica (k : Nat) (f : Mica → Mica) (x : Nat) : (s.updMica k f).bias x = s.bias x := rfl
@[simp] theorem now_updMica (k : Nat) (f : Mica → Mica) : (s.updMica k f).now = s.now := rfl

/-! setFrame leaves every field but `frames`. -/

@[simp] theorem before_setFrame (n : Nat) (v : Frame) : (s.setFrame n v).before = s.before := rfl
@[simp] theorem mode_setFrame (n : Nat) (v : Frame) : (s.setFrame n v).mode = s.mode := rfl
@[simp] theorem time_setFrame (n : Nat) (v : Frame) : (s.setFrame n v).time = s.time := rfl
@[simp] theorem boot_setFrame (n : Nat) (v : Frame) : (s.setFrame n v).boot = s.boot := rfl
@[simp] theorem pins_setFrame (n : Nat) (v : Frame) : (s.setFrame n v).pins = s.pins := rfl
@[simp] theorem flash_setFrame (n : Nat) (v : Frame) : (s.setFrame n v).flash = s.flash := rfl
@[simp] theorem fab_setFrame (n : Nat) (v : Frame) : (s.setFrame n v).fab = s.fab := rfl
@[simp] theorem geo_setFrame (n : Nat) (v : Frame) : (s.setFrame n v).geo = s.geo := rfl
@[simp] theorem mem_setFrame (n : Nat) (v : Frame) : (s.setFrame n v).mem = s.mem := rfl
@[simp] theorem flint_setFrame (n : Nat) (v : Frame) : (s.setFrame n v).flint = s.flint := rfl
@[simp] theorem hk_setFrame (n : Nat) (v : Frame) : (s.setFrame n v).hk = s.hk := rfl
@[simp] theorem cal_setFrame (n : Nat) (v : Frame) : (s.setFrame n v).cal = s.cal := rfl
@[simp] theorem ev_setFrame (n : Nat) (v : Frame) : (s.setFrame n v).ev = s.ev := rfl
@[simp] theorem irq_setFrame (n : Nat) (v : Frame) : (s.setFrame n v).irq = s.irq := rfl
@[simp] theorem rd_setFrame (n : Nat) (v : Frame) : (s.setFrame n v).rd = s.rd := rfl
@[simp] theorem reqs_setFrame (n : Nat) (v : Frame) : (s.setFrame n v).reqs = s.reqs := rfl
@[simp] theorem dueq_setFrame (n : Nat) (v : Frame) : (s.setFrame n v).dueq = s.dueq := rfl
@[simp] theorem frameOwner_setFrame (n : Nat) (v : Frame) : (s.setFrame n v).frameOwner = s.frameOwner := rfl
@[simp] theorem frameShadow_setFrame (n : Nat) (v : Frame) : (s.setFrame n v).frameShadow = s.frameShadow := rfl
@[simp] theorem discShadow_setFrame (n : Nat) (v : Frame) : (s.setFrame n v).discShadow = s.discShadow := rfl
@[simp] theorem variant_setFrame (n : Nat) (v : Frame) : (s.setFrame n v).variant = s.variant := rfl
@[simp] theorem serial_setFrame (n : Nat) (v : Frame) : (s.setFrame n v).serial = s.serial := rfl
@[simp] theorem pending_setFrame (n : Nat) (v : Frame) : (s.setFrame n v).pending = s.pending := rfl
@[simp] theorem regs_setFrame (n : Nat) (v : Frame) : (s.setFrame n v).regs = s.regs := rfl
@[simp] theorem vregs_setFrame (n : Nat) (v : Frame) : (s.setFrame n v).vregs = s.vregs := rfl
@[simp] theorem parts_setFrame (n : Nat) (v : Frame) : (s.setFrame n v).parts = s.parts := rfl
@[simp] theorem cores_setFrame (n : Nat) (v : Frame) : (s.setFrame n v).cores = s.cores := rfl
@[simp] theorem micas_setFrame (n : Nat) (v : Frame) : (s.setFrame n v).micas = s.micas := rfl
@[simp] theorem issued_setFrame (n : Nat) (v : Frame) : (s.setFrame n v).issued = s.issued := rfl
@[simp] theorem slots_setFrame (n : Nat) (v : Frame) : (s.setFrame n v).slots = s.slots := rfl
@[simp] theorem loops_setFrame (n : Nat) (v : Frame) : (s.setFrame n v).loops = s.loops := rfl
@[simp] theorem graphs_setFrame (n : Nat) (v : Frame) : (s.setFrame n v).graphs = s.graphs := rfl
@[simp] theorem rings_setFrame (n : Nat) (v : Frame) : (s.setFrame n v).rings = s.rings := rfl
@[simp] theorem ports_setFrame (n : Nat) (v : Frame) : (s.setFrame n v).ports = s.ports := rfl
@[simp] theorem doms_setFrame (n : Nat) (v : Frame) : (s.setFrame n v).doms = s.doms := rfl
@[simp] theorem biases_setFrame (n : Nat) (v : Frame) : (s.setFrame n v).biases = s.biases := rfl
@[simp] theorem errs_setFrame (n : Nat) (v : Frame) : (s.setFrame n v).errs = s.errs := rfl
@[simp] theorem reg_setFrame (n : Nat) (v : Frame) (x : Nat) : (s.setFrame n v).reg x = s.reg x := rfl
@[simp] theorem regN_setFrame (n : Nat) (v : Frame) (x : Nat) : (s.setFrame n v).regN x = s.regN x := rfl
@[simp] theorem fld_setFrame (n : Nat) (v : Frame) (x y z : Nat) : (s.setFrame n v).fld x y z = s.fld x y z := rfl
@[simp] theorem bit_setFrame (n : Nat) (v : Frame) (x y : Nat) : (s.setFrame n v).bit x y = s.bit x y := rfl
@[simp] theorem vregN_setFrame (n : Nat) (v : Frame) (x y : Nat) : (s.setFrame n v).vregN x y = s.vregN x y := rfl
@[simp] theorem part_setFrame (n : Nat) (v : Frame) (x : Nat) : (s.setFrame n v).part x = s.part x := rfl
@[simp] theorem qtz_setFrame (n : Nat) (v : Frame) (x : Nat) : (s.setFrame n v).qtz x = s.qtz x := rfl
@[simp] theorem mica_setFrame (n : Nat) (v : Frame) (x : Nat) : (s.setFrame n v).mica x = s.mica x := rfl
@[simp] theorem frameIssued_setFrame (n : Nat) (v : Frame) (x : Nat) : (s.setFrame n v).frameIssued x = s.frameIssued x := rfl
@[simp] theorem slot_setFrame (n : Nat) (v : Frame) (x : Nat) : (s.setFrame n v).slot x = s.slot x := rfl
@[simp] theorem loop_setFrame (n : Nat) (v : Frame) (x : Nat) : (s.setFrame n v).loop x = s.loop x := rfl
@[simp] theorem graph_setFrame (n : Nat) (v : Frame) (x : Nat) : (s.setFrame n v).graph x = s.graph x := rfl
@[simp] theorem ring_setFrame (n : Nat) (v : Frame) (x : Nat) : (s.setFrame n v).ring x = s.ring x := rfl
@[simp] theorem port_setFrame (n : Nat) (v : Frame) (x : Nat) : (s.setFrame n v).port x = s.port x := rfl
@[simp] theorem dom_setFrame (n : Nat) (v : Frame) (x : Nat) : (s.setFrame n v).dom x = s.dom x := rfl
@[simp] theorem bias_setFrame (n : Nat) (v : Frame) (x : Nat) : (s.setFrame n v).bias x = s.bias x := rfl
@[simp] theorem now_setFrame (n : Nat) (v : Frame) : (s.setFrame n v).now = s.now := rfl

/-! setIssued leaves every field but `issued`. -/

@[simp] theorem before_setIssued (n : Nat) (v : Frame) : (s.setIssued n v).before = s.before := rfl
@[simp] theorem mode_setIssued (n : Nat) (v : Frame) : (s.setIssued n v).mode = s.mode := rfl
@[simp] theorem time_setIssued (n : Nat) (v : Frame) : (s.setIssued n v).time = s.time := rfl
@[simp] theorem boot_setIssued (n : Nat) (v : Frame) : (s.setIssued n v).boot = s.boot := rfl
@[simp] theorem pins_setIssued (n : Nat) (v : Frame) : (s.setIssued n v).pins = s.pins := rfl
@[simp] theorem flash_setIssued (n : Nat) (v : Frame) : (s.setIssued n v).flash = s.flash := rfl
@[simp] theorem fab_setIssued (n : Nat) (v : Frame) : (s.setIssued n v).fab = s.fab := rfl
@[simp] theorem geo_setIssued (n : Nat) (v : Frame) : (s.setIssued n v).geo = s.geo := rfl
@[simp] theorem mem_setIssued (n : Nat) (v : Frame) : (s.setIssued n v).mem = s.mem := rfl
@[simp] theorem flint_setIssued (n : Nat) (v : Frame) : (s.setIssued n v).flint = s.flint := rfl
@[simp] theorem hk_setIssued (n : Nat) (v : Frame) : (s.setIssued n v).hk = s.hk := rfl
@[simp] theorem cal_setIssued (n : Nat) (v : Frame) : (s.setIssued n v).cal = s.cal := rfl
@[simp] theorem ev_setIssued (n : Nat) (v : Frame) : (s.setIssued n v).ev = s.ev := rfl
@[simp] theorem irq_setIssued (n : Nat) (v : Frame) : (s.setIssued n v).irq = s.irq := rfl
@[simp] theorem rd_setIssued (n : Nat) (v : Frame) : (s.setIssued n v).rd = s.rd := rfl
@[simp] theorem reqs_setIssued (n : Nat) (v : Frame) : (s.setIssued n v).reqs = s.reqs := rfl
@[simp] theorem dueq_setIssued (n : Nat) (v : Frame) : (s.setIssued n v).dueq = s.dueq := rfl
@[simp] theorem frameOwner_setIssued (n : Nat) (v : Frame) : (s.setIssued n v).frameOwner = s.frameOwner := rfl
@[simp] theorem frameShadow_setIssued (n : Nat) (v : Frame) : (s.setIssued n v).frameShadow = s.frameShadow := rfl
@[simp] theorem discShadow_setIssued (n : Nat) (v : Frame) : (s.setIssued n v).discShadow = s.discShadow := rfl
@[simp] theorem variant_setIssued (n : Nat) (v : Frame) : (s.setIssued n v).variant = s.variant := rfl
@[simp] theorem serial_setIssued (n : Nat) (v : Frame) : (s.setIssued n v).serial = s.serial := rfl
@[simp] theorem pending_setIssued (n : Nat) (v : Frame) : (s.setIssued n v).pending = s.pending := rfl
@[simp] theorem regs_setIssued (n : Nat) (v : Frame) : (s.setIssued n v).regs = s.regs := rfl
@[simp] theorem vregs_setIssued (n : Nat) (v : Frame) : (s.setIssued n v).vregs = s.vregs := rfl
@[simp] theorem parts_setIssued (n : Nat) (v : Frame) : (s.setIssued n v).parts = s.parts := rfl
@[simp] theorem cores_setIssued (n : Nat) (v : Frame) : (s.setIssued n v).cores = s.cores := rfl
@[simp] theorem micas_setIssued (n : Nat) (v : Frame) : (s.setIssued n v).micas = s.micas := rfl
@[simp] theorem frames_setIssued (n : Nat) (v : Frame) : (s.setIssued n v).frames = s.frames := rfl
@[simp] theorem slots_setIssued (n : Nat) (v : Frame) : (s.setIssued n v).slots = s.slots := rfl
@[simp] theorem loops_setIssued (n : Nat) (v : Frame) : (s.setIssued n v).loops = s.loops := rfl
@[simp] theorem graphs_setIssued (n : Nat) (v : Frame) : (s.setIssued n v).graphs = s.graphs := rfl
@[simp] theorem rings_setIssued (n : Nat) (v : Frame) : (s.setIssued n v).rings = s.rings := rfl
@[simp] theorem ports_setIssued (n : Nat) (v : Frame) : (s.setIssued n v).ports = s.ports := rfl
@[simp] theorem doms_setIssued (n : Nat) (v : Frame) : (s.setIssued n v).doms = s.doms := rfl
@[simp] theorem biases_setIssued (n : Nat) (v : Frame) : (s.setIssued n v).biases = s.biases := rfl
@[simp] theorem errs_setIssued (n : Nat) (v : Frame) : (s.setIssued n v).errs = s.errs := rfl
@[simp] theorem reg_setIssued (n : Nat) (v : Frame) (x : Nat) : (s.setIssued n v).reg x = s.reg x := rfl
@[simp] theorem regN_setIssued (n : Nat) (v : Frame) (x : Nat) : (s.setIssued n v).regN x = s.regN x := rfl
@[simp] theorem fld_setIssued (n : Nat) (v : Frame) (x y z : Nat) : (s.setIssued n v).fld x y z = s.fld x y z := rfl
@[simp] theorem bit_setIssued (n : Nat) (v : Frame) (x y : Nat) : (s.setIssued n v).bit x y = s.bit x y := rfl
@[simp] theorem vregN_setIssued (n : Nat) (v : Frame) (x y : Nat) : (s.setIssued n v).vregN x y = s.vregN x y := rfl
@[simp] theorem part_setIssued (n : Nat) (v : Frame) (x : Nat) : (s.setIssued n v).part x = s.part x := rfl
@[simp] theorem qtz_setIssued (n : Nat) (v : Frame) (x : Nat) : (s.setIssued n v).qtz x = s.qtz x := rfl
@[simp] theorem mica_setIssued (n : Nat) (v : Frame) (x : Nat) : (s.setIssued n v).mica x = s.mica x := rfl
@[simp] theorem frame_setIssued (n : Nat) (v : Frame) (x : Nat) : (s.setIssued n v).frame x = s.frame x := rfl
@[simp] theorem slot_setIssued (n : Nat) (v : Frame) (x : Nat) : (s.setIssued n v).slot x = s.slot x := rfl
@[simp] theorem loop_setIssued (n : Nat) (v : Frame) (x : Nat) : (s.setIssued n v).loop x = s.loop x := rfl
@[simp] theorem graph_setIssued (n : Nat) (v : Frame) (x : Nat) : (s.setIssued n v).graph x = s.graph x := rfl
@[simp] theorem ring_setIssued (n : Nat) (v : Frame) (x : Nat) : (s.setIssued n v).ring x = s.ring x := rfl
@[simp] theorem port_setIssued (n : Nat) (v : Frame) (x : Nat) : (s.setIssued n v).port x = s.port x := rfl
@[simp] theorem dom_setIssued (n : Nat) (v : Frame) (x : Nat) : (s.setIssued n v).dom x = s.dom x := rfl
@[simp] theorem bias_setIssued (n : Nat) (v : Frame) (x : Nat) : (s.setIssued n v).bias x = s.bias x := rfl
@[simp] theorem now_setIssued (n : Nat) (v : Frame) : (s.setIssued n v).now = s.now := rfl

/-! updSlot leaves every field but `slots`. -/

@[simp] theorem before_updSlot (i : Nat) (f : Slot → Slot) : (s.updSlot i f).before = s.before := rfl
@[simp] theorem mode_updSlot (i : Nat) (f : Slot → Slot) : (s.updSlot i f).mode = s.mode := rfl
@[simp] theorem time_updSlot (i : Nat) (f : Slot → Slot) : (s.updSlot i f).time = s.time := rfl
@[simp] theorem boot_updSlot (i : Nat) (f : Slot → Slot) : (s.updSlot i f).boot = s.boot := rfl
@[simp] theorem pins_updSlot (i : Nat) (f : Slot → Slot) : (s.updSlot i f).pins = s.pins := rfl
@[simp] theorem flash_updSlot (i : Nat) (f : Slot → Slot) : (s.updSlot i f).flash = s.flash := rfl
@[simp] theorem fab_updSlot (i : Nat) (f : Slot → Slot) : (s.updSlot i f).fab = s.fab := rfl
@[simp] theorem geo_updSlot (i : Nat) (f : Slot → Slot) : (s.updSlot i f).geo = s.geo := rfl
@[simp] theorem mem_updSlot (i : Nat) (f : Slot → Slot) : (s.updSlot i f).mem = s.mem := rfl
@[simp] theorem flint_updSlot (i : Nat) (f : Slot → Slot) : (s.updSlot i f).flint = s.flint := rfl
@[simp] theorem hk_updSlot (i : Nat) (f : Slot → Slot) : (s.updSlot i f).hk = s.hk := rfl
@[simp] theorem cal_updSlot (i : Nat) (f : Slot → Slot) : (s.updSlot i f).cal = s.cal := rfl
@[simp] theorem ev_updSlot (i : Nat) (f : Slot → Slot) : (s.updSlot i f).ev = s.ev := rfl
@[simp] theorem irq_updSlot (i : Nat) (f : Slot → Slot) : (s.updSlot i f).irq = s.irq := rfl
@[simp] theorem rd_updSlot (i : Nat) (f : Slot → Slot) : (s.updSlot i f).rd = s.rd := rfl
@[simp] theorem reqs_updSlot (i : Nat) (f : Slot → Slot) : (s.updSlot i f).reqs = s.reqs := rfl
@[simp] theorem dueq_updSlot (i : Nat) (f : Slot → Slot) : (s.updSlot i f).dueq = s.dueq := rfl
@[simp] theorem frameOwner_updSlot (i : Nat) (f : Slot → Slot) : (s.updSlot i f).frameOwner = s.frameOwner := rfl
@[simp] theorem frameShadow_updSlot (i : Nat) (f : Slot → Slot) : (s.updSlot i f).frameShadow = s.frameShadow := rfl
@[simp] theorem discShadow_updSlot (i : Nat) (f : Slot → Slot) : (s.updSlot i f).discShadow = s.discShadow := rfl
@[simp] theorem variant_updSlot (i : Nat) (f : Slot → Slot) : (s.updSlot i f).variant = s.variant := rfl
@[simp] theorem serial_updSlot (i : Nat) (f : Slot → Slot) : (s.updSlot i f).serial = s.serial := rfl
@[simp] theorem pending_updSlot (i : Nat) (f : Slot → Slot) : (s.updSlot i f).pending = s.pending := rfl
@[simp] theorem regs_updSlot (i : Nat) (f : Slot → Slot) : (s.updSlot i f).regs = s.regs := rfl
@[simp] theorem vregs_updSlot (i : Nat) (f : Slot → Slot) : (s.updSlot i f).vregs = s.vregs := rfl
@[simp] theorem parts_updSlot (i : Nat) (f : Slot → Slot) : (s.updSlot i f).parts = s.parts := rfl
@[simp] theorem cores_updSlot (i : Nat) (f : Slot → Slot) : (s.updSlot i f).cores = s.cores := rfl
@[simp] theorem micas_updSlot (i : Nat) (f : Slot → Slot) : (s.updSlot i f).micas = s.micas := rfl
@[simp] theorem frames_updSlot (i : Nat) (f : Slot → Slot) : (s.updSlot i f).frames = s.frames := rfl
@[simp] theorem issued_updSlot (i : Nat) (f : Slot → Slot) : (s.updSlot i f).issued = s.issued := rfl
@[simp] theorem loops_updSlot (i : Nat) (f : Slot → Slot) : (s.updSlot i f).loops = s.loops := rfl
@[simp] theorem graphs_updSlot (i : Nat) (f : Slot → Slot) : (s.updSlot i f).graphs = s.graphs := rfl
@[simp] theorem rings_updSlot (i : Nat) (f : Slot → Slot) : (s.updSlot i f).rings = s.rings := rfl
@[simp] theorem ports_updSlot (i : Nat) (f : Slot → Slot) : (s.updSlot i f).ports = s.ports := rfl
@[simp] theorem doms_updSlot (i : Nat) (f : Slot → Slot) : (s.updSlot i f).doms = s.doms := rfl
@[simp] theorem biases_updSlot (i : Nat) (f : Slot → Slot) : (s.updSlot i f).biases = s.biases := rfl
@[simp] theorem errs_updSlot (i : Nat) (f : Slot → Slot) : (s.updSlot i f).errs = s.errs := rfl
@[simp] theorem reg_updSlot (i : Nat) (f : Slot → Slot) (x : Nat) : (s.updSlot i f).reg x = s.reg x := rfl
@[simp] theorem regN_updSlot (i : Nat) (f : Slot → Slot) (x : Nat) : (s.updSlot i f).regN x = s.regN x := rfl
@[simp] theorem fld_updSlot (i : Nat) (f : Slot → Slot) (x y z : Nat) : (s.updSlot i f).fld x y z = s.fld x y z := rfl
@[simp] theorem bit_updSlot (i : Nat) (f : Slot → Slot) (x y : Nat) : (s.updSlot i f).bit x y = s.bit x y := rfl
@[simp] theorem vregN_updSlot (i : Nat) (f : Slot → Slot) (x y : Nat) : (s.updSlot i f).vregN x y = s.vregN x y := rfl
@[simp] theorem part_updSlot (i : Nat) (f : Slot → Slot) (x : Nat) : (s.updSlot i f).part x = s.part x := rfl
@[simp] theorem qtz_updSlot (i : Nat) (f : Slot → Slot) (x : Nat) : (s.updSlot i f).qtz x = s.qtz x := rfl
@[simp] theorem mica_updSlot (i : Nat) (f : Slot → Slot) (x : Nat) : (s.updSlot i f).mica x = s.mica x := rfl
@[simp] theorem frame_updSlot (i : Nat) (f : Slot → Slot) (x : Nat) : (s.updSlot i f).frame x = s.frame x := rfl
@[simp] theorem frameIssued_updSlot (i : Nat) (f : Slot → Slot) (x : Nat) : (s.updSlot i f).frameIssued x = s.frameIssued x := rfl
@[simp] theorem loop_updSlot (i : Nat) (f : Slot → Slot) (x : Nat) : (s.updSlot i f).loop x = s.loop x := rfl
@[simp] theorem graph_updSlot (i : Nat) (f : Slot → Slot) (x : Nat) : (s.updSlot i f).graph x = s.graph x := rfl
@[simp] theorem ring_updSlot (i : Nat) (f : Slot → Slot) (x : Nat) : (s.updSlot i f).ring x = s.ring x := rfl
@[simp] theorem port_updSlot (i : Nat) (f : Slot → Slot) (x : Nat) : (s.updSlot i f).port x = s.port x := rfl
@[simp] theorem dom_updSlot (i : Nat) (f : Slot → Slot) (x : Nat) : (s.updSlot i f).dom x = s.dom x := rfl
@[simp] theorem bias_updSlot (i : Nat) (f : Slot → Slot) (x : Nat) : (s.updSlot i f).bias x = s.bias x := rfl
@[simp] theorem now_updSlot (i : Nat) (f : Slot → Slot) : (s.updSlot i f).now = s.now := rfl

/-! updLoop leaves every field but `loops`. -/

@[simp] theorem before_updLoop (l : Nat) (f : Loop → Loop) : (s.updLoop l f).before = s.before := rfl
@[simp] theorem mode_updLoop (l : Nat) (f : Loop → Loop) : (s.updLoop l f).mode = s.mode := rfl
@[simp] theorem time_updLoop (l : Nat) (f : Loop → Loop) : (s.updLoop l f).time = s.time := rfl
@[simp] theorem boot_updLoop (l : Nat) (f : Loop → Loop) : (s.updLoop l f).boot = s.boot := rfl
@[simp] theorem pins_updLoop (l : Nat) (f : Loop → Loop) : (s.updLoop l f).pins = s.pins := rfl
@[simp] theorem flash_updLoop (l : Nat) (f : Loop → Loop) : (s.updLoop l f).flash = s.flash := rfl
@[simp] theorem fab_updLoop (l : Nat) (f : Loop → Loop) : (s.updLoop l f).fab = s.fab := rfl
@[simp] theorem geo_updLoop (l : Nat) (f : Loop → Loop) : (s.updLoop l f).geo = s.geo := rfl
@[simp] theorem mem_updLoop (l : Nat) (f : Loop → Loop) : (s.updLoop l f).mem = s.mem := rfl
@[simp] theorem flint_updLoop (l : Nat) (f : Loop → Loop) : (s.updLoop l f).flint = s.flint := rfl
@[simp] theorem hk_updLoop (l : Nat) (f : Loop → Loop) : (s.updLoop l f).hk = s.hk := rfl
@[simp] theorem cal_updLoop (l : Nat) (f : Loop → Loop) : (s.updLoop l f).cal = s.cal := rfl
@[simp] theorem ev_updLoop (l : Nat) (f : Loop → Loop) : (s.updLoop l f).ev = s.ev := rfl
@[simp] theorem irq_updLoop (l : Nat) (f : Loop → Loop) : (s.updLoop l f).irq = s.irq := rfl
@[simp] theorem rd_updLoop (l : Nat) (f : Loop → Loop) : (s.updLoop l f).rd = s.rd := rfl
@[simp] theorem reqs_updLoop (l : Nat) (f : Loop → Loop) : (s.updLoop l f).reqs = s.reqs := rfl
@[simp] theorem dueq_updLoop (l : Nat) (f : Loop → Loop) : (s.updLoop l f).dueq = s.dueq := rfl
@[simp] theorem frameOwner_updLoop (l : Nat) (f : Loop → Loop) : (s.updLoop l f).frameOwner = s.frameOwner := rfl
@[simp] theorem frameShadow_updLoop (l : Nat) (f : Loop → Loop) : (s.updLoop l f).frameShadow = s.frameShadow := rfl
@[simp] theorem discShadow_updLoop (l : Nat) (f : Loop → Loop) : (s.updLoop l f).discShadow = s.discShadow := rfl
@[simp] theorem variant_updLoop (l : Nat) (f : Loop → Loop) : (s.updLoop l f).variant = s.variant := rfl
@[simp] theorem serial_updLoop (l : Nat) (f : Loop → Loop) : (s.updLoop l f).serial = s.serial := rfl
@[simp] theorem pending_updLoop (l : Nat) (f : Loop → Loop) : (s.updLoop l f).pending = s.pending := rfl
@[simp] theorem regs_updLoop (l : Nat) (f : Loop → Loop) : (s.updLoop l f).regs = s.regs := rfl
@[simp] theorem vregs_updLoop (l : Nat) (f : Loop → Loop) : (s.updLoop l f).vregs = s.vregs := rfl
@[simp] theorem parts_updLoop (l : Nat) (f : Loop → Loop) : (s.updLoop l f).parts = s.parts := rfl
@[simp] theorem cores_updLoop (l : Nat) (f : Loop → Loop) : (s.updLoop l f).cores = s.cores := rfl
@[simp] theorem micas_updLoop (l : Nat) (f : Loop → Loop) : (s.updLoop l f).micas = s.micas := rfl
@[simp] theorem frames_updLoop (l : Nat) (f : Loop → Loop) : (s.updLoop l f).frames = s.frames := rfl
@[simp] theorem issued_updLoop (l : Nat) (f : Loop → Loop) : (s.updLoop l f).issued = s.issued := rfl
@[simp] theorem slots_updLoop (l : Nat) (f : Loop → Loop) : (s.updLoop l f).slots = s.slots := rfl
@[simp] theorem graphs_updLoop (l : Nat) (f : Loop → Loop) : (s.updLoop l f).graphs = s.graphs := rfl
@[simp] theorem rings_updLoop (l : Nat) (f : Loop → Loop) : (s.updLoop l f).rings = s.rings := rfl
@[simp] theorem ports_updLoop (l : Nat) (f : Loop → Loop) : (s.updLoop l f).ports = s.ports := rfl
@[simp] theorem doms_updLoop (l : Nat) (f : Loop → Loop) : (s.updLoop l f).doms = s.doms := rfl
@[simp] theorem biases_updLoop (l : Nat) (f : Loop → Loop) : (s.updLoop l f).biases = s.biases := rfl
@[simp] theorem errs_updLoop (l : Nat) (f : Loop → Loop) : (s.updLoop l f).errs = s.errs := rfl
@[simp] theorem reg_updLoop (l : Nat) (f : Loop → Loop) (x : Nat) : (s.updLoop l f).reg x = s.reg x := rfl
@[simp] theorem regN_updLoop (l : Nat) (f : Loop → Loop) (x : Nat) : (s.updLoop l f).regN x = s.regN x := rfl
@[simp] theorem fld_updLoop (l : Nat) (f : Loop → Loop) (x y z : Nat) : (s.updLoop l f).fld x y z = s.fld x y z := rfl
@[simp] theorem bit_updLoop (l : Nat) (f : Loop → Loop) (x y : Nat) : (s.updLoop l f).bit x y = s.bit x y := rfl
@[simp] theorem vregN_updLoop (l : Nat) (f : Loop → Loop) (x y : Nat) : (s.updLoop l f).vregN x y = s.vregN x y := rfl
@[simp] theorem part_updLoop (l : Nat) (f : Loop → Loop) (x : Nat) : (s.updLoop l f).part x = s.part x := rfl
@[simp] theorem qtz_updLoop (l : Nat) (f : Loop → Loop) (x : Nat) : (s.updLoop l f).qtz x = s.qtz x := rfl
@[simp] theorem mica_updLoop (l : Nat) (f : Loop → Loop) (x : Nat) : (s.updLoop l f).mica x = s.mica x := rfl
@[simp] theorem frame_updLoop (l : Nat) (f : Loop → Loop) (x : Nat) : (s.updLoop l f).frame x = s.frame x := rfl
@[simp] theorem frameIssued_updLoop (l : Nat) (f : Loop → Loop) (x : Nat) : (s.updLoop l f).frameIssued x = s.frameIssued x := rfl
@[simp] theorem slot_updLoop (l : Nat) (f : Loop → Loop) (x : Nat) : (s.updLoop l f).slot x = s.slot x := rfl
@[simp] theorem graph_updLoop (l : Nat) (f : Loop → Loop) (x : Nat) : (s.updLoop l f).graph x = s.graph x := rfl
@[simp] theorem ring_updLoop (l : Nat) (f : Loop → Loop) (x : Nat) : (s.updLoop l f).ring x = s.ring x := rfl
@[simp] theorem port_updLoop (l : Nat) (f : Loop → Loop) (x : Nat) : (s.updLoop l f).port x = s.port x := rfl
@[simp] theorem dom_updLoop (l : Nat) (f : Loop → Loop) (x : Nat) : (s.updLoop l f).dom x = s.dom x := rfl
@[simp] theorem bias_updLoop (l : Nat) (f : Loop → Loop) (x : Nat) : (s.updLoop l f).bias x = s.bias x := rfl
@[simp] theorem now_updLoop (l : Nat) (f : Loop → Loop) : (s.updLoop l f).now = s.now := rfl

/-! updGraph leaves every field but `graphs`. -/

@[simp] theorem before_updGraph (p : Nat) (f : Graph → Graph) : (s.updGraph p f).before = s.before := rfl
@[simp] theorem mode_updGraph (p : Nat) (f : Graph → Graph) : (s.updGraph p f).mode = s.mode := rfl
@[simp] theorem time_updGraph (p : Nat) (f : Graph → Graph) : (s.updGraph p f).time = s.time := rfl
@[simp] theorem boot_updGraph (p : Nat) (f : Graph → Graph) : (s.updGraph p f).boot = s.boot := rfl
@[simp] theorem pins_updGraph (p : Nat) (f : Graph → Graph) : (s.updGraph p f).pins = s.pins := rfl
@[simp] theorem flash_updGraph (p : Nat) (f : Graph → Graph) : (s.updGraph p f).flash = s.flash := rfl
@[simp] theorem fab_updGraph (p : Nat) (f : Graph → Graph) : (s.updGraph p f).fab = s.fab := rfl
@[simp] theorem geo_updGraph (p : Nat) (f : Graph → Graph) : (s.updGraph p f).geo = s.geo := rfl
@[simp] theorem mem_updGraph (p : Nat) (f : Graph → Graph) : (s.updGraph p f).mem = s.mem := rfl
@[simp] theorem flint_updGraph (p : Nat) (f : Graph → Graph) : (s.updGraph p f).flint = s.flint := rfl
@[simp] theorem hk_updGraph (p : Nat) (f : Graph → Graph) : (s.updGraph p f).hk = s.hk := rfl
@[simp] theorem cal_updGraph (p : Nat) (f : Graph → Graph) : (s.updGraph p f).cal = s.cal := rfl
@[simp] theorem ev_updGraph (p : Nat) (f : Graph → Graph) : (s.updGraph p f).ev = s.ev := rfl
@[simp] theorem irq_updGraph (p : Nat) (f : Graph → Graph) : (s.updGraph p f).irq = s.irq := rfl
@[simp] theorem rd_updGraph (p : Nat) (f : Graph → Graph) : (s.updGraph p f).rd = s.rd := rfl
@[simp] theorem reqs_updGraph (p : Nat) (f : Graph → Graph) : (s.updGraph p f).reqs = s.reqs := rfl
@[simp] theorem dueq_updGraph (p : Nat) (f : Graph → Graph) : (s.updGraph p f).dueq = s.dueq := rfl
@[simp] theorem frameOwner_updGraph (p : Nat) (f : Graph → Graph) : (s.updGraph p f).frameOwner = s.frameOwner := rfl
@[simp] theorem frameShadow_updGraph (p : Nat) (f : Graph → Graph) : (s.updGraph p f).frameShadow = s.frameShadow := rfl
@[simp] theorem discShadow_updGraph (p : Nat) (f : Graph → Graph) : (s.updGraph p f).discShadow = s.discShadow := rfl
@[simp] theorem variant_updGraph (p : Nat) (f : Graph → Graph) : (s.updGraph p f).variant = s.variant := rfl
@[simp] theorem serial_updGraph (p : Nat) (f : Graph → Graph) : (s.updGraph p f).serial = s.serial := rfl
@[simp] theorem pending_updGraph (p : Nat) (f : Graph → Graph) : (s.updGraph p f).pending = s.pending := rfl
@[simp] theorem regs_updGraph (p : Nat) (f : Graph → Graph) : (s.updGraph p f).regs = s.regs := rfl
@[simp] theorem vregs_updGraph (p : Nat) (f : Graph → Graph) : (s.updGraph p f).vregs = s.vregs := rfl
@[simp] theorem parts_updGraph (p : Nat) (f : Graph → Graph) : (s.updGraph p f).parts = s.parts := rfl
@[simp] theorem cores_updGraph (p : Nat) (f : Graph → Graph) : (s.updGraph p f).cores = s.cores := rfl
@[simp] theorem micas_updGraph (p : Nat) (f : Graph → Graph) : (s.updGraph p f).micas = s.micas := rfl
@[simp] theorem frames_updGraph (p : Nat) (f : Graph → Graph) : (s.updGraph p f).frames = s.frames := rfl
@[simp] theorem issued_updGraph (p : Nat) (f : Graph → Graph) : (s.updGraph p f).issued = s.issued := rfl
@[simp] theorem slots_updGraph (p : Nat) (f : Graph → Graph) : (s.updGraph p f).slots = s.slots := rfl
@[simp] theorem loops_updGraph (p : Nat) (f : Graph → Graph) : (s.updGraph p f).loops = s.loops := rfl
@[simp] theorem rings_updGraph (p : Nat) (f : Graph → Graph) : (s.updGraph p f).rings = s.rings := rfl
@[simp] theorem ports_updGraph (p : Nat) (f : Graph → Graph) : (s.updGraph p f).ports = s.ports := rfl
@[simp] theorem doms_updGraph (p : Nat) (f : Graph → Graph) : (s.updGraph p f).doms = s.doms := rfl
@[simp] theorem biases_updGraph (p : Nat) (f : Graph → Graph) : (s.updGraph p f).biases = s.biases := rfl
@[simp] theorem errs_updGraph (p : Nat) (f : Graph → Graph) : (s.updGraph p f).errs = s.errs := rfl
@[simp] theorem reg_updGraph (p : Nat) (f : Graph → Graph) (x : Nat) : (s.updGraph p f).reg x = s.reg x := rfl
@[simp] theorem regN_updGraph (p : Nat) (f : Graph → Graph) (x : Nat) : (s.updGraph p f).regN x = s.regN x := rfl
@[simp] theorem fld_updGraph (p : Nat) (f : Graph → Graph) (x y z : Nat) : (s.updGraph p f).fld x y z = s.fld x y z := rfl
@[simp] theorem bit_updGraph (p : Nat) (f : Graph → Graph) (x y : Nat) : (s.updGraph p f).bit x y = s.bit x y := rfl
@[simp] theorem vregN_updGraph (p : Nat) (f : Graph → Graph) (x y : Nat) : (s.updGraph p f).vregN x y = s.vregN x y := rfl
@[simp] theorem part_updGraph (p : Nat) (f : Graph → Graph) (x : Nat) : (s.updGraph p f).part x = s.part x := rfl
@[simp] theorem qtz_updGraph (p : Nat) (f : Graph → Graph) (x : Nat) : (s.updGraph p f).qtz x = s.qtz x := rfl
@[simp] theorem mica_updGraph (p : Nat) (f : Graph → Graph) (x : Nat) : (s.updGraph p f).mica x = s.mica x := rfl
@[simp] theorem frame_updGraph (p : Nat) (f : Graph → Graph) (x : Nat) : (s.updGraph p f).frame x = s.frame x := rfl
@[simp] theorem frameIssued_updGraph (p : Nat) (f : Graph → Graph) (x : Nat) : (s.updGraph p f).frameIssued x = s.frameIssued x := rfl
@[simp] theorem slot_updGraph (p : Nat) (f : Graph → Graph) (x : Nat) : (s.updGraph p f).slot x = s.slot x := rfl
@[simp] theorem loop_updGraph (p : Nat) (f : Graph → Graph) (x : Nat) : (s.updGraph p f).loop x = s.loop x := rfl
@[simp] theorem ring_updGraph (p : Nat) (f : Graph → Graph) (x : Nat) : (s.updGraph p f).ring x = s.ring x := rfl
@[simp] theorem port_updGraph (p : Nat) (f : Graph → Graph) (x : Nat) : (s.updGraph p f).port x = s.port x := rfl
@[simp] theorem dom_updGraph (p : Nat) (f : Graph → Graph) (x : Nat) : (s.updGraph p f).dom x = s.dom x := rfl
@[simp] theorem bias_updGraph (p : Nat) (f : Graph → Graph) (x : Nat) : (s.updGraph p f).bias x = s.bias x := rfl
@[simp] theorem now_updGraph (p : Nat) (f : Graph → Graph) : (s.updGraph p f).now = s.now := rfl

/-! updRing leaves every field but `rings`. -/

@[simp] theorem before_updRing (r : Nat) (f : Ring → Ring) : (s.updRing r f).before = s.before := rfl
@[simp] theorem mode_updRing (r : Nat) (f : Ring → Ring) : (s.updRing r f).mode = s.mode := rfl
@[simp] theorem time_updRing (r : Nat) (f : Ring → Ring) : (s.updRing r f).time = s.time := rfl
@[simp] theorem boot_updRing (r : Nat) (f : Ring → Ring) : (s.updRing r f).boot = s.boot := rfl
@[simp] theorem pins_updRing (r : Nat) (f : Ring → Ring) : (s.updRing r f).pins = s.pins := rfl
@[simp] theorem flash_updRing (r : Nat) (f : Ring → Ring) : (s.updRing r f).flash = s.flash := rfl
@[simp] theorem fab_updRing (r : Nat) (f : Ring → Ring) : (s.updRing r f).fab = s.fab := rfl
@[simp] theorem geo_updRing (r : Nat) (f : Ring → Ring) : (s.updRing r f).geo = s.geo := rfl
@[simp] theorem mem_updRing (r : Nat) (f : Ring → Ring) : (s.updRing r f).mem = s.mem := rfl
@[simp] theorem flint_updRing (r : Nat) (f : Ring → Ring) : (s.updRing r f).flint = s.flint := rfl
@[simp] theorem hk_updRing (r : Nat) (f : Ring → Ring) : (s.updRing r f).hk = s.hk := rfl
@[simp] theorem cal_updRing (r : Nat) (f : Ring → Ring) : (s.updRing r f).cal = s.cal := rfl
@[simp] theorem ev_updRing (r : Nat) (f : Ring → Ring) : (s.updRing r f).ev = s.ev := rfl
@[simp] theorem irq_updRing (r : Nat) (f : Ring → Ring) : (s.updRing r f).irq = s.irq := rfl
@[simp] theorem rd_updRing (r : Nat) (f : Ring → Ring) : (s.updRing r f).rd = s.rd := rfl
@[simp] theorem reqs_updRing (r : Nat) (f : Ring → Ring) : (s.updRing r f).reqs = s.reqs := rfl
@[simp] theorem dueq_updRing (r : Nat) (f : Ring → Ring) : (s.updRing r f).dueq = s.dueq := rfl
@[simp] theorem frameOwner_updRing (r : Nat) (f : Ring → Ring) : (s.updRing r f).frameOwner = s.frameOwner := rfl
@[simp] theorem frameShadow_updRing (r : Nat) (f : Ring → Ring) : (s.updRing r f).frameShadow = s.frameShadow := rfl
@[simp] theorem discShadow_updRing (r : Nat) (f : Ring → Ring) : (s.updRing r f).discShadow = s.discShadow := rfl
@[simp] theorem variant_updRing (r : Nat) (f : Ring → Ring) : (s.updRing r f).variant = s.variant := rfl
@[simp] theorem serial_updRing (r : Nat) (f : Ring → Ring) : (s.updRing r f).serial = s.serial := rfl
@[simp] theorem pending_updRing (r : Nat) (f : Ring → Ring) : (s.updRing r f).pending = s.pending := rfl
@[simp] theorem regs_updRing (r : Nat) (f : Ring → Ring) : (s.updRing r f).regs = s.regs := rfl
@[simp] theorem vregs_updRing (r : Nat) (f : Ring → Ring) : (s.updRing r f).vregs = s.vregs := rfl
@[simp] theorem parts_updRing (r : Nat) (f : Ring → Ring) : (s.updRing r f).parts = s.parts := rfl
@[simp] theorem cores_updRing (r : Nat) (f : Ring → Ring) : (s.updRing r f).cores = s.cores := rfl
@[simp] theorem micas_updRing (r : Nat) (f : Ring → Ring) : (s.updRing r f).micas = s.micas := rfl
@[simp] theorem frames_updRing (r : Nat) (f : Ring → Ring) : (s.updRing r f).frames = s.frames := rfl
@[simp] theorem issued_updRing (r : Nat) (f : Ring → Ring) : (s.updRing r f).issued = s.issued := rfl
@[simp] theorem slots_updRing (r : Nat) (f : Ring → Ring) : (s.updRing r f).slots = s.slots := rfl
@[simp] theorem loops_updRing (r : Nat) (f : Ring → Ring) : (s.updRing r f).loops = s.loops := rfl
@[simp] theorem graphs_updRing (r : Nat) (f : Ring → Ring) : (s.updRing r f).graphs = s.graphs := rfl
@[simp] theorem ports_updRing (r : Nat) (f : Ring → Ring) : (s.updRing r f).ports = s.ports := rfl
@[simp] theorem doms_updRing (r : Nat) (f : Ring → Ring) : (s.updRing r f).doms = s.doms := rfl
@[simp] theorem biases_updRing (r : Nat) (f : Ring → Ring) : (s.updRing r f).biases = s.biases := rfl
@[simp] theorem errs_updRing (r : Nat) (f : Ring → Ring) : (s.updRing r f).errs = s.errs := rfl
@[simp] theorem reg_updRing (r : Nat) (f : Ring → Ring) (x : Nat) : (s.updRing r f).reg x = s.reg x := rfl
@[simp] theorem regN_updRing (r : Nat) (f : Ring → Ring) (x : Nat) : (s.updRing r f).regN x = s.regN x := rfl
@[simp] theorem fld_updRing (r : Nat) (f : Ring → Ring) (x y z : Nat) : (s.updRing r f).fld x y z = s.fld x y z := rfl
@[simp] theorem bit_updRing (r : Nat) (f : Ring → Ring) (x y : Nat) : (s.updRing r f).bit x y = s.bit x y := rfl
@[simp] theorem vregN_updRing (r : Nat) (f : Ring → Ring) (x y : Nat) : (s.updRing r f).vregN x y = s.vregN x y := rfl
@[simp] theorem part_updRing (r : Nat) (f : Ring → Ring) (x : Nat) : (s.updRing r f).part x = s.part x := rfl
@[simp] theorem qtz_updRing (r : Nat) (f : Ring → Ring) (x : Nat) : (s.updRing r f).qtz x = s.qtz x := rfl
@[simp] theorem mica_updRing (r : Nat) (f : Ring → Ring) (x : Nat) : (s.updRing r f).mica x = s.mica x := rfl
@[simp] theorem frame_updRing (r : Nat) (f : Ring → Ring) (x : Nat) : (s.updRing r f).frame x = s.frame x := rfl
@[simp] theorem frameIssued_updRing (r : Nat) (f : Ring → Ring) (x : Nat) : (s.updRing r f).frameIssued x = s.frameIssued x := rfl
@[simp] theorem slot_updRing (r : Nat) (f : Ring → Ring) (x : Nat) : (s.updRing r f).slot x = s.slot x := rfl
@[simp] theorem loop_updRing (r : Nat) (f : Ring → Ring) (x : Nat) : (s.updRing r f).loop x = s.loop x := rfl
@[simp] theorem graph_updRing (r : Nat) (f : Ring → Ring) (x : Nat) : (s.updRing r f).graph x = s.graph x := rfl
@[simp] theorem port_updRing (r : Nat) (f : Ring → Ring) (x : Nat) : (s.updRing r f).port x = s.port x := rfl
@[simp] theorem dom_updRing (r : Nat) (f : Ring → Ring) (x : Nat) : (s.updRing r f).dom x = s.dom x := rfl
@[simp] theorem bias_updRing (r : Nat) (f : Ring → Ring) (x : Nat) : (s.updRing r f).bias x = s.bias x := rfl
@[simp] theorem now_updRing (r : Nat) (f : Ring → Ring) : (s.updRing r f).now = s.now := rfl

/-! updPort leaves every field but `ports`. -/

@[simp] theorem before_updPort (q : Nat) (f : Port → Port) : (s.updPort q f).before = s.before := rfl
@[simp] theorem mode_updPort (q : Nat) (f : Port → Port) : (s.updPort q f).mode = s.mode := rfl
@[simp] theorem time_updPort (q : Nat) (f : Port → Port) : (s.updPort q f).time = s.time := rfl
@[simp] theorem boot_updPort (q : Nat) (f : Port → Port) : (s.updPort q f).boot = s.boot := rfl
@[simp] theorem pins_updPort (q : Nat) (f : Port → Port) : (s.updPort q f).pins = s.pins := rfl
@[simp] theorem flash_updPort (q : Nat) (f : Port → Port) : (s.updPort q f).flash = s.flash := rfl
@[simp] theorem fab_updPort (q : Nat) (f : Port → Port) : (s.updPort q f).fab = s.fab := rfl
@[simp] theorem geo_updPort (q : Nat) (f : Port → Port) : (s.updPort q f).geo = s.geo := rfl
@[simp] theorem mem_updPort (q : Nat) (f : Port → Port) : (s.updPort q f).mem = s.mem := rfl
@[simp] theorem flint_updPort (q : Nat) (f : Port → Port) : (s.updPort q f).flint = s.flint := rfl
@[simp] theorem hk_updPort (q : Nat) (f : Port → Port) : (s.updPort q f).hk = s.hk := rfl
@[simp] theorem cal_updPort (q : Nat) (f : Port → Port) : (s.updPort q f).cal = s.cal := rfl
@[simp] theorem ev_updPort (q : Nat) (f : Port → Port) : (s.updPort q f).ev = s.ev := rfl
@[simp] theorem irq_updPort (q : Nat) (f : Port → Port) : (s.updPort q f).irq = s.irq := rfl
@[simp] theorem rd_updPort (q : Nat) (f : Port → Port) : (s.updPort q f).rd = s.rd := rfl
@[simp] theorem reqs_updPort (q : Nat) (f : Port → Port) : (s.updPort q f).reqs = s.reqs := rfl
@[simp] theorem dueq_updPort (q : Nat) (f : Port → Port) : (s.updPort q f).dueq = s.dueq := rfl
@[simp] theorem frameOwner_updPort (q : Nat) (f : Port → Port) : (s.updPort q f).frameOwner = s.frameOwner := rfl
@[simp] theorem frameShadow_updPort (q : Nat) (f : Port → Port) : (s.updPort q f).frameShadow = s.frameShadow := rfl
@[simp] theorem discShadow_updPort (q : Nat) (f : Port → Port) : (s.updPort q f).discShadow = s.discShadow := rfl
@[simp] theorem variant_updPort (q : Nat) (f : Port → Port) : (s.updPort q f).variant = s.variant := rfl
@[simp] theorem serial_updPort (q : Nat) (f : Port → Port) : (s.updPort q f).serial = s.serial := rfl
@[simp] theorem pending_updPort (q : Nat) (f : Port → Port) : (s.updPort q f).pending = s.pending := rfl
@[simp] theorem regs_updPort (q : Nat) (f : Port → Port) : (s.updPort q f).regs = s.regs := rfl
@[simp] theorem vregs_updPort (q : Nat) (f : Port → Port) : (s.updPort q f).vregs = s.vregs := rfl
@[simp] theorem parts_updPort (q : Nat) (f : Port → Port) : (s.updPort q f).parts = s.parts := rfl
@[simp] theorem cores_updPort (q : Nat) (f : Port → Port) : (s.updPort q f).cores = s.cores := rfl
@[simp] theorem micas_updPort (q : Nat) (f : Port → Port) : (s.updPort q f).micas = s.micas := rfl
@[simp] theorem frames_updPort (q : Nat) (f : Port → Port) : (s.updPort q f).frames = s.frames := rfl
@[simp] theorem issued_updPort (q : Nat) (f : Port → Port) : (s.updPort q f).issued = s.issued := rfl
@[simp] theorem slots_updPort (q : Nat) (f : Port → Port) : (s.updPort q f).slots = s.slots := rfl
@[simp] theorem loops_updPort (q : Nat) (f : Port → Port) : (s.updPort q f).loops = s.loops := rfl
@[simp] theorem graphs_updPort (q : Nat) (f : Port → Port) : (s.updPort q f).graphs = s.graphs := rfl
@[simp] theorem rings_updPort (q : Nat) (f : Port → Port) : (s.updPort q f).rings = s.rings := rfl
@[simp] theorem doms_updPort (q : Nat) (f : Port → Port) : (s.updPort q f).doms = s.doms := rfl
@[simp] theorem biases_updPort (q : Nat) (f : Port → Port) : (s.updPort q f).biases = s.biases := rfl
@[simp] theorem errs_updPort (q : Nat) (f : Port → Port) : (s.updPort q f).errs = s.errs := rfl
@[simp] theorem reg_updPort (q : Nat) (f : Port → Port) (x : Nat) : (s.updPort q f).reg x = s.reg x := rfl
@[simp] theorem regN_updPort (q : Nat) (f : Port → Port) (x : Nat) : (s.updPort q f).regN x = s.regN x := rfl
@[simp] theorem fld_updPort (q : Nat) (f : Port → Port) (x y z : Nat) : (s.updPort q f).fld x y z = s.fld x y z := rfl
@[simp] theorem bit_updPort (q : Nat) (f : Port → Port) (x y : Nat) : (s.updPort q f).bit x y = s.bit x y := rfl
@[simp] theorem vregN_updPort (q : Nat) (f : Port → Port) (x y : Nat) : (s.updPort q f).vregN x y = s.vregN x y := rfl
@[simp] theorem part_updPort (q : Nat) (f : Port → Port) (x : Nat) : (s.updPort q f).part x = s.part x := rfl
@[simp] theorem qtz_updPort (q : Nat) (f : Port → Port) (x : Nat) : (s.updPort q f).qtz x = s.qtz x := rfl
@[simp] theorem mica_updPort (q : Nat) (f : Port → Port) (x : Nat) : (s.updPort q f).mica x = s.mica x := rfl
@[simp] theorem frame_updPort (q : Nat) (f : Port → Port) (x : Nat) : (s.updPort q f).frame x = s.frame x := rfl
@[simp] theorem frameIssued_updPort (q : Nat) (f : Port → Port) (x : Nat) : (s.updPort q f).frameIssued x = s.frameIssued x := rfl
@[simp] theorem slot_updPort (q : Nat) (f : Port → Port) (x : Nat) : (s.updPort q f).slot x = s.slot x := rfl
@[simp] theorem loop_updPort (q : Nat) (f : Port → Port) (x : Nat) : (s.updPort q f).loop x = s.loop x := rfl
@[simp] theorem graph_updPort (q : Nat) (f : Port → Port) (x : Nat) : (s.updPort q f).graph x = s.graph x := rfl
@[simp] theorem ring_updPort (q : Nat) (f : Port → Port) (x : Nat) : (s.updPort q f).ring x = s.ring x := rfl
@[simp] theorem dom_updPort (q : Nat) (f : Port → Port) (x : Nat) : (s.updPort q f).dom x = s.dom x := rfl
@[simp] theorem bias_updPort (q : Nat) (f : Port → Port) (x : Nat) : (s.updPort q f).bias x = s.bias x := rfl
@[simp] theorem now_updPort (q : Nat) (f : Port → Port) : (s.updPort q f).now = s.now := rfl

/-! updDom leaves every field but `doms`. -/

@[simp] theorem before_updDom (d : Nat) (f : Dom → Dom) : (s.updDom d f).before = s.before := rfl
@[simp] theorem mode_updDom (d : Nat) (f : Dom → Dom) : (s.updDom d f).mode = s.mode := rfl
@[simp] theorem time_updDom (d : Nat) (f : Dom → Dom) : (s.updDom d f).time = s.time := rfl
@[simp] theorem boot_updDom (d : Nat) (f : Dom → Dom) : (s.updDom d f).boot = s.boot := rfl
@[simp] theorem pins_updDom (d : Nat) (f : Dom → Dom) : (s.updDom d f).pins = s.pins := rfl
@[simp] theorem flash_updDom (d : Nat) (f : Dom → Dom) : (s.updDom d f).flash = s.flash := rfl
@[simp] theorem fab_updDom (d : Nat) (f : Dom → Dom) : (s.updDom d f).fab = s.fab := rfl
@[simp] theorem geo_updDom (d : Nat) (f : Dom → Dom) : (s.updDom d f).geo = s.geo := rfl
@[simp] theorem mem_updDom (d : Nat) (f : Dom → Dom) : (s.updDom d f).mem = s.mem := rfl
@[simp] theorem flint_updDom (d : Nat) (f : Dom → Dom) : (s.updDom d f).flint = s.flint := rfl
@[simp] theorem hk_updDom (d : Nat) (f : Dom → Dom) : (s.updDom d f).hk = s.hk := rfl
@[simp] theorem cal_updDom (d : Nat) (f : Dom → Dom) : (s.updDom d f).cal = s.cal := rfl
@[simp] theorem ev_updDom (d : Nat) (f : Dom → Dom) : (s.updDom d f).ev = s.ev := rfl
@[simp] theorem irq_updDom (d : Nat) (f : Dom → Dom) : (s.updDom d f).irq = s.irq := rfl
@[simp] theorem rd_updDom (d : Nat) (f : Dom → Dom) : (s.updDom d f).rd = s.rd := rfl
@[simp] theorem reqs_updDom (d : Nat) (f : Dom → Dom) : (s.updDom d f).reqs = s.reqs := rfl
@[simp] theorem dueq_updDom (d : Nat) (f : Dom → Dom) : (s.updDom d f).dueq = s.dueq := rfl
@[simp] theorem frameOwner_updDom (d : Nat) (f : Dom → Dom) : (s.updDom d f).frameOwner = s.frameOwner := rfl
@[simp] theorem frameShadow_updDom (d : Nat) (f : Dom → Dom) : (s.updDom d f).frameShadow = s.frameShadow := rfl
@[simp] theorem discShadow_updDom (d : Nat) (f : Dom → Dom) : (s.updDom d f).discShadow = s.discShadow := rfl
@[simp] theorem variant_updDom (d : Nat) (f : Dom → Dom) : (s.updDom d f).variant = s.variant := rfl
@[simp] theorem serial_updDom (d : Nat) (f : Dom → Dom) : (s.updDom d f).serial = s.serial := rfl
@[simp] theorem pending_updDom (d : Nat) (f : Dom → Dom) : (s.updDom d f).pending = s.pending := rfl
@[simp] theorem regs_updDom (d : Nat) (f : Dom → Dom) : (s.updDom d f).regs = s.regs := rfl
@[simp] theorem vregs_updDom (d : Nat) (f : Dom → Dom) : (s.updDom d f).vregs = s.vregs := rfl
@[simp] theorem parts_updDom (d : Nat) (f : Dom → Dom) : (s.updDom d f).parts = s.parts := rfl
@[simp] theorem cores_updDom (d : Nat) (f : Dom → Dom) : (s.updDom d f).cores = s.cores := rfl
@[simp] theorem micas_updDom (d : Nat) (f : Dom → Dom) : (s.updDom d f).micas = s.micas := rfl
@[simp] theorem frames_updDom (d : Nat) (f : Dom → Dom) : (s.updDom d f).frames = s.frames := rfl
@[simp] theorem issued_updDom (d : Nat) (f : Dom → Dom) : (s.updDom d f).issued = s.issued := rfl
@[simp] theorem slots_updDom (d : Nat) (f : Dom → Dom) : (s.updDom d f).slots = s.slots := rfl
@[simp] theorem loops_updDom (d : Nat) (f : Dom → Dom) : (s.updDom d f).loops = s.loops := rfl
@[simp] theorem graphs_updDom (d : Nat) (f : Dom → Dom) : (s.updDom d f).graphs = s.graphs := rfl
@[simp] theorem rings_updDom (d : Nat) (f : Dom → Dom) : (s.updDom d f).rings = s.rings := rfl
@[simp] theorem ports_updDom (d : Nat) (f : Dom → Dom) : (s.updDom d f).ports = s.ports := rfl
@[simp] theorem biases_updDom (d : Nat) (f : Dom → Dom) : (s.updDom d f).biases = s.biases := rfl
@[simp] theorem errs_updDom (d : Nat) (f : Dom → Dom) : (s.updDom d f).errs = s.errs := rfl
@[simp] theorem reg_updDom (d : Nat) (f : Dom → Dom) (x : Nat) : (s.updDom d f).reg x = s.reg x := rfl
@[simp] theorem regN_updDom (d : Nat) (f : Dom → Dom) (x : Nat) : (s.updDom d f).regN x = s.regN x := rfl
@[simp] theorem fld_updDom (d : Nat) (f : Dom → Dom) (x y z : Nat) : (s.updDom d f).fld x y z = s.fld x y z := rfl
@[simp] theorem bit_updDom (d : Nat) (f : Dom → Dom) (x y : Nat) : (s.updDom d f).bit x y = s.bit x y := rfl
@[simp] theorem vregN_updDom (d : Nat) (f : Dom → Dom) (x y : Nat) : (s.updDom d f).vregN x y = s.vregN x y := rfl
@[simp] theorem part_updDom (d : Nat) (f : Dom → Dom) (x : Nat) : (s.updDom d f).part x = s.part x := rfl
@[simp] theorem qtz_updDom (d : Nat) (f : Dom → Dom) (x : Nat) : (s.updDom d f).qtz x = s.qtz x := rfl
@[simp] theorem mica_updDom (d : Nat) (f : Dom → Dom) (x : Nat) : (s.updDom d f).mica x = s.mica x := rfl
@[simp] theorem frame_updDom (d : Nat) (f : Dom → Dom) (x : Nat) : (s.updDom d f).frame x = s.frame x := rfl
@[simp] theorem frameIssued_updDom (d : Nat) (f : Dom → Dom) (x : Nat) : (s.updDom d f).frameIssued x = s.frameIssued x := rfl
@[simp] theorem slot_updDom (d : Nat) (f : Dom → Dom) (x : Nat) : (s.updDom d f).slot x = s.slot x := rfl
@[simp] theorem loop_updDom (d : Nat) (f : Dom → Dom) (x : Nat) : (s.updDom d f).loop x = s.loop x := rfl
@[simp] theorem graph_updDom (d : Nat) (f : Dom → Dom) (x : Nat) : (s.updDom d f).graph x = s.graph x := rfl
@[simp] theorem ring_updDom (d : Nat) (f : Dom → Dom) (x : Nat) : (s.updDom d f).ring x = s.ring x := rfl
@[simp] theorem port_updDom (d : Nat) (f : Dom → Dom) (x : Nat) : (s.updDom d f).port x = s.port x := rfl
@[simp] theorem bias_updDom (d : Nat) (f : Dom → Dom) (x : Nat) : (s.updDom d f).bias x = s.bias x := rfl
@[simp] theorem now_updDom (d : Nat) (f : Dom → Dom) : (s.updDom d f).now = s.now := rfl

/-! updBias leaves every field but `biases`. -/

@[simp] theorem before_updBias (n : Nat) (f : Bias → Bias) : (s.updBias n f).before = s.before := rfl
@[simp] theorem mode_updBias (n : Nat) (f : Bias → Bias) : (s.updBias n f).mode = s.mode := rfl
@[simp] theorem time_updBias (n : Nat) (f : Bias → Bias) : (s.updBias n f).time = s.time := rfl
@[simp] theorem boot_updBias (n : Nat) (f : Bias → Bias) : (s.updBias n f).boot = s.boot := rfl
@[simp] theorem pins_updBias (n : Nat) (f : Bias → Bias) : (s.updBias n f).pins = s.pins := rfl
@[simp] theorem flash_updBias (n : Nat) (f : Bias → Bias) : (s.updBias n f).flash = s.flash := rfl
@[simp] theorem fab_updBias (n : Nat) (f : Bias → Bias) : (s.updBias n f).fab = s.fab := rfl
@[simp] theorem geo_updBias (n : Nat) (f : Bias → Bias) : (s.updBias n f).geo = s.geo := rfl
@[simp] theorem mem_updBias (n : Nat) (f : Bias → Bias) : (s.updBias n f).mem = s.mem := rfl
@[simp] theorem flint_updBias (n : Nat) (f : Bias → Bias) : (s.updBias n f).flint = s.flint := rfl
@[simp] theorem hk_updBias (n : Nat) (f : Bias → Bias) : (s.updBias n f).hk = s.hk := rfl
@[simp] theorem cal_updBias (n : Nat) (f : Bias → Bias) : (s.updBias n f).cal = s.cal := rfl
@[simp] theorem ev_updBias (n : Nat) (f : Bias → Bias) : (s.updBias n f).ev = s.ev := rfl
@[simp] theorem irq_updBias (n : Nat) (f : Bias → Bias) : (s.updBias n f).irq = s.irq := rfl
@[simp] theorem rd_updBias (n : Nat) (f : Bias → Bias) : (s.updBias n f).rd = s.rd := rfl
@[simp] theorem reqs_updBias (n : Nat) (f : Bias → Bias) : (s.updBias n f).reqs = s.reqs := rfl
@[simp] theorem dueq_updBias (n : Nat) (f : Bias → Bias) : (s.updBias n f).dueq = s.dueq := rfl
@[simp] theorem frameOwner_updBias (n : Nat) (f : Bias → Bias) : (s.updBias n f).frameOwner = s.frameOwner := rfl
@[simp] theorem frameShadow_updBias (n : Nat) (f : Bias → Bias) : (s.updBias n f).frameShadow = s.frameShadow := rfl
@[simp] theorem discShadow_updBias (n : Nat) (f : Bias → Bias) : (s.updBias n f).discShadow = s.discShadow := rfl
@[simp] theorem variant_updBias (n : Nat) (f : Bias → Bias) : (s.updBias n f).variant = s.variant := rfl
@[simp] theorem serial_updBias (n : Nat) (f : Bias → Bias) : (s.updBias n f).serial = s.serial := rfl
@[simp] theorem pending_updBias (n : Nat) (f : Bias → Bias) : (s.updBias n f).pending = s.pending := rfl
@[simp] theorem regs_updBias (n : Nat) (f : Bias → Bias) : (s.updBias n f).regs = s.regs := rfl
@[simp] theorem vregs_updBias (n : Nat) (f : Bias → Bias) : (s.updBias n f).vregs = s.vregs := rfl
@[simp] theorem parts_updBias (n : Nat) (f : Bias → Bias) : (s.updBias n f).parts = s.parts := rfl
@[simp] theorem cores_updBias (n : Nat) (f : Bias → Bias) : (s.updBias n f).cores = s.cores := rfl
@[simp] theorem micas_updBias (n : Nat) (f : Bias → Bias) : (s.updBias n f).micas = s.micas := rfl
@[simp] theorem frames_updBias (n : Nat) (f : Bias → Bias) : (s.updBias n f).frames = s.frames := rfl
@[simp] theorem issued_updBias (n : Nat) (f : Bias → Bias) : (s.updBias n f).issued = s.issued := rfl
@[simp] theorem slots_updBias (n : Nat) (f : Bias → Bias) : (s.updBias n f).slots = s.slots := rfl
@[simp] theorem loops_updBias (n : Nat) (f : Bias → Bias) : (s.updBias n f).loops = s.loops := rfl
@[simp] theorem graphs_updBias (n : Nat) (f : Bias → Bias) : (s.updBias n f).graphs = s.graphs := rfl
@[simp] theorem rings_updBias (n : Nat) (f : Bias → Bias) : (s.updBias n f).rings = s.rings := rfl
@[simp] theorem ports_updBias (n : Nat) (f : Bias → Bias) : (s.updBias n f).ports = s.ports := rfl
@[simp] theorem doms_updBias (n : Nat) (f : Bias → Bias) : (s.updBias n f).doms = s.doms := rfl
@[simp] theorem errs_updBias (n : Nat) (f : Bias → Bias) : (s.updBias n f).errs = s.errs := rfl
@[simp] theorem reg_updBias (n : Nat) (f : Bias → Bias) (x : Nat) : (s.updBias n f).reg x = s.reg x := rfl
@[simp] theorem regN_updBias (n : Nat) (f : Bias → Bias) (x : Nat) : (s.updBias n f).regN x = s.regN x := rfl
@[simp] theorem fld_updBias (n : Nat) (f : Bias → Bias) (x y z : Nat) : (s.updBias n f).fld x y z = s.fld x y z := rfl
@[simp] theorem bit_updBias (n : Nat) (f : Bias → Bias) (x y : Nat) : (s.updBias n f).bit x y = s.bit x y := rfl
@[simp] theorem vregN_updBias (n : Nat) (f : Bias → Bias) (x y : Nat) : (s.updBias n f).vregN x y = s.vregN x y := rfl
@[simp] theorem part_updBias (n : Nat) (f : Bias → Bias) (x : Nat) : (s.updBias n f).part x = s.part x := rfl
@[simp] theorem qtz_updBias (n : Nat) (f : Bias → Bias) (x : Nat) : (s.updBias n f).qtz x = s.qtz x := rfl
@[simp] theorem mica_updBias (n : Nat) (f : Bias → Bias) (x : Nat) : (s.updBias n f).mica x = s.mica x := rfl
@[simp] theorem frame_updBias (n : Nat) (f : Bias → Bias) (x : Nat) : (s.updBias n f).frame x = s.frame x := rfl
@[simp] theorem frameIssued_updBias (n : Nat) (f : Bias → Bias) (x : Nat) : (s.updBias n f).frameIssued x = s.frameIssued x := rfl
@[simp] theorem slot_updBias (n : Nat) (f : Bias → Bias) (x : Nat) : (s.updBias n f).slot x = s.slot x := rfl
@[simp] theorem loop_updBias (n : Nat) (f : Bias → Bias) (x : Nat) : (s.updBias n f).loop x = s.loop x := rfl
@[simp] theorem graph_updBias (n : Nat) (f : Bias → Bias) (x : Nat) : (s.updBias n f).graph x = s.graph x := rfl
@[simp] theorem ring_updBias (n : Nat) (f : Bias → Bias) (x : Nat) : (s.updBias n f).ring x = s.ring x := rfl
@[simp] theorem port_updBias (n : Nat) (f : Bias → Bias) (x : Nat) : (s.updBias n f).port x = s.port x := rfl
@[simp] theorem dom_updBias (n : Nat) (f : Bias → Bias) (x : Nat) : (s.updBias n f).dom x = s.dom x := rfl
@[simp] theorem now_updBias (n : Nat) (f : Bias → Bias) : (s.updBias n f).now = s.now := rfl

/-! updFab leaves every field but `fab`. -/

@[simp] theorem before_updFab (f : Fab → Fab) : (s.updFab f).before = s.before := rfl
@[simp] theorem mode_updFab (f : Fab → Fab) : (s.updFab f).mode = s.mode := rfl
@[simp] theorem time_updFab (f : Fab → Fab) : (s.updFab f).time = s.time := rfl
@[simp] theorem boot_updFab (f : Fab → Fab) : (s.updFab f).boot = s.boot := rfl
@[simp] theorem pins_updFab (f : Fab → Fab) : (s.updFab f).pins = s.pins := rfl
@[simp] theorem flash_updFab (f : Fab → Fab) : (s.updFab f).flash = s.flash := rfl
@[simp] theorem geo_updFab (f : Fab → Fab) : (s.updFab f).geo = s.geo := rfl
@[simp] theorem mem_updFab (f : Fab → Fab) : (s.updFab f).mem = s.mem := rfl
@[simp] theorem flint_updFab (f : Fab → Fab) : (s.updFab f).flint = s.flint := rfl
@[simp] theorem hk_updFab (f : Fab → Fab) : (s.updFab f).hk = s.hk := rfl
@[simp] theorem cal_updFab (f : Fab → Fab) : (s.updFab f).cal = s.cal := rfl
@[simp] theorem ev_updFab (f : Fab → Fab) : (s.updFab f).ev = s.ev := rfl
@[simp] theorem irq_updFab (f : Fab → Fab) : (s.updFab f).irq = s.irq := rfl
@[simp] theorem rd_updFab (f : Fab → Fab) : (s.updFab f).rd = s.rd := rfl
@[simp] theorem reqs_updFab (f : Fab → Fab) : (s.updFab f).reqs = s.reqs := rfl
@[simp] theorem dueq_updFab (f : Fab → Fab) : (s.updFab f).dueq = s.dueq := rfl
@[simp] theorem frameOwner_updFab (f : Fab → Fab) : (s.updFab f).frameOwner = s.frameOwner := rfl
@[simp] theorem frameShadow_updFab (f : Fab → Fab) : (s.updFab f).frameShadow = s.frameShadow := rfl
@[simp] theorem discShadow_updFab (f : Fab → Fab) : (s.updFab f).discShadow = s.discShadow := rfl
@[simp] theorem variant_updFab (f : Fab → Fab) : (s.updFab f).variant = s.variant := rfl
@[simp] theorem serial_updFab (f : Fab → Fab) : (s.updFab f).serial = s.serial := rfl
@[simp] theorem pending_updFab (f : Fab → Fab) : (s.updFab f).pending = s.pending := rfl
@[simp] theorem regs_updFab (f : Fab → Fab) : (s.updFab f).regs = s.regs := rfl
@[simp] theorem vregs_updFab (f : Fab → Fab) : (s.updFab f).vregs = s.vregs := rfl
@[simp] theorem parts_updFab (f : Fab → Fab) : (s.updFab f).parts = s.parts := rfl
@[simp] theorem cores_updFab (f : Fab → Fab) : (s.updFab f).cores = s.cores := rfl
@[simp] theorem micas_updFab (f : Fab → Fab) : (s.updFab f).micas = s.micas := rfl
@[simp] theorem frames_updFab (f : Fab → Fab) : (s.updFab f).frames = s.frames := rfl
@[simp] theorem issued_updFab (f : Fab → Fab) : (s.updFab f).issued = s.issued := rfl
@[simp] theorem slots_updFab (f : Fab → Fab) : (s.updFab f).slots = s.slots := rfl
@[simp] theorem loops_updFab (f : Fab → Fab) : (s.updFab f).loops = s.loops := rfl
@[simp] theorem graphs_updFab (f : Fab → Fab) : (s.updFab f).graphs = s.graphs := rfl
@[simp] theorem rings_updFab (f : Fab → Fab) : (s.updFab f).rings = s.rings := rfl
@[simp] theorem ports_updFab (f : Fab → Fab) : (s.updFab f).ports = s.ports := rfl
@[simp] theorem doms_updFab (f : Fab → Fab) : (s.updFab f).doms = s.doms := rfl
@[simp] theorem biases_updFab (f : Fab → Fab) : (s.updFab f).biases = s.biases := rfl
@[simp] theorem errs_updFab (f : Fab → Fab) : (s.updFab f).errs = s.errs := rfl
@[simp] theorem reg_updFab (f : Fab → Fab) (x : Nat) : (s.updFab f).reg x = s.reg x := rfl
@[simp] theorem regN_updFab (f : Fab → Fab) (x : Nat) : (s.updFab f).regN x = s.regN x := rfl
@[simp] theorem fld_updFab (f : Fab → Fab) (x y z : Nat) : (s.updFab f).fld x y z = s.fld x y z := rfl
@[simp] theorem bit_updFab (f : Fab → Fab) (x y : Nat) : (s.updFab f).bit x y = s.bit x y := rfl
@[simp] theorem vregN_updFab (f : Fab → Fab) (x y : Nat) : (s.updFab f).vregN x y = s.vregN x y := rfl
@[simp] theorem part_updFab (f : Fab → Fab) (x : Nat) : (s.updFab f).part x = s.part x := rfl
@[simp] theorem qtz_updFab (f : Fab → Fab) (x : Nat) : (s.updFab f).qtz x = s.qtz x := rfl
@[simp] theorem mica_updFab (f : Fab → Fab) (x : Nat) : (s.updFab f).mica x = s.mica x := rfl
@[simp] theorem frame_updFab (f : Fab → Fab) (x : Nat) : (s.updFab f).frame x = s.frame x := rfl
@[simp] theorem frameIssued_updFab (f : Fab → Fab) (x : Nat) : (s.updFab f).frameIssued x = s.frameIssued x := rfl
@[simp] theorem slot_updFab (f : Fab → Fab) (x : Nat) : (s.updFab f).slot x = s.slot x := rfl
@[simp] theorem loop_updFab (f : Fab → Fab) (x : Nat) : (s.updFab f).loop x = s.loop x := rfl
@[simp] theorem graph_updFab (f : Fab → Fab) (x : Nat) : (s.updFab f).graph x = s.graph x := rfl
@[simp] theorem ring_updFab (f : Fab → Fab) (x : Nat) : (s.updFab f).ring x = s.ring x := rfl
@[simp] theorem port_updFab (f : Fab → Fab) (x : Nat) : (s.updFab f).port x = s.port x := rfl
@[simp] theorem dom_updFab (f : Fab → Fab) (x : Nat) : (s.updFab f).dom x = s.dom x := rfl
@[simp] theorem bias_updFab (f : Fab → Fab) (x : Nat) : (s.updFab f).bias x = s.bias x := rfl
@[simp] theorem now_updFab (f : Fab → Fab) : (s.updFab f).now = s.now := rfl

/-! updErr leaves every field but `errs`. -/

@[simp] theorem before_updErr (k : Nat) (f : HwErr → HwErr) : (s.updErr k f).before = s.before := rfl
@[simp] theorem mode_updErr (k : Nat) (f : HwErr → HwErr) : (s.updErr k f).mode = s.mode := rfl
@[simp] theorem time_updErr (k : Nat) (f : HwErr → HwErr) : (s.updErr k f).time = s.time := rfl
@[simp] theorem boot_updErr (k : Nat) (f : HwErr → HwErr) : (s.updErr k f).boot = s.boot := rfl
@[simp] theorem pins_updErr (k : Nat) (f : HwErr → HwErr) : (s.updErr k f).pins = s.pins := rfl
@[simp] theorem flash_updErr (k : Nat) (f : HwErr → HwErr) : (s.updErr k f).flash = s.flash := rfl
@[simp] theorem fab_updErr (k : Nat) (f : HwErr → HwErr) : (s.updErr k f).fab = s.fab := rfl
@[simp] theorem geo_updErr (k : Nat) (f : HwErr → HwErr) : (s.updErr k f).geo = s.geo := rfl
@[simp] theorem mem_updErr (k : Nat) (f : HwErr → HwErr) : (s.updErr k f).mem = s.mem := rfl
@[simp] theorem flint_updErr (k : Nat) (f : HwErr → HwErr) : (s.updErr k f).flint = s.flint := rfl
@[simp] theorem hk_updErr (k : Nat) (f : HwErr → HwErr) : (s.updErr k f).hk = s.hk := rfl
@[simp] theorem cal_updErr (k : Nat) (f : HwErr → HwErr) : (s.updErr k f).cal = s.cal := rfl
@[simp] theorem ev_updErr (k : Nat) (f : HwErr → HwErr) : (s.updErr k f).ev = s.ev := rfl
@[simp] theorem irq_updErr (k : Nat) (f : HwErr → HwErr) : (s.updErr k f).irq = s.irq := rfl
@[simp] theorem rd_updErr (k : Nat) (f : HwErr → HwErr) : (s.updErr k f).rd = s.rd := rfl
@[simp] theorem reqs_updErr (k : Nat) (f : HwErr → HwErr) : (s.updErr k f).reqs = s.reqs := rfl
@[simp] theorem dueq_updErr (k : Nat) (f : HwErr → HwErr) : (s.updErr k f).dueq = s.dueq := rfl
@[simp] theorem frameOwner_updErr (k : Nat) (f : HwErr → HwErr) : (s.updErr k f).frameOwner = s.frameOwner := rfl
@[simp] theorem frameShadow_updErr (k : Nat) (f : HwErr → HwErr) : (s.updErr k f).frameShadow = s.frameShadow := rfl
@[simp] theorem discShadow_updErr (k : Nat) (f : HwErr → HwErr) : (s.updErr k f).discShadow = s.discShadow := rfl
@[simp] theorem variant_updErr (k : Nat) (f : HwErr → HwErr) : (s.updErr k f).variant = s.variant := rfl
@[simp] theorem serial_updErr (k : Nat) (f : HwErr → HwErr) : (s.updErr k f).serial = s.serial := rfl
@[simp] theorem pending_updErr (k : Nat) (f : HwErr → HwErr) : (s.updErr k f).pending = s.pending := rfl
@[simp] theorem regs_updErr (k : Nat) (f : HwErr → HwErr) : (s.updErr k f).regs = s.regs := rfl
@[simp] theorem vregs_updErr (k : Nat) (f : HwErr → HwErr) : (s.updErr k f).vregs = s.vregs := rfl
@[simp] theorem parts_updErr (k : Nat) (f : HwErr → HwErr) : (s.updErr k f).parts = s.parts := rfl
@[simp] theorem cores_updErr (k : Nat) (f : HwErr → HwErr) : (s.updErr k f).cores = s.cores := rfl
@[simp] theorem micas_updErr (k : Nat) (f : HwErr → HwErr) : (s.updErr k f).micas = s.micas := rfl
@[simp] theorem frames_updErr (k : Nat) (f : HwErr → HwErr) : (s.updErr k f).frames = s.frames := rfl
@[simp] theorem issued_updErr (k : Nat) (f : HwErr → HwErr) : (s.updErr k f).issued = s.issued := rfl
@[simp] theorem slots_updErr (k : Nat) (f : HwErr → HwErr) : (s.updErr k f).slots = s.slots := rfl
@[simp] theorem loops_updErr (k : Nat) (f : HwErr → HwErr) : (s.updErr k f).loops = s.loops := rfl
@[simp] theorem graphs_updErr (k : Nat) (f : HwErr → HwErr) : (s.updErr k f).graphs = s.graphs := rfl
@[simp] theorem rings_updErr (k : Nat) (f : HwErr → HwErr) : (s.updErr k f).rings = s.rings := rfl
@[simp] theorem ports_updErr (k : Nat) (f : HwErr → HwErr) : (s.updErr k f).ports = s.ports := rfl
@[simp] theorem doms_updErr (k : Nat) (f : HwErr → HwErr) : (s.updErr k f).doms = s.doms := rfl
@[simp] theorem biases_updErr (k : Nat) (f : HwErr → HwErr) : (s.updErr k f).biases = s.biases := rfl
@[simp] theorem reg_updErr (k : Nat) (f : HwErr → HwErr) (x : Nat) : (s.updErr k f).reg x = s.reg x := rfl
@[simp] theorem regN_updErr (k : Nat) (f : HwErr → HwErr) (x : Nat) : (s.updErr k f).regN x = s.regN x := rfl
@[simp] theorem fld_updErr (k : Nat) (f : HwErr → HwErr) (x y z : Nat) : (s.updErr k f).fld x y z = s.fld x y z := rfl
@[simp] theorem bit_updErr (k : Nat) (f : HwErr → HwErr) (x y : Nat) : (s.updErr k f).bit x y = s.bit x y := rfl
@[simp] theorem vregN_updErr (k : Nat) (f : HwErr → HwErr) (x y : Nat) : (s.updErr k f).vregN x y = s.vregN x y := rfl
@[simp] theorem part_updErr (k : Nat) (f : HwErr → HwErr) (x : Nat) : (s.updErr k f).part x = s.part x := rfl
@[simp] theorem qtz_updErr (k : Nat) (f : HwErr → HwErr) (x : Nat) : (s.updErr k f).qtz x = s.qtz x := rfl
@[simp] theorem mica_updErr (k : Nat) (f : HwErr → HwErr) (x : Nat) : (s.updErr k f).mica x = s.mica x := rfl
@[simp] theorem frame_updErr (k : Nat) (f : HwErr → HwErr) (x : Nat) : (s.updErr k f).frame x = s.frame x := rfl
@[simp] theorem frameIssued_updErr (k : Nat) (f : HwErr → HwErr) (x : Nat) : (s.updErr k f).frameIssued x = s.frameIssued x := rfl
@[simp] theorem slot_updErr (k : Nat) (f : HwErr → HwErr) (x : Nat) : (s.updErr k f).slot x = s.slot x := rfl
@[simp] theorem loop_updErr (k : Nat) (f : HwErr → HwErr) (x : Nat) : (s.updErr k f).loop x = s.loop x := rfl
@[simp] theorem graph_updErr (k : Nat) (f : HwErr → HwErr) (x : Nat) : (s.updErr k f).graph x = s.graph x := rfl
@[simp] theorem ring_updErr (k : Nat) (f : HwErr → HwErr) (x : Nat) : (s.updErr k f).ring x = s.ring x := rfl
@[simp] theorem port_updErr (k : Nat) (f : HwErr → HwErr) (x : Nat) : (s.updErr k f).port x = s.port x := rfl
@[simp] theorem dom_updErr (k : Nat) (f : HwErr → HwErr) (x : Nat) : (s.updErr k f).dom x = s.dom x := rfl
@[simp] theorem bias_updErr (k : Nat) (f : HwErr → HwErr) (x : Nat) : (s.updErr k f).bias x = s.bias x := rfl
@[simp] theorem now_updErr (k : Nat) (f : HwErr → HwErr) : (s.updErr k f).now = s.now := rfl

/-! updMem leaves every field but `mem`. -/

@[simp] theorem before_updMem (f : Mem → Mem) : (s.updMem f).before = s.before := rfl
@[simp] theorem mode_updMem (f : Mem → Mem) : (s.updMem f).mode = s.mode := rfl
@[simp] theorem time_updMem (f : Mem → Mem) : (s.updMem f).time = s.time := rfl
@[simp] theorem boot_updMem (f : Mem → Mem) : (s.updMem f).boot = s.boot := rfl
@[simp] theorem pins_updMem (f : Mem → Mem) : (s.updMem f).pins = s.pins := rfl
@[simp] theorem flash_updMem (f : Mem → Mem) : (s.updMem f).flash = s.flash := rfl
@[simp] theorem fab_updMem (f : Mem → Mem) : (s.updMem f).fab = s.fab := rfl
@[simp] theorem geo_updMem (f : Mem → Mem) : (s.updMem f).geo = s.geo := rfl
@[simp] theorem flint_updMem (f : Mem → Mem) : (s.updMem f).flint = s.flint := rfl
@[simp] theorem hk_updMem (f : Mem → Mem) : (s.updMem f).hk = s.hk := rfl
@[simp] theorem cal_updMem (f : Mem → Mem) : (s.updMem f).cal = s.cal := rfl
@[simp] theorem ev_updMem (f : Mem → Mem) : (s.updMem f).ev = s.ev := rfl
@[simp] theorem irq_updMem (f : Mem → Mem) : (s.updMem f).irq = s.irq := rfl
@[simp] theorem rd_updMem (f : Mem → Mem) : (s.updMem f).rd = s.rd := rfl
@[simp] theorem reqs_updMem (f : Mem → Mem) : (s.updMem f).reqs = s.reqs := rfl
@[simp] theorem dueq_updMem (f : Mem → Mem) : (s.updMem f).dueq = s.dueq := rfl
@[simp] theorem frameOwner_updMem (f : Mem → Mem) : (s.updMem f).frameOwner = s.frameOwner := rfl
@[simp] theorem frameShadow_updMem (f : Mem → Mem) : (s.updMem f).frameShadow = s.frameShadow := rfl
@[simp] theorem discShadow_updMem (f : Mem → Mem) : (s.updMem f).discShadow = s.discShadow := rfl
@[simp] theorem variant_updMem (f : Mem → Mem) : (s.updMem f).variant = s.variant := rfl
@[simp] theorem serial_updMem (f : Mem → Mem) : (s.updMem f).serial = s.serial := rfl
@[simp] theorem pending_updMem (f : Mem → Mem) : (s.updMem f).pending = s.pending := rfl
@[simp] theorem regs_updMem (f : Mem → Mem) : (s.updMem f).regs = s.regs := rfl
@[simp] theorem vregs_updMem (f : Mem → Mem) : (s.updMem f).vregs = s.vregs := rfl
@[simp] theorem parts_updMem (f : Mem → Mem) : (s.updMem f).parts = s.parts := rfl
@[simp] theorem cores_updMem (f : Mem → Mem) : (s.updMem f).cores = s.cores := rfl
@[simp] theorem micas_updMem (f : Mem → Mem) : (s.updMem f).micas = s.micas := rfl
@[simp] theorem frames_updMem (f : Mem → Mem) : (s.updMem f).frames = s.frames := rfl
@[simp] theorem issued_updMem (f : Mem → Mem) : (s.updMem f).issued = s.issued := rfl
@[simp] theorem slots_updMem (f : Mem → Mem) : (s.updMem f).slots = s.slots := rfl
@[simp] theorem loops_updMem (f : Mem → Mem) : (s.updMem f).loops = s.loops := rfl
@[simp] theorem graphs_updMem (f : Mem → Mem) : (s.updMem f).graphs = s.graphs := rfl
@[simp] theorem rings_updMem (f : Mem → Mem) : (s.updMem f).rings = s.rings := rfl
@[simp] theorem ports_updMem (f : Mem → Mem) : (s.updMem f).ports = s.ports := rfl
@[simp] theorem doms_updMem (f : Mem → Mem) : (s.updMem f).doms = s.doms := rfl
@[simp] theorem biases_updMem (f : Mem → Mem) : (s.updMem f).biases = s.biases := rfl
@[simp] theorem errs_updMem (f : Mem → Mem) : (s.updMem f).errs = s.errs := rfl
@[simp] theorem reg_updMem (f : Mem → Mem) (x : Nat) : (s.updMem f).reg x = s.reg x := rfl
@[simp] theorem regN_updMem (f : Mem → Mem) (x : Nat) : (s.updMem f).regN x = s.regN x := rfl
@[simp] theorem fld_updMem (f : Mem → Mem) (x y z : Nat) : (s.updMem f).fld x y z = s.fld x y z := rfl
@[simp] theorem bit_updMem (f : Mem → Mem) (x y : Nat) : (s.updMem f).bit x y = s.bit x y := rfl
@[simp] theorem vregN_updMem (f : Mem → Mem) (x y : Nat) : (s.updMem f).vregN x y = s.vregN x y := rfl
@[simp] theorem part_updMem (f : Mem → Mem) (x : Nat) : (s.updMem f).part x = s.part x := rfl
@[simp] theorem qtz_updMem (f : Mem → Mem) (x : Nat) : (s.updMem f).qtz x = s.qtz x := rfl
@[simp] theorem mica_updMem (f : Mem → Mem) (x : Nat) : (s.updMem f).mica x = s.mica x := rfl
@[simp] theorem frame_updMem (f : Mem → Mem) (x : Nat) : (s.updMem f).frame x = s.frame x := rfl
@[simp] theorem frameIssued_updMem (f : Mem → Mem) (x : Nat) : (s.updMem f).frameIssued x = s.frameIssued x := rfl
@[simp] theorem slot_updMem (f : Mem → Mem) (x : Nat) : (s.updMem f).slot x = s.slot x := rfl
@[simp] theorem loop_updMem (f : Mem → Mem) (x : Nat) : (s.updMem f).loop x = s.loop x := rfl
@[simp] theorem graph_updMem (f : Mem → Mem) (x : Nat) : (s.updMem f).graph x = s.graph x := rfl
@[simp] theorem ring_updMem (f : Mem → Mem) (x : Nat) : (s.updMem f).ring x = s.ring x := rfl
@[simp] theorem port_updMem (f : Mem → Mem) (x : Nat) : (s.updMem f).port x = s.port x := rfl
@[simp] theorem dom_updMem (f : Mem → Mem) (x : Nat) : (s.updMem f).dom x = s.dom x := rfl
@[simp] theorem bias_updMem (f : Mem → Mem) (x : Nat) : (s.updMem f).bias x = s.bias x := rfl
@[simp] theorem now_updMem (f : Mem → Mem) : (s.updMem f).now = s.now := rfl

/-! updTime leaves every field but `time`. -/

@[simp] theorem before_updTime (f : Time → Time) : (s.updTime f).before = s.before := rfl
@[simp] theorem mode_updTime (f : Time → Time) : (s.updTime f).mode = s.mode := rfl
@[simp] theorem boot_updTime (f : Time → Time) : (s.updTime f).boot = s.boot := rfl
@[simp] theorem pins_updTime (f : Time → Time) : (s.updTime f).pins = s.pins := rfl
@[simp] theorem flash_updTime (f : Time → Time) : (s.updTime f).flash = s.flash := rfl
@[simp] theorem fab_updTime (f : Time → Time) : (s.updTime f).fab = s.fab := rfl
@[simp] theorem geo_updTime (f : Time → Time) : (s.updTime f).geo = s.geo := rfl
@[simp] theorem mem_updTime (f : Time → Time) : (s.updTime f).mem = s.mem := rfl
@[simp] theorem flint_updTime (f : Time → Time) : (s.updTime f).flint = s.flint := rfl
@[simp] theorem hk_updTime (f : Time → Time) : (s.updTime f).hk = s.hk := rfl
@[simp] theorem cal_updTime (f : Time → Time) : (s.updTime f).cal = s.cal := rfl
@[simp] theorem ev_updTime (f : Time → Time) : (s.updTime f).ev = s.ev := rfl
@[simp] theorem irq_updTime (f : Time → Time) : (s.updTime f).irq = s.irq := rfl
@[simp] theorem rd_updTime (f : Time → Time) : (s.updTime f).rd = s.rd := rfl
@[simp] theorem reqs_updTime (f : Time → Time) : (s.updTime f).reqs = s.reqs := rfl
@[simp] theorem dueq_updTime (f : Time → Time) : (s.updTime f).dueq = s.dueq := rfl
@[simp] theorem frameOwner_updTime (f : Time → Time) : (s.updTime f).frameOwner = s.frameOwner := rfl
@[simp] theorem frameShadow_updTime (f : Time → Time) : (s.updTime f).frameShadow = s.frameShadow := rfl
@[simp] theorem discShadow_updTime (f : Time → Time) : (s.updTime f).discShadow = s.discShadow := rfl
@[simp] theorem variant_updTime (f : Time → Time) : (s.updTime f).variant = s.variant := rfl
@[simp] theorem serial_updTime (f : Time → Time) : (s.updTime f).serial = s.serial := rfl
@[simp] theorem pending_updTime (f : Time → Time) : (s.updTime f).pending = s.pending := rfl
@[simp] theorem regs_updTime (f : Time → Time) : (s.updTime f).regs = s.regs := rfl
@[simp] theorem vregs_updTime (f : Time → Time) : (s.updTime f).vregs = s.vregs := rfl
@[simp] theorem parts_updTime (f : Time → Time) : (s.updTime f).parts = s.parts := rfl
@[simp] theorem cores_updTime (f : Time → Time) : (s.updTime f).cores = s.cores := rfl
@[simp] theorem micas_updTime (f : Time → Time) : (s.updTime f).micas = s.micas := rfl
@[simp] theorem frames_updTime (f : Time → Time) : (s.updTime f).frames = s.frames := rfl
@[simp] theorem issued_updTime (f : Time → Time) : (s.updTime f).issued = s.issued := rfl
@[simp] theorem slots_updTime (f : Time → Time) : (s.updTime f).slots = s.slots := rfl
@[simp] theorem loops_updTime (f : Time → Time) : (s.updTime f).loops = s.loops := rfl
@[simp] theorem graphs_updTime (f : Time → Time) : (s.updTime f).graphs = s.graphs := rfl
@[simp] theorem rings_updTime (f : Time → Time) : (s.updTime f).rings = s.rings := rfl
@[simp] theorem ports_updTime (f : Time → Time) : (s.updTime f).ports = s.ports := rfl
@[simp] theorem doms_updTime (f : Time → Time) : (s.updTime f).doms = s.doms := rfl
@[simp] theorem biases_updTime (f : Time → Time) : (s.updTime f).biases = s.biases := rfl
@[simp] theorem errs_updTime (f : Time → Time) : (s.updTime f).errs = s.errs := rfl
@[simp] theorem reg_updTime (f : Time → Time) (x : Nat) : (s.updTime f).reg x = s.reg x := rfl
@[simp] theorem regN_updTime (f : Time → Time) (x : Nat) : (s.updTime f).regN x = s.regN x := rfl
@[simp] theorem fld_updTime (f : Time → Time) (x y z : Nat) : (s.updTime f).fld x y z = s.fld x y z := rfl
@[simp] theorem bit_updTime (f : Time → Time) (x y : Nat) : (s.updTime f).bit x y = s.bit x y := rfl
@[simp] theorem vregN_updTime (f : Time → Time) (x y : Nat) : (s.updTime f).vregN x y = s.vregN x y := rfl
@[simp] theorem part_updTime (f : Time → Time) (x : Nat) : (s.updTime f).part x = s.part x := rfl
@[simp] theorem qtz_updTime (f : Time → Time) (x : Nat) : (s.updTime f).qtz x = s.qtz x := rfl
@[simp] theorem mica_updTime (f : Time → Time) (x : Nat) : (s.updTime f).mica x = s.mica x := rfl
@[simp] theorem frame_updTime (f : Time → Time) (x : Nat) : (s.updTime f).frame x = s.frame x := rfl
@[simp] theorem frameIssued_updTime (f : Time → Time) (x : Nat) : (s.updTime f).frameIssued x = s.frameIssued x := rfl
@[simp] theorem slot_updTime (f : Time → Time) (x : Nat) : (s.updTime f).slot x = s.slot x := rfl
@[simp] theorem loop_updTime (f : Time → Time) (x : Nat) : (s.updTime f).loop x = s.loop x := rfl
@[simp] theorem graph_updTime (f : Time → Time) (x : Nat) : (s.updTime f).graph x = s.graph x := rfl
@[simp] theorem ring_updTime (f : Time → Time) (x : Nat) : (s.updTime f).ring x = s.ring x := rfl
@[simp] theorem port_updTime (f : Time → Time) (x : Nat) : (s.updTime f).port x = s.port x := rfl
@[simp] theorem dom_updTime (f : Time → Time) (x : Nat) : (s.updTime f).dom x = s.dom x := rfl
@[simp] theorem bias_updTime (f : Time → Time) (x : Nat) : (s.updTime f).bias x = s.bias x := rfl

/-! updBoot leaves every field but `boot`. -/

@[simp] theorem before_updBoot (f : Boot → Boot) : (s.updBoot f).before = s.before := rfl
@[simp] theorem mode_updBoot (f : Boot → Boot) : (s.updBoot f).mode = s.mode := rfl
@[simp] theorem time_updBoot (f : Boot → Boot) : (s.updBoot f).time = s.time := rfl
@[simp] theorem pins_updBoot (f : Boot → Boot) : (s.updBoot f).pins = s.pins := rfl
@[simp] theorem flash_updBoot (f : Boot → Boot) : (s.updBoot f).flash = s.flash := rfl
@[simp] theorem fab_updBoot (f : Boot → Boot) : (s.updBoot f).fab = s.fab := rfl
@[simp] theorem geo_updBoot (f : Boot → Boot) : (s.updBoot f).geo = s.geo := rfl
@[simp] theorem mem_updBoot (f : Boot → Boot) : (s.updBoot f).mem = s.mem := rfl
@[simp] theorem flint_updBoot (f : Boot → Boot) : (s.updBoot f).flint = s.flint := rfl
@[simp] theorem hk_updBoot (f : Boot → Boot) : (s.updBoot f).hk = s.hk := rfl
@[simp] theorem cal_updBoot (f : Boot → Boot) : (s.updBoot f).cal = s.cal := rfl
@[simp] theorem ev_updBoot (f : Boot → Boot) : (s.updBoot f).ev = s.ev := rfl
@[simp] theorem irq_updBoot (f : Boot → Boot) : (s.updBoot f).irq = s.irq := rfl
@[simp] theorem rd_updBoot (f : Boot → Boot) : (s.updBoot f).rd = s.rd := rfl
@[simp] theorem reqs_updBoot (f : Boot → Boot) : (s.updBoot f).reqs = s.reqs := rfl
@[simp] theorem dueq_updBoot (f : Boot → Boot) : (s.updBoot f).dueq = s.dueq := rfl
@[simp] theorem frameOwner_updBoot (f : Boot → Boot) : (s.updBoot f).frameOwner = s.frameOwner := rfl
@[simp] theorem frameShadow_updBoot (f : Boot → Boot) : (s.updBoot f).frameShadow = s.frameShadow := rfl
@[simp] theorem discShadow_updBoot (f : Boot → Boot) : (s.updBoot f).discShadow = s.discShadow := rfl
@[simp] theorem variant_updBoot (f : Boot → Boot) : (s.updBoot f).variant = s.variant := rfl
@[simp] theorem serial_updBoot (f : Boot → Boot) : (s.updBoot f).serial = s.serial := rfl
@[simp] theorem pending_updBoot (f : Boot → Boot) : (s.updBoot f).pending = s.pending := rfl
@[simp] theorem regs_updBoot (f : Boot → Boot) : (s.updBoot f).regs = s.regs := rfl
@[simp] theorem vregs_updBoot (f : Boot → Boot) : (s.updBoot f).vregs = s.vregs := rfl
@[simp] theorem parts_updBoot (f : Boot → Boot) : (s.updBoot f).parts = s.parts := rfl
@[simp] theorem cores_updBoot (f : Boot → Boot) : (s.updBoot f).cores = s.cores := rfl
@[simp] theorem micas_updBoot (f : Boot → Boot) : (s.updBoot f).micas = s.micas := rfl
@[simp] theorem frames_updBoot (f : Boot → Boot) : (s.updBoot f).frames = s.frames := rfl
@[simp] theorem issued_updBoot (f : Boot → Boot) : (s.updBoot f).issued = s.issued := rfl
@[simp] theorem slots_updBoot (f : Boot → Boot) : (s.updBoot f).slots = s.slots := rfl
@[simp] theorem loops_updBoot (f : Boot → Boot) : (s.updBoot f).loops = s.loops := rfl
@[simp] theorem graphs_updBoot (f : Boot → Boot) : (s.updBoot f).graphs = s.graphs := rfl
@[simp] theorem rings_updBoot (f : Boot → Boot) : (s.updBoot f).rings = s.rings := rfl
@[simp] theorem ports_updBoot (f : Boot → Boot) : (s.updBoot f).ports = s.ports := rfl
@[simp] theorem doms_updBoot (f : Boot → Boot) : (s.updBoot f).doms = s.doms := rfl
@[simp] theorem biases_updBoot (f : Boot → Boot) : (s.updBoot f).biases = s.biases := rfl
@[simp] theorem errs_updBoot (f : Boot → Boot) : (s.updBoot f).errs = s.errs := rfl
@[simp] theorem reg_updBoot (f : Boot → Boot) (x : Nat) : (s.updBoot f).reg x = s.reg x := rfl
@[simp] theorem regN_updBoot (f : Boot → Boot) (x : Nat) : (s.updBoot f).regN x = s.regN x := rfl
@[simp] theorem fld_updBoot (f : Boot → Boot) (x y z : Nat) : (s.updBoot f).fld x y z = s.fld x y z := rfl
@[simp] theorem bit_updBoot (f : Boot → Boot) (x y : Nat) : (s.updBoot f).bit x y = s.bit x y := rfl
@[simp] theorem vregN_updBoot (f : Boot → Boot) (x y : Nat) : (s.updBoot f).vregN x y = s.vregN x y := rfl
@[simp] theorem part_updBoot (f : Boot → Boot) (x : Nat) : (s.updBoot f).part x = s.part x := rfl
@[simp] theorem qtz_updBoot (f : Boot → Boot) (x : Nat) : (s.updBoot f).qtz x = s.qtz x := rfl
@[simp] theorem mica_updBoot (f : Boot → Boot) (x : Nat) : (s.updBoot f).mica x = s.mica x := rfl
@[simp] theorem frame_updBoot (f : Boot → Boot) (x : Nat) : (s.updBoot f).frame x = s.frame x := rfl
@[simp] theorem frameIssued_updBoot (f : Boot → Boot) (x : Nat) : (s.updBoot f).frameIssued x = s.frameIssued x := rfl
@[simp] theorem slot_updBoot (f : Boot → Boot) (x : Nat) : (s.updBoot f).slot x = s.slot x := rfl
@[simp] theorem loop_updBoot (f : Boot → Boot) (x : Nat) : (s.updBoot f).loop x = s.loop x := rfl
@[simp] theorem graph_updBoot (f : Boot → Boot) (x : Nat) : (s.updBoot f).graph x = s.graph x := rfl
@[simp] theorem ring_updBoot (f : Boot → Boot) (x : Nat) : (s.updBoot f).ring x = s.ring x := rfl
@[simp] theorem port_updBoot (f : Boot → Boot) (x : Nat) : (s.updBoot f).port x = s.port x := rfl
@[simp] theorem dom_updBoot (f : Boot → Boot) (x : Nat) : (s.updBoot f).dom x = s.dom x := rfl
@[simp] theorem bias_updBoot (f : Boot → Boot) (x : Nat) : (s.updBoot f).bias x = s.bias x := rfl
@[simp] theorem now_updBoot (f : Boot → Boot) : (s.updBoot f).now = s.now := rfl

/-! updPins leaves every field but `pins`. -/

@[simp] theorem before_updPins (f : Pins → Pins) : (s.updPins f).before = s.before := rfl
@[simp] theorem mode_updPins (f : Pins → Pins) : (s.updPins f).mode = s.mode := rfl
@[simp] theorem time_updPins (f : Pins → Pins) : (s.updPins f).time = s.time := rfl
@[simp] theorem boot_updPins (f : Pins → Pins) : (s.updPins f).boot = s.boot := rfl
@[simp] theorem flash_updPins (f : Pins → Pins) : (s.updPins f).flash = s.flash := rfl
@[simp] theorem fab_updPins (f : Pins → Pins) : (s.updPins f).fab = s.fab := rfl
@[simp] theorem geo_updPins (f : Pins → Pins) : (s.updPins f).geo = s.geo := rfl
@[simp] theorem mem_updPins (f : Pins → Pins) : (s.updPins f).mem = s.mem := rfl
@[simp] theorem flint_updPins (f : Pins → Pins) : (s.updPins f).flint = s.flint := rfl
@[simp] theorem hk_updPins (f : Pins → Pins) : (s.updPins f).hk = s.hk := rfl
@[simp] theorem cal_updPins (f : Pins → Pins) : (s.updPins f).cal = s.cal := rfl
@[simp] theorem ev_updPins (f : Pins → Pins) : (s.updPins f).ev = s.ev := rfl
@[simp] theorem irq_updPins (f : Pins → Pins) : (s.updPins f).irq = s.irq := rfl
@[simp] theorem rd_updPins (f : Pins → Pins) : (s.updPins f).rd = s.rd := rfl
@[simp] theorem reqs_updPins (f : Pins → Pins) : (s.updPins f).reqs = s.reqs := rfl
@[simp] theorem dueq_updPins (f : Pins → Pins) : (s.updPins f).dueq = s.dueq := rfl
@[simp] theorem frameOwner_updPins (f : Pins → Pins) : (s.updPins f).frameOwner = s.frameOwner := rfl
@[simp] theorem frameShadow_updPins (f : Pins → Pins) : (s.updPins f).frameShadow = s.frameShadow := rfl
@[simp] theorem discShadow_updPins (f : Pins → Pins) : (s.updPins f).discShadow = s.discShadow := rfl
@[simp] theorem variant_updPins (f : Pins → Pins) : (s.updPins f).variant = s.variant := rfl
@[simp] theorem serial_updPins (f : Pins → Pins) : (s.updPins f).serial = s.serial := rfl
@[simp] theorem pending_updPins (f : Pins → Pins) : (s.updPins f).pending = s.pending := rfl
@[simp] theorem regs_updPins (f : Pins → Pins) : (s.updPins f).regs = s.regs := rfl
@[simp] theorem vregs_updPins (f : Pins → Pins) : (s.updPins f).vregs = s.vregs := rfl
@[simp] theorem parts_updPins (f : Pins → Pins) : (s.updPins f).parts = s.parts := rfl
@[simp] theorem cores_updPins (f : Pins → Pins) : (s.updPins f).cores = s.cores := rfl
@[simp] theorem micas_updPins (f : Pins → Pins) : (s.updPins f).micas = s.micas := rfl
@[simp] theorem frames_updPins (f : Pins → Pins) : (s.updPins f).frames = s.frames := rfl
@[simp] theorem issued_updPins (f : Pins → Pins) : (s.updPins f).issued = s.issued := rfl
@[simp] theorem slots_updPins (f : Pins → Pins) : (s.updPins f).slots = s.slots := rfl
@[simp] theorem loops_updPins (f : Pins → Pins) : (s.updPins f).loops = s.loops := rfl
@[simp] theorem graphs_updPins (f : Pins → Pins) : (s.updPins f).graphs = s.graphs := rfl
@[simp] theorem rings_updPins (f : Pins → Pins) : (s.updPins f).rings = s.rings := rfl
@[simp] theorem ports_updPins (f : Pins → Pins) : (s.updPins f).ports = s.ports := rfl
@[simp] theorem doms_updPins (f : Pins → Pins) : (s.updPins f).doms = s.doms := rfl
@[simp] theorem biases_updPins (f : Pins → Pins) : (s.updPins f).biases = s.biases := rfl
@[simp] theorem errs_updPins (f : Pins → Pins) : (s.updPins f).errs = s.errs := rfl
@[simp] theorem reg_updPins (f : Pins → Pins) (x : Nat) : (s.updPins f).reg x = s.reg x := rfl
@[simp] theorem regN_updPins (f : Pins → Pins) (x : Nat) : (s.updPins f).regN x = s.regN x := rfl
@[simp] theorem fld_updPins (f : Pins → Pins) (x y z : Nat) : (s.updPins f).fld x y z = s.fld x y z := rfl
@[simp] theorem bit_updPins (f : Pins → Pins) (x y : Nat) : (s.updPins f).bit x y = s.bit x y := rfl
@[simp] theorem vregN_updPins (f : Pins → Pins) (x y : Nat) : (s.updPins f).vregN x y = s.vregN x y := rfl
@[simp] theorem part_updPins (f : Pins → Pins) (x : Nat) : (s.updPins f).part x = s.part x := rfl
@[simp] theorem qtz_updPins (f : Pins → Pins) (x : Nat) : (s.updPins f).qtz x = s.qtz x := rfl
@[simp] theorem mica_updPins (f : Pins → Pins) (x : Nat) : (s.updPins f).mica x = s.mica x := rfl
@[simp] theorem frame_updPins (f : Pins → Pins) (x : Nat) : (s.updPins f).frame x = s.frame x := rfl
@[simp] theorem frameIssued_updPins (f : Pins → Pins) (x : Nat) : (s.updPins f).frameIssued x = s.frameIssued x := rfl
@[simp] theorem slot_updPins (f : Pins → Pins) (x : Nat) : (s.updPins f).slot x = s.slot x := rfl
@[simp] theorem loop_updPins (f : Pins → Pins) (x : Nat) : (s.updPins f).loop x = s.loop x := rfl
@[simp] theorem graph_updPins (f : Pins → Pins) (x : Nat) : (s.updPins f).graph x = s.graph x := rfl
@[simp] theorem ring_updPins (f : Pins → Pins) (x : Nat) : (s.updPins f).ring x = s.ring x := rfl
@[simp] theorem port_updPins (f : Pins → Pins) (x : Nat) : (s.updPins f).port x = s.port x := rfl
@[simp] theorem dom_updPins (f : Pins → Pins) (x : Nat) : (s.updPins f).dom x = s.dom x := rfl
@[simp] theorem bias_updPins (f : Pins → Pins) (x : Nat) : (s.updPins f).bias x = s.bias x := rfl
@[simp] theorem now_updPins (f : Pins → Pins) : (s.updPins f).now = s.now := rfl

/-! updGeo leaves every field but `geo`. -/

@[simp] theorem before_updGeo (f : Geo → Geo) : (s.updGeo f).before = s.before := rfl
@[simp] theorem mode_updGeo (f : Geo → Geo) : (s.updGeo f).mode = s.mode := rfl
@[simp] theorem time_updGeo (f : Geo → Geo) : (s.updGeo f).time = s.time := rfl
@[simp] theorem boot_updGeo (f : Geo → Geo) : (s.updGeo f).boot = s.boot := rfl
@[simp] theorem pins_updGeo (f : Geo → Geo) : (s.updGeo f).pins = s.pins := rfl
@[simp] theorem flash_updGeo (f : Geo → Geo) : (s.updGeo f).flash = s.flash := rfl
@[simp] theorem fab_updGeo (f : Geo → Geo) : (s.updGeo f).fab = s.fab := rfl
@[simp] theorem mem_updGeo (f : Geo → Geo) : (s.updGeo f).mem = s.mem := rfl
@[simp] theorem flint_updGeo (f : Geo → Geo) : (s.updGeo f).flint = s.flint := rfl
@[simp] theorem hk_updGeo (f : Geo → Geo) : (s.updGeo f).hk = s.hk := rfl
@[simp] theorem cal_updGeo (f : Geo → Geo) : (s.updGeo f).cal = s.cal := rfl
@[simp] theorem ev_updGeo (f : Geo → Geo) : (s.updGeo f).ev = s.ev := rfl
@[simp] theorem irq_updGeo (f : Geo → Geo) : (s.updGeo f).irq = s.irq := rfl
@[simp] theorem rd_updGeo (f : Geo → Geo) : (s.updGeo f).rd = s.rd := rfl
@[simp] theorem reqs_updGeo (f : Geo → Geo) : (s.updGeo f).reqs = s.reqs := rfl
@[simp] theorem dueq_updGeo (f : Geo → Geo) : (s.updGeo f).dueq = s.dueq := rfl
@[simp] theorem frameOwner_updGeo (f : Geo → Geo) : (s.updGeo f).frameOwner = s.frameOwner := rfl
@[simp] theorem frameShadow_updGeo (f : Geo → Geo) : (s.updGeo f).frameShadow = s.frameShadow := rfl
@[simp] theorem discShadow_updGeo (f : Geo → Geo) : (s.updGeo f).discShadow = s.discShadow := rfl
@[simp] theorem variant_updGeo (f : Geo → Geo) : (s.updGeo f).variant = s.variant := rfl
@[simp] theorem serial_updGeo (f : Geo → Geo) : (s.updGeo f).serial = s.serial := rfl
@[simp] theorem pending_updGeo (f : Geo → Geo) : (s.updGeo f).pending = s.pending := rfl
@[simp] theorem regs_updGeo (f : Geo → Geo) : (s.updGeo f).regs = s.regs := rfl
@[simp] theorem vregs_updGeo (f : Geo → Geo) : (s.updGeo f).vregs = s.vregs := rfl
@[simp] theorem parts_updGeo (f : Geo → Geo) : (s.updGeo f).parts = s.parts := rfl
@[simp] theorem cores_updGeo (f : Geo → Geo) : (s.updGeo f).cores = s.cores := rfl
@[simp] theorem micas_updGeo (f : Geo → Geo) : (s.updGeo f).micas = s.micas := rfl
@[simp] theorem frames_updGeo (f : Geo → Geo) : (s.updGeo f).frames = s.frames := rfl
@[simp] theorem issued_updGeo (f : Geo → Geo) : (s.updGeo f).issued = s.issued := rfl
@[simp] theorem slots_updGeo (f : Geo → Geo) : (s.updGeo f).slots = s.slots := rfl
@[simp] theorem loops_updGeo (f : Geo → Geo) : (s.updGeo f).loops = s.loops := rfl
@[simp] theorem graphs_updGeo (f : Geo → Geo) : (s.updGeo f).graphs = s.graphs := rfl
@[simp] theorem rings_updGeo (f : Geo → Geo) : (s.updGeo f).rings = s.rings := rfl
@[simp] theorem ports_updGeo (f : Geo → Geo) : (s.updGeo f).ports = s.ports := rfl
@[simp] theorem doms_updGeo (f : Geo → Geo) : (s.updGeo f).doms = s.doms := rfl
@[simp] theorem biases_updGeo (f : Geo → Geo) : (s.updGeo f).biases = s.biases := rfl
@[simp] theorem errs_updGeo (f : Geo → Geo) : (s.updGeo f).errs = s.errs := rfl
@[simp] theorem reg_updGeo (f : Geo → Geo) (x : Nat) : (s.updGeo f).reg x = s.reg x := rfl
@[simp] theorem regN_updGeo (f : Geo → Geo) (x : Nat) : (s.updGeo f).regN x = s.regN x := rfl
@[simp] theorem fld_updGeo (f : Geo → Geo) (x y z : Nat) : (s.updGeo f).fld x y z = s.fld x y z := rfl
@[simp] theorem bit_updGeo (f : Geo → Geo) (x y : Nat) : (s.updGeo f).bit x y = s.bit x y := rfl
@[simp] theorem vregN_updGeo (f : Geo → Geo) (x y : Nat) : (s.updGeo f).vregN x y = s.vregN x y := rfl
@[simp] theorem part_updGeo (f : Geo → Geo) (x : Nat) : (s.updGeo f).part x = s.part x := rfl
@[simp] theorem qtz_updGeo (f : Geo → Geo) (x : Nat) : (s.updGeo f).qtz x = s.qtz x := rfl
@[simp] theorem mica_updGeo (f : Geo → Geo) (x : Nat) : (s.updGeo f).mica x = s.mica x := rfl
@[simp] theorem frame_updGeo (f : Geo → Geo) (x : Nat) : (s.updGeo f).frame x = s.frame x := rfl
@[simp] theorem frameIssued_updGeo (f : Geo → Geo) (x : Nat) : (s.updGeo f).frameIssued x = s.frameIssued x := rfl
@[simp] theorem slot_updGeo (f : Geo → Geo) (x : Nat) : (s.updGeo f).slot x = s.slot x := rfl
@[simp] theorem loop_updGeo (f : Geo → Geo) (x : Nat) : (s.updGeo f).loop x = s.loop x := rfl
@[simp] theorem graph_updGeo (f : Geo → Geo) (x : Nat) : (s.updGeo f).graph x = s.graph x := rfl
@[simp] theorem ring_updGeo (f : Geo → Geo) (x : Nat) : (s.updGeo f).ring x = s.ring x := rfl
@[simp] theorem port_updGeo (f : Geo → Geo) (x : Nat) : (s.updGeo f).port x = s.port x := rfl
@[simp] theorem dom_updGeo (f : Geo → Geo) (x : Nat) : (s.updGeo f).dom x = s.dom x := rfl
@[simp] theorem bias_updGeo (f : Geo → Geo) (x : Nat) : (s.updGeo f).bias x = s.bias x := rfl
@[simp] theorem now_updGeo (f : Geo → Geo) : (s.updGeo f).now = s.now := rfl

/-! updCal leaves every field but `cal`. -/

@[simp] theorem before_updCal (f : Cal → Cal) : (s.updCal f).before = s.before := rfl
@[simp] theorem mode_updCal (f : Cal → Cal) : (s.updCal f).mode = s.mode := rfl
@[simp] theorem time_updCal (f : Cal → Cal) : (s.updCal f).time = s.time := rfl
@[simp] theorem boot_updCal (f : Cal → Cal) : (s.updCal f).boot = s.boot := rfl
@[simp] theorem pins_updCal (f : Cal → Cal) : (s.updCal f).pins = s.pins := rfl
@[simp] theorem flash_updCal (f : Cal → Cal) : (s.updCal f).flash = s.flash := rfl
@[simp] theorem fab_updCal (f : Cal → Cal) : (s.updCal f).fab = s.fab := rfl
@[simp] theorem geo_updCal (f : Cal → Cal) : (s.updCal f).geo = s.geo := rfl
@[simp] theorem mem_updCal (f : Cal → Cal) : (s.updCal f).mem = s.mem := rfl
@[simp] theorem flint_updCal (f : Cal → Cal) : (s.updCal f).flint = s.flint := rfl
@[simp] theorem hk_updCal (f : Cal → Cal) : (s.updCal f).hk = s.hk := rfl
@[simp] theorem ev_updCal (f : Cal → Cal) : (s.updCal f).ev = s.ev := rfl
@[simp] theorem irq_updCal (f : Cal → Cal) : (s.updCal f).irq = s.irq := rfl
@[simp] theorem rd_updCal (f : Cal → Cal) : (s.updCal f).rd = s.rd := rfl
@[simp] theorem reqs_updCal (f : Cal → Cal) : (s.updCal f).reqs = s.reqs := rfl
@[simp] theorem dueq_updCal (f : Cal → Cal) : (s.updCal f).dueq = s.dueq := rfl
@[simp] theorem frameOwner_updCal (f : Cal → Cal) : (s.updCal f).frameOwner = s.frameOwner := rfl
@[simp] theorem frameShadow_updCal (f : Cal → Cal) : (s.updCal f).frameShadow = s.frameShadow := rfl
@[simp] theorem discShadow_updCal (f : Cal → Cal) : (s.updCal f).discShadow = s.discShadow := rfl
@[simp] theorem variant_updCal (f : Cal → Cal) : (s.updCal f).variant = s.variant := rfl
@[simp] theorem serial_updCal (f : Cal → Cal) : (s.updCal f).serial = s.serial := rfl
@[simp] theorem pending_updCal (f : Cal → Cal) : (s.updCal f).pending = s.pending := rfl
@[simp] theorem regs_updCal (f : Cal → Cal) : (s.updCal f).regs = s.regs := rfl
@[simp] theorem vregs_updCal (f : Cal → Cal) : (s.updCal f).vregs = s.vregs := rfl
@[simp] theorem parts_updCal (f : Cal → Cal) : (s.updCal f).parts = s.parts := rfl
@[simp] theorem cores_updCal (f : Cal → Cal) : (s.updCal f).cores = s.cores := rfl
@[simp] theorem micas_updCal (f : Cal → Cal) : (s.updCal f).micas = s.micas := rfl
@[simp] theorem frames_updCal (f : Cal → Cal) : (s.updCal f).frames = s.frames := rfl
@[simp] theorem issued_updCal (f : Cal → Cal) : (s.updCal f).issued = s.issued := rfl
@[simp] theorem slots_updCal (f : Cal → Cal) : (s.updCal f).slots = s.slots := rfl
@[simp] theorem loops_updCal (f : Cal → Cal) : (s.updCal f).loops = s.loops := rfl
@[simp] theorem graphs_updCal (f : Cal → Cal) : (s.updCal f).graphs = s.graphs := rfl
@[simp] theorem rings_updCal (f : Cal → Cal) : (s.updCal f).rings = s.rings := rfl
@[simp] theorem ports_updCal (f : Cal → Cal) : (s.updCal f).ports = s.ports := rfl
@[simp] theorem doms_updCal (f : Cal → Cal) : (s.updCal f).doms = s.doms := rfl
@[simp] theorem biases_updCal (f : Cal → Cal) : (s.updCal f).biases = s.biases := rfl
@[simp] theorem errs_updCal (f : Cal → Cal) : (s.updCal f).errs = s.errs := rfl
@[simp] theorem reg_updCal (f : Cal → Cal) (x : Nat) : (s.updCal f).reg x = s.reg x := rfl
@[simp] theorem regN_updCal (f : Cal → Cal) (x : Nat) : (s.updCal f).regN x = s.regN x := rfl
@[simp] theorem fld_updCal (f : Cal → Cal) (x y z : Nat) : (s.updCal f).fld x y z = s.fld x y z := rfl
@[simp] theorem bit_updCal (f : Cal → Cal) (x y : Nat) : (s.updCal f).bit x y = s.bit x y := rfl
@[simp] theorem vregN_updCal (f : Cal → Cal) (x y : Nat) : (s.updCal f).vregN x y = s.vregN x y := rfl
@[simp] theorem part_updCal (f : Cal → Cal) (x : Nat) : (s.updCal f).part x = s.part x := rfl
@[simp] theorem qtz_updCal (f : Cal → Cal) (x : Nat) : (s.updCal f).qtz x = s.qtz x := rfl
@[simp] theorem mica_updCal (f : Cal → Cal) (x : Nat) : (s.updCal f).mica x = s.mica x := rfl
@[simp] theorem frame_updCal (f : Cal → Cal) (x : Nat) : (s.updCal f).frame x = s.frame x := rfl
@[simp] theorem frameIssued_updCal (f : Cal → Cal) (x : Nat) : (s.updCal f).frameIssued x = s.frameIssued x := rfl
@[simp] theorem slot_updCal (f : Cal → Cal) (x : Nat) : (s.updCal f).slot x = s.slot x := rfl
@[simp] theorem loop_updCal (f : Cal → Cal) (x : Nat) : (s.updCal f).loop x = s.loop x := rfl
@[simp] theorem graph_updCal (f : Cal → Cal) (x : Nat) : (s.updCal f).graph x = s.graph x := rfl
@[simp] theorem ring_updCal (f : Cal → Cal) (x : Nat) : (s.updCal f).ring x = s.ring x := rfl
@[simp] theorem port_updCal (f : Cal → Cal) (x : Nat) : (s.updCal f).port x = s.port x := rfl
@[simp] theorem dom_updCal (f : Cal → Cal) (x : Nat) : (s.updCal f).dom x = s.dom x := rfl
@[simp] theorem bias_updCal (f : Cal → Cal) (x : Nat) : (s.updCal f).bias x = s.bias x := rfl
@[simp] theorem now_updCal (f : Cal → Cal) : (s.updCal f).now = s.now := rfl

/-! updHk leaves every field but `hk`. -/

@[simp] theorem before_updHk (f : Hk → Hk) : (s.updHk f).before = s.before := rfl
@[simp] theorem mode_updHk (f : Hk → Hk) : (s.updHk f).mode = s.mode := rfl
@[simp] theorem time_updHk (f : Hk → Hk) : (s.updHk f).time = s.time := rfl
@[simp] theorem boot_updHk (f : Hk → Hk) : (s.updHk f).boot = s.boot := rfl
@[simp] theorem pins_updHk (f : Hk → Hk) : (s.updHk f).pins = s.pins := rfl
@[simp] theorem flash_updHk (f : Hk → Hk) : (s.updHk f).flash = s.flash := rfl
@[simp] theorem fab_updHk (f : Hk → Hk) : (s.updHk f).fab = s.fab := rfl
@[simp] theorem geo_updHk (f : Hk → Hk) : (s.updHk f).geo = s.geo := rfl
@[simp] theorem mem_updHk (f : Hk → Hk) : (s.updHk f).mem = s.mem := rfl
@[simp] theorem flint_updHk (f : Hk → Hk) : (s.updHk f).flint = s.flint := rfl
@[simp] theorem cal_updHk (f : Hk → Hk) : (s.updHk f).cal = s.cal := rfl
@[simp] theorem ev_updHk (f : Hk → Hk) : (s.updHk f).ev = s.ev := rfl
@[simp] theorem irq_updHk (f : Hk → Hk) : (s.updHk f).irq = s.irq := rfl
@[simp] theorem rd_updHk (f : Hk → Hk) : (s.updHk f).rd = s.rd := rfl
@[simp] theorem reqs_updHk (f : Hk → Hk) : (s.updHk f).reqs = s.reqs := rfl
@[simp] theorem dueq_updHk (f : Hk → Hk) : (s.updHk f).dueq = s.dueq := rfl
@[simp] theorem frameOwner_updHk (f : Hk → Hk) : (s.updHk f).frameOwner = s.frameOwner := rfl
@[simp] theorem frameShadow_updHk (f : Hk → Hk) : (s.updHk f).frameShadow = s.frameShadow := rfl
@[simp] theorem discShadow_updHk (f : Hk → Hk) : (s.updHk f).discShadow = s.discShadow := rfl
@[simp] theorem variant_updHk (f : Hk → Hk) : (s.updHk f).variant = s.variant := rfl
@[simp] theorem serial_updHk (f : Hk → Hk) : (s.updHk f).serial = s.serial := rfl
@[simp] theorem pending_updHk (f : Hk → Hk) : (s.updHk f).pending = s.pending := rfl
@[simp] theorem regs_updHk (f : Hk → Hk) : (s.updHk f).regs = s.regs := rfl
@[simp] theorem vregs_updHk (f : Hk → Hk) : (s.updHk f).vregs = s.vregs := rfl
@[simp] theorem parts_updHk (f : Hk → Hk) : (s.updHk f).parts = s.parts := rfl
@[simp] theorem cores_updHk (f : Hk → Hk) : (s.updHk f).cores = s.cores := rfl
@[simp] theorem micas_updHk (f : Hk → Hk) : (s.updHk f).micas = s.micas := rfl
@[simp] theorem frames_updHk (f : Hk → Hk) : (s.updHk f).frames = s.frames := rfl
@[simp] theorem issued_updHk (f : Hk → Hk) : (s.updHk f).issued = s.issued := rfl
@[simp] theorem slots_updHk (f : Hk → Hk) : (s.updHk f).slots = s.slots := rfl
@[simp] theorem loops_updHk (f : Hk → Hk) : (s.updHk f).loops = s.loops := rfl
@[simp] theorem graphs_updHk (f : Hk → Hk) : (s.updHk f).graphs = s.graphs := rfl
@[simp] theorem rings_updHk (f : Hk → Hk) : (s.updHk f).rings = s.rings := rfl
@[simp] theorem ports_updHk (f : Hk → Hk) : (s.updHk f).ports = s.ports := rfl
@[simp] theorem doms_updHk (f : Hk → Hk) : (s.updHk f).doms = s.doms := rfl
@[simp] theorem biases_updHk (f : Hk → Hk) : (s.updHk f).biases = s.biases := rfl
@[simp] theorem errs_updHk (f : Hk → Hk) : (s.updHk f).errs = s.errs := rfl
@[simp] theorem reg_updHk (f : Hk → Hk) (x : Nat) : (s.updHk f).reg x = s.reg x := rfl
@[simp] theorem regN_updHk (f : Hk → Hk) (x : Nat) : (s.updHk f).regN x = s.regN x := rfl
@[simp] theorem fld_updHk (f : Hk → Hk) (x y z : Nat) : (s.updHk f).fld x y z = s.fld x y z := rfl
@[simp] theorem bit_updHk (f : Hk → Hk) (x y : Nat) : (s.updHk f).bit x y = s.bit x y := rfl
@[simp] theorem vregN_updHk (f : Hk → Hk) (x y : Nat) : (s.updHk f).vregN x y = s.vregN x y := rfl
@[simp] theorem part_updHk (f : Hk → Hk) (x : Nat) : (s.updHk f).part x = s.part x := rfl
@[simp] theorem qtz_updHk (f : Hk → Hk) (x : Nat) : (s.updHk f).qtz x = s.qtz x := rfl
@[simp] theorem mica_updHk (f : Hk → Hk) (x : Nat) : (s.updHk f).mica x = s.mica x := rfl
@[simp] theorem frame_updHk (f : Hk → Hk) (x : Nat) : (s.updHk f).frame x = s.frame x := rfl
@[simp] theorem frameIssued_updHk (f : Hk → Hk) (x : Nat) : (s.updHk f).frameIssued x = s.frameIssued x := rfl
@[simp] theorem slot_updHk (f : Hk → Hk) (x : Nat) : (s.updHk f).slot x = s.slot x := rfl
@[simp] theorem loop_updHk (f : Hk → Hk) (x : Nat) : (s.updHk f).loop x = s.loop x := rfl
@[simp] theorem graph_updHk (f : Hk → Hk) (x : Nat) : (s.updHk f).graph x = s.graph x := rfl
@[simp] theorem ring_updHk (f : Hk → Hk) (x : Nat) : (s.updHk f).ring x = s.ring x := rfl
@[simp] theorem port_updHk (f : Hk → Hk) (x : Nat) : (s.updHk f).port x = s.port x := rfl
@[simp] theorem dom_updHk (f : Hk → Hk) (x : Nat) : (s.updHk f).dom x = s.dom x := rfl
@[simp] theorem bias_updHk (f : Hk → Hk) (x : Nat) : (s.updHk f).bias x = s.bias x := rfl
@[simp] theorem now_updHk (f : Hk → Hk) : (s.updHk f).now = s.now := rfl

/-! updRd leaves every field but `rd`. -/

@[simp] theorem before_updRd (f : Rd → Rd) : (s.updRd f).before = s.before := rfl
@[simp] theorem mode_updRd (f : Rd → Rd) : (s.updRd f).mode = s.mode := rfl
@[simp] theorem time_updRd (f : Rd → Rd) : (s.updRd f).time = s.time := rfl
@[simp] theorem boot_updRd (f : Rd → Rd) : (s.updRd f).boot = s.boot := rfl
@[simp] theorem pins_updRd (f : Rd → Rd) : (s.updRd f).pins = s.pins := rfl
@[simp] theorem flash_updRd (f : Rd → Rd) : (s.updRd f).flash = s.flash := rfl
@[simp] theorem fab_updRd (f : Rd → Rd) : (s.updRd f).fab = s.fab := rfl
@[simp] theorem geo_updRd (f : Rd → Rd) : (s.updRd f).geo = s.geo := rfl
@[simp] theorem mem_updRd (f : Rd → Rd) : (s.updRd f).mem = s.mem := rfl
@[simp] theorem flint_updRd (f : Rd → Rd) : (s.updRd f).flint = s.flint := rfl
@[simp] theorem hk_updRd (f : Rd → Rd) : (s.updRd f).hk = s.hk := rfl
@[simp] theorem cal_updRd (f : Rd → Rd) : (s.updRd f).cal = s.cal := rfl
@[simp] theorem ev_updRd (f : Rd → Rd) : (s.updRd f).ev = s.ev := rfl
@[simp] theorem irq_updRd (f : Rd → Rd) : (s.updRd f).irq = s.irq := rfl
@[simp] theorem reqs_updRd (f : Rd → Rd) : (s.updRd f).reqs = s.reqs := rfl
@[simp] theorem dueq_updRd (f : Rd → Rd) : (s.updRd f).dueq = s.dueq := rfl
@[simp] theorem frameOwner_updRd (f : Rd → Rd) : (s.updRd f).frameOwner = s.frameOwner := rfl
@[simp] theorem frameShadow_updRd (f : Rd → Rd) : (s.updRd f).frameShadow = s.frameShadow := rfl
@[simp] theorem discShadow_updRd (f : Rd → Rd) : (s.updRd f).discShadow = s.discShadow := rfl
@[simp] theorem variant_updRd (f : Rd → Rd) : (s.updRd f).variant = s.variant := rfl
@[simp] theorem serial_updRd (f : Rd → Rd) : (s.updRd f).serial = s.serial := rfl
@[simp] theorem pending_updRd (f : Rd → Rd) : (s.updRd f).pending = s.pending := rfl
@[simp] theorem regs_updRd (f : Rd → Rd) : (s.updRd f).regs = s.regs := rfl
@[simp] theorem vregs_updRd (f : Rd → Rd) : (s.updRd f).vregs = s.vregs := rfl
@[simp] theorem parts_updRd (f : Rd → Rd) : (s.updRd f).parts = s.parts := rfl
@[simp] theorem cores_updRd (f : Rd → Rd) : (s.updRd f).cores = s.cores := rfl
@[simp] theorem micas_updRd (f : Rd → Rd) : (s.updRd f).micas = s.micas := rfl
@[simp] theorem frames_updRd (f : Rd → Rd) : (s.updRd f).frames = s.frames := rfl
@[simp] theorem issued_updRd (f : Rd → Rd) : (s.updRd f).issued = s.issued := rfl
@[simp] theorem slots_updRd (f : Rd → Rd) : (s.updRd f).slots = s.slots := rfl
@[simp] theorem loops_updRd (f : Rd → Rd) : (s.updRd f).loops = s.loops := rfl
@[simp] theorem graphs_updRd (f : Rd → Rd) : (s.updRd f).graphs = s.graphs := rfl
@[simp] theorem rings_updRd (f : Rd → Rd) : (s.updRd f).rings = s.rings := rfl
@[simp] theorem ports_updRd (f : Rd → Rd) : (s.updRd f).ports = s.ports := rfl
@[simp] theorem doms_updRd (f : Rd → Rd) : (s.updRd f).doms = s.doms := rfl
@[simp] theorem biases_updRd (f : Rd → Rd) : (s.updRd f).biases = s.biases := rfl
@[simp] theorem errs_updRd (f : Rd → Rd) : (s.updRd f).errs = s.errs := rfl
@[simp] theorem reg_updRd (f : Rd → Rd) (x : Nat) : (s.updRd f).reg x = s.reg x := rfl
@[simp] theorem regN_updRd (f : Rd → Rd) (x : Nat) : (s.updRd f).regN x = s.regN x := rfl
@[simp] theorem fld_updRd (f : Rd → Rd) (x y z : Nat) : (s.updRd f).fld x y z = s.fld x y z := rfl
@[simp] theorem bit_updRd (f : Rd → Rd) (x y : Nat) : (s.updRd f).bit x y = s.bit x y := rfl
@[simp] theorem vregN_updRd (f : Rd → Rd) (x y : Nat) : (s.updRd f).vregN x y = s.vregN x y := rfl
@[simp] theorem part_updRd (f : Rd → Rd) (x : Nat) : (s.updRd f).part x = s.part x := rfl
@[simp] theorem qtz_updRd (f : Rd → Rd) (x : Nat) : (s.updRd f).qtz x = s.qtz x := rfl
@[simp] theorem mica_updRd (f : Rd → Rd) (x : Nat) : (s.updRd f).mica x = s.mica x := rfl
@[simp] theorem frame_updRd (f : Rd → Rd) (x : Nat) : (s.updRd f).frame x = s.frame x := rfl
@[simp] theorem frameIssued_updRd (f : Rd → Rd) (x : Nat) : (s.updRd f).frameIssued x = s.frameIssued x := rfl
@[simp] theorem slot_updRd (f : Rd → Rd) (x : Nat) : (s.updRd f).slot x = s.slot x := rfl
@[simp] theorem loop_updRd (f : Rd → Rd) (x : Nat) : (s.updRd f).loop x = s.loop x := rfl
@[simp] theorem graph_updRd (f : Rd → Rd) (x : Nat) : (s.updRd f).graph x = s.graph x := rfl
@[simp] theorem ring_updRd (f : Rd → Rd) (x : Nat) : (s.updRd f).ring x = s.ring x := rfl
@[simp] theorem port_updRd (f : Rd → Rd) (x : Nat) : (s.updRd f).port x = s.port x := rfl
@[simp] theorem dom_updRd (f : Rd → Rd) (x : Nat) : (s.updRd f).dom x = s.dom x := rfl
@[simp] theorem bias_updRd (f : Rd → Rd) (x : Nat) : (s.updRd f).bias x = s.bias x := rfl
@[simp] theorem now_updRd (f : Rd → Rd) : (s.updRd f).now = s.now := rfl

/-! The instance updated, and the others of its table. -/

@[simp] theorem part_updPart (p : Nat) (f : Part → Part) : (s.updPart p f).part p = f (s.part p) := look_put_eq ..
theorem part_updPart_ne {p q : Nat} (f : Part → Part) (h : q ≠ p) : (s.updPart p f).part q = s.part q := look_put_ne _ _ h
@[simp] theorem qtz_updQtz (p : Nat) (f : Core → Core) : (s.updQtz p f).qtz p = f (s.qtz p) := look_put_eq ..
theorem qtz_updQtz_ne {p q : Nat} (f : Core → Core) (h : q ≠ p) : (s.updQtz p f).qtz q = s.qtz q := look_put_ne _ _ h
@[simp] theorem mica_updMica (p : Nat) (f : Mica → Mica) : (s.updMica p f).mica p = f (s.mica p) := look_put_eq ..
theorem mica_updMica_ne {p q : Nat} (f : Mica → Mica) (h : q ≠ p) : (s.updMica p f).mica q = s.mica q := look_put_ne _ _ h
@[simp] theorem slot_updSlot (p : Nat) (f : Slot → Slot) : (s.updSlot p f).slot p = f (s.slot p) := look_put_eq ..
theorem slot_updSlot_ne {p q : Nat} (f : Slot → Slot) (h : q ≠ p) : (s.updSlot p f).slot q = s.slot q := look_put_ne _ _ h
@[simp] theorem loop_updLoop (p : Nat) (f : Loop → Loop) : (s.updLoop p f).loop p = f (s.loop p) := look_put_eq ..
theorem loop_updLoop_ne {p q : Nat} (f : Loop → Loop) (h : q ≠ p) : (s.updLoop p f).loop q = s.loop q := look_put_ne _ _ h
@[simp] theorem graph_updGraph (p : Nat) (f : Graph → Graph) : (s.updGraph p f).graph p = f (s.graph p) := look_put_eq ..
theorem graph_updGraph_ne {p q : Nat} (f : Graph → Graph) (h : q ≠ p) : (s.updGraph p f).graph q = s.graph q :=
    look_put_ne _ _ h
@[simp] theorem ring_updRing (p : Nat) (f : Ring → Ring) : (s.updRing p f).ring p = f (s.ring p) := look_put_eq ..
theorem ring_updRing_ne {p q : Nat} (f : Ring → Ring) (h : q ≠ p) : (s.updRing p f).ring q = s.ring q := look_put_ne _ _ h
@[simp] theorem port_updPort (p : Nat) (f : Port → Port) : (s.updPort p f).port p = f (s.port p) := look_put_eq ..
theorem port_updPort_ne {p q : Nat} (f : Port → Port) (h : q ≠ p) : (s.updPort p f).port q = s.port q := look_put_ne _ _ h
@[simp] theorem dom_updDom (p : Nat) (f : Dom → Dom) : (s.updDom p f).dom p = f (s.dom p) := look_put_eq ..
theorem dom_updDom_ne {p q : Nat} (f : Dom → Dom) (h : q ≠ p) : (s.updDom p f).dom q = s.dom q := look_put_ne _ _ h
@[simp] theorem bias_updBias (p : Nat) (f : Bias → Bias) : (s.updBias p f).bias p = f (s.bias p) := look_put_eq ..
theorem bias_updBias_ne {p q : Nat} (f : Bias → Bias) (h : q ≠ p) : (s.updBias p f).bias q = s.bias q := look_put_ne _ _ h
@[simp] theorem err_updErr (p : Nat) (f : HwErr → HwErr) : (s.updErr p f).err p = f (s.err p) := look_put_eq ..
theorem err_updErr_ne {p q : Nat} (f : HwErr → HwErr) (h : q ≠ p) : (s.updErr p f).err q = s.err q := look_put_ne _ _ h
@[simp] theorem frame_setFrame (n : Nat) (v : Frame) : (s.setFrame n v).frame n = v := look_put_eq ..
theorem frame_setFrame_ne {n m : Nat} (v : Frame) (h : m ≠ n) : (s.setFrame n v).frame m = s.frame m := look_put_ne _ _ h
@[simp] theorem frameIssued_setIssued (n : Nat) (v : Frame) : (s.setIssued n v).frameIssued n = v := look_put_eq ..
theorem frameIssued_setIssued_ne {n m : Nat} (v : Frame) (h : m ≠ n) : (s.setIssued n v).frameIssued m = s.frameIssued m := look_put_ne _ _ h
@[simp] theorem fab_updFab (f : Fab → Fab) : (s.updFab f).fab = f s.fab := rfl
@[simp] theorem mem_updMem (f : Mem → Mem) : (s.updMem f).mem = f s.mem := rfl
@[simp] theorem time_updTime (f : Time → Time) : (s.updTime f).time = f s.time := rfl
@[simp] theorem boot_updBoot (f : Boot → Boot) : (s.updBoot f).boot = f s.boot := rfl
@[simp] theorem pins_updPins (f : Pins → Pins) : (s.updPins f).pins = f s.pins := rfl
@[simp] theorem geo_updGeo (f : Geo → Geo) : (s.updGeo f).geo = f s.geo := rfl
@[simp] theorem cal_updCal (f : Cal → Cal) : (s.updCal f).cal = f s.cal := rfl
@[simp] theorem hk_updHk (f : Hk → Hk) : (s.updHk f).hk = f s.hk := rfl
@[simp] theorem rd_updRd (f : Rd → Rd) : (s.updRd f).rd = f s.rd := rfl

/-! Clearing counters leaves every field but `regs` and `before`. -/

@[simp] theorem mode_clearCounts (l : List Nat) : (s.clearCounts l).mode = s.mode := by
  induction l generalizing s with
  | nil => rfl
  | cons a l ih => exact (ih _).trans rfl
@[simp] theorem time_clearCounts (l : List Nat) : (s.clearCounts l).time = s.time := by
  induction l generalizing s with
  | nil => rfl
  | cons a l ih => exact (ih _).trans rfl
@[simp] theorem boot_clearCounts (l : List Nat) : (s.clearCounts l).boot = s.boot := by
  induction l generalizing s with
  | nil => rfl
  | cons a l ih => exact (ih _).trans rfl
@[simp] theorem pins_clearCounts (l : List Nat) : (s.clearCounts l).pins = s.pins := by
  induction l generalizing s with
  | nil => rfl
  | cons a l ih => exact (ih _).trans rfl
@[simp] theorem flash_clearCounts (l : List Nat) : (s.clearCounts l).flash = s.flash := by
  induction l generalizing s with
  | nil => rfl
  | cons a l ih => exact (ih _).trans rfl
@[simp] theorem fab_clearCounts (l : List Nat) : (s.clearCounts l).fab = s.fab := by
  induction l generalizing s with
  | nil => rfl
  | cons a l ih => exact (ih _).trans rfl
@[simp] theorem geo_clearCounts (l : List Nat) : (s.clearCounts l).geo = s.geo := by
  induction l generalizing s with
  | nil => rfl
  | cons a l ih => exact (ih _).trans rfl
@[simp] theorem mem_clearCounts (l : List Nat) : (s.clearCounts l).mem = s.mem := by
  induction l generalizing s with
  | nil => rfl
  | cons a l ih => exact (ih _).trans rfl
@[simp] theorem flint_clearCounts (l : List Nat) : (s.clearCounts l).flint = s.flint := by
  induction l generalizing s with
  | nil => rfl
  | cons a l ih => exact (ih _).trans rfl
@[simp] theorem hk_clearCounts (l : List Nat) : (s.clearCounts l).hk = s.hk := by
  induction l generalizing s with
  | nil => rfl
  | cons a l ih => exact (ih _).trans rfl
@[simp] theorem cal_clearCounts (l : List Nat) : (s.clearCounts l).cal = s.cal := by
  induction l generalizing s with
  | nil => rfl
  | cons a l ih => exact (ih _).trans rfl
@[simp] theorem ev_clearCounts (l : List Nat) : (s.clearCounts l).ev = s.ev := by
  induction l generalizing s with
  | nil => rfl
  | cons a l ih => exact (ih _).trans rfl
@[simp] theorem irq_clearCounts (l : List Nat) : (s.clearCounts l).irq = s.irq := by
  induction l generalizing s with
  | nil => rfl
  | cons a l ih => exact (ih _).trans rfl
@[simp] theorem rd_clearCounts (l : List Nat) : (s.clearCounts l).rd = s.rd := by
  induction l generalizing s with
  | nil => rfl
  | cons a l ih => exact (ih _).trans rfl
@[simp] theorem reqs_clearCounts (l : List Nat) : (s.clearCounts l).reqs = s.reqs := by
  induction l generalizing s with
  | nil => rfl
  | cons a l ih => exact (ih _).trans rfl
@[simp] theorem dueq_clearCounts (l : List Nat) : (s.clearCounts l).dueq = s.dueq := by
  induction l generalizing s with
  | nil => rfl
  | cons a l ih => exact (ih _).trans rfl
@[simp] theorem frameOwner_clearCounts (l : List Nat) : (s.clearCounts l).frameOwner = s.frameOwner := by
  induction l generalizing s with
  | nil => rfl
  | cons a l ih => exact (ih _).trans rfl
@[simp] theorem frameShadow_clearCounts (l : List Nat) : (s.clearCounts l).frameShadow = s.frameShadow := by
  induction l generalizing s with
  | nil => rfl
  | cons a l ih => exact (ih _).trans rfl
@[simp] theorem discShadow_clearCounts (l : List Nat) : (s.clearCounts l).discShadow = s.discShadow := by
  induction l generalizing s with
  | nil => rfl
  | cons a l ih => exact (ih _).trans rfl
@[simp] theorem variant_clearCounts (l : List Nat) : (s.clearCounts l).variant = s.variant := by
  induction l generalizing s with
  | nil => rfl
  | cons a l ih => exact (ih _).trans rfl
@[simp] theorem serial_clearCounts (l : List Nat) : (s.clearCounts l).serial = s.serial := by
  induction l generalizing s with
  | nil => rfl
  | cons a l ih => exact (ih _).trans rfl
@[simp] theorem pending_clearCounts (l : List Nat) : (s.clearCounts l).pending = s.pending := by
  induction l generalizing s with
  | nil => rfl
  | cons a l ih => exact (ih _).trans rfl
@[simp] theorem vregs_clearCounts (l : List Nat) : (s.clearCounts l).vregs = s.vregs := by
  induction l generalizing s with
  | nil => rfl
  | cons a l ih => exact (ih _).trans rfl
@[simp] theorem parts_clearCounts (l : List Nat) : (s.clearCounts l).parts = s.parts := by
  induction l generalizing s with
  | nil => rfl
  | cons a l ih => exact (ih _).trans rfl
@[simp] theorem cores_clearCounts (l : List Nat) : (s.clearCounts l).cores = s.cores := by
  induction l generalizing s with
  | nil => rfl
  | cons a l ih => exact (ih _).trans rfl
@[simp] theorem micas_clearCounts (l : List Nat) : (s.clearCounts l).micas = s.micas := by
  induction l generalizing s with
  | nil => rfl
  | cons a l ih => exact (ih _).trans rfl
@[simp] theorem frames_clearCounts (l : List Nat) : (s.clearCounts l).frames = s.frames := by
  induction l generalizing s with
  | nil => rfl
  | cons a l ih => exact (ih _).trans rfl
@[simp] theorem issued_clearCounts (l : List Nat) : (s.clearCounts l).issued = s.issued := by
  induction l generalizing s with
  | nil => rfl
  | cons a l ih => exact (ih _).trans rfl
@[simp] theorem slots_clearCounts (l : List Nat) : (s.clearCounts l).slots = s.slots := by
  induction l generalizing s with
  | nil => rfl
  | cons a l ih => exact (ih _).trans rfl
@[simp] theorem loops_clearCounts (l : List Nat) : (s.clearCounts l).loops = s.loops := by
  induction l generalizing s with
  | nil => rfl
  | cons a l ih => exact (ih _).trans rfl
@[simp] theorem graphs_clearCounts (l : List Nat) : (s.clearCounts l).graphs = s.graphs := by
  induction l generalizing s with
  | nil => rfl
  | cons a l ih => exact (ih _).trans rfl
@[simp] theorem rings_clearCounts (l : List Nat) : (s.clearCounts l).rings = s.rings := by
  induction l generalizing s with
  | nil => rfl
  | cons a l ih => exact (ih _).trans rfl
@[simp] theorem ports_clearCounts (l : List Nat) : (s.clearCounts l).ports = s.ports := by
  induction l generalizing s with
  | nil => rfl
  | cons a l ih => exact (ih _).trans rfl
@[simp] theorem doms_clearCounts (l : List Nat) : (s.clearCounts l).doms = s.doms := by
  induction l generalizing s with
  | nil => rfl
  | cons a l ih => exact (ih _).trans rfl
@[simp] theorem biases_clearCounts (l : List Nat) : (s.clearCounts l).biases = s.biases := by
  induction l generalizing s with
  | nil => rfl
  | cons a l ih => exact (ih _).trans rfl
@[simp] theorem errs_clearCounts (l : List Nat) : (s.clearCounts l).errs = s.errs := by
  induction l generalizing s with
  | nil => rfl
  | cons a l ih => exact (ih _).trans rfl

end Sys2Proof.Machine
end

