-- ==== Sys2Proof/Laws/Answer.lean ====
section
/-!
SUPPORT. Laws of answers and of the Quartz operand forms: what `answer` gives for one update, what an executing core runs,
and the fields of a word put together from its parts.
-/
namespace Sys2Proof.Machine

/-! Answers. -/

theorem answer_next (s t : State) (h1 : t.pending = s.pending) (h2 : t.variant = s.variant) (h3 : t.serial = s.serial)
    (h4 : t.flash = s.flash) : answer s t = .next t := by
  unfold answer; rw [← h1, ← h2, ← h3, ← h4]

theorem answer_self (s : State) : answer s s = .next s := rfl
theorem answer_updQtz (s : State) (c : Nat) (f : Core → Core) : answer s (s.updQtz c f) = .next (s.updQtz c f) := rfl
theorem answer_setReg (s : State) (a : Nat) (v : Word) : answer s (s.setReg a v) = .next (s.setReg a v) := rfl
theorem answer_updPart (s : State) (p : Nat) (f : Part → Part) : answer s (s.updPart p f) = .next (s.updPart p f) := rfl

/-! The fetch of an instruction. -/

/-- A fetch changes the executing core's cache lines and nothing else. -/
theorem fetch_cores (s : State) (c : Nat) : s.fetch c = { s with cores := (s.fetch c).cores } := by
  unfold State.fetch; split <;> rfl

@[simp] theorem qtz_fetch (s : State) (c : Nat) : (s.fetch c).qtz c = (s.qtz c).fetched := by
  unfold State.fetch Core.fetched
  split <;> rename_i h <;> simp [h, qtz_updQtz]

theorem qtz_fetch_ne (s : State) {c k : Nat} (h : k ≠ c) : (s.fetch c).qtz k = s.qtz k := by
  unfold State.fetch
  split
  · exact qtz_updQtz_ne _ _ h
  · rfl

@[simp] theorem fetched_v (q : Core) : q.fetched.v = q.v := by unfold Core.fetched; split <;> rfl
@[simp] theorem fetched_pc (q : Core) : q.fetched.pc = q.pc := by unfold Core.fetched; split <;> rfl
@[simp] theorem fetched_tl (q : Core) : q.fetched.tl = q.tl := by unfold Core.fetched; split <;> rfl
@[simp] theorem fetched_loops (q : Core) : q.fetched.loops = q.loops := by unfold Core.fetched; split <;> rfl
@[simp] theorem fetched_calls (q : Core) : q.fetched.calls = q.calls := by unfold Core.fetched; split <;> rfl

/-- What a command that updates one Quartz core answers. -/
theorem sets_core {s : State} {i : Instr} {c : Nat} {f : Core → Core} (h : exec i s = answer s ((s.fetch c).updQtz c f)) :
    SetsCore i s c (f (s.qtz c).fetched) := by
  refine ⟨(s.fetch c).updQtz c f, h.trans (answer_next _ _ ?_ ?_ ?_ ?_), ?_, ?_, by rw [qtz_updQtz, qtz_fetch]⟩
  iterate 4 rw [fetch_cores]; rfl
  · conv => lhs; rw [fetch_cores]
    rfl
  · intro e he
    have he : e ≠ c := by simpa using he
    rw [qtz_updQtz_ne _ _ he, qtz_fetch_ne _ he]

/-- What a command that writes one value register answers. -/
theorem writes_v {s : State} {i : Instr} {c d : Nat} {x : Word} (h : exec i s = answer s ((s.fetch c).qset c d x)) :
    WritesV i s c d x := by
  obtain ⟨t, h1, h2, h3, h4⟩ := sets_core (f := fun q => (q.setV d x).next) h
  refine ⟨t, h1, h2, h3, ?_, ?_, ?_⟩
  · rw [h4]; simp [Core.next, Core.setV]
  · simp [State.vr, h4, Core.next, Core.setV, look_put_eq]
  · intro k hk
    simp [State.vr, h4, Core.next, Core.setV, look_put_ne, hk]

/-! Execution. -/

theorem qtz1_of {s : State} {c p : Nat} (h : s.executes c p) (f : State → Nat → State) :
    s.qtz1 c f = f (s.fetch c) p := by
  obtain ⟨h1, h2, h3, h4⟩ := h
  simp [State.qtz1, h1, Nat.not_le.2 h2, h3, h4]

/-! Words. -/

theorem append_nat {m n : Nat} (x : BitVec m) (y : BitVec n) : (x ++ y).toNat = x.toNat * 2 ^ n + y.toNat := by
  rw [BitVec.toNat_append, Nat.shiftLeft_eq, Nat.mul_comm, Nat.two_pow_add_eq_or_of_lt y.isLt, Nat.mul_comm]

end Sys2Proof.Machine
end

