-- ==== Sys2Proof/Laws/Records.lean ====
section
/-!
SUPPORT. What the record, taint, yield and journal operations can do: they change record queues, journals and loan counters,
and nothing else.
-/
namespace Sys2Proof.Machine

theorem forEach_nil {α : Type} (s : State) (f : State → α → State) : s.forEach [] f = s := rfl
theorem forEach_cons {α : Type} (s : State) (x : α) (l : List α) (f : State → α → State) :
    s.forEach (x :: l) f = (f s x).forEach l f := rfl

/-- A relation that every pass keeps, a loop keeps. -/
theorem forEach_rel {α : Type} (R : State → State → Prop) (refl : ∀ s, R s s) (trans : ∀ a b c, R a b → R b c → R a c)
    (s : State) (l : List α) (f : State → α → State) (h : ∀ s x, R s (f s x)) : R s (s.forEach l f) := by
  induction l generalizing s with
  | nil => exact refl s
  | cons x l ih => exact trans _ _ _ (h s x) (ih (f s x))

theorem Records.refl (s : State) (p : Nat) : Records s s p := ⟨rfl, fun _ _ => rfl, fun _ => ⟨rfl, rfl⟩⟩

theorem Records.trans {a b c : State} {p : Nat} (h1 : Records a b p) (h2 : Records b c p) : Records a c p := by
  refine ⟨?_, fun x hx => (h2.2.1 x hx).trans (h1.2.1 x hx),
      fun q => ⟨(h2.2.2 q).1.trans (h1.2.2 q).1, (h2.2.2 q).2.trans (h1.2.2 q).2⟩⟩
  rw [h2.1, h1.1]

theorem Records.updPart (s : State) (p r : Nat) (f : Part → Part) 
    (h : ∀ q, (f q).mode = q.mode ∧ (f q).attempt.recs = q.attempt.recs) : Records s (s.updPart r f) p := by
  refine ⟨rfl, fun _ _ => rfl, fun q => ?_⟩
  by_cases hq : q = r
  · subst hq; rw [part_updPart]; exact h _
  · rw [part_updPart_ne _ _ hq]; exact ⟨rfl, rfl⟩

theorem pushRec_records (s : State) (p r : Nat) (x : Rec) : Records s (s.pushRec r x) p :=
  Records.updPart s p r _ fun q => by split <;> exact ⟨rfl, rfl⟩

theorem loseRec_records (s : State) (p r : Nat) : Records s (s.loseRec r) p := Records.updPart s p r _ fun _ => ⟨rfl, rfl⟩

theorem queueRec_records (s : State) (p r : Nat) (x : Rec) : Records s (s.queueRec r x) p := by
  unfold State.queueRec
  split <;> split <;> first | exact pushRec_records .. | exact loseRec_records ..

theorem updJob_records (s : State) (p r : Nat) (f : Job → Job) : Records s (s.updJob r f) p :=
  Records.updPart s p r _ fun _ => ⟨rfl, rfl⟩
theorem updAtt_records (s : State) (p r : Nat) (f : Attempt → Attempt) (h : ∀ a, (f a).recs = a.recs) :
    Records s (s.updAtt r f) p := Records.updPart s p r _ fun _ => ⟨rfl, h _⟩

theorem coalesced_records (s : State) (p r k : Nat) (x : Rec) : Records s (s.coalesced r k x) p := by
  unfold State.coalesced
  refine (Records.updPart s p r (fun q => { q with quiet := (coalesce (s.part r).quiet k s.now x).1 })
    fun _ => ⟨rfl, rfl⟩).trans ?_
  simp only
  split
  · exact queueRec_records ..
  · exact Records.refl ..

theorem yields_records (s : State) (p r a b c : Nat) (t : BitVec 64) (m o : Nat) : Records s (s.yields r a b c t m o) p := by
  unfold State.yields
  dsimp only
  split
  · exact Records.updPart s p r _ fun _ => ⟨rfl, rfl⟩
  · split
    · exact coalesced_records ..
    · exact Records.updPart s p r _ fun _ => ⟨rfl, rfl⟩
    · exact queueRec_records ..

theorem setN_records (s : State) (p a v : Nat) (h : a ∈ recordRegs p) : Records s (s.setN a v) p :=
  ⟨rfl, fun _ hx => reg_setN_ne s v fun e => hx (e ▸ h), fun _ => ⟨rfl, rfl⟩⟩

theorem dramLoan_records (s : State) (l p n half : Nat) (hl : l < 8) : Records s (s.dramLoan l p n half) p := by
  unfold State.dramLoan State.inc
  refine (((Records.updPart s p l (fun q => { q with lent := q.lent + half }) fun _ => ⟨rfl, rfl⟩).trans
    (yields_records ..)).trans (setN_records _ _ _ _ ?_)).trans (setN_records _ _ _ _ ?_)
  · exact List.mem_cons_of_mem _ (List.mem_map.2 ⟨l, List.mem_range.2 hl, rfl⟩)
  · exact List.mem_cons_self ..

theorem jput_records (s : State) (p r : Nat) (x : Rec) : Records s (s.jput r x) p := by
  unfold State.jput
  exact Records.updPart s p r _ fun q => ⟨rfl, rfl⟩

theorem nPart_le (s : State) : s.nPart ≤ 8 := by unfold State.nPart; split <;> decide

theorem jlender_lt {s : State} {p l : Nat} (h : s.jlender p = some l) : l < 8 := by
  have := List.mem_range.1 (List.mem_of_find?_eq_some h)
  have := nPart_le s
  omega

theorem jappend_records (s : State) (p : Nat) (x : Rec) : Records s (s.jappend p x).1 p := by
  unfold State.jappend
  have add : ∀ (s : State) (r : Rec), Records s (s.updPart p fun q => { q with jbuf := q.jbuf ++ [r] }) p :=
    fun s r => Records.updPart s p p _ fun _ => ⟨rfl, rfl⟩
  have shift : ∀ s : State, Records s (match (s.part p).jbuf with
      | [] => s
      | e :: l => (s.updPart p fun q => { q with jbuf := l }).jput p e) p := by
    intro s
    split
    · exact Records.refl ..
    · rename_i l _
      exact (Records.updPart s p p (fun q => { q with jbuf := l }) fun _ => ⟨rfl, rfl⟩).trans (jput_records ..)
  have enter : Records s (if (s.part p).attempt.active then s.updAtt p fun a => { a with entries := a.entries + 1 } else s) p := by
    split
    · exact updAtt_records s p p _ fun _ => rfl
    · exact Records.refl ..
  dsimp only
  split
  · exact Records.refl ..
  · refine enter.trans ?_
    generalize (if (s.part p).attempt.active then s.updAtt p fun a => { a with entries := a.entries + 1 } else s) = s'
    split
    · exact add ..
    · split
      · exact (shift _).trans (add _ _)
      · split
        · rename_i l hl
          split
          · exact ((shift _).trans (add _ _)).trans (dramLoan_records _ _ _ _ _ (jlender_lt hl))
          · exact Records.refl ..
        · exact Records.refl ..

theorem addTaint_records (s : State) (p c a r d : Nat) (t : BitVec 64) : Records s (s.addTaint p c a r d t).1 p := by
  unfold State.addTaint
  generalize h : (s.updAtt p _) = s1
  have h1 : Records s s1 p := h ▸ updAtt_records s p p _ fun _ => rfl
  exact h1.trans (jappend_records ..)

theorem quotaAtt_records (s : State) (p : Nat) (t : BitVec 64) : Records s (s.quotaAtt p t) p := by
  unfold State.quotaAtt
  split
  · exact addTaint_records ..
  · exact Records.refl ..

theorem taintAtt_records (s : State) (p c a r d : Nat) (t : BitVec 64) : Records s (s.taintAtt p c a r d t) p := by
  unfold State.taintAtt
  dsimp only
  split
  · split
    · exact addTaint_records ..
    · exact (addTaint_records ..).trans (quotaAtt_records ..)
  · exact Records.refl ..

theorem journal_records (s : State) (p : Nat) (x : Rec) : Records s (s.journal p x) p := by
  unfold State.journal
  dsimp only
  split
  · exact jappend_records ..
  · exact (jappend_records ..).trans (quotaAtt_records ..)

theorem streamRec_records (s : State) (p k c r n : Nat) (t : BitVec 64) : Records s (s.streamRec p k c r n t) p :=
  coalesced_records ..

theorem streamErr_records (s : State) (p c r n : Nat) (t : BitVec 64) : Records s (s.streamErr p c r n t) p :=
  streamRec_records ..

theorem causeBy_records (s : State) (p k c a r d : Nat) (t : BitVec 64) : Records s (s.causeBy p k c a r d t) p := by
  unfold State.causeBy
  split
  · exact taintAtt_records ..
  · exact streamRec_records ..
  · exact Records.refl ..

theorem cause_records (s : State) (p c a r d : Nat) (t : BitVec 64) : Records s (s.cause p c a r d t) p := causeBy_records ..

theorem addWait_records (s : State) (p r t k : Nat) : Records s (s.addWait r t k) p := by
  unfold State.addWait
  split
  · exact Records.refl ..
  · exact updJob_records ..

theorem flushSome_records (s : State) (p r : Nat) (f : Rec → Bool) : Records s (s.flushSome r f) p := by
  unfold State.flushSome
  refine (Records.updPart s p r (fun q => { q with yields := q.yields.filter fun x => !f x }) fun _ => ⟨rfl, rfl⟩).trans ?_
  exact forEach_rel (Records · · p) (Records.refl · p) (fun _ _ _ => Records.trans) _ _ _ fun _ _ => queueRec_records ..

theorem flushYields_records (s : State) (p r : Nat) : Records s (s.flushYields r) p := flushSome_records ..

theorem completeJob_records (s : State) (p r st d : Nat) : Records s (s.completeJob r st d) p := by
  unfold State.completeJob
  split
  · exact Records.refl ..
  · dsimp only
    refine Records.trans ?_ (Records.updPart _ p r _ fun _ => ⟨rfl, rfl⟩)
    refine Records.trans ?_ (queueRec_records ..)
    refine Records.trans (flushYields_records s p r) ?_
    split
    · exact Records.refl ..
    · exact queueRec_records ..

end Sys2Proof.Machine
end

