-- ==== Sys2Proof/Laws/Issue.lean ====
section
/-!
SUPPORT. What issuing an event can do: page requests, slack, entries, acceptance and the start of a pulse.
-/
namespace Sys2Proof.Machine

/-- From `s` to `t`, work of an issue by core `q` of partition `p` that leaves cores, slots and graphs alone. -/
def IssueWork (s t : State) (q p : Nat) : Prop :=
  t = { s with parts := t.parts, regs := t.regs, before := t.before, fab := t.fab, geo := t.geo } ∧
  t.fab.wins = s.fab.wins ∧
  t.fab = { s.fab with events := t.fab.events, nextId := t.fab.nextId, pulses := t.fab.pulses } ∧
  RegsBut s t (issueRegs q p) ∧ ∀ r, (t.part r).mode = (s.part r).mode

theorem IssueWork.refl (s : State) (q p : Nat) : IssueWork s s q p := ⟨rfl, rfl, rfl, fun _ _ => rfl, fun _ => rfl⟩

theorem IssueWork.trans {a b c : State} {q p : Nat} (h1 : IssueWork a b q p) (h2 : IssueWork b c q p) : IssueWork a c q p := by
  refine ⟨?_, h2.2.1.trans h1.2.1, ?_, fun x hx => (h2.2.2.2.1 x hx).trans (h1.2.2.2.1 x hx),
      fun r => (h2.2.2.2.2 r).trans (h1.2.2.2.2 r)⟩
  · rw [h2.1, h1.1]
  · rw [h2.2.2.1, h1.2.2.1]

theorem Records.issue {s t : State} {p : Nat} (h : Records s t p) (q : Nat) : IssueWork s t q p := by
  refine ⟨?_, ?_, ?_, fun x hx => h.2.1 x fun hm => hx (List.mem_append_right _ hm), fun r => (h.2.2 r).1⟩
  · rw [h.1]
  · rw [h.1]
  · rw [h.1]

theorem IssueWork.qtz {s t : State} {q p : Nat} (h : IssueWork s t q p) (c : Nat) : t.qtz c = s.qtz c := by rw [h.1]; rfl

theorem setReg_issue (s : State) (q p a : Nat) (v : Word) (h : a ∈ issueRegs q p) : IssueWork s (s.setReg a v) q p :=
  ⟨rfl, rfl, rfl, fun _ hx => reg_setReg_ne s v fun e => hx (e ▸ h), fun _ => rfl⟩

theorem setN_issue (s : State) (q p a v : Nat) (h : a ∈ issueRegs q p) : IssueWork s (s.setN a v) q p :=
    setReg_issue s q p a _ h
theorem setBit_issue (s : State) (q p a i : Nat) (b : Bool) (h : a ∈ issueRegs q p) : IssueWork s (s.setBit a i b) q p :=
  setN_issue s q p a _ h
theorem stick_issue (s : State) (q p a i : Nat) (h : a ∈ issueRegs q p) : IssueWork s (s.stick a i) q p :=
  ⟨rfl, rfl, rfl, fun _ hx => reg_setReg_ne _ _ fun e => hx (e ▸ h), fun _ => rfl⟩
theorem inc_issue (s : State) (q p a n : Nat) (h : a ∈ issueRegs q p) : IssueWork s (s.inc a n) q p := setN_issue s q p a _ h

theorem yields_fab (s : State) (r a b c : Nat) (t : BitVec 64) (m o : Nat) : (s.yields r a b c t m o).fab = s.fab := by
  rw [(yields_records s 0 r a b c t m o).1]

theorem mem_stat (q p : Nat) : QTZ_STAT q ∈ issueRegs q p := List.mem_cons_self ..
theorem mem_latecnt (q p : Nat) : QTZ_LATECNT q ∈ issueRegs q p := List.mem_cons_of_mem _ (List.mem_cons_self ..)
theorem mem_slack (q p : Nat) : QTZ_SLACKMIN q ∈ issueRegs q p :=
  List.mem_cons_of_mem _ (List.mem_cons_of_mem _ (List.mem_cons_self ..))
theorem mem_peak (q p : Nat) : SCHED_PEAK p ∈ issueRegs q p :=
  List.mem_cons_of_mem _ (List.mem_cons_of_mem _ (List.mem_cons_of_mem _ (List.mem_cons_self ..)))
theorem mem_setfull (q p : Nat) : GEODE_SETFULL p ∈ issueRegs q p :=
  List.mem_cons_of_mem _ (List.mem_cons_of_mem _ (List.mem_cons_of_mem _ (List.mem_cons_of_mem _ (List.mem_cons_self ..))))

theorem slackNote_issue (s : State) (q p : Nat) :
    IssueWork s (s.slackNote q) q p ∧ (s.slackNote q).fab = s.fab ∧ (s.slackNote q).geo = s.geo := by
  have h1 : ∀ k, IssueWork s (s.lateNote q k) q p ∧ (s.lateNote q k).fab = s.fab ∧ (s.lateNote q k).geo = s.geo := by
    intro k
    unfold State.lateNote
    split
    · refine ⟨(stick_issue s q p _ 14 (mem_stat ..)).trans (inc_issue _ q p _ _ (mem_latecnt ..)), ?_,
        ?_⟩ <;> simp [State.inc]
    · exact ⟨IssueWork.refl .., rfl, rfl⟩
  have h2 : ∀ s : State, ∀ k, IssueWork s (s.slackMin q k) q p ∧ (s.slackMin q k).fab = s.fab ∧
      (s.slackMin q k).geo = s.geo := by
    intro s k
    unfold State.slackMin
    split
    · refine ⟨setN_issue _ q p _ _ (mem_slack ..), ?_, ?_⟩ <;> simp
    · exact ⟨IssueWork.refl .., rfl, rfl⟩
  unfold State.slackNote
  exact ⟨(h1 _).1.trans (h2 _ _).1, (h2 _ _).2.1.trans (h1 _).2.1, (h2 _ _).2.2.trans (h1 _).2.2⟩

theorem requestPage_issue (s : State) (q p n pg u t d : Nat) :
    IssueWork s (s.requestPage p n pg u t d) q p ∧ (s.requestPage p n pg u t d).fab = s.fab := by
  have h1 : ∀ s : State, ∀ b, IssueWork s (s.setFullNote p b) q p ∧ (s.setFullNote p b).fab = s.fab := by
    intro s b
    unfold State.setFullNote
    split
    · exact ⟨inc_issue _ q p _ _ (mem_setfull ..), by simp [State.inc]⟩
    · exact ⟨IssueWork.refl .., rfl⟩
  have h2 : ∀ s : State, ∀ l, IssueWork s (s.pinLoan p l) q p ∧ (s.pinLoan p l).fab = s.fab := by
    intro s l
    unfold State.pinLoan
    split
    · split
      · exact ⟨IssueWork.refl .., rfl⟩
      · exact ⟨(yields_records ..).issue q, yields_fab ..⟩
    · exact ⟨IssueWork.refl .., rfl⟩
  unfold State.requestPage
  split
  · exact ⟨IssueWork.refl .., rfl⟩
  · dsimp only
    generalize hg : s.updGeo _ = s1
    have h0 : IssueWork s s1 q p ∧ s1.fab = s.fab := by
      subst hg; exact ⟨⟨rfl, rfl, rfl, fun _ _ => rfl, fun _ => rfl⟩, rfl⟩
    exact ⟨h0.1.trans ((h1 _ _).1.trans (h2 _ _).1), (h2 _ _).2.trans ((h1 _ _).2.trans h0.2)⟩

theorem requestPages_issue (s : State) (q p n : Nat) (l : List Nat) (u t d : Nat) :
    IssueWork s (s.requestPages p n l u t d) q p ∧ (s.requestPages p n l u t d).fab = s.fab := by
  unfold State.requestPages
  exact forEach_rel (fun a b => IssueWork a b q p ∧ b.fab = a.fab) (fun s => ⟨IssueWork.refl .., rfl⟩)
    (fun a b c h1 h2 => ⟨h1.1.trans h2.1, h2.2.trans h1.2⟩) _ _ _ fun s pg => requestPage_issue ..

theorem addEvent_issue (s : State) (q : Nat) (e : Event) :
    IssueWork s (s.addEvent e) q e.part ∧ (s.addEvent e).geo = s.geo ∧
    (s.addEvent e).fab = { s.fab with events := s.fab.events ++ [{ e with id := s.fab.nextId, lender := s.entLender e.part }]
                                      nextId := s.fab.nextId + 1 } := by
  unfold State.addEvent
  simp only
  generalize hs1 : (State.updFab s _) = s1
  have h1 : IssueWork s s1 q e.part ∧ s1.geo = s.geo ∧ s1.fab = { s.fab with
      events := s.fab.events ++ [{ e with id := s.fab.nextId, lender := s.entLender e.part }]
      nextId := s.fab.nextId + 1 } := by
    subst hs1; exact ⟨⟨rfl, rfl, rfl, fun _ _ => rfl, fun _ => rfl⟩, rfl, rfl⟩
  generalize hs2 : (State.maxReg s1 _ _) = s2
  have h2 : IssueWork s s2 q e.part ∧ s2.geo = s.geo ∧ s2.fab = s1.fab := by
    subst hs2
    unfold State.maxReg
    split
    · exact ⟨h1.1.trans (setN_issue _ q _ _ _ (mem_peak ..)), h1.2.1, rfl⟩
    · exact ⟨h1.1, h1.2.1, rfl⟩
  rw [← h1.2.2]
  split
  · split
    · exact h2
    · rename_i l _ _
      have := yields_records s2 e.part l 2 4 2 0#64 1 e.part
      refine ⟨h2.1.trans (this.issue q), ?_, ?_⟩
      · rw [this.1]; exact h2.2.1
      · rw [this.1]; exact h2.2.2
  · exact h2

theorem acceptEvent_issue (s : State) (q p : Nat) (k : EvKind) (w : BitVec 64) (o : BitVec 48) :
    IssueWork s (s.acceptEvent q p k w o) q p ∧ (s.acceptEvent q p k w o).geo = s.geo ∧
    (s.acceptEvent q p k w o).fab = { s.fab with
      events := s.fab.events ++ [{ s.cursorEvent q p k with id := s.fab.nextId, lender := s.entLender p }]
      nextId := s.fab.nextId + 1 } := by
  unfold State.acceptEvent
  simp only
  have h1 := addEvent_issue s q (s.cursorEvent q p k)
  generalize s.addEvent (s.cursorEvent q p k) = s1 at h1
  have h2 := updJob_records s1 p p fun j => { j with lastEvent := max j.lastEvent (s.cursorEvent q p k).inst }
  generalize s1.updJob p _ = s2 at h2
  have h3 := journal_records s2 p (jentry 2 q 0 (s.cursorEvent q p k).shot
    (s2.tagOf { s.cursorEvent q p k with id := s2.fab.nextId - 1 }) (lo32 w.toNat) (hi32 w.toNat) (lo32 o.toNat) (hi32 o.toNat))
  generalize s2.journal p _ = s3 at h3
  refine ⟨(h1.1.trans (h2.issue q)).trans (h3.issue q), ?_, ?_⟩
  · rw [h3.1, h2.1]; exact h1.2.1
  · rw [h3.1, h2.1]; exact h1.2.2

/-- The pulse that a pulse-start event at core `q`'s cursor makes. -/
def State.newPulse (s : State) (q p f obj ch : Nat) (gain : BitVec 16) (cw : Bool) (o : Obj) : Pulse :=
  { id := s.fab.nextId, part := p, ch := ch, frame := f, obj := obj, gain := gain, start := (s.qtz q).tl
    rsvFrom := (s.qtz q).tl / 32 - 2, rsvTo := o.maxlen.map fun m => rsvEnd (s.qtz q).tl m o.ratio, cw := cw
    shot := if (s.qtz q).inShot then (s.qtz q).shotNo else 0, attempt := if (s.qtz q).inShot then (s.qtz q).attempt else 0 }

theorem startPulse_issue (s : State) (q p f obj ch : Nat) (gain : BitVec 16) (cw : Bool) (w : BitVec 64) (o : Obj)
    (ho : s.obj obj = some o) (hf : o.forever = cw) (hm : cw = true → (s.part p).mode ≠ .shot) (hd : o.damaged = false)
    (hr : s.bit (OCH_STAT ch) 3 = false)
    (hl : s.laneFits ch ((s.qtz q).tl / 32 - 2) (o.maxlen.map fun m => rsvEnd (s.qtz q).tl m o.ratio) = true) :
    let t := s.startPulse q p f obj ch gain cw w
    IssueWork s t q p ∧ t.fab = { s.fab with
      events := s.fab.events ++
        [{ s.cursorEvent q p (.play f obj ch gain cw) with id := s.fab.nextId, lender := s.entLender p }]
      nextId := s.fab.nextId + 1, pulses := s.fab.pulses ++ [s.newPulse q p f obj ch gain cw o] } := by
  intro t
  have hb : (o.forever != cw || (cw && (s.part p).mode == .shot)) = false := by
    rw [hf]; cases cw <;> simp; simpa using hm
  have : t = s.startPulse q p f obj ch gain cw w := rfl
  unfold State.startPulse at this
  simp only [ho, hb, hd, hr, hl, Bool.false_eq_true, if_false, Bool.not_true] at this
  have h1 := acceptEvent_issue s q p (.play f obj ch gain cw) w 0#48
  generalize s.acceptEvent q p (.play f obj ch gain cw) w 0#48 = s1 at h1 this
  generalize hs2 : (State.updFab s1 _) = s2 at this
  have h2 : IssueWork s1 s2 q p ∧ s2.fab = { s1.fab with pulses := s1.fab.pulses ++
      [s.newPulse q p f obj ch gain cw o] } := by
    subst hs2; exact ⟨⟨rfl, rfl, rfl, fun _ _ => rfl, fun _ => rfl⟩, rfl⟩
  have h3 := requestPages_issue s2 q p obj (o.headSet 2048) s.fab.nextId pinOpen ((s.qtz q).tl / 32 - 38)
  rw [← this] at h3
  refine ⟨(h1.1.trans h2.1).trans h3.1, ?_⟩
  rw [h3.2, h2.2, h1.2.2]

end Sys2Proof.Machine
end

