-- ==== Sys2Proof/WellFormed.lean ====
section
/-!
DEFINITION. Which commands are well formed: the operands that their types do not bound lie within what the spec lets the
outside bring. A meaning does not ask for it; what falls outside is no event that the spec describes.
-/
namespace Sys2Proof

/-- `x` fits an n-bit signed field. -/
def signed (n : Nat) (x : Int) : Bool := decide (-(2 : Int) ^ (n - 1) ≤ x) && decide (x < (2 : Int) ^ (n - 1))

/-- Readings of the eight temperature sensors at most (19 R523). -/
def sensors (l : List Int) : Bool := !l.isEmpty && decide (l.length ≤ 8)

/-- A library object and a page of it (05 R160, R161). -/
def libPage (obj page : Nat) : Bool := decide (obj < 65536) && decide (page < 2 ^ 19)

/-- A page of the DRAM's 25-bit page number (11 R349). -/
def dramPage (page : Nat) : Bool := decide (page < 2 ^ 25)

/-- Whether the reader of a burst is one that exists (11 R345). -/
def Reader.wellFormed : Reader → Bool
  | .fill obj page => libPage obj page
  | .fetch _ | .journal .. | .garnet .. | .drain _ | .window | .scrub => true

/-- Whether an access can have `size` bytes: PCI Express reads and writes of 1 to 4,096. -/
def accessSize (size : Nat) : Bool := decide (1 ≤ size) && decide (size ≤ 4096)

/-- Whether a command's operands are in range. -/
def Instr.wellFormed : Instr → Bool
  | .bootFlash _ jedec => decide (jedec.toNat < 2 ^ 24)
  | .bootDdr chans => decide (chans.length ≤ 8)
  | .bootBias inputs => decide (inputs.length ≤ 48)
  | .thermalWarning temps => sensors temps
  | .thermalShutdown temps => sensors temps
  | .thermalRecovery temps => sensors temps
  | .calAreaWrite training _ => decide (training.length ≤ 0x80000)
  | .timeRemeasure residual => signed 32 residual
  | .timeSync _ _ residual => signed 32 residual
  | .jobTake _ desc _ => match desc with | some d => decide (d.length ≤ 64) | none => true
  | .fillComplete obj page _ => libPage obj page
  | .usePinRelease obj page => libPage obj page
  | .libLoad _ _ image => match image with | some l => decide (l.length < 2 ^ 32) | none => true
  | .inputBlock _ samples => samples.length == 16
  | .judgement _ inputs => decide (inputs.length ≤ 48)
  | .hardwareError _ _ cause => decide (cause < 256)
  | .attach _ block => decide (block.length ≤ 64)
  | .armRaw _ block => decide (block.length ≤ 64)
  | .disarm _ block => decide (block.length ≤ 64)
  | .detach _ block => decide (block.length ≤ 64)
  | .gapClose _ cause src => decide (cause < 256) && decide (src < 256)
  | .meshBulk _ _ _ rseq _ => decide (rseq < 2 ^ 32)
  | .hostResume _ inputs => decide (inputs.length ≤ 48)
  | .correctedRead _ page => dramPage page
  | .uncorrectableRead _ page reader => dramPage page && reader.wellFormed
  | .writeCrcError _ page _ repeats => dramPage page && decide (1 ≤ repeats) && decide (repeats ≤ 5)
  | .ptpAnnounce _ _ _ logInterval => decide (-3 ≤ logInterval) && decide (logInterval ≤ 4)
  | .ptpSync _ _ _ _ _ _ logInterval => decide (-7 ≤ logInterval) && decide (logInterval ≤ 1)
  | .neighbourRefresh _ _ row => decide (row < 2 ^ 16)
  | .pageRemap page => dramPage page
  | .deepExitDone chans => decide (chans.length ≤ 8)
  | .flintLatchWrite _ inputs => decide (inputs.length ≤ 48)
  | .hkConversionDone _ samples _ => decide (1 ≤ samples.length) && decide (samples.length ≤ 256) && samples.all (signed 14)
  | .hkTempInsert temps => temps.length == 8 && temps.all (signed 18)
  | .calRunComplete newStore => decide (newStore.length ≤ 72064)
  | .registerWrite _ _ size _ => accessSize size
  | .timeNowLoRead r | .qtzTlLoRead r _ | .strataJheadLoRead r _ | .ptpNowDtLoRead r | .ptpAncSecLoRead r _ =>
    accessSize r.size
  | .journalWindowRead r => accessSize r.size
  | .coldReset | .warmReset | .perstLinkReset | .bootWait | .bootPll .. | .bootD2d .. | .bootImage | .bootLock
    | .bootCalapply | .trainingRecordRewrite .. | .railUndervoltage | .operatorHoldPress | .operatorHoldLongpress
    | .operatorHoldRelease | .configOverride .. | .flRead .. | .flErase .. | .flProgram .. | .flCopycal ..
    | .flashCommandDone .. | .flr .. | .partReset .. | .partitionResetDone .. | .testEnter | .testend | .epochArm ..
    | .epochCapture | .epochLoadCommand | .syncOutRepeat | .epochTileLoad | .epochValidSet | .syncOutGenerate
    | .followerEpochLoad
    | .refLost | .refLockReturn .. | .timeParentTimeout | .timeProbe .. | .timeEcho ..
    | .timeEpoch .. | .jobEnd .. | .nop .. | .halt .. | .wait .. | .waituntil .. | .play .. | .playcw ..
    | .playcwStop .. | .setf .. | .setph .. | .shiftph .. | .meas .. | .br .. | .brv .. | .brd .. | .brdResume ..
    | .loop .. | .endl .. | .call .. | .ret .. | .shot .. | .shotStart .. | .endshot .. | .sync .. | .syncComplete ..
    | .syncTimeout .. | .setbias .. | .emitv .. | .add .. | .sub .. | .and_ .. | .or_ .. | .xor_ .. | .shl ..
    | .shr .. | .sra .. | .mul .. | .min_ .. | .max_ .. | .mov .. | .addp .. | .subp .. | .addi .. | .subi ..
    | .andi .. | .ori .. | .xori .. | .shli .. | .shri .. | .srai .. | .muli .. | .mini .. | .maxi .. | .ldi ..
    | .movs .. | .rnd .. | .lookaheadStallEnd .. | .icacheMissFill .. | .qtzCoreReset .. | .schedStallEnd ..
    | .eventDispatch .. | .eventArrive .. | .eventRelease .. | .laneBind .. | .unmute .. | .frameWriteApply ..
    | .deferredFrameWrite .. | .muteApply .. | .granuleDue .. | .outputLimitTrip .. | .jumpRegister ..
    | .segmentPassEnd .. | .libDelete .. | .libPin .. | .libUnpin .. | .libDeleteAll .. | .windowEventArrive ..
    | .windowBind .. | .settlingEnd .. | .ichTrimUpdate .. | .windowStart .. | .laneFifoSample .. | .micaNop ..
    | .micaEnd .. | .micaRep .. | .micaBr .. | .micaBrc .. | .micaDjnz .. | .micaMacw .. | .micaMacx .. | .micaAccs ..
    | .micaMacm .. | .micaMacr .. | .micaClra .. | .micaAdda .. | .micaIn .. | .micaLd .. | .micaSt .. | .micaLdi ..
    | .micaSeta .. | .micaAdd .. | .micaSub .. | .micaAnd .. | .micaOr .. | .micaXor .. | .micaShl .. | .micaShr ..
    | .micaSra .. | .micaCmul .. | .micaAbs2 .. | .micaMov .. | .micaCmp .. | .micaLatch .. | .micaDisc ..
    | .micaSetst .. | .micaEmit .. | .micaOuts .. | .micaEmitr .. | .micaRda .. | .micaRds .. | .micaCoreReset ..
    | .micaConstantWrite .. | .resultArrive .. | .bindingCommit .. | .meshResult .. | .decideDue | .forwardTimeout ..
    | .meshBarrier .. | .meshVerdict .. | .meshSeam .. | .probeShot .. | .trkFreeze .. | .trkRestart ..
    | .decodePass .. | .decodePassEnd .. | .pauliFrameWrite .. | .decodeLate .. | .journalWrite ..
    | .verdictTimeout .. | .recordRelease .. | .coalescePeriodEnd .. | .reservationHeld .. | .softwareTrigger ..
    | .trigIn .. | .burstComplete .. | .samplesFlush .. | .ringDrain .. | .jobDoorbell .. | .resultDoorbell ..
    | .captureDoorbell .. | .ringEnable .. | .holdRequest .. | .eventDoorbell .. | .eventRingEnable ..
    | .recordWrite .. | .irqModeration .. | .memRefresh .. | .mr4Poll .. | .zqCalibration .. | .dqsTracking ..
    | .memScrub .. | .rowIdleClose .. | .deepReq | .deepEntry | .deepExit | .portPresent .. | .laneTrained ..
    | .identify .. | .meshIdent .. | .portAbsent .. | .signalLost .. | .laneRetrain .. | .alignmentLoss ..
    | .meshAck .. | .meshNak .. | .retryExhausted .. | .txsleep .. | .rxsleep .. | .sleepNotice .. | .meshTest ..
    | .followUp .. | .delayResp .. | .delayReq .. | .followUpTimeout ..
    | .masterLoss .. | .ptpSwitch .. | .setbiasArrive .. | .biasFrame .. | .slewStep .. | .biasSpanWrite ..
    | .spanSwitch .. | .spanUp .. | .biasShort .. | .biasRailLoss | .flintTrip .. | .flintPeriodClear ..
    | .flintTestRun .. | .flintTestStep .. | .hkScanStart | .outputTrimUpdate .. | .hkInj .. | .calRun ..
    | .calCommit .. | .calSaveTrack .. | .calAbort .. | .ochCntclr .. | .ichCntclr .. | .qtzCntclr ..
    | .micaCntclr .. | .geodeCntclr .. | .schedCntclr .. | .strataCntclr .. | .decCntclr | .garnetCntclr ..
    | .capRcntclr .. | .capPtrigClear .. | .memCntclr .. | .meshCntclr .. | .biasCntclr .. | .hkCntclr
    | .resetNRelease | .laneSignalDetect .. | .laneRealign .. | .parentSyncSend .. | .rxsleepRequest .. | .laneWake ..
    | .pcieLinkDown | .pcieLinkUp .. | .powerStateChange .. | .modulePresence .. | .extest .. | .clampClose ..
    | .refClearUnmute => true

end Sys2Proof
end

