-- ==== Sys2Proof/Tests/Slice0.lean ====
section
/-!
SUPPORT. Tests of the model: ill-formed commands that the check refuses, states that meet the hypotheses of each
statement, and worked examples of the spec.
-/
set_option Elab.async false

namespace Sys2Proof.Tests
open Sys2Proof.Machine

/-! Small states. -/

/-- The device after a boot, with nothing configured. -/
def base : State := { State.reset with mode := .run, boot := { held := false } }

/-- Partition 0 owns the first of each resource, and cores 0 and 1. -/
def owned : State :=
  { ((((((((base.setN (QTZ_CFG 0) 8).setN (QTZ_CFG 1) 8).setN (OCH_CTRL 0) 0x800).setN (ICH_CTRL 0) 0x800).setN
    (MICA_CFG 0) 8).setN (DEC_SLOTCFG 0) 8).setN (BIAS_CFG 0) 8).setN (GEODE_OBJRANGE 0) 0xF0000) with
    frameOwner := [(1, 1)] }

/-- A program of four instructions: NOP, NOP, ENDL, ENDSHOT. -/
def job : Job :=
  { code := [0#64, 0#64, 0x1D00000000000000#64, 0x2100000000000000#64], descs := [{ dframe := 1, wofs := 64, wlen := 100 }] }

/-- Core 0 runs that program for partition 0. -/
def quartz (m : PMode) (q : Core := {}) (a : Attempt := {}) : State :=
  { owned with cores := [(0, { q with st := .running, part := true })], parts := [(0, { mode := m, job := some job, attempt := a })] }

/-- Core 0 is in a shot that began at tick 1,000. -/
def inShot (q : Core := {}) : State := quartz .shot { q with inShot := true, tl := 64000 } { active := true, s := 1000 }

/-- The state at tick `t`. -/
def atTick (t : Nat) (s : State) : State := { s with time := { s.time with dtime := BitVec.ofNat 64 t } }

/-! What the statements assume, met by these states. -/

theorem wit_step : (State.reset.withFront .bootLock).pending = .bootLock :: [] := rfl

theorem wit_flash : step State.reset = .next (tick State.reset) ∧ State.reset.flashWf := ⟨rfl, by decide⟩

theorem wit_tick : base.pending = [] ∧ base.heldOff = false ∧ base.mode ≠ .boot ∧ base.mode ≠ .failed ∧
    State.reset.pending = [] ∧ State.reset.heldOff = true ∧
    ({ base with mode := .boot } : State).mode = .boot ∧ ({ base with mode := .boot } : State).boot.biasWait = false := by decide

theorem wit_tag_time : 2 ^ 24 < 2 ^ 24 + 1 + 2 ^ 23 ∧ 2 ^ 24 + 1 < 2 ^ 24 + 2 ^ 23 := by decide

theorem wit_fetch : base.qtzLive 0 = none ∧
    (quartz .stream { pc := 4 }).qtzLive 0 = some 0 ∧ (quartz .stream { pc := 4 }).codeLen 0 ≤ 4 ∧
    (inShot).qtzOwner 0 = some 0 ∧ 0 < (inShot).nQtz ∧ 0 < (inShot).nPart ∧ ((inShot).part 0).mode ≠ .hold ∧
    1 ∈ (inShot).qtzOf 0 ∧
    (let far := quartz .stream { paged := true }
     far.qtzLive 0 = some 0 ∧ (far.qtz 0).pc < far.codeLen 0 ∧ (far.qtz 0).cached = false) ∧
    (let odd : State := { quartz .stream with parts := [(0, { mode := .stream, job := some { job with code := [0xFF00000000000000#64] } })] }
     odd.qtzLive 0 = some 0 ∧ (odd.qtz 0).pc < odd.codeLen 0 ∧ (odd.qtz 0).cached = true ∧ odd.reservedAt 0 (odd.qtz 0).pc = true) := by
  decide

theorem wit_executes : (quartz .stream).executes 0 0 ∧ (inShot).executes 0 0 ∧ (2#6).toNat % 2 = 0 := by decide

theorem wit_halt : ((inShot).qtz 0).inShot = true ∧ ((quartz .stream).qtz 0).inShot = false ∧
    ∀ d ∈ (quartz .stream).cast 0, ((quartz .stream).qtz d).atShot = false ∧ ((quartz .stream).qtz d).syncId = none := by decide

theorem wit_loops :
    let s := quartz .stream
    let full := quartz .stream { loops := List.replicate 8 { left := 2, start := 0, stop := 2 } }
    let inner := quartz .stream { pc := 2, loops := [{ left := 2, start := 0, stop := 2 }] }
    let last := quartz .stream { pc := 2, loops := [{ left := 1, start := 0, stop := 2 }] }
    let wrong := quartz .stream { pc := 1, loops := [{ left := 2, start := 0, stop := 2 }] }
    (s.executes 0 0 ∧ s.opcodeAt 0 (0 + 0 + 1) ≠ some 0x1D) ∧
    (s.opcodeAt 0 (0 + 1 + 1) = some 0x1D ∧ (s.vr 0 63).toNat = 0 ∧ (5#32 : Word).toNat ≠ 0 ∧ (s.qtz 0).loops.length < 8) ∧
    (full.executes 0 0 ∧ 8 ≤ (full.qtz 0).loops.length) ∧ (s.qtz 0).loops = [] ∧
    (inner.executes 0 0 ∧ (inner.qtz 0).loops = { left := 2, start := 0, stop := 2 } :: [] ∧ (2 : Nat) = (inner.qtz 0).pc ∧ 1 < 2) ∧
    (last.executes 0 0 ∧ (last.qtz 0).loops = { left := 1, start := 0, stop := 2 } :: []) ∧
    (wrong.executes 0 0 ∧ (2 : Nat) ≠ (wrong.qtz 0).pc) := by decide

theorem wit_calls :
    let full := quartz .stream { calls := List.replicate 16 {} }
    let one := quartz .stream { calls := [{ ret := 1, depth := 0 }] }
    (quartz .stream).executes 0 0 ∧ ((quartz .stream).qtz 0).calls = [] ∧ ((quartz .stream).qtz 0).calls.length < 16 ∧
    full.executes 0 0 ∧ 16 ≤ (full.qtz 0).calls.length ∧
    one.executes 0 0 ∧ (one.qtz 0).calls = { ret := 1, depth := 0 } :: [] ∧ 0 ≤ (one.qtz 0).loops.length := by decide

/-- An object of one granule segment of 4 granules. -/
def wave (ever : Bool := false) : Obj :=
  { segs := [{ forever := ever }], maxlen := if ever then none else some 4, npages := 1, sets := [0] }

/-- The state with object 0 loaded and its page resident. -/
def loaded (s : State) (ever : Bool := false) : State :=
  { s with geo := { s.geo with objs := [(0, some (wave ever))], pages := [{ filled := true }] } }

theorem wit_pulses :
    let s := loaded inShot
    let t := loaded (quartz .stream { tl := 6400 }) true
    (s.executes 0 0 ∧ s.mayIssue 0 0 1 ∧ s.frameOwn 1 = some 0 ∧ s.ochUsable 0 0 = true ∧ s.objUsable 0 0 = true ∧
      s.obj 0 = some (wave) ∧ wave.damaged = false ∧ s.bit (OCH_STAT 0) 3 = false ∧ wave.forever = false ∧
      s.laneFits 0 ((s.qtz 0).tl / 32 - 2) (wave.maxlen.map fun m => rsvEnd (s.qtz 0).tl m wave.ratio) = true) ∧
    (t.executes 0 0 ∧ t.mayIssue 0 0 1 ∧ t.frameOwn 1 = some 0 ∧ t.ochUsable 0 0 = true ∧ t.objUsable 0 0 = true ∧
      t.obj 0 = some (wave true) ∧ (wave true).forever = true ∧ (t.part 0).mode = .stream ∧
      t.laneFits 0 ((t.qtz 0).tl / 32 - 2) ((wave true).maxlen.map fun m => rsvEnd (t.qtz 0).tl m (wave true).ratio) = true) := by
  decide

theorem wit_frame_writes : (inShot).executes 0 0 ∧ (inShot).mayIssue 0 0 1 ∧ (inShot).frameOwn 1 = some 0 ∧
    (inShot).freqTarget 1 = false ∧ (2#6).toNat % 2 = 0 := by decide

theorem wit_meas :
    let s := loaded inShot
    let probe : Desc := { dframe := 1, poch := 0, wofs := 64, wlen := 100 }
    let t : State := loaded { inShot with parts := [(0, { (inShot).part 0 with job := some { job with descs := [probe] } })] }
    (s.executes 0 0 ∧ s.mayIssue 0 0 1 ∧ (s.part 0).job = some job ∧ job.descs[0]? = some { dframe := 1, wofs := 64, wlen := 100 } ∧
      s.slotOwner 0 = some 0 ∧ s.fld (DEC_SLOTCFG 0) 5 4 = 0 ∧ (s.slot 0).queue.length < 4 ∧ s.garnetFull 0 0 = false ∧
      s.bit (ICH_STAT 0) 3 = false ∧
      (s.err (resource 5 0)).retired = false ∧
      s.demodFits { s.mkWindow 0 0 0 { dframe := 1, wofs := 64, wlen := 100 } with id := s.fab.nextId + 0 } = true) ∧
    (t.executes 0 0 ∧ t.mayIssue 0 0 2 ∧ (t.part 0).job = some { job with descs := [probe] } ∧ t.ochUsable 0 0 = true ∧
      t.objUsable 0 0 = true ∧ t.obj 0 = some (wave) ∧ wave.forever = false ∧ t.bit (OCH_STAT 0) 3 = false ∧
      t.demodFits { t.mkWindow 0 0 0 probe with id := t.fab.nextId + 1 } = true ∧
      t.laneFits 0 ((t.qtz 0).tl / 32 - 2) (wave.maxlen.map fun m => rsvEnd (t.qtz 0).tl m wave.ratio) = true) := by
  decide

theorem wit_setbias :
    let s := quartz .shot
    let t := quartz .stream
    (s.executes 0 0 ∧ s.biasOwner 0 = some 0 ∧ (s.qtz 0).inShot = false ∧
      (s.qtz 0).tl / 32 ≤ s.now + s.fld (TIME_LOOKAHEAD 0) 19 0 ∧ s.time.lost = false ∧
      s.canTake 0 1 (s.begun 0 0 && s.inLine 0 ((s.qtz 0).asked.getD s.now)) = true) ∧
    ((inShot).biasOwner 0 = some 0 ∧ ((inShot).part 0).mode = .shot ∧ ((inShot).qtz 0).inShot = true) ∧
    (t.executes 0 0 ∧ (t.part 0).mode = .stream ∧ t.biasOwner 0 = some 0 ∧ t.time.lost = false ∧
      t.canTake 0 1 (t.begun 0 0 && t.inLine 0 ((t.qtz 0).asked.getD t.now)) = true) := by decide

theorem wit_emitv : (60#6).toNat + (3#2).toNat ≤ 63 ∧ ((inShot).part 0).mode = .shot ∧ ((inShot).qtz 0).inShot = true ∧
    ((quartz .stream).qtz 0).tl / 32 ≤ (quartz .stream).now ∧
    (quartz .stream { tl := 32 }).now < ((quartz .stream { tl := 32 }).qtz 0).tl / 32 := by decide

theorem wit_waituntil :
    let idle := fun a : Attempt => quartz .shot {} a
    let before : State := { quartz .shot with parts := [(0, { mode := .shot, job := some job, shotE := some 5 })] }
    let probe : State := { quartz .shot with
      parts := [(0, { mode := .shot, job := some job, shotE := some 5, attempt := { active := true }, probe := some (0, true) })] }
    (inShot).executes 0 0 ∧ (32#6).toNat ≤ 32 ∧ 32 < (33#6).toNat ∧ ((inShot).qtz 0).inShot = true ∧
    (1#56).extractLsb' 0 8 ≠ 0#8 ∧
    ((idle { active := true }).executes 0 0 ∧ ((idle { active := true }).part 0).attempt.e = none ∧
      ((idle { active := true }).part 0).probe = none) ∧
    (before.executes 0 0 ∧ (before.part 0).attempt.active = false ∧ (before.part 0).shotE = some 5) ∧
    (probe.executes 0 0 ∧ (probe.part 0).probe ≠ none ∧ (probe.part 0).shotE = some 5) ∧
    ((idle {}).executes 0 0 ∧ ((idle {}).part 0).shotE = none ∧ ((idle {}).part 0).job = some job) := by decide

theorem wit_brd :
    let made : State := { inShot { made := [(0, 1, 0)] } with slots := [(0, { hist := [(1, 2, 500)] })] }
    let open_ : State := { inShot { made := [(0, 1, 0)] } with slots := [(0, { queue := [{ id := 1 }] })] }
    let wait : State := { atTick 506 inShot with
      cores := [(0, { st := .stallBrd, part := true, brd := some { binding := 1 } })]
      slots := [(0, { hist := [(1, 2, 500)] })] }
    (made.executes 0 0 ∧ made.slotOwner 0 = some 0 ∧ made.brdBinding 0 0 0 = some 1 ∧ made.bindingState 0 1 = some (2, 500)) ∧
    ((inShot).executes 0 0 ∧ (inShot).slotOwner 0 = some 0 ∧ (inShot).brdBinding 0 0 0 = none) ∧
    (open_.executes 0 0 ∧ open_.slotOwner 0 = some 0 ∧ open_.brdBinding 0 0 0 = some 1 ∧ open_.bindingState 0 1 = none) ∧
    ((wait.qtz 0).brd = some { binding := 1 } ∧ wait.bindingState 0 1 = some (2, 500) ∧ (wait.qtz 0).st = .stallBrd ∧
      500 + 6 ≤ wait.now ∧ (atTick 505 wait).now < 500 + 6) := by decide

theorem wit_stalls :
    let s := fun (st : CoreSt) (op : BitVec 8) (tl : Nat) => ({ inShot with cores :=
      [(0, { st := st, part := true, inShot := true, held := some (op ++ 0#56), tl := tl })] } : State)
    (∀ op ∈ [0x08#8, 0x09#8, 0x0C#8, 0x0D#8, 0x0E#8, 0x10#8, 0x28#8],
      (s .stallLa op 6400).qtzOwner 0 = some 0 ∧ ((s .stallLa op 6400).qtz 0).held = some (op ++ 0#56) ∧
      ((s .stallLa op 6400).qtz 0).tl / 32 ≤ (s .stallLa op 6400).now + (s .stallLa op 6400).fld (TIME_LOOKAHEAD 0) 19 0 ∧
      (s .stallSched op 6400).now + 58 ≤ ((s .stallSched op 6400).qtz 0).tl / 32) ∧
    ¬ ((s .stallLa 8#8 (2 ^ 40)).qtz 0).tl / 32 ≤
      (s .stallLa 8#8 (2 ^ 40)).now + (s .stallLa 8#8 (2 ^ 40)).fld (TIME_LOOKAHEAD 0) 19 0 ∧
    (((s .stallSched 8#8 32).qtz 0).tl / 32 < (s .stallSched 8#8 32).now + 58 ∧ ((s .stallSched 8#8 32).part 0).mode = .shot ∧
      ((s .stallSched 8#8 32).part 0).attempt.active = true) := by decide

theorem wit_core_commands :
    (let miss : State := { quartz .stream with cores := [(0, { st := .stallFetch, part := true, paged := true })] }
     let load := quartz .stream { paged := true, loading := true }
     miss.qtzOwner 0 = some 0 ∧ (miss.qtz 0).st = .stallFetch ∧ load.qtzOwner 0 = some 0 ∧ (load.qtz 0).st ≠ .stallFetch ∧
       (load.qtz 0).loading = true ∧ base.qtzOwner 0 = none) ∧ owned.opened ∧ 0 < owned.nQtz ∧
    (∀ p, owned.qtzOwner 0 = some p → (owned.part p).mode = .hold) := by
  refine ⟨by decide +kernel, by decide +kernel, by decide +kernel, ?_⟩
  intro p h
  have : p = 0 := by
    have h0 : owned.qtzOwner 0 = some 0 := by decide +kernel
    exact Option.some.inj (h.symm.trans h0)
  subst this; decide +kernel

theorem wit_shot :
    let wait : State := { quartz .shot with cores := [(0, { st := .stallShot, part := true, atShot := true, tl := 320 })] }
    ((quartz .shot).executes 0 0 ∧ ((quartz .shot).qtz 0).inShot = false ∧ (quartz .shot).cast 0 = [0]) ∧
    (wait.atBarrier 0 = true ∧ wait.shotHolds 0 = [] ∧ wait.codeLoads 0 = false ∧ wait.time.lost = false ∧ (wait.part 0).holdReq = none ∧
      wait.spanOf 0 = none ∧ (wait.part 0).replay = false) := by decide +kernel

theorem wit_endshot :
    let s := inShot { pc := 3, shotPc := 1 }
    let two : State := { s with cores := s.cores ++ [(1, { st := .running, part := true, inShot := true })] }
    (s.executes 0 0 ∧ (s.part 0).mode = .shot ∧ (s.qtz 0).inShot = true ∧ s.endshotAt 0 1 = some 3 ∧
      (s.qtz 0).loops.length = (s.qtz 0).shotLoops ∧ (s.qtz 0).calls.length = (s.qtz 0).shotCalls ∧ (s.qtz 0).part = true ∧
      ∀ d ∈ s.cast 0, d ≠ 0 → (s.qtz d).ended = true ∧ (s.qtz d).st ≠ .stallShot) ∧
    (two.executes 0 0 ∧ two.endshotAt 0 1 = some 3 ∧ ∃ d ∈ two.cast 0, d ≠ 0 ∧ (two.qtz d).ended = false) ∧
    (quartz .stream).executes 0 0 ∧ ((quartz .shot).executes 0 0 ∧ ((quartz .shot).qtz 0).inShot = false) := by decide

theorem wit_sync :
    let s := atTick 4 inShot
    let both : State := { s with cores := [(0, { st := .stallSync, part := true, syncId := some 3, inShot := true })] }
    let two : State := { both with cores := both.cores ++ [(1, { st := .running, part := true, inShot := true })] }
    (s.executes 0 0 ∧ ∀ d ∈ s.cast 0, d ≠ 0 → (s.qtz d).st ≠ .halted ∧ (s.qtz d).syncSpan = false ∧
      ∀ x, (s.qtz d).arrived 0 = some x → x.1 = 3) ∧
    (both.waitAt 0 0 ≠ [] ∧ (∀ d ∈ both.cast 0, (both.qtz d).syncId ≠ none → 0 ≤ (both.qtz d).passed) ∧ both.spanAt 0 0 = false ∧
      (∀ d ∈ both.cast 0, (both.qtz d).arrived 0 ≠ none) ∧ (∀ d ∈ both.waitAt 0 0, (both.qtz d).syncAt + 4 ≤ both.now) ∧
      (∃ d ∈ both.waitAt 0 0, (atTick 3 both).now < (both.qtz d).syncAt + 4) ∧ ∃ d ∈ two.cast 0, (two.qtz d).arrived 0 = none) ∧
    (0 < both.nQtz ∧ both.qtzOwner 0 = some 0 ∧ (both.qtz 0).syncId ≠ none ∧ both.spanAt 0 (both.qtz 0).passed = false ∧
      both.now < (both.qtz 0).syncAt + both.fld (QTZ_SYNCTMO 0) 19 0 ∧
      (both.qtz 0).syncAt + (atTick (2 ^ 20) both).fld (QTZ_SYNCTMO 0) 19 0 ≤ (atTick (2 ^ 20) both).now ∧
      (both.qtz 0).inShot = true ∧ (both.qtz 0).part = true ∧ (both.part 0).attempt.active = true ∧
      (two.qtz 1).arrived (two.qtz 0).passed = none) ∧
    (let out : State := { both with cores := [(0, { st := .stallSync, part := true, syncId := some 3 })] }
     (out.qtz 0).inShot = false ∧ out.qtzOwner 0 = some 0) := by decide

/-- `inShot` at tick `t` with the events, pulses and windows given. -/
def withFab (t : Nat) (ev : List Event) (pu : List Pulse := []) (wi : List Window := []) (m : PMode := .shot) : State :=
  let s := if m = .shot then inShot else quartz .stream
  { atTick t s with fab := { events := ev, pulses := pu, wins := wi, nextId := 9 } }

def play : Event := { id := 1, inst := 32000, kind := .play 1 0 0 0x7FFF#16 false }

theorem wit_dispatch :
    let s := fun (t : Nat) (k : EvKind) => withFab t [{ play with kind := k }]
    ((s 800 play.kind).portNext 0 = some play ∧ (s 800 play.kind).time.lost = false ∧ play.tick ≤ (s 800 play.kind).now + 256 ∧
      (s 942 play.kind).now + 58 ≤ play.tick ∧ play.tick < (s 943 play.kind).now + 58 ∧ play.isMute = false ∧
      (s 743 play.kind).now + 256 < play.tick ∧
      ∀ x ∈ (s 800 play.kind).fab.events, (s 800 play.kind).portOf x = 0 → x.stage ≠ .transit ((s 800 play.kind).now + 10)) ∧
    ((s 999 (.mute 0)).portNext 0 = some { play with kind := .mute 0 } ∧ ({ play with kind := .mute 0 } : Event).isMute = true) := by
  decide +kernel

theorem wit_arrival :
    let e := { play with stage := .transit 952 }
    let m := { e with kind := .mute 0 }
    ((withFab 952 [e]).event 1 = some e ∧ e.stage = .transit 952 ∧ e.isMute = false ∧ 952 ≤ (withFab 952 [e]).now ∧
      (withFab 951 [e]).now < 952 ∧ (withFab 952 [e]).now + 48 ≤ e.tick ∧ e.tick < (withFab 953 [e]).now + 48 ∧
      ((withFab 953 [e]).part 0).mode = .shot ∧ ((withFab 953 [e]).part 0).attempt.active = true) ∧
    ((withFab 953 [m]).event 1 = some m ∧ m.isMute = true ∧ (withFab 953 [m]).inOrder m 952 = true ∧ m.tick < 953 + 48 ∧
      952 + 48 ≤ m.tick) ∧
    (withFab 952 [e]).inOrder e 952 = true ∧ (withFab 953 [e]).inOrder e 952 = true ∧
    (let f : Event := { e with id := 2, stage := .transit 951 }
     f ∈ (withFab 952 [e, f]).fab.events ∧ (withFab 952 [e, f]).portOf f = (withFab 952 [e, f]).portOf e) ∧
    (∀ w, e.kind ≠ .window w) ∧ (∀ n v, e.kind ≠ .setbias n v) := by
  refine ⟨by decide +kernel, by decide +kernel, by decide +kernel, by decide +kernel, by decide +kernel, ?_, ?_⟩ <;> intros <;>
    intro h <;> cases h

theorem wit_release :
    let e := { play with stage := .tile }
    let on := fun k => withFab 962 [{ e with kind := k }]
    let u : Pulse := { id := 1, start := 32000, playing := true, rsvFrom := 998 }
    ((on e.kind).event 1 = some e ∧ e.tick ≤ (on e.kind).now + 38 ∧ (withFab 961 [e]).now + 38 < e.tick) ∧
    ((on (.stop 1 0)).event 1 = some { e with kind := .stop 1 0 } ∧ (on (.setf 1 0#48)).event 1 = some { e with kind := .setf 1 0#48 }) ∧
    (let s := withFab 998 [] [u]
     let r : State := { s with errs := [(resource 2 0, { retired := true })] }
     s.pulse 1 = some u ∧ u.lane = none ∧ u.start / 32 ≤ s.now + 2 ∧ 0 < s.tones 0 ∧ 0 ∉ s.lanesBusy 0 1 s.now ∧
       s.toneRetired 0 0 = false ∧ 1 < r.tones 0 ∧ r.toneRetired 0 0 = true ∧ r.toneRetired 0 1 = false) := by decide +kernel

theorem wit_channels :
    let u : Pulse := { id := 1, start := 32000, playing := true }
    let m : Event := { play with kind := .mute 0, stage := .tile }
    let s := (withFab 996 [] [u]).setFld (OCH_STAT 0) 1 0 1
    let d := (withFab 1000 [m]).setFld (OCH_STAT 0) 1 0 2
    let f : Event := { play with id := 2, kind := .setf 1 0#48, stage := .tile }
    let q := (withFab 1000 [m, f]).setFld (OCH_STAT 0) 1 0 2
    (s.ochState 0 = 1 ∧ s.unmuter 0 = some u ∧ s.time.lost = false ∧
      ({ s with time := { s.time with lost := true } } : State).time.lost = true) ∧
    (d.event 1 = some m ∧ m.tick ≤ d.now ∧ d.ochState 0 = 2 ∧ d.writesWait m.inst = false ∧ (atTick 999 d).now < m.tick ∧
      q.event 1 = some m ∧ q.writesWait m.inst = true) := by decide +kernel

theorem wit_frames :
    let e : Event := { play with kind := .setf 1 5#48, stage := .released }
    let g : Event := { play with id := 2, kind := .setph 1 5#48, stage := .tile }
    let dev : Event := { e with id := 3, device := true }
    let w : Window := { id := 2, dframe := 1, ls := 900, ws := 950, we := 1100, opened := true }
    let r := { withFab 1000 [] with fab := { deferred := [(1, 5#48, false, 0, 0)] } }
    ((withFab 1000 [e]).event 1 = some e ∧ e.device = false ∧ e.kind.frameWritten = some 1 ∧ e.atTile = true ∧
      (withFab 1000 [e]).frameQueue 1 e.inst = [e] ∧ e.tick ≤ (withFab 1000 [e]).now ∧
      (withFab 1000 [e]).conflicts 1 e.inst = [] ∧ (withFab 999 [e]).now < e.tick) ∧
    ((withFab 1000 [e, g]).frameQueue 1 g.inst = [e, g] ∧ e.id ≠ g.id ∧ (withFab 1000 [dev, g]).frameQueue 1 g.inst = [g, dev]) ∧
    ((withFab 1000 [e] [] [w]).conflicts 1 e.inst ≠ [] ∧ ((withFab 1000 [e] [] [w]).part 0).mode = .shot ∧
      ((withFab 1000 [e] [] [w]).part 0).attempt.active = true) ∧
    (((withFab 1000 [e] [] [w] .stream).part 0).mode = .stream ∧ (withFab 1000 [e] [] [w] .stream).conflicts 1 e.inst ≠ [] ∧
      ∀ x ∈ (withFab 1000 [e] [] [w] .stream).conflicts 1 e.inst, 1 < x.id) ∧
    ((withFab 1000 [dev]).event 3 = some dev ∧ (withFab 1000 [dev]).frameQueue 1 dev.inst = [dev] ∧
      (withFab 1000 [dev]).conflicts 1 dev.inst = [] ∧ (withFab 1000 [dev] [] [w]).conflicts 1 dev.inst ≠ []) ∧
    ((r.fab.deferred.filter fun d => d.1 == 1) ≠ [] ∧ r.conflicts 1 (32 * r.now) = [] ∧
      ({ r with fab := { r.fab with wins := [w] } } : State).conflicts 1 (32 * r.now) ≠ []) := by decide +kernel

theorem wit_granules :
    let u : Pulse := { id := 1, start := 32000, playing := true }
    let s := loaded (withFab 962 [] [u])
    let bare : State := { s with geo := { s.geo with pages := [] } }
    (s.pulse 1 = some u ∧ s.obj 0 = some (wave) ∧ u.gran < (wave.seg 0).len ∧ s.time.lost = false ∧ u.due wave ≤ s.now ∧
      (atTick 961 s).now < u.due wave ∧ wave.limit = 0 ∧ s.resident 0 (wave.pageOf 0 0) = true) ∧
    (bare.resident 0 (wave.pageOf 0 0) = false ∧ bare.quotaWaits 0 (wave.pageOf 0 0) = false ∧ (bare.part 0).mode = .shot ∧
      (bare.part 0).attempt.active = true ∧ u.zeroed = false) ∧
    (let far := fun (s : State) (n T : Nat) => s.fld (OCH_LIMIT n) 13 0 < (s.codeAt n T).1.natAbs
     let ahead := List.range' 1600 288
     let calm := atTick 50 owned
     let hot := (calm.setFld (OCH_DCOFS 0) 15 0 1600).setFld (OCH_LIMIT 0) 13 0 10
     let up : State := { hot with parts := [(0, { mode := .stream })] }
     (∀ T ∈ ahead, ¬ far calm 0 T) ∧ 1600 ∈ ahead ∧ far hot 0 1600 ∧ (hot.setBit (OCH_LIMIT 0) 16 false).bit (OCH_LIMIT 0) 16 = false ∧
       far ((up.setBit (OCH_LIMIT 0) 16 true)) 0 1600 ∧ (up.setBit (OCH_LIMIT 0) 16 true).bit (OCH_LIMIT 0) 16 = true ∧
       up.ochOwner 0 = some 0 ∧ (up.part 0).mode ≠ .hold) := by decide +kernel

theorem wit_segments :
    let o : Obj := { wave with segs := [{ reps := 1 }, {}] }
    let at_ := fun (u : Pulse) (o : Obj) => ({ withFab 2000 [] [u] with geo := { objs := [(0, some o)] } } : State)
    let u : Pulse := { id := 1, start := 32000, playing := true, gran := 4, played := 4 }
    let j : Obj := { wave with segs := [{ jen := true, len := 100 }, {}] }
    let v : Pulse := { id := 1, start := 32000, playing := true }
    ((at_ u o).pulse 1 = some u ∧ (at_ u o).obj 0 = some o ∧ (o.seg 0).len ≤ u.gran ∧ u.due o ≤ (at_ u o).now ∧
      u.pass < (o.seg 0).reps) ∧
    ((o.seg 0).reps ≤ ({ u with pass := 1 } : Pulse).pass ∧ u.seg + 1 < o.segs.length ∧ o.segs.length ≤ ({ u with seg := 1 } : Pulse).seg + 1) ∧
    ((at_ { u with req := some 1 } o).pulse 1 = some { u with req := some 1 } ∧ (o.seg 0).target 1 < 254) ∧
    (let v := { u with req := some 1, stopAt := some 32000 }
     (at_ v o).pulse 1 = some v ∧ v.stopAt = some 32000 ∧ 32000 < v.at_ o ∧ v.carry = none) ∧
    ((at_ v j).pulse 1 = some v ∧ (j.seg 0).jen = true ∧ ((at_ v j).slot 0).queue = [] ∧ v.passAt j ≤ (atTick 1000 (at_ v j)).now ∧
      (atTick 1000 (at_ v j)).now < v.passAt j + (j.seg 0).len * j.gp ∧ (o.seg 0).jen = false) := by decide +kernel

/-! A waveform image for object 3: a chain of one segment, and 256 bytes of data (05 R161, 03 R90, R91). -/

def image (n : Nat) (chain : List Byte) : List Byte :=
  let b := toBytes 4 0x57474F42 ++ toBytes 2 1 ++ toBytes 2 n ++ toBytes 4 32 ++ toBytes 4 256 ++ List.replicate 16 0#8 ++
    chain ++ List.replicate (320 - chain.length) 0#8
  b.take 20 ++ toBytes 4 (crc32 b) ++ b.drop 24

def chain (len : Nat) : List Byte := toBytes 2 1 ++ List.replicate 14 0#8 ++ toBytes 4 0 ++ toBytes 4 len

/-- A library job of operations `ops` is in hand in partition 0. -/
def libJob (ops : List Nat) : State :=
  { loaded owned with parts := [(0, { mode := .hold, job := some { type := .library, ops := ops } })] }

set_option maxRecDepth 20000 in
theorem wit_libload :
    let s := libJob [1, 2]
    let op : LibOp := { obj := 3#16, len := 352#32 }
    ((s.part 0).job = some { type := .library, ops := [1, 2] } ∧ [1, 2][0]? = some 1 ∧ (∃ x, [1, 2][1]? = some x ∧ 1 ≤ x ∧ x ≤ 5) ∧
      s.objInRange 0 3 = true) ∧
    imageOk (image 4 (chain 4)) 3 352 = false ∧
    (imageOk (image 16 (chain 4)) 16 352 = true ∧ s.objInRange 0 16 = false) ∧
    (imageOk (image 3 (chain 5)) 3 352 = true ∧ chainOk ((image 3 (chain 5)).drop 32) (le (image 3 (chain 5)) 12 4) = false) ∧
    (imageOk (image 3 (chain 4)) 3 352 = true ∧ chainOk ((image 3 (chain 4)).drop 32) (le (image 3 (chain 4)) 12 4) = true ∧
      (s.setFld (GEODE_LIBQ 0) 24 0 1).fld (GEODE_LIBQ 0) 24 0 <
        s.libUsed 0 - ((s.obj 3).elim 0 (·.npages)) + (parseObj 0 (image 3 (chain 4))).npages) ∧
    (((s.setFld (GEODE_LIBQ 0) 24 0 9).setFld (MEM_RSIZE 0) 12 0 1).loadCode 0 op (image 3 (chain 4))
      (parseObj 0 (image 3 (chain 4))) = 0) := by decide +kernel

theorem wit_library :
    let s := fun n => (libJob [n, 2]).setFld (GEODE_PINQ 0) 14 0 1
    let pinned := { wave with pinned := true }
    (∀ n ∈ [2, 3, 4, 5], ((s n).part 0).job = some { type := .library, ops := [n, 2] } ∧ [n, 2][0]? = some n) ∧
    ((s 2).objInRange 0 16 = false ∧ (s 2).objInRange 0 3 = true ∧ (s 2).obj 3 = none ∧ (s 2).obj 0 = some (wave)) ∧
    (wave.pinned = false ∧ ((s 3).setFld (GEODE_PINQ 0) 14 0 0).fld (GEODE_PINQ 0) 14 0 < (s 3).pinLoad 0 + wave.npages ∧
      (s 3).pinLoad 0 + wave.npages ≤ (s 3).fld (GEODE_PINQ 0) 14 0 ∧
      pinSetsOk (((s 3).geo.objs.filter (·.1 != 0)).filterMap (·.2)) wave.sets = true ∧
      (∀ pg < wave.npages, (s 3).resident 0 pg = true) ∧
      ∃ pg < wave.npages, ({ s 3 with geo := { (s 3).geo with pages := [] } } : State).resident 0 pg = false) ∧
    (((libJob [2]).part 0).job = some { type := .library, ops := [2] } ∧ [2].length = 0 + 1) ∧ pinned.pinned = true := by
  decide +kernel

theorem wit_fills :
    let g : Page := { pins := [(0, 1, 2000)] }
    let at_ := fun (l : List Page) => ({ loaded (inShot.setFld (GEODE_FILLQ 0) 6 0 1) with
      geo := { (loaded inShot).geo with pages := l } } : State)
    let s := at_ [g]
    let lp : Page := { loadPin := true }
    let full := at_ (g :: (List.range 16).map fun i => ({ obj := 5, page := i, filled := true, loadPin := true } : Page))
    let late : Page := { g with due := 5 }
    let two := at_ [late, { g with page := 1 }]
    (s.obj 0 = some (wave) ∧ g ∈ s.geo.pages ∧ g.filled = false ∧ g.isPinned = true ∧
      (∀ x ∈ s.geo.pages, x.obj = 0 → x.page = 0 → x = g) ∧ g.quotaWait = false) ∧
    (s.fillFirst g = true ∧ g.loadPin = false ∧ (s.part 0).fillUsed < s.fillQuota 0 ∧ s.wayFree g.set = true ∧
      (s.part 0).job.bind (·.waitObj) = none ∧ (s.part 0).mode = .shot ∧ (s.part 0).attempt.active = true) ∧
    ((at_ [lp]).fillFirst lp = true ∧ lp.isPinned = true ∧ (at_ [lp]).geo.fills < (at_ [lp]).fillCap ∧
      ({ at_ [lp] with geo := { (at_ [lp]).geo with fills := 80 } } : State).fillCap ≤ 80) ∧
    (full.wayFree g.set = false ∧ g.setFull = false ∧ ({ g with setFull := true } : Page).setFull = true) ∧
    (two.wayFree late.set = true ∧ two.fillFirst late = false) ∧ (80 : Nat) = s.fillCap := by decide +kernel

/-- Window 5 of partition 0, served by context 0 of Mica core 0. -/
def micaWin : Window := { id := 5, ws := 1000, we := 1016, ls := 990, dframe := 1, opened := true, lane := some 0 }

def serving (c : Ctx) (m : PMode := .shot) (prog : List (Nat × Word) := []) : State :=
  { withFab 1100 [] [] [micaWin] m with micas := [(0, { prog := prog, ctx := [(0, { c with win := some 5 })] })] }

theorem wit_mica : (serving {}).runs 0 0 0 micaWin ∧ (serving { pc := 4095 }).runs 0 0 0 micaWin ∧
    (serving {} .stream).runs 0 0 0 micaWin ∧
    (base.micaLive 0 0 = none ∧ ((serving { pc := 4096 }).micaLive 0 0).isSome = true ∧ 4096 ≤ ((serving { pc := 4096 }).ctx 0 0).pc ∧
      (serving {} .shot [(0, BitVec.ofNat 32 (0x3F * 2 ^ 26))]).micaReserved 0 0 = true) := by decide +kernel

theorem wit_mica_control :
    let c : Ctx := { pc := 4095, fZ := true, x := [(1, 1#32), (2, 4097#32), (3, 4096#32)] }
    let nop := serving c
    let br := serving { pc := 0 } .shot [(1, BitVec.ofNat 32 (2 ^ 26))]
    (0 ≤ (c.pc : Int) + (0#16).toInt ∧ (c.pc : Int) + (0#16).toInt < 4096 ∧ 4096 ≤ (c.pc : Int) + (1#16).toInt ∧
      ((0 : Nat) : Int) + (0xFFFF#16).toInt < 0) ∧
    ([c.fZ, !c.fZ, c.fN, !c.fN, c.fSettle, c.fOvf][(0#3).toNat]? = some true ∧
      [c.fZ, !c.fZ, c.fN, !c.fN, c.fSettle, c.fOvf][(1#3).toNat]? = some false) ∧
    ((nop.ctx 0 0).xr 2 ≠ 1#32 ∧ (nop.ctx 0 0).xr 1 = 1#32) ∧
    (noRep.contains (nop.opAt 0 4096) = false ∧ ((nop.ctx 0 0).xr 0).toNat % 8192 = 0 ∧
      0 < ((nop.ctx 0 0).xr 3).toNat % 8192 ∧ ((nop.ctx 0 0).xr 3).toNat % 8192 ≤ 4096) ∧
    (br.runs 0 0 0 micaWin ∧ noRep.contains (br.opAt 0 1) = true) := by decide +kernel

theorem wit_mica_end :
    let next : Window := { micaWin with id := 6, mentry := 4095 }
    let s := serving { emitted := true, queue := [6] }
    let t : State := { s with fab := { s.fab with wins := [micaWin, next] } }
    ((serving { emitted := true }).runs 0 0 0 micaWin ∧ ((serving { emitted := true }).ctx 0 0).fCbrst = false) ∧
    ((serving {}).ctx 0 0).queue = [] ∧ ((serving {} .stream).part 0).mode ≠ .shot ∧
    (t.runs 0 0 0 micaWin ∧ (t.ctx 0 0).queue = 6 :: [] ∧ t.win 6 = some next ∧ next.mentry < 4096 ∧ next.chained = none ∧
      t.micaRing 0 = none) ∧
    (let r : State := { serving { emitted := true, queue := [6] } .stream with
       fab := { t.fab with }, rings := [(0, { coll := [{ items := [(1#32, 0, false, false)] }] })] }
     let r := (r.setN (CAP_MRING 0) 0x20).setN (CAP_RSIZE 0) 1
     r.runs 0 0 0 micaWin ∧ r.win 6 = some next ∧ r.micaRing 0 = some 0 ∧ (r.ring 0).coll ≠ []) := by
  decide +kernel

theorem wit_mica_input :
    let m : Sample := { win := 5, iq := 7#32 }
    let s := serving { fifo := [m], wn := 16 }
    let w : Window := { micaWin with seen := 15 }
    let e : State := { serving { wn := 16 } with fab := { wins := [w] } }
    (s.runs 0 0 0 micaWin ∧ (s.ctx 0 0).fifo = m :: [] ∧ m.win = micaWin.id ∧ (s.ctx 0 0).pops < (s.ctx 0 0).wn ∧
      s.dmem 0 0 ((s.ctx 0 0).ar 0) = some 0#32) ∧
    (e.runs 0 0 0 w ∧ (e.ctx 0 0).fifo = [] ∧ (e.ctx 0 0).pops < (e.ctx 0 0).wn ∧ w.seen < w.count ∧
      (e.dmem 0 0 ((e.ctx 0 0).ar 0)).isSome = true) ∧
    (let above := fun m => serving { pops := 16, wn := 16 } m
     (above .shot).runs 0 0 0 micaWin ∧ ((above .shot).ctx 0 0).wn ≤ ((above .shot).ctx 0 0).pops ∧ ((above .shot).part 0).mode = .shot ∧
       (above .stream).runs 0 0 0 micaWin ∧ ((above .stream).ctx 0 0).wn ≤ ((above .stream).ctx 0 0).pops ∧
       ((above .stream).part 0).mode = .stream) ∧
    ((serving { a := [(0, 0x2400#14)] }).runs 0 0 0 micaWin ∧
      (serving { a := [(0, 0x2400#14)] }).dmem 0 0 ((((serving { a := [(0, 0x2400#14)] }).ctx 0 0)).ar 0) = none) := by decide +kernel

theorem wit_mica_data :
    let c : Ctx := { a := [(0, 0x1FFF#14), (1, 0x2000#14), (2, 0x23FF#14), (3, 0x2400#14)], base := [(0, 0x10#14), (1, 0x3FFF#14)],
                     len := [(0, 4#14)], x := [(0, 0x13#32)] }
    (c.ar 0 < 0x2000 ∧ 0x2000 ≤ c.ar 1 ∧ c.ar 1 < 0x2400 ∧ 0x2000 ≤ c.ar 2 ∧ c.ar 2 < 0x2400 ∧ 0x2400 ≤ c.ar 3) ∧
    (c.lr 1 = 0 ∧ c.lr 0 ≠ 0 ∧ c.br 0 ≤ (c.xr 0).toNat % 0x4000 ∧ (c.xr 0).toNat % 0x4000 < c.br 0 + c.lr 0) ∧
    (0x4000 < c.br 1 + (2#14).toNat ∧ ¬ 0x4000 < c.br 1 + (1#14).toNat) ∧ (serving c).runs 0 0 0 micaWin := by decide +kernel

theorem wit_mica_results :
    let s := (serving {} .stream).setN (CAP_MRING 0) 0x20
    ((serving { emitted := true }).ctx 0 0).emitted = true ∧ ((serving {}).ctx 0 0).emitted = false ∧
    ((serving {}).part 0).mode = .shot ∧ (15#4).toNat + (0#2).toNat < 16 ∧
    (s.runs 0 0 0 micaWin ∧ (s.part 0).mode = .stream ∧ s.micaRing 0 = some 0) ∧
    (bitOf (0b1100#32 : Word).toNat 2 = true ∧ bitOf (0b1100#32 : Word).toNat 3 = true) := by decide +kernel

theorem wit_mica_core :
    (owned.opened ∧ 0 < owned.nMica ∧ owned.micaOwner 0 = some 0 ∧ (owned.part 0).mode = .hold) ∧
    ((inShot).opened ∧ (inShot).micaOwner 0 = some 0 ∧ ((inShot).part 0).mode ≠ .hold) := by decide +kernel

theorem wit_input_blocks :
    let s := serving {}
    let on := s.setFld (ICH_STAT 0) 0 0 1
    let full : List AdcSample := { code := 0x7FF#12, railed := true } :: List.replicate 15 {}
    let fresh : State := { s with cal := { s.cal with trimDue := [64] } }
    let set : State := { s with time := { s.time with gainAt := some 0 } }
    (0 < s.nIch ∧ on.bit (ICH_STAT 0) 0 = true ∧ full.length = 16 ∧ 15 ≤ on.now ∧ on.bit (ICH_CTRL 0) 1 = false ∧ on.reqs = [] ∧
      0 < ((on.trims 0 full).filter (·.2)).length) ∧
    ((on.setBit (ICH_CTRL 0) 1 true).bit (ICH_CTRL 0) 1 = true ∧ micaWin ∈ on.fab.wins ∧ micaWin.ich = 0 ∧ micaWin.opened = true ∧
      micaWin.spans ((atTick 1005 on).now - 15) = true ∧ (on.part 0).mode = .shot ∧ (on.part 0).attempt.active = true) ∧
    (set.time.gainAt = some 0 ∧ (atTick 2047 set).now < 0 + 2048 ∧ 0 + 2048 ≤ (atTick 2048 set).now) ∧
    (fresh.trimMay 64 = true ∧ fresh.ichHeld 0 fresh.now = false ∧ s.trimMay 64 = false) := by decide +kernel

theorem wit_windows :
    let w : Window := { id := 5, ws := 1000, we := 1016, ls := 990, dframe := 1 }
    let e : Event := { id := 5, inst := 32 * 900, kind := .window 5, stage := .transit 852 }
    let s := fun (t : Nat) (e : List Event) (w : List Window) => withFab t e [] w
    let other : Window := { w with id := 6, lane := some 0, opened := true }
    let gone := fun (s : State) (l : List Nat) => ({ s with errs := l.map fun k => (resource 4 (64 * k), { retired := true }) } : State)
    ((s 852 [e] [w]).win 5 = some w ∧ (s 852 [e] [w]).event 5 = some e ∧ 852 ≤ (s 852 [e] [w]).now ∧
      (s 852 [e] [w]).now + 48 ≤ e.tick ∧ e.tick < (s 853 [e] [w]).now + 48 ∧ (s 851 [e] [w]).now < 852 ∧
      (s 852 [e] [w]).inOrder e 852 = true ∧ (s 853 [e] [w]).inOrder e 852 = true ∧
      (s 852 [e, { e with id := 6, stage := .transit 851 }] [w]).inOrder e 852 = false ∧
      ((s 853 [e] [w]).part 0).mode = .shot ∧ ((s 853 [e] [w]).part 0).attempt.active = true) ∧
    (let t := s 988 [{ e with stage := .tile }] [w]
     t.event 5 = some { e with stage := .tile } ∧ w.opened = false ∧ w.served = false ∧ w.chained = none ∧ w.ls ≤ t.now + 2 ∧
       (atTick 987 t).now + 2 < w.ls ∧ t.demodRetired 0 0 = false ∧ 0 ∉ t.groupBusy 0 5 990) ∧
    (let t := gone (s 988 [{ e with stage := .tile }] [w, other]) [1, 2, 3, 4, 5, 6, 7]
     t.win 5 = some w ∧ t.event 5 = some { e with stage := .tile } ∧
       (∀ l < 8, l ∈ t.groupBusy 0 5 990 ∨ t.demodRetired 0 l = true) ∧ (t.part 0).mode = .shot ∧ (t.part 0).attempt.active = true) ∧
    (let t := withFab 1010 [] [] [micaWin]
     t.win 5 = some micaWin ∧ micaWin.lane = some 0 ∧ micaWin.served = false ∧ (t.mica 0).stopped = false ∧
       micaWin.ws + 10 ≤ t.now ∧ (atTick 1009 t).now < micaWin.ws + 10 ∧ (t.ctx 0 0).win = none ∧ (t.ctx 0 0).queue = [] ∧
       micaWin.mentry < 4096 ∧ micaWin.chained = none ∧ t.micaRing 0 = none ∧ (t.setN (CAP_MRING 0) 0x21).micaRing 0 = some 1) ∧
    (let t : State := { withFab 1010 [] [] [micaWin] with micas := [(0, { ctx := [(0, { win := some 4, queue := [1, 2, 3] })] })] }
     (t.ctx 0 0).win.isSome = true ∧ (t.ctx 0 0).win ≠ some 5 ∧ 5 ∉ (t.ctx 0 0).queue ∧ (t.ctx 0 0).queue.length < 4) ∧
    (micaWin.seen < micaWin.count ∧ micaWin.arrive 0 ≤ (serving {}).now ∧ ((serving {}).ctx 0 0).fifo.length < 512 ∧
      (atTick 1000 (serving {})).now < micaWin.arrive 0 ∧ ({ micaWin with seen := 16 } : Window).count ≤ 16) := by decide +kernel

theorem wit_commits :
    let r : Result := { state := 1#2 }
    let s := fun (b : Binding) => ({ atTick 1000 inShot with slots := [(0, { queue := [b] })] } : State)
    let u := fun t => ({ s { id := 5, result := some r } with fab := { units := [(5, t, r)] } } : State)
    let fwd := (s { id := 5 }).setFld (DEC_SLOTCFG 0) 5 4 1
    ((u 1000).fab.units.find? (·.1 == 5) = some (5, 1000, r) ∧ (5, 1000, r).2.1 ≤ (u 1000).now ∧ (u 1001).now < 1001 ∧
      (u 1000).unitFirst 5 = true ∧
      (u 1000).slots.find? (fun x => x.2.queue.any (·.id == 5)) = some (0, { queue := [{ id := 5, result := some r }] })) ∧
    ((s { id := 5 }).slotOwner 0 = some 0 ∧ ((s { id := 5 }).slot 0).queue = [{ id := 5 }] ∧
      (s { id := 5 }).bit (DEC_SLOTCFG 0) 6 = false ∧ (s { id := 5 }).bit (DEC_SLOTCFG 0) 7 = false ∧
      ((s { id := 5 }).graph 0).valid = false) ∧
    ((∀ x ∈ (u 998).fab.units, x.1 = 5 → x.2.1 + 2 ≤ (u 998).now) ∧ ∃ x ∈ (u 999).fab.units, x.1 = 5 ∧ (u 999).now < x.2.1 + 2) ∧
    (fwd.slotSrc 0 = 1 ∧ (fwd.part 0).attempt.active = true ∧ (fwd.part 0).mode = .shot ∧
      fwd.now < (fwd.part 0).attempt.s + (fwd.setN DEC_FWDTMO 1).fld DEC_FWDTMO 15 0 ∧
      (fwd.part 0).attempt.s + (fwd.setN DEC_FWDTMO 0).fld DEC_FWDTMO 15 0 ≤ fwd.now ∧ ∀ x ∈ fwd.fab.units, x.1 ≠ 5) := by
  decide +kernel

theorem wit_no_stall_meas : ∀ c, ((inShot).qtz c).st ≠ .stallMeas := by
  intro c
  show (look (fun _ => ({} : Core)) [(0, _)] c).st ≠ _
  simp only [look]; split <;> decide +kernel

theorem wit_decide :
    let h : Head := { dst := 0, src := 1, dpart := 0 }
    let s := (atTick 1000 inShot).setFld (MESH_PSTAT 0) 2 0 4
    let due := fun (b : DecideBody) => ({ s with dueq := [{ due := 1000, body := b }], boot := { s.boot with spanOf := [3] } } : State)
    let b : BarrierPkt := { span := 3#8 }
    let v : VerdictPkt := { span := 3#8 }
    let slot : State := { due (.result h {}) with slots := [(0, { queue := [{ id := 5 }] })] }
    let fwd := slot.setFld (DEC_SLOTCFG 0) 5 4 1
    let g : State := { due (.seam h {}) with graphs := [(0, { run := { busy := some {}, seamWait := true } })] }
    (0 < s.nPort ∧ s.portState 0 = 4 ∧ h.legal = true ∧ h.dst.val = s.devId ∧ (∀ d ∈ s.dueq, s.decideReady d = false) ∧
      s.now < s.fullDue 1001#32) ∧
    (({ h with dst := 1, hops := 0 } : Head).dst.val ≠ s.devId ∧ (inShot).portState 0 ≠ 4) ∧
    ((due (.barrier h b)).spanIs 0 b.span = true ∧ (due (.verdict h v)).spanIs 0 v.span = true ∧
      ((due (.verdict h v)).part 0).attempt.active = true ∧ v.shot.toNat = ((due (.verdict h v)).part 0).attempt.shotNo ∧
      v.attempt.toNat = ((due (.verdict h v)).part 0).attempt.num) ∧
    ((g.graph 0).run.busy = some {} ∧ ({} : GRound).num = ({} : SeamPkt).round.toNat ∧ (g.graph 0).run.seamWait = true) ∧
    (slot.slotSrc 0 ≠ 1 ∧ fwd.slotOwner 0 = some 0 ∧ fwd.slotSrc 0 = 1 ∧ (fwd.part 0).attempt.active = true ∧
      bits ({} : ResultPkt).tag.toNat 31 20 = (fwd.part 0).attempt.shotNo % 4096 ∧ (fwd.slot 0).queue = [{ id := 5 }] ∧
      fwd.bit TIME_STAT 4 = false ∧ (∀ u ∈ fwd.fab.units, u.1 ≠ 5) ∧ (fwd.graph 0).valid = false ∧
      fwd.bit (DEC_SLOTCFG 0) 6 = false ∧ fwd.bit (DEC_SLOTCFG 0) 7 = false ∧
      fwd.tooFar 0 (fullTime fwd.now (tagTime ({} : ResultPkt).tag)) = false ∧
      fwd.tooFar 0 (fullTime fwd.now (tagTime (0xFFFFFF0000000000#64 - 0x8000000000000000#64))) = true) ∧
    (let k := 1 + 64 * bn b.shotKind + 128 * b.id.toNat + 32768 * b.shot.toNat
     let above := (due (.barrier h b)).updPart 0 fun x => { x with barrierOwed := [k] }
     k ∉ ((due (.barrier h b)).part 0).barrierOwed ∧ k ∈ (above.part 0).barrierOwed ∧ above.spanIs 0 b.span = true) := by
  decide +kernel

/-- Partition 0's loop 0: a FREQ loop on frame 1, HOLDING. -/
def tracked (l : Loop) (m : PMode := .shot) (a : Attempt := {}) (probe : Option (Nat × Bool) := none) : State :=
  { (loaded (quartz m)).setN (DEC_TRKCFG 0) 0x106 with
    loops := [(0, l)]
    parts := [(0, { mode := m, job := some job, attempt := a, probe := probe, prevE := some 10 })] }

theorem wit_tracking :
    let due := atTick 17962 ((tracked { state := 1, due := true }).setN (DEC_TRKPROBE2 0) 0)
    let ok := due
    let bare : State := { ok with geo := {} }
    let t0 := max (10 + due.fld (DEC_TRKRESET 0) 23 0) (0 + 2048)
    let at_ := fun (s : State) b l => s.updPart 0 fun q => { q with probe := some (0, b), probeActs := l }
    let ended := tracked { state := 1 } .shot { active := true, e := some 0 } (some (0, true))
    (due.opened ∧ due.bit (DEC_TRKCFG 0) 2 = true ∧ due.bit (DEC_TRKCTL 0) 0 ≠ true ∧
      (due.setBit (DEC_TRKCTL 0) 0 true).bit (DEC_TRKCTL 0) 0 ≠ false) ∧
    ((due.loopsOf 0).contains 0 = true ∧ due.trkOwner 0 = 0 ∧ (due.part 0).mode = .shot ∧ (due.part 0).job.isSome = true ∧
      (due.part 0).probe = none ∧ (due.loop 0).due = true ∧ (due.part 0).attempt.active = false ∧ due.trkLive 0 = true ∧
      ((due.loopsOf 0).find? fun k => (due.loop k).due) = some 0 ∧ t0 ≤ due.now + 2048 ∧ due.now + 2048 < t0 + 16 ∧
      (due.loop 0).fwPend = none ∧ ok.reserveUsed < 4096 ∧
      ok.devPulseOk 0 (ok.fld (DEC_TRKPROBE 0) 15 0) (ok.fld (DEC_TRKPROBE2 0) 5 0) t0 = true ∧
      bare.devPulseOk 0 (bare.fld (DEC_TRKPROBE 0) 15 0) (bare.fld (DEC_TRKPROBE2 0) 5 0) t0 = false ∧
      (due.part 0).holdReq = none) ∧
    ((atTick (t0 - 2049) due).now + 2048 < t0) ∧
    (let w := at_ (atTick 5000 due) false [(7048, .window 0)]
     (w.part 0).probe = some (0, false) ∧ (w.part 0).probeActs = [(7048, .window 0)] ∧ 7048 ≤ w.now + 2048 ∧
       w.probeActOk 0 0 7048 (.window 0) = true ∧ (atTick 4999 w).now + 2048 < 7048) ∧
    ((ended.part 0).probe = some (0, true) ∧ (ended.part 0).probeActs = [] ∧ ended.probeOver 0 = true ∧
      (ended.part 0).holdReq = none) ∧
    ((tracked { state := 1 }).loop 0).due = false := by decide +kernel

theorem wit_garnet :
    let at_ := fun (r : GRun) => ({ atTick 3000 inShot with graphs := [(0, { valid := true, run := r })] } : State)
    let idle := at_ { backlog := [{ num := 1 }] }
    let busy := at_ { busy := some { num := 1, doneAt := 952 } }
    let pi := at_ { pauli := [(1, 3000)] }
    ((idle.graph 0).valid = true ∧ (idle.graph 0).seam = false ∧ (idle.graph 0).run.busy = none ∧
      (idle.graph 0).run.backlog = { num := 1 } :: []) ∧
    ((busy.graph 0).run.busy = some { num := 1, doneAt := 952 } ∧ (busy.graph 0).run.seamWait = false ∧
      (busy.graph 0).run.seam = [] ∧ (busy.graph 0).run.backlog = [] ∧ (busy.graph 0).backlogMode = false ∧
      952 + 2048 ≤ busy.now ∧ (busy.part 0).mode = .shot ∧ (busy.part 0).attempt.active = true ∧
      (busy.part 0).attempt.shotNo = ({ num := 1, doneAt := 952 } : GRound).shot ∧ (busy.part 0).attempt.num = 0) ∧
    ((pi.graph 0).run.pauli = [(1, 3000)] ∧ pi.conflicts 1 (32 * pi.now) = [] ∧ (atTick 2999 pi).now < 3000) ∧
    ({ valid := true, backlogMode := true } : Graph).backlogMode = true := by decide +kernel

/-- An attempt of partition 0 that is ended, with the taints given. -/
def ended (l : List Taint) (num : Nat := 0) : State :=
  { atTick 2000 ((quartz .shot).setFld (STRATA_JSIZE 0) 12 0 1) with
    parts := [(0, { mode := .shot, job := some job, attempt := { active := true, s := 1000, e := some 1900, taints := l, num := num },
                    ckpt := { valid := true, cores := [(0, { v := [(1, 2#32)] })] } })] }

theorem wit_verdicts :
    let lim := fun s : State => (s.setFld (STRATA_CFG 0) 3 0 2).fld (STRATA_CFG 0) 3 0
    let span : State := { ended [] with
      boot := { (ended []).boot with spanOf := [3], partner := 255#8 :: 0#8 :: List.replicate 500 255#8 }
      parts := [(0, { (ended []).part 0 with attempt := { active := true, localDone := some 1900 } })] }
    (((ended []).part 0).job = some job ∧ ((ended []).part 0).holdReq = none ∧ (ended []).attemptOver 0 = true ∧
      (ended []).spanOf 0 = none ∧ ((ended []).part 0).attempt.taints = []) ∧
    ((∀ x ∈ ((ended [{ cause := 6 }]).part 0).attempt.taints, x.cause < 7) ∧ ((ended [{ cause := 6 }]).part 0).attempt.num < lim (ended [])) ∧
    (∃ x ∈ ((ended [{ cause := 7 }]).part 0).attempt.taints, 7 ≤ x.cause) ∧
    (((ended [{ cause := 1 }] 2).part 0).attempt.taints ≠ [] ∧ lim (ended []) ≤ ((ended [{ cause := 1 }] 2).part 0).attempt.num) ∧
    ({ ended [] with fab := { events := [play] } } : State).attemptOver 0 = false ∧
    (fits ((ended []).jappend 0 {}) 0 = true ∧ fits ((ended [{ cause := 6 }]).jappend 0 {}) 0 = true ∧
      fits ((ended [{ cause := 7 }]).jappend 0 {}) 0 = true ∧ fits ((ended [{ cause := 1 }] 2).jappend 0 {}) 0 = true ∧
      fits (span.jappend 0 {}) 0 = true ∧ (span.part 0).mode = .shot ∧ (span.part 0).attempt.active = true) ∧
    ((span.part 0).attempt.localDone = some 1900 ∧ (span.part 0).probe = none ∧ span.cast 0 = [0] ∧
      (span.setFld (QTZ_SYNCTMO 0) 19 0 101).now < 1900 + (span.setFld (QTZ_SYNCTMO 0) 19 0 101).fld (QTZ_SYNCTMO 0) 19 0 ∧
      1900 + (span.setFld (QTZ_SYNCTMO 0) 19 0 100).fld (QTZ_SYNCTMO 0) 19 0 ≤ span.now) := by decide +kernel

theorem wit_span_devices :
    let s : State := { base with boot := { base.boot with spanOf := [3], partner := List.replicate 512 0#8 } }
    ∃ d ∈ s.spanDevs 0, ∀ x ∈ (s.part 0).attempt.spanVerdicts, x.1 ≠ d := by decide +kernel

theorem wit_journal :
    let r : Rec := { w0 := 1#32 }
    let e : Rec := { w0 := 5#32 }
    let s := fun (q : Part) => ({ base.setFld (STRATA_JRATE 0) 12 0 100 with parts := [(0, q)] } : State)
    (((s { jbuf := [r] }).part 0).jbuf = [r] ∧ ((s { jbuf := [r] }).part 0).jused < (s { jbuf := [r] }).fld (STRATA_JRATE 0) 12 0 ∧
      (s { jbuf := [r] }).jusedAll < 4096) ∧
    ((s {}).fld (STRATA_JRATE 0) 12 0 ≤ ((s { jused := 100 }).part 0).jused ∧ 4096 ≤ (s { jused := 4096 }).jusedAll) ∧
    (((s { relq := [e] }).part 0).relq = [e] ∧ e.journalled = false) ∧
    (((s { relq := [r] }).part 0).relq = [r] ∧ r.journalled = true ∧
      (s { relq := [r] }).ringFree 0 ≤ ((s { relq := [r] }).part 0).waitq.length) ∧
    (let t : State := { atTick 640000 base with ev := { quiet := [(7, 0, r, 0)] } }
     t.ev.quiet = [(7, 0, r, 0)] ∧ 0 + 640000 ≤ t.now ∧ (atTick 639999 t).now < 0 + 640000 ∧ t.ev.waitq.length < 256) ∧
    ((s { quiet := [(7, 0, r, 0)] }).part 0).quiet = [(7, 0, r, 0)] := by decide +kernel

theorem wit_hardware_errors :
    let s := atTick 1000 (base.setFld STRATA_PERM 3 0 3)
    let two := fun (k : Nat) => ({ s with errs := [(k, { times := [999, 998] })] } : State)
    let times := fun (s : State) k => s.now :: (s.err k).times.filter fun t => decide (s.now ≤ t + 640000 * s.fld STRATA_PERM 31 16)
    (1#8 : Byte) ≠ 8#8 ∧ s.resExists 1 64 = false ∧ ({ s with errs := [(resource 1 63, { retired := true })] } : State).resExists 1 63 = true ∧
    (s.resExists 1 63 = true ∧ (s.err (resource 1 63)).retired = false ∧ retirable 1 = true ∧
      (times s (resource 1 63)).length < s.fld STRATA_PERM 3 0) ∧
    ((∀ x ∈ [(1, 0), (2, 64), (3, 0), (4, 65), (5, 0)], s.resExists x.1 x.2 = true ∧
        (two (resource x.1 x.2)).fld STRATA_PERM 3 0 ≤ (times (two (resource x.1 x.2)) (resource x.1 x.2)).length) ∧
      s.bit (OCH_STAT 0) 3 = false ∧ s.bit (ICH_STAT 0) 3 = false ∧ 1 < s.fld (OCH_STAT 0) 12 8 ∧ 1 < s.groupLanes 1) ∧
    (let k := resource 6 0
     let t : State := { s with errs := [(k, { times := [999, 998, 997] })] }
     let mine := t.setN (QTZ_CFG 0) 8
     retirable 6 = false ∧ t.resExists 6 0 = true ∧ t.fld STRATA_PERM 3 0 ≤ (times t k).length ∧
       (times s k).length < s.fld STRATA_PERM 3 0 ∧ t.resOwner 6 0 = none ∧ t.ev.waitq.length - t.evFree < 256 ∧
       mine.resOwner 6 0 = some 0 ∧ mine.queued 0 < 192) := by decide +kernel

theorem wit_memory :
    let b : Bank := { row := some 7, last := 7, hist := 5#4 }
    let s : State := { base with mem := { banks := [(0, b)] } }
    let off := base.setFld MEM_STAT 1 0 2
    (192 / 64 = 3 ∧ base.blockChannel (192 / 4) = 0 ∧ base.blockChannel (196 / 4) ≠ 0) ∧
    ((s.bank 0).row = some 7 ∧ (s.bank 0).row ≠ some 8 ∧ (s.bank 0).pending.length < 4 ∧
      4 ≤ ({ b with pending := [1, 2, 3, 4] } : Bank).pending.length) ∧
    (base.memOn 7 = true ∧ off.memOn 0 = false ∧ (s.bank 0).row = some 7 ∧ (s.bank 1).row ≠ some 7 ∧ b.hist.toNat < 16) ∧
    (let t : State := { base.setFld STRATA_PERM 3 0 3 with mem := { copying := [3] }, rings := [(0, { recs := [{}] })] }
     (t.err (pageKey 9)).retired = false ∧ t.regionOf 9 = 0 ∧
       ((t.err (pageKey 9)).times.filter fun x => decide (t.now ≤ x + 640000 * t.fld STRATA_PERM 31 16)).length + 1 < t.permK ∧
       (t.ring 0).recs = {} :: [] ∧ 3 ∈ t.mem.copying ∧ 4 ∉ t.mem.copying ∧
       ((t.setBit MEM_CFG 9 true).setN (MEM_RSIZE 0) 1).bit MEM_CFG 9 = true ∧ 0 < (t.setN (MEM_RSIZE 0) 1).regionPages ∧
       t.deep = 0 ∧ 0 < t.nChan ∧ (t.setBit MEM_CFG 9 false).bit MEM_CFG 9 = false) ∧
    (base.opened ∧ base.deepOk = true ∧ (inShot).deepOk = false ∧ (∃ p < (inShot).nPart, ((inShot).part p).mode ≠ .hold) ∧
      (base.setFld MEM_STAT 1 0 1).deep = 1 ∧ (base.setFld MEM_STAT 1 0 1).opened) := by decide +kernel

/-- A capture job of operation `op` is in hand in partition 0, which owns ring 0 of 16 MiB. -/
def capturing (op : Nat) (reqs : List Req := []) (g : Ring := {}) : State :=
  { (owned.setN (CAP_RCFG 0) 8).setN (CAP_RSIZE 0) 1 with
    parts := [(0, { job := some { type := .capture, ops := [op] } })], reqs := reqs, rings := [(0, g)] }

/-- A request block of operation `op` for ring 0. -/
def block (op : Nat) (rest : List Byte) : List Byte :=
  let b := BitVec.ofNat 8 op :: List.replicate 7 0#8 ++ rest
  b ++ List.replicate (64 - b.length) 0#8

def attachBlock : List Byte := block 1 (toBytes 8 0x1000 ++ toBytes 4 65536 ++ toBytes 4 0 ++ toBytes 8 0x8)
def armBlock : List Byte := block 2 (toBytes 2 1 ++ toBytes 6 0 ++ toBytes 4 0 ++ toBytes 4 64 ++ toBytes 2 1)

theorem wit_capture_jobs :
    ((capturing 1).capJob 0 1 = true ∧ (capturing 1).attachCode 0 attachBlock = none ∧ (capturing 1).attachCode 0 [] ≠ none ∧
      ((capturing 1).part 0).mode = .hold ∧ (capturing 1).capJob 0 2 = false) ∧
    ((capturing 2).capJob 0 2 = true ∧ (capturing 2).armCode 0 armBlock = none ∧ (capturing 2).armCode 0 attachBlock ≠ none) ∧
    ((capturing 3 [{}]).capJob 0 3 = true ∧ (capturing 3 [{}]).disarmCode 0 (block 3 []) = none ∧
      (capturing 3).disarmCode 0 (block 3 []) ≠ none) ∧
    ((capturing 4 [] { host := some (0#64, 65536, 0#64) }).capJob 0 4 = true ∧
      (capturing 4 [] { host := some (0#64, 65536, 0#64) }).detachCode 0 (block 4 []) = none ∧
      (capturing 4).detachCode 0 (block 4 []) ≠ none) := by decide +kernel

theorem wit_capture_triggers :
    let run := fun (q : Req) => ({ atTick 100 (capturing 0) with reqs := [q], parts := [(0, { mode := .stream })] } : State)
    let arming : Req := { chmask := 1#16 }
    let armed : Req := { chmask := 1#16, armed := true, resv := 66 * 65 }
    let low : State := { run { armed with tsrc := 1 } with pins := { trigLow := 99 } }
    ((run arming).reqs = [arming] ∧ arming.key = 65536 * 0 + (0#16).toNat ∧ arming.part = 0 ∧ arming.armed = false ∧
      arming.need + 2 ≤ (run arming).ringSpace arming.ring) ∧
    (((run arming).setN (CAP_RSIZE 0) 0).ringSpace 0 < arming.need + 2) ∧
    (((run armed).part 0).rbusy = false ∧ armed.tsrc = 0 ∧ ((run armed).part 0).mode ≠ .hold ∧ armed.burst = none ∧
      armed.trig = none ∧ (run armed).time.lost = false) ∧
    (let got : Req := { armed with trig := some (99, 99) }
     let wait : Req := { armed with burst := some (90, 154, 0) }
     (run got).reqs = [got] ∧ got.trig = some (99, 99) ∧ 99 ≤ (run got).now ∧ got.trig.isSome = true ∧ got.burst = none ∧
       ¬ (wait.armed = true ∧ wait.burst = none) ∧ ({ wait with tsrc := 1 } : Req).tsrc = 1 ∧
       ({ run wait with pins := { trigLow := 100 } } : State).pins.trigLow = (run wait).now) ∧
    (low.pins.trigLow ≠ 0 ∧ low.pins.trigLow + 1 ≤ low.now ∧ (run armed).pins.trigLow = 0) ∧
    (({ armed with burst := some (90, 154, 10), forever := true } : Req).forever = true ∧ (10 : Nat) < 154) ∧
    (({ armed with burst := some (90, 154, 154), count := 1 } : Req).burst = some (90, 154, 154) ∧
      ({ armed with burst := some (90, 154, 154), count := 1 } : Req).count ≤ 1) := by decide +kernel

theorem wit_capture_rings :
    let c : Samples := { items := [(1#32, 0, false, false)] }
    let at_ := fun (g : Ring) => ({ atTick 5000 (capturing 0) with rings := [(0, { g with lastTime := some 0 })] } : State)
    let x : CapRec := { units := 2 }
    let s := at_ { coll := [c] }
    let d := at_ { recs := [x], host := some (0x1000#64, 65536, 8#64) }
    let m := ((d.setFld (CAP_RCFG 0) 5 4 1).setFld (MESH_PSTAT 0) 2 0 4).setN (MESH_ROUTE 0) 0xC
    let up : State := { m with ports := [(0, { lanes := [(0, { trained := true, signal := true, aligned := true })] })] }
    let rx := (((at_ {}).setFld (CAP_RCFG 0) 5 4 2).setFld (MESH_PSTAT 0) 2 0 4).setFld (CAP_RCFG 0) 11 6 1
    (s.ringTimeDue 0 = none ∧ (s.ring 0).gaps = [] ∧ (s.ring 0).coll = [c] ∧ (s.ring 0).held = [] ∧ c.mica = 0 ∧ c.ctx = 0 ∧
      c.appended + (s.setFld (CAP_RFLUSH 0) 23 0 5000).fld (CAP_RFLUSH 0) 23 0 ≤ s.now ∧
      s.now < c.appended + (s.setFld (CAP_RFLUSH 0) 23 0 5001).fld (CAP_RFLUSH 0) 23 0 ∧
      s.capRoom 0 (c.toRec s).units = true ∧
      ((s.setFld (MEM_CAPQ 0) 13 0 0).updPart 0 fun q => { q with capWait := 262144 }).capRoom 0 (c.toRec s).units = false ∧
      (c.toRec s).units + 2 ≤ s.ringSpace 0 ∧ (s.setN (CAP_RSIZE 0) 0).ringSpace 0 < (c.toRec s).units + 2) ∧
    (d.bit (CAP_RCFG 0) 3 = true ∧ base.bit (CAP_RCFG 0) 3 = false ∧ (d.ring 0).recs = [x] ∧ x.hold = [] ∧ x.poison = false ∧
      d.fab.drainTurn < 32 ∧ (d.part 0).rbusy = false ∧
      ({ d with pins := { d.pins with linkUp := true } } : State).drainNext = some 0 ∧ d.drainNext ≠ some 0 ∧
      d.fld (CAP_RCFG 0) 5 4 ≠ 1 ∧ (d.ring 0).host = some (0x1000#64, 65536, 8#64) ∧
      32 * x.units ≤ (d.ring 0).consumed + 65536 - (d.ring 0).drained ∧
      ({ d with pins := { d.pins with linkUp := true } } : State).hostUp (d.fld (CAP_RCFG 0) 2 0) = true) ∧
    (up.fld (CAP_RCFG 0) 5 4 = 1 ∧ up.route (up.fld (CAP_RCFG 0) 11 6) = some (0, 1) ∧ 32 * x.units ≤ 4088 ∧
      (up.laneFor 0 (24 + 32 * x.units)).isSome = true) ∧
    (rx.portState 0 = 4 ∧ rx.bit (CAP_RCFG 0) 3 = true ∧ rx.fld (CAP_RCFG 0) 5 4 = 2 ∧
      rx.fld (CAP_RCFG 0) 11 6 = (({ src := 1 } : Head).src.val) ∧ rx.deep = 0 ∧ (rx.ring 0).early = [] ∧ 0 % 2 ^ 32 = (rx.ring 0).rseq ∧
      ({} : RawRec).units.toNat + 2 ≤ rx.ringSpace 0 ∧ rx.capRoom 0 ({} : RawRec).units.toNat = true ∧ rx.ringTimeDue 0 = none ∧
      ({ src := 1 } : Head).legal = true ∧ ({ src := 1, dst := 0 } : Head).dst.val = rx.devId ∧
      (rx.setFld (CAP_RCFG 0) 5 4 0).fld (CAP_RCFG 0) 5 4 ≠ 2 ∧ base.portState 0 ≠ 4) ∧
    (let g := at_ { gaps := [{ cause := 1 }] }
     let k := at_ { gaps := [{ cause := 2 }] }
     (g.ring 0).gaps = [{ cause := 1 }] ∧ (g.ring 0).gapAt = [] ∧ g.ringTimeDue 0 = none ∧ 5 ≤ g.ringSpace 0 ∧
       (g.setN (CAP_RSIZE 0) 0).ringSpace 0 < 5 ∧ ({ cause := 2 } : Gap).cause ≠ 1 ∧ ({} : CapRec).src = ({ cause := 2 } : Gap).src ∧
       k.capRoom 0 ({} : CapRec).units = true ∧ ({} : CapRec).units + 5 ≤ k.ringSpace 0) := by decide +kernel

/-- The link is up, with eight functions, and partition 0's rings are enabled. -/
def linked (q : Part := {}) : State :=
  let s := owned.setFld HOST_LINK 12 9 8
  { s with pins := { s.pins with linkUp := true }, parts := [(0, { q with enabled := true })] }

theorem wit_doorbells :
    let s := linked { posted := 5, taken := 3, written := 64, consumed := 32 }
    let adv := fun (v old : Nat) => (v + 2 ^ 32 - old % 2 ^ 32) % 2 ^ 32
    let c : State := { (linked).setN (CAP_RCFG 0) 8 with rings := [(0, { host := some (0#64, 65536, 0#64), drained := 64 })] }
    let ev := base.setBit HOST_EVCTL 0 true
    (s.vfOn 0 = true ∧ owned.vfOn 0 = false ∧ (s.part 0).enabled = true ∧ s.deep = 0 ∧
      (adv 67 3 = 64 ∧ 5 - 3 ≤ adv 67 3) ∧ 64 < adv 68 3 ∧ adv 4 3 < 5 - 3 ∧ ((owned.part 0).enabled = false)) ∧
    (32 + adv 64 32 ≤ 64 ∧ 64 < 32 + adv 65 32) ∧
    (c.vfOn 0 = true ∧ c.ringOwned 0 0 = true ∧ (c.ring 0).host ≠ none ∧ 0 + adv 64 0 ≤ (c.ring 0).drained ∧
      (c.ring 0).drained < 0 + adv 65 0 ∧ s.ringOwned 0 0 = false) ∧
    (ev.opened ∧ ev.bit HOST_EVCTL 0 = true ∧ base.bit HOST_EVCTL 0 = false ∧ ev.ev.consumed + adv 0 0 ≤ ev.ev.written ∧
      ev.ev.written < ev.ev.consumed + adv 1 0) := by decide +kernel

theorem wit_rings :
    let off : State := { linked with parts := [] }
    let r : Rec := { w0 := 7#32 }
    let q := linked { waitq := [r] }
    let e : State := { (linked).setBit HOST_EVCTL 0 true with ev := { waitq := [r] } }
    let i : State := { atTick 1600 linked with irq := { pendAt := [(0, some 1500)], lastAt := [(0, some 0)] } }
    let mod := i.setV 0 VF_RINGCTL (100 * 65536)
    (off.vfOn 0 = true ∧ (off.part 0).enabled = false ∧ (1#32).getLsbD 0 = true ∧ off.vregN 0 VF_JRING_LO % 4096 = 0 ∧
      off.vregN 0 VF_RRING_LO % 4096 = 0 ∧ off.vregN 0 VF_RCNT_LO % 8 = 0 ∧ off.vregN 0 VF_RSIZE % 32 ≤ 16 ∧
      (off.setV 0 VF_JRING_LO 1).vregN 0 VF_JRING_LO % 4096 ≠ 0) ∧
    (base.opened ∧ base.bit HOST_EVCTL 0 = false ∧ base.fld HOST_EVBASE_LO 11 0 = 0 ∧ base.fld HOST_EVCNT_LO 2 0 = 0 ∧
      (17#32).toNat / 2 % 16 ≤ 8 ∧ ¬ (19#32).toNat / 2 % 16 ≤ 8) ∧
    ((q.part 0).waitq.take (q.ringFree 0) ≠ [] ∧ e.ev.waitq.take e.evFree ≠ []) ∧
    (look (fun _ => none) mod.irq.pendAt 0 = some 1500 ∧ look (fun _ => none) mod.irq.lastAt 0 = some 0 ∧
      0 + mod.irqMod 0 0 ≤ mod.now ∧ (atTick 1599 mod).now < 0 + mod.irqMod 0 0 ∧ mod.hostUp 0 = true ∧
      look (fun _ => none) mod.irq.pendAt 1 = none) := by decide +kernel

theorem wit_hold :
    let begun := inShot
    let idle := quartz .shot
    let need : State := { base with parts := [(0, { resumeNeeded := true })] }
    let held : State := { base with parts := [(0, { cause := .longPress })] }
    (((inShot).part 0).mode ≠ .hold ∧ 0 ∈ (inShot).qtzOf 0 ∧ 2 ∉ (inShot).qtzOf 0 ∧ 0 ∈ ((inShot).setFld (OCH_STAT 0) 1 0 2).ochsOf 0 ∧
      ((inShot).setFld (OCH_STAT 0) 1 0 2).ochState 0 = 2) ∧
    ((held.part 0).mode = .hold ∧ (held.part 0).holdAt = held.now ∧ holdRank .trip < holdRank (held.part 0).cause ∧
      holdRank (held.part 0).cause ≤ holdRank .request ∧ ((atTick 1 held).part 0).holdAt ≠ (atTick 1 held).now) ∧
    ((begun.part 0).rbusy = false ∧ (begun.part 0).mode = .shot ∧ (begun.part 0).attempt.active = true ∧
      (base.part 0).mode = .hold ∧ (base.part 0).rbusy = false) ∧
    ((idle.part 0).attempt.active = false ∧ (idle.part 0).replay = false ∧ (idle.part 0).job = some job ∧ job.type = .program ∧
      ((quartz .stream).part 0).mode = .stream) ∧
    ((need.part 0).resumeNeeded = true ∧ (need.part 0).rbusy = false ∧ (need.part 0).fresh.contains 22 = false ∧
      (base.part 0).resumeNeeded = false ∧
      (({ need with parts := [(0, { resumeNeeded := true, fresh := [22] })] } : State).part 0).fresh.contains 22 = true) := by
  decide +kernel

/-- A program object of one instruction for core 0 (04 R119), and its descriptor (13 R399). -/
def progObject : List Byte :=
  let b := toBytes 4 0x50515A54 ++ toBytes 2 1 ++ toBytes 2 0 ++ toBytes 4 64 ++ toBytes 4 8 ++ toBytes 4 64 ++ toBytes 4 72 ++
    toBytes 1 1 ++ List.replicate 39 0#8 ++ toBytes 8 (0x3A * 2 ^ 56) ++ toBytes 8 0
  b.take 28 ++ toBytes 4 (crc32 b) ++ b.drop 32

def progDesc (mode : Nat) : List Byte := toBytes 1 1 ++ toBytes 1 mode ++ toBytes 2 0 ++ toBytes 4 80 ++ List.replicate 56 0#8

set_option maxRecDepth 20000 in
theorem wit_jobs :
    let s := (linked { posted := 1 }).setN (MEM_RSIZE 4) 16
    let done : State := { quartz .shot with
      cores := [(0, { part := true })], parts := [(0, { mode := .shot, job := some job, posted := 1 })] }
    (s.mayTake 0 = true ∧ s.otherMode 0 (progDesc 0) = false ∧ descOk (progDesc 0) = true ∧ descOk (progDesc 1) = true ∧
      progObject.length = le (progDesc 0) 4 4 ∧ le (progDesc 0) 0 1 = 1 ∧ s.progOk 0 progObject = true ∧
      le (progDesc 0) 4 4 ≤ s.progArea ∧ objEntries progObject ≠ []) ∧
    (owned.mayTake 0 = false ∧ descOk [] = false ∧ (s.part 0).mode = .hold) ∧
    ((done.part 0).job = some job ∧ (done.part 0).attempt.active = false ∧ (done.part 0).probe = none ∧
      (done.part 0).posted ≠ (done.part 0).taken ∧ (∀ c ∈ done.cast 0, (done.qtz c).st = .halted) ∧
      ∀ l ∈ done.loopsOf 0, (done.loop l).due = false) ∧
    (∃ c ∈ (quartz .shot).cast 0, ((quartz .shot).qtz c).st ≠ .halted) := by decide +kernel

/-- A trained lane in service. -/
def laneOn : Lane := { trained := true, signal := true, aligned := true }

/-- Port 0 in port state `n`, its lane 0 as `x`. -/
def meshAt (n : Nat) (x : Lane := laneOn) : State :=
  { base.setFld (MESH_PSTAT 0) 2 0 n with ports := [(0, { lanes := [(0, x)] })] }

theorem wit_link : State.reset.heldOff = true ∧ base.heldOff = false := by decide

/-- A packet with sequence number `n`. -/
def pk (n : Nat) : Packet := { seq := n, body := [BitVec.ofNat 8 n] }

theorem wit_ports :
    let s := base.setBit (MESH_PCFG 0) 0 true
    (({ base with variant := .pfq1604 } : State).nPort ≤ 1 ∧ 0 < base.nPort) ∧
    (s.mode = .run ∧ s.bit (MESH_PCFG 0) 0 = true ∧ s.portState 0 = 0 ∧ base.bit (MESH_PCFG 0) 0 = false) ∧
    ((meshAt 1 {}).laneRetired 0 0 = false ∧ (meshAt 1 {}).portState 0 = 1 ∧ (meshAt 2 {}).portState 0 = 2) ∧
    (((meshAt 2 { signal := true }).lane 0 0).signal = true ∧ ((meshAt 2 { signal := true }).lane 0 0).trained = false ∧
      ((meshAt 2 { signal := true }).lane 0 0).failed = false ∧ ∀ k < 8, ((meshAt 2 { signal := true }).lane 0 k).trained = false) ∧
    ((∃ k < 8, ((meshAt 2).lane 0 k).trained = true) ∧ (∀ k < 8, ((meshAt 2).lane 0 k).signal = false ∨
      ((meshAt 2).lane 0 k).trained = true ∨ ((meshAt 2).lane 0 k).failed = true)) ∧
    ((meshAt 3).portState 0 = 3 ∧ (meshAt 3).portState 0 ≠ 6 ∧ (meshAt 4).portState 0 = 4 ∧ ((meshAt 4).port 0).wait = []) ∧
    (let w : State := { meshAt 4 with ports := [(0, { lanes := [(0, laneOn)], wait := [pk 1] })] }
     w.portState 0 = 4 ∧ (∀ d < 64, w.bit (MESH_ROUTE d) 2 = false ∧ w.bit (MESH_ROUTE d) 8 = false) ∧
       ∀ k ∈ (w.port 0).wait, (k.body.getD 4 0#8).toNat < 64) := by decide +kernel

theorem wit_lanes :
    let s := meshAt 4
    let r := fun (l : List (Nat × Nat × Packet)) => meshAt 4 { laneOn with retry := l }
    let two : State := { s with ports := [(0, { lanes := [(0, laneOn), (1, laneOn)] })] }
    let retired : State := { r [(1, 1, pk 1), (2, 1, pk 2)] with errs := [(resource 7 0, { retired := true })] }
    (0 < s.nPort ∧ s.fld (MESH_SLEEP 0) 7 0 = 0 ∧ s.opened ∧ s.fld (MESH_SLEEP 0) 15 8 = 0 ∧ (s.lane 0 0).trained = true ∧
      s.laneUp 0 0 = true ∧ s.timeLane 0 = some 0 ∧ (s.port 0).wait = []) ∧
    ((meshAt 4 {}).laneUp 0 0 = false ∧ (meshAt 4 {}).laneRetired 0 0 = false ∧ ((meshAt 4 {}).lane 0 0).rxSleep = false ∧
      ((meshAt 4 {}).lane 0 0).testing = false) ∧
    (((r [(1, 1, pk 1), (2, 1, pk 2)]).lane 0 0).retry = [(1, 1, pk 1)] ++ ((2#12).toNat, 1, pk 2) :: [] ∧
      (∀ e ∈ [((1 : Nat), (1 : Nat), pk 1)], e.1 ≠ (2#12).toNat) ∧ (retired.err (resource 7 (8 * 0 + 0))).retired = true ∧
      (∀ e ∈ ((r [(1, 4, pk 1)]).lane 0 0).retry, e.2.1 < 5) ∧ ∃ e ∈ ((r [(1, 5, pk 1)]).lane 0 0).retry, 5 ≤ e.2.1) ∧
    (two.laneUp 0 1 = true ∧ two.timeLane 0 ≠ some 1 ∧ (two.lane 0 1).txSleep = false ∧ (two.lane 0 1).retry = [] ∧
      (two.port 0).wait = []) ∧
    (two.laneUp 0 2 = false ∧ two.bit (MESH_SLEEP 0) 1 = false ∧ (two.lane 0 1).peerReq = false ∧
      (two.setBit (MESH_SLEEP 0) 1 true).bit (MESH_SLEEP 0) 1 = true ∧ two.bit (MESH_SLEEP 0) 9 = false) ∧
    (base.mode ≠ .test ∧ ({ s with mode := .test } : State).opened ∧ (1#32).toNat % 4 ≠ 0 ∧ (1#32).getLsbD 10 = false) := by
  decide +kernel

theorem wit_line_code : (false, 0#8) ∈ allCodes ∧ ({} : Lane).txPre < 4 ∧ ({} : Lane).txPre = ({} : Lane).rxPre ∧
    ({} : Lane).txRd = ({} : Lane).rxRd := by decide +kernel

theorem wit_no_sleep_request : ∀ k, ((meshAt 4).lane 0 k).peerReq = false := by
  intro k
  show (look (fun _ => ({} : Lane)) [(0, laneOn)] k).peerReq = false
  simp only [look]; split <;> decide

theorem wit_epoch :
    let t := fun (x : Time) => ({ base with time := x } : State)
    let at_ := fun (k : Nat) (s : State) => ({ s with time := { s.time with armed := true, armAt := 5, dtime := BitVec.ofNat 64 k } } : State)
    let soft := base.setBit TIME_CTRL 7 true
    let slip := base.setBit TIME_STAT 3 true
    let sync := base.setBit TIME_CTRL 7 false
    let follow := fun k => t { follow := some 4, followAt := 8, dtime := BitVec.ofNat 64 k }
    let shot := inShot
    (base.opened ∧ (1#32).getLsbD 0 = true ∧ base.mode = .run ∧ base.allHold = true ∧ shot.allHold = false) ∧
    ((at_ 10 soft).time.armed = true ∧ (at_ 10 soft).time.edge = none ∧ (at_ 10 soft).bit TIME_CTRL 7 = true ∧
      (at_ 10 soft).bit TIME_STAT 3 = false ∧ ((at_ 10 soft).time.armAt / 4 + 1) * 4 + 2 = (at_ 10 soft).now ∧
      (at_ 7 soft).now < ((at_ 7 soft).time.armAt / 4 + 1) * 4) ∧
    ((at_ 8 sync).bit TIME_CTRL 7 = false ∧ (at_ 8 sync).bit TIME_CTRL 1 = false ∧ (at_ 8 sync).now % 4 = 0 ∧
      (at_ 8 sync).time.armAt < (at_ 8 sync).now ∧ (at_ 9 sync).now % 4 ≠ 0 ∧ (at_ 4 sync).now ≤ (at_ 4 sync).time.armAt ∧
      ((at_ 8 sync).setBit TIME_CTRL 1 true).bit TIME_CTRL 1 = true ∧ (at_ 9 slip).bit TIME_STAT 3 = true ∧
      (at_ 9 slip).bit TIME_CTRL 1 = false) ∧
    (base.time.armed = false ∧ (t { edge := some 4 }).time.stage = 0 ∧ (t { edge := some 32, stage := 1 }).time.repeated = false ∧
      ((t { edge := some 32, stage := 1 }).setFld TIME_CTRL 3 2 1).fld TIME_CTRL 3 2 = 1) ∧
    ((t { edge := some 64, stage := 1 }).time.edge = some 64 ∧ (t { edge := some 66, stage := 2 }).time.stage = 2) ∧
    ((base.setFld TIME_CTRL 3 2 2).fld TIME_CTRL 3 2 = 2 ∧ (base.setFld TIME_CTRL 3 2 2).now % 2 ^ 32 = base.regN TIME_SYNCGEN_LO ∧
      base.fld TIME_CTRL 3 2 ≠ 2) ∧
    ((follow 1032).allHold = true ∧ (follow 1032).time.followAt + 1024 ≤ (follow 1032).now ∧
      (follow 1031).now < (follow 1031).time.followAt + 1024 ∧ (follow 1032).time.follow = some 4 ∧
      ({ shot with time := { shot.time with follow := some 4 } } : State).allHold = false) := by decide +kernel

/-- A follower: the parent is on port 0, which is up. -/
def follower : State := (meshAt 4).setBit TIME_CTRL 6 false

theorem wit_cluster :
    let s := follower
    let alone := s.setBit TIME_CTRL 6 true
    let armed : State := { s.setBit TIME_CTRL 1 true with time := { s.time with armed := true } }
    let parent := (s.setBit (MESH_PSTAT 0) 29 true).setBit TIME_STAT 1 false
    (s.parentPort = some 0 ∧ alone.parentPort = none ∧ (s.setBit (MESH_PCFG 0) 0 true).bit (MESH_PCFG 0) 0 = true ∧
      s.now < s.time.parentAt + 640000 ∧ s.time.parentAt + 640000 ≤ (atTick 640000 s).now) ∧
    (s.timePort 0 = true ∧ base.timePort 0 = false ∧ (0#64).toNat = (s.port 0).probeAt ∧ (1#64).toNat ≠ (s.port 0).probeAt ∧
      alone.parentPort ≠ some 0) ∧
    (armed.timePort 0 = true ∧ armed.parentPort = some 0 ∧ armed.time.armed = true ∧ armed.time.follow = none ∧
      armed.bit TIME_CTRL 1 = true ∧ armed.bit TIME_CTRL 7 = false ∧ (8#64).toNat % 4 = 0) ∧
    (parent.timePort 0 = true ∧ parent.bit (MESH_PSTAT 0) 29 = true ∧ parent.bit TIME_STAT 1 = false ∧
      (parent.setBit TIME_STAT 1 true).bit TIME_STAT 1 = true) ∧
    (let slewed : State := { s with time := { s.time with slewAt := some 0 } }
     ¬ (slewed.time.slewAt.all fun t0 => decide (t0 + 65534 ≤ slewed.now)) = true ∧
       ((atTick 65534 slewed).time.slewAt.all fun t0 => decide (t0 + 65534 ≤ (atTick 65534 slewed).now)) = true) ∧
    (∀ k ∈ [1, 2, 3, 4], let w : State := { s with ports := [(0, { lanes := [(0, laneOn)], timeWait := [(k, 5#64, 6#64)] })] }
      w.timePort 0 = true ∧ w.timeLane 0 = some 0 ∧ (w.port 0).timeWait = (k, 5#64, 6#64) :: [] ∧ (w.lane 0 0).cur = [] ∧
        w.now < 2 ^ 63) ∧
    (let w : State := { s with ports := [(0, { lanes := [(0, { laneOn with cur := [(false, 0#8)] })], timeWait := [(1, 5#64, 6#64)] })] }
     w.timePort 0 = true ∧ (w.lane 0 0).cur ≠ []) := by decide +kernel

theorem wit_reference :
    let lost : State := { base with time := { base.time with lost := true } }
    let back : State := { base with time := { base.time with clearAt := some 0 } }
    let tone : Pulse := { ch := 0, cw := true, playing := true }
    let s : State := { (quartz .stream).setFld (OCH_STAT 0) 1 0 1 with fab := { pulses := [tone] } }
    (lost.time.lost = true ∧ (inShot).time.lost = false ∧ (inShot).mode ≠ .boot ∧ (inShot).mode ≠ .failed ∧
      ((inShot).part 0).mode = .shot ∧ ((inShot).part 0).attempt.active = true) ∧
    (back.time.clearAt = some 0 ∧ back.time.lost = false ∧ back.now < 0 + 1024 ∧ 0 + 1024 ≤ (atTick 1024 back).now) ∧
    (tone ∈ s.fab.pulses ∧ tone.cw = true ∧ tone.playing = true ∧ tone.done = false ∧ (s.part tone.part).mode = .stream ∧
      tone.ch < 64 ∧ s.ochState tone.ch = 1) := by decide +kernel

/-- Domain 0 is heard on port 0 and in state `st`. -/
def ptpAt (st : Nat) (x : Dom := {}) : State :=
  { (base.setFld (PTP_DCFG 0) 1 0 3).setFld (PTP_DSTAT 0) 1 0 st with doms := [(0, x)] }

/-- An Announce of a master whose grandmaster is itself. -/
def announce (sender : Nat) : Announce :=
  { ({} : Announce) with sender := BitVec.ofNat 64 sender, grandmaster := BitVec.ofNat 64 sender }

theorem wit_ptp :
    let s := ptpAt 2
    let own := (ptpAt 2 { foreign := [(0, 100, announce 5)], master := some 5#64 }).setBit (PTP_PSTAT 0) 0 true
    let late := atTick (2 ^ 40) own
    (s.ptpHears 0 0 = true ∧ s.ptpHears 0 1 = false ∧ (s.dom 0).foreign = [] ∧ (s.dom 0).master ≠ some (announce 5).sender ∧
      s.ptpPort 0 0 = true ∧ s.dstate 0 = 2 ∧ (s.dom 0).waitFu = none) ∧
    (own.ptpHears 0 0 = true ∧ (own.dom 0).foreign = [(0, 100, announce 5)] ∧ (own.dom 0).master = some (announce 5).sender ∧
      own.fld (PTP_DSTAT 0) 2 2 = 0 ∧ (announce 5).sender ≠ (announce 6).sender ∧ (announce 5).sender ≠ (announce 4).sender ∧
      own.now < 100 ∧ annBetter (announce 6) (announce 5) = false ∧
      annBetter (announce 4) (announce 5) = true ∧ 100 ≤ late.now) ∧
    ((announce 5).grandmaster = (announce 5).grandmaster ∧ (announce 5).grandmaster ≠ (announce 6).grandmaster) ∧
    (own.bit (PTP_DCFG 0) 1 = true ∧ own.bit (PTP_PSTAT 0) 0 = true ∧ own.bit (PTP_PSTAT 0) 1 = false ∧ own.masterLost 0 = false ∧
      late.masterLost 0 = true ∧ 2 ≤ late.dstate 0 ∧
      ∀ k < 2, base.bit (PTP_DCFG 0) (1 + k) = false ∨ base.bit (PTP_PSTAT k) 0 = false ∨ base.bit (PTP_PSTAT k) 1 = true) := by
  decide +kernel

theorem wit_ptp_messages :
    let s := ptpAt 2
    let fu := ptpAt 2 { waitFu := some 7 }
    let req := ptpAt 2 { reqSeq := some 7, synced := true }
    let sw := (ptpAt 3).setFld (PTP_DSTAT 1) 1 0 3
    let auto := ((ptpAt 1).setFld (PTP_DSTAT 1) 1 0 3).setBit PTP_CFG 4 true
    ((fu.dom 0).waitFu = some (7#16).toNat ∧ fu.now ≤ (fu.dom 0).waitTick + 640000000 ∧ (s.dom 0).waitFu ≠ some (7#16).toNat ∧
      fu.fld (PTP_DSTAT 0) 2 2 = 0 ∧ (fu.dom 0).waitTick + 640000000 ≤ (atTick 640000000 fu).now) ∧
    ((req.dom 0).reqSeq = some (7#16).toNat ∧ (req.dom 0).synced = true ∧ (req.dom 0).waitFu = none) ∧
    (base.dstate 0 < 2 ∧ 2 ≤ s.dstate 0 ∧ s.ptpSel = 0 ∧ (s.setCstate 2).cstate = 2 ∧ (s.setCstate 1).cstate = 1 ∧
      (s.setFld PTP_STAT 0 0 1).ptpSel ≠ 0) ∧
    (sw.opened ∧ sw.ptpSel = 0 ∧ sw.dstate (1 - 0) = 3 ∧ sw.bit PTP_STAT 3 = false ∧ sw.cstate < 2 ∧ s.dstate (1 - s.ptpSel) ≠ 3 ∧
      2 ≤ (sw.setCstate 2).cstate ∧ base.bit PTP_CFG 4 = false ∧ auto.bit PTP_CFG 4 = true ∧ auto.dstate 0 < 2 ∧
      auto.dstate (1 - 0) = 3 ∧ auto.ptpSel = 0 ∧ auto.bit PTP_STAT 3 = false) := by decide +kernel

/-- Bias output 0 of partition 0 in state `st`, as `x`. -/
def biasAt (st : Nat) (x : Bias := {}) : State := { owned.setFld (BIAS_STAT 0) 2 0 st with biases := [(0, x)] }

theorem wit_bias_targets :
    let e : Event := { id := 5, kind := .setbias 0 3#20, stage := .transit 100, inst := 32 * 148 }
    let s := fun (q : State) t => ({ atTick t q with fab := { events := [e] } } : State)
    let f := fun st (x : Bias) => atTick 6400 (biasAt st { x with events := [(6400, 5, 3, false)] })
    ((s inShot 100).event 5 = some e ∧ (s inShot 99).now < 100 ∧ 100 ≤ (s inShot 100).now ∧ 32 * ((s inShot 100).now + 48) ≤ e.inst ∧
      e.inst < 32 * ((s inShot 101).now + 48) ∧ ((s inShot 101).part e.part).mode = .shot ∧
      ((s (quartz .stream) 101).part e.part).mode = .stream ∧ (s (quartz .stream) 101).event 5 = some e) ∧
    ((base.bias 0).events.filter (fun e => decide (e.1 ≤ base.now)) = [] ∧ (atTick 6401 base).now % 640 ≠ 0) ∧
    (∀ st ∈ [bClamped, bSteady, bRamping, bDown, bSwitch, bControl],
      ((f st {}).bias 0).events.filter (fun e => decide (e.1 ≤ (f st {}).now)) ≠ [] ∧ (f st {}).now % 640 = 0 ∧
        ((f st {}).biasOwner 0).isSome = true ∧ (f st {}).biasState 0 = st) ∧
    (let q := { (s inShot 100) with fab := { events := [{ e with id := 4, stage := .transit 90 }, e] } }
     (s inShot 100).inOrder e 100 = true ∧ q.inOrder e 100 = false ∧ q.event 5 = some e) ∧
    (let g := fun (x : Bias) => atTick 6400 (biasAt bClamped { x with events := [(6400, 5, 3, true)] })
     (∀ e ∈ ((g {}).bias 0).events.filter (fun e => decide (e.1 ≤ (g {}).now)), e.2.2.2 = true) ∧
       (∃ e ∈ ((f bClamped { changing := true, spanTo := 2 }).bias 0).events, e.2.2.2 = false) ∧
       ((f bClamped { changing := true, spanTo := 2 }).bias 0).spanTo < 4 ∧ ((f bClamped {}).bias 0).changing = false ∧
       ((f bSteady {}).bias 0).next = none) ∧
    (((f bRamping { next := some 6400 }).bias 0).next.isSome = true ∧ ((f bDown { changing := true }).bias 0).changing = true ∧
      codeVal ((f bClamped {}).fld (BIAS_STAT 0) 4 3) 3 ≠ 0 ∧ codeVal ((f bClamped {}).fld (BIAS_STAT 0) 4 3) 0 = 0) := by
  decide +kernel

theorem wit_slew :
    let s := fun st (x : Bias) => atTick 640 (biasAt st { x with next := some 640 })
    (base.bias 0).next = none ∧ (atTick 639 (s bRamping {})).now < 640 ∧ 640 ≤ (s bRamping {}).now ∧
    (s bRamping {}).biasState 0 ≠ bControl ∧ (s bControl {}).biasState 0 = bControl ∧ ((s bRamping {}).bias 0).clampAfter = false ∧
    (s bRamping {}).biasState 0 ≠ bDown ∧ ((s bRamping {}).setN (BIAS_SLEW 0) 0).fld (BIAS_SLEW 0) 19 0 = 0 ∧
    ((s bRamping { target := 9 }).setFld (BIAS_SLEW 0) 19 0 4).fld (BIAS_SLEW 0) 19 0 ≠ 0 ∧
    (s bDown {}).biasState 0 = bDown ∧ ((s bRamping { clampAfter := true }).bias 0).clampAfter = true := by decide +kernel

theorem wit_spans :
    let s := fun st (t : Nat) (x : Bias) => atTick t (biasAt st { x with changing := true, zFrame := some 6400, codeTo := 5 })
    (owned.opened ∧ 0 < owned.nBias ∧ owned.biasOwner 0 = some 0 ∧ (owned.part 0).mode = .hold ∧ owned.mode = .run ∧
      (owned.bias 0).changing = false ∧ (biasAt bSteady).biasState 0 ≠ bClamped ∧ (biasAt bClamped).biasState 0 = bClamped) ∧
    (base.biasOwner 0 = none ∧ ((inShot).part 0).mode ≠ .hold ∧ (inShot).biasOwner 0 = some 0) ∧
    (((s bDown 6400 {}).bias 0).zFrame = some 6400 ∧ (s bDown 6399 {}).now < 6400 ∧ 6400 ≤ (s bDown 6400 {}).now ∧
      (s bDown 6400 {}).biasState 0 = bDown ∧ 6400 + 6400 ≤ (s bSwitch 12800 {}).now ∧ (s bSwitch 12800 {}).biasState 0 = bSwitch ∧
      (s bSwitch 12799 {}).now < 6400 + 6400 ∧ (s bClamped 6400 {}).biasState 0 = bClamped ∧
      6400 + 12800 ≤ (s bSwitch 19200 {}).now ∧ (s bSwitch 19199 {}).now < 6400 + 12800 ∧
      (s bSwitch 19200 {}).fld (BIAS_STAT 0) 4 3 = ((s bSwitch 19200 {}).bias 0).spanTo ∧ ((s bSwitch 19200 {}).bias 0).codeTo ≠ 0) ∧
    (let c := atTick 6400 (biasAt bRamping { clampAfter := true, zFrame := some 6400 })
     (c.bias 0).zFrame = some 6400 ∧ (c.bias 0).changing = false ∧ (c.bias 0).clampAfter = true ∧ 6400 ≤ c.now) ∧
    (({ base with variant := .pfq1604 } : State).nBias ≤ 127 ∧ (base.setBit (BIAS_CFG 0) 8 true).bit (BIAS_CFG 0) 8 = true ∧
      base.bit (BIAS_CFG 0) 8 = false ∧ (biasAt bSteady).biasState 0 ≠ bClamped ∧ base.biasState 0 = bClamped ∧ base.opened ∧
      0 < base.nBias) := by decide +kernel

theorem wit_flint :
    let s := (owned.setBit (FLINT_CFG 0) 0 true).setBit (FLINT_CFG 0) 4 true
    let per := (s.setFld (FLINT_CFG 0) 3 2 1).setLatch 0 true
    let test := fun k => ({ atTick 3200 s with mode := .test, flint := { step := some k } } : State)
    let free := base.setLatch 0 false
    (({ base with variant := .pfq1604 } : State).hasMon 47 = false ∧ base.bit (FLINT_CFG 0) 0 = false) ∧
    (s.hasMon 0 = true ∧ s.bit (FLINT_CFG 0) 0 = true ∧ s.mode = .run ∧ s.flint.step = none ∧
      (s.setLatch 0 true).flintLatched 0 = true ∧ (s.setLatch 0 false).flintLatched 0 = false ∧
      s.bit (FLINT_CFG 0) 4 = true ∧ s.bit (FLINT_CFG 0) 5 = false ∧ 0 ∈ s.ochsOf 0) ∧
    (per.fld (FLINT_CFG 0) 3 2 = 1 ∧ per.flintLatched 0 = true ∧ per.now % max 1 (per.fld (FLINT_PERIOD 0) 23 0) = 0) ∧
    (per.latchFresh 0 = false ∧ (per.latchAnew 0).latchFresh 0 = true) ∧
    ((List.replicate 48 FlintIn.inside).length = 48 ∧ free.opened) ∧
    ((0x40#32).getLsbD 6 = true ∧ (0x40#32).toNat % 64 ≤ 47 ∧ ({ s with mode := .test } : State).flint.step = none ∧ s.mode ≠ .test ∧
      (test 1).opened) ∧
    (∀ k ∈ [1, 2, 3, 4], (test k).flint.step = some k ∧ (test k).flint.mon < 48 ∧ (test k).flint.started + 640 * k ≤ (test k).now ∧
      (atTick 0 (test k)).now < (test k).flint.started + 640 * k) ∧
    ((test 2).setFld (FLINT_THR 0) 11 0 16).fld (FLINT_THR 0) 11 0 = 16 := by decide +kernel

theorem wit_housekeeping :
    let on := ((base.setBit HK_CTRL 0 true).setBit HK_STAT 0 false).setBit HK_STAT 2 false
    let gap := (on.setBit HK_CTRL 1 true).setFld HK_PERIOD 23 0 100
    let cont := on.setBit HK_CTRL 1 false
    let run := fun (h : Hk) => ({ on.setBit HK_STAT 0 true with hk := h } : State)
    let inj : State := { on with hk := { inj := some (1, 0, 0, 1), injRun := true } }
    (on.mode ≠ .boot ∧ on.mode ≠ .failed ∧ on.bit HK_STAT 2 = false ∧ on.mode ≠ .calibrate ∧ on.bit HK_CTRL 0 = true ∧
      (on.setBit HK_STAT 2 true).bit HK_STAT 2 = true) ∧
    (gap.bit HK_CTRL 1 = true ∧ (atTick 99 gap).now % max 1 (gap.fld HK_PERIOD 23 0) ≠ 0 ∧
      (atTick 100 gap).now % max 1 (gap.fld HK_PERIOD 23 0) = 0 ∧ (gap.setBit HK_STAT 0 true).bit HK_STAT 0 = true ∧
      cont.bit HK_CTRL 1 = false ∧ cont.bit HK_STAT 0 = false) ∧
    (let s := run { list := [(1, 0, 0, 1), (2, 0, 0, 1)] }
     [5, (7 : Int)].length = 1 + 1 ∧ s.bit HK_STAT 0 = true ∧ s.hk.injRun = false ∧ s.hk.list[s.hk.entry]? = some (1, 0, 0, 1) ∧
       (s.mode ≠ .boot ∧ s.mode ≠ .failed) ∧ s.hk.list.length ≤ 64 ∧ s.hk.entry + 1 < s.hk.list.length ∧ s.bit HK_STAT 2 = false ∧
       (run { s.hk with entry := 1 }).hk.entry + 1 = s.hk.list.length) ∧
    (inj.hk.inj = some (1, 0, 0, 1) ∧ inj.hk.injRun = true ∧ inj.mode ≠ .calibrate) ∧
    ((run { temps := true }).hk.temps = true ∧ (List.replicate 8 (0 : Int)).length = 8 ∧ on.hasSensor 0 = true ∧ on.hk.temps = false) ∧
    (let w := ({ on.setBit HK_STAT 1 true with hk := { temps := true } } : State)
     w.hk.temps = true ∧ w.bit HK_STAT 0 = false ∧ w.bit HK_STAT 1 = true ∧ 1600 ≤ (atTick 1600 w).now % 640000) ∧
    (on.opened ∧ (0x1000001#32).getLsbD 24 = true ∧ inj.hk.inj.isSome = true ∧ on.hk.inj = none ∧
      (0x1000001#32).toNat % 128 ≤ 35 ∧ (0x1000001#32).toNat / 2 ^ 14 % 4 ≤ 2) := by decide +kernel

theorem wit_calibration :
    let s := base
    let cal := fun (c : Cal) => ({ base with cal := c } : State)
    let running := ({ (cal { run := true }).setBit HK_STAT 2 true with mode := .calibrate } : State)
    (s.opened ∧ (0x3F1#32).getLsbD 0 = true ∧ (0x3F1#32).getLsbD 1 = false ∧ s.deep = 0 ∧ s.allHold = true ∧ s.mode = .run ∧
      s.cal.run = false ∧ s.cal.commit = false ∧ (inShot).allHold = false ∧ (inShot).opened ∧ ({ s with mode := .test } : State).opened ∧
      ({ s with mode := .test } : State).mode ≠ .run) ∧
    ((0x3F1#32).toNat / 16 % 64 = 63 ∧ (0x3F1#32).toNat / 1024 % 8 = 0 ∧ (1#32).toNat / 16 % 64 = 0 ∧ (0x1401#32).toNat / 1024 % 8 = 5 ∧
      (0x11#32).toNat / 16 % 64 = 1 ∧ (cal { valid := true }).cal.valid = true ∧ stOrigin (cal { valid := true }).cal.store = 0 ∧
      s.cal.valid = false ∧ s.hk.inj = none) ∧
    ((base.setFld MEM_STAT 1 0 1).deep = 1 ∧ running.cal.run = true ∧ running.bit HK_STAT 2 = true ∧ 4 ≤ (4#8).toNat ∧
      (4#8).toNat ≤ 9 ∧ (3#8).toNat < 4 ∧ 9 < (10#8).toNat) ∧
    (let q := fun i => cal { run := true, items := i }
     (q 1).cal.run = true ∧ bitOf (q 1).cal.items 0 = true ∧ bitOf (q 0).cal.items 0 = false ∧
       pairTol 0 < ((100#32).toInt - (0#32).toInt).natAbs ∧ (6#8).toNat = 6 ∧ (9#8).toNat = 9 ∧ (0#8).toNat < 4 ∧
       (running.sane [] = true ∧ bitOf running.cal.items 1 = false ∧ (q 1).sane [] = false) ∧
       (∀ n < (q 2).nBias, ((q 2).bias n).next = none) ∧ bitOf (q 2).cal.items 1 = true) ∧
    (∀ n < 64, base.bit (OCH_STAT n) 3 = false) ∧
    ((cal { commit := true }).cal.commit = true ∧ (cal { commit := true }).boot.wb = false ∧ s.boot.wrote = false ∧
      ({ cal { commit := true } with boot := { held := false, wrote := true } } : State).boot.wrote = true ∧ s.cal.commit = false) := by
  decide +kernel

/-- A store with sets 0 and 1, recorded at 0 °C and 10 °C (in 1/16 °C), both with item 2. -/
def twoSets : State :=
  { base with
    cal := { valid := true, store := [(setOff 0 + 10, 4#8), (setOff 1, 160#8), (setOff 1 + 10, 4#8)] } }

theorem wit_trims :
    let s := fun v => twoSets.setFld (HK_TEMP 3) 17 0 v
    base.cal.valid = false ∧ twoSets.cal.valid = true ∧
    (∀ k < 5, (setItems twoSets.cal.store k ≠ 0 ↔ k < 2) ∧ (k < 2 → bitOf (setItems twoSets.cal.store k) 2 = true)) ∧
    setTemp twoSets.cal.store 0 0 = 0 ∧ setTemp twoSets.cal.store 1 0 = 160 ∧
    (s 0).dieTemp 0 ≤ setTemp twoSets.cal.store 0 0 ∧ setTemp twoSets.cal.store 1 0 ≤ (s 200).dieTemp 0 ∧
    setTemp twoSets.cal.store 0 0 ≤ (s 80).dieTemp 0 ∧ (s 80).dieTemp 0 ≤ setTemp twoSets.cal.store 1 0 := by decide +kernel

theorem wit_output_trims :
    let s : State := { base with cal := { trimDue := [0] } }
    0 < s.nOch ∧ s.trimMay 0 = true ∧ s.lanesAt 0 s.now = 0 ∧ ({ base with variant := .pfq1604 } : State).nOch ≤ 63 ∧
    0 ∉ base.cal.trimDue := by decide +kernel

theorem wit_reads :
    let s := (base.setFld (STRATA_JSIZE 0) 12 0 1)
    (2 : Nat) ≠ 4 ∧ base.mayRead 8 TIME_NOW_LO = true ∧ base.mayRead 8 (QTZ_TL_LO 0) = true ∧ 0 < base.nQtz ∧
    base.mayRead 8 (STRATA_JHEAD_LO 0) = true ∧ 0 < base.nPart ∧ base.mayRead 8 PTP_NOW_DT_LO = true ∧
    base.mayRead 8 (PTP_ANC_SEC_LO 0) = true ∧ State.reset.mayRead 8 TIME_NOW_LO = false ∧ base.mayRead 0 PTP_NOW_DT_LO = false ∧
    s.opened ∧ s.deep = 0 ∧ (4#24).toNat % 4 = 0 ∧ (s.part (s.fld STRATA_JWSEL 2 0)).mode = .hold ∧ s.fld STRATA_JWSEL 2 0 < s.nPart ∧
    (2 ^ 24 * s.fld STRATA_JWSEL 15 8 + (4#24).toNat) / 32 < 32768 * s.fld (STRATA_JSIZE (s.fld STRATA_JWSEL 2 0)) 12 0 ∧
    ((inShot).part 0).mode ≠ .hold ∧ (5#24).toNat % 4 ≠ 0 ∧ 32768 * (base.setN (STRATA_JSIZE 0) 0).fld (STRATA_JSIZE 0) 12 0 ≤ 0 ∧
    (base.setFld MEM_STAT 1 0 1).deep = 1 ∧ (base.setFld MEM_STAT 1 0 2).deep = 2 := by decide +kernel

theorem wit_clears :
    let small : State := { base with variant := .pfq1604 }
    let boot : State := { base with mode := .boot }
    base.opened ∧ 63 < base.nOch ∧ 15 < base.nIch ∧ 63 < base.nMica ∧ 7 < base.nPart ∧ 7 < base.nChan ∧ 3 < base.nPort ∧ 15 < base.nQtz ∧
    small.opened ∧ ¬63 < small.nOch ∧ ¬15 < small.nIch ∧ ¬7 < small.nPart ∧ ¬7 < small.nChan ∧ ¬3 < small.nPort ∧
    boot.heldOff = false ∧ boot.mode = .boot := by decide

theorem wit_fields : (∃ r, pf0Row TIME_CTRL = some r ∧ (∃ f ∈ r.flds, f.acc = .rw) ∧ ∃ f ∈ r.flds, f.acc ≠ .rw ∧ f.acc ≠ .rw1c) ∧
    ∃ r, pf0Row TIME_STAT = some r ∧ ∃ f ∈ r.flds, f.acc = .rw1c := by
  refine ⟨⟨_, rfl, ?_⟩, ⟨_, rfl, ?_⟩⟩ <;> decide

theorem wit_writes :
    let s := linked
    let off : State := { s with parts := [] }
    base.opened ∧ (0x1FFFC#26).toNat % 4 = 0 ∧ 0x10000 ≤ (0x1FFFC#26).toNat ∧ (0x1FFFC#26).toNat < 0x20000 ∧
    pf0Row (0x1FFFC#26).toNat = none ∧ ({ base with variant := .pfq1604 } : State).present (0x10050) = false ∧
    (∀ a ∈ [TIME_EPOCH_LO, HK_PERIOD, CAL_REFV], (pf0Row a).isSome = true) ∧ (1#32).getLsbD 0 = true ∧
    (∀ size ∈ [1, 2, 8], size ≠ 4) ∧ (5#26).toNat % 4 ≠ 0 ∧ base.vfOn 0 = false ∧ s.vfOn 0 = true ∧ off.vfOn 0 = true ∧ (s.part 0).enabled = true ∧
    VF_JRING_LO ≤ (BitVec.ofNat 26 VF_RSIZE).toNat ∧ VF_RSIZE % 4 = 0 := by decide +kernel

theorem wit_resets :
    let b := fun (x : Boot) => ({ base with boot := x } : State)
    let waiting : State := { base with mode := .boot, boot := { held := false, biasWait := true } }
    let ramping : State := { waiting.setFld (BIAS_STAT 0) 2 0 2 with boot := waiting.boot }
    let keep := ((owned.setBit (BIAS_CFG 0) 7 true).setFld (BIAS_STAT 0) 2 0 1)
    let linkReset := base.setBit GLB_CFG 0 true
    ((b { held := true }).boot.held = true ∧ base.boot.held = false ∧ (b { extest := true }).boot.extest = true ∧
      (b { thermal := true }).boot.thermal = true ∧ (∀ x ∈ [(94 : Int)], x < 95) ∧ (∃ x ∈ [(95 : Int)], 95 ≤ x ∧ x < 100) ∧
      (∃ x ∈ [(115 : Int)], 115 ≤ x) ∧ (∀ x ∈ [(114 : Int)], x < 115) ∧ base.boot.thermal = false) ∧
    (keep.heldOff = false ∧ keep.mode = .run ∧ (keep.biasOwner 0).isSome = true ∧ keep.bit (BIAS_CFG 0) 7 = true ∧
      keep.biasState 0 = bSteady ∧ (owned.setFld (BIAS_STAT 0) 2 0 1).biasState 0 = bSteady ∧ owned.bit (BIAS_CFG 0) 7 = false) ∧
    (base.boot.biasWait = false ∧ waiting.mode = .boot ∧ waiting.boot.biasWait = true ∧ waiting.heldOff = false ∧
      (∀ n < waiting.nBias, n ∈ waiting.boot.kept ∨ waiting.biasState n = bClamped) ∧ 0 < ramping.nBias ∧
      0 ∉ ramping.boot.kept ∧ ramping.biasState 0 ≠ bClamped) ∧
    (base.bit GLB_CFG 0 = false ∧ linkReset.bit GLB_CFG 0 = true ∧ linkReset.mode ≠ .boot ∧ linkReset.mode ≠ .failed) := by
  decide +kernel

theorem wit_reset_cause :
    let q := fun c a => ({ atTick 100 base with parts := [(0, { mode := .hold, cause := c, holdAt := a })] } : State)
    (q .trip 100).resetCause 0 = (.trip, true) ∧ (q .trip 99).resetCause 0 = (.reset, false) ∧
    (q .request 100).resetCause 0 = (.reset, false) := by decide

theorem wit_part_resets : (inShot).partLive 0 = true ∧ ({ inShot with variant := .pfq1604 } : State).partLive 7 = false ∧
    (inShot).opened ∧ 0 < (inShot).nPart ∧ ({ base with parts := [(0, { rbusy := true })] } : State).partLive 0 = true ∧
    (({ base with parts := [(0, { rbusy := true })] } : State).part 0).rbusy = true ∧ (base.part 0).rbusy = false := by
  decide +kernel

theorem wit_device_modes :
    let test : State := { base with mode := .test }
    let idle : State := { base with parts := [(0, { mode := .stream })] }
    let deep := base.setFld MEM_STAT 1 0 3
    base.mode ≠ .boot ∧ base.mode ≠ .failed ∧ base.deep = 0 ∧ base.mode = .run ∧ base.allHold = true ∧ (inShot).allHold = false ∧
    test.mode = .test ∧ State.reset.heldOff = true ∧ base.heldOff = false ∧ ((inShot).part 0).mode = .shot ∧
    ((inShot).part 0).attempt.active = true ∧ (idle.part 0).mode = .stream ∧ (idle.part 0).job = none ∧
    (base.setBit GLB_STAT 4 true).bit GLB_STAT 4 = true ∧ base.bit GLB_STAT 4 = false ∧ deep.deep = 3 ∧ deep.mem.waits = [] ∧
    (∃ c < deep.nChan, (([] : List ChTrain).getD c {}).fromRecord = false) ∧
    (∀ r < 32, (deep.ring r).early = []) ∧ State.reset.heldOff = true ∧ deep.heldOff = false ∧ deep.deep ≠ 0 ∧ test.heldOff = false ∧
    (let q := { atTick 100 base with parts := [(0, { mode := .hold, cause := .request, holdAt := 100 })] }
     (q.part 0).mode = .hold ∧ (q.part 0).holdAt = q.now ∧ holdRank .longPress < holdRank (q.part 0).cause) := by decide +kernel

theorem wit_boot :
    let s := fun k => ({ base.setFld BOOT_STAT 3 0 k with mode := .boot } : State)
    let trip := ((s 8).setBit (FLINT_CFG 0) 0 true).setBit (FLINT_CFG 0) 4 true
    (∀ k < 9, (s k).mode = .boot ∧ (s k).heldOff = false ∧ (s k).bootStage = k) ∧
    (∀ c < 8, (([] : List ChTrain).getD c {}).failStep = 0) ∧ (([{ failStep := 3 }] : List ChTrain).getD 0 {}).failStep ≠ 0 ∧
    (let w := { s 4 with boot := { held := false, warm := true } }
     w.boot.warm = true ∧ (∃ c < w.nChan, w.halfField 12 = 0) ∧ (s 4).boot.warm = false) ∧
    (s 7).boot.half = none ∧ trip.hasMon 0 = true ∧ trip.bit (FLINT_CFG 0) 0 = true ∧
    (trip.setLatch 0 true).flintLatched 0 = true ∧ ([FlintIn.inside])[0]? = some .inside ∧ ([FlintIn.high])[0]? = some .high ∧
    trip.bit (FLINT_CFG 0) 4 = true ∧ ((s 8).setBit (OCH_CTRL 0) 11 true).ochOwner 0 = some 0 ∧
    (s 8).bit (OCH_STAT 0) 4 = false ∧ ((s 8).setBit (PTP_DCFG 0) 0 true).bit (PTP_DCFG 0) 0 = true := by decide +kernel

theorem wit_overrides :
    let s := fun n => ({ base with mode := .boot, boot := { held := false, overrides := List.replicate n (0, 0#32) } } : State)
    (let l := (s 0).setFld BOOT_STAT 3 0 6
     l.mode = .boot ∧ 5 < l.bootStage ∧ l.heldOff = false ∧ ({ base with mode := .failed } : State).heldOff = false) ∧
    (OCH_CTRL 0 / 0x10000 ≠ 0 ∧ OCH_CTRL 0 / 0x10000 ≠ 2) ∧
    hasRwl (OCH_CTRL 0) = true ∧ (s 255).mode = .boot ∧ (s 255).heldOff = false ∧ (s 255).bootStage ≤ 5 ∧
    (s 255).boot.overrides.length < 256 ∧ 256 ≤ (s 256).boot.overrides.length ∧ hasRwl TIME_NOW_LO = false ∧ base.opened := by
  decide +kernel

/-- The header of a calibration area, GEN 0 (17 R479), in half 0 of slot 0. -/
def calHeader : Tab Byte :=
  let h := toBytes 4 0x43414C48 ++ List.replicate 56 0#8
  putBytes [] (halfBase 0 0) (h ++ toBytes 4 (crc32 h))

set_option maxRecDepth 20000 in
theorem wit_flash_commands :
    let op := fun o l => ({ base with boot := { held := false, flOp := some (o, 0, 4, l) } } : State)
    let s := base.setN BOOT_FLADDR 0
    let area := base.setN BOOT_FLADDR 0x1000000
    let half : State := { (op 3 []) with flash := calHeader }
    base.heldOff = false ∧ base.mode = .run ∧ base.allHold = true ∧ ({ base with mode := .failed } : State).mode = .failed ∧
    (inShot).allHold = false ∧ (inShot).mode = .run ∧ (op 0 []).boot.flOp.isSome = true ∧ base.boot.flOp = none ∧ base.boot.wb = false ∧
    s.fld BOOT_FLADDR 25 0 = 0 ∧ s.flProtected (0 / 4096 * 4096) 4096 = false ∧
    area.flProtected (area.fld BOOT_FLADDR 25 0 / 4096 * 4096) 4096 = true ∧ (256#13).toNat ≤ 4096 ∧
    s.fld BOOT_FLADDR 25 0 % 256 + (256#13).toNat ≤ 256 ∧ 256 < s.fld BOOT_FLADDR 25 0 % 256 + (257#13).toNat ∧
    s.flProtected 0 256 = false ∧ half.calHalf half.bootSlot = some (0, 0) := by decide +kernel

theorem wit_cal_area :
    let wb : State := { base with boot := { held := false, wb := true } }
    let rew : State := { base with mem := { rewrite := true } }
    wb.boot.wb = true ∧ wb.boot.flOp = none ∧ wb.storeBytes.length ≤ 0x7FFC0 ∧ base.boot.wb = false ∧ rew.mem.rewrite = true ∧
    rew.boot.wb = false ∧ rew.mode ≠ .boot ∧ rew.mode ≠ .failed ∧
    ({ rew with boot := { held := false, wrote := true } } : State).boot.wrote = true ∧ base.mem.rewrite = false := by decide +kernel

/-! Ill-formed commands, each refused by its check. -/

theorem bad_boot : (Instr.bootFlash true (BitVec.ofNat 32 (2 ^ 24))).wellFormed = false ∧
    (Instr.bootDdr (List.replicate 9 {})).wellFormed = false ∧ (Instr.deepExitDone (List.replicate 9 {})).wellFormed = false ∧
    (Instr.bootBias (List.replicate 49 .inside)).wellFormed = false ∧ (Instr.bootFlash true 0xFFFFFF#32).wellFormed = true := by
  decide

theorem bad_monitors : (Instr.judgement 0 (List.replicate 49 .inside)).wellFormed = false ∧
    (Instr.hostResume 0 (List.replicate 49 .inside)).wellFormed = false ∧
    (Instr.flintLatchWrite 0 (List.replicate 49 .inside)).wellFormed = false := by decide

theorem bad_temps : (Instr.thermalWarning []).wellFormed = false ∧ (Instr.thermalShutdown []).wellFormed = false ∧
    (Instr.thermalRecovery (List.replicate 9 0)).wellFormed = false ∧ (Instr.hkTempInsert [0]).wellFormed = false ∧
    (Instr.hkTempInsert (List.replicate 8 131072)).wellFormed = false := by decide

theorem bad_time : (Instr.timeRemeasure (2 ^ 31)).wellFormed = false ∧ (Instr.timeSync 0 true (-2 ^ 31 - 1)).wellFormed = false ∧
    (Instr.timeRemeasure (-2 ^ 31)).wellFormed = true ∧ (Instr.ptpAnnounce 0 0 {} 5).wellFormed = false ∧
    (Instr.ptpSync 0 0 0 none 0 0 (-8)).wellFormed = false := by decide

theorem bad_blocks : (∀ p : Fin 8, (Instr.attach p (List.replicate 65 0)).wellFormed = false ∧
      (Instr.armRaw p (List.replicate 65 0)).wellFormed = false ∧ (Instr.disarm p (List.replicate 65 0)).wellFormed = false ∧
      (Instr.detach p (List.replicate 65 0)).wellFormed = false ∧
      (Instr.jobTake p (some (List.replicate 65 0)) none).wellFormed = false) ∧
    (Instr.inputBlock 0 []).wellFormed = false ∧ (Instr.gapClose 0 256 0).wellFormed = false ∧
    (Instr.gapClose 0 0 256).wellFormed = false ∧ (Instr.meshBulk 0 {} 0 (2 ^ 32) []).wellFormed = false := by decide

theorem bad_memory : (Instr.correctedRead 0 (2 ^ 25)).wellFormed = false ∧ (Instr.pageRemap (2 ^ 25)).wellFormed = false ∧
    (Instr.uncorrectableRead 0 (2 ^ 25) .scrub).wellFormed = false ∧
    (Instr.uncorrectableRead 0 0 (.fill 65536 0)).wellFormed = false ∧ (Instr.writeCrcError 0 0 0 6).wellFormed = false ∧
    (Instr.writeCrcError 0 0 0 0).wellFormed = false ∧ (Instr.neighbourRefresh 0 0 (2 ^ 18)).wellFormed = false := by decide

theorem bad_others : (Instr.hkConversionDone true [] false).wellFormed = false ∧
    (Instr.hkConversionDone true [8192] false).wellFormed = false ∧ (Instr.hardwareError 0 0 256).wellFormed = false ∧
    (Instr.timeNowLoRead { f := 8, size := 0 }).wellFormed = false ∧ (Instr.journalWindowRead { off := 0, size := 4097 }).wellFormed = false ∧
    (Instr.ptpNowDtLoRead { f := 8, size := 4096 }).wellFormed = true ∧
    (Instr.registerWrite 8 0 0 0).wellFormed = false ∧ (Instr.registerWrite 8 0 4097 0).wellFormed = false ∧
    (Instr.fillComplete 65536 0 true).wellFormed = false ∧ (Instr.usePinRelease 65536 0).wellFormed = false := by decide

/-! Worked examples of the spec. -/

/-- The event tag of 00 R15. -/
theorem test_tag : mkTag 0x123456 5 2 0x0A7 499 1 false false false false 1 = 0x1234562A0A77CD01#64 := by decide

/-- 07 R226: a LEN of 128 resets A3 from offset 200, and keeps it at offset 100. -/
theorem test_seta :
    let c := fun a => ((({} : Ctx).setBase 3 0x2000).setLen 3 256).setA 3 a
    (((c 0x20C8).seta 3 2 128).map fun d => (d.ar 3, d.fCbrst)) = some (0x2000, true) ∧
    (((c 0x2064).seta 3 2 128).map fun d => (d.ar 3, d.fCbrst)) = some (0x2064, false) := by decide

/-- 07: SETA A0.BASE, 0x0000 is 0x5010_0000, and BASE 0x01E0 is 0x5010_01E0 (field WHICH in bits 21-20). -/
theorem test_seta_word : mf 0x10001E0#26 21 20 = 0 ∧ mf 0x1001E0#26 21 20 = 1 ∧ mf 0x1001E0#26 13 0 = 0x1E0 ∧
    mf 0x1001E0#26 24 22 = 0 := by decide

/-- 15 R435: the first frame at or after tick 1,000,000 is 1,000,320. -/
theorem test_bias_frame : frameFrom 1000000 = 1000320 := by decide

/-- 15 R437: STEP 1,049 takes BIAS[17] from 0 to 1,049 at F, and from 124,831 to its target 125,829 at F + 119 × 640. -/
theorem test_bias_slew :
    let s := fun f out => atTick f { (base.setFld (BIAS_STAT 17) 2 0 bRamping).setFld (BIAS_SLEW 17) 19 0 1049 with
      biases := [(17, { target := 125829, out := out, next := some f })] }
    (match exec (.slewStep 17) (s 1000320 0) with | .next t => (t.bias 17).out | _ => 0) = 1049 ∧
    (match exec (.slewStep 17) (s 1076480 124831) with | .next t => (t.bias 17).out | _ => 0) = 125829 := by decide +kernel

/-- 16 R468: OCH_DCOFS[20] at 47.0 °C and at 70.0 °C, from −320 at 38.0 °C, −200 at 52.5 °C and −110 at 66.0 °C. -/
theorem test_trim :
    let set := fun k temp v st =>
      stPut (stPut (stPut st (setOff k + 2) (toBytes 2 temp)) (setOff k + 10) [4#8]) (setOff k + 224) (toBytes 2 v)
    let s := fun t => { (base.setFld (HK_TEMP 4) 17 0 t) with
      cal := { valid := true, store := set 0 608 (65536 - 320) (set 1 840 (65536 - 200) (set 2 1056 (65536 - 110) [])) } }
    (s 752).trim 2 1 224 2 true 0 = -246 ∧ (s 1120).trim 2 1 224 2 true 0 = -110 := by decide +kernel

/-- 18: MICA_DCFG[40][0] is at 0x00E_144C. -/
theorem test_offset : MICA_DCFG 40 0 = 0xE144C := by decide

/-- 05: a 4-granule pulse at instant r is reserved from r − 2 to r + 17, a 128-granule probe at r + 40 to r + 553. -/
theorem test_reservation : rsvEnd (32 * 5000) 4 8 = 5017 ∧ rsvEnd (32 * 5040) 128 8 = 5553 := by decide

/-- 04: the BRD of the active reset waits for slot 17, valid at S + 546; it resumes at S + 552 with TL = S + 612. -/
theorem test_brd :
    let s : State := { inShot with
      cores := [(0, { st := .stallBrd, part := true, tl := 32 * 1512, brd := some { slot := 17, binding := 1, mask := 13#4 } })]
      slots := [(17, { value := { state := 1 }, commits := 1, hist := [(1, 1, 1546)] })] }
    (match exec (.brdResume 0) (atTick 1552 s) with | .next t => (t.qtz 0).tl | _ => 0) = 32 * 1612 := by decide +kernel

end Sys2Proof.Tests
end

namespace Sys2Proof.Machine

/-! Bits of numbers. -/

theorem bitOf_eq_testBit (w i : Nat) : bitOf w i = w.testBit i := by
  simp [bitOf, Nat.testBit_eq_decide_div_mod_eq, Nat.shiftRight_eq_div_pow, BEq.beq]

theorem bits_testBit (w hi lo i : Nat) :
    (bits w hi lo).testBit i = (decide (i < hi + 1 - lo) && w.testBit (lo + i)) := by
  simp [bits]

theorem bn_lt (b : Bool) : bn b < 2 := by cases b <;> decide

@[simp] theorem bn_beq_one (b : Bool) : (bn b == 1) = b := by cases b <;> rfl

/-- Taking the common bits of `x` and `m` away from `x` borrows nothing: it clears exactly those bits. -/
theorem testBit_sub_and (x m i : Nat) : (x - (x &&& m)).testBit i = (x.testBit i && !m.testBit i) := by
  induction i generalizing x m with
  | zero =>
    have hle : x &&& m ≤ x := Nat.and_le_left
    have hpar : (x &&& m) % 2 = x % 2 &&& m % 2 := Nat.and_mod_two_pow (n := 1)
    simp only [Nat.testBit_zero]
    generalize x &&& m = y at *
    rcases Nat.mod_two_eq_zero_or_one x with hx | hx <;> rcases Nat.mod_two_eq_zero_or_one m with hm | hm <;>
      simp [hx, hm] at hpar ⊢ <;> omega
  | succ i ih =>
    have hle : x &&& m ≤ x := Nat.and_le_left
    have hpar : (x &&& m) % 2 = x % 2 &&& m % 2 := Nat.and_mod_two_pow (n := 1)
    have hlow : x % 2 &&& m % 2 ≤ x % 2 := Nat.and_le_left
    have half : (x - (x &&& m)) / 2 = x / 2 - (x / 2 &&& m / 2) := by
      rw [← Nat.and_div_two]
      generalize x &&& m = y at *
      omega
    rw [Nat.testBit_succ, Nat.testBit_succ, Nat.testBit_succ, half, ih]

/-! The tag word (00 R13, R15). -/

/-- A field of `m` bits next below a number that is shifted as far as the field's top. -/
theorem shiftLeft_or_field {b m : Nat} (x n : Nat) (h : b < 2 ^ m) :
    x <<< (m + n) ||| b <<< n = (x * 2 ^ m + b) <<< n := by
  rw [Nat.shiftLeft_add, ← Nat.shiftLeft_or_distrib, Nat.shiftLeft_eq x, Nat.mul_comm x, Nat.two_pow_add_eq_or_of_lt h]

/-- The tag word as a number in mixed radix, its fields being the digits. -/
theorem mkTag_toNat (time sub part shot frame kind attempt : Nat) (taint settle ovf late : Bool) :
    (mkTag time sub part shot frame kind taint settle ovf late attempt).toNat =
      (((((((((time % 2 ^ 24 * 2 ^ 5 + sub % 32) * 2 ^ 3 + part % 8) * 2 ^ 12 + shot % 4096) * 2 ^ 10 + frame % 1024) * 2 ^ 2
        + kind % 4) * 2 ^ 1 + bn taint) * 2 ^ 1 + bn settle) * 2 ^ 1 + bn ovf) * 2 ^ 1 + bn late) * 2 ^ 4 + attempt % 16 := by
  have h1 := bn_lt taint
  have h2 := bn_lt settle
  have h3 := bn_lt ovf
  have h4 := bn_lt late
  unfold mkTag
  rw [shiftLeft_or_field (m := 5) _ 35 (by omega), shiftLeft_or_field (m := 3) _ 32 (by omega),
    shiftLeft_or_field (m := 12) _ 20 (by omega), shiftLeft_or_field (m := 10) _ 10 (by omega),
    shiftLeft_or_field (m := 2) _ 8 (by omega), shiftLeft_or_field (m := 1) _ 7 h1,
    shiftLeft_or_field (m := 1) _ 6 h2, shiftLeft_or_field (m := 1) _ 5 h3, shiftLeft_or_field (m := 1) _ 4 h4,
    ← Nat.shiftLeft_zero (n := attempt % 16), shiftLeft_or_field (m := 4) _ 0 (by omega), Nat.shiftLeft_zero,
    BitVec.toNat_ofNat]
  exact Nat.mod_eq_of_lt (by omega)

/-- Settles O6: each field is a digit of the word. -/
theorem tagWordFields : Obligations.TagWordFields := by
  intro time sub part shot frame kind attempt taint settle ovf late
  have h1 := bn_lt taint
  have h2 := bn_lt settle
  have h3 := bn_lt ovf
  have h4 := bn_lt late
  simp only [bitOf_eq_bits, bits, Nat.shiftRight_eq_div_pow, mkTag_toNat]
  have flag : ∀ (n : Nat) (b : Bool), n = bn b → (n == 1) = b := fun _ _ h => h ▸ bn_beq_one _
  refine ⟨?_, ?_, ?_, ?_, ?_, ?_, flag _ _ ?_, flag _ _ ?_, flag _ _ ?_, flag _ _ ?_, ?_⟩
  all_goals omega

/-- Settles O7: the candidate in the block of 2^24 ticks that holds `known` is the tag's time itself, or one block off. -/
theorem tagTimeReconstructs : Obligations.TagTimeReconstructs := by
  intro known time h1 h2
  unfold fullTime
  rw [Nat.mod_mod]
  simp only
  split
  · omega
  · split <;> omega

/-! The fields of a register under a write (00 R11, R12). -/

/-- Whether two fields share no bit. -/
abbrev Fld.apart (f g : Fld) : Prop := f.hi < g.lo ∨ g.hi < f.lo

/-- Whether the fields of a row have at least one bit each and share none. -/
abbrev RegRow.laidOut (r : RegRow) : Prop := (∀ f ∈ r.flds, f.lo ≤ f.hi) ∧ r.flds.Pairwise Fld.apart

/-- Whether every row of a list is so. -/
abbrev RowsLaidOut (l : List RegRow) : Prop := ∀ r ∈ l, r.laidOut

/-- Every row of the register map is so: a finite check, block by block. -/
theorem blockRows_laidOut (a : Nat) : RowsLaidOut (blockRows a) := by
  delta blockRows
  repeat' refine iteInduction (motive := RowsLaidOut) (fun _ => ?_) (fun _ => ?_)
  all_goals decide

theorem pf0Row_laidOut {a : Nat} {r : RegRow} (h : pf0Row a = some r) : r.laidOut :=
  blockRows_laidOut a r (List.mem_of_find?_eq_some h)

/-- What a write of `w` does to the word `x` of a register by field `f`. -/
def Fld.step (before w x : Nat) (f : Fld) : Nat :=
  match f.acc with
  | .rw => if f.allows (f.get w) then f.put x (f.get w) else x
  | .rw1c => f.put x (f.get x - (f.get x &&& f.get w &&& f.get before))
  | _ => x

theorem RegRow.write_eq (r : RegRow) (old before w : Nat) : r.write old before w = r.flds.foldl (Fld.step before w) old := rfl

/-- What a write of `w` makes of the value `v` of field `f`. -/
def Fld.after (f : Fld) (before w v : Nat) : Nat :=
  match f.acc with
  | .rw => if f.allows (f.get w) then f.get w else v
  | .rw1c => v - (v &&& f.get w &&& f.get before)
  | _ => v

/-- A field takes the value put into it, if it fits. -/
theorem Fld.get_put (f : Fld) (x : Nat) {v : Nat} (h : v ≤ f.get w) : f.get (f.put x v) = v := by
  rw [Fld.get, Fld.put, bits_setBits]
  exact Nat.mod_eq_of_lt (h.trans_lt (bits_lt ..))

theorem Fld.get_put_apart {f g : Fld} (h : f.apart g) (hf : f.lo ≤ f.hi) (x v : Nat) : g.get (f.put x v) = g.get x := by
  rcases h with h | h
  · exact bits_setBits_above _ _ _ _ _ _ h (by omega)
  · exact bits_setBits_below _ _ _ _ _ _ h

/-- The step of a field changes it alone. -/
theorem Fld.get_step_apart {f g : Fld} (h : f.apart g) (hf : f.lo ≤ f.hi) (before w x : Nat) :
    g.get (f.step before w x) = g.get x := by
  unfold Fld.step
  split
  · split
    · exact Fld.get_put_apart h hf ..
    · rfl
  · exact Fld.get_put_apart h hf ..
  · rfl

theorem Fld.get_step (f : Fld) (before w x : Nat) : f.get (f.step before w x) = f.after before w (f.get x) := by
  unfold Fld.step Fld.after
  split
  · split
    · exact f.get_put x le_rfl
    · rfl
  · exact f.get_put x (Nat.sub_le _ _)
  · rfl

/-- Fields apart from `f` leave it alone. -/
theorem Fld.get_foldl_apart {f : Fld} {l : List Fld} (h : ∀ g ∈ l, g.apart f ∧ g.lo ≤ g.hi) (before w x : Nat) :
    f.get (l.foldl (Fld.step before w) x) = f.get x := by
  induction l generalizing x with
  | nil => rfl
  | cons g l ih =>
    obtain ⟨hg, hl⟩ := h g List.mem_cons_self
    rw [List.foldl_cons, ih fun k hk => h k (List.mem_cons_of_mem _ hk), Fld.get_step_apart hg hl]

/-- A write acts on each field by that field's own step. -/
theorem RegRow.get_write {r : RegRow} (hr : r.laidOut) {f : Fld} (hf : f ∈ r.flds) (old before w : Nat) :
    f.get (r.write old before w) = f.after before w (f.get old) := by
  rw [RegRow.write_eq]
  obtain ⟨pos, apart⟩ := hr
  generalize r.flds = l at hf pos apart
  induction l generalizing old with
  | nil => cases hf
  | cons g l ih =>
    obtain ⟨hg, hl⟩ := List.pairwise_cons.1 apart
    have pos' : ∀ k ∈ l, k.lo ≤ k.hi := fun k hk => pos k (List.mem_cons_of_mem _ hk)
    rw [List.foldl_cons]
    rcases List.mem_cons.1 hf with rfl | hm
    · rw [Fld.get_foldl_apart fun k hk => ⟨(hg k hk).symm, pos' k hk⟩, Fld.get_step]
    · rw [ih _ hm pos' hl, Fld.get_step_apart (hg f hm) (pos g List.mem_cons_self)]

theorem Fld.testBit_get {f : Fld} {i : Nat} (h1 : f.lo ≤ i) (h2 : i ≤ f.hi) (w : Nat) :
    (f.get w).testBit (i - f.lo) = bitOf w i := by
  rw [Fld.get, bits_testBit, bitOf_eq_testBit, Nat.add_sub_cancel' h1, decide_eq_true (by omega), Bool.true_and]

/-- A 1 clears the bit of an RW1C field, unless the device has set the bit in the same tick. -/
theorem RegRow.bit_write_rw1c {r : RegRow} (hr : r.laidOut) {f : Fld} (hf : f ∈ r.flds) (hacc : f.acc = .rw1c) {i : Nat}
    (h1 : f.lo ≤ i) (h2 : i ≤ f.hi) (old before w : Nat) :
    bitOf (r.write old before w) i = (bitOf old i && !(bitOf w i && bitOf before i)) := by
  rw [← Fld.testBit_get h1 h2, RegRow.get_write hr hf, Fld.after, hacc]
  simp only [Nat.and_assoc, testBit_sub_and, Nat.testBit_and, Fld.testBit_get h1 h2]

/-- Settles O53: the fields of every row are apart, so a write acts on each by itself. -/
theorem registerFields : Obligations.RegisterFields := by
  intro a r hrow f hf old before w
  have hr := pf0Row_laidOut hrow
  have hget := RegRow.get_write hr hf old before w
  refine ⟨fun h => ?_, fun h i h1 h2 => RegRow.bit_write_rw1c hr hf h h1 h2 old before w, fun h1 h2 => ?_⟩
  · rw [hget, Fld.after, h]
  · rw [hget, Fld.after]
    split <;> rename_i hacc
    · exact absurd hacc h1
    · exact absurd hacc h2
    · rfl

end Sys2Proof.Machine

namespace Sys2Proof.Machine

/-! Reads that capture (18 R500). -/

/-- The words captured hold the captured registers' values, whatever the table held. -/
theorem look_capture_mem (s : State) (f : Nat) {l : List Nat} {a : Nat} (h : a ∈ l) :
    look (fun _ => 0#32) (s.capture f l) (hiKey f a) = BitVec.ofNat 32 (s.view a) := by
  have key : ∀ (l : List Nat) (t : Tab Word),
      a ∈ l ∨ look (fun _ => 0#32) t (hiKey f a) = BitVec.ofNat 32 (s.view a) →
      look (fun _ => 0#32) (l.foldl (fun t a => put (fun _ => 0#32) t (hiKey f a) (BitVec.ofNat 32 (s.view a))) t) (hiKey f a)
        = BitVec.ofNat 32 (s.view a) := by
    intro l
    induction l with
    | nil => intro t h; simpa using h
    | cons b l ih =>
      intro t h
      refine ih _ ?_
      by_cases hb : a = b
      · subst hb; exact .inr (look_put_eq ..)
      · refine h.imp (fun h => (List.mem_cons.1 h).resolve_left hb) fun h => ?_
        rw [look_put_ne _ _ (by simpa [hiKey] using hb), h]
  exact key l _ (.inl h)

/-- Words of other registers, and those that another function has captured, stay. -/
theorem look_capture_ne (s : State) (f : Nat) {l : List Nat} {k : Nat} (h : k ∉ l.map (hiKey f)) :
    look (fun _ => 0#32) (s.capture f l) k = look (fun _ => 0#32) s.rd.hi k := by
  unfold State.capture
  generalize s.rd.hi = t
  induction l generalizing t with
  | nil => rfl
  | cons b l ih =>
    simp only [List.map_cons, List.mem_cons, not_or] at h
    exact (ih h.2 _).trans (look_put_ne _ _ h.1)

/-- A 32-bit read that the function may make returns the register's value, captures the listed words at the same instant,
and does nothing else. -/
theorem answers_latchRead {s : State} {i : Instr} {f a : Nat} {l : List Nat}
    (he : exec i s = answer s (s.latchRead f a 4 l)) (hr : s.mayRead f a = true) :
    Answers i s fun t => t.rd.data = BitVec.ofNat 32 (s.view a) ∧
      (∀ b ∈ l, look (fun _ => 0#32) t.rd.hi (hiKey f b) = BitVec.ofNat 32 (s.view b)) ∧
      t.rd.poisoned = false ∧ t.rd.entry = [] ∧
      (∀ k, k ∉ l.map (hiKey f) → look (fun _ => 0#32) t.rd.hi k = look (fun _ => 0#32) s.rd.hi k) ∧
      t = { s with rd := t.rd } := by
  rw [State.latchRead, if_pos ⟨rfl, hr⟩] at he
  exact ⟨_, he, rfl, fun b hb => look_capture_mem s f hb, rfl, rfl, fun k hk => look_capture_ne s f hk, rfl⟩

theorem latchRead_nothing {s : State} {f a z : Nat} (l : List Nat) (h : z ≠ 4 ∨ s.mayRead f a = false) :
    s.latchRead f a z l = s.readNothing := by
  refine if_neg fun hr => ?_
  rcases h with h | h
  · exact h hr.1
  · exact absurd hr.2 (by simp [h])

/-- The answer of a read that completes without effect. -/
theorem answer_readNothing (s : State) :
    answer s s.readNothing = .next { s with rd := { s.rd with data := 0#32, poisoned := false, entry := [] } } := rfl

/-! What the registers of split values show (02 R57; 04 R159; 09 R296; 14 R430, R431). -/

/-- At a register of the Quartz block that is present, `view` is the block's own. -/
theorem view_qtz {s : State} {a : Nat} (h4 : a % 4 = 0) (hp : s.present a = true) (hr : (pf0Row a).isNone = false)
    (h1 : 0x100000 ≤ a) (h2 : a ≤ 0x1FFFFF) : s.view a = s.qtzView a := by
  rw [State.view, if_neg (by simp [h4, hp]), if_neg (by omega), if_neg (by simp [hr])]
  repeat rw [if_neg (by omega)]
  rw [if_pos h2]

/-- At a register of the STRATA block that is present, `view` is the block's own. -/
theorem view_strata {s : State} {a : Nat} (h4 : a % 4 = 0) (hp : s.present a = true) (hr : (pf0Row a).isNone = false)
    (h1 : 0x220000 ≤ a) (h2 : a ≤ 0x22FFFF) : s.view a = s.strataView a := by
  rw [State.view, if_neg (by simp [h4, hp]), if_neg (by omega), if_neg (by simp [hr])]
  repeat rw [if_neg (by omega)]
  rw [if_pos h2]

theorem present_qtz {s : State} {a : Nat} (h1 : 0x100000 ≤ a) (h2 : a < 0x110000)
    (h : (a - 0x100000) / 0x1000 < s.nQtz) : s.present a = true := by
  unfold State.present
  repeat rw [if_neg (by omega)]
  rw [if_pos h2]
  exact decide_eq_true h

theorem present_strata {s : State} {a : Nat} (h1 : 0x220100 ≤ a) (h2 : a < 0x220500)
    (h : (a - 0x220100) / 0x80 < s.nPart) : s.present a = true := by
  unfold State.present
  repeat rw [if_neg (by omega)]
  rw [if_pos h2]
  exact decide_eq_true h

/-- Which member of a group of registers, `n` bytes apart, an address belongs to. -/
theorem group_index {n o : Nat} (b i : Nat) (h : o < n) : (b + o + n * i - b) / n = i := by
  rw [Nat.add_assoc, Nat.add_sub_cancel_left, Nat.add_mul_div_left _ _ (by omega), Nat.div_eq_of_lt h, Nat.zero_add]

/-- The register at offset `o` of a Quartz core that is present. -/
theorem view_qtzReg {s : State} {c o : Nat} (hc : c < s.nQtz) (hn : c < 16) (ho : o < 0x1000) (h4 : o % 4 = 0)
    (hr : (pf0Row (0x100000 + o + 0x1000 * c)).isNone = false) :
    s.view (0x100000 + o + 0x1000 * c) = s.qtzView (0x100000 + o + 0x1000 * c) :=
  view_qtz (by omega) (present_qtz (by omega) (by omega) (by rwa [group_index _ c ho])) hr (by omega) (by omega)

/-- The register at offset `o` of a partition's group in STRATA. -/
theorem view_strataReg {s : State} {p o : Nat} (hp : p < s.nPart) (ho : o < 0x80) (h4 : o % 4 = 0)
    (hr : (pf0Row (0x220100 + o + 0x80 * p)).isNone = false) :
    s.view (0x220100 + o + 0x80 * p) = s.strataView (0x220100 + o + 0x80 * p) := by
  have h8 := nPart_le s
  exact view_strata (by omega) (present_strata (by omega) (by omega) (by rwa [group_index _ p ho])) hr (by omega) (by omega)

theorem qtzView_tl (s : State) (c : Nat) :
    s.qtzView (QTZ_TL_LO c) = (s.qtz c).tl / 32 % 2 ^ 32 ∧ s.qtzView (QTZ_TL_HI c) = (s.qtz c).tl / 32 / 2 ^ 32 := by
  have ilo : (QTZ_TL_LO c - 0x100000) / 0x1000 = c := group_index (o := 0x40) 0x100000 c (by decide)
  have ihi : (QTZ_TL_HI c - 0x100000) / 0x1000 = c := group_index (o := 0x44) 0x100000 c (by decide)
  have olo : QTZ_TL_LO c % 0x1000 = 0x40 := Nat.add_mul_mod_self_left 0x100040 0x1000 c
  have ohi : QTZ_TL_HI c % 0x1000 = 0x44 := Nat.add_mul_mod_self_left 0x100044 0x1000 c
  unfold State.qtzView
  simp only [ilo, ihi, olo, ohi, and_self]

theorem strataView_jhead (s : State) (p : Nat) :
    s.strataView (STRATA_JHEAD_LO p) = (s.part p).jcount % 2 ^ 32 ∧
    s.strataView (STRATA_JHEAD_HI p) = (s.part p).jcount / 2 ^ 32 := by
  have ilo : (STRATA_JHEAD_LO p - 0x220100) / 0x80 = p := group_index (o := 0xC) 0x220100 p (by decide)
  have ihi : (STRATA_JHEAD_HI p - 0x220100) / 0x80 = p := group_index (o := 0x10) 0x220100 p (by decide)
  have apart : STRATA_JHEAD_HI p ≠ STRATA_JHEAD_LO p := fun h => absurd (Nat.add_right_cancel h) (by decide)
  unfold State.strataView
  simp only [ilo, ihi, if_neg apart, if_true, and_self]

/-- TL of a core in ticks, in two words. -/
theorem view_qtzTl {s : State} (c : Fin 16) (h : c.val < s.nQtz) :
    s.view (QTZ_TL_LO c.val) = (s.qtz c.val).tl / 32 % 2 ^ 32 ∧ s.view (QTZ_TL_HI c.val) = (s.qtz c.val).tl / 32 / 2 ^ 32 := by
  have rows : ∀ c : Fin 16, (pf0Row (QTZ_TL_LO c.val)).isNone = false ∧ (pf0Row (QTZ_TL_HI c.val)).isNone = false := by
    decide
  obtain ⟨hlo, hhi⟩ := rows c
  obtain ⟨vlo, vhi⟩ := qtzView_tl s c.val
  exact ⟨(view_qtzReg (o := 0x40) h c.isLt (by decide) (by decide) hlo).trans vlo,
    (view_qtzReg (o := 0x44) h c.isLt (by decide) (by decide) hhi).trans vhi⟩

/-- JCOUNT of a partition, in two words. -/
theorem view_strataJhead {s : State} (p : Fin 8) (h : p.val < s.nPart) :
    s.view (STRATA_JHEAD_LO p.val) = (s.part p.val).jcount % 2 ^ 32 ∧
    s.view (STRATA_JHEAD_HI p.val) = (s.part p.val).jcount / 2 ^ 32 := by
  have rows : ∀ p : Fin 8, (pf0Row (STRATA_JHEAD_LO p.val)).isNone = false ∧
      (pf0Row (STRATA_JHEAD_HI p.val)).isNone = false := by
    decide
  obtain ⟨hlo, hhi⟩ := rows p
  obtain ⟨vlo, vhi⟩ := strataView_jhead s p.val
  exact ⟨(view_strataReg (o := 0xC) h (by decide) (by decide) hlo).trans vlo,
    (view_strataReg (o := 0x10) h (by decide) (by decide) hhi).trans vhi⟩

/-- The anchor of a PTP domain is held in its registers as it is read. -/
theorem view_ptpAnc {s : State} (d : Fin 2) :
    ∀ a ∈ [PTP_ANC_SEC_LO d.val, PTP_ANC_SEC_HI d.val, PTP_ANC_NS d.val, PTP_ANC_FT d.val], s.view a = s.regN a := by
  simp only [List.forall_mem_cons]
  refine ⟨?_, ?_, ?_, ?_, by simp⟩
  all_goals match d with
    | 0 => rfl
    | 1 => rfl

theorem ofNat_mod_word (n : Nat) : BitVec.ofNat 32 (n % 2 ^ 32) = BitVec.ofNat 32 n := by
  apply BitVec.eq_of_toNat_eq
  simp

theorem ofNat_regN (s : State) (a : Nat) : BitVec.ofNat 32 (s.regN a) = s.reg a := by
  simp [State.regN]

/-! The journal window (09 R300, 11 R359). -/

theorem pf0Reads_opened {s : State} (h : s.opened) (a : Nat) : s.pf0Reads a = true := by
  obtain ⟨h1, h2, h3⟩ := h
  simp [State.pf0Reads, h1, h2, h3]

/-- A read of the window that is no aligned 32-bit word does nothing. -/
theorem exec_journalWindowRead_misaligned {s : State} {off : BitVec 24} {z : Nat} (h : z ≠ 4 ∨ off.toNat % 4 ≠ 0) :
    exec (.journalWindowRead { off := off, size := z }) s = answer s s.readNothing := by
  refine congrArg (answer s) (if_pos ?_)
  rcases h with h | h
  · exact .inl h
  · exact .inr (.inl h)

/-- Outside deep HOLD the read of an aligned word completes at once. -/
theorem exec_journalWindowRead_active {s : State} (ho : s.opened) {off : BitVec 24} (h4 : off.toNat % 4 = 0)
    (hd : s.deep = 0) : exec (.journalWindowRead { off := off }) s = answer s (s.journalWindow off.toNat) := by
  refine congrArg (answer s) ?_
  rw [if_neg (by simp [h4, pf0Reads_opened ho]), if_pos hd]

/-- In deep HOLD it waits for the exit, which it starts. -/
theorem exec_journalWindowRead_deep {s : State} (ho : s.opened) {off : BitVec 24} (h4 : off.toNat % 4 = 0)
    (hd : s.deep ≠ 0) : exec (.journalWindowRead { off := off }) s =
      answer s (s.deepWake.updMem fun m => { m with waits := m.waits ++ [(3, BitVec.ofNat 32 off.toNat)] }) := by
  refine congrArg (answer s) ?_
  rw [if_neg (by simp [h4, pf0Reads_opened ho]), if_neg hd]

theorem journalEntry_hold {s : State} {p off : Nat} (hp : p = s.fld STRATA_JWSEL 2 0) (hm : (s.part p).mode = .hold)
    (hn : p < s.nPart) (hi : (2 ^ 24 * s.fld STRATA_JWSEL 15 8 + off) / 32 < 32768 * s.fld (STRATA_JSIZE p) 12 0) :
    s.journalEntry off = some (look (fun _ => {}) (s.part p).journal ((2 ^ 24 * s.fld STRATA_JWSEL 15 8 + off) / 32)) := by
  subst hp
  rw [Nat.mul_comm 32768] at hi
  refine if_pos (Bool.and_eq_true_iff.2 ⟨?_, decide_eq_true hi⟩)
  simp [hm, hn]

theorem journalEntry_none {s : State} {p off : Nat} (hp : p = s.fld STRATA_JWSEL 2 0)
    (h : (s.part p).mode ≠ .hold ∨
      32768 * s.fld (STRATA_JSIZE p) 12 0 ≤ (2 ^ 24 * s.fld STRATA_JWSEL 15 8 + off) / 32) : s.journalEntry off = none := by
  subst hp
  rw [Nat.mul_comm 32768] at h
  refine if_neg fun hc => ?_
  obtain ⟨hc, hi⟩ := Bool.and_eq_true_iff.1 hc
  rcases h with h | h
  · exact h (beq_iff_eq.1 (Bool.and_eq_true_iff.1 hc).1)
  · exact Nat.not_lt.2 h (of_decide_eq_true hi)

theorem Rec.word_getElem (e : Rec) {i : Nat} (h : i < 8) :
    [e.w0, e.w1, e.w2, e.w3, e.w4, e.w5, e.w6, e.w7][i]? = some (e.word i) := by
  match i, h with
  | 0, _ | 1, _ | 2, _ | 3, _ | 4, _ | 5, _ | 6, _ | 7, _ => rfl

/-- The exit from deep HOLD begins; only MEM_STAT, MEM_CTRL and the PHY's state change. -/
theorem deepWake_deep {s : State} (h : s.deep = 1 ∨ s.deep = 2) :
    s.deepWake.deep = 3 ∧ RegsBut s s.deepWake [MEM_STAT, MEM_CTRL] := by
  rw [State.deepWake, if_pos h]
  constructor
  · have hne : MEM_STAT ≠ MEM_CTRL := by decide
    unfold State.deep
    rw [fld_updPins, fld_ne _ _ 1 0 (reg_setBit_ne (s.setFld MEM_STAT 1 0 3) 0 false hne),
      fld_setFld _ _ _ _ _ (by decide) (by decide)]
    rfl
  · intro a ha
    simp only [List.mem_cons, List.not_mem_nil, or_false, not_or] at ha
    obtain ⟨h1, h2⟩ := ha
    rw [reg_updPins, reg_setBit_ne _ _ _ h2, reg_setFld_ne _ _ _ _ h1]

/-- Two register writes and a change of the pins leave the rest of the state. -/
theorem setReg_updPins_frame (s : State) (a b : Nat) (v w : Word) (f : Pins → Pins) :
    ((s.setReg a v).setReg b w).updPins f =
      { s with regs := (((s.setReg a v).setReg b w).updPins f).regs, pins := (((s.setReg a v).setReg b w).updPins f).pins } := rfl

theorem deepWake_frame (s : State) : s.deepWake = { s with regs := s.deepWake.regs, pins := s.deepWake.pins } := by
  unfold State.deepWake
  split
  · exact setReg_updPins_frame ..
  · rfl

/-- Settles O51: reads that capture go by `answers_latchRead`, the window by the three cases of its read. -/
theorem readsOfSplitValuesAndJournal : Obligations.ReadsOfSplitValuesAndJournal := by
  constructor
  · intro s f c p d
    refine ⟨fun hr => ?_, fun hr hc => ?_, fun hr hp => ?_, fun hr => ?_, fun hr => ?_, ?_⟩
    · obtain ⟨t, ht, hd, hg, ho⟩ := answers_latchRead (i := .timeNowLoRead { f := f }) rfl hr
      exact ⟨t, ht, hd.trans (ofNat_mod_word _), hg _ (by simp), ho⟩
    · obtain ⟨t, ht, hd, hg, ho⟩ := answers_latchRead (i := .qtzTlLoRead { f := f } c) rfl hr
      obtain ⟨vlo, vhi⟩ := view_qtzTl c hc
      exact ⟨t, ht, by rw [hd, vlo, ofNat_mod_word], (hg _ (by simp)).trans (congrArg _ vhi), ho⟩
    · obtain ⟨t, ht, hd, hg, ho⟩ := answers_latchRead (i := .strataJheadLoRead { f := f } p) rfl hr
      obtain ⟨vlo, vhi⟩ := view_strataJhead p hp
      exact ⟨t, ht, by rw [hd, vlo, ofNat_mod_word], (hg _ (by simp)).trans (congrArg _ vhi), ho⟩
    · obtain ⟨t, ht, hd, hg, ho⟩ := answers_latchRead (i := .ptpNowDtLoRead { f := f }) rfl hr
      exact ⟨t, ht, hd.trans (ofNat_mod_word _), hg PTP_NOW_DT_HI (by simp),
        (hg PTP_NOW_FT_LO (by simp)).trans (ofNat_mod_word _), hg PTP_NOW_FT_HI (by simp), ho⟩
    · obtain ⟨t, ht, hd, hg, ho⟩ := answers_latchRead (i := .ptpAncSecLoRead { f := f } d) rfl hr
      have shows (a : Nat) (ha : a ∈ [PTP_ANC_SEC_LO d.val, PTP_ANC_SEC_HI d.val, PTP_ANC_NS d.val, PTP_ANC_FT d.val]) :
          BitVec.ofNat 32 (s.view a) = s.reg a := by rw [view_ptpAnc d a ha, ofNat_regN]
      exact ⟨t, ht, hd.trans (shows _ (by simp)), (hg _ (by simp)).trans (shows _ (by simp)),
        (hg _ (by simp)).trans (shows _ (by simp)), (hg _ (by simp)).trans (shows _ (by simp)), ho⟩
    · intro z
      have refused (a : Nat) (l : List Nat) (h : z ≠ 4 ∨ s.mayRead f.val a = false) :
          answer s (s.latchRead f.val a z l) =
            .next { s with rd := { s.rd with data := 0#32, poisoned := false, entry := [] } } := by
        rw [latchRead_nothing l h, answer_readNothing]
      simp only [List.forall_mem_cons]
      exact ⟨refused _ _, refused _ _, refused _ _, refused _ _, refused _ _, by simp⟩
  · intro s off ho
    refine ⟨fun z h => ?_, fun hd h4 hm hn hi => ?_, fun hd h => ?_, fun hd h4 => ?_⟩
    · rw [exec_journalWindowRead_misaligned h, answer_readNothing]
    · refine ⟨s.journalWindow off.toNat, exec_journalWindowRead_active ho h4 hd, ?_⟩
      rw [State.journalWindow, journalEntry_hold rfl hm hn hi]
      exact ⟨Rec.word_getElem _ (by omega), rfl⟩
    · by_cases h4 : off.toNat % 4 = 0
      · rw [exec_journalWindowRead_active ho h4 hd, State.journalWindow, journalEntry_none rfl h]
        rfl
      · rw [exec_journalWindowRead_misaligned (.inr h4), answer_readNothing]
    · obtain ⟨hdeep, hregs⟩ := deepWake_deep hd
      have hf := deepWake_frame s
      refine ⟨_, (exec_journalWindowRead_deep ho h4 (by omega)).trans (answer_next _ _ ?_ ?_ ?_ ?_), hdeep, ?_, ?_, ?_, hregs⟩
      all_goals rw [hf]; rfl

end Sys2Proof.Machine

namespace Sys2Proof.Machine

/-! Where a register write goes (00 R3, R10; 13 R414; 18 R496). -/

theorem pf0_opened {s : State} (h : s.opened) (t : State) : s.pf0 t = t := by
  obtain ⟨h1, h2, h3⟩ := h
  simp [State.pf0, h1, h2, h3]

theorem exec_registerWrite_misaligned {s : State} (f : Fin 9) {off : BitVec 26} {size : Nat} (d : Word)
    (h : size ≠ 4 ∨ off.toNat % 4 ≠ 0) : exec (.registerWrite f off size d) s = .next s :=
  congrArg (answer s) (if_pos h)

/-- An aligned word that PF0 writes beside its MSI-X table. -/
theorem exec_registerWrite_pf0 {s : State} {off : BitVec 26} (d : Word) (h4 : off.toNat % 4 = 0)
    (hx : off.toNat < 0x3F00000 ∨ 0x3F00040 ≤ off.toNat) :
    exec (.registerWrite 8 off 4 d) s = answer s (s.pf0Write off.toNat d) := by
  refine congrArg (answer s) ?_
  dsimp only
  rw [if_neg (by omega), if_neg (by omega), if_neg (by omega), if_pos (by omega)]

theorem vfFunction_val (p : Fin 8) : (Fin.ofNat 9 p.val).val = p.val :=
  Nat.mod_eq_of_lt (p.isLt.trans (by decide))

/-- An aligned word that VF(p + 1) writes beside its MSI-X table. -/
theorem exec_registerWrite_vf {s : State} (p : Fin 8) {off : BitVec 26} (d : Word) (h4 : off.toNat % 4 = 0)
    (hx : off.toNat < 0x80000 ∨ 0x80040 ≤ off.toNat) :
    exec (.registerWrite (Fin.ofNat 9 p.val) off 4 d) s = answer s (s.vfWrite p.val off.toNat d) := by
  refine congrArg (answer s) ?_
  have hp := p.isLt
  dsimp only
  rw [vfFunction_val, if_neg (by omega), if_neg (by omega), if_neg (by omega), if_neg (by omega)]

/-- A word of PF0's MSI-X table. -/
theorem exec_registerWrite_pf0Msix {s : State} (ho : s.opened) (i : Fin 16) (d : Word) :
    exec (.registerWrite 8 (BitVec.ofNat 26 (0x3F00000 + 4 * i.val)) 4 d) s = answer s (s.msixWrite 8 i.val d) := by
  refine congrArg (answer s) ?_
  have hi := i.isLt
  have ha : (BitVec.ofNat 26 (0x3F00000 + 4 * i.val)).toNat = 0x3F00000 + 4 * i.val := Nat.mod_eq_of_lt (by omega)
  rw [ha, if_neg (by omega), if_pos (by omega), if_pos (pf0Reads_opened ho _), Nat.add_sub_cancel_left,
    Nat.mul_div_cancel_left _ (by decide)]

/-- A word of the MSI-X table of VF(p + 1). -/
theorem exec_registerWrite_vfMsix {s : State} (p : Fin 8) (hv : s.vfOn p.val = true) (i : Fin 16) (d : Word) :
    exec (.registerWrite (Fin.ofNat 9 p.val) (BitVec.ofNat 26 (0x80000 + 4 * i.val)) 4 d) s =
      answer s (s.msixWrite p.val i.val d) := by
  refine congrArg (answer s) ?_
  have hi := i.isLt
  have hp := p.isLt
  have ha : (BitVec.ofNat 26 (0x80000 + 4 * i.val)).toNat = 0x80000 + 4 * i.val := Nat.mod_eq_of_lt (by omega)
  rw [ha, vfFunction_val, if_neg (by omega), if_neg (by omega), if_pos (by omega), if_pos hv, Nat.add_sub_cancel_left,
    Nat.mul_div_cancel_left _ (by decide)]

/-- Out of the blocks GLB and BOOT, the running device takes a write by its blocks' own rules. -/
theorem pf0Write_opened {s : State} (ho : s.opened) {a : Nat} (d : Word) (h1 : 0x10000 ≤ a)
    (h2 : a < 0x20000 ∨ 0x30000 ≤ a) : s.pf0Write a d = s.lateWrite a d := by
  obtain ⟨hh, hb, hf⟩ := ho
  have hg : a ≠ GLB_CTRL := by unfold GLB_CTRL; omega
  unfold State.pf0Write
  rw [if_neg (by simp [hh]), if_neg (by simp [hb, hf]), if_neg hg, if_neg (by omega), if_neg (by omega)]

/-- What is absent and what is reserved ignore a write. -/
theorem lateWrite_ignored {s : State} {a : Nat} (d : Word)
    (h : s.present a = false ∨ (a < 0x1000000 ∧ pf0Row a = none)) : s.lateWrite a d = s := by
  unfold State.lateWrite
  by_cases hp : s.present a = true
  · obtain ⟨hlt, hrow⟩ := h.resolve_left (by simp [hp])
    rw [if_neg (by simp [hp]), if_neg (by omega), if_pos (by simp [hrow])]
  · exact if_pos (by simpa using hp)

/-- At a literal address below the Mica windows, a write of PF0 in the running device acts by `lateWrite`. -/
theorem exec_registerWrite_late {s : State} (ho : s.opened) {a : Nat} (d : Word) (h4 : a % 4 = 0)
    (h1 : 0x10000 ≤ a) (h2 : a < 0x20000 ∨ 0x30000 ≤ a) (h3 : a < 0x1000000) :
    exec (.registerWrite 8 (BitVec.ofNat 26 a) 4 d) s = answer s (s.lateWrite a d) := by
  have ha : (BitVec.ofNat 26 a).toNat = a := Nat.mod_eq_of_lt (by omega)
  rw [exec_registerWrite_pf0 d (by omega) (by omega), ha, pf0Write_opened ho d h1 h2]

/-- Registers without an effect of their own, outside GLB and BOOT. -/
def plainRegs : List Nat :=
  [TIME_EPOCH_LO, TIME_EPOCH_HI, TIME_SYNCGEN_LO, CAL_REFV, HK_CTRL, HK_PERIOD, HK_LEN, GEODE_OBJSEL, STRATA_JWSEL]

theorem lateWrite_plainRegs (s : State) (d : Word) : ∀ a ∈ plainRegs, s.lateWrite a d = s.plainWrite a d.toNat := by
  simp only [plainRegs, List.forall_mem_cons]
  exact ⟨rfl, rfl, rfl, rfl, rfl, rfl, rfl, rfl, rfl, by simp⟩

theorem plainRegs_placed : ∀ a ∈ plainRegs, a % 4 = 0 ∧ 0x10000 ≤ a ∧ (a < 0x20000 ∨ 0x30000 ≤ a) ∧ a < 0x1000000 := by
  decide

theorem plainWrite_row {s : State} {a : Nat} {r : RegRow} (h : pf0Row a = some r) (d : Nat) :
    s.plainWrite a d = s.setN a (r.write (s.regN a) (s.beforeN a) d) := by
  unfold State.plainWrite
  rw [h]

theorem onBit_true {d i : Nat} (h : bitOf d i = true) (s t : State) : onBit d i s t = t := if_pos h

theorem bitOf_toNat (d : Word) (i : Nat) : bitOf d.toNat i = d.getLsbD i := bitOf_eq_testBit _ _

/-! The VF registers and the MSI-X table (13 R408, R414; log 16). -/

/-- A VF that cannot be reached takes no write. -/
theorem exec_registerWrite_vfOff {s : State} (p : Fin 8) (hv : s.vfOn p.val = false) {off : BitVec 26} (d : Word)
    (h4 : off.toNat % 4 = 0) : exec (.registerWrite (Fin.ofNat 9 p.val) off 4 d) s = .next s := by
  by_cases hx : off.toNat < 0x80000 ∨ 0x80040 ≤ off.toNat
  · rw [exec_registerWrite_vf p d h4 hx, State.vfWrite, if_pos (by simp [hv])]
    rfl
  · refine congrArg (answer s) ?_
    have hp := p.isLt
    dsimp only
    rw [vfFunction_val, if_neg (by omega), if_neg (by omega), if_pos (by omega), if_neg (by simp [hv])]

/-- VF_VIEWSEL takes its four bits. -/
theorem vfWrite_viewsel {s : State} {p : Nat} (hv : s.vfOn p = true) (d : Word) :
    s.vfWrite p VF_VIEWSEL d = s.setV p VF_VIEWSEL (d.toNat % 16 + 16 * (s.vregN p VF_VIEWSEL / 16)) := by
  have field : s.vfWrite p VF_VIEWSEL d =
      if !s.vfOn p then s else s.setV p VF_VIEWSEL (setBits (s.vregN p VF_VIEWSEL) 3 0 (bits d.toNat 3 0)) := rfl
  have low : setBits (s.vregN p VF_VIEWSEL) 3 0 (bits d.toNat 3 0) = d.toNat % 16 + 16 * (s.vregN p VF_VIEWSEL / 16) := by
    simp only [setBits_parts, bits, Nat.shiftRight_eq_div_pow]
    omega
  rw [field, if_neg (by simp [hv]), low]

theorem answer_setV (s : State) (p o v : Nat) : answer s (s.setV p o v) = .next (s.setV p o v) := rfl

theorem setV_frame (s : State) (p o v : Nat) : s.setV p o v = { s with vregs := (s.setV p o v).vregs } := rfl

/-- A write of VF_VIEWSEL changes that register alone. -/
theorem answers_viewsel {s : State} (p : Fin 8) (hv : s.vfOn p.val = true) (d : Word) :
    Answers (.registerWrite (Fin.ofNat 9 p.val) (BitVec.ofNat 26 VF_VIEWSEL) 4 d) s fun t =>
      t.vregN p.val VF_VIEWSEL = d.toNat % 16 + 16 * (s.vregN p.val VF_VIEWSEL / 16) ∧ t = { s with vregs := t.vregs } := by
  have hlt : s.vregN p.val VF_VIEWSEL < 2 ^ 32 := (s.vreg p.val VF_VIEWSEL).isLt
  refine ⟨s.setV p.val VF_VIEWSEL (d.toNat % 16 + 16 * (s.vregN p.val VF_VIEWSEL / 16)), ?_, ?_, setV_frame ..⟩
  · have ha : (BitVec.ofNat 26 VF_VIEWSEL).toNat = VF_VIEWSEL := by decide
    rw [exec_registerWrite_vf p d (by decide) (by decide), ha, vfWrite_viewsel hv, answer_setV]
  · rw [vregN_setV]
    exact Nat.mod_eq_of_lt (by omega)

/-- The rings' registers are locked while the rings are enabled. -/
theorem vfWrite_ringLocked {s : State} {p o : Nat} (hv : s.vfOn p = true) (he : (s.part p).enabled = true) (d : Word)
    (h1 : VF_JRING_LO ≤ o) (h2 : o ≤ VF_RSIZE) : s.vfWrite p o d = s := by
  have h0 : o ≠ VF_STATE := by unfold VF_STATE VF_JRING_LO at *; omega
  unfold State.vfWrite
  simp [hv, h0, h1, h2, he]

/-- A write of the table changes the word named and no other. -/
theorem answers_msixWrite {s : State} {c : Instr} {g : Nat} {i : Fin 16} {d : Word}
    (he : exec c s = answer s (s.msixWrite g i.val d)) :
    Answers c s fun t => t.msix g i.val = (if i.val % 4 = 3 then d &&& 1#32 else d) ∧
      (∀ h < 9, ∀ j < 16, (h, j) ≠ (g, i.val) → t.msix h j = s.msix h j) ∧
      t = { s with irq := { s.irq with table := t.irq.table } } := by
  refine ⟨s.msixWrite g i.val d, he, look_put_eq .., fun h _ j hj hne => look_put_ne _ _ fun hk => hne ?_, rfl⟩
  have hi := i.isLt
  have hj' : j = i.val := by omega
  have hh : h = g := by omega
  rw [hj', hh]

/-- Settles O54: each class of addresses by the lemma that says where a write to it goes. -/
theorem registerWrites : Obligations.RegisterWrites := by
  intro s f off d
  refine ⟨fun size h => exec_registerWrite_misaligned f d h, fun ho h4 h1 hx hb h => ?_, fun ho a ha r hr => ?_,
    fun ho => ?_, fun ho hd => ?_, fun p hv h4 => exec_registerWrite_vfOff p hv d h4, fun p hv => ?_,
    fun p hv he h4 h1 h2 => ?_, fun i => ⟨fun ho => answers_msixWrite (exec_registerWrite_pf0Msix ho i d),
      fun p hv => answers_msixWrite (exec_registerWrite_vfMsix p hv i d)⟩⟩
  · rw [exec_registerWrite_pf0 d h4 hx, pf0Write_opened ho d h1 hb, lateWrite_ignored d h]
    rfl
  · obtain ⟨h4, h1, h2, h3⟩ := plainRegs_placed a ha
    rw [exec_registerWrite_late ho d h4 h1 h2 h3, lateWrite_plainRegs s d a ha, plainWrite_row hr]
    rfl
  · simp only [List.forall_mem_cons]
    refine ⟨?_, ?_, ?_, by simp⟩
    all_goals
      rw [exec_registerWrite_late ho d (by decide) (by decide) (by decide) (by decide)]
      exact congrArg (answer s) (pf0_opened ho _).symm
  · have hbit : bitOf d.toNat 0 = true := (bitOf_toNat d 0).trans hd
    simp only [List.forall_mem_cons]
    refine ⟨?_, ?_, by simp⟩
    all_goals
      rw [exec_registerWrite_late ho d (by decide) (by decide) (by decide) (by decide)]
      exact congrArg (answer s) ((onBit_true hbit _ _).trans (pf0_opened ho _).symm)
  · exact answers_viewsel p hv d
  · have ho : off.toNat ≤ 0x20 := h2
    rw [exec_registerWrite_vf p d h4 (by omega), vfWrite_ringLocked hv he d h1 h2]
    rfl

end Sys2Proof.Machine

namespace Sys2Proof.Machine

/-! BRD of a core that is not in a shot yet (04 R150). -/

/-- A core of a partition in SHOT mode that has not reached its SHOT: slot 0 has value 0, and the checkpoint's has 3. -/
def slotBeforeShot : State :=
  { Tests.quartz .shot with slots := [(0, { value := { state := 0#2 } })] }

/-- There BRD takes the slot's own value and branches. -/
theorem brd_slotBeforeShot : ∃ t, exec (.brd 0 (0#9 ++ 1#4 ++ 0#11 ++ 2#24 ++ 0#7 ++ BitVec.ofBool false)) slotBeforeShot
    = .next t ∧ (t.qtz 0).pc = 2 :=
  ⟨_, rfl, by decide⟩

/-- Refutes O14: outside a shot BRD without a binding reads the slot's value in SHOT mode too, not the checkpoint's. -/
theorem not_quartzResultsAndStalls : ¬ Obligations.QuartzResultsAndStalls := by
  unfold Obligations.QuartzResultsAndStalls
  rintro ⟨h, -⟩
  obtain ⟨-, h, -⟩ := (h slotBeforeShot 0 0).1 (by decide) 0#9 1#4 2#24 false (by decide) (by decide)
  obtain ⟨t, ht, -, -, hq⟩ := h (by decide)
  obtain ⟨u, hu, hpc⟩ := brd_slotBeforeShot
  obtain rfl : t = u := Host.Outcome.next.inj (ht.symm.trans hu)
  exact absurd ((congrArg Core.pc hq).symm.trans hpc) (by decide)

end Sys2Proof.Machine

namespace Sys2Proof.Machine

/-! A conflicting frame write whose taint borrows journal rate (06 R203; 09 R297; 11 R356). -/

/-- A frame write that is the first of those that wait, once its tick has come. -/
theorem exec_frameWriteApply_first {s : State} {id f : Nat} {e x : Event} {l : List Event} (he : s.event id = some e)
    (ht : e.atTile = true) (hn : e.tick ≤ s.now) (hk : e.kind.frameWritten = some f)
    (hq : s.frameQueue f e.inst = x :: l) (hx : x.id = id) :
    exec (.frameWriteApply id) s = answer s (s.writeFrame e f) := by
  have h : exec (.frameWriteApply id) s = execFrameWriteApply id s := rfl
  rw [h, execFrameWriteApply]
  simp [he, ht, hk, hq, hx, Nat.not_lt.2 hn]

theorem fld_answer {s t u : State} (h : answer s t = .next u) (a hi lo : Nat) : u.fld a hi lo = t.fld a hi lo := by
  cases h
  rfl

/-- A window on frame 1 whose channel number makes `ICH_REFUSE` the register `MEM_PLENT` of partition 3. -/
def farWindow : Window := { id := 7, ich := 4673, dframe := 1, ls := 0, we := 100 }

/-- SETF of frame 1 at sub-tick 32, held at its tile. -/
def lateSetf : Event := { id := 5, inst := 32, kind := .setf 1 0, stage := .tile }

/-- Partition 0 is in a begun shot, its on-chip journal buffer full and its journal rate used up; of the others only
partition 3 on have a share to lend. -/
def fullBuffer : State :=
  Tests.atTick 1 { Tests.base with
    parts := [(0, { mode := .shot, attempt := { active := true }, jbuf := List.replicate 4096 {}, jused := 512 }),
      (1, { lent := 2000 }), (2, { lent := 2000 })]
    fab := { events := [lateSetf], wins := [farWindow] } }

/-- The write's taint takes one unit from partition 3's share, which that register counts. -/
theorem fullBuffer_refuse : (fullBuffer.writeFrame lateSetf 1).fld (ICH_REFUSE 4673) 15 0 = 1 := by decide +kernel

/-- Refutes O17: the journal entry of the conflict's taint borrows rate, and the register that counts the loan stands in
the place of a conflicting window's `ICH_REFUSE`. -/
theorem not_channelsAndFrames : ¬ Obligations.ChannelsAndFrames := by
  unfold Obligations.ChannelsAndFrames
  rintro ⟨-, h⟩
  have hev : fullBuffer.event 5 = some lateSetf := rfl
  have hfirst : fullBuffer.frameQueue 1 32 = [lateSetf] := rfl
  have hconf : fullBuffer.conflicts 1 32 = [farWindow] := rfl
  obtain ⟨-, h⟩ := (h fullBuffer 5 1).1 lateSetf lateSetf [] hev rfl rfl hfirst
  obtain ⟨-, h, -⟩ := h (by decide) rfl rfl
  obtain ⟨t, ht, -, -, -, h, -⟩ := h rfl (by simp [lateSetf, hconf]) rfl rfl
  obtain ⟨-, hlow⟩ := h farWindow (by simp [lateSetf, hconf])
  have hu := fld_answer
    ((exec_frameWriteApply_first hev rfl (by decide) rfl hfirst rfl).symm.trans ht) (ICH_REFUSE 4673) 15 0
  exact absurd (fullBuffer_refuse.symm.trans (hu.symm.trans hlow)) (by decide +kernel)

end Sys2Proof.Machine

namespace Sys2Proof.Machine

/-! What record keeping leaves of a partition: all but its queues, its journal and what its attempt counts. -/

/-- From `a` to `b` a partition has taken records, journal entries, loans and taints, and nothing else. -/
structure Part.Kept (a b : Part) : Prop where
  rest : b = { a with
    waitq := b.waitq, relq := b.relq, rlost := b.rlost, quiet := b.quiet, yields := b.yields, lent := b.lent
    journal := b.journal, jcount := b.jcount, jused := b.jused, jopen := b.jopen, jbuf := b.jbuf, capWait := b.capWait
    attempt := { a.attempt with taints := b.attempt.taints, entries := b.attempt.entries } }
  taints : a.attempt.taints <+: b.attempt.taints

theorem Part.Kept.refl (a : Part) : a.Kept a := ⟨rfl, List.prefix_refl _⟩

theorem Part.Kept.trans {a b c : Part} (h1 : a.Kept b) (h2 : b.Kept c) : a.Kept c := by
  refine ⟨?_, h1.taints.trans h2.taints⟩
  rw [h2.rest, h1.rest]

namespace Part.Kept
variable {a b : Part} (h : a.Kept b)
include h

theorem mode : b.mode = a.mode := by rw [h.rest]
theorem job : b.job = a.job := by rw [h.rest]
theorem cause : b.cause = a.cause := by rw [h.rest]
theorem holdAt : b.holdAt = a.holdAt := by rw [h.rest]
theorem resumeNeeded : b.resumeNeeded = a.resumeNeeded := by rw [h.rest]
theorem holdReq : b.holdReq = a.holdReq := by rw [h.rest]
theorem active : b.attempt.active = a.attempt.active := by rw [h.rest]
theorem probe : b.probe = a.probe := by rw [h.rest]

end Part.Kept

/-- From `s` to `t` only the record queues and collections of partitions have changed. -/
structure Queued (s t : State) : Prop where
  frame : t = { s with parts := t.parts }
  part : ∀ q, (s.part q).Kept (t.part q)

theorem Queued.refl (s : State) : Queued s s := ⟨rfl, fun _ => .refl _⟩

theorem Queued.trans {a b c : State} (h1 : Queued a b) (h2 : Queued b c) : Queued a c := by
  refine ⟨?_, fun q => (h1.part q).trans (h2.part q)⟩
  rw [h2.frame, h1.frame]

theorem Queued.regs {s t : State} (h : Queued s t) : t.regs = s.regs := by rw [h.frame]

theorem updPart_queued (s : State) (r : Nat) (f : Part → Part) (h : (s.part r).Kept (f (s.part r))) :
    Queued s (s.updPart r f) := by
  refine ⟨rfl, fun q => ?_⟩
  by_cases hq : q = r
  · subst hq
    rwa [part_updPart]
  · rw [part_updPart_ne _ _ hq]
    exact .refl _

/-- A loop of passes that only queue records queues records only. -/
theorem forEach_queued {α : Type} (s : State) (l : List α) (f : State → α → State) (h : ∀ s x, Queued s (f s x)) :
    Queued s (s.forEach l f) :=
  forEach_rel Queued .refl (fun _ _ _ => .trans) s l f h

theorem pushRec_queued (s : State) (r : Nat) (x : Rec) : Queued s (s.pushRec r x) := by
  refine updPart_queued s r _ ?_
  split <;> exact ⟨rfl, List.prefix_refl _⟩

theorem loseRec_queued (s : State) (r : Nat) : Queued s (s.loseRec r) :=
  updPart_queued s r _ ⟨rfl, List.prefix_refl _⟩

theorem queueRec_queued (s : State) (r : Nat) (x : Rec) : Queued s (s.queueRec r x) := by
  unfold State.queueRec
  have h : ∀ c : Prop, [Decidable c] → Queued s (if c then s.pushRec r x else s.loseRec r) := fun c _ => by
    split
    · exact pushRec_queued ..
    · exact loseRec_queued ..
  split <;> exact h _

theorem coalesced_queued (s : State) (r k : Nat) (x : Rec) : Queued s (s.coalesced r k x) := by
  unfold State.coalesced
  refine (updPart_queued s r (fun q => { q with quiet := (coalesce (s.part r).quiet k s.now x).1 })
    ⟨rfl, List.prefix_refl _⟩).trans ?_
  dsimp only
  split
  · exact queueRec_queued ..
  · exact .refl ..

theorem yields_queued (s : State) (r a b c : Nat) (t : BitVec 64) (m o : Nat) : Queued s (s.yields r a b c t m o) := by
  have collects : ∀ x, Queued s (s.updPart r fun q => { q with yields := collect q.yields x }) :=
    fun x => updPart_queued s r _ ⟨rfl, List.prefix_refl _⟩
  unfold State.yields
  dsimp only
  split
  · exact collects _
  · split
    · exact coalesced_queued ..
    · exact collects _
    · exact queueRec_queued ..

theorem jput_queued (s : State) (r : Nat) (x : Rec) : Queued s (s.jput r x) := by
  unfold State.jput
  exact updPart_queued s r _ ⟨rfl, List.prefix_refl _⟩

theorem streamRec_queued (s : State) (r k c a n : Nat) (t : BitVec 64) : Queued s (s.streamRec r k c a n t) :=
  coalesced_queued ..

theorem flushSome_queued (s : State) (r : Nat) (f : Rec → Bool) : Queued s (s.flushSome r f) := by
  unfold State.flushSome
  refine (updPart_queued s r (fun q => { q with yields := q.yields.filter fun x => !f x })
    ⟨rfl, List.prefix_refl _⟩).trans ?_
  exact forEach_queued _ _ _ fun _ _ => queueRec_queued ..

theorem flushYields_queued (s : State) (r : Nat) : Queued s (s.flushYields r) := flushSome_queued ..

theorem flushLoans_queued (s : State) (b : Nat) : Queued s (s.flushLoans b) := by
  refine forEach_queued _ _ _ fun s q => ?_
  dsimp only
  split
  · refine (updPart_queued s q (fun x => { x with yields := x.yields.filter fun r => !(bits r.w7.toNat 7 0 == b) })
      ⟨rfl, List.prefix_refl _⟩).trans ?_
    exact forEach_queued _ _ _ fun _ _ => coalesced_queued ..
  · exact flushSome_queued ..

/-- From `s` to `t` only records, taints and journal entries have been made, on behalf of partition `p`. -/
structure Noted (s t : State) (p : Nat) : Prop where
  frame : t = { s with parts := t.parts, regs := t.regs }
  regs : RegsBut s t (recordRegs p)
  part : ∀ q, (s.part q).Kept (t.part q)

theorem Noted.refl (s : State) (p : Nat) : Noted s s p := ⟨rfl, fun _ _ => rfl, fun _ => .refl _⟩

theorem Noted.trans {a b c : State} {p : Nat} (h1 : Noted a b p) (h2 : Noted b c p) : Noted a c p := by
  refine ⟨?_, fun x hx => (h2.regs x hx).trans (h1.regs x hx), fun q => (h1.part q).trans (h2.part q)⟩
  rw [h2.frame, h1.frame]

theorem Queued.noted {s t : State} (h : Queued s t) (p : Nat) : Noted s t p := by
  refine ⟨?_, fun a _ => ?_, h.part⟩ <;> rw [h.frame]
  rfl

theorem setN_noted (s : State) (p a v : Nat) (h : a ∈ recordRegs p) : Noted s (s.setN a v) p :=
  ⟨rfl, fun _ hx => reg_setN_ne s v fun e => hx (e ▸ h), fun _ => .refl _⟩

theorem dramLoan_noted (s : State) (l p n half : Nat) (hl : l < 8) : Noted s (s.dramLoan l p n half) p := by
  unfold State.dramLoan State.inc
  have lends : Queued s (s.updPart l fun q => { q with lent := q.lent + half }) :=
    updPart_queued s l _ ⟨rfl, List.prefix_refl _⟩
  refine (((lends.trans (yields_queued ..)).noted p).trans (setN_noted _ _ _ _ ?_)).trans (setN_noted _ _ _ _ ?_)
  · exact List.mem_cons_of_mem _ (List.mem_map.2 ⟨l, List.mem_range.2 hl, rfl⟩)
  · exact List.mem_cons_self ..

theorem jappend_noted (s : State) (p : Nat) (x : Rec) : Noted s (s.jappend p x).1 p := by
  have add : ∀ (s : State) (r : Rec), Queued s (s.updPart p fun q => { q with jbuf := q.jbuf ++ [r] }) :=
    fun s r => updPart_queued s p _ ⟨rfl, List.prefix_refl _⟩
  have shift : ∀ s : State, Queued s (match (s.part p).jbuf with
      | [] => s
      | e :: l => (s.updPart p fun q => { q with jbuf := l }).jput p e) := by
    intro s
    split
    · exact .refl ..
    · rename_i l _
      exact (updPart_queued s p (fun q => { q with jbuf := l }) ⟨rfl, List.prefix_refl _⟩).trans (jput_queued ..)
  have enter : Queued s (if (s.part p).attempt.active then s.updAtt p fun a => { a with entries := a.entries + 1 } else s) := by
    split
    · exact updPart_queued s p _ ⟨rfl, List.prefix_refl _⟩
    · exact .refl ..
  unfold State.jappend
  dsimp only
  split
  · exact .refl ..
  · refine (enter.noted p).trans ?_
    generalize (if (s.part p).attempt.active then s.updAtt p fun a => { a with entries := a.entries + 1 } else s) = s'
    split
    · exact (add ..).noted p
    · split
      · exact ((shift _).trans (add _ _)).noted p
      · split
        · rename_i l hl
          split
          · exact (((shift _).trans (add _ _)).noted p).trans (dramLoan_noted _ _ _ _ _ (jlender_lt hl))
          · exact .refl ..
        · exact .refl ..

/-- The taint that `addTaint` adds. -/
def State.newTaint (s : State) (cause res det : Nat) (tag : BitVec 64) : Taint :=
  { cause := cause, tick := s.now, res := res, tag := tag, det := det }

theorem addTaint_noted (s : State) (p c a r d : Nat) (t : BitVec 64) : Noted s (s.addTaint p c a r d t).1 p ∧
    s.newTaint c r d t ∈ ((s.addTaint p c a r d t).1.part p).attempt.taints := by
  unfold State.addTaint
  generalize hs : s.updAtt p _ = s1
  have h1 : Noted s s1 p := by
    subst hs
    exact (updPart_queued s p _ ⟨rfl, List.prefix_append ..⟩).noted p
  have hm : s.newTaint c r d t ∈ (s1.part p).attempt.taints := by
    subst hs
    simp [State.updAtt, State.newTaint]
  refine ⟨h1.trans (jappend_noted ..), ?_⟩
  exact ((jappend_noted s1 p _).part p).taints.subset hm

theorem quotaAtt_noted (s : State) (p : Nat) (t : BitVec 64) : Noted s (s.quotaAtt p t) p := by
  unfold State.quotaAtt
  split
  · exact (addTaint_noted ..).1
  · exact .refl ..

theorem taintAtt_noted (s : State) (p c a r d : Nat) (t : BitVec 64) : Noted s (s.taintAtt p c a r d t) p := by
  unfold State.taintAtt
  dsimp only
  split
  · split
    · exact (addTaint_noted ..).1
    · exact (addTaint_noted ..).1.trans (quotaAtt_noted ..)
  · exact .refl ..

/-- An attempt in progress holds the taint that it is given. -/
theorem mem_taints_taintAtt {s : State} {p : Nat} (h : (s.part p).attempt.active = true) (c a r d : Nat) (t : BitVec 64) :
    s.newTaint c r d t ∈ ((s.taintAtt p c a r d t).part p).attempt.taints := by
  have hm := (addTaint_noted s p c a r d t).2
  rw [State.taintAtt, if_pos h]
  dsimp only
  split
  · exact hm
  · exact ((quotaAtt_noted (s.addTaint p c a r d t).1 p t).part p).taints.subset hm

theorem journal_noted (s : State) (p : Nat) (x : Rec) : Noted s (s.journal p x) p := by
  unfold State.journal
  dsimp only
  split
  · exact jappend_noted ..
  · exact (jappend_noted ..).trans (quotaAtt_noted ..)

theorem causeBy_noted (s : State) (p k c a r d : Nat) (t : BitVec 64) : Noted s (s.causeBy p k c a r d t) p := by
  unfold State.causeBy
  split
  · exact taintAtt_noted ..
  · exact (streamRec_queued ..).noted p
  · exact .refl ..

theorem cause_noted (s : State) (p c a r d : Nat) (t : BitVec 64) : Noted s (s.cause p c a r d t) p := causeBy_noted ..

/-- A cause in SHOT mode taints the attempt in progress. -/
theorem mem_taints_cause {s : State} {p : Nat} (hm : (s.part p).mode = .shot) (h : (s.part p).attempt.active = true)
    (c a r d : Nat) (t : BitVec 64) : s.newTaint c r d t ∈ ((s.cause p c a r d t).part p).attempt.taints := by
  rw [State.cause, State.causeBy, hm]
  exact mem_taints_taintAtt h ..

end Sys2Proof.Machine

namespace Sys2Proof.Machine

/-! What the capture rings do to the rest of the device: records wait on chip, and capture registers count. -/

theorem beforeN_setBefore_ne (s : State) {a b : Nat} (v : Nat) (h : b ≠ a) : (s.setBefore a v).beforeN b = s.beforeN b := by
  unfold State.beforeN State.setBefore
  rw [look_put_ne _ _ h]

theorem reg_stick_ne (s : State) {a b : Nat} (i : Nat) (h : b ≠ a) : (s.stick a i).reg b = s.reg b :=
  reg_setBit_ne _ _ _ h

theorem beforeN_stick_ne (s : State) {a b : Nat} (i : Nat) (h : b ≠ a) : (s.stick a i).beforeN b = s.beforeN b :=
  beforeN_setBefore_ne s _ h

theorem reg_inc_ne (s : State) {a b : Nat} (n : Nat) (h : b ≠ a) : (s.inc a n).reg b = s.reg b := reg_setN_ne _ _ h

/-- From `s` to `t` only capture rings and requests have changed, with what counts for them: capture registers and the
records that wait on chip. -/
structure Captured (s t : State) : Prop where
  frame : t = { s with parts := t.parts, regs := t.regs, before := t.before, rings := t.rings, reqs := t.reqs }
  regs : ∀ a < 0x340000, t.reg a = s.reg a
  before : ∀ a < 0x340000, t.beforeN a = s.beforeN a
  part : ∀ q, (s.part q).Kept (t.part q)

theorem Captured.refl (s : State) : Captured s s := ⟨rfl, fun _ _ => rfl, fun _ _ => rfl, fun _ => .refl _⟩

theorem Captured.trans {a b c : State} (h1 : Captured a b) (h2 : Captured b c) : Captured a c := by
  refine ⟨?_, fun x hx => (h2.regs x hx).trans (h1.regs x hx), fun x hx => (h2.before x hx).trans (h1.before x hx),
    fun q => (h1.part q).trans (h2.part q)⟩
  rw [h2.frame, h1.frame]

theorem forEach_captured {α : Type} (s : State) (l : List α) (f : State → α → State) (h : ∀ s x, Captured s (f s x)) :
    Captured s (s.forEach l f) :=
  forEach_rel Captured .refl (fun _ _ _ => .trans) s l f h

theorem updRing_captured (s : State) (r : Nat) (f : Ring → Ring) : Captured s (s.updRing r f) :=
  ⟨rfl, fun _ _ => rfl, fun _ _ => rfl, fun _ => .refl _⟩

theorem updReq_captured (s : State) (k : Nat) (f : Req → Req) : Captured s (s.updReq k f) :=
  ⟨rfl, fun _ _ => rfl, fun _ _ => rfl, fun _ => .refl _⟩

theorem inc_captured (s : State) (a n : Nat) (h : 0x340000 ≤ a) : Captured s (s.inc a n) :=
  ⟨rfl, fun _ hb => reg_inc_ne s n (by omega), fun _ _ => rfl, fun _ => .refl _⟩

theorem stick_captured (s : State) (a i : Nat) (h : 0x340000 ≤ a) : Captured s (s.stick a i) :=
  ⟨rfl, fun _ hb => reg_stick_ne s i (by omega), fun _ hb => beforeN_stick_ne s i (by omega), fun _ => .refl _⟩

theorem ringAppend_captured (s : State) (r : Nat) (c : CapRec) : Captured s (s.ringAppend r c) := by
  unfold State.ringAppend
  exact updRing_captured ..

theorem ringTime_captured (s : State) (r k : Nat) : Captured s (s.ringTime r k) := by
  unfold State.ringTime
  exact ((ringAppend_captured ..).trans (inc_captured _ _ _ (by unfold CAP_RWRITTEN; omega))).trans (updRing_captured ..)

theorem ringTimeDue_captured (s : State) (r : Nat) (o : Option Nat) :
    Captured s (match o with | some k => s.ringTime r k | none => s) := by
  cases o with
  | none => exact .refl s
  | some k => exact ringTime_captured ..

theorem gapAdd_captured (s : State) (r cause src records samples t frame last : Nat) :
    Captured s (s.gapAdd r cause src records samples t frame last) := by
  unfold State.gapAdd
  have counts := inc_captured s (CAP_RDROPPED r) records (by unfold CAP_RDROPPED; omega)
  dsimp only
  split <;> exact counts.trans (updRing_captured ..)

theorem gapEmit_captured (s : State) (r cause src : Nat) : Captured s (s.gapEmit r cause src) := by
  unfold State.gapEmit
  split
  · exact .refl s
  · refine Captured.trans ?_ (ringTime_captured ..)
    refine Captured.trans ?_ (updRing_captured ..)
    refine Captured.trans ?_ (inc_captured _ _ _ (by unfold CAP_RGAPS; omega))
    refine Captured.trans ?_ (inc_captured _ _ _ (by unfold CAP_RWRITTEN; omega))
    exact (ringTimeDue_captured ..).trans (ringAppend_captured ..)

theorem gapWrite_captured (s : State) (r cause src : Nat) : Captured s (s.gapWrite r cause src) := by
  unfold State.gapWrite
  split
  · exact gapEmit_captured ..
  · exact .refl s

theorem Queued.captured {s t : State} (h : Queued s t) : Captured s t := by
  refine ⟨?_, fun a _ => ?_, fun a _ => ?_, h.part⟩ <;> rw [h.frame] <;> rfl

theorem ringKeep_captured (s : State) (r : Nat) (c : CapRec) : Captured s (s.ringKeep r c) := by
  unfold State.ringKeep
  have keeps := (ringAppend_captured s r c).trans (inc_captured _ (CAP_RWRITTEN r) 1 (by unfold CAP_RWRITTEN; omega))
  exact keeps.trans (updPart_queued _ _ _ ⟨rfl, List.prefix_refl _⟩).captured

theorem bufferLost_captured (s : State) (r src samples t frame : Nat) : Captured s (s.bufferLost r src samples t frame) :=
  (gapAdd_captured ..).trans (stick_captured _ _ _ (by unfold CAP_STAT; omega))

theorem ringPut_captured (s : State) (r : Nat) (c : CapRec) (samples src : Nat) : Captured s (s.ringPut r c samples src) := by
  unfold State.ringPut
  dsimp only
  split
  · exact bufferLost_captured ..
  · split
    · refine Captured.trans ?_ (ringKeep_captured ..)
      exact (forEach_captured _ _ _ fun _ _ => gapWrite_captured ..).trans (ringTimeDue_captured ..)
    · exact gapAdd_captured ..

theorem micaRelease_captured (s : State) (r k : Nat) : Captured s (s.micaRelease r k) :=
  (updRing_captured ..).trans (forEach_captured _ _ _ fun _ _ => ringPut_captured ..)

theorem micaPut_captured (s : State) (r k t : Nat) (c : CapRec) (samples : Nat) : Captured s (s.micaPut r k t c samples) :=
  (updRing_captured ..).trans (micaRelease_captured ..)

theorem samplesClose_captured (s : State) (r k x : Nat) : Captured s (s.samplesClose r k x) := by
  unfold State.samplesClose
  split
  · exact .refl s
  · exact (updRing_captured ..).trans (micaPut_captured ..)

theorem rawPut_captured (s : State) (k : Nat) (q : Req) (m n : Nat) (l : List TapBlock) : Captured s (s.rawPut k q m n l) := by
  unfold State.rawPut
  dsimp only
  split
  · exact bufferLost_captured ..
  · refine Captured.trans ?_ (updReq_captured ..)
    refine Captured.trans ?_ (ringKeep_captured ..)
    refine Captured.trans ?_ (ringTimeDue_captured ..)
    exact forEach_captured _ _ _ fun _ _ => (updReq_captured ..).trans (gapEmit_captured ..)

theorem burstWrite_captured (s : State) (k n : Nat) : Captured s (s.burstWrite k n) := by
  induction n generalizing s with
  | zero => exact .refl s
  | succ n ih =>
    unfold State.burstWrite
    split
    · exact .refl s
    · split
      · exact .refl s
      · dsimp only
        split
        · exact .refl s
        · exact ((forEach_captured _ _ _ fun _ _ => rawPut_captured ..).trans (updReq_captured ..)).trans (ih _)

theorem pretrig_captured (s : State) (k : Nat) (q : Req) (a b : Nat) : Captured s (s.pretrig k q a b) := by
  unfold State.pretrig
  dsimp only
  split
  · exact ((gapAdd_captured ..).trans (updReq_captured ..)).trans (gapEmit_captured ..)
  · exact gapAdd_captured ..

theorem beginBurst_captured (s : State) (k : Nat) : Captured s (s.beginBurst k) := by
  unfold State.beginBurst
  split
  · exact .refl s
  · rename_i q _
    have misses : ∀ a b : Nat, Captured s (if a < b then s.pretrig k q a b else s) := fun a b => by
      split
      · exact pretrig_captured ..
      · exact .refl s
    split
    · dsimp only
      refine Captured.trans ?_ (burstWrite_captured ..)
      refine Captured.trans ?_ (updReq_captured ..)
      exact (misses _ _).trans (inc_captured _ _ _ (by unfold CAP_TRIGCNT; omega))
    · exact .refl s

theorem stopped_captured (s : State) (q : Req) (n e : Nat) : Captured s (s.stopped q n e) := by
  unfold State.stopped
  dsimp only
  split
  · exact (gapAdd_captured ..).trans (gapWrite_captured ..)
  · exact .refl s

theorem endReq_captured (s : State) (k : Nat) : Captured s (s.endReq k) := by
  unfold State.endReq
  dsimp only
  refine (beginBurst_captured s k).trans ?_
  generalize s.beginBurst k = s1
  split
  · exact .refl _
  · have leaves : ∀ r, Captured s1 (State.unhold { s1 with reqs := s1.reqs.filter (·.key != k) } r k) := fun r =>
      ⟨rfl, fun _ _ => rfl, fun _ _ => rfl, fun _ => .refl _⟩
    split
    · exact leaves _
    · exact (leaves _).trans (stopped_captured ..)

theorem captureHold_captured (s : State) (p : Nat) : Captured s (s.captureHold p) := by
  unfold State.captureHold
  refine Captured.trans ?_ (forEach_captured _ _ _ fun _ _ => (updReq_captured ..).trans (endReq_captured ..))
  refine Captured.trans ?_ (inc_captured _ _ _ (by unfold CAP_TRIGIGN; omega))
  exact forEach_captured _ _ _ fun _ _ => forEach_captured _ _ _ fun _ _ => samplesClose_captured ..

theorem trigger_captured (s : State) (k t : Nat) : Captured s (s.trigger k t) := by
  unfold State.trigger
  split
  · exact .refl s
  · split
    · exact inc_captured _ _ _ (by unfold CAP_TRIGIGN; omega)
    · exact updReq_captured ..

theorem triggerAll_captured (s : State) (hit : Req → Bool) (t : Nat) : Captured s (s.triggerAll hit t) :=
  forEach_captured _ _ _ fun _ _ => trigger_captured ..

end Sys2Proof.Machine

namespace Sys2Proof.Machine

/-! Loops over a list of resources. -/

/-- A relation that every pass over an element of the list keeps, the loop keeps. -/
theorem forEach_rel_mem {α : Type} {R : State → State → Prop} (refl : ∀ s, R s s)
    (trans : ∀ a b c, R a b → R b c → R a c) {l : List α} {f : State → α → State} (h : ∀ s, ∀ x ∈ l, R s (f s x)) (s : State) :
    R s (s.forEach l f) := by
  induction l generalizing s with
  | nil => exact refl s
  | cons x l ih =>
    exact trans _ _ _ (h s x List.mem_cons_self) (ih (fun s y hy => h s y (List.mem_cons_of_mem _ hy)) _)

/-- What every pass keeps, the loop keeps. -/
theorem forEach_keeps {α : Type} {P : State → Prop} {l : List α} {f : State → α → State} (h : ∀ s, ∀ x ∈ l, P s → P (f s x))
    {s : State} (hs : P s) : P (s.forEach l f) :=
  forEach_rel_mem (R := fun a b => P a → P b) (fun _ => id) (fun _ _ _ h1 h2 => h2 ∘ h1) h s hs

/-- What one pass of the loop brings about and every pass keeps holds after the loop. -/
theorem forEach_reaches {α : Type} {P : State → Prop} {l : List α} {f : State → α → State} {x : α} (hx : x ∈ l)
    (reach : ∀ s, P (f s x)) (keep : ∀ s, ∀ y ∈ l, P s → P (f s y)) (s : State) : P (s.forEach l f) := by
  obtain ⟨l1, l2, rfl⟩ := List.append_of_mem hx
  unfold State.forEach
  rw [List.foldl_append]
  exact forEach_keeps (l := l2) (fun s y hy => keep s y (by simp [hy])) (reach _)

/-! What entering HOLD may do to registers, channels and the event fabric (01 R32). -/

/-- The registers that HOLD may write: of bias outputs and output channels the status, and counters of Strata, Garnet, the
memory's loans and the capture unit. -/
def HoldReg (a : Nat) : Prop :=
  (0x60000 ≤ a ∧ a < 0x62000 ∧ a % 64 = 28) ∨ (0x80000 ≤ a ∧ a < 0x84000 ∧ a % 256 = 32) ∨
  (0x220100 ≤ a ∧ a < 0x240000) ∨ 0x308200 ≤ a

/-- From `a` to `b` no event but a mute has come, and every pulse and window is its partition's as before. -/
structure FabKept (a b : Fab) : Prop where
  events : ∀ e ∈ b.events, e ∈ a.events ∨ e.isMute = true
  pulses : ∀ u ∈ b.pulses, ∃ v ∈ a.pulses, v.part = u.part
  wins : ∀ w ∈ b.wins, ∃ v ∈ a.wins, v.part = w.part

theorem FabKept.of_subset {a b : Fab} (he : ∀ e ∈ b.events, e ∈ a.events) (hu : ∀ u ∈ b.pulses, u ∈ a.pulses)
    (hw : ∀ w ∈ b.wins, w ∈ a.wins) : FabKept a b :=
  ⟨fun e h => .inl (he e h), fun u h => ⟨u, hu u h, rfl⟩, fun w h => ⟨w, hw w h, rfl⟩⟩

theorem FabKept.same {a b : Fab} (he : b.events = a.events) (hu : b.pulses = a.pulses) (hw : b.wins = a.wins) : FabKept a b :=
  .of_subset (fun _ => he ▸ id) (fun _ => hu ▸ id) (fun _ => hw ▸ id)

theorem FabKept.refl (a : Fab) : FabKept a a := .of_subset (fun _ => id) (fun _ => id) fun _ => id

theorem FabKept.trans {a b c : Fab} (h1 : FabKept a b) (h2 : FabKept b c) : FabKept a c := by
  refine ⟨fun e h => (h2.events e h).elim (h1.events e) .inr, fun u hu => ?_, fun w hw => ?_⟩
  · obtain ⟨v, hv, hp⟩ := h2.pulses u hu
    obtain ⟨x, hx, hq⟩ := h1.pulses v hv
    exact ⟨x, hx, hq.trans hp⟩
  · obtain ⟨v, hv, hp⟩ := h2.wins w hw
    obtain ⟨x, hx, hq⟩ := h1.wins v hv
    exact ⟨x, hx, hq.trans hp⟩

/-- From `s` to `t`, work that entering HOLD may take: the configuration stays, no channel becomes DRIVEN, and the fabric
gets nothing new but mutes. -/
structure HoldWork (s t : State) : Prop where
  frame : t = { s with
    regs := t.regs, before := t.before, parts := t.parts, cores := t.cores, micas := t.micas, frames := t.frames
    issued := t.issued, fab := t.fab, geo := t.geo, slots := t.slots, graphs := t.graphs, loops := t.loops
    rings := t.rings, reqs := t.reqs, biases := t.biases, irq := t.irq }
  regs : ∀ a, ¬ HoldReg a → t.reg a = s.reg a
  before : ∀ a, ¬ HoldReg a → t.beforeN a = s.beforeN a
  och : ∀ n < 64, t.ochState n = s.ochState n ∨ (s.ochState n = 2 ∧ t.ochState n = 1)
  fab : FabKept s.fab t.fab

theorem HoldWork.refl (s : State) : HoldWork s s :=
  ⟨rfl, fun _ _ => rfl, fun _ _ => rfl, fun _ _ => .inl rfl, .refl _⟩

theorem HoldWork.trans {a b c : State} (h1 : HoldWork a b) (h2 : HoldWork b c) : HoldWork a c := by
  refine ⟨?_, fun x hx => (h2.regs x hx).trans (h1.regs x hx), fun x hx => (h2.before x hx).trans (h1.before x hx),
    fun n hn => ?_, h1.fab.trans h2.fab⟩
  · rw [h2.frame, h1.frame]
  · have := h1.och n hn
    have := h2.och n hn
    omega

/-- Work that leaves the status of the output channels alone. -/
theorem HoldWork.of_regs {s t : State}
    (frame : t = { s with
      regs := t.regs, before := t.before, parts := t.parts, cores := t.cores, micas := t.micas, frames := t.frames
      issued := t.issued, fab := t.fab, geo := t.geo, slots := t.slots, graphs := t.graphs, loops := t.loops
      rings := t.rings, reqs := t.reqs, biases := t.biases, irq := t.irq })
    (regs : ∀ a, t.reg a ≠ s.reg a → HoldReg a ∧ ∀ n < 64, a ≠ OCH_STAT n)
    (before : ∀ a, ¬ HoldReg a → t.beforeN a = s.beforeN a) (fab : FabKept s.fab t.fab) : HoldWork s t := by
  refine ⟨frame, fun a ha => ?_, before, fun n hn => .inl ?_, fab⟩
  · by_contra h
    exact ha (regs a h).1
  · refine fld_ne _ _ _ _ ?_
    by_contra h
    exact (regs _ h).2 n hn rfl

/-- Work that leaves every register alone. -/
theorem HoldWork.of_frame {s t : State}
    (frame : t = { s with
      parts := t.parts, cores := t.cores, micas := t.micas, frames := t.frames, issued := t.issued, fab := t.fab
      geo := t.geo, slots := t.slots, graphs := t.graphs, loops := t.loops, biases := t.biases, irq := t.irq })
    (fab : FabKept s.fab t.fab) : HoldWork s t := by
  have hr : ∀ a, t.reg a = s.reg a := fun a => by rw [frame]; rfl
  have hb : ∀ a, t.beforeN a = s.beforeN a := fun a => by rw [frame]; rfl
  refine .of_regs ?_ (fun a h => absurd (hr a) h) (fun a _ => hb a) fab
  rw [frame]

theorem HoldWork.of_tables {s t : State}
    (frame : t = { s with
      parts := t.parts, cores := t.cores, micas := t.micas, frames := t.frames, issued := t.issued
      geo := t.geo, slots := t.slots, graphs := t.graphs, loops := t.loops, biases := t.biases, irq := t.irq }) : HoldWork s t := by
  refine .of_frame ?_ ?_
  · rw [frame]
  · rw [frame]
    exact .refl _

theorem forEach_holdWork {α : Type} {l : List α} {f : State → α → State} (h : ∀ s, ∀ x ∈ l, HoldWork s (f s x)) (s : State) :
    HoldWork s (s.forEach l f) :=
  forEach_rel_mem .refl (fun _ _ _ => .trans) h s

theorem Captured.holdWork {s t : State} (h : Captured s t) : HoldWork s t := by
  refine .of_regs ?_ (fun a ha => ?_) (fun a ha => ?_) ?_
  · rw [h.frame]
  · by_cases ha' : a < 0x340000
    · exact absurd (h.regs a ha') ha
    · refine ⟨by unfold HoldReg; omega, fun n hn => by unfold OCH_STAT; omega⟩
  · refine h.before a ?_
    unfold HoldReg at ha
    omega
  · rw [h.frame]
    exact .refl _

theorem Queued.holdWork {s t : State} (h : Queued s t) : HoldWork s t := h.captured.holdWork

theorem recordRegs_hold {p a : Nat} (h : a ∈ recordRegs p) : 0x308200 ≤ a := by
  simp only [recordRegs, List.mem_cons, List.mem_map, MEM_PBORROWED, MEM_PLENT] at h
  obtain rfl | ⟨l, -, rfl⟩ := h <;> omega

theorem Noted.holdWork {s t : State} {p : Nat} (h : Noted s t p) : HoldWork s t := by
  refine .of_regs ?_ (fun a ha => ?_) (fun a ha => ?_) ?_
  · rw [h.frame]
  · have := recordRegs_hold (not_imp_comm.1 (h.regs a) ha)
    refine ⟨by unfold HoldReg; omega, fun n hn => by unfold OCH_STAT; omega⟩
  · rw [h.frame]
    rfl
  · rw [h.frame]
    exact .refl _

/-! What HOLD leaves of the configuration. -/

/-- Resources whose owner fields read alike have the same owners. -/
theorem owner_congr {s t : State} {f : Nat → Nat} {n i hi lo : Nat} (own : State → Nat → Option Nat)
    (hown : ∀ s k, own s k = if s.bit (f k) i then some (s.fld (f k) hi lo) else none) (h : ∀ k < n, t.reg (f k) = s.reg (f k))
    (p : Nat) : (List.range n).filter (fun k => own t k == some p) = (List.range n).filter (fun k => own s k == some p) := by
  refine List.filter_congr fun k hk => ?_
  have hk := h k (List.mem_range.1 hk)
  rw [hown, hown, bit_ne _ _ _ hk, fld_ne _ _ _ _ hk]

theorem nOch_le (s : State) : s.nOch ≤ 64 := by unfold State.nOch; split <;> decide

theorem mem_ochsOf {s : State} {p n : Nat} (h : n ∈ s.ochsOf p) : n < 64 ∧ s.ochOwner n = some p := by
  simp only [State.ochsOf, List.mem_filter, List.mem_range, beq_iff_eq] at h
  exact ⟨h.1.trans_le (nOch_le s), h.2⟩

theorem mem_biasesOf {s : State} {p n : Nat} (h : n ∈ s.biasesOf p) : n < 128 ∧ s.biasOwner n = some p := by
  simp only [State.biasesOf, List.mem_filter, List.mem_range, beq_iff_eq, State.nBias] at h
  have := nOch_le s
  exact ⟨by omega, h.2⟩

namespace HoldWork
variable {s t : State} (h : HoldWork s t)
include h

theorem variant : t.variant = s.variant := by rw [h.frame]
theorem nOch : t.nOch = s.nOch := by unfold State.nOch; rw [h.variant]
theorem now : t.now = s.now := by rw [h.frame]; rfl
theorem mode : t.mode = s.mode := by rw [h.frame]
theorem frameOwner : t.frameOwner = s.frameOwner := by rw [h.frame]
theorem frameShadow : t.frameShadow = s.frameShadow := by rw [h.frame]
theorem vregs : t.vregs = s.vregs := by rw [h.frame]
theorem pins : t.pins = s.pins := by rw [h.frame]
theorem flint : t.flint = s.flint := by rw [h.frame]
theorem boot : t.boot = s.boot := by rw [h.frame]

theorem qtzOf (p : Nat) : t.qtzOf p = s.qtzOf p := by
  unfold State.qtzOf State.nQtz
  rw [h.nOch]
  have := nOch_le s
  exact owner_congr State.qtzOwner (fun _ _ => rfl) (fun k hk => h.regs _ (by unfold HoldReg QTZ_CFG; omega)) p

theorem ochsOf (p : Nat) : t.ochsOf p = s.ochsOf p := by
  unfold State.ochsOf
  rw [h.nOch]
  have := nOch_le s
  exact owner_congr State.ochOwner (fun _ _ => rfl) (fun k hk => h.regs _ (by unfold HoldReg OCH_CTRL; omega)) p

theorem biasesOf (p : Nat) : t.biasesOf p = s.biasesOf p := by
  unfold State.biasesOf State.nBias
  rw [h.nOch]
  have := nOch_le s
  exact owner_congr State.biasOwner (fun _ _ => rfl) (fun k hk => h.regs _ (by unfold HoldReg BIAS_CFG; omega)) p

theorem slotsOf (p : Nat) : t.slotsOf p = s.slotsOf p :=
  owner_congr State.slotOwner (fun _ _ => rfl) (fun k hk => h.regs _ (by unfold HoldReg DEC_SLOTCFG; omega)) p

theorem framesOf (p : Nat) : t.framesOf p = s.framesOf p := by
  unfold State.framesOf
  rw [h.frameOwner]

end HoldWork

end Sys2Proof.Machine

namespace Sys2Proof.Machine

/-! The operations that entering HOLD is made of (01 R32). -/

theorem updFab_pulses_kept (s : State) (f : Pulse → Pulse) (h : ∀ u, (f u).part = u.part) :
    FabKept s.fab { s.fab with pulses := s.fab.pulses.map f } := by
  refine ⟨fun _ => .inl, fun u hu => ?_, fun w hw => ⟨w, hw, rfl⟩⟩
  obtain ⟨v, hv, rfl⟩ := List.mem_map.1 hu
  exact ⟨v, hv, (h v).symm⟩

theorem updPulse_holdWork (s : State) (id : Nat) (f : Pulse → Pulse) (h : ∀ u, (f u).part = u.part) :
    HoldWork s (s.updPulse id f) := by
  refine .of_frame rfl (updFab_pulses_kept s _ fun u => ?_)
  split
  · exact h u
  · rfl

theorem endPulse_holdWork (s : State) (id : Nat) (keep : Bool) : HoldWork s (s.endPulse id keep) :=
  HoldWork.trans (updPulse_holdWork s id _ (by intro; rfl)) (.of_tables rfl)

theorem endTones_holdWork (s : State) (n : Nat) : HoldWork s (s.endTones n) :=
  forEach_holdWork (fun s i _ => (endPulse_holdWork s i false).trans (updPulse_holdWork _ i _ (by intro; rfl))) s

theorem forEach_pulses_frame {l : List Nat} {f : State → Nat → State}
    (h : ∀ s i, f s i = { s with fab := (f s i).fab, geo := (f s i).geo }) (s : State) :
    s.forEach l f = { s with fab := (s.forEach l f).fab, geo := (s.forEach l f).geo } :=
  forEach_rel_mem (R := fun a b => b = { a with fab := b.fab, geo := b.geo }) (fun _ => rfl)
    (fun a b c h1 h2 => by rw [h2, h1]) (fun s i _ => h s i) s

theorem endTones_frame (s : State) (n : Nat) : s.endTones n = { s with fab := (s.endTones n).fab, geo := (s.endTones n).geo } :=
  forEach_pulses_frame (fun _ _ => rfl) s

theorem muteCh_frame (s : State) (n b : Nat) : s.muteCh n b = { s with regs := (s.muteCh n b).regs, fab := (s.muteCh n b).fab } := by
  unfold State.muteCh
  split <;> rfl

theorem asyncMute_frame (s : State) (n : Nat) :
    s.asyncMute n = { s with regs := (s.asyncMute n).regs, fab := (s.asyncMute n).fab, geo := (s.asyncMute n).geo } := by
  unfold State.asyncMute
  rw [endTones_frame, muteCh_frame]

theorem muteCh_holdWork (s : State) {n : Nat} (hn : n < 64) (b : Nat) : HoldWork s (s.muteCh n b) := by
  unfold State.muteCh
  split
  · rename_i h
    have hw : (s.setFld (OCH_STAT n) 1 0 1).ochState n = 1 := fld_setFld s (OCH_STAT n) 1 0 1 (by decide) (by decide)
    refine ⟨rfl, fun a ha => ?_, fun _ _ => rfl, fun k hk => ?_, .same rfl rfl rfl⟩
    · exact reg_setFld_ne s _ _ _ (by rintro rfl; unfold HoldReg OCH_STAT at ha; omega)
    · by_cases hkn : k = n
      · subst hkn
        exact .inr ⟨h, hw⟩
      · exact .inl (fld_ne _ _ _ _ (reg_setFld_ne s _ _ _ (by unfold OCH_STAT; omega)))
  · exact .refl s

theorem asyncMute_holdWork (s : State) {n : Nat} (hn : n < 64) : HoldWork s (s.asyncMute n) :=
  (muteCh_holdWork s hn _).trans (endTones_holdWork ..)

theorem ochState_asyncMute (s : State) (n : Nat) : (s.asyncMute n).ochState n ≠ 2 := by
  have h : (s.muteCh n (s.now + 1)).ochState n ≠ 2 := by
    unfold State.muteCh
    split
    · exact (fld_setFld s (OCH_STAT n) 1 0 1 (by decide) (by decide)).trans_ne (by decide)
    · assumption
  unfold State.asyncMute
  rw [endTones_frame]
  exact h

theorem discardAll_holdWork (s : State) (p : Nat) : HoldWork s (s.discardAll p) := by
  exact .of_frame rfl (.of_subset (fun _ => List.mem_of_mem_filter) (fun _ => List.mem_of_mem_filter)
    fun _ => List.mem_of_mem_filter)

/-! The checkpoint that comes back (09 R290). -/

/-- From `s` to `t` frames have been written for partition `p`, with their records. -/
structure Restored (s t : State) (p : Nat) : Prop where
  frame : t = { s with
    parts := t.parts, regs := t.regs, fab := t.fab, frames := t.frames, issued := t.issued, loops := t.loops }
  regs : RegsBut s t (recordRegs p)
  part : ∀ q, (s.part q).Kept (t.part q)
  fab : FabKept s.fab t.fab

theorem Restored.refl (s : State) (p : Nat) : Restored s s p := ⟨rfl, fun _ _ => rfl, fun _ => .refl _, .refl _⟩

theorem Restored.trans {a b c : State} {p : Nat} (h1 : Restored a b p) (h2 : Restored b c p) : Restored a c p := by
  refine ⟨?_, fun x hx => (h2.regs x hx).trans (h1.regs x hx), fun q => (h1.part q).trans (h2.part q), h1.fab.trans h2.fab⟩
  rw [h2.frame, h1.frame]

theorem Restored.holdWork {s t : State} {p : Nat} (h : Restored s t p) : HoldWork s t := by
  refine .of_regs ?_ (fun a ha => ?_) (fun a _ => ?_) h.fab
  · rw [h.frame]
  · have := recordRegs_hold (not_imp_comm.1 (h.regs a) ha)
    exact ⟨by unfold HoldReg; omega, fun n hn => by unfold OCH_STAT; omega⟩
  · rw [h.frame]
    rfl

theorem Noted.restored {s t : State} {p : Nat} (h : Noted s t p) : Restored s t p := by
  refine ⟨?_, h.regs, h.part, ?_⟩ <;> rw [h.frame]
  exact .refl _

theorem setIssued_restored (s : State) (p f : Nat) (x : Frame) : Restored s (s.setIssued f x) p :=
  ⟨rfl, fun _ _ => rfl, fun _ => .refl _, .refl _⟩

theorem updLoop_restored (s : State) (p l : Nat) (f : Loop → Loop) : Restored s (s.updLoop l f) p :=
  ⟨rfl, fun _ _ => rfl, fun _ => .refl _, .refl _⟩

theorem putFrame_restored (s : State) (p f i : Nat) (x : Frame) : Restored s (s.putFrame f i x) p := by
  refine ⟨rfl, fun _ _ => rfl, fun _ => .refl _, fun _ => .inl, fun u h => ⟨u, h, rfl⟩, fun w hw => ?_⟩
  obtain ⟨v, hv, rfl⟩ := List.mem_map.1 hw
  refine ⟨v, hv, ?_⟩
  split <;> rfl

theorem forEach_restored {α : Type} {p : Nat} {f : State → α → State} (h : ∀ s x, Restored s (f s x) p) (s : State)
    (l : List α) : Restored s (s.forEach l f) p :=
  forEach_rel (Restored · · p) (.refl · p) (fun _ _ _ => .trans) s l f h

theorem fwNoted_restored (s : State) (p f : Nat) (v : BitVec 48) (i : Nat) : Restored s (s.fwNoted p f v i) p := by
  refine forEach_restored (fun s l => ?_) _ _
  split
  · refine Restored.trans ?_ (updLoop_restored ..)
    exact ((queueRec_queued ..).noted p).restored
  · exact .refl s p

theorem devApply_restored (s : State) (p src f : Nat) (b : Bool) (v : BitVec 48) (i : Nat) :
    Restored s (s.devApply p src f b v i) p := by
  unfold State.devApply
  dsimp only
  refine Restored.trans ?_ (journal_noted ..).restored
  split
  · exact (putFrame_restored ..).trans (fwNoted_restored ..)
  · exact putFrame_restored ..

theorem devWrite_restored (s : State) (p src f : Nat) (b : Bool) (v : BitVec 48) :
    Restored s (s.devWrite p src f b v) p := by
  unfold State.devWrite State.devWriteAt
  refine (setIssued_restored s p f ((s.frameIssued f).dev b v)).trans ?_
  split
  · exact devApply_restored ..
  · exact ⟨rfl, fun _ _ => rfl, fun _ => .refl _, .same rfl rfl rfl⟩

theorem restoreFrames_restored (s : State) (p : Nat) : Restored s (s.restoreFrames p) p := by
  have write : ∀ (s : State) (c : Prop) [Decidable c] (b : Bool) (f : Nat) (v : BitVec 48) (x : Frame),
      Restored s (if c then s else (s.devWrite p 0xFF f b v).setIssued f x) p := by
    intro s c _ b f v x
    split
    · exact .refl s p
    · exact (devWrite_restored ..).trans (setIssued_restored ..)
  refine forEach_restored (fun s f => ?_) _ _
  dsimp only
  refine Restored.trans ?_ (write ..)
  refine Restored.trans ?_ (write ..)
  refine Restored.trans ?_ (setIssued_restored ..)
  exact ⟨rfl, fun _ _ => rfl, fun _ => .refl _, .same rfl rfl rfl⟩

/-- From `s` to `t` only slots of the list have changed. -/
def SlotsOnly (s t : State) (l : List Nat) : Prop := t = { s with slots := t.slots } ∧ ∀ i, i ∉ l → t.slot i = s.slot i

theorem forEach_slotsOnly {l : List Nat} {f : State → Nat → State} (h : ∀ s i, SlotsOnly s (f s i) [i]) (s : State) :
    SlotsOnly s (s.forEach l f) l := by
  refine forEach_rel_mem (R := fun a b => SlotsOnly a b l) (fun _ => ⟨rfl, fun _ _ => rfl⟩) (fun a b c h1 h2 => ⟨?_, fun i hi =>
    (h2.2 i hi).trans (h1.2 i hi)⟩) (fun s i hi => ⟨(h s i).1, fun k hk => (h s i).2 k fun hm => hk ?_⟩) s
  · rw [h2.1, h1.1]
  · rwa [List.mem_singleton.1 hm]

theorem updSlot_slotsOnly (s : State) (i : Nat) (f : Slot → Slot) : SlotsOnly s (s.updSlot i f) [i] :=
  ⟨rfl, fun _ hk => slot_updSlot_ne _ _ (by simpa using hk)⟩

theorem SlotsOnly.holdWork {s t : State} {l : List Nat} (h : SlotsOnly s t l) : HoldWork s t := by
  refine .of_tables ?_
  rw [h.1]

end Sys2Proof.Machine

namespace Sys2Proof.Machine

/-! One stage of entering HOLD. -/

/-- From `s` to `t`, a stage of partition `p`'s entry into HOLD: record keeping apart, partitions, other slots and other
cores are as before, and a core of `p` may have halted. -/
structure HoldStage (s t : State) (p : Nat) : Prop where
  work : HoldWork s t
  part : ∀ q, (s.part q).Kept (t.part q)
  slot : ∀ i, i ∉ s.slotsOf p → t.slot i = s.slot i
  core : ∀ c, t.qtz c = s.qtz c ∨ (c ∈ s.qtzOf p ∧ (t.qtz c).st = .halted)

namespace HoldStage

theorem refl (s : State) (p : Nat) : HoldStage s s p := ⟨.refl s, fun _ => .refl _, fun _ _ => rfl, fun _ => .inl rfl⟩

theorem trans {a b c : State} {p : Nat} (h1 : HoldStage a b p) (h2 : HoldStage b c p) : HoldStage a c p := by
  refine ⟨h1.work.trans h2.work, fun q => (h1.part q).trans (h2.part q), fun i hi => ?_, fun k => ?_⟩
  · exact (h2.slot i (by rwa [h1.work.slotsOf])).trans (h1.slot i hi)
  · rcases h2.core k with h | ⟨h, hst⟩
    · rw [h]
      exact h1.core k
    · exact .inr ⟨h1.work.qtzOf p ▸ h, hst⟩

/-- Work that leaves partitions, slots and cores alone is a stage. -/
theorem of_work {s t : State} {p : Nat} (h : HoldWork s t) (hp : t.parts = s.parts) (hs : t.slots = s.slots)
    (hc : t.cores = s.cores) : HoldStage s t p := by
  refine ⟨h, fun q => ?_, fun i _ => ?_, fun c => .inl ?_⟩
  · have : t.part q = s.part q := by simp only [State.part, hp]
    rw [this]
    exact .refl _
  · simp only [State.slot, hs]
  · simp only [State.qtz, hc]

/-- So is work that keeps records and leaves slots and cores alone. -/
theorem of_kept {s t : State} {p : Nat} (h : HoldWork s t) (hp : ∀ q, (s.part q).Kept (t.part q)) (hs : t.slots = s.slots)
    (hc : t.cores = s.cores) : HoldStage s t p := by
  refine ⟨h, hp, fun i _ => ?_, fun c => .inl ?_⟩
  · simp only [State.slot, hs]
  · simp only [State.qtz, hc]

end HoldStage

theorem forEach_holdStage {α : Type} {p : Nat} {l : List α} {f : State → α → State}
    (h : ∀ s, ∀ x ∈ l, HoldStage s (f s x) p) (s : State) : HoldStage s (s.forEach l f) p :=
  forEach_rel_mem (R := fun a b => HoldStage a b p) (.refl · p) (fun _ _ _ => .trans) h s

theorem Queued.holdStage {s t : State} (h : Queued s t) (p : Nat) : HoldStage s t p :=
  .of_kept h.holdWork h.part (by rw [h.frame]) (by rw [h.frame])

theorem Captured.holdStage {s t : State} (h : Captured s t) (p : Nat) : HoldStage s t p :=
  .of_kept h.holdWork h.part (by rw [h.frame]) (by rw [h.frame])

theorem Restored.holdStage {s t : State} {p : Nat} (h : Restored s t p) : HoldStage s t p :=
  .of_kept h.holdWork h.part (by rw [h.frame]) (by rw [h.frame])

theorem asyncMute_holdStage (s : State) (p : Nat) {n : Nat} (hn : n < 64) : HoldStage s (s.asyncMute n) p :=
  .of_work (asyncMute_holdWork s hn) (by rw [asyncMute_frame]) (by rw [asyncMute_frame]) (by rw [asyncMute_frame])

/-- A list of the partition's own slots changes. -/
theorem SlotsOnly.holdStage {s t : State} {p : Nat} (h : SlotsOnly s t (s.slotsOf p)) : HoldStage s t p := by
  refine ⟨h.holdWork, fun q => ?_, h.2, fun c => .inl ?_⟩
  · have : t.part q = s.part q := by rw [h.1]; rfl
    rw [this]
    exact .refl _
  · rw [h.1]
    rfl

theorem restoreSlots_holdStage (s : State) (p : Nat) : HoldStage s (s.restoreSlots p) p :=
  SlotsOnly.holdStage (forEach_slotsOnly (fun _ _ => updSlot_slotsOnly ..) s)

theorem updGraph_holdStage (s : State) (p q : Nat) (f : Graph → Graph) : HoldStage s (s.updGraph q f) p :=
  .of_work (.of_tables rfl) rfl rfl rfl

theorem rollback_holdStage (s : State) (p : Nat) : HoldStage s (s.rollback p) p := by
  unfold State.rollback
  split
  · exact ((restoreFrames_restored s p).holdStage.trans (restoreSlots_holdStage ..)).trans (updGraph_holdStage ..)
  · exact .refl s p

theorem holdGraph_holdStage (s : State) (p : Nat) : HoldStage s (s.holdGraph p) p := by
  unfold State.holdGraph
  exact updGraph_holdStage ..

theorem micaIdle_holdStage (s : State) (p : Nat) : HoldStage s (s.micaIdle p) p := by
  unfold State.micaIdle
  refine forEach_holdStage (fun _ _ _ => ?_) s
  exact .of_work (.of_tables rfl) rfl rfl rfl

theorem updQtz_holdStage {s : State} {p c : Nat} {f : Core → Core} (hc : c ∈ s.qtzOf p) (hf : (f (s.qtz c)).st = .halted) :
    HoldStage s (s.updQtz c f) p := by
  refine ⟨.of_tables rfl, fun _ => .refl _, fun _ _ => rfl, fun k => ?_⟩
  by_cases hk : k = c
  · subst hk
    exact .inr ⟨hc, by rwa [qtz_updQtz]⟩
  · exact .inl (qtz_updQtz_ne _ _ hk)

theorem haltCores_holdStage (s : State) (p : Nat) : HoldStage s (s.haltCores p) p := by
  unfold State.haltCores
  refine forEach_keeps (P := fun t => HoldStage s t p) (fun t c hc ht => ht.trans ?_) (.refl s p)
  exact updQtz_holdStage (by rwa [ht.work.qtzOf]) rfl

theorem halted_haltCores (s : State) {p c : Nat} (hc : c ∈ s.qtzOf p) : ((s.haltCores p).qtz c).st = .halted := by
  unfold State.haltCores
  refine forEach_reaches (P := fun t => (t.qtz c).st = .halted) hc (fun t => by rw [qtz_updQtz]) (fun t d _ ht => ?_) s
  by_cases h : c = d
  · rw [h, qtz_updQtz]
  · rwa [qtz_updQtz_ne _ _ h]

/-! The bias outputs at HOLD (15 R440). -/

/-- From `s` to `t` only bias output `n` has changed, with its status. -/
structure BiasWork (s t : State) (n : Nat) : Prop where
  frame : t = { s with regs := t.regs, biases := t.biases }
  regs : RegsBut s t [BIAS_STAT n]
  bias : ∀ k, k ≠ n → t.bias k = s.bias k

namespace BiasWork

theorem refl (s : State) (n : Nat) : BiasWork s s n := ⟨rfl, fun _ _ => rfl, fun _ _ => rfl⟩

theorem trans {a b c : State} {n : Nat} (h1 : BiasWork a b n) (h2 : BiasWork b c n) : BiasWork a c n := by
  refine ⟨?_, fun x hx => (h2.regs x hx).trans (h1.regs x hx), fun k hk => (h2.bias k hk).trans (h1.bias k hk)⟩
  rw [h2.frame, h1.frame]

theorem updBias (s : State) (n : Nat) (f : Bias → Bias) : BiasWork s (s.updBias n f) n :=
  ⟨rfl, fun _ _ => rfl, fun _ hk => bias_updBias_ne _ _ hk⟩

theorem setFld (s : State) (n hi lo v : Nat) : BiasWork s (s.setFld (BIAS_STAT n) hi lo v) n :=
  ⟨rfl, fun _ ha => reg_setFld_ne s _ _ _ (by simpa using ha), fun _ _ => rfl⟩

theorem setBiasState (s : State) (n v : Nat) : BiasWork s (s.setBiasState n v) n := setFld s n 2 0 v

theorem setBit (s : State) (n i : Nat) (b : Bool) : BiasWork s (s.setBit (BIAS_STAT n) i b) n := setFld s n i i _

theorem biasClamp (s : State) (n : Nat) : BiasWork s (s.biasClamp n) n :=
  ((updBias s n _).trans (setBiasState ..)).trans (setBit ..)

theorem biasAim (s : State) (n : Nat) (v : Int) (f : Nat) : BiasWork s (s.biasAim n v f) n := by
  unfold State.biasAim
  dsimp only
  split
  · exact updBias ..
  · split
    · exact (updBias ..).trans (setBiasState ..)
    · split
      · exact updBias ..
      · exact (updBias ..).trans (setBiasState ..)

theorem biasWrite (s : State) (n code f : Nat) : BiasWork s (s.biasWrite n code f) n := by
  have span : ∀ (c : Bool) (v : Nat), BiasWork s (if c then s.setFld (BIAS_STAT n) 4 3 v else s) n := fun c v => by
    split
    · exact setFld ..
    · exact refl s n
  unfold State.biasWrite
  dsimp only
  split
  · exact refl s n
  · split
    · exact updBias ..
    · have h := span ((s.bias n).changing && s.biasState n == bClamped) (s.bias n).spanTo
      generalize (if ((s.bias n).changing && s.biasState n == bClamped) = true then _ else s) = s1 at h ⊢
      refine h.trans ?_
      split
      · exact (((updBias ..).trans (setBit ..)).trans (setBiasState ..)).trans (biasAim ..)
      · exact biasAim ..

theorem biasToClamp (s : State) (n f : Nat) : BiasWork s (s.biasToClamp n f) n := by
  unfold State.biasToClamp
  split
  · exact refl s n
  · split
    · exact biasClamp ..
    · exact (updBias ..).trans (setBiasState ..)

theorem biasDefault (s : State) (n : Nat) : BiasWork s (s.biasDefault n) n := by
  unfold State.biasDefault
  split
  · exact updBias ..
  · split
    · exact refl s n
    · split
      · exact biasWrite ..
      · exact biasToClamp ..

theorem holdWork {s t : State} {n : Nat} (h : BiasWork s t n) (hn : n < 128) : HoldWork s t := by
  refine .of_regs ?_ (fun a ha => ?_) (fun a _ => ?_) ?_
  · rw [h.frame]
  · obtain rfl : a = BIAS_STAT n := by simpa using not_imp_comm.1 (h.regs a) ha
    exact ⟨by unfold HoldReg BIAS_STAT; omega, fun k hk => by unfold BIAS_STAT OCH_STAT; omega⟩
  · rw [h.frame]
    rfl
  · rw [h.frame]
    exact .refl _

theorem holdStage {s t : State} {n : Nat} (h : BiasWork s t n) (hn : n < 128) (p : Nat) : HoldStage s t p :=
  .of_work (h.holdWork hn) (by rw [h.frame]) (by rw [h.frame]) (by rw [h.frame])

end BiasWork

theorem biasHold_holdStage (s : State) (p : Nat) (drop : Bool) : HoldStage s (s.biasHold p drop) p := by
  refine forEach_holdStage (fun s n hn => ?_) s
  have hn := (mem_biasesOf hn).1
  have drops : BiasWork s (if drop then s.updBias n fun b => { b with events := [] } else s) n := by
    split
    · exact .updBias ..
    · exact .refl s n
  have rest : ∀ t : State, BiasWork t (if t.bit (BIAS_CFG n) 5 then t.biasDefault n else t) n := fun t => by
    split
    · exact .biasDefault ..
    · exact .refl t n
  exact (drops.trans (rest _)).holdStage hn p

end Sys2Proof.Machine

namespace Sys2Proof.Machine

/-! Entering HOLD at once, stage by stage (01 R32). -/

/-- Partition `p`'s events, pulses, windows and the units of its windows go. -/
def State.holdDiscard (s : State) (p : Nat) : State :=
  let gone := (s.fab.wins.filter (·.part == p)).map (·.id)
  (s.discardAll p).updFab fun b => { b with units := b.units.filter fun u => !gone.contains u.1 }

/-- The attempt and what waited for the boundary are over. -/
def State.holdClear (s : State) (p : Nat) : State :=
  s.updPart p fun q => { q with
    attempt := {}, probe := none, probeActs := [], barrierTl := [], barrierOwed := [], replay := false, holdReq := none
    cold := [] }

/-- Cores halt, Mica cores stop, captures end, channels mute and bias outputs go to their defaults. -/
def State.holdOutputs (s : State) (p : Nat) : State :=
  let s := ((s.haltCores p).micaIdle p).captureHold p
  let s := s.forEach (s.slotsOf p) fun s i => s.updSlot i fun x => { x with queue := [] }
  let s := s.forEach (s.ochsOf p) fun s n => s.asyncMute n
  s.biasHold p true

/-- Yields, loans and the records of the occurrence are written. -/
def State.holdRecords (s : State) (p : Nat) (recs : List Rec) : State :=
  ((s.flushYields p).flushLoans p).forEach recs fun s r => s.queueRec p r

/-- The job ends, without a completion record where a reset ends it. -/
def State.holdJob (s : State) (p : Nat) (cause : HoldCause) : State :=
  if cause = .reset then s.updPart p fun q => { q with job := none } else s.completeJob p 2 (causeCode cause)

/-- The partition is in HOLD for `cause`. -/
def State.holdMark (s : State) (p : Nat) (cause : HoldCause) : State :=
  let s := s.updPart p fun q => { q with resumeNeeded := q.resumeNeeded || needsResume cause, holdAt := s.now }
  (s.setMode p .hold).setCause p cause

theorem enterHold_of_ne {s : State} {p : Nat} (h : (s.part p).mode ≠ .hold) (c : HoldCause) (l : List Rec) :
    s.enterHold p c l =
      let a := (if c = .trip then s.tripVerdict p else s).holdDiscard p
      let b := if (s.part p).attempt.active then a.rollback p else a.holdGraph p
      ((((b.holdClear p).holdOutputs p).holdRecords p l).holdJob p c).holdMark p c := by
  unfold State.enterHold
  rw [if_neg h]
  rfl

theorem updFab_units_holdStage (s : State) (p : Nat) (f : Fab → List (Nat × Nat × Result)) :
    HoldStage s (s.updFab fun b => { b with units := f b }) p :=
  .of_work (.of_frame rfl (.same rfl rfl rfl)) rfl rfl rfl

theorem discardAll_holdStage (s : State) (p : Nat) : HoldStage s (s.discardAll p) p :=
  .of_work (discardAll_holdWork s p) rfl rfl rfl

theorem holdDiscard_holdStage (s : State) (p : Nat) : HoldStage s (s.holdDiscard p) p :=
  let gone := (s.fab.wins.filter fun w : Window => w.part == p).map Window.id
  (discardAll_holdStage s p).trans (updFab_units_holdStage _ p fun b => b.units.filter fun u => !gone.contains u.1)

/-- In the fabric, partition `p` has only mutes. -/
structure Fab.FreeOf (b : Fab) (p : Nat) : Prop where
  events : ∀ e ∈ b.events, e.part = p → e.isMute = true
  pulses : ∀ u ∈ b.pulses, u.part ≠ p
  wins : ∀ w ∈ b.wins, w.part ≠ p

theorem Fab.FreeOf.kept {a b : Fab} {p : Nat} (h : a.FreeOf p) (hk : FabKept a b) : b.FreeOf p := by
  refine ⟨fun e he hp => (hk.events e he).elim (h.events e · hp) id, fun u hu => ?_, fun w hw => ?_⟩
  · obtain ⟨v, hv, hp⟩ := hk.pulses u hu
    exact hp ▸ h.pulses v hv
  · obtain ⟨v, hv, hp⟩ := hk.wins w hw
    exact hp ▸ h.wins v hv

theorem discardAll_freeOf (s : State) (p : Nat) : (s.discardAll p).fab.FreeOf p := by
  refine ⟨fun e he hp => ?_, fun u hu => by simpa using (List.mem_filter.1 hu).2, fun w hw => by
    simpa using (List.mem_filter.1 hw).2⟩
  have := (List.mem_filter.1 he).2
  simp only [hp, bne_self_eq_false, Bool.false_or] at this
  exact this

theorem holdDiscard_freeOf (s : State) (p : Nat) : (s.holdDiscard p).fab.FreeOf p :=
  (discardAll_freeOf s p).kept (.of_subset (fun _ => id) (fun _ => id) fun _ => id)

theorem HoldStage.halted {s t : State} {p c : Nat} (h : HoldStage s t p) (hc : (s.qtz c).st = .halted) :
    (t.qtz c).st = .halted := by
  rcases h.core c with h | ⟨-, h⟩
  · rwa [h]
  · exact h

theorem HoldWork.och_ne {s t : State} (h : HoldWork s t) {n : Nat} (hn : n < 64) (hs : s.ochState n ≠ 2) :
    t.ochState n ≠ 2 := by
  have := h.och n hn
  omega

theorem muteAll_holdStage (s : State) (p : Nat) :
    HoldStage s (s.forEach (s.ochsOf p) State.asyncMute) p ∧
      ∀ n ∈ s.ochsOf p, (s.forEach (s.ochsOf p) State.asyncMute).ochState n ≠ 2 := by
  refine ⟨forEach_holdStage (fun t n hn => asyncMute_holdStage t p (mem_ochsOf hn).1) s, fun n hn => ?_⟩
  exact forEach_reaches (P := fun t => t.ochState n ≠ 2) hn (fun t => ochState_asyncMute t n)
    (fun t k hk ht => (asyncMute_holdWork t (mem_ochsOf hk).1).och_ne (mem_ochsOf hn).1 ht) s

theorem emptySlots_holdStage (s : State) (p : Nat) :
    HoldStage s (s.forEach (s.slotsOf p) fun s i => s.updSlot i fun x => { x with queue := [] }) p :=
  SlotsOnly.holdStage (forEach_slotsOnly (fun _ _ => updSlot_slotsOnly ..) s)

theorem holdOutputs_holdStage (s : State) (p : Nat) : HoldStage s (s.holdOutputs p) p ∧
    (∀ c ∈ s.qtzOf p, ((s.holdOutputs p).qtz c).st = .halted) ∧ ∀ n ∈ s.ochsOf p, (s.holdOutputs p).ochState n ≠ 2 := by
  unfold State.holdOutputs
  have halts := haltCores_holdStage s p
  have halted := fun c => halted_haltCores s (p := p) (c := c)
  generalize s.haltCores p = a at halts halted ⊢
  have stops := (micaIdle_holdStage a p).trans ((captureHold_captured _ p).holdStage p)
  generalize (a.micaIdle p).captureHold p = b at stops ⊢
  have empties := emptySlots_holdStage b p
  dsimp only
  generalize b.forEach (b.slotsOf p) _ = d at empties ⊢
  obtain ⟨mutes, muted⟩ := muteAll_holdStage d p
  generalize d.forEach (d.ochsOf p) _ = e at mutes muted ⊢
  have ends := biasHold_holdStage e p true
  have fromHalt := ((stops.trans empties).trans mutes).trans ends
  have och : d.ochsOf p = s.ochsOf p := ((halts.trans stops).trans empties).work.ochsOf p
  exact ⟨halts.trans fromHalt, fun c hc => fromHalt.halted (halted c hc),
    fun n hn => ends.work.och_ne (mem_ochsOf hn).1 (muted n (och ▸ hn))⟩

theorem holdRecords_queued (s : State) (p : Nat) (l : List Rec) : Queued s (s.holdRecords p l) :=
  ((flushYields_queued ..).trans (flushLoans_queued ..)).trans (forEach_queued _ _ _ fun _ _ => queueRec_queued ..)

/-- From `s` to `t` only partition `p` has changed, record keeping apart, and of the rest only what interrupts it. -/
structure PartOnly (s t : State) (p : Nat) : Prop where
  frame : t = { s with parts := t.parts, irq := t.irq }
  others : ∀ q, q ≠ p → (s.part q).Kept (t.part q)

theorem PartOnly.refl (s : State) (p : Nat) : PartOnly s s p := ⟨rfl, fun _ _ => .refl _⟩

theorem PartOnly.trans {a b c : State} {p : Nat} (h1 : PartOnly a b p) (h2 : PartOnly b c p) : PartOnly a c p := by
  refine ⟨?_, fun q hq => (h1.others q hq).trans (h2.others q hq)⟩
  rw [h2.frame, h1.frame]

theorem PartOnly.updPart (s : State) (p : Nat) (f : Part → Part) : PartOnly s (s.updPart p f) p :=
  ⟨rfl, fun q hq => by rw [part_updPart_ne _ _ hq]; exact .refl _⟩

theorem Queued.partOnly {s t : State} (h : Queued s t) (p : Nat) : PartOnly s t p := by
  refine ⟨?_, fun q _ => h.part q⟩
  rw [h.frame]

theorem PartOnly.holdWork {s t : State} {p : Nat} (h : PartOnly s t p) : HoldWork s t := by
  refine .of_tables ?_
  rw [h.frame]

theorem irqEvent_frame (s : State) (f v : Nat) : s.irqEvent f v = { s with irq := (s.irqEvent f v).irq } := by
  exact iteInduction (motive := fun t : State => t = { s with irq := t.irq }) (fun _ => rfl) fun _ =>
    iteInduction (motive := fun t : State => t = { s with irq := t.irq }) (fun _ => rfl) fun _ => rfl

@[simp] theorem part_irqEvent (s : State) (f v p : Nat) : (s.irqEvent f v).part p = s.part p := by
  rw [irqEvent_frame]
  rfl

theorem irqEvent_partOnly (s : State) (f v p : Nat) : PartOnly s (s.irqEvent f v) p := by
  refine ⟨?_, fun q _ => by rw [part_irqEvent]; exact .refl _⟩
  rw [irqEvent_frame]

theorem setMode_partOnly (s : State) (p : Nat) (m : PMode) : PartOnly s (s.setMode p m) p := by
  unfold State.setMode
  split
  · exact .refl s p
  · exact (PartOnly.updPart ..).trans (irqEvent_partOnly ..)

theorem setCause_partOnly (s : State) (p : Nat) (c : HoldCause) : PartOnly s (s.setCause p c) p := by
  unfold State.setCause
  split
  · exact .refl s p
  · exact (PartOnly.updPart ..).trans (irqEvent_partOnly ..)

theorem part_setMode (s : State) (p : Nat) (m : PMode) : (s.setMode p m).part p = { s.part p with mode := m } := by
  unfold State.setMode
  split
  · rename_i h
    rw [← h]
  · simp

theorem part_setCause (s : State) (p : Nat) (c : HoldCause) : (s.setCause p c).part p = { s.part p with cause := c } := by
  unfold State.setCause
  split
  · rename_i h
    rw [← h]
  · simp

theorem holdMark_partOnly (s : State) (p : Nat) (c : HoldCause) : PartOnly s (s.holdMark p c) p :=
  ((PartOnly.updPart ..).trans (setMode_partOnly ..)).trans (setCause_partOnly ..)

theorem part_holdMark (s : State) (p : Nat) (c : HoldCause) : (s.holdMark p c).part p =
    { s.part p with resumeNeeded := (s.part p).resumeNeeded || needsResume c, holdAt := s.now, mode := .hold, cause := c } := by
  unfold State.holdMark
  rw [part_setCause, part_setMode, part_updPart]

/-- The records that the end of a job writes. -/
theorem completeJob_queued (s : State) (p st d : Nat) : ∃ u, Queued s u ∧
    (s.completeJob p st d = s ∧ (s.part p).job = none ∨
      ∃ j : Job, s.completeJob p st d = u.updPart p fun q =>
        { q with job := none, notifies := if j.notify then q.notifies ++ [j.num] else q.notifies }) := by
  unfold State.completeJob
  split
  · rename_i h
    exact ⟨s, .refl s, .inl ⟨rfl, h⟩⟩
  · rename_i j _
    refine ⟨_, ?_, .inr ⟨j, rfl⟩⟩
    refine Queued.trans ?_ (queueRec_queued ..)
    refine (flushYields_queued s p).trans ?_
    split
    · exact .refl _
    · exact queueRec_queued ..

/-- After the end of its job a partition has none. -/
theorem completeJob_partOnly (s : State) (p st d : Nat) : PartOnly s (s.completeJob p st d) p ∧
    ((s.completeJob p st d).part p).job = none ∧
    (s.part p).Kept { (s.completeJob p st d).part p with job := (s.part p).job, notifies := (s.part p).notifies } := by
  obtain ⟨u, hu, ⟨he, hj⟩ | ⟨j, he⟩⟩ := completeJob_queued s p st d
  · rw [he]
    exact ⟨.refl s p, hj, .refl _⟩
  · rw [he]
    refine ⟨(hu.partOnly p).trans (.updPart ..), by rw [part_updPart], ?_⟩
    rw [part_updPart]
    have h := hu.part p
    exact ⟨by rw [h.rest], h.taints⟩

end Sys2Proof.Machine

namespace Sys2Proof.Machine

/-- From `s` to `t`, partition `p` on its way into HOLD: as a stage, but the attempt, the job and what waits for the
boundary may end. -/
structure HoldCourse (s t : State) (p : Nat) : Prop where
  work : HoldWork s t
  others : ∀ q, q ≠ p → (s.part q).Kept (t.part q)
  slot : ∀ i, i ∉ s.slotsOf p → t.slot i = s.slot i
  core : ∀ c, t.qtz c = s.qtz c ∨ (c ∈ s.qtzOf p ∧ (t.qtz c).st = .halted)

theorem HoldStage.course {s t : State} {p : Nat} (h : HoldStage s t p) : HoldCourse s t p :=
  ⟨h.work, fun q _ => h.part q, h.slot, h.core⟩

namespace HoldCourse

theorem refl (s : State) (p : Nat) : HoldCourse s s p := (HoldStage.refl s p).course

theorem trans {a b c : State} {p : Nat} (h1 : HoldCourse a b p) (h2 : HoldCourse b c p) : HoldCourse a c p := by
  refine ⟨h1.work.trans h2.work, fun q hq => (h1.others q hq).trans (h2.others q hq), fun i hi => ?_, fun k => ?_⟩
  · exact (h2.slot i (by rwa [h1.work.slotsOf])).trans (h1.slot i hi)
  · rcases h2.core k with h | ⟨h, hst⟩
    · rw [h]
      exact h1.core k
    · exact .inr ⟨h1.work.qtzOf p ▸ h, hst⟩

theorem halted {s t : State} {p c : Nat} (h : HoldCourse s t p) (hc : (s.qtz c).st = .halted) : (t.qtz c).st = .halted := by
  rcases h.core c with h | ⟨-, h⟩
  · rwa [h]
  · exact h

end HoldCourse

theorem PartOnly.course {s t : State} {p : Nat} (h : PartOnly s t p) : HoldCourse s t p := by
  refine ⟨h.holdWork, h.others, fun i _ => ?_, fun c => .inl ?_⟩ <;> rw [h.frame] <;> rfl

/-- A register of Strata's partition counters is written. -/
theorem setN_strata_course (s : State) (p a v : Nat) (h1 : 0x220100 ≤ a) (h2 : a < 0x240000) : HoldCourse s (s.setN a v) p := by
  have h : HoldWork s (s.setN a v) := by
    refine .of_regs rfl (fun b hb => ?_) (fun _ _ => rfl) (.refl _)
    obtain rfl : b = a := not_imp_comm.1 (reg_setN_ne s v) hb
    exact ⟨by unfold HoldReg; omega, fun n hn => by unfold OCH_STAT; omega⟩
  exact (HoldStage.of_work h rfl rfl rfl).course

theorem Noted.holdStage {s t : State} {p : Nat} (h : Noted s t p) : HoldStage s t p := h.restored.holdStage

@[simp] theorem part_maxReg (s : State) (a v p : Nat) : (s.maxReg a v).part p = s.part p := by
  unfold State.maxReg
  split
  · rw [part_setN]
  · rfl

theorem maxReg_strata_course (s : State) (p a v : Nat) (h1 : 0x220100 ≤ a) (h2 : a < 0x240000) :
    HoldCourse s (s.maxReg a v) p := by
  unfold State.maxReg
  split
  · exact setN_strata_course s p a v h1 h2
  · exact .refl s p

/-- The taint and the VERDICT entry of an attempt that a trip ends. -/
def State.tripNotes (s : State) (p : Nat) : State :=
  let a := (s.part p).attempt
  let tag := mkTag s.now 0 p a.shotNo 0 3 true false false false a.num
  let s := s.taintAtt p 7 0xFF (resource 0 0) 0 tag
  let e := a.e.getD s.now
  (s.jappend p (jentry 8 2 7 a.shotNo tag (lo32 e) (hi32 e) (lo32 s.now) (hi32 s.now))).1

theorem tripNotes_noted (s : State) (p : Nat) : Noted s (s.tripNotes p) p := (taintAtt_noted ..).trans (jappend_noted ..)

/-- The attempt that a trip has ended counts as failed. -/
def State.tripCounts (s : State) (p : Nat) : State :=
  let s := (s.maxReg (STRATA_JMAX p) (s.part p).attempt.entries).updAtt p fun a => { a with active := false }
  ((s.inc (STRATA_FAILS p)).inc (STRATA_CAUSECNT p 7)).updJob p fun j => { j with failedShots := j.failedShots + 1 }

theorem tripVerdict_eq (s : State) (p : Nat) : s.tripVerdict p =
    if (s.part p).attempt.active && (s.part p).probe.isNone then (s.tripNotes p).tripCounts p else s := rfl

theorem tripCounts_course (s : State) {p : Nat} (hp : p < 8) : HoldCourse s (s.tripCounts p) p := by
  unfold State.tripCounts
  refine HoldCourse.trans ?_ (PartOnly.updPart ..).course
  refine HoldCourse.trans ?_ (setN_strata_course _ p _ _ (by unfold STRATA_CAUSECNT; omega) (by unfold STRATA_CAUSECNT; omega))
  refine HoldCourse.trans ?_ (setN_strata_course _ p _ _ (by unfold STRATA_FAILS; omega) (by unfold STRATA_FAILS; omega))
  refine HoldCourse.trans ?_ (PartOnly.updPart ..).course
  exact maxReg_strata_course _ p _ _ (by unfold STRATA_JMAX; omega) (by unfold STRATA_JMAX; omega)

theorem tripVerdict_course (s : State) {p : Nat} (hp : p < 8) : HoldCourse s (s.tripVerdict p) p ∧
    ((s.tripVerdict p).part p).resumeNeeded = (s.part p).resumeNeeded := by
  rw [tripVerdict_eq]
  split
  · have notes := tripNotes_noted s p
    refine ⟨notes.holdStage.course.trans (tripCounts_course _ hp), ?_⟩
    rw [← (notes.part p).resumeNeeded]
    simp [State.tripCounts, State.updJob, State.updAtt]
  · exact ⟨.refl s p, rfl⟩

theorem holdClear_course (s : State) (p : Nat) : HoldCourse s (s.holdClear p) p := by
  unfold State.holdClear
  exact (PartOnly.updPart ..).course

theorem holdJob_partOnly (s : State) (p : Nat) (c : HoldCause) : PartOnly s (s.holdJob p c) p ∧
    ((s.holdJob p c).part p).job = none ∧
    (s.part p).Kept { (s.holdJob p c).part p with job := (s.part p).job, notifies := (s.part p).notifies } := by
  unfold State.holdJob
  split
  · refine ⟨.updPart .., ?_, ?_⟩ <;> rw [part_updPart]
    exact .refl _
  · exact completeJob_partOnly s p 2 _

/-- From `s` to `t` partition `p` has entered HOLD for `c`, at once or at a boundary. -/
structure Held (s t : State) (p : Nat) (c : HoldCause) : Prop extends HoldCourse s t p where
  halted : ∀ k ∈ s.qtzOf p, (t.qtz k).st = .halted
  mode : (t.part p).mode = .hold
  cause : (t.part p).cause = c
  job : (t.part p).job = none
  active : (t.part p).attempt.active = false
  holdReq : (t.part p).holdReq = none
  holdAt : (t.part p).holdAt = s.now
  resume : (t.part p).resumeNeeded = ((s.part p).resumeNeeded || needsResume c)

theorem HoldCourse.qtz_ne {s t : State} {p k : Nat} (h : HoldCourse s t p) (hk : k ∉ s.qtzOf p) : t.qtz k = s.qtz k :=
  (h.core k).resolve_right fun h => hk h.1

/-- What entering HOLD at once leaves (01 R32). -/
structure EnteredHold (s t : State) (p : Nat) (c : HoldCause) : Prop extends Held s t p c where
  muted : ∀ n ∈ s.ochsOf p, t.ochState n ≠ 2
  fab : t.fab.FreeOf p

theorem enterHold_entered {s : State} {p : Nat} (hp : p < 8) (hm : (s.part p).mode ≠ .hold) (c : HoldCause) (l : List Rec) :
    EnteredHold s (s.enterHold p c l) p c := by
  have verdict : HoldCourse s (if c = .trip then s.tripVerdict p else s) p ∧
      ((if c = .trip then s.tripVerdict p else s).part p).resumeNeeded = (s.part p).resumeNeeded := by
    split
    · exact tripVerdict_course s hp
    · exact ⟨.refl s p, rfl⟩
  rw [enterHold_of_ne hm]
  dsimp only
  generalize (if c = .trip then s.tripVerdict p else s) = v at verdict ⊢
  have discards := holdDiscard_holdStage v p
  have free := holdDiscard_freeOf v p
  generalize v.holdDiscard p = a at discards free ⊢
  have restores : HoldStage a (if (s.part p).attempt.active then a.rollback p else a.holdGraph p) p := by
    split
    · exact rollback_holdStage a p
    · exact holdGraph_holdStage a p
  generalize (if (s.part p).attempt.active then a.rollback p else a.holdGraph p) = b at restores ⊢
  have clears := holdClear_course b p
  have cleared : (b.holdClear p).part p = _ := part_updPart ..
  generalize b.holdClear p = d at clears cleared ⊢
  obtain ⟨outputs, halted, muted⟩ := holdOutputs_holdStage d p
  generalize d.holdOutputs p = e at outputs halted muted ⊢
  have records := (holdRecords_queued e p l).holdStage p
  generalize e.holdRecords p l = f at records ⊢
  obtain ⟨ends, job, keptJob⟩ := holdJob_partOnly f p c
  generalize f.holdJob p c = g at ends job keptJob ⊢
  have marks := holdMark_partOnly g p c
  have hpart := part_holdMark g p c
  generalize g.holdMark p c = t at marks hpart ⊢
  have fromOutputs : HoldCourse e t p := (records.course.trans ends.course).trans marks.course
  have fromDiscard : HoldWork a t := ((restores.work.trans clears.work).trans outputs.work).trans fromOutputs.work
  have toClear : HoldCourse s d p := ((verdict.1.trans discards.course).trans restores.course).trans clears
  have all : HoldCourse s t p := (toClear.trans outputs.course).trans fromOutputs
  have och : d.ochsOf p = s.ochsOf p := toClear.work.ochsOf p
  have qtz : d.qtzOf p = s.qtzOf p := toClear.work.qtzOf p
  have toMark : HoldWork s g := (toClear.work.trans outputs.work).trans (records.work.trans ends.holdWork)
  have kept := ((outputs.trans records).part p).trans keptJob
  refine ⟨⟨all, fun k hk => fromOutputs.halted (halted k (qtz ▸ hk)), ?_, ?_, ?_, ?_, ?_, ?_, ?_⟩,
    fun n hn => fromOutputs.work.och_ne (mem_ochsOf hn).1 (muted n (och ▸ hn)), free.kept fromDiscard.fab⟩ <;> rw [hpart]
  · exact job
  · exact kept.active.trans (by rw [cleared])
  · exact kept.holdReq.trans (by rw [cleared])
  · exact toMark.now
  · rw [kept.resumeNeeded.trans (by rw [cleared]), (restores.part p).resumeNeeded, (discards.part p).resumeNeeded, verdict.2]

/-! A trigger while the partition is in HOLD (01 R33). -/

theorem enterHold_hold {s : State} {p : Nat} (hm : (s.part p).mode = .hold) (c : HoldCause) :
    s.enterHold p c [] = if (s.part p).holdAt = s.now ∧ holdRank c < holdRank (s.part p).cause then
      (s.setCause p c).updPart p fun q => { q with resumeNeeded := q.resumeNeeded || needsResume c } else s := by
  unfold State.enterHold
  rw [if_pos hm]
  rfl

end Sys2Proof.Machine

namespace Sys2Proof.Machine

/-- A trigger that ranks above the cause of a HOLD of this tick becomes its cause, and nothing else changes. -/
theorem enterHold_outranks {s : State} {p : Nat} {c : HoldCause} (hm : (s.part p).mode = .hold) (ht : (s.part p).holdAt = s.now)
    (hr : holdRank c < holdRank (s.part p).cause) :
    PartOnly s (s.enterHold p c []) p ∧ PartsBut s (s.enterHold p c []) [p] ∧ (s.enterHold p c []).part p =
      { s.part p with cause := c, resumeNeeded := (s.part p).resumeNeeded || needsResume c } := by
  rw [enterHold_hold hm, if_pos ⟨ht, hr⟩]
  refine ⟨(setCause_partOnly ..).trans (.updPart ..), fun q hq => ?_, ?_⟩
  · rw [part_updPart_ne _ _ (by simpa using hq)]
    unfold State.setCause
    split
    · rfl
    · rw [part_irqEvent, part_updPart_ne _ _ (by simpa using hq)]
  · rw [part_updPart, part_setCause]

theorem enterHold_outranked {s : State} {p : Nat} {c : HoldCause} (hm : (s.part p).mode = .hold)
    (h : ¬ ((s.part p).holdAt = s.now ∧ holdRank c < holdRank (s.part p).cause)) : s.enterHold p c [] = s := by
  rw [enterHold_hold hm, if_neg h]

/-- Settles O35, by what each stage of the entry leaves. -/
theorem enteringHold : Obligations.EnteringHold := by
  intro s p c l
  refine ⟨fun hm hl => ?_, by decide, fun hm => ?_⟩
  · subst hl
    refine ⟨fun ht hr => ?_, fun h => enterHold_outranked hm fun hn => ?_⟩
    · obtain ⟨only, but, hp⟩ := enterHold_outranks hm ht hr
      rw [hp]
      exact ⟨rfl, hm, by simp, but, only.frame⟩
    · omega
  · have h := enterHold_entered p.isLt hm c l
    refine ⟨h.mode, h.cause, h.job, h.active, h.holdAt, by rw [h.resume, Bool.or_eq_true], h.fab.events, h.fab.pulses,
      h.fab.wins, h.halted, fun k hk => h.toHeld.toHoldCourse.qtz_ne hk, fun n hn h2 => ?_, fun q hq => ⟨(h.others q hq).mode, (h.others q hq).job⟩⟩
    have := h.work.och n (mem_ochsOf hn).1
    have := h.muted n hn
    omega

end Sys2Proof.Machine

namespace Sys2Proof.Machine

/-! Entering HOLD at a boundary (01 R29; 13 R407). -/

theorem addDevice_mute_holdWork (s : State) (e : Event) (h : e.isMute = true) : HoldWork s (s.addDevice e) := by
  refine .of_frame rfl ⟨fun x hx => ?_, fun u hu => ⟨u, hu, rfl⟩, fun w hw => ⟨w, hw, rfl⟩⟩
  rcases List.mem_append.1 hx with hx | hx
  · exact .inl hx
  · rw [List.mem_singleton.1 hx]
    exact .inr h

theorem scheduleMutes_holdStage (s : State) (p t : Nat) : HoldStage s (s.scheduleMutes p t) p := by
  refine forEach_holdStage (fun s n _ => ?_) s
  exact .of_work (addDevice_mute_holdWork s _ rfl) rfl rfl rfl

theorem garnetClose_holdStage (s : State) {p : Nat} (hp : p < 8) : HoldStage s (s.garnetClose p) p := by
  have counts : HoldWork s (s.inc (GARNET_ERR p)) := by
    refine .of_regs rfl (fun b hb => ?_) (fun _ _ => rfl) (.refl _)
    obtain rfl : b = GARNET_ERR p := not_imp_comm.1 (reg_inc_ne s 1) hb
    exact ⟨by unfold HoldReg GARNET_ERR; omega, fun n hn => by unfold OCH_STAT GARNET_ERR; omega⟩
  unfold State.garnetClose
  refine HoldStage.trans ?_ (updGraph_holdStage _ p p _)
  split
  · exact .refl s p
  · exact .of_work counts rfl rfl rfl

/-- The job of partition `p` ends, its tones end with the mutes, its cores halt and its captures end. -/
def State.boundaryOutputs (s : State) (p t : Nat) : State :=
  let s := s.scheduleMutes p t
  let s := s.forEach (s.fab.pulses.filter fun u => u.part == p && u.isOpen) fun s u =>
    (s.endPulse u.id true).updPulse u.id fun u => { u with rsvTo := some (t + 2) }
  (s.haltCores p).captureHold p

/-- What the boundary ends in partition `p`. -/
def State.boundaryClear (s : State) (p : Nat) (c : HoldCause) : State :=
  s.updPart p fun q => { q with
    attempt := {}, probe := none, probeActs := [], barrierTl := [], barrierOwed := [], replay := false,
    holdReq := none, cold := []
    holdAt := s.now
    resumeNeeded := q.resumeNeeded || needsResume c }

theorem holdBoundary_some (s : State) (p t : Nat) (c : HoldCause) :
    s.holdBoundary p t (some c) =
      ((((((((s.completeJob p 2 (causeCode c)).garnetClose p).boundaryOutputs p t).boundaryClear p c).dropPins
        (coldUser p)).trimPages).biasHold p false).setMode p .hold).setCause p c := rfl

theorem boundaryOutputs_holdStage (s : State) (p t : Nat) : HoldStage s (s.boundaryOutputs p t) p ∧
    ∀ c ∈ s.qtzOf p, ((s.boundaryOutputs p t).qtz c).st = .halted := by
  unfold State.boundaryOutputs
  have mutes := scheduleMutes_holdStage s p t
  generalize s.scheduleMutes p t = a at mutes ⊢
  have tones : HoldStage a (a.forEach (a.fab.pulses.filter fun u => u.part == p && u.isOpen) fun s u =>
      (s.endPulse u.id true).updPulse u.id fun u => { u with rsvTo := some (t + 2) }) p := by
    refine forEach_holdStage (fun s u _ => ?_) a
    exact .of_work ((endPulse_holdWork s u.id true).trans (updPulse_holdWork _ _ _ (by intro; rfl))) rfl rfl rfl
  dsimp only
  generalize a.forEach _ _ = b at tones ⊢
  have halts := haltCores_holdStage b p
  have halted := fun c => halted_haltCores b (p := p) (c := c)
  generalize b.haltCores p = d at halts halted ⊢
  have ends := (captureHold_captured d p).holdStage p
  have toHalt := mutes.trans tones
  have qtz : b.qtzOf p = s.qtzOf p := toHalt.work.qtzOf p
  exact ⟨(toHalt.trans halts).trans ends, fun c hc => ends.halted (halted c (qtz ▸ hc))⟩

theorem dropPins_trimPages_holdStage (s : State) (p u : Nat) : HoldStage s (s.dropPins u).trimPages p :=
  .of_work (.of_tables rfl) rfl rfl rfl

theorem holdBoundary_held {s : State} {p : Nat} (hp : p < 8) (t : Nat) (c : HoldCause) :
    Held s (s.holdBoundary p t (some c)) p c := by
  rw [holdBoundary_some]
  obtain ⟨ends, job, keptJob⟩ := completeJob_partOnly s p 2 (causeCode c)
  generalize s.completeJob p 2 (causeCode c) = a at ends job keptJob ⊢
  have closes := garnetClose_holdStage a hp
  generalize a.garnetClose p = b at closes ⊢
  obtain ⟨outputs, halted⟩ := boundaryOutputs_holdStage b p t
  generalize b.boundaryOutputs p t = d at outputs halted ⊢
  have clears : PartOnly d (d.boundaryClear p c) p := .updPart ..
  have cleared : (d.boundaryClear p c).part p = _ := part_updPart ..
  generalize d.boundaryClear p c = e at clears cleared ⊢
  have rests := (dropPins_trimPages_holdStage e p (coldUser p)).trans (biasHold_holdStage _ p false)
  generalize ((e.dropPins (coldUser p)).trimPages).biasHold p false = f at rests ⊢
  have marks := (setMode_partOnly f p .hold).trans (setCause_partOnly (f.setMode p .hold) p c)
  have hpart := part_setCause (f.setMode p .hold) p c
  rw [part_setMode] at hpart
  generalize (f.setMode p .hold).setCause p c = u at marks hpart ⊢
  have toOutputs : HoldCourse s b p := ends.course.trans closes.course
  have fromOutputs : HoldCourse d u p := (clears.course.trans rests.course).trans marks.course
  have kept := rests.part p
  have keptEarly := (closes.trans outputs).part p
  have hd : HoldCourse s d p := toOutputs.trans outputs.course
  refine ⟨hd.trans fromOutputs, fun k hk => fromOutputs.halted (halted k (toOutputs.work.qtzOf p ▸ hk)),
    ?_, ?_, ?_, ?_, ?_, ?_, ?_⟩ <;> rw [hpart]
  · rw [kept.job, cleared]
    exact keptEarly.job.trans job
  · rw [kept.active, cleared]
  · rw [kept.holdReq, cleared]
  · rw [kept.holdAt, cleared]
    exact hd.work.now
  · rw [kept.resumeNeeded, cleared, keptEarly.resumeNeeded, ← keptJob.resumeNeeded]

end Sys2Proof.Machine

namespace Sys2Proof.Machine

/-! Leaving TEST (01 R29; 06 R200; 12 R388; 15 R440, R447). -/

/-- From `s` to `t` no register below the Flint block, and no partition, has changed. -/
structure ModeWork (s t : State) : Prop where
  parts : t.parts = s.parts
  variant : t.variant = s.variant
  regs : ∀ a < 0x40000, t.reg a = s.reg a

theorem ModeWork.refl (s : State) : ModeWork s s := ⟨rfl, rfl, fun _ _ => rfl⟩

theorem ModeWork.trans {a b c : State} (h1 : ModeWork a b) (h2 : ModeWork b c) : ModeWork a c :=
  ⟨h2.parts.trans h1.parts, h2.variant.trans h1.variant, fun x hx => (h2.regs x hx).trans (h1.regs x hx)⟩

theorem setBit_modeWork (s : State) (a i : Nat) (b : Bool) (h : 0x40000 ≤ a) : ModeWork s (s.setBit a i b) :=
  ⟨rfl, rfl, fun _ hx => reg_setBit_ne s i b (by omega)⟩

theorem setLatch_modeWork (s : State) (m : Nat) (b : Bool) : ModeWork s (s.setLatch m b) := by
  have latch : ModeWork s (if m < 32 then s.setBit FLINT_LATCH_LO m b else s.setBit FLINT_LATCH_HI (m - 32) b) := by
    split <;> exact setBit_modeWork _ _ _ _ (by decide)
  unfold State.setLatch
  dsimp only
  have shown := latch.trans (setBit_modeWork _ (FLINT_STAT m) 2 b (by unfold FLINT_STAT; omega))
  split
  · exact shown.trans ⟨rfl, rfl, fun _ _ => rfl⟩
  · exact shown

theorem setLatch_flint (s : State) (m : Nat) (b : Bool) : (s.setLatch m b).flint = s.flint := by
  unfold State.setLatch
  dsimp only
  split <;> split <;> simp

theorem endSelfTest_modeWork (s : State) : ModeWork s s.endSelfTest := by
  unfold State.endSelfTest
  split
  · exact .refl s
  · refine ModeWork.trans ?_ (setLatch_modeWork ..)
    refine ModeWork.trans ?_ (setBit_modeWork _ _ _ _ (by decide))
    exact ⟨rfl, rfl, fun _ _ => rfl⟩

/-- After TEST no self-test runs. -/
theorem endSelfTest_step (s : State) : s.endSelfTest.flint.step = none := by
  unfold State.endSelfTest
  split
  · rename_i h
    exact Option.isNone_iff_eq_none.1 h
  · dsimp only
    rw [setLatch_flint]
    rfl

/-- From `s` to `t` only lanes, and the registers of the mesh, have changed; no lane has begun a test. -/
structure LaneWork (s t : State) : Prop where
  frame : t = { s with regs := t.regs, ports := t.ports }
  regs : ∀ a < 0x380000, t.reg a = s.reg a
  testing : ∀ q l, (s.lane q l).testing = false → (t.lane q l).testing = false

theorem LaneWork.refl (s : State) : LaneWork s s := ⟨rfl, fun _ _ => rfl, fun _ _ => id⟩

theorem LaneWork.trans {a b c : State} (h1 : LaneWork a b) (h2 : LaneWork b c) : LaneWork a c := by
  refine ⟨?_, fun x hx => (h2.regs x hx).trans (h1.regs x hx), fun q l h => h2.testing q l (h1.testing q l h)⟩
  rw [h2.frame, h1.frame]

theorem LaneWork.modeWork {s t : State} (h : LaneWork s t) : ModeWork s t := by
  refine ⟨?_, ?_, fun a ha => h.regs a (by omega)⟩ <;> rw [h.frame]

@[simp] theorem lane_updLane (s : State) (q l : Nat) (f : Lane → Lane) : (s.updLane q l f).lane q l = f (s.lane q l) := by
  simp [State.lane, State.updLane]

theorem lane_updLane_ne (s : State) {q l q' l' : Nat} (f : Lane → Lane) (h : q' ≠ q ∨ l' ≠ l) :
    (s.updLane q l f).lane q' l' = s.lane q' l' := by
  unfold State.lane State.updLane
  by_cases hq : q' = q
  · subst hq
    rw [port_updPort, look_put_ne _ _ (h.resolve_left (· rfl))]
  · rw [port_updPort_ne _ _ hq]

/-- The pass of `endMeshTest` over one lane. -/
def State.endLaneTest (s : State) (q l : Nat) : State :=
  if (s.lane q l).testing then
    s.updLane q l fun x => { x with testing := false, trained := false, retraining := true }
  else s

theorem endLaneTest_laneWork (s : State) (q l : Nat) :
    LaneWork s (s.endLaneTest q l) ∧ ((s.endLaneTest q l).lane q l).testing = false := by
  unfold State.endLaneTest
  split
  · refine ⟨⟨rfl, fun _ _ => rfl, fun q' l' h => ?_⟩, by rw [lane_updLane]⟩
    by_cases hql : q' = q ∧ l' = l
    · rw [hql.1, hql.2, lane_updLane]
    · rwa [lane_updLane_ne _ _ (by tauto)]
  · rename_i h
    exact ⟨.refl s, by simpa using h⟩

theorem testPort_laneWork (s : State) (q : Nat) : LaneWork s (s.testPort q) := by
  have sets : ∀ v, LaneWork s (s.setPort q v) := fun v =>
    ⟨rfl, fun _ ha => reg_setFld_ne s _ _ _ (by unfold MESH_PSTAT; omega), fun _ _ => id⟩
  unfold State.testPort
  split
  · exact sets _
  · split
    · exact sets _
    · exact .refl s

/-- The pass of `endMeshTest` over one port. -/
def State.endPortTest (s : State) (q : Nat) : State := (s.forEach (List.range 8) fun s l => s.endLaneTest q l).testPort q

theorem endMeshTest_eq (s : State) : s.endMeshTest = s.forEach (List.range s.nPort) State.endPortTest := rfl

theorem endPortTest_laneWork (s : State) (q : Nat) :
    LaneWork s (s.endPortTest q) ∧ ∀ l < 8, ((s.endPortTest q).lane q l).testing = false := by
  have lanes : ∀ s : State, LaneWork s (s.forEach (List.range 8) fun s l => s.endLaneTest q l) :=
    forEach_rel_mem .refl (fun _ _ _ => .trans) fun s l _ => (endLaneTest_laneWork s q l).1
  refine ⟨(lanes s).trans (testPort_laneWork ..), fun l hl => (testPort_laneWork _ q).testing q l ?_⟩
  exact forEach_reaches (P := fun t => (t.lane q l).testing = false) (List.mem_range.2 hl)
    (fun t => (endLaneTest_laneWork t q l).2) (fun t k _ => (endLaneTest_laneWork t q k).1.testing q l) s

theorem endMeshTest_laneWork (s : State) :
    LaneWork s s.endMeshTest ∧ ∀ q < s.nPort, ∀ l < 8, (s.endMeshTest.lane q l).testing = false := by
  rw [endMeshTest_eq]
  refine ⟨forEach_rel_mem .refl (fun _ _ _ => .trans) (fun t q _ => (endPortTest_laneWork t q).1) s, fun q hq l hl => ?_⟩
  exact forEach_reaches (P := fun t => (t.lane q l).testing = false) (List.mem_range.2 hq)
    (fun t => (endPortTest_laneWork t q).2 l hl) (fun t k _ => (endPortTest_laneWork t k).1.testing q l) s

/-! The bias outputs at the exit (15 R440). -/

theorem recorded_biasAim (s : State) (n : Nat) (v : Int) (f : Nat) : ((s.biasAim n v f).bias n).recorded = (s.bias n).recorded := by
  unfold State.biasAim State.setBiasState
  dsimp only
  split
  · simp
  · split
    · simp
    · split <;> simp

/-- The pass of `biasRestore` over one output. -/
def State.biasReturn (s : State) (n : Nat) : State :=
  match (s.bias n).recorded with
  | none => s
  | some (v, span, clamped) =>
    let s := s.updBias n fun b => { b with recorded := none }
    if clamped then (s.biasClamp n).setFld (BIAS_STAT n) 4 3 span
    else if s.fld (BIAS_STAT n) 4 3 = span then
      (s.setBiasState n (if (s.bias n).next.isSome then bRamping else bSteady)).biasAim n v (frameFrom s.now)
    else (s.setBiasState n bSteady).biasChange n span (frameAfter s.now) v

theorem biasRestore_eq (s : State) : s.biasRestore = s.forEach (List.range s.nBias) State.biasReturn := rfl

theorem biasReturn_work (s : State) (n : Nat) :
    BiasWork s (s.biasReturn n) n ∧ ((s.biasReturn n).bias n).recorded = none := by
  unfold State.biasReturn
  split
  · rename_i h
    exact ⟨.refl s n, h⟩
  · rename_i v span clamped _
    dsimp only
    have clears : BiasWork s (s.updBias n fun b => { b with recorded := none }) n := .updBias ..
    have cleared : ((s.updBias n fun b => { b with recorded := none }).bias n).recorded = none := by rw [bias_updBias]
    generalize (s.updBias n fun b => { b with recorded := none }) = a at clears cleared ⊢
    split
    · exact ⟨clears.trans ((BiasWork.biasClamp a n).trans (.setFld ..)), by simpa [State.biasClamp, State.setBiasState] using cleared⟩
    · split
      · exact ⟨clears.trans ((BiasWork.setBiasState ..).trans (.biasAim ..)), by
          rw [recorded_biasAim]
          exact cleared⟩
      · exact ⟨clears.trans (((BiasWork.setBiasState ..).trans (.updBias ..)).trans (.setBiasState ..)), by
          simpa [State.biasChange, State.setBiasState] using cleared⟩

theorem BiasWork.recorded {s t : State} {n k : Nat} (h : BiasWork s t n) (hn : n = k → (t.bias k).recorded = none)
    (hs : (s.bias k).recorded = none) : (t.bias k).recorded = none := by
  by_cases hk : n = k
  · exact hn hk
  · rwa [h.bias k (Ne.symm hk)]

/-- From `s` to `t` only the bias outputs and registers from the Flint block on have changed. -/
structure BiasesWork (s t : State) : Prop where
  frame : t = { s with regs := t.regs, biases := t.biases }
  regs : ∀ a < 0x40000, t.reg a = s.reg a

theorem BiasesWork.refl (s : State) : BiasesWork s s := ⟨rfl, fun _ _ => rfl⟩

theorem BiasesWork.trans {a b c : State} (h1 : BiasesWork a b) (h2 : BiasesWork b c) : BiasesWork a c := by
  refine ⟨?_, fun x hx => (h2.regs x hx).trans (h1.regs x hx)⟩
  rw [h2.frame, h1.frame]

theorem BiasWork.biasesWork {s t : State} {n : Nat} (h : BiasWork s t n) : BiasesWork s t :=
  ⟨h.frame, fun a ha => h.regs a (by simp only [List.mem_singleton, BIAS_STAT]; omega)⟩

theorem biasRestore_work (s : State) : BiasesWork s s.biasRestore ∧ ∀ n < s.nBias, (s.biasRestore.bias n).recorded = none := by
  rw [biasRestore_eq]
  refine ⟨forEach_rel_mem .refl (fun _ _ _ => .trans) (fun t n _ => (biasReturn_work t n).1.biasesWork) s, fun n hn => ?_⟩
  exact forEach_reaches (P := fun t => (t.bias n).recorded = none) (List.mem_range.2 hn) (fun t => (biasReturn_work t n).2)
    (fun t k _ h => (biasReturn_work t k).1.recorded (fun hk => hk ▸ (biasReturn_work t k).2) h) s

/-- From `s` to `t` only DTIME's notes and registers from the Flint block on have changed. -/
structure GainsWork (s t : State) : Prop where
  frame : t = { s with regs := t.regs, time := t.time }
  regs : ∀ a < 0x40000, t.reg a = s.reg a

theorem applyGains_work (s : State) : GainsWork s s.applyGains := by
  unfold State.applyGains
  refine forEach_keeps (P := GainsWork s) (fun t m _ h => ⟨?_, fun a ha => ?_⟩) ⟨rfl, fun _ _ => rfl⟩
  · rw [h.frame]
    rfl
  · exact (reg_setBit_ne t 1 true (by unfold ICH_STAT; omega)).trans (h.regs a ha)

/-- What TEST leaves when it ends (01 R29). -/
structure TestEnded (s t : State) : Prop extends ModeWork s t where
  mode : t.mode = .run
  selfTest : t.flint.step = none
  biases : ∀ n < s.nBias, (t.bias n).recorded = none
  lanes : ∀ q < s.nPort, ∀ l < 8, (t.lane q l).testing = false

theorem endTest_ended (s : State) : TestEnded s s.endTest := by
  unfold State.endTest State.leaveControl
  have flint := endSelfTest_modeWork s
  have step := endSelfTest_step s
  generalize s.endSelfTest = a at flint step ⊢
  obtain ⟨mesh, lanes⟩ := endMeshTest_laneWork a
  generalize a.endMeshTest = b at mesh lanes ⊢
  obtain ⟨bias, recorded⟩ := biasRestore_work b
  generalize b.biasRestore = c at bias recorded ⊢
  have gains := applyGains_work c
  generalize c.applyGains = d at gains ⊢
  have port : ∀ q l, d.lane q l = b.lane q l := fun q l => by rw [gains.frame, bias.frame]; rfl
  have nBias : b.nBias = s.nBias := by unfold State.nBias State.nOch; rw [mesh.frame, ← flint.variant]
  have nPort : a.nPort = s.nPort := by unfold State.nPort State.nOch; rw [← flint.variant]
  refine ⟨⟨?_, ?_, fun x hx => ?_⟩, rfl, ?_, fun n hn => ?_, fun q hq l hl => ?_⟩
  · show d.parts = _
    rw [gains.frame, bias.frame, mesh.frame, ← flint.parts]
  · show d.variant = _
    rw [gains.frame, bias.frame, mesh.frame, ← flint.variant]
  · exact (gains.regs x hx).trans ((bias.regs x hx).trans ((mesh.modeWork.regs x hx).trans (flint.regs x hx)))
  · show d.flint.step = _
    rw [gains.frame, bias.frame, mesh.frame]
    exact step
  · show (d.bias n).recorded = none
    rw [gains.frame]
    exact recorded n (nBias ▸ hn)
  · exact (congrArg Lane.testing (port q l)).trans (lanes q (nPort ▸ hq) l hl)

end Sys2Proof.Machine

namespace Sys2Proof.Machine

/-! TEST and OPERATOR_HOLD_N (01 R29, R33, R34; 17 R491). -/

/-- In a loop over a list without duplicates, the pass over `x` stands between two runs of passes over others. -/
theorem forEach_turn {α : Type} {R : State → State → Prop} (refl : ∀ s, R s s) (trans : ∀ a b c, R a b → R b c → R a c)
    {l : List α} (hl : l.Nodup) {f : State → α → State} {x : α} (hx : x ∈ l) (h : ∀ s, ∀ y ∈ l, y ≠ x → R s (f s y)) (s : State) :
    ∃ a, R s a ∧ R (f a x) (s.forEach l f) := by
  obtain ⟨l1, l2, rfl⟩ := List.append_of_mem hx
  have hne := List.nodup_middle.1 hl
  have others : ∀ y ∈ l1 ++ l2, y ≠ x := fun y hy he => (List.nodup_cons.1 hne).1 (he ▸ hy)
  refine ⟨s.forEach l1 f, ?_, ?_⟩
  · exact forEach_rel_mem refl trans (fun t y hy => h t y (by simp [hy]) (others y (by simp [hy]))) s
  · have rest := forEach_rel_mem (l := l2) (f := f) refl trans
      (fun t y hy => h t y (by simp [hy]) (others y (by simp [hy]))) (f (s.forEach l1 f) x)
    unfold State.forEach at rest ⊢
    rwa [List.foldl_append]

/-- From `s` to `t`, work of other partitions than `p` on their way into HOLD. -/
def Bystander (p : Nat) (s t : State) : Prop := HoldWork s t ∧ (s.part p).Kept (t.part p)

theorem Bystander.refl (p : Nat) (s : State) : Bystander p s s := ⟨.refl s, .refl _⟩

theorem Bystander.trans {p : Nat} (a b c : State) (h1 : Bystander p a b) (h2 : Bystander p b c) : Bystander p a c :=
  ⟨h1.1.trans h2.1, h1.2.trans h2.2⟩

/-- A loop over the partitions whose passes each take one partition into HOLD leaves the pass over `p` to itself. -/
theorem forParts_turn {f : State → Nat → State} (h : ∀ s, ∀ q < 8, HoldCourse s (f s q) q) (s : State) {p : Nat}
    (hp : p < s.nPart) : ∃ a, Bystander p s a ∧ Bystander p (f a p) (s.forEach (List.range s.nPart) f) := by
  refine forEach_turn (Bystander.refl p) Bystander.trans List.nodup_range (List.mem_range.2 hp) (fun t q hq hne => ?_) s
  have course := h t q ((List.mem_range.1 hq).trans_le (nPart_le s))
  exact ⟨course.work, course.others p (Ne.symm hne)⟩

theorem forParts_work {f : State → Nat → State} (h : ∀ s, ∀ q < 8, HoldCourse s (f s q) q) (s : State) :
    HoldWork s (s.forEach (List.range s.nPart) f) :=
  forEach_holdWork (fun t q hq => (h t q ((List.mem_range.1 hq).trans_le (nPart_le s))).work) s

theorem enterHold_course (s : State) {p : Nat} (hp : p < 8) (c : HoldCause) : HoldCourse s (s.enterHold p c []) p := by
  by_cases hm : (s.part p).mode = .hold
  · rw [enterHold_hold hm]
    split
    · exact ((setCause_partOnly s p c).trans (.updPart ..)).course
    · exact .refl s p
  · exact (enterHold_entered hp hm c []).toHoldCourse

/-- Whether the partition's job is one of a shared engine: a hold request waits for its end (13 R407). -/
def Part.sharedJob (q : Part) : Bool :=
  match q.job with
  | some j => j.type != .program
  | none => false

theorem holdRequest_hold {s : State} {p : Nat} (c : HoldCause) (hm : (s.part p).mode = .hold) : s.holdRequest p c = s := by
  simp only [State.holdRequest, hm]

theorem holdRequest_shot {s : State} {p : Nat} (c : HoldCause) (hm : (s.part p).mode = .shot) : s.holdRequest p c =
    if (s.part p).sharedJob || (s.part p).attempt.active || (s.part p).replay then
      s.updPart p fun q => { q with holdReq := q.holdReq.or (some c) }
    else s.holdBoundary p s.now (some c) := by
  simp only [State.holdRequest, hm]
  rfl

theorem holdRequest_stream {s : State} {p : Nat} (c : HoldCause) (hm : (s.part p).mode = .stream) : s.holdRequest p c =
    if (s.part p).sharedJob then s.updPart p fun q => { q with holdReq := q.holdReq.or (some c) }
    else s.enterHold p c [] := by
  simp only [State.holdRequest, hm]
  rfl

theorem sharedJob_of_none {q : Part} (h : q.job = none) : q.sharedJob = false := by
  simp [Part.sharedJob, h]

theorem holdRequest_course (s : State) {p : Nat} (hp : p < 8) (c : HoldCause) : HoldCourse s (s.holdRequest p c) p := by
  cases hm : (s.part p).mode with
  | hold =>
    rw [holdRequest_hold c hm]
    exact .refl s p
  | shot =>
    rw [holdRequest_shot c hm]
    split
    · exact (PartOnly.updPart ..).course
    · exact (holdBoundary_held hp ..).toHoldCourse
  | stream =>
    rw [holdRequest_stream c hm]
    split
    · exact (PartOnly.updPart ..).course
    · exact enterHold_course s hp c

/-- The requests of a press, in every partition. -/
def State.pressHold (s : State) : State :=
  (s.setBit GLB_STAT 4 true).forEach (List.range s.nPart) fun s p => s.holdRequest p .shortPress

theorem press_eq {s : State} (h : s.heldOff = false) :
    exec .operatorHoldPress s = answer s (s.pressHold.endModes 0x0C) := by
  show answer s _ = _
  rw [h]
  rfl

theorem not_holdReg_globalStat : ¬ HoldReg GLB_STAT := by
  unfold HoldReg GLB_STAT
  omega

/-- The requests of a press raise its bit and leave the device's mode. -/
theorem pressHold_work (s : State) : s.pressHold.bit GLB_STAT 4 = true ∧ s.pressHold.mode = s.mode := by
  have work : HoldWork (s.setBit GLB_STAT 4 true) s.pressHold :=
    forParts_work (s := s.setBit GLB_STAT 4 true) fun t q hq => holdRequest_course t hq .shortPress
  exact ⟨(bit_ne _ _ _ (work.regs _ not_holdReg_globalStat)).trans (bit_setBit _ _ _ _ (by decide)), work.mode⟩

theorem pressHold_turn (s : State) {p : Nat} (hp : p < s.nPart) :
    ∃ a : State, (s.part p).Kept (a.part p) ∧ ((a.holdRequest p .shortPress).part p).Kept (s.pressHold.part p) := by
  obtain ⟨a, before, after⟩ := forParts_turn (s := s.setBit GLB_STAT 4 true)
    (fun t q hq => holdRequest_course t hq .shortPress) hp
  exact ⟨a, before.2, after.2⟩

theorem pressHold_shot {s : State} {p : Nat} (hp : p < s.nPart) (hm : (s.part p).mode = .shot)
    (ha : (s.part p).attempt.active = true) : (s.pressHold.part p).mode = .shot ∧
      (s.pressHold.part p).holdReq = (s.part p).holdReq.or (some .shortPress) := by
  obtain ⟨a, before, after⟩ := pressHold_turn s hp
  rw [holdRequest_shot _ (before.mode.trans hm), before.active, ha, Bool.or_true, Bool.true_or, if_pos rfl] at after
  rw [after.mode, after.holdReq, part_updPart]
  exact ⟨before.mode.trans hm, by rw [← before.holdReq]⟩

theorem pressHold_stream {s : State} {p : Nat} (hp : p < s.nPart) (hm : (s.part p).mode = .stream)
    (hj : (s.part p).job = none) : (s.pressHold.part p).mode = .hold ∧ (s.pressHold.part p).cause = .shortPress ∧
      (s.pressHold.part p).resumeNeeded = true := by
  obtain ⟨a, before, after⟩ := pressHold_turn s hp
  rw [holdRequest_stream _ (before.mode.trans hm), sharedJob_of_none (before.job.trans hj), if_neg Bool.false_ne_true] at after
  have held := enterHold_entered (hp.trans_le (nPart_le s)) (by rw [before.mode, hm]; simp) HoldCause.shortPress []
  exact ⟨after.mode.trans held.mode, after.cause.trans held.cause,
    after.resumeNeeded.trans (held.resume.trans (Bool.or_true _))⟩

/-- The HOLD of a long press, in every partition. -/
def State.longHold (s : State) : State :=
  (s.setBit GLB_STAT 5 true).forEach (List.range s.nPart) fun s p => s.enterHold p .longPress []

theorem longHold_bit (s : State) : s.longHold.bit GLB_STAT 5 = true := by
  have work : HoldWork (s.setBit GLB_STAT 5 true) s.longHold :=
    forParts_work (s := s.setBit GLB_STAT 5 true) fun t q hq => enterHold_course t hq .longPress
  exact (bit_ne _ _ _ (work.regs _ not_holdReg_globalStat)).trans (bit_setBit _ _ _ _ (by decide))

theorem longHold_part (s : State) {p : Nat} (hp : p < s.nPart) : (s.longHold.part p).mode = .hold ∧
    ((s.part p).mode ≠ .hold → (s.longHold.part p).cause = .longPress) ∧
    ((s.part p).mode = .hold → (s.longHold.part p).cause =
      if (s.part p).holdAt = s.now ∧ holdRank .longPress < holdRank (s.part p).cause then .longPress
      else (s.part p).cause) := by
  have hp8 := hp.trans_le (nPart_le s)
  obtain ⟨a, ⟨work, before⟩, -, after⟩ := forParts_turn (s := s.setBit GLB_STAT 5 true)
    (fun t q hq => enterHold_course t hq .longPress) hp
  have now : a.now = s.now := work.now
  have before : (s.part p).Kept (a.part p) := before
  have mode : (s.longHold.part p).mode = _ := after.mode
  have cause : (s.longHold.part p).cause = _ := after.cause
  rw [mode, cause]
  by_cases hm : (s.part p).mode = .hold
  · have hold := before.mode.trans hm
    refine ⟨?_, fun h => absurd hm h, fun _ => ?_⟩
    · rw [enterHold_hold hold]
      split
      · rw [part_updPart, part_setCause]
        exact hold
      · exact hold
    · rw [enterHold_hold hold, before.holdAt, before.cause, now]
      split
      · rw [part_updPart, part_setCause]
      · exact before.cause
  · have held := enterHold_entered hp8 (fun h => hm (before.mode.symm.trans h)) HoldCause.longPress []
    exact ⟨held.mode, fun _ => held.cause, fun h => absurd h hm⟩

/-! The entry to TEST (15 R440). -/

/-- The outputs under the control of TEST. -/
structure Controlled (s t : State) (l : List Nat) : Prop where
  frame : t = { s with regs := t.regs, biases := t.biases }
  regs : RegsBut s t (l.map BIAS_STAT)
  state : ∀ n ∈ l, t.biasState n = bControl

theorem biasControl_controlled (s : State) :
    Controlled s s.biasControl ((List.range s.nBias).filter fun n => (s.biasOwner n).isSome) := by
  unfold State.biasControl
  generalize (List.range s.nBias).filter (fun n => (s.biasOwner n).isSome) = l
  have frame : ∀ (l : List Nat) (f : State → Nat → State), (∀ s n, BiasWork s (f s n) n) → ∀ s : State,
      s.forEach l f = { s with regs := (s.forEach l f).regs, biases := (s.forEach l f).biases } ∧
        RegsBut s (s.forEach l f) (l.map BIAS_STAT) := fun l f h s => by
    refine forEach_keeps (P := fun t => t = { s with regs := t.regs, biases := t.biases } ∧ RegsBut s t (l.map BIAS_STAT))
      (fun t n hn ht => ⟨?_, fun a ha => ?_⟩) ⟨rfl, fun _ _ => rfl⟩
    · rw [(h t n).frame, ht.1]
    · refine ((h t n).regs a fun ha' => ha ?_).trans (ht.2 a ha)
      rw [List.mem_singleton.1 ha']
      exact List.mem_map_of_mem hn
  dsimp only
  have pass : ∀ (s : State) (n : Nat), BiasWork s ((s.updBias n fun b => { b with
      recorded := some (if b.changing then b.codeTo else b.target,
        if b.changing then b.spanTo else s.fld (BIAS_STAT n) 4 3, s.biasState n == bClamped)
      changing := false, clampAfter := false, zFrame := none, next := none }).setBiasState n bControl) n := fun s n =>
    (BiasWork.updBias ..).trans (.setBiasState ..)
  refine ⟨(frame l _ pass s).1, (frame l _ pass s).2, fun n hn => ?_⟩
  refine forEach_reaches (P := fun t => t.biasState n = bControl) hn (fun t => ?_) (fun t k _ ht => ?_) s
  · exact fld_setFld _ _ _ _ _ (by decide) (by decide)
  · by_cases hk : n = k
    · exact hk ▸ fld_setFld _ _ _ _ _ (by decide) (by decide)
    · exact (fld_ne _ _ _ _ ((pass t k).regs _ (by simp only [List.mem_singleton, BIAS_STAT]; omega))).trans ht

theorem testEnter_open {s : State} (h : s.heldOff = false) (hd : s.deep = 0) : s.testWrite = s.testJudge := by
  simp [State.testWrite, h, hd]

theorem testEnter_deep {s : State} (h : s.heldOff = false) (hd : s.deep ≠ 0) :
    s.testWrite = s.deepWake.updMem fun m => { m with waits := m.waits ++ [(2, 0#32)] } := by
  simp [State.testWrite, h, hd]

theorem deep_deepWake {s : State} (hd : s.deep ≠ 0) : s.deepWake.deep = 3 := by
  by_cases h : s.deep = 1 ∨ s.deep = 2
  · exact (deepWake_deep h).1
  · have : s.deep < 4 := Nat.mod_lt _ (by decide)
    rw [State.deepWake, if_neg h]
    omega

/-- Settles O57, by what each partition's pass leaves of the others and by what the end of TEST leaves. -/
theorem deviceModes : Obligations.DeviceModes := by
  intro s
  refine ⟨fun h => ?_, fun h hd => ?_, fun h hd => ⟨fun ⟨hm, ha⟩ => ?_, fun hn => ?_⟩, fun hm => ?_, fun hm => ?_, fun h => ?_,
    fun h hm => ?_, fun h hm => ?_, fun h hb => ?_, fun hb => ?_, rfl⟩
  · show answer s s.testWrite = _
    rw [State.testWrite, if_pos h]
    rfl
  · refine ⟨_, rfl, ?_⟩
    rw [testEnter_deep h hd]
    refine ⟨deep_deepWake hd, ?_⟩
    rw [deepWake_frame]
    exact ⟨rfl, rfl, rfl⟩
  · obtain ⟨frame, regs, state⟩ := biasControl_controlled s
    refine ⟨_, rfl, ?_⟩
    rw [testEnter_open h hd, State.testJudge, if_neg (by simp [hm, ha])]
    refine ⟨rfl, ?_, fun n hn ho => state n (by simp [hn, ho]), fun a hna => regs a fun hin => hna ?_, ?_⟩
    · rw [frame]
    · exact List.map_subset _ List.filter_sublist.subset hin
    · rw [frame]
  · have judged : s.testWrite = s.stick GLB_STAT 6 := by
      rw [testEnter_open h hd, State.testJudge, if_pos (by simpa using hn)]
    refine ⟨s.stick GLB_STAT 6, (congrArg _ judged).trans (answer_next _ _ rfl rfl rfl rfl), ?_⟩
    exact ⟨bit_setBit _ _ _ _ (by decide), fun a ha => reg_stick_ne s 6 (by simpa using ha), rfl⟩
  · show answer s s.testEndWrite = _
    rw [State.testEndWrite, if_neg (by simpa using hm)]
    rfl
  · have ended := endTest_ended s
    refine ⟨_, rfl, ?_⟩
    rw [State.testEndWrite, if_pos (by simpa using hm)]
    exact ⟨ended.mode, ended.parts, ended.selfTest, ended.biases, ended.lanes⟩
  · constructor <;> (show answer s _ = _; rw [h]; rfl)
  · obtain ⟨raised, mode⟩ := pressHold_work s
    rw [hm] at mode
    refine ⟨_, press_eq h, ?_⟩
    rw [State.endModes, mode]
    exact ⟨raised, mode, fun p hp => pressHold_shot hp, fun p hp => pressHold_stream hp⟩
  · obtain ⟨raised, mode⟩ := pressHold_work s
    have ended := endTest_ended s.pressHold
    refine ⟨_, press_eq h, ?_⟩
    rw [State.endModes, mode, hm]
    exact ⟨(bit_ne _ _ _ (ended.regs _ (by decide))).trans raised, ended.mode⟩
  · have exec_eq : exec .operatorHoldLongpress s = answer s s.longHold := by
      show answer s _ = _
      rw [h, State.opHold, hb]
      rfl
    exact ⟨_, exec_eq, longHold_bit s, fun p hp => longHold_part s hp⟩
  · show answer s _ = _
    rw [State.opHold, hb, Bool.not_false, Bool.or_true, if_pos rfl]
    rfl

end Sys2Proof.Machine

namespace Sys2Proof.Machine

/-! The Flint latches (15 R443-R445): where a monitor's latch stands, and what a change of it leaves alone. -/

/-- The register that holds the latch of monitor `m`. -/
def latchReg (m : Nat) : Nat := if m < 32 then FLINT_LATCH_LO else FLINT_LATCH_HI

/-- The bit of that register. -/
def latchBit (m : Nat) : Nat := if m < 32 then m else m - 32

theorem latchReg_mem (m : Nat) : latchReg m ∈ [FLINT_LATCH_LO, FLINT_LATCH_HI] := by
  unfold latchReg
  split <;> simp

theorem latchReg_lt (m : Nat) : latchReg m < 0x40008 := by
  unfold latchReg
  split <;> decide

theorem latchReg_ne_stat (m k : Nat) : latchReg m ≠ FLINT_STAT k := by
  have := latchReg_lt m
  unfold FLINT_STAT
  omega

theorem latchBit_lt {m : Nat} (h : m < 48) : latchBit m < 32 := by
  unfold latchBit
  split <;> omega

/-- No two monitors share a latch. -/
theorem latch_ne {k m : Nat} (h : k ≠ m) : latchReg k ≠ latchReg m ∨ latchBit k ≠ latchBit m := by
  unfold latchReg latchBit
  split <;> split
  · exact .inr h
  · exact .inl (by decide)
  · exact .inl (by decide)
  · exact .inr (by omega)

theorem flintLatched_eq (s : State) (m : Nat) : s.flintLatched m = s.bit (latchReg m) (latchBit m) := by
  unfold State.flintLatched latchReg latchBit
  split <;> rfl

theorem latchFresh_eq (s : State) (m : Nat) : s.latchFresh m = !bitOf (s.beforeN (latchReg m)) (latchBit m) := by
  unfold State.latchFresh latchReg latchBit
  split <;> rfl

theorem latchAnew_eq (s : State) (m : Nat) : s.latchAnew m =
    s.setBefore (latchReg m) (setBits (s.beforeN (latchReg m)) (latchBit m) (latchBit m) 0) := by
  unfold State.latchAnew latchReg latchBit
  split <;> rfl

theorem beforeN_setBefore (s : State) (a v : Nat) : (s.setBefore a v).beforeN a = v % 2 ^ 32 := by
  unfold State.beforeN State.setBefore
  rw [look_put_eq]
  rfl

theorem beforeN_lt (s : State) (a : Nat) : s.beforeN a < 2 ^ 32 := (look pf0Reset s.before a).isLt

theorem latchFresh_latchAnew (s : State) {m : Nat} (h : m < 48) : (s.latchAnew m).latchFresh m = true := by
  have hb := latchBit_lt h
  rw [latchFresh_eq, latchAnew_eq, beforeN_setBefore,
    Nat.mod_eq_of_lt (setBits_lt _ _ _ _ (beforeN_lt s _) hb (by omega)), bitOf_eq_bits, bits_setBits]
  simp

/-- The registers that a change of the latch of monitor `m` writes. -/
def latchRegs (m : Nat) : List Nat := [FLINT_LATCH_LO, FLINT_LATCH_HI, FLINT_STAT m]

/-- From `s` to `t` at most the latch of monitor `m` has changed, with what shows it. -/
structure LatchWork (s t : State) (m : Nat) : Prop where
  frame : t = { s with regs := t.regs, pins := t.pins }
  regs : RegsBut s t (latchRegs m)
  others : ∀ k, k ≠ m → k < 48 → t.flintLatched k = s.flintLatched k
  pins : 4 ≤ m → t.pins = s.pins

theorem LatchWork.refl (s : State) (m : Nat) : LatchWork s s m := ⟨rfl, fun _ _ => rfl, fun _ _ _ => rfl, fun _ => rfl⟩

theorem LatchWork.trans {a b c : State} {m : Nat} (h1 : LatchWork a b m) (h2 : LatchWork b c m) : LatchWork a c m := by
  refine ⟨?_, fun x hx => (h2.regs x hx).trans (h1.regs x hx), fun k hk hk' => (h2.others k hk hk').trans (h1.others k hk hk'),
    fun hm => (h2.pins hm).trans (h1.pins hm)⟩
  rw [h2.frame, h1.frame]

theorem LatchWork.fresh {s t : State} {m : Nat} (h : LatchWork s t m) (k : Nat) : t.latchFresh k = s.latchFresh k := by
  rw [h.frame]
  rfl

/-- Writes of the status of monitor `m` leave every latch as it is. -/
theorem setStat_latchWork (s : State) (m i : Nat) (b : Bool) : LatchWork s (s.setBit (FLINT_STAT m) i b) m := by
  refine ⟨rfl, fun a ha => reg_setBit_ne s i b fun h => ha (by simp [latchRegs, h]), fun k _ _ => ?_, fun _ => rfl⟩
  rw [flintLatched_eq, flintLatched_eq]
  exact bit_ne _ _ _ (reg_setBit_ne s i b (latchReg_ne_stat k m))

/-- The pins after a change of the latch of monitor `m`. -/
def State.latchPins (s : State) (m : Nat) (b : Bool) : Pins :=
  if m < 4 then { s.pins with tripOut := BitVec.ofNat 4 (setBits s.pins.tripOut.toNat m m (bn b)) } else s.pins

theorem setLatch_eq (s : State) (m : Nat) (b : Bool) : s.setLatch m b =
    { (s.setBit (latchReg m) (latchBit m) b).setBit (FLINT_STAT m) 2 b with pins := s.latchPins m b } := by
  unfold State.setLatch State.latchPins latchReg latchBit
  split <;> split <;> rfl

theorem flintLatched_setLatch (s : State) {m : Nat} (h : m < 48) (b : Bool) : (s.setLatch m b).flintLatched m = b := by
  rw [flintLatched_eq, setLatch_eq]
  show ((s.setBit (latchReg m) (latchBit m) b).setBit (FLINT_STAT m) 2 b).bit (latchReg m) (latchBit m) = b
  rw [bit_ne _ _ _ (reg_setBit_ne _ 2 b (latchReg_ne_stat m m)), bit_setBit _ _ _ _ (latchBit_lt h)]

theorem setLatch_latchWork (s : State) {m : Nat} (h : m < 48) (b : Bool) : LatchWork s (s.setLatch m b) m := by
  rw [setLatch_eq]
  refine ⟨rfl, fun a ha => ?_, fun k hk _ => ?_, fun hm => if_neg (by omega)⟩
  · have hstat : a ≠ FLINT_STAT m := fun he => ha (by simp [latchRegs, he])
    have hlatch : a ≠ latchReg m := fun he => ha (List.mem_append_left [FLINT_STAT m] (he ▸ latchReg_mem m))
    exact (reg_setBit_ne _ 2 b hstat).trans (reg_setBit_ne s _ b hlatch)
  · rw [flintLatched_eq, flintLatched_eq]
    show ((s.setBit (latchReg m) (latchBit m) b).setBit (FLINT_STAT m) 2 b).bit _ _ = _
    rw [bit_ne _ _ _ (reg_setBit_ne _ 2 b (latchReg_ne_stat k m))]
    by_cases hr : latchReg k = latchReg m
    · rw [hr]
      exact bit_setBit_ne _ _ _ _ _ (latchBit_lt h) ((latch_ne hk).resolve_left (fun hn => hn hr))
    · exact bit_ne _ _ _ (reg_setBit_ne s _ b hr)

theorem tripOut_setLatch (s : State) {m : Nat} (h : m < 4) (b : Bool) : (s.setLatch m b).pins.tripOut.getLsbD m = b := by
  rw [setLatch_eq]
  show (s.latchPins m b).tripOut.getLsbD m = b
  rw [State.latchPins, if_pos h, BitVec.getLsbD_ofNat, ← bitOf_eq_testBit, bitOf_eq_bits, bits_setBits]
  cases b <;> simp [h, bn]

/-! The comparison and the clears (15 R443, R445). -/

theorem flintSee_latchWork (s : State) (m : Nat) (x : FlintIn) : LatchWork s (s.flintSee m x) m := by
  have band := setStat_latchWork s m 1 (x == .band)
  unfold State.flintSee
  cases x
  · exact band.trans (setStat_latchWork ..)
  · exact band
  · exact band.trans (setStat_latchWork ..)
  · exact band.trans (setStat_latchWork ..)

theorem flintLatched_flintSee (s : State) (m : Nat) (x : FlintIn) (k : Nat) : (s.flintSee m x).flintLatched k = s.flintLatched k := by
  have keeps : ∀ (t : State) (i : Nat) (b : Bool), (t.setBit (FLINT_STAT m) i b).flintLatched k = t.flintLatched k := fun t i b => by
    rw [flintLatched_eq, flintLatched_eq]
    exact bit_ne _ _ _ (reg_setBit_ne t i b (latchReg_ne_stat k m))
  unfold State.flintSee
  cases x <;> simp only [keeps]

theorem inside_flintSee (s : State) (m : Nat) :
    (s.flintSee m .inside).bit (FLINT_STAT m) 0 = true ∧ ∀ x, x = .low ∨ x = .high → (s.flintSee m x).bit (FLINT_STAT m) 0 = false := by
  refine ⟨bit_setBit _ _ _ _ (by decide), ?_⟩
  rintro x (rfl | rfl) <;> exact bit_setBit _ _ _ _ (by decide)

/-- A clear changes no other latch, and clears its own where the input is INSIDE and the latch was not set in this tick. -/
theorem flintClear_work (s : State) {m : Nat} (h : m < 48) (x : FlintIn) : LatchWork s (s.flintClear m x) m ∧
    (s.flintClear m x).flintLatched m = (s.flintLatched m && !(x == .inside && !s.latchFresh m)) := by
  have see := flintSee_latchWork s m x
  have latched := flintLatched_flintSee s m x m
  have fresh := see.fresh m
  unfold State.flintClear
  dsimp only
  generalize s.flintSee m x = a at see latched fresh ⊢
  rw [fresh]
  split
  · rename_i hc
    refine ⟨see.trans (setLatch_latchWork a h false), ?_⟩
    rw [flintLatched_setLatch a h, hc.1, hc.2]
    simp
  · rename_i hc
    refine ⟨see, latched.trans ?_⟩
    by_cases hx : x = .inside
    · have hf : s.latchFresh m = true := by simpa [hx] using hc
      simp [hf]
    · simp [hx]

end Sys2Proof.Machine

namespace Sys2Proof.Machine

/-! A trip (15 R444). -/

/-- The records of a trip in partition `p`: the yield record that it brings about, and the copy of its error record. -/
def State.tripYield (s : State) (p : Nat) (q : Part) : State :=
  if q.attempt.active || q.mode == .stream then
    s.yields p 1 2 1 (mkTag s.now 0 p q.attempt.shotNo 0 3 q.attempt.active false false false q.attempt.num) (s.lostEvents p) 255
  else s

theorem tripYield_queued (s : State) (p : Nat) (q : Part) : Queued s (s.tripYield p q) := by
  unfold State.tripYield
  split
  · exact yields_queued ..
  · exact .refl s

/-- What a trip leaves of partition `p`. -/
structure Tripped (s t : State) (p : Nat) : Prop extends HoldCourse s t p where
  mode : (t.part p).mode = .hold
  cause : (s.part p).mode ≠ .hold → (t.part p).cause = .trip ∧ (t.part p).resumeNeeded = true
  muted : ∀ n ∈ s.ochsOf p, t.ochState n ≠ 2

theorem tripPart_tripped (s : State) {p : Nat} (hp : p < 8) (m side : Nat) : Tripped s (s.tripPart p m side) p := by
  obtain ⟨mutes, muted⟩ := muteAll_holdStage s p
  have mode : ((s.forEach (s.ochsOf p) State.asyncMute).part p).mode = (s.part p).mode := (mutes.part p).mode
  unfold State.tripPart
  dsimp only
  generalize s.forEach (s.ochsOf p) State.asyncMute = a at mutes muted mode ⊢
  split
  · rename_i hm
    have hold := mode.trans hm
    have course := enterHold_course a hp .trip
    refine ⟨mutes.course.trans course, ?_, fun h => absurd hm h, fun n hn => course.work.och_ne (mem_ochsOf hn).1 (muted n hn)⟩
    rw [enterHold_hold hold]
    split
    · rw [part_updPart, part_setCause]
      exact hold
    · exact hold
  · rename_i hm
    have records := (tripYield_queued a p (s.part p)).holdStage p
    have running := (records.part p).mode.trans mode
    unfold State.tripYield at records running
    generalize (if ((s.part p).attempt.active || (s.part p).mode == .stream) = true then _ else a : State) = b at records running ⊢
    have held := enterHold_entered hp (running.trans_ne hm) HoldCause.trip
    refine ⟨(mutes.course.trans records.course).trans (held _).toHoldCourse, (held _).mode,
      fun _ => ⟨(held _).cause, (held _).resume.trans (Bool.or_true _)⟩, fun n hn => ?_⟩
    exact (records.work.trans (held _).work).och_ne (mem_ochsOf hn).1 (muted n hn)

/-- The channels of partition `p` stay undriven. -/
theorem Tripped.och {s t u : State} {p : Nat} (h : Tripped s t p) (hw : HoldWork t u) : ∀ n ∈ s.ochsOf p, u.ochState n ≠ 2 :=
  fun n hn => hw.och_ne (mem_ochsOf hn).1 (h.muted n hn)

theorem mem_flintMask {s : State} {m p : Nat} : p ∈ s.flintMask m ↔ p < s.nPart ∧ s.bit (FLINT_CFG m) (4 + p) = true := by
  simp [State.flintMask]

theorem flintMask_nodup (s : State) (m : Nat) : (s.flintMask m).Nodup := List.nodup_range.filter _

/-- The trip of monitor `m` in every partition of its mask. -/
def State.tripMask (s : State) (m side : Nat) : State := s.forEach (s.flintMask m) fun s p => s.tripPart p m side

theorem flintMask_lt {s : State} {m p : Nat} (h : p ∈ s.flintMask m) : p < 8 := (mem_flintMask.1 h).1.trans_le (nPart_le s)

theorem tripMask_work (s : State) (m side : Nat) : HoldWork s (s.tripMask m side) :=
  forEach_holdWork (fun t _ hq => (tripPart_tripped t (flintMask_lt hq) m side).work) s

/-- Passes over other partitions. -/
theorem tripPart_bystander (t : State) {p q : Nat} (hq : q < 8) (hne : q ≠ p) (m side : Nat) :
    Bystander p t (t.tripPart q m side) :=
  let h := tripPart_tripped t hq m side
  ⟨h.work, h.others p (Ne.symm hne)⟩

theorem tripMask_out (s : State) {m side p : Nat} (hp : p ∉ s.flintMask m) : Bystander p s (s.tripMask m side) :=
  forEach_rel_mem (Bystander.refl p) Bystander.trans
    (fun t q hq => tripPart_bystander t (flintMask_lt hq) (fun h : q = p => hp (h ▸ hq)) m side) s

theorem tripMask_in (s : State) {m side p : Nat} (hp : p ∈ s.flintMask m) :
    ((s.tripMask m side).part p).mode = .hold ∧
      ((s.part p).mode ≠ .hold → ((s.tripMask m side).part p).cause = .trip ∧ ((s.tripMask m side).part p).resumeNeeded = true) ∧
      ∀ n ∈ s.ochsOf p, (s.tripMask m side).ochState n ≠ 2 := by
  obtain ⟨a, ⟨work, before⟩, rest, after⟩ := forEach_turn (f := fun s p => s.tripPart p m side) (Bystander.refl p) Bystander.trans
    (flintMask_nodup s m) hp (fun t q hq hne => tripPart_bystander t (flintMask_lt hq) hne m side) s
  have trip := tripPart_tripped a (flintMask_lt hp) m side
  have mode : ((s.tripMask m side).part p).mode = _ := after.mode
  have cause : ((s.tripMask m side).part p).cause = _ := after.cause
  have resume : ((s.tripMask m side).part p).resumeNeeded = _ := after.resumeNeeded
  rw [mode, cause, resume]
  exact ⟨trip.mode, fun hm => trip.cause (before.mode.trans_ne hm), fun n hn => trip.och rest n (work.ochsOf p ▸ hn)⟩

/-- The event that a trip brings to the host, with its interrupt. -/
def State.tripEvent (s : State) (r : Rec) : State := (s.queueEv r).irqEvent 8 3

theorem queueEv_frame (s : State) (r : Rec) : s.queueEv r = { s with regs := (s.queueEv r).regs, ev := (s.queueEv r).ev } ∧
    RegsBut s (s.queueEv r) [HOST_EVLOST] := by
  unfold State.queueEv
  split
  · exact ⟨rfl, fun _ _ => rfl⟩
  · exact ⟨rfl, fun a ha => reg_inc_ne s 1 (by simpa using ha)⟩

theorem tripEvent_frame (s : State) (r : Rec) :
    s.tripEvent r = { s with regs := (s.tripEvent r).regs, ev := (s.tripEvent r).ev, irq := (s.tripEvent r).irq } ∧
      RegsBut s (s.tripEvent r) [HOST_EVLOST] := by
  obtain ⟨frame, regs⟩ := queueEv_frame s r
  have irq := irqEvent_frame (s.queueEv r) 8 3
  unfold State.tripEvent
  refine ⟨?_, fun a ha => ?_⟩
  · rw [irq, frame]
  · rw [irq]
    exact regs a ha

/-! The course of a trip. -/

/-- What the comparator notes when it becomes OUTSIDE. -/
def State.tripSee (s : State) (m : Nat) : State := ((s.setBit (FLINT_STAT m) 0 false).setBit (FLINT_STAT m) 1 false).latchAnew m

/-- A latch that had not been set is set, and its trip counted. -/
def State.tripLatch (s : State) (m : Nat) (high : Bool) : State :=
  ((s.setLatch m true).setBit (FLINT_STAT m) 3 high).inc (FLINT_TRIPCNT m)

/-- What a trip that latches brings about outside the monitor. -/
def State.tripAct (s : State) (m : Nat) (high : Bool) : State :=
  let s := (s.triggerAll (fun q => q.tsrc == 2 && q.tidx == m) s.now).tripMask m (bn high)
  (s.tripEvent (errorRec 7 7 1 0 0#64 s.now (resource 10 m) (bn high))).endModes 0x0B

theorem execFlintTrip_eq (s : State) (m : Fin 48) (high : Bool) : exec (.flintTrip m high) s = answer s
    (if !s.hasMon m.val || !s.bit (FLINT_CFG m.val) 0 || (s.flint.step.isSome && s.flint.mon == m.val) || s.mode == .boot
        || s.mode == .failed then s
    else if (s.tripSee m.val).flintLatched m.val then s.tripSee m.val
    else ((s.tripSee m.val).tripLatch m.val high).tripAct m.val high) := rfl

theorem tripSee_latched (s : State) (m k : Nat) : (s.tripSee m).flintLatched k = s.flintLatched k := by
  unfold State.tripSee
  rw [latchAnew_eq, flintLatched_eq, flintLatched_eq, bit_setBefore,
    bit_ne _ _ _ (reg_setBit_ne _ 1 false (latchReg_ne_stat k m)), bit_ne _ _ _ (reg_setBit_ne _ 0 false (latchReg_ne_stat k m))]

theorem tripSee_fresh (s : State) {m : Nat} (h : m < 48) : (s.tripSee m).latchFresh m = true := latchFresh_latchAnew _ h

theorem tripSee_frame (s : State) (m : Nat) :
    s.tripSee m = { s with regs := (s.tripSee m).regs, before := (s.tripSee m).before } ∧ RegsBut s (s.tripSee m) [FLINT_STAT m] ∧
      (s.tripSee m).bit (FLINT_STAT m) 0 = false := by
  unfold State.tripSee
  rw [latchAnew_eq]
  refine ⟨rfl, fun a ha => ?_, ?_⟩
  · have ha : a ≠ FLINT_STAT m := by simpa using ha
    exact (reg_setBit_ne _ 1 false ha).trans (reg_setBit_ne s 0 false ha)
  · rw [bit_setBefore, bit_setBit_ne _ _ _ _ _ (by decide) (by decide), bit_setBit _ _ _ _ (by decide)]

/-- What a trip that latches leaves of its monitor, before it acts on the partitions. -/
structure TripLatched (s t : State) (m : Nat) (high : Bool) : Prop where
  frame : t = { s with regs := t.regs, pins := t.pins }
  regs : RegsBut s t (FLINT_TRIPCNT m :: latchRegs m)
  latched : t.flintLatched m = true
  side : t.bit (FLINT_STAT m) 3 = high
  count : t.regN (FLINT_TRIPCNT m) = min (s.regN (FLINT_TRIPCNT m) + 1) (2 ^ 32 - 1)
  pin : m < 4 → t.pins.tripOut.getLsbD m = true

theorem regN_inc (s : State) (a : Nat) : (s.inc a).regN a = min (s.regN a + 1) (2 ^ 32 - 1) := by
  have := regN_lt s a
  unfold State.inc satAdd
  rw [regN_setN]
  split <;> omega

theorem tripLatch_latched (s : State) {m : Nat} (h : m < 48) (high : Bool) : TripLatched s (s.tripLatch m high) m high := by
  have latch := setLatch_latchWork s h true
  have set := flintLatched_setLatch s h true
  have pin := fun h4 : m < 4 => tripOut_setLatch s h4 true
  unfold State.tripLatch
  generalize s.setLatch m true = a at latch set pin ⊢
  have shows := setStat_latchWork a m 3 high
  have side := bit_setBit a (FLINT_STAT m) 3 high (by decide)
  have latched : (a.setBit (FLINT_STAT m) 3 high).flintLatched m = true := by
    rw [flintLatched_eq, bit_ne _ _ _ (reg_setBit_ne a 3 high (latchReg_ne_stat m m)), ← flintLatched_eq, set]
  generalize hb : a.setBit (FLINT_STAT m) 3 high = b at shows side latched ⊢
  have pins : b.pins = a.pins := by rw [← hb]; rfl
  have all := latch.trans shows
  have count : ∀ x, x ≠ FLINT_TRIPCNT m → (b.inc (FLINT_TRIPCNT m)).reg x = b.reg x := fun x hx => reg_inc_ne b 1 hx
  have cntReg : FLINT_TRIPCNT m ∉ latchRegs m := by
    simp only [latchRegs, List.mem_cons, List.not_mem_nil, or_false, FLINT_TRIPCNT, FLINT_LATCH_LO, FLINT_LATCH_HI, FLINT_STAT]
    omega
  refine ⟨?_, fun x hx => ?_, ?_, ?_, ?_, fun h4 => ?_⟩
  · show _ = { s with regs := (b.inc (FLINT_TRIPCNT m)).regs, pins := b.pins }
    unfold State.inc
    rw [all.frame]
    rfl
  · obtain ⟨h1, h2⟩ := not_or.1 (mt List.mem_cons.2 hx)
    exact (count x h1).trans (all.regs x h2)
  · rw [flintLatched_eq, bit_ne _ _ _ (count _ ?_), ← flintLatched_eq, latched]
    have := latchReg_lt m
    unfold FLINT_TRIPCNT
    omega
  · rw [bit_ne _ _ _ (count _ (by unfold FLINT_TRIPCNT FLINT_STAT; omega)), side]
  · rw [regN_inc, State.regN, all.regs _ cntReg]
    rfl
  · show b.pins.tripOut.getLsbD m = true
    rw [pins]
    exact pin h4

/-- What a trip in RUN leaves, outside its monitor. -/
structure TripActed (s t : State) (m : Nat) : Prop where
  regs : ∀ a < 0x60000, t.reg a = s.reg a
  before : ∀ a < 0x60000, t.beforeN a = s.beforeN a
  pins : t.pins = s.pins
  held : ∀ p ∈ s.flintMask m, (t.part p).mode = .hold ∧
    ((s.part p).mode ≠ .hold → (t.part p).cause = .trip ∧ (t.part p).resumeNeeded = true) ∧ ∀ n ∈ s.ochsOf p, t.ochState n ≠ 2
  free : ∀ p, p ∉ s.flintMask m → (t.part p).mode = (s.part p).mode

theorem tripAct_acted {s : State} (hm : s.mode = .run) {m : Nat} (h : m < 48) (high : Bool) :
    TripActed s (s.tripAct m high) m := by
  have captures := triggerAll_captured s (fun q => q.tsrc == 2 && q.tidx == m) s.now
  unfold State.tripAct
  dsimp only
  generalize s.triggerAll _ s.now = a at captures ⊢
  have work := tripMask_work a m (bn high)
  have inMask := fun p => tripMask_in a (m := m) (side := bn high) (p := p)
  have outMask := fun p => tripMask_out a (m := m) (side := bn high) (p := p)
  generalize a.tripMask m (bn high) = b at work inMask outMask ⊢
  obtain ⟨frame, regs⟩ := tripEvent_frame b (errorRec 7 7 1 0 0#64 b.now (resource 10 m) (bn high))
  generalize b.tripEvent _ = c at frame regs ⊢
  have all := captures.holdWork.trans work
  have mode : c.mode = .run := by
    rw [frame]
    exact all.mode.trans hm
  rw [State.endModes, mode]
  have part : ∀ p, c.part p = b.part p := fun p => by rw [frame]; rfl
  have och : ∀ n < 64, c.ochState n = b.ochState n := fun n hn =>
    fld_ne _ _ _ _ (regs _ (by simp only [List.mem_singleton, OCH_STAT, HOST_EVLOST]; omega))
  have mask : a.flintMask m = s.flintMask m := by
    unfold State.flintMask State.nPart
    rw [captures.holdWork.variant]
    refine List.filter_congr fun p _ => bit_ne _ _ _ (captures.regs _ ?_)
    unfold FLINT_CFG
    omega
  refine ⟨fun x hx => ?_, fun x hx => ?_, ?_, fun p hp => ?_, fun p hp => ?_⟩
  · exact (regs x (by simp only [List.mem_singleton, HOST_EVLOST]; omega)).trans (all.regs x (by unfold HoldReg; omega))
  · refine Eq.trans ?_ (all.before x (by unfold HoldReg; omega))
    rw [frame]
    rfl
  · show c.pins = _
    rw [frame]
    exact all.pins
  · obtain ⟨held, cause, muted⟩ := inMask p (mask ▸ hp)
    show (c.part p).mode = _ ∧ (_ → (c.part p).cause = _ ∧ (c.part p).resumeNeeded = _) ∧ ∀ n ∈ _, c.ochState n ≠ 2
    rw [part]
    refine ⟨held, fun hne => cause ((captures.part p).mode.trans_ne hne), fun n hn => ?_⟩
    rw [och n (mem_ochsOf hn).1]
    exact muted n (captures.holdWork.ochsOf p ▸ hn)
  · show (c.part p).mode = _
    rw [part, (outMask p (mask ▸ hp)).2.mode, (captures.part p).mode]

/-! The clauses (15 R444, R445). -/

theorem flintTrip_off {s : State} {m : Fin 48} (h : s.hasMon m.val = false ∨ s.bit (FLINT_CFG m.val) 0 = false ∨ s.mode = .boot ∨
    s.mode = .failed) (high : Bool) (x : FlintIn) :
    exec (.flintTrip m high) s = .next s ∧ exec (.flintPeriodClear m x) s = .next s := by
  constructor
  · rw [execFlintTrip_eq, if_pos]
    · rfl
    · rcases h with h | h | h | h <;> simp [h]
  · refine congrArg (answer s) (if_neg ?_)
    rcases h with h | h | h | h <;> simp [h]

theorem answers_flintTrip_again {s : State} {m : Fin 48} {high : Bool} (ha : exec (.flintTrip m high) s = answer s (s.tripSee m.val))
    (hl : s.flintLatched m.val = true) : Answers (.flintTrip m high) s fun t => t.bit (FLINT_STAT m.val) 0 = false ∧
      t.flintLatched m.val = true ∧ RegsBut s t [FLINT_STAT m.val] ∧ t.latchFresh m.val = true ∧
      t = { s with regs := t.regs, before := t.before } := by
  obtain ⟨frame, regs, outside⟩ := tripSee_frame s m.val
  have h : answer s (s.tripSee m.val) = .next (s.tripSee m.val) := by
    rw [frame]
    rfl
  exact ⟨_, ha.trans h, outside, (tripSee_latched s _ _).trans hl, regs, tripSee_fresh s m.isLt, frame⟩

/-- A trip of a monitor that has not latched, in RUN. -/
theorem answers_flintTrip_anew {s : State} {m : Fin 48} {high : Bool} (hm : s.mode = .run)
    (ha : exec (.flintTrip m high) s = answer s (((s.tripSee m.val).tripLatch m.val high).tripAct m.val high)) :
    Answers (.flintTrip m high) s fun t =>
      t.flintLatched m.val = true ∧ t.latchFresh m.val = true ∧ t.bit (FLINT_STAT m.val) 3 = high ∧
      t.regN (FLINT_TRIPCNT m.val) = min (s.regN (FLINT_TRIPCNT m.val) + 1) (2 ^ 32 - 1) ∧
      (m.val < 4 → t.pins.tripOut.getLsbD m.val = true) ∧
      (∀ p < s.nPart, s.bit (FLINT_CFG m.val) (4 + p) = true → (t.part p).mode = .hold ∧
        ((s.part p).mode ≠ .hold → (t.part p).cause = .trip ∧ (t.part p).resumeNeeded = true) ∧
        ∀ n ∈ s.ochsOf p, t.ochState n ≠ 2) ∧
      (∀ p < s.nPart, s.bit (FLINT_CFG m.val) (4 + p) = false → (t.part p).mode = (s.part p).mode) := by
  have hlt := m.isLt
  obtain ⟨seeFrame, seeRegs, -⟩ := tripSee_frame s m.val
  have fresh := tripSee_fresh s hlt
  generalize s.tripSee m.val = a at ha seeFrame seeRegs fresh
  have latch := tripLatch_latched a hlt high
  generalize a.tripLatch m.val high = b at ha latch
  have mode : b.mode = .run := by
    rw [latch.frame, seeFrame]
    exact hm
  have acted := tripAct_acted mode hlt high
  generalize b.tripAct m.val high = c at ha acted
  have low : ∀ x, x ∈ FLINT_TRIPCNT m.val :: latchRegs m.val → x < 0x60000 := by
    simp only [latchRegs, List.mem_cons, List.not_mem_nil, or_false, FLINT_TRIPCNT, FLINT_LATCH_LO, FLINT_LATCH_HI, FLINT_STAT]
    omega
  have lowReg : latchReg m.val < 0x60000 := (latchReg_lt _).trans (by decide)
  have cfg : b.reg (FLINT_CFG m.val) = s.reg (FLINT_CFG m.val) := by
    refine (latch.regs _ ?_).trans (seeRegs _ ?_) <;>
    · simp only [latchRegs, List.mem_cons, List.not_mem_nil, or_false, FLINT_CFG, FLINT_TRIPCNT, FLINT_LATCH_LO,
        FLINT_LATCH_HI, FLINT_STAT]
      omega
  have variant : b.variant = s.variant := by rw [latch.frame, seeFrame]
  have part : ∀ p, b.part p = s.part p := fun p => by rw [latch.frame, seeFrame]; rfl
  have ochs : ∀ p, b.ochsOf p = s.ochsOf p := fun p => by
    unfold State.ochsOf State.nOch
    rw [variant]
    refine owner_congr State.ochOwner (fun _ _ => rfl) (fun k _ => (latch.regs _ ?_).trans (seeRegs _ ?_)) p
    · exact fun hin => absurd (low _ hin) (by unfold OCH_CTRL; omega)
    · simp only [List.mem_singleton, OCH_CTRL, FLINT_STAT]
      omega
  have mask : ∀ p < s.nPart, (p ∈ b.flintMask m.val ↔ s.bit (FLINT_CFG m.val) (4 + p) = true) := fun p hp => by
    rw [mem_flintMask, State.nPart, variant, bit_ne _ _ _ cfg]
    exact and_iff_right hp
  refine ⟨_, ha, ?_, ?_, ?_, ?_, fun h4 => ?_, fun p hp hb => ?_, fun p hp hb => ?_⟩
  · show c.flintLatched m.val = true
    rw [flintLatched_eq, bit_ne _ _ _ (acted.regs _ lowReg), ← flintLatched_eq]
    exact latch.latched
  · show c.latchFresh m.val = true
    rw [latchFresh_eq, acted.before _ lowReg]
    refine Eq.trans ?_ fresh
    rw [latchFresh_eq, latch.frame]
    rfl
  · show c.bit _ 3 = high
    rw [bit_ne _ _ _ (acted.regs _ (low _ (by simp [latchRegs])))]
    exact latch.side
  · show (c.reg _).toNat = _
    rw [acted.regs _ (low _ (by simp))]
    refine latch.count.trans ?_
    rw [State.regN, seeRegs _ (by simp only [List.mem_singleton, FLINT_TRIPCNT, FLINT_STAT]; omega)]
    rfl
  · show c.pins.tripOut.getLsbD m.val = true
    rw [acted.pins]
    exact latch.pin h4
  · rw [← part, ← ochs]
    exact acted.held p ((mask p hp).2 hb)
  · rw [← part]
    exact acted.free p fun hin => by simp [(mask p hp).1 hin] at hb

theorem flintTrip_on {s : State} {m : Fin 48} (hmon : s.hasMon m.val = true) (hen : s.bit (FLINT_CFG m.val) 0 = true)
    (hm : s.mode = .run) (ht : s.flint.step = none) (high : Bool) : exec (.flintTrip m high) s = answer s
      (if s.flintLatched m.val then s.tripSee m.val else ((s.tripSee m.val).tripLatch m.val high).tripAct m.val high) := by
  rw [execFlintTrip_eq, if_neg (by simp [hmon, hen, hm, ht]), tripSee_latched]

theorem answers_flintPeriodClear {s : State} {m : Fin 48} {x : FlintIn} (hmon : s.hasMon m.val = true)
    (hen : s.bit (FLINT_CFG m.val) 0 = true) (hm : s.mode = .run) (hmode : s.fld (FLINT_CFG m.val) 3 2 = 1)
    (hl : s.flintLatched m.val = true) (hp : s.now % max 1 (s.fld (FLINT_PERIOD m.val) 23 0) = 0) :
    Answers (.flintPeriodClear m x) s fun t => (t.flintLatched m.val = false ↔ x = .inside ∧ s.latchFresh m.val = false) ∧
      t = { s with regs := t.regs, pins := t.pins } ∧ RegsBut s t [FLINT_LATCH_LO, FLINT_LATCH_HI, FLINT_STAT m.val] := by
  obtain ⟨work, latched⟩ := flintClear_work s m.isLt x
  have ha : exec (.flintPeriodClear m x) s = answer s (s.flintClear m.val x) :=
    congrArg (answer s) (if_pos (by simp [hmon, hen, hm, hmode, hl, hp]))
  generalize s.flintClear m.val x = a at work latched ha
  refine ⟨a, ha.trans ?_, ?_, work.frame, work.regs⟩
  · rw [work.frame]
    rfl
  · rw [latched, hl]
    simp

/-! The clear by a write of the latch registers (15 R445). -/

/-- From `s` to `t` only latches have changed, with what shows them. -/
structure LatchesWork (s t : State) : Prop where
  frame : t = { s with regs := t.regs, pins := t.pins }
  regs : RegsBut s t ([FLINT_LATCH_LO, FLINT_LATCH_HI] ++ (List.range 48).map FLINT_STAT)

theorem LatchesWork.refl (s : State) : LatchesWork s s := ⟨rfl, fun _ _ => rfl⟩

theorem LatchesWork.trans (a b c : State) (h1 : LatchesWork a b) (h2 : LatchesWork b c) : LatchesWork a c := by
  refine ⟨?_, fun x hx => (h2.regs x hx).trans (h1.regs x hx)⟩
  rw [h2.frame, h1.frame]

theorem LatchWork.latchesWork {s t : State} {m : Nat} (h : LatchWork s t m) (hm : m < 48) : LatchesWork s t := by
  refine ⟨h.frame, fun a ha => h.regs a fun hin => ha ?_⟩
  simp only [latchRegs, List.mem_cons, List.not_mem_nil, or_false] at hin
  rcases hin with rfl | rfl | rfl
  · simp
  · simp
  · exact List.mem_append_right _ (List.mem_map_of_mem (List.mem_range.2 hm))

/-- From `s` to `t` the latch of monitor `k` stands as it did. -/
def SameLatch (k : Nat) (s t : State) : Prop := t.flintLatched k = s.flintLatched k ∧ t.latchFresh k = s.latchFresh k

theorem flintTry_of_input (s : State) {l : List FlintIn} {m : Nat} {x : FlintIn} (h : l[m]? = some x) :
    s.flintTry l m = s.flintClear m x := by
  simp only [State.flintTry, h]

/-- The monitors whose latch a write of `mask` attempts to clear. -/
def State.clearMons (s : State) (mask : BitVec 48) : List Nat :=
  (List.range 48).filter fun m => bitOf mask.toNat m && s.hasMon m && s.flintLatched m

theorem mem_clearMons {s : State} {mask : BitVec 48} {m : Nat} : m ∈ s.clearMons mask ↔
    m < 48 ∧ mask.getLsbD m = true ∧ s.hasMon m = true ∧ s.flintLatched m = true := by
  simp only [State.clearMons, List.mem_filter, List.mem_range, Bool.and_eq_true, and_assoc, bitOf_eq_testBit]
  rfl

/-- Every pass of the write of `mask`, over monitor `m`. -/
theorem clear_pass {s t : State} {mask : BitVec 48} {inputs : List FlintIn} (hi : inputs.length = 48) {m : Nat}
    (hm : m ∈ s.clearMons mask) : LatchWork t (t.flintTry inputs m) m ∧ (t.flintTry inputs m).flintLatched m =
      (t.flintLatched m && !(inputs[m]? == some .inside && !t.latchFresh m)) := by
  have h48 := (mem_clearMons.1 hm).1
  have hx : inputs[m]? = some inputs[m] := List.getElem?_eq_getElem _
  rw [flintTry_of_input t hx, hx]
  exact flintClear_work t h48 _

theorem clears_work (s : State) (mask : BitVec 48) {inputs : List FlintIn} (hi : inputs.length = 48) :
    LatchesWork s (s.forEach (s.clearMons mask) fun s m => s.flintTry inputs m) :=
  forEach_rel_mem (R := LatchesWork) .refl .trans (fun _ _ hm => (clear_pass hi hm).1.latchesWork (mem_clearMons.1 hm).1) s

theorem clears_latched (s : State) (mask : BitVec 48) {inputs : List FlintIn} (hi : inputs.length = 48) {k : Nat} (hk : k < 48) :
    ((s.forEach (s.clearMons mask) fun s m => s.flintTry inputs m).flintLatched k = true ↔ s.flintLatched k = true ∧
      ¬(mask.getLsbD k = true ∧ s.hasMon k = true ∧ inputs[k]? = some .inside ∧ s.latchFresh k = false)) := by
  have other : ∀ (t : State), ∀ m ∈ s.clearMons mask, m ≠ k → SameLatch k t (t.flintTry inputs m) := fun t m hm hne =>
    ⟨(clear_pass hi hm).1.others k (Ne.symm hne) hk, (clear_pass hi hm).1.fresh k⟩
  have refl : ∀ t, SameLatch k t t := fun _ => ⟨rfl, rfl⟩
  have trans : ∀ a b c, SameLatch k a b → SameLatch k b c → SameLatch k a c := fun _ _ _ h1 h2 =>
    ⟨h2.1.trans h1.1, h2.2.trans h1.2⟩
  by_cases hin : k ∈ s.clearMons mask
  · obtain ⟨-, hmask, hmon, -⟩ := mem_clearMons.1 hin
    obtain ⟨a, before, after⟩ := forEach_turn (f := fun s m => s.flintTry inputs m) refl trans (List.nodup_range.filter _) hin other s
    have latched := after.1.trans (clear_pass (t := a) hi hin).2
    rw [before.1, before.2] at latched
    refine Bool.eq_iff_iff.1 latched |>.trans ?_
    simp only [Bool.and_eq_true, Bool.not_eq_true', Bool.and_eq_false_iff, beq_eq_false_iff_ne, Bool.not_eq_false', hmask, hmon,
      true_and, not_and, Bool.not_eq_false, imp_iff_not_or, ne_eq]
  · have same := forEach_rel_mem (f := fun s m => s.flintTry inputs m) refl trans
      (fun t m hm => other t m hm fun (h : m = k) => hin (h ▸ hm)) s
    rw [same.1]
    refine ⟨fun hl => ⟨hl, fun ⟨h1, h2, _⟩ => hin (mem_clearMons.2 ⟨hk, h1, h2, hl⟩)⟩, fun h => h.1⟩

theorem answers_flintLatchWrite {s : State} (ho : s.opened) (mask : BitVec 48) {inputs : List FlintIn}
    (hi : inputs.length = 48) : Answers (.flintLatchWrite mask inputs) s fun t =>
      (∀ k < 48, (t.flintLatched k = true ↔ s.flintLatched k = true ∧
        ¬(mask.getLsbD k = true ∧ s.hasMon k = true ∧ inputs[k]? = some .inside ∧ s.latchFresh k = false))) ∧
      RegsBut s t ([FLINT_LATCH_LO, FLINT_LATCH_HI] ++ (List.range 48).map FLINT_STAT) ∧
      t = { s with regs := t.regs, pins := t.pins } := by
  have work := clears_work s mask hi
  have latched := fun k (hk : k < 48) => clears_latched s mask hi hk
  have ha : exec (.flintLatchWrite mask inputs) s = answer s (s.forEach (s.clearMons mask) fun s m => s.flintTry inputs m) := by
    refine congrArg (answer s) ((pf0_opened ho _).trans (if_neg ?_))
    simp [ho.2.1, ho.2.2]
  generalize s.forEach (s.clearMons mask) (fun s m => s.flintTry inputs m) = a at work latched ha
  refine ⟨a, ha.trans ?_, latched, work.regs, work.frame⟩
  rw [work.frame]
  rfl

end Sys2Proof.Machine

namespace Sys2Proof.Machine

/-! The self-test (15 R447). -/

/-- A write of FLINT_TEST with RUN: the monitor and TOQUIET. -/
def State.testSelect (s : State) (d : Nat) : State := (s.setFld FLINT_TEST 5 0 (bits d 5 0)).setBit FLINT_TEST 7 (bitOf d 7)

/-- The start of a self-test of monitor `m`. -/
def State.testStart (s : State) (m : Nat) (quiet : Bool) : State :=
  let s : State := { s with flint := { mon := m, step := some 1, started := s.now, quiet := quiet } }
  (s.setBit FLINT_TSTAT 0 true).setFld FLINT_TSTAT 6 3 0

theorem bits_low6 (d : Nat) : bits d 5 0 = d % 64 := rfl

theorem fld_testSelect (s : State) (d : Nat) : (s.testSelect d).fld FLINT_TEST 5 0 = d % 64 := by
  unfold State.testSelect
  rw [fld_setBit_disj _ _ _ _ _ _ (by decide) (by decide), fld_setFld _ _ _ _ _ (by decide) (by decide), bits_low6]
  exact Nat.mod_mod ..

theorem reg_testSelect (s : State) (d : Nat) : RegsBut s (s.testSelect d) [FLINT_TEST] := fun a ha => by
  have ha : a ≠ FLINT_TEST := by simpa using ha
  exact (reg_setBit_ne _ 7 _ ha).trans (reg_setFld_ne s _ _ _ ha)

theorem testSelect_frame (s : State) (d : Nat) : s.testSelect d = { s with regs := (s.testSelect d).regs } := rfl

theorem testStart_frame (s : State) (m : Nat) (quiet : Bool) :
    s.testStart m quiet = { s with regs := (s.testStart m quiet).regs, flint := (s.testStart m quiet).flint } := rfl

theorem reg_testStart (s : State) (m : Nat) (quiet : Bool) : RegsBut s (s.testStart m quiet) [FLINT_TSTAT] := by
  intro a ha
  have ha : a ≠ FLINT_TSTAT := by simpa using ha
  unfold State.testStart
  rw [reg_setFld_ne _ _ _ _ ha, reg_setBit_ne _ _ _ ha]
  rfl

theorem stick_frame (s : State) (a i : Nat) : s.stick a i = { s with regs := (s.stick a i).regs, before := (s.stick a i).before } := rfl

theorem flintTestWrite_run (s : State) {d : Word} (hd : d.getLsbD 6 = true) (hm : d.toNat % 64 ≤ 47) :
    s.flintTestWrite d = if s.mode == .test && s.flint.step.isNone && s.hasMon (d.toNat % 64) then
      (s.testSelect d.toNat).testStart (d.toNat % 64) (d.getLsbD 7) else (s.testSelect d.toNat).stick FLINT_TSTAT 2 := by
  have mon := fld_testSelect s d.toNat
  unfold State.flintTestWrite
  dsimp only
  rw [bits_low6, if_pos hm, bitOf_toNat d 6, hd, bitOf_toNat d 7]
  unfold State.testSelect at mon ⊢
  rw [bits_low6, bitOf_toNat] at mon ⊢
  rw [mon]
  rfl

theorem answers_flintTestRun_start {s : State} (ho : s.opened) {d : Word} (hd : d.getLsbD 6 = true) (hm : d.toNat % 64 ≤ 47)
    (hmode : s.mode = .test) (hstep : s.flint.step = none) (hmon : s.hasMon (d.toNat % 64) = true) :
    Answers (.flintTestRun d) s fun t =>
      t.flint = { mon := d.toNat % 64, step := some 1, started := s.now, quiet := d.getLsbD 7 } ∧
      t.bit FLINT_TSTAT 0 = true ∧ t.fld FLINT_TSTAT 6 3 = 0 ∧ RegsBut s t [FLINT_TEST, FLINT_TSTAT] ∧
      t = { s with regs := t.regs, flint := t.flint } := by
  refine ⟨(s.testSelect d.toNat).testStart (d.toNat % 64) (d.getLsbD 7), ?_, rfl, ?_, ?_, fun a ha => ?_, ?_⟩
  · refine (congrArg (answer s) ((pf0_opened ho _).trans ((flintTestWrite_run s hd hm).trans (if_pos ?_)))).trans (answer_next _ _ ?_ ?_ ?_ ?_)
    · simp [hmode, hstep, hmon]
    all_goals rw [testStart_frame, testSelect_frame]
  · unfold State.testStart
    rw [bit_setFld_disj _ _ _ _ _ _ (by decide) (by decide) (by decide), bit_setBit _ _ _ _ (by decide)]
  · unfold State.testStart
    rw [fld_setFld _ _ _ _ _ (by decide) (by decide)]
    rfl
  · simp only [List.mem_cons, List.not_mem_nil, or_false, not_or] at ha
    exact (reg_testStart _ _ _ a (by simpa using ha.2)).trans (reg_testSelect s _ a (by simpa using ha.1))
  · rw [testStart_frame, testSelect_frame]

theorem answers_flintTestRun_refused {s : State} (ho : s.opened) {d : Word} (hd : d.getLsbD 6 = true)
    (hm : d.toNat % 64 ≤ 47) (h : s.mode ≠ .test ∨ s.flint.step ≠ none) : Answers (.flintTestRun d) s fun t =>
      t.bit FLINT_TSTAT 2 = true ∧ RegsBut s t [FLINT_TEST, FLINT_TSTAT] ∧ t = { s with regs := t.regs, before := t.before } := by
  refine ⟨(s.testSelect d.toNat).stick FLINT_TSTAT 2, ?_, bit_setBit _ _ _ _ (by decide), fun a ha => ?_, by rw [stick_frame, testSelect_frame]⟩
  · refine (congrArg (answer s) ((pf0_opened ho _).trans ((flintTestWrite_run s hd hm).trans (if_neg ?_)))).trans rfl
    rcases h with h | h
    · simp [h]
    · simp [Option.isNone_iff_eq_none, h]
  · simp only [List.mem_cons, List.not_mem_nil, or_false, not_or] at ha
    exact (reg_stick_ne _ 2 ha.2).trans (reg_testSelect s _ a (by simpa using ha.1))

/-! The steps of the self-test. -/

/-- Whether step `k` passes. -/
def State.testPass (s : State) (k : Nat) (seen : FlintIn) (ok : Bool) : Bool :=
  match k with
  | 1 => seen == .inside
  | 2 => seen == .low || (s.tie s.flint.mon 2).isNone
  | 3 => seen == .high || (s.tie s.flint.mon 3).isNone
  | _ => ok

/-- The result of step `k` is shown. -/
def State.testShow (s : State) (k : Nat) (pass : Bool) : State := s.setBit FLINT_TSTAT (2 + k) pass

/-- The self-test goes on from step `k` to the next. -/
def State.testNext (s : State) (k : Nat) (seen : FlintIn) : State :=
  let hit := (k == 2 || k == 3) && (s.tie s.flint.mon k).isSome && (seen == .low || seen == .high)
  let m := s.flint.mon
  let s : State := { s with flint := { s.flint with step := some (k + 1) } }
  if hit then s.testLatch m true else s

/-- The self-test of monitor `m` is over. -/
def State.testOver (s : State) (m : Nat) (seen : FlintIn) : State :=
  let s := s.flintSee m seen
  let s : State := { s with flint := {} }
  let s := (s.setBit FLINT_TSTAT 0 false).stick FLINT_TSTAT 1
  s.setLatch m (s.bit (FLINT_CFG m) 0 && !s.bit (FLINT_STAT m) 0)

theorem execFlintTestStep_eq {s : State} {k : Nat} (h : s.flint.step = some k) (x : FlintIn) (ok : Bool) :
    exec (.flintTestStep x ok) s = answer s (
      if s.now < s.flint.started + 640 * k then s
      else if k < 4 then (s.testShow k (s.testPass k x ok)).testNext k x
      else (s.testShow k (s.testPass k x ok)).testOver s.flint.mon x) := by
  show answer s (match s.flint.step with | none => _ | some k => _) = _
  rw [h]
  rfl

/-- What a step of the self-test of monitor `m` may change. -/
structure TestWork (s t : State) (m : Nat) : Prop where
  frame : t = { s with regs := t.regs, before := t.before, flint := t.flint, pins := t.pins }
  regs : RegsBut s t (FLINT_TSTAT :: latchRegs m)

theorem TestWork.trans {a b c : State} {m : Nat} (h1 : TestWork a b m) (h2 : TestWork b c m) : TestWork a c m := by
  refine ⟨?_, fun x hx => (h2.regs x hx).trans (h1.regs x hx)⟩
  rw [h2.frame, h1.frame]

theorem LatchWork.testWork {s t : State} {m : Nat} (h : LatchWork s t m) : TestWork s t m := by
  refine ⟨?_, fun a ha => h.regs a fun hin => ha (List.mem_cons_of_mem _ hin)⟩
  rw [h.frame]

theorem testShow_testWork (s : State) (k : Nat) (pass : Bool) (m : Nat) : TestWork s (s.testShow k pass) m :=
  ⟨rfl, fun _ ha => reg_setBit_ne s _ _ fun h => ha (by simp [h])⟩

theorem testState_ne_latch (m : Nat) : FLINT_TSTAT ∉ latchRegs m := by
  simp only [latchRegs, List.mem_cons, List.not_mem_nil, or_false, FLINT_TSTAT, FLINT_LATCH_LO, FLINT_LATCH_HI, FLINT_STAT]
  omega

/-- The latch path in the test; TOQUIET keeps the trip pins. -/
theorem testLatch_work (s : State) {m : Nat} (h : m < 48) (b : Bool) : LatchWork s (s.testLatch m b) m ∧
    (s.testLatch m b).flintLatched m = b ∧ (s.testLatch m b).flint = s.flint ∧
    (s.flint.quiet = true → (s.testLatch m b).pins = s.pins) ∧
    (s.flint.quiet = false → m < 4 → (s.testLatch m b).pins.tripOut.getLsbD m = b) := by
  have work := setLatch_latchWork s h b
  have latched := flintLatched_setLatch s h b
  have pin := fun h4 : m < 4 => tripOut_setLatch s h4 b
  have pins : (s.setLatch m b).pins = s.latchPins m b := by rw [setLatch_eq]
  have flint := setLatch_flint s m b
  unfold State.testLatch
  dsimp only
  generalize s.setLatch m b = a at work latched pin pins flint ⊢
  have back : { a.pins with tripOut := s.pins.tripOut } = s.pins := by
    rw [pins, State.latchPins]
    split <;> rfl
  rw [flint]
  split
  · rename_i hq
    refine ⟨⟨?_, work.regs, work.others, fun _ => back⟩, latched, flint, fun _ => back, fun h => by simp [hq] at h⟩
    rw [work.frame]
    rfl
  · rename_i hq
    exact ⟨work, latched, flint, fun h => absurd h hq, fun _ => pin⟩

theorem testNext_work (s : State) (k : Nat) (x : FlintIn) (h : s.flint.mon < 48) :
    TestWork s (s.testNext k x) s.flint.mon ∧ (s.testNext k x).reg FLINT_TSTAT = s.reg FLINT_TSTAT ∧
    (s.testNext k x).flint = { s.flint with step := some (k + 1) } ∧
    (k = 2 → 16 ≤ s.fld (FLINT_THR s.flint.mon) 11 0 → x = .low ∨ x = .high →
      (s.testNext k x).flintLatched s.flint.mon = true ∧ (s.flint.quiet = true → (s.testNext k x).pins = s.pins) ∧
      (s.flint.quiet = false → s.flint.mon < 4 → (s.testNext k x).pins.tripOut.getLsbD s.flint.mon = true)) := by
  have hit : k = 2 → 16 ≤ s.fld (FLINT_THR s.flint.mon) 11 0 → x = .low ∨ x = .high →
      ((k == 2 || k == 3) && (s.tie s.flint.mon k).isSome && (x == .low || x == .high)) = true := by
    rintro rfl hlo hx
    have tied : s.tie s.flint.mon 2 = some (s.fld (FLINT_THR s.flint.mon) 11 0 - 16) := if_neg (by omega)
    rw [tied]
    rcases hx with rfl | rfl <;> rfl
  have steps : TestWork s { s with flint := { s.flint with step := some (k + 1) } } s.flint.mon := ⟨rfl, fun _ _ => rfl⟩
  unfold State.testNext
  dsimp only
  split
  · obtain ⟨work, latched, flint, quiet, loud⟩ :=
      testLatch_work { s with flint := { s.flint with step := some (k + 1) } } h true
    exact ⟨steps.trans work.testWork, work.regs _ (testState_ne_latch _), flint, fun _ _ _ => ⟨latched, quiet, loud⟩⟩
  · rename_i hn
    exact ⟨steps, rfl, rfl, fun hk hlo hx => absurd (hit hk hlo hx) hn⟩

/-- The self-test is shown as done. -/
def State.testDone (s : State) : State :=
  let s : State := { s with flint := {} }
  (s.setBit FLINT_TSTAT 0 false).stick FLINT_TSTAT 1

theorem testOver_eq (s : State) (m : Nat) (x : FlintIn) : s.testOver m x = (s.flintSee m x).testDone.setLatch m
    ((s.flintSee m x).testDone.bit (FLINT_CFG m) 0 && !(s.flintSee m x).testDone.bit (FLINT_STAT m) 0) := rfl

theorem testDone_regs (s : State) : RegsBut s s.testDone [FLINT_TSTAT] := fun a ha => by
  have ha : a ≠ FLINT_TSTAT := by simpa using ha
  unfold State.testDone
  rw [reg_stick_ne _ _ ha, reg_setBit_ne _ _ _ ha]
  rfl

theorem testDone_frame (s : State) : s.testDone =
    { s with regs := s.testDone.regs, before := s.testDone.before, flint := {} } := rfl

theorem testDone_bits (s : State) : s.testDone.bit FLINT_TSTAT 0 = false ∧ s.testDone.bit FLINT_TSTAT 1 = true ∧
    s.testDone.bit FLINT_TSTAT 6 = s.bit FLINT_TSTAT 6 := by
  unfold State.testDone State.stick
  refine ⟨?_, bit_setBit _ _ _ _ (by decide), ?_⟩
  · rw [bit_setBit_ne _ _ _ _ _ (by decide) (by decide), bit_setBefore, bit_setBit _ _ _ _ (by decide)]
  · rw [bit_setBit_ne _ _ _ _ _ (by decide) (by decide), bit_setBefore, bit_setBit_ne _ _ _ _ _ (by decide) (by decide)]
    rfl

/-- What the end of the self-test of monitor `m` leaves. -/
structure TestLeft (s t : State) (m : Nat) (x : FlintIn) : Prop extends TestWork s t m where
  flint : t.flint = {}
  idle : t.bit FLINT_TSTAT 0 = false
  done : t.bit FLINT_TSTAT 1 = true
  swapped : t.bit FLINT_TSTAT 6 = s.bit FLINT_TSTAT 6
  inside : x = .inside → t.flintLatched m = false
  outside : x = .low ∨ x = .high → t.flintLatched m = s.bit (FLINT_CFG m) 0

theorem testOver_left (s : State) {m : Nat} (h : m < 48) (x : FlintIn) : TestLeft s (s.testOver m x) m x := by
  have see := flintSee_latchWork s m x
  have inside := inside_flintSee s m
  rw [testOver_eq]
  have seen : x = .inside → (s.flintSee m x).bit (FLINT_STAT m) 0 = true := fun hx => hx ▸ inside.1
  have unseen := inside.2 x
  generalize s.flintSee m x = a at see seen unseen ⊢
  have regs := testDone_regs a
  have frame := testDone_frame a
  obtain ⟨idle, done, swapped⟩ := testDone_bits a
  generalize a.testDone = b at regs frame idle done swapped ⊢
  have shown : TestWork a b m := by
    refine ⟨?_, fun y hy => regs y fun hin => hy ?_⟩
    · rw [frame]
    · rw [List.mem_singleton.1 hin]
      exact List.mem_cons_self
  have stat : b.bit (FLINT_STAT m) 0 = a.bit (FLINT_STAT m) 0 := bit_ne _ _ _ (regs _ (by
    simp only [List.mem_singleton, FLINT_STAT, FLINT_TSTAT]; omega))
  have cfg : b.bit (FLINT_CFG m) 0 = s.bit (FLINT_CFG m) 0 := by
    refine bit_ne _ _ _ ((regs _ ?_).trans (see.regs _ ?_))
    · simp only [List.mem_singleton, FLINT_CFG, FLINT_TSTAT]
      omega
    · simp only [latchRegs, List.mem_cons, List.not_mem_nil, or_false, FLINT_CFG, FLINT_LATCH_LO, FLINT_LATCH_HI, FLINT_STAT]
      omega
  have work := setLatch_latchWork b h (b.bit (FLINT_CFG m) 0 && !b.bit (FLINT_STAT m) 0)
  have latched := flintLatched_setLatch b h (b.bit (FLINT_CFG m) 0 && !b.bit (FLINT_STAT m) 0)
  have flint := setLatch_flint b m (b.bit (FLINT_CFG m) 0 && !b.bit (FLINT_STAT m) 0)
  generalize b.setLatch m _ = c at work latched flint ⊢
  have shows : c.reg FLINT_TSTAT = b.reg FLINT_TSTAT := work.regs _ (testState_ne_latch m)
  refine ⟨(see.testWork.trans shown).trans work.testWork, ?_, (bit_ne _ _ _ shows).trans idle, (bit_ne _ _ _ shows).trans done,
    (bit_ne _ _ _ shows).trans (swapped.trans (bit_ne _ _ _ (see.regs _ (testState_ne_latch m)))), fun hx => ?_, fun hx => ?_⟩
  · rw [flint, frame]
  · rw [latched, stat, seen hx, Bool.not_true, Bool.and_false]
  · rw [latched, stat, unseen hx, cfg, Bool.not_false, Bool.and_true]

/-- Whether steps 2 and 3 are skipped: the tied code would lie outside the converter's range. -/
theorem tie_isNone (s : State) (m : Nat) : ((s.tie m 2).isNone = true ↔ s.fld (FLINT_THR m) 11 0 < 16) ∧
    ((s.tie m 3).isNone = true ↔ 4079 < s.fld (FLINT_THR m) 27 16) := by
  unfold State.tie
  dsimp only
  constructor <;> split <;> simp_all

theorem testPass_iff (s : State) (x : FlintIn) (ok : Bool) : (s.testPass 1 x ok = true ↔ x = .inside) ∧
    (s.testPass 2 x ok = true ↔ x = .low ∨ s.fld (FLINT_THR s.flint.mon) 11 0 < 16) ∧
    (s.testPass 3 x ok = true ↔ x = .high ∨ 4079 < s.fld (FLINT_THR s.flint.mon) 27 16) ∧ s.testPass 4 x ok = ok := by
  obtain ⟨low, high⟩ := tie_isNone s s.flint.mon
  simp only [State.testPass, Bool.or_eq_true, low, high, beq_iff_eq, and_self]

/-- What every step of the self-test of monitor `m` leaves alone. -/
theorem TestWork.leaves {s t : State} {m : Nat} (h : TestWork s t m) :
    t.regN (FLINT_TRIPCNT m) = s.regN (FLINT_TRIPCNT m) ∧ t.parts = s.parts ∧
      RegsBut s t [FLINT_TSTAT, FLINT_STAT m, FLINT_LATCH_LO, FLINT_LATCH_HI] ∧
      t = { s with regs := t.regs, before := t.before, flint := t.flint, pins := t.pins } := by
  refine ⟨congrArg BitVec.toNat (h.regs _ ?_), by rw [h.frame], fun a ha => h.regs a ?_, h.frame⟩
  · simp only [latchRegs, List.mem_cons, List.not_mem_nil, or_false, FLINT_TRIPCNT, FLINT_TSTAT, FLINT_LATCH_LO, FLINT_LATCH_HI,
      FLINT_STAT]
    omega
  · simp only [latchRegs, List.mem_cons, List.not_mem_nil, or_false] at ha ⊢
    tauto

/-- A command that leaves what only other commands write answers its state. -/
theorem TestWork.answer {s t : State} {m : Nat} (h : TestWork s t m) : answer s t = .next t := by
  rw [h.frame]
  rfl

/-- What the end of step `k` leaves, as the obligation says it. -/
def StepLeaves (s : State) (k : Nat) (x : FlintIn) (ok : Bool) (t : State) : Prop :=
  let m := s.flint.mon
  let lo := s.fld (FLINT_THR m) 11 0
  let hi := s.fld (FLINT_THR m) 27 16
  (k = 1 → (t.bit FLINT_TSTAT 3 = true ↔ x = .inside)) ∧
  (k = 2 → (t.bit FLINT_TSTAT 4 = true ↔ x = .low ∨ lo < 16)) ∧
  (k = 3 → (t.bit FLINT_TSTAT 5 = true ↔ x = .high ∨ 4079 < hi)) ∧
  (k = 4 → t.bit FLINT_TSTAT 6 = ok) ∧
  (k < 4 → t.flint = { s.flint with step := some (k + 1) }) ∧
  (k = 4 → t.flint = {} ∧ t.bit FLINT_TSTAT 0 = false ∧ t.bit FLINT_TSTAT 1 = true ∧
    (x = .inside → t.flintLatched m = false) ∧
    (x = .low ∨ x = .high → t.flintLatched m = s.bit (FLINT_CFG m) 0)) ∧
  (k = 2 → 16 ≤ lo → x = .low ∨ x = .high → t.flintLatched m = true ∧
    (s.flint.quiet = true → t.pins = s.pins) ∧
    (s.flint.quiet = false → m < 4 → t.pins.tripOut.getLsbD m = true)) ∧
  t.regN (FLINT_TRIPCNT m) = s.regN (FLINT_TRIPCNT m) ∧ t.parts = s.parts ∧
  RegsBut s t [FLINT_TSTAT, FLINT_STAT m, FLINT_LATCH_LO, FLINT_LATCH_HI] ∧
  t = { s with regs := t.regs, before := t.before, flint := t.flint, pins := t.pins }

theorem testStep_next {s : State} {k : Nat} (hk : 1 ≤ k) (hk4 : k < 4) (h : s.flint.mon < 48) (x : FlintIn) (ok : Bool) :
    TestWork s ((s.testShow k (s.testPass k x ok)).testNext k x) s.flint.mon ∧
      StepLeaves s k x ok ((s.testShow k (s.testPass k x ok)).testNext k x) := by
  obtain ⟨pass1, pass2, pass3, -⟩ := testPass_iff s x ok
  have shows := testShow_testWork s k (s.testPass k x ok) s.flint.mon
  have shown : (s.testShow k (s.testPass k x ok)).bit FLINT_TSTAT (2 + k) = s.testPass k x ok := bit_setBit _ _ _ _ (by omega)
  have thr : (s.testShow k (s.testPass k x ok)).fld (FLINT_THR s.flint.mon) 11 0 = s.fld (FLINT_THR s.flint.mon) 11 0 :=
    fld_ne _ _ _ _ (reg_setBit_ne s _ _ (by unfold FLINT_THR FLINT_TSTAT; omega))
  have same : (s.testShow k (s.testPass k x ok)).flint = s.flint ∧ (s.testShow k (s.testPass k x ok)).pins = s.pins := ⟨rfl, rfl⟩
  generalize s.testShow k (s.testPass k x ok) = a at shows shown thr same ⊢
  obtain ⟨work, state, flint, latch⟩ := testNext_work a k x (by rwa [same.1])
  rw [same.1, same.2, thr] at latch
  rw [same.1] at work flint
  generalize a.testNext k x = b at work state flint latch ⊢
  have all := shows.trans work
  have result : b.bit FLINT_TSTAT (2 + k) = s.testPass k x ok := (bit_ne _ _ _ state).trans shown
  refine ⟨all, ?_, ?_, ?_, by omega, fun _ => flint, by omega, latch, all.leaves⟩
  · rintro rfl
    rw [result, pass1]
  · rintro rfl
    rw [result, pass2]
  · rintro rfl
    rw [result, pass3]

theorem testStep_last {s : State} (h : s.flint.mon < 48) (x : FlintIn) (ok : Bool) :
    TestWork s ((s.testShow 4 (s.testPass 4 x ok)).testOver s.flint.mon x) s.flint.mon ∧
      StepLeaves s 4 x ok ((s.testShow 4 (s.testPass 4 x ok)).testOver s.flint.mon x) := by
  have shows := testShow_testWork s 4 (s.testPass 4 x ok) s.flint.mon
  have shown : (s.testShow 4 (s.testPass 4 x ok)).bit FLINT_TSTAT 6 = ok := bit_setBit _ _ _ _ (by decide)
  have cfg : (s.testShow 4 (s.testPass 4 x ok)).bit (FLINT_CFG s.flint.mon) 0 = s.bit (FLINT_CFG s.flint.mon) 0 :=
    bit_ne _ _ _ (reg_setBit_ne s _ _ (by unfold FLINT_CFG FLINT_TSTAT; omega))
  generalize s.testShow 4 (s.testPass 4 x ok) = a at shows shown cfg ⊢
  have left := testOver_left a h x
  generalize a.testOver s.flint.mon x = b at left ⊢
  have all := shows.trans left.toTestWork
  exact ⟨all, by omega, by omega, by omega, fun _ => left.swapped.trans shown, by omega,
    fun _ => ⟨left.flint, left.idle, left.done, left.inside, fun hx => (left.outside hx).trans cfg⟩, by omega, all.leaves⟩

theorem answers_flintTestStep {s : State} {k : Nat} (hs : s.flint.step = some k) (h : s.flint.mon < 48)
    (ht : s.flint.started + 640 * k ≤ s.now) (hk : 1 ≤ k) (hk4 : k ≤ 4) (x : FlintIn) (ok : Bool) :
    Answers (.flintTestStep x ok) s (StepLeaves s k x ok) := by
  rw [Answers, execFlintTestStep_eq hs, if_neg (by omega)]
  by_cases h4 : k < 4
  · obtain ⟨work, leaves⟩ := testStep_next hk h4 h x ok
    exact ⟨_, (if_pos h4 ▸ work.answer), leaves⟩
  · obtain rfl : k = 4 := by omega
    obtain ⟨work, leaves⟩ := testStep_last h x ok
    exact ⟨_, (if_neg h4 ▸ work.answer), leaves⟩

/-- Settles O46, by what a change of one latch leaves of the others and by what each partition's trip leaves of the
others. -/
theorem flint : Obligations.Flint := by
  refine ⟨fun s m high mask inputs x => ⟨fun h => flintTrip_off h high x, fun hmon hen hm ht => ?_,
    fun ho hi => answers_flintLatchWrite ho mask hi⟩, fun s d x ok => ⟨fun ho hd hm => ⟨?_, ?_⟩, fun h => ?_, fun k hs h => ⟨?_, ?_⟩⟩⟩
  · have ha := flintTrip_on hmon hen hm ht high
    refine ⟨fun hl => answers_flintTrip_again (ha.trans (congrArg _ (if_pos hl))) hl,
      fun hl => answers_flintTrip_anew hm (ha.trans (congrArg _ (if_neg (by simp [hl])))),
      fun hmode hl hp => answers_flintPeriodClear hmon hen hm hmode hl hp⟩
  · exact answers_flintTestRun_start ho hd hm
  · exact answers_flintTestRun_refused ho hd hm
  · show answer s (match s.flint.step with | none => _ | some k => _) = _
    rw [h]
    rfl
  · intro ht
    rw [execFlintTestStep_eq hs, if_pos ht]
    rfl
  · exact fun ht hk hk4 => answers_flintTestStep hs h ht hk hk4 x ok

end Sys2Proof.Machine

namespace Sys2Proof.Machine

/-! What a partition reset does once its partition is in HOLD (13 R411; 18 R505). -/

/-- From `s` to `t` only registers from `lo` up to `hi` have changed. -/
structure RegBand (lo hi : Nat) (s t : State) : Prop where
  frame : t = { s with regs := t.regs, before := t.before }
  regs : ∀ a, a < lo ∨ hi ≤ a → t.reg a = s.reg a

namespace RegBand
variable {lo hi : Nat}

theorem refl (s : State) : RegBand lo hi s s := ⟨rfl, fun _ _ => rfl⟩

theorem trans {a b c : State} (h1 : RegBand lo hi a b) (h2 : RegBand lo hi b c) : RegBand lo hi a c := by
  refine ⟨?_, fun x hx => (h2.regs x hx).trans (h1.regs x hx)⟩
  rw [h2.frame, h1.frame]

theorem setReg (s : State) {a : Nat} (v : Word) (h1 : lo ≤ a) (h2 : a < hi) : RegBand lo hi s (s.setReg a v) :=
  ⟨rfl, fun _ _ => reg_setReg_ne s v (by omega)⟩

theorem setN (s : State) {a : Nat} (v : Nat) (h1 : lo ≤ a) (h2 : a < hi) : RegBand lo hi s (s.setN a v) := setReg s _ h1 h2

theorem setFld (s : State) {a : Nat} (x y v : Nat) (h1 : lo ≤ a) (h2 : a < hi) : RegBand lo hi s (s.setFld a x y v) :=
  setN s _ h1 h2

theorem setBit (s : State) {a : Nat} (i : Nat) (b : Bool) (h1 : lo ≤ a) (h2 : a < hi) : RegBand lo hi s (s.setBit a i b) :=
  setFld s _ _ _ h1 h2

theorem setBefore (s : State) (a v : Nat) : RegBand lo hi s (s.setBefore a v) := ⟨rfl, fun _ _ => rfl⟩

/-- A fold of passes that stay in the band stays in it. -/
theorem foldl {α : Type} {f : State → α → State} {l : List α} (h : ∀ s, ∀ x ∈ l, RegBand lo hi s (f s x)) (s : State) :
    RegBand lo hi s (l.foldl f s) := forEach_rel_mem .refl (fun _ _ _ => .trans) h s

theorem zeroRegs (s : State) {l : List Nat} (h : ∀ a ∈ l, lo ≤ a ∧ a < hi) : RegBand lo hi s (s.zeroRegs l) :=
  foldl (fun s a ha => setN s 0 (h a ha).1 (h a ha).2) s

theorem clearCounts (s : State) {l : List Nat} (h : ∀ a ∈ l, lo ≤ a ∧ a < hi) : RegBand lo hi s (s.clearCounts l) :=
  foldl (fun s a ha => (setN s _ (h a ha).1 (h a ha).2).trans (setBefore ..)) s

end RegBand

/-- From `s` to `t`, work of a reset on what its partition owns: partitions, fabric and configuration stay, and no channel
changes its state, no slot its owner. -/
structure ResetWork (s t : State) : Prop where
  frame : t = { s with
    regs := t.regs, before := t.before, cores := t.cores, micas := t.micas, frames := t.frames, issued := t.issued
    geo := t.geo, slots := t.slots, graphs := t.graphs, loops := t.loops, rings := t.rings, reqs := t.reqs
    biases := t.biases }
  och : ∀ n < 64, t.ochState n = s.ochState n
  slotCfg : ∀ i < 512, t.reg (DEC_SLOTCFG i) = s.reg (DEC_SLOTCFG i)

/-- Registers from `lo` up to `hi` hold no channel's state and no slot's owner. -/
def SideBand (lo hi : Nat) : Prop := hi ≤ 0x80000 ∨ (0x84000 ≤ lo ∧ hi ≤ 0x241000) ∨ 0x244000 ≤ lo

namespace ResetWork

theorem refl (s : State) : ResetWork s s := ⟨rfl, fun _ _ => rfl, fun _ _ => rfl⟩

theorem trans {a b c : State} (h1 : ResetWork a b) (h2 : ResetWork b c) : ResetWork a c := by
  refine ⟨?_, fun n hn => (h2.och n hn).trans (h1.och n hn), fun i hi => (h2.slotCfg i hi).trans (h1.slotCfg i hi)⟩
  rw [h2.frame, h1.frame]

/-- Work on registers of such a band, and on tables. -/
theorem of_regs {s t : State} {lo hi : Nat} (hf : t = { s with
    regs := t.regs, before := t.before, cores := t.cores, micas := t.micas, frames := t.frames, issued := t.issued
    geo := t.geo, slots := t.slots, graphs := t.graphs, loops := t.loops, rings := t.rings, reqs := t.reqs
    biases := t.biases }) (hr : ∀ a, a < lo ∨ hi ≤ a → t.reg a = s.reg a) (hb : SideBand lo hi) : ResetWork s t := by
  unfold SideBand at hb
  exact ⟨hf, fun n hn => fld_ne _ _ _ _ (hr _ (by unfold OCH_STAT; omega)), fun i hi => hr _ (by unfold DEC_SLOTCFG; omega)⟩

theorem slotsOf {s t : State} (h : ResetWork s t) (p : Nat) : t.slotsOf p = s.slotsOf p :=
  owner_congr State.slotOwner (fun _ _ => rfl) h.slotCfg p

end ResetWork

/-- From `s` to `t`, work of a reset that leaves cores, frames and slots alone. -/
structure SideWork (s t : State) : Prop extends ResetWork s t where
  cores : t.cores = s.cores
  frames : t.frames = s.frames
  slots : t.slots = s.slots

namespace SideWork

theorem refl (s : State) : SideWork s s := ⟨.refl s, rfl, rfl, rfl⟩

theorem trans {a b c : State} (h1 : SideWork a b) (h2 : SideWork b c) : SideWork a c :=
  ⟨h1.toResetWork.trans h2.toResetWork, h2.cores.trans h1.cores, h2.frames.trans h1.frames, h2.slots.trans h1.slots⟩

theorem of_regs {s t : State} {lo hi : Nat} (hf : t = { s with
    regs := t.regs, before := t.before, micas := t.micas, issued := t.issued, geo := t.geo, graphs := t.graphs
    loops := t.loops, rings := t.rings, reqs := t.reqs, biases := t.biases })
    (hr : ∀ a, a < lo ∨ hi ≤ a → t.reg a = s.reg a) (hb : SideBand lo hi) : SideWork s t := by
  refine ⟨.of_regs ?_ hr hb, ?_, ?_, ?_⟩ <;> rw [hf]

theorem of_band {s t : State} {lo hi : Nat} (h : RegBand lo hi s t) (hb : SideBand lo hi) : SideWork s t := by
  refine .of_regs ?_ h.regs hb
  rw [h.frame]

/-- Work on tables. -/
theorem of_frame {s t : State} (hf : t = { s with
    micas := t.micas, issued := t.issued, geo := t.geo, graphs := t.graphs, loops := t.loops, rings := t.rings
    reqs := t.reqs, biases := t.biases }) : SideWork s t := by
  have hr : ∀ a, t.reg a = s.reg a := fun a => by rw [hf]; rfl
  refine .of_regs (lo := 0) (hi := 0) ?_ (fun a _ => hr a) (.inl (by decide))
  rw [hf]

theorem forEach {α : Type} {f : State → α → State} {l : List α} (h : ∀ s, ∀ x ∈ l, SideWork s (f s x)) (s : State) :
    SideWork s (s.forEach l f) := forEach_rel_mem .refl (fun _ _ _ => .trans) h s

end SideWork

/-! The cores. -/

theorem mem_qtzOf {s : State} {p c : Nat} (h : c ∈ s.qtzOf p) : c < 16 := by
  simp only [State.qtzOf, List.mem_filter, List.mem_range, State.nQtz] at h
  have := nOch_le s
  omega

/-- From `s` to `t` only registers of the Quartz block and cores have changed. -/
structure CoreWork (s t : State) : Prop where
  frame : t = { s with regs := t.regs, before := t.before, cores := t.cores }
  regs : ∀ a, a < 0x100000 ∨ 0x110000 ≤ a → t.reg a = s.reg a

theorem CoreWork.refl (s : State) : CoreWork s s := ⟨rfl, fun _ _ => rfl⟩

theorem CoreWork.trans (a b c : State) (h1 : CoreWork a b) (h2 : CoreWork b c) : CoreWork a c := by
  refine ⟨?_, fun x hx => (h2.regs x hx).trans (h1.regs x hx)⟩
  rw [h2.frame, h1.frame]

/-- The registers of core `c` at a reset. -/
def State.qtzZero (s : State) (c : Nat) : State := ((s.qtzCounters c).setN (QTZ_FAULT c) 0).setBit (QTZ_STAT c) 14 false

theorem qtzClear_eq (s : State) (c : Nat) : s.qtzClear c = (s.updQtz c fun _ => {}).qtzZero c := rfl

theorem qtzZero_band (s : State) {c : Nat} (hc : c < 16) : RegBand 0x100000 0x110000 s (s.qtzZero c) := by
  unfold State.qtzZero State.qtzCounters
  refine RegBand.trans ?_ (.setBit _ _ _ ?_ ?_)
  · refine RegBand.trans ?_ (.setN _ _ ?_ ?_)
    · refine RegBand.trans ?_ (.setN _ _ ?_ ?_)
      · refine .clearCounts s ?_
        simp only [List.forall_mem_cons, List.not_mem_nil, false_imp_iff, implies_true, and_true, QTZ_LATECNT, QTZ_ICMISS,
          QTZ_STALL_LA, QTZ_STALL_BRD, QTZ_STALL_SYNC]
        omega
      all_goals unfold QTZ_SLACKMIN; omega
    all_goals unfold QTZ_FAULT; omega
  all_goals unfold QTZ_STAT; omega

theorem qtzClear_work (s : State) {c : Nat} (hc : c < 16) : CoreWork s (s.qtzClear c) ∧ (s.qtzClear c).qtz c = {} ∧
    ∀ k, k ≠ c → (s.qtzClear c).qtz k = s.qtz k := by
  rw [qtzClear_eq]
  have band := qtzZero_band (s.updQtz c fun _ => {}) hc
  generalize (s.updQtz c fun _ => {}).qtzZero c = t at band ⊢
  have same : ∀ k, t.qtz k = (s.updQtz c fun _ => {}).qtz k := fun k => by
    rw [band.frame]
    rfl
  refine ⟨⟨?_, band.regs⟩, by rw [same, qtz_updQtz], fun k hk => by rw [same, qtz_updQtz_ne _ _ hk]⟩
  rw [band.frame]
  rfl

theorem qtzClears_work (s : State) {l : List Nat} (hl : ∀ c ∈ l, c < 16) : CoreWork s (s.forEach l State.qtzClear) ∧
    (∀ c ∈ l, (s.forEach l State.qtzClear).qtz c = {}) ∧ ∀ c, c ∉ l → (s.forEach l State.qtzClear).qtz c = s.qtz c := by
  refine ⟨forEach_rel_mem .refl .trans (fun t c hc => (qtzClear_work t (hl c hc)).1) s, fun c hc => ?_, fun c hc => ?_⟩
  · refine forEach_reaches (P := fun t : State => t.qtz c = {}) (f := State.qtzClear) hc (fun t => ?_) (fun t k hk ht => ?_) s
    · exact (qtzClear_work t (hl c hc)).2.1
    by_cases h : c = k
    · subst h
      exact (qtzClear_work t (hl c hc)).2.1
    · rw [(qtzClear_work t (hl k hk)).2.2 c h, ht]
  · refine forEach_keeps (P := fun t => t.qtz c = s.qtz c) (fun t k hk ht => ?_) rfl
    rw [(qtzClear_work t (hl k hk)).2.2 c (fun h => hc (h ▸ hk)), ht]

theorem CoreWork.resetWork {s t : State} (h : CoreWork s t) : ResetWork s t := by
  refine .of_regs ?_ h.regs (.inr (.inl (by decide)))
  rw [h.frame]

/-! The Mica cores and the library. -/

theorem mem_micasOf {s : State} {p k : Nat} (h : k ∈ s.micasOf p) : k < 64 := by
  simp only [State.micasOf, List.mem_filter, List.mem_range, State.nMica] at h
  exact h.1.trans_le (nOch_le s)

/-- The registers of Mica core `k` that its clearing zeroes. -/
def State.micaZero (s : State) (k : Nat) : State := (s.micaCounters k).setN (MICA_FAULT k) 0

theorem micaZero_band (s : State) {k : Nat} (hk : k < 64) : RegBand 0xE0000 0xE2000 s (s.micaZero k) := by
  unfold State.micaZero State.micaCounters
  refine RegBand.trans ?_ (.setN _ _ ?_ ?_)
  · refine RegBand.trans (.clearCounts s ?_) (.zeroRegs _ ?_)
    all_goals
      simp only [List.forall_mem_cons, List.not_mem_nil, false_imp_iff, implies_true, and_true, MICA_EMITCNT, MICA_OVFCNT,
        MICA_ERRCNT, MICA_FIFODROP, MICA_CBRSTCNT, MICA_DMWREF, MICA_FIFOMAX]
      omega
  all_goals unfold MICA_FAULT; omega

theorem discRegs_band {k d : Nat} (hk : k < 64) (hd : d < 4) :
    ∀ a ∈ [MICA_DROT k d, MICA_DT01 k d, MICA_DT12 k d, MICA_DCFG k d], 0xE0000 ≤ a ∧ a < 0xE2000 := by
  simp only [List.forall_mem_cons, List.not_mem_nil, false_imp_iff, implies_true, and_true, MICA_DROT, MICA_DT01, MICA_DT12,
    MICA_DCFG]
  omega

theorem partMicas_side (s : State) (p : Nat) : SideWork s (s.partMicas p) := by
  unfold State.partMicas
  refine .forEach (fun t k hk => ?_) s
  have hk := mem_micasOf hk
  have clears : SideWork t (((t.micaClear k).setN (MICA_FAULT k) 0).updMica k fun m => { m with const := m.constShadow }) := by
    have band := micaZero_band (t.updMica k fun m => { m with ctx := [], stopped := false, faulted := false }) hk
    exact (SideWork.of_frame rfl).trans ((SideWork.of_band band (.inr (.inl (by decide)))).trans (.of_frame rfl))
  refine clears.trans (.of_band (lo := 0xE0000) (hi := 0xE2000) ?_ (.inr (.inl (by decide))))
  refine .foldl (fun u a ha => ?_) _
  obtain ⟨d, hd, ha⟩ := List.mem_flatMap.1 ha
  obtain ⟨h1, h2⟩ := discRegs_band hk (List.mem_range.1 hd) a ha
  exact .setReg _ _ h1 h2

theorem partLibrary_side (s : State) (p : Nat) : SideWork s (s.partLibrary p) := by
  unfold State.partLibrary
  exact (SideWork.forEach (fun t n _ => .of_frame rfl) s).trans (.of_frame rfl)

/-! Frames, slots, loops and graph. -/

/-- The pass of the reset over frame `f`: applied and issued take the shadow's value. -/
def State.frameReset (s : State) (f : Nat) : State :=
  let v := look (fun _ => {}) s.frameShadow f
  (s.setFrame f v).setIssued f v

theorem frameReset_frame (s : State) (f : Nat) :
    s.frameReset f = { s with frames := (s.frameReset f).frames, issued := (s.frameReset f).issued } := rfl

theorem frame_frameReset (s : State) (f : Nat) : (s.frameReset f).frame f = look (fun _ => {}) s.frameShadow f :=
  look_put_eq ..

theorem frame_frameReset_ne (s : State) {f g : Nat} (h : g ≠ f) : (s.frameReset f).frame g = s.frame g := look_put_ne _ _ h

theorem framesReset_work (s : State) (l : List Nat) :
    s.forEach l State.frameReset =
      { s with frames := (s.forEach l State.frameReset).frames, issued := (s.forEach l State.frameReset).issued } :=
  forEach_rel_mem (R := fun a b => b = { a with frames := b.frames, issued := b.issued }) (fun _ => rfl)
    (fun a b c h1 h2 => by rw [h2, h1]) (fun t f _ => frameReset_frame t f) s

theorem frame_framesReset (s : State) {l : List Nat} {f : Nat} (hf : f ∈ l) :
    (s.forEach l State.frameReset).frame f = look (fun _ => {}) s.frameShadow f := by
  have h : (s.forEach l State.frameReset).frame f = look (fun _ => {}) (s.forEach l State.frameReset).frameShadow f := by
    refine forEach_reaches (P := fun t : State => t.frame f = look (fun _ => {}) t.frameShadow f) (f := State.frameReset) hf
      (frame_frameReset · f) (fun t g _ ht => ?_) s
    by_cases hg : f = g
    · rw [← hg]
      exact frame_frameReset t f
    · rw [frame_frameReset_ne t hg]
      exact ht
  rw [h, framesReset_work]

theorem slots_cleared (s : State) (l : List Nat) {i : Nat} (hi : i ∈ l) :
    (s.forEach l fun s i => s.updSlot i fun _ => {}).slot i = {} := by
  refine forEach_reaches (P := fun t : State => t.slot i = {}) (f := fun s i => s.updSlot i fun _ => {}) hi
    (fun t => slot_updSlot ..) (fun t k _ ht => ?_) s
  by_cases h : i = k
  · subst h
    exact slot_updSlot ..
  · rw [slot_updSlot_ne _ _ h, ht]

/-- What the reset leaves of the partition's frames and slots. -/
structure DecisionsReset (s t : State) (p : Nat) : Prop extends ResetWork s t where
  cores : t.cores = s.cores
  frames : ∀ f ∈ s.framesOf p, t.frame f = look (fun _ => {}) s.frameShadow f
  cleared : ∀ i ∈ s.slotsOf p, t.slot i = {}
  others : ∀ i, i ∉ s.slotsOf p → t.slot i = s.slot i

/-- The loops and the graph of partition `p`. -/
def State.loopsReset (s : State) (p : Nat) : State :=
  let s := s.forEach (s.trkAll.filter fun l => s.trkOwner l == p) fun s l =>
    (s.updLoop l fun x => { state := 1, ref := x.ref }).zeroRegs [DEC_TRKCTL l, DEC_TRKADJ l]
  s.updGraph p fun g => { g with run := {} }

/-- The frames and slots of partition `p`. -/
def State.valuesReset (s : State) (p : Nat) : State :=
  let s := s.forEach (s.framesOf p) State.frameReset
  s.forEach (s.slotsOf p) fun s i => s.updSlot i fun _ => {}

theorem partDecisions_eq (s : State) (p : Nat) : s.partDecisions p = (s.valuesReset p).loopsReset p := rfl

theorem loopsReset_side (s : State) (p : Nat) : SideWork s (s.loopsReset p) := by
  unfold State.loopsReset
  refine (SideWork.forEach (fun t l hl => ?_) s).trans (.of_frame rfl)
  have hl : l < 64 := List.mem_range.1 (List.mem_of_mem_filter (List.mem_of_mem_filter hl))
  refine (SideWork.of_frame rfl).trans (.of_band (lo := 0x244000) (hi := 0x245000) (.zeroRegs _ ?_) (.inr (.inr (by decide))))
  simp only [List.forall_mem_cons, List.not_mem_nil, false_imp_iff, implies_true, and_true, DEC_TRKCTL, DEC_TRKADJ]
  omega

theorem partDecisions_reset (s : State) (p : Nat) : DecisionsReset s (s.partDecisions p) p := by
  rw [partDecisions_eq, State.valuesReset]
  have frames := framesReset_work s (s.framesOf p)
  have values := fun f hf => frame_framesReset s (l := s.framesOf p) (f := f) hf
  generalize s.forEach (s.framesOf p) State.frameReset = a at frames values ⊢
  have slotsOf : a.slotsOf p = s.slotsOf p := by rw [frames]; rfl
  rw [slotsOf]
  obtain ⟨slots, others⟩ := forEach_slotsOnly (l := s.slotsOf p) (fun t i => updSlot_slotsOnly t i fun _ => {}) a
  have cleared := fun i hi => slots_cleared a (s.slotsOf p) (i := i) hi
  generalize a.forEach (s.slotsOf p) (fun s i => s.updSlot i fun _ => {}) = b at slots others cleared ⊢
  have loops := loopsReset_side b p
  generalize b.loopsReset p = c at loops ⊢
  have upTo : ResetWork s b := by
    refine ⟨?_, fun n _ => ?_, fun i _ => ?_⟩ <;> rw [slots, frames] <;> rfl
  have slot : ∀ i, c.slot i = b.slot i := fun i => by unfold State.slot; rw [loops.slots]
  refine ⟨upTo.trans loops.toResetWork, ?_, fun f hf => ?_, fun i hi => (slot i).trans (cleared i hi), fun i hi => ?_⟩
  · rw [loops.cores, slots, frames]
  · rw [State.frame, loops.frames, slots]
    exact values f hf
  · rw [slot, others i hi, frames]
    rfl

end Sys2Proof.Machine

namespace Sys2Proof.Machine

/-! The captures, bias outputs and counters of a reset (10 R332; 15 R440; 18 R505). -/

theorem captureReset_side (s : State) {p : Nat} (hp : p < 8) : SideWork s (s.captureReset p) := by
  unfold State.captureReset
  have rings : SideWork s (s.forEach (s.ringsOf p) fun s r =>
      (s.updRing r fun _ => {}).zeroRegs [CAP_RWRITTEN r, CAP_RDROPPED r, CAP_RGAPS r]) := by
    refine .forEach (fun t r hr => ?_) s
    have hr : r < 32 := List.mem_range.1 (List.mem_of_mem_filter hr)
    refine (SideWork.of_frame rfl).trans (.of_band (lo := 0x340000) (hi := 0x341000) (.zeroRegs _ ?_) (.inr (.inr (by decide))))
    simp only [List.forall_mem_cons, List.not_mem_nil, false_imp_iff, implies_true, and_true, CAP_RWRITTEN, CAP_RDROPPED, CAP_RGAPS]
    omega
  refine rings.trans ((SideWork.of_frame rfl).trans
    (.of_band (lo := 0x340000) (hi := 0x341000) (.zeroRegs _ ?_) (.inr (.inr (by decide)))))
  simp only [List.forall_mem_cons, List.not_mem_nil, false_imp_iff, implies_true, and_true, CAP_TRIGCNT, CAP_TRIGIGN]
  omega

theorem BiasWork.side {s t : State} {n : Nat} (h : BiasWork s t n) (hn : n < 128) : SideWork s t := by
  refine .of_regs (lo := 0x60000) (hi := 0x62000) ?_ (fun a ha => h.regs a ?_) (.inl (by decide))
  · rw [h.frame]
  · simp only [List.mem_singleton, BIAS_STAT]
    omega

theorem biasReset_side (s : State) (p : Nat) : SideWork s (s.biasReset p) := by
  unfold State.biasReset
  refine .forEach (fun t n hn => ?_) s
  have hn := (mem_biasesOf hn).1
  dsimp only
  split
  · exact ((BiasWork.updBias ..).trans (.biasDefault ..)).side hn
  · exact (BiasWork.updBias ..).side hn

/-- The counters of output channel `n` are zeroed, and its sticky bits. -/
def State.ochCounters (s : State) (n : Nat) : State :=
  (s.zeroRegs [OCH_SATCNT n, OCH_JCNT n, OCH_JLATE n, OCH_PEAK n]).setN (OCH_STAT n)
    (setBits (setBits (s.regN (OCH_STAT n)) 6 5 0) 2 2 0)

theorem ochCounters_side (s : State) {n : Nat} (hn : n < 64) : SideWork s (s.ochCounters n) := by
  unfold State.ochCounters
  have zeroes : RegBand 0x80000 0x84000 s (s.zeroRegs [OCH_SATCNT n, OCH_JCNT n, OCH_JLATE n, OCH_PEAK n]) := by
    refine .zeroRegs s ?_
    simp only [List.forall_mem_cons, List.not_mem_nil, false_imp_iff, implies_true, and_true, OCH_SATCNT, OCH_JCNT, OCH_JLATE,
      OCH_PEAK]
    omega
  have states : ∀ k, (s.zeroRegs [OCH_SATCNT n, OCH_JCNT n, OCH_JLATE n, OCH_PEAK n]).reg (OCH_STAT k) = s.reg (OCH_STAT k) :=
    fun k => reg_zeroRegs_ne s _ (by
      simp only [List.mem_cons, List.not_mem_nil, or_false, OCH_STAT, OCH_SATCNT, OCH_JCNT, OCH_JLATE, OCH_PEAK]
      omega)
  generalize s.zeroRegs [OCH_SATCNT n, OCH_JCNT n, OCH_JLATE n, OCH_PEAK n] = a at zeroes states ⊢
  have state : ∀ k, a.ochState k = s.ochState k := fun k => fld_ne _ _ _ _ (states k)
  refine ⟨⟨?_, fun k _ => ?_, fun i hi => ?_⟩, ?_, ?_, ?_⟩
  · rw [zeroes.frame]
    rfl
  · rw [← state k]
    by_cases hk : k = n
    · subst hk
      rw [state k]
      show bits (State.regN _ (OCH_STAT k)) 1 0 = bits (s.regN (OCH_STAT k)) 1 0
      rw [regN_setN, Nat.mod_eq_of_lt]
      · rw [bits_setBits_below _ _ _ _ _ _ (by decide), bits_setBits_below _ _ _ _ _ _ (by decide)]
      · exact setBits_lt _ _ _ _ (setBits_lt _ _ _ _ (regN_lt s _) (by decide) (by decide)) (by decide) (by decide)
    · exact fld_ne _ _ _ _ (reg_setN_ne a _ (by unfold OCH_STAT; omega))
  · exact (reg_setN_ne a _ (by unfold OCH_STAT DEC_SLOTCFG; omega)).trans (zeroes.regs _ (by unfold DEC_SLOTCFG; omega))
  all_goals
    rw [zeroes.frame]
    rfl

theorem mem_ichsOf {s : State} {p m : Nat} (h : m ∈ s.ichsOf p) : m < 16 := by
  simp only [State.ichsOf, List.mem_filter, List.mem_range, State.nIch] at h
  have := nOch_le s
  omega

/-- The counters of input channel `m` are zeroed, and its sticky bit. -/
def State.ichCounters (s : State) (m : Nat) : State :=
  (s.zeroRegs [ICH_OVRCNT m, ICH_SATCNT m, ICH_WINCNT m, ICH_SETTLECNT m, ICH_REFUSE m, ICH_PEAK m]).setBit (ICH_STAT m) 2 false

theorem ichCounters_side (s : State) {m : Nat} (hm : m < 16) : SideWork s (s.ichCounters m) := by
  refine .of_band (lo := 0xC0000) (hi := 0xC2000) (RegBand.trans (.zeroRegs s ?_) (.setBit _ _ _ ?_ ?_)) (.inr (.inl (by decide)))
  · simp only [List.forall_mem_cons, List.not_mem_nil, false_imp_iff, implies_true, and_true, ICH_OVRCNT, ICH_SATCNT, ICH_WINCNT,
      ICH_SETTLECNT, ICH_REFUSE, ICH_PEAK]
    omega
  all_goals unfold ICH_STAT; omega

/-- The counters of bias output `n` are zeroed, and its sticky bits. -/
def State.biasCounters (s : State) (n : Nat) : State := (s.zeroRegs [BIAS_LATECNT n, BIAS_SCCNT n]).setFld (BIAS_STAT n) 10 7 0

theorem biasCounters_side (s : State) {n : Nat} (hn : n < 128) : SideWork s (s.biasCounters n) := by
  refine .of_band (lo := 0x60000) (hi := 0x62000) (RegBand.trans (.zeroRegs s ?_) (.setFld _ _ _ _ ?_ ?_)) (.inl (by decide))
  · simp only [List.forall_mem_cons, List.not_mem_nil, false_imp_iff, implies_true, and_true, BIAS_LATECNT, BIAS_SCCNT]
    omega
  all_goals unfold BIAS_STAT; omega

/-- The counters of partition `p` itself. -/
def partCounterRegs (p : Nat) : List Nat :=
  [GEODE_UNDERRUN p, GEODE_SETFULL p, GEODE_FILLS p, SCHED_PEAK p, SCHED_LXCNT p, SCHED_DLATE p, STRATA_JMAX p,
    STRATA_REPLAYS p, STRATA_FAILS p, GARNET_ROUNDS p, GARNET_LATE p, GARNET_ERR p, GARNET_LATMAX p, GARNET_LASTLAT p,
    CAP_PTRIG p, CAP_TRIGCNT p, CAP_TRIGIGN p, MEM_PLENT p, MEM_PBORROWED p] ++ (List.range 12).map (STRATA_CAUSECNT p)

theorem partCounterRegs_side {p a : Nat} (hp : p < 8) (h : a ∈ partCounterRegs p) :
    (0x200000 ≤ a ∧ a < 0x240000) ∨ 0x300000 ≤ a := by
  simp only [partCounterRegs, List.mem_append, List.mem_cons, List.not_mem_nil, or_false, List.mem_map, List.mem_range,
    GEODE_UNDERRUN, GEODE_SETFULL, GEODE_FILLS, SCHED_PEAK, SCHED_LXCNT, SCHED_DLATE, STRATA_JMAX, STRATA_REPLAYS, STRATA_FAILS,
    GARNET_ROUNDS, GARNET_LATE, GARNET_ERR, GARNET_LATMAX, GARNET_LASTLAT, CAP_PTRIG, CAP_TRIGCNT, CAP_TRIGIGN, MEM_PLENT,
    MEM_PBORROWED, STRATA_CAUSECNT] at h
  rcases h with h | ⟨k, hk, rfl⟩ <;> omega

theorem zeroRegs_frame (s : State) (l : List Nat) : s.zeroRegs l = { s with regs := (s.zeroRegs l).regs } :=
  forEach_rel_mem (R := fun a b => b = { a with regs := b.regs }) (fun _ => rfl) (fun a b c h1 h2 => by rw [h2, h1])
    (fun _ _ _ => rfl) s

theorem ownCounters_side (s : State) {p : Nat} (hp : p < 8) : SideWork s (s.zeroRegs (partCounterRegs p)) := by
  have own : ∀ a, (0x84000 ≤ a ∧ a < 0x200000) ∨ a < 0x84000 ∨ (0x240000 ≤ a ∧ a < 0x300000) →
      (s.zeroRegs (partCounterRegs p)).reg a = s.reg a := fun a ha => reg_zeroRegs_ne s _ fun h => by
    have := partCounterRegs_side hp h
    omega
  have frame := zeroRegs_frame s (partCounterRegs p)
  generalize s.zeroRegs (partCounterRegs p) = t at own frame ⊢
  refine ⟨⟨?_, fun n hn => fld_ne _ _ _ _ (own _ (by unfold OCH_STAT; omega)), fun i hi => own _ (by unfold DEC_SLOTCFG; omega)⟩,
    ?_, ?_, ?_⟩ <;> rw [frame]

theorem partCounters_eq (s : State) (p : Nat) : s.partCounters p =
    (let s := s.forEach (s.ochsOf p) State.ochCounters
    let s := s.forEach (s.ichsOf p) State.ichCounters
    (s.forEach (s.biasesOf p) State.biasCounters).zeroRegs (partCounterRegs p)) := rfl

theorem partCounters_side (s : State) {p : Nat} (hp : p < 8) : SideWork s (s.partCounters p) := by
  rw [partCounters_eq]
  have ochs : SideWork s (s.forEach (s.ochsOf p) State.ochCounters) :=
    .forEach (fun t n hn => ochCounters_side t (mem_ochsOf hn).1) s
  dsimp only
  generalize s.forEach (s.ochsOf p) State.ochCounters = a at ochs ⊢
  have ichs : SideWork a (a.forEach (a.ichsOf p) State.ichCounters) := .forEach (fun t m hm => ichCounters_side t (mem_ichsOf hm)) a
  generalize a.forEach (a.ichsOf p) State.ichCounters = b at ichs ⊢
  have biases : SideWork b (b.forEach (b.biasesOf p) State.biasCounters) :=
    .forEach (fun t n hn => biasCounters_side t (mem_biasesOf hn).1) b
  exact ((ochs.trans ichs).trans biases).trans (ownCounters_side _ hp)

end Sys2Proof.Machine

namespace Sys2Proof.Machine

/-! A partition reset and an FLR (13 R411, R412; 18 R505). -/

/-- Partition `p` is in HOLD, its channels muted, and nothing of it is left in the fabric. -/
def State.resetHold (s : State) (p : Nat) : State :=
  let s := s.forEach (s.ochsOf p) State.asyncMute
  ((s.enterHold p .reset []).discardAll p).updFab fun b => { b with
    events := b.events.filter (·.part != p), users := b.users.filter (·.1 != p) }

theorem resetHold_course (s : State) {p : Nat} (hp : p < 8) : HoldCourse s (s.resetHold p) p ∧
    (∀ n ∈ s.ochsOf p, (s.resetHold p).ochState n ≠ 2) ∧ ∀ e ∈ (s.resetHold p).fab.events, e.part ≠ p := by
  obtain ⟨mutes, muted⟩ := muteAll_holdStage s p
  unfold State.resetHold
  dsimp only
  generalize s.forEach (s.ochsOf p) State.asyncMute = a at mutes muted ⊢
  have enters := enterHold_course a hp .reset
  generalize a.enterHold p .reset [] = b at enters ⊢
  have discards := (discardAll_holdStage b p).course
  generalize b.discardAll p = c at discards ⊢
  have empties : HoldWork c (c.updFab fun b => { b with
      events := b.events.filter (·.part != p), users := b.users.filter (·.1 != p) }) :=
    .of_frame rfl (.of_subset (fun _ => List.mem_of_mem_filter) (fun _ => id) fun _ => id)
  have held := (enters.trans discards).trans (HoldStage.of_work empties rfl rfl rfl).course
  refine ⟨mutes.course.trans held, fun n hn => held.work.och_ne (mem_ochsOf hn).1 (muted n hn), fun e he => ?_⟩
  simpa using (List.mem_filter.1 he).2

/-- The record of a partition that has been reset at tick `now`. -/
def clearedPart (c : HoldCause × Bool) (now : Nat) : Part := { cause := c.1, resumeNeeded := c.2, holdAt := now, rbusy := true }

/-- Partition `p`'s record is cleared, with cause and resume bit `c`. -/
def State.resetPart (s : State) (p : Nat) (c : HoldCause × Bool) : State :=
  let q := s.part p
  s.updPart p fun _ => { clearedPart c s.now with preset := q.preset, cfgerr := q.cfgerr, d3 := q.d3 }

/-- What partition `p` owns is cleared. -/
def State.resetOwned (s : State) (p : Nat) : State :=
  let s := s.forEach (s.qtzOf p) State.qtzClear
  let s := ((s.partMicas p).partLibrary p).partDecisions p
  ((s.captureReset p).biasReset p).partCounters p

theorem partReset_eq (s : State) (p : Nat) :
    s.partReset p = (((s.resetHold p).resetPart p (s.resetCause p))).resetOwned p := by
  have above : s.resetCause p = (let was := s.part p
      let above := was.mode == .hold && was.holdAt == s.now && decide (holdRank was.cause < holdRank .reset)
      (if above then was.cause else HoldCause.reset, above)) := by
    unfold State.resetCause
    dsimp only
    split
    · rename_i h
      obtain ⟨hm, ht, hr⟩ := h
      simp [hm, ht, hr]
    · rename_i h
      have : ((s.part p).mode == .hold && (s.part p).holdAt == s.now &&
          decide (holdRank (s.part p).cause < holdRank .reset)) = false := by
        simpa [Bool.and_eq_false_iff, and_assoc, not_and_or] using h
      simp [this]
  rw [above]
  rfl

/-- What the clearing of what partition `p` owns leaves. -/
structure OwnedReset (s t : State) (p : Nat) : Prop extends ResetWork s t where
  cores : ∀ c ∈ s.qtzOf p, t.qtz c = {}
  otherCores : ∀ c, c ∉ s.qtzOf p → t.qtz c = s.qtz c
  frames : ∀ f ∈ s.framesOf p, t.frame f = look (fun _ => {}) s.frameShadow f
  slots : ∀ i ∈ s.slotsOf p, t.slot i = {}
  otherSlots : ∀ i, i ∉ s.slotsOf p → t.slot i = s.slot i

theorem resetOwned_reset (s : State) {p : Nat} (hp : p < 8) : OwnedReset s (s.resetOwned p) p := by
  unfold State.resetOwned
  dsimp only
  obtain ⟨coreWork, cleared, others⟩ := qtzClears_work s (l := s.qtzOf p) fun c hc => mem_qtzOf hc
  generalize s.forEach (s.qtzOf p) State.qtzClear = a at coreWork cleared others ⊢
  have sides := (partMicas_side a p).trans (partLibrary_side (a.partMicas p) p)
  generalize (a.partMicas p).partLibrary p = b at sides ⊢
  have decisions := partDecisions_reset b p
  generalize b.partDecisions p = c at decisions ⊢
  have counts := ((captureReset_side c hp).trans (biasReset_side _ p)).trans (partCounters_side _ hp)
  generalize ((c.captureReset p).biasReset p).partCounters p = d at counts ⊢
  have upTo : ResetWork s b := coreWork.resetWork.trans sides.toResetWork
  have framesOf : b.framesOf p = s.framesOf p ∧ b.frameShadow = s.frameShadow := by
    unfold State.framesOf
    constructor <;> rw [upTo.frame]
  have slotsOf : b.slotsOf p = s.slotsOf p := upTo.slotsOf p
  have qtz : ∀ k, d.qtz k = a.qtz k := fun k => by
    unfold State.qtz
    rw [counts.cores, decisions.cores, sides.cores]
  have slot : ∀ i, d.slot i = c.slot i := fun i => by
    unfold State.slot
    rw [counts.slots]
  refine ⟨(upTo.trans decisions.toResetWork).trans counts.toResetWork, fun k hk => (qtz k).trans (cleared k hk),
    fun k hk => (qtz k).trans (others k hk), fun f hf => ?_, fun i hi => ?_, fun i hi => ?_⟩
  · rw [State.frame, counts.frames, ← framesOf.2]
    exact decisions.frames f (by rwa [framesOf.1])
  · rw [slot]
    exact decisions.cleared i (by rwa [slotsOf])
  · rw [slot, decisions.others i (by rwa [slotsOf])]
    unfold State.slot
    rw [sides.slots, coreWork.frame]

/-- From `s` to `t` partition `p` has been reset. -/
structure PartReset (s t : State) (p : Nat) : Prop where
  part : t.part p = { clearedPart (s.resetCause p) s.now with
    preset := (t.part p).preset, cfgerr := (t.part p).cfgerr, d3 := (t.part p).d3, fresh := (t.part p).fresh }
  others : ∀ q, q ≠ p → (s.part q).Kept (t.part q)
  mode : t.mode = s.mode
  cores : ∀ c ∈ s.qtzOf p, t.qtz c = {}
  otherCores : ∀ c, c ∉ s.qtzOf p → t.qtz c = s.qtz c
  frames : ∀ f ∈ s.framesOf p, t.frame f = look (fun _ => {}) s.frameShadow f
  slots : ∀ i ∈ s.slotsOf p, t.slot i = {}
  otherSlots : ∀ i, i ∉ s.slotsOf p → t.slot i = s.slot i
  events : ∀ e ∈ t.fab.events, e.part ≠ p
  muted : ∀ n ∈ s.ochsOf p, t.ochState n ≠ 2

theorem partReset_reset (s : State) {p : Nat} (hp : p < 8) : PartReset s (s.partReset p) p ∧ (s.partReset p).vregs = s.vregs := by
  rw [partReset_eq]
  obtain ⟨holds, muted, events⟩ := resetHold_course s hp
  generalize s.resetHold p = a at holds muted events ⊢
  have only : PartOnly a (a.resetPart p (s.resetCause p)) p := by
    unfold State.resetPart
    exact .updPart ..
  have part : (a.resetPart p (s.resetCause p)).part p = { clearedPart (s.resetCause p) a.now with
      preset := (a.part p).preset, cfgerr := (a.part p).cfgerr, d3 := (a.part p).d3 } := part_updPart ..
  have fab : (a.resetPart p (s.resetCause p)).fab = a.fab := rfl
  have och : ∀ n, (a.resetPart p (s.resetCause p)).ochState n = a.ochState n := fun _ => rfl
  rw [holds.work.now] at part
  generalize a.resetPart p (s.resetCause p) = b at only part fab och ⊢
  have course := holds.trans only.course
  have owned := resetOwned_reset b hp
  generalize b.resetOwned p = c at owned ⊢
  have partEq : ∀ q, c.part q = b.part q := fun q => by rw [owned.frame]; rfl
  have qtzOf : b.qtzOf p = s.qtzOf p := course.work.qtzOf p
  have slotsOf : b.slotsOf p = s.slotsOf p := course.work.slotsOf p
  refine ⟨⟨?_, fun q hq => partEq q ▸ course.others q hq, ?_, fun k hk => owned.cores k (qtzOf ▸ hk), fun k hk => ?_,
    fun f hf => ?_, fun i hi => owned.slots i (by rwa [slotsOf]), fun i hi => ?_, fun e he => ?_, fun n hn => ?_⟩, ?_⟩
  · rw [partEq, part]
  · rw [owned.frame]
    exact course.work.mode
  · exact (owned.otherCores k (qtzOf ▸ hk)).trans (course.qtz_ne hk)
  · rw [owned.frames f (by rwa [course.work.framesOf p]), course.work.frameShadow]
  · exact (owned.otherSlots i (by rwa [slotsOf])).trans (course.slot i hi)
  · refine events e ?_
    rw [owned.frame] at he
    exact fab ▸ he
  · rw [owned.och n (mem_ochsOf hn).1, och]
    exact muted n hn
  · rw [owned.frame]
    exact course.work.vregs

/-- What a reset is said to leave holds on, whatever becomes of the VF's registers, its interrupts and its reads. -/
theorem PartReset.of_frame {s t u : State} {p : Nat} (h : PartReset s t p)
    (hu : u = { t with vregs := u.vregs, irq := u.irq, rd := u.rd }) : PartReset s u p := by
  rw [hu]
  exact ⟨h.part, h.others, h.mode, h.cores, h.otherCores, h.frames, h.slots, h.otherSlots, h.events, h.muted⟩

/-- The partition's own status bits change. -/
theorem PartReset.updPart {s t : State} {p : Nat} (h : PartReset s t p) (f : Part → Part)
    (hf : ∀ q, f q = { q with preset := (f q).preset, cfgerr := (f q).cfgerr, d3 := (f q).d3, fresh := (f q).fresh }) :
    PartReset s (t.updPart p f) p := by
  refine ⟨?_, fun q hq => ?_, h.mode, h.cores, h.otherCores, h.frames, h.slots, h.otherSlots, h.events, h.muted⟩
  · rw [part_updPart, hf, h.part]
  · rw [part_updPart_ne _ _ hq]
    exact h.others q hq

/-- What the obligation says of the partition and of the rest. -/
theorem PartReset.says {s t : State} {p : Nat} (h : PartReset s t p) :
    (t.part p).mode = .hold ∧ (t.part p).cause = (s.resetCause p).1 ∧
      (t.part p).resumeNeeded = (s.resetCause p).2 ∧ (t.part p).job = none ∧
      (t.part p).attempt.active = false ∧ (t.part p).rbusy = true ∧ (t.part p).enabled = false ∧
      (t.part p).taken = 0 ∧ (t.part p).waitq = [] ∧ (t.part p).jcount = 0 ∧
      (∀ c ∈ s.qtzOf p, t.qtz c = {}) ∧ (∀ c, c ∉ s.qtzOf p → t.qtz c = s.qtz c) ∧
      (∀ f ∈ s.framesOf p, t.frame f = look (fun _ => {}) s.frameShadow f) ∧
      (∀ i ∈ s.slotsOf p, t.slot i = {}) ∧ (∀ i, i ∉ s.slotsOf p → t.slot i = s.slot i) ∧
      (∀ e ∈ t.fab.events, e.part ≠ p) ∧ (∀ n ∈ s.ochsOf p, t.ochState n ≠ 2) ∧
      t.mode = s.mode ∧ (∀ q, q ≠ p → (t.part q).mode = (s.part q).mode ∧ (t.part q).job = (s.part q).job) := by
  refine ⟨?_, ?_, ?_, ?_, ?_, ?_, ?_, ?_, ?_, ?_, h.cores, h.otherCores, h.frames, h.slots, h.otherSlots, h.events, h.muted,
    h.mode, fun q hq => ⟨(h.others q hq).mode, (h.others q hq).job⟩⟩
  all_goals
    rw [h.part]
    rfl

/-- An entry that the filter takes out reads as the default, every other as before. -/
theorem look_filter {α : Type} (d : Nat → α) (t : Tab α) (g : Nat → Bool) {i : Nat} (h : g i = false) :
    look d (t.filter fun x => g x.1) i = d i := by
  induction t with
  | nil => rfl
  | cons x t ih =>
    rw [List.filter_cons]
    split
    · rename_i hx
      have hne : i ≠ x.1 := fun he => by rw [← he, h] at hx; exact Bool.false_ne_true hx
      exact (if_neg hne).trans ih
    · exact ih

/-- The tables that an FLR clears. -/
def State.vfTables (s : State) (p : Nat) : State :=
  { s with
    vregs := s.vregs.filter fun x => x.1 / 0x100000 != p
    irq :=
      { s.irq with pendAt := s.irq.pendAt.filter (fun x => x.1 / 4 != p), lastAt := s.irq.lastAt.filter (fun x => x.1 / 4 != p),
                   table := s.irq.table.filter fun x => x.1 / 16 != p }
    rd := { s.rd with hi := s.rd.hi.filter fun x => x.1 / 2 ^ 26 != p } }

theorem vfClear_eq (s : State) (p : Nat) :
    s.vfClear p = (s.vfTables p).updPart p fun q => { q with preset := false, cfgerr := false, d3 := false } := rfl

theorem vreg_vfTables (s : State) (p : Nat) {o : Nat} (h : o < 0x100000) :
    (s.vfTables p).vreg p o = vfReset (0x100000 * p + o) := by
  refine look_filter vfReset s.vregs (fun k => k / 0x100000 != p) ?_
  rw [bne_eq_false_iff_eq]
  omega

theorem answers_flr {s : State} {p : Fin 8} (hl : s.partLive p.val = true) : Answers (.flr p) s fun t =>
    PartReset s t p.val ∧ (∀ o < 0x100000, t.vreg p.val o = vfReset (0x100000 * p.val + o)) ∧
      (t.part p.val).preset = false := by
  obtain ⟨reset, -⟩ := partReset_reset s p.isLt
  have ha : exec (.flr p) s = answer s ((s.partReset p.val).vfClear p.val) := congrArg (answer s) (if_pos hl)
  rw [vfClear_eq] at ha
  generalize s.partReset p.val = a at reset ha
  have tables : PartReset s (a.vfTables p.val) p.val := reset.of_frame rfl
  have regs := fun o (ho : o < 0x100000) => vreg_vfTables a p.val ho
  generalize a.vfTables p.val = b at tables regs ha
  have cleared := tables.updPart (fun q => { q with preset := false, cfgerr := false, d3 := false }) fun _ => rfl
  have bit : ((b.updPart p.val fun q => { q with preset := false, cfgerr := false, d3 := false }).part p.val).preset = false := by
    rw [part_updPart]
  exact ⟨_, ha, ⟨cleared.part, cleared.others, cleared.mode, cleared.cores, cleared.otherCores, cleared.frames, cleared.slots,
    cleared.otherSlots, cleared.events, cleared.muted⟩, regs, bit⟩

theorem answers_partReset {s : State} {p : Fin 8} (ho : s.opened) (hp : p.val < s.nPart) : Answers (.partReset p) s fun t =>
    PartReset s t p.val ∧ (t.part p.val).preset = true ∧
      (∀ o < 0x100000, o ≠ VF_RINGCTL → t.vreg p.val o = s.vreg p.val o) ∧ t.vregN p.val VF_RINGCTL = 0 := by
  have hl : s.partLive p.val = true := by simp [State.partLive, ho.2.1, ho.2.2, hp]
  obtain ⟨reset, vregs⟩ := partReset_reset s p.isLt
  have ha : exec (.partReset p) s = answer s (((s.partReset p.val).setV p.val VF_RINGCTL 0).updPart p.val fun q =>
      { q with preset := true, cfgerr := false, fresh := [9] }) := congrArg (answer s) ((pf0_opened ho _).trans (if_pos hl))
  generalize s.partReset p.val = a at reset vregs ha
  have tables : PartReset s (a.setV p.val VF_RINGCTL 0) p.val := reset.of_frame rfl
  have kept : ∀ o < 0x100000, o ≠ VF_RINGCTL → (a.setV p.val VF_RINGCTL 0).vreg p.val o = s.vreg p.val o := fun o _ hne => by
    rw [vreg_setV_ne a _ _ 0 _ _ (by omega), State.vreg, vregs]
    rfl
  have zero : (a.setV p.val VF_RINGCTL 0).vregN p.val VF_RINGCTL = 0 := by rw [vregN_setV]; rfl
  generalize a.setV p.val VF_RINGCTL 0 = b at tables kept zero ha
  have marked := tables.updPart (fun q => { q with preset := true, cfgerr := false, fresh := [9] }) fun _ => rfl
  have bit : ((b.updPart p.val fun q => { q with preset := true, cfgerr := false, fresh := [9] }).part p.val).preset = true := by
    rw [part_updPart]
  exact ⟨_, ha, ⟨marked.part, marked.others, marked.mode, marked.cores, marked.otherCores, marked.frames, marked.slots,
    marked.otherSlots, marked.events, marked.muted⟩, bit, kept, zero⟩

/-- Settles O56, by the two stages of a reset: the entry into HOLD, and the clearing of what the partition owns. -/
theorem partitionResets : Obligations.PartitionResets := by
  intro s p
  refine ⟨fun hl => ?_, fun hl => ?_, fun ho hp => ?_, fun hb => ?_, fun hb => ?_⟩
  · obtain ⟨t, ht, reset, rest⟩ := answers_flr hl
    exact ⟨t, ht, reset.says, rest⟩
  · show answer s _ = _
    rw [hl]
    rfl
  · obtain ⟨t, ht, reset, rest⟩ := answers_partReset ho hp
    exact ⟨t, ht, reset.says, rest⟩
  · show answer s _ = _
    rw [hb]
    rfl
  · show answer s _ = _
    rw [hb]
    rfl

end Sys2Proof.Machine

namespace Sys2Proof.Machine

/-! HOLD and RESUME requests (13 R407; 01 R29, R30). -/

section
variable {α : Type} {d : Nat → α}

theorem drop_of_absent {t : Tab α} {i : Nat} (h : ∀ p ∈ t, p.1 ≠ i) : drop t i = t := by
  induction t with
  | nil => rfl
  | cons x t ih =>
    rw [drop, if_neg (h x List.mem_cons_self).symm, ih fun p hp => h p (List.mem_cons_of_mem _ hp)]

theorem drop_insert {t : Tab α} {i : Nat} (v : α) (h : ∀ p ∈ t, p.1 ≠ i) : drop (insert t i v) i = t := by
  induction t with
  | nil => simp [insert, drop]
  | cons x t ih =>
    have hx := (h x List.mem_cons_self).symm
    have ht := fun p hp => h p (List.mem_cons_of_mem x hp)
    unfold insert
    split
    · simp [drop, hx, drop_of_absent ht]
    · rw [drop, if_neg hx, ih ht]

variable [DecidableEq α]

theorem drop_put (t : Tab α) (i : Nat) (v : α) : drop (put d t i v) i = drop t i := by
  unfold put
  split
  · exact drop_of_absent (drop_absent t i)
  · exact drop_insert v (drop_absent t i)

/-- A second write at one index takes the first one's place. -/
theorem put_put (t : Tab α) (i : Nat) (v w : α) : put d (put d t i v) i w = put d t i w := by
  rw [put, drop_put]
  rfl

end

theorem updPart_updPart (s : State) (p : Nat) (f g : Part → Part) : (s.updPart p f).updPart p g = s.updPart p fun q => g (f q) := by
  rw [State.updPart, part_updPart]
  unfold State.updPart
  dsimp only
  rw [put_put]

/-- The record of a HOLD that VF_CMD asks for. -/
def Part.toldHold (q : Part) : Part :=
  { q with resumeNeeded := q.resumeNeeded || q.fresh.contains 23, fresh := 20 :: q.fresh }

theorem holdCommand_busy {s : State} {p : Fin 8} (h : (s.part p.val).rbusy = true) : s.holdCommand p = s := if_pos h

theorem holdCommand_free {s : State} {p : Fin 8} (h : (s.part p.val).rbusy = false) :
    s.holdCommand p = (s.updPart p.val Part.toldHold).holdRequest p.val .request :=
  if_neg (by simp [h])

theorem holdCommand_hold {s : State} {p : Fin 8} (h : (s.part p.val).rbusy = false) (hm : (s.part p.val).mode = .hold) :
    s.holdCommand p = s.updPart p.val Part.toldHold := by
  rw [holdCommand_free h]
  exact holdRequest_hold _ (by rw [part_updPart]; exact hm)

/-- In a begun shot, and before a replay, the request waits for the boundary. -/
theorem holdCommand_waits {s : State} {p : Fin 8} (h : (s.part p.val).rbusy = false) (hm : (s.part p.val).mode = .shot)
    (hw : (s.part p.val).attempt.active = true ∨ (s.part p.val).replay = true) :
    s.holdCommand p = s.updPart p.val fun x => { x.toldHold with holdReq := x.holdReq.or (some .request) } := by
  rw [holdCommand_free h, holdRequest_shot _ (by rw [part_updPart]; exact hm), part_updPart, if_pos, updPart_updPart]
  · rfl
  · simpa [Part.toldHold, or_assoc] using Or.inr hw

theorem sharedJob_of_program {q : Part} (h : ∀ j, q.job = some j → j.type = .program) : q.sharedJob = false := by
  unfold Part.sharedJob
  split
  · rename_i j hj
    simp [h j hj]
  · rfl

/-- With no shot begun, and in a stream program, the request acts at once. -/
theorem holdCommand_held {s : State} {p : Fin 8} (h : (s.part p.val).rbusy = false)
    (hm : ((s.part p.val).mode = .shot ∧ (s.part p.val).attempt.active = false ∧ (s.part p.val).replay = false) ∨
      (s.part p.val).mode = .stream) (hj : ∀ j, (s.part p.val).job = some j → j.type = .program) :
    Held (s.updPart p.val Part.toldHold) (s.holdCommand p) p.val .request := by
  rw [holdCommand_free h]
  have told : (s.updPart p.val Part.toldHold).part p.val = (s.part p.val).toldHold := part_updPart ..
  have shared : (s.part p.val).toldHold.sharedJob = false := sharedJob_of_program hj
  generalize s.updPart p.val Part.toldHold = a at told ⊢
  rcases hm with ⟨hm, ha, hr⟩ | hm
  · have mode : (a.part p.val).mode = .shot := by rw [told]; exact hm
    rw [holdRequest_shot _ mode, told, shared, if_neg (by simp [Part.toldHold, ha, hr])]
    exact holdBoundary_held p.isLt ..
  · have mode : (a.part p.val).mode = .stream := by rw [told]; exact hm
    rw [holdRequest_stream _ mode, told, shared, if_neg Bool.false_ne_true]
    exact (enterHold_entered p.isLt (by rw [mode]; decide) _ _).toHeld

theorem flintTry_latchesWork (s : State) (l : List FlintIn) {m : Nat} (h : m < 48) : LatchesWork s (s.flintTry l m) := by
  unfold State.flintTry
  split
  · exact (flintClear_work s h _).1.latchesWork h
  · split
    · exact (setLatch_latchWork s h false).latchesWork h
    · exact .refl s

theorem flintShot_latchesWork (s : State) (p : Nat) (l : List FlintIn) : LatchesWork s (s.flintShot p l) :=
  forEach_rel_mem (R := LatchesWork) .refl .trans
    (fun t _ hm => flintTry_latchesWork t l (List.mem_range.1 (List.mem_of_mem_filter hm))) s

theorem hostResume_eq (s : State) (p : Fin 8) (l : List FlintIn) : exec (.hostResume p l) s = answer s
    (if (s.part p.val).resumeNeeded && !(s.part p.val).rbusy && !(s.part p.val).fresh.contains 22 then
      (s.updPart p.val fun q => { q with resumeNeeded := false, fresh := 21 :: q.fresh }).flintShot p.val l
    else s) := rfl

theorem answers_hostResume {s : State} {p : Fin 8} (l : List FlintIn) (hr : (s.part p.val).resumeNeeded = true)
    (hb : (s.part p.val).rbusy = false) (hf : (s.part p.val).fresh.contains 22 = false) : Answers (.hostResume p l) s fun t =>
      t.part p.val = { s.part p.val with resumeNeeded := false, fresh := 21 :: (s.part p.val).fresh } ∧ PartsBut s t [p.val] ∧
      t = { s with parts := t.parts, regs := t.regs, before := t.before, pins := t.pins } := by
  have ha := hostResume_eq s p l
  rw [if_pos (by rw [hr, hb, hf]; rfl)] at ha
  have told : (s.updPart p.val fun q => { q with resumeNeeded := false, fresh := 21 :: q.fresh }).part p.val = _ := part_updPart ..
  have others : PartsBut s (s.updPart p.val fun q => { q with resumeNeeded := false, fresh := 21 :: q.fresh }) [p.val] :=
    fun q hq => part_updPart_ne _ _ (by simpa using hq)
  have frame : s.updPart p.val (fun q => { q with resumeNeeded := false, fresh := 21 :: q.fresh }) =
      { s with parts := (s.updPart p.val fun q => { q with resumeNeeded := false, fresh := 21 :: q.fresh }).parts } := rfl
  generalize s.updPart p.val (fun q => { q with resumeNeeded := false, fresh := 21 :: q.fresh }) = a at ha told others frame
  have work := flintShot_latchesWork a p.val l
  generalize a.flintShot p.val l = b at ha work
  have part : ∀ q, b.part q = a.part q := fun q => by rw [work.frame]; rfl
  have whole : b = { s with parts := b.parts, regs := b.regs, before := b.before, pins := b.pins } := by
    rw [work.frame, frame]
  refine ⟨b, ha.trans ?_, (part _).trans told, fun q hq => (part q).trans (others q hq), whole⟩
  rw [whole]
  rfl

end Sys2Proof.Machine

namespace Sys2Proof.Machine

/-! How a job is taken, and how it ends (13 R399, R400, R405; 04 R111, R139). -/

/-- From `s` to `t` partition `p` has queued records, and nothing else has changed. -/
structure OwnRecords (s t : State) (p : Nat) : Prop where
  queued : Queued s t
  others : PartsBut s t [p]

theorem OwnRecords.refl (s : State) (p : Nat) : OwnRecords s s p := ⟨.refl s, fun _ _ => rfl⟩

theorem OwnRecords.trans {a b c : State} {p : Nat} (h1 : OwnRecords a b p) (h2 : OwnRecords b c p) : OwnRecords a c p :=
  ⟨h1.queued.trans h2.queued, fun q hq => (h2.others q hq).trans (h1.others q hq)⟩

theorem updPart_partsBut (s : State) (p : Nat) (f : Part → Part) : PartsBut s (s.updPart p f) [p] :=
  fun _ hq => part_updPart_ne _ _ (by simpa using hq)

theorem queueRec_ownRecords (s : State) (p : Nat) (x : Rec) : OwnRecords s (s.queueRec p x) p := by
  refine ⟨queueRec_queued .., ?_⟩
  have either : ∀ c : Prop, [Decidable c] → PartsBut s (if c then s.pushRec p x else s.loseRec p) [p] := fun c _ => by
    split <;> exact updPart_partsBut s p _
  unfold State.queueRec
  split <;> exact either _

theorem flushYields_ownRecords (s : State) (p : Nat) : OwnRecords s (s.flushYields p) p := by
  refine ⟨flushYields_queued .., ?_⟩
  unfold State.flushYields State.flushSome
  refine forEach_keeps (P := fun t => PartsBut s t [p]) (fun t x _ ht => ?_) (updPart_partsBut s p _)
  exact fun q hq => ((queueRec_ownRecords t p x).others q hq).trans (ht q hq)

/-- From `s` to `t` the job of partition `p` has ended, with its records. -/
structure JobEnded (s t : State) (p : Nat) : Prop where
  frame : t = { s with parts := t.parts }
  others : PartsBut s t [p]
  job : (t.part p).job = none
  kept : (s.part p).Kept { t.part p with job := (s.part p).job, notifies := (s.part p).notifies }

theorem completeJob_ended (s : State) (p st d : Nat) : JobEnded s (s.completeJob p st d) p := by
  obtain ⟨-, job, kept⟩ := completeJob_partOnly s p st d
  suffices h : s.completeJob p st d = { s with parts := (s.completeJob p st d).parts } ∧ PartsBut s (s.completeJob p st d) [p] from
    ⟨h.1, h.2, job, kept⟩
  unfold State.completeJob
  split
  · exact ⟨rfl, fun _ _ => rfl⟩
  · rename_i j _
    dsimp only
    have flush := flushYields_ownRecords s p
    generalize s.flushYields p = a at flush ⊢
    have waits : OwnRecords a (if j.wait = 0 then a else a.queueRec p (yieldRec (min j.waitRank 4) 5 6 j.num 0#64 j.waitFirst
        (min j.wait (2 ^ 32 - 1)) 255 (min j.waits 255))) p := by
      split
      · exact .refl a p
      · exact queueRec_ownRecords ..
    generalize (if j.wait = 0 then a else _ : State) = b at waits ⊢
    generalize mkRec _ _ _ _ _ _ _ = r
    have records := (flush.trans waits).trans (queueRec_ownRecords b p r)
    generalize b.queueRec p r = c at records ⊢
    refine ⟨?_, fun q hq => (updPart_partsBut _ p _ q hq).trans (records.others q hq)⟩
    show { c with parts := _ } = _
    rw [records.queued.frame]
    rfl

/-! The start of a program job. -/

theorem length_chunks (n : Nat) : ∀ (k : Nat) (l : List Byte), (chunks n k l).length = k
  | 0, _ => rfl
  | k + 1, l => congrArg (· + 1) (length_chunks n k (l.drop n))

theorem length_eraseDups_le (l : List Nat) : l.eraseDups.length ≤ l.length := by
  induction hn : l.length using Nat.strong_induction_on generalizing l with
  | _ n ih =>
    cases l with
    | nil => simp
    | cons a l =>
      have hf := List.length_filter_le (fun b => !b == a) l
      have := ih _ (by rw [← hn, List.length_cons]; omega) (l.filter fun b => !b == a) rfl
      rw [List.eraseDups_cons, List.length_cons]
      rw [List.length_cons] at hn
      omega

/-- A list that loses nothing as its duplicates go has none. -/
theorem nodup_of_eraseDups {l : List Nat} (h : l.eraseDups.length = l.length) : l.Nodup := by
  induction l with
  | nil => exact List.nodup_nil
  | cons a l ih =>
    rw [List.eraseDups_cons, List.length_cons, List.length_cons] at h
    have hd := length_eraseDups_le (l.filter fun b => !b == a)
    have hf := List.length_filter_le (fun b => !b == a) l
    have all : l.filter (fun b => !b == a) = l := List.filter_eq_self.2 (List.length_filter_eq_length_iff.1 (by omega))
    refine List.nodup_cons.2 ⟨fun hm => ?_, ih (by rw [all] at h; omega)⟩
    have := List.filter_eq_self.1 all a hm
    simp at this

/-- The entries of an object that passes its checks name different cores. -/
theorem objEntries_nodup {s : State} {p : Nat} {b : List Byte} (h : s.progOk p b = true) :
    ((objEntries b).map fun e => le e 0 1).Nodup := by
  simp only [State.progOk, Bool.and_eq_true, beq_iff_eq] at h
  obtain ⟨⟨-, distinct⟩, -⟩ := h
  exact nodup_of_eraseDups (by rw [distinct, List.length_map])

/-- From `s` to `t` only cores have changed. -/
def CoresOnly (s t : State) : Prop := t = { s with cores := t.cores }

theorem CoresOnly.refl (s : State) : CoresOnly s s := rfl

theorem CoresOnly.trans {a b c : State} (h1 : CoresOnly a b) (h2 : CoresOnly b c) : CoresOnly a c := by
  rw [CoresOnly, h2, h1]

theorem updQtz_coresOnly (s : State) (c : Nat) (f : Core → Core) : CoresOnly s (s.updQtz c f) := rfl

theorem CoresOnly.startCore {s t : State} (h : CoresOnly s t) (c pc : Nat) (d : List Byte) (n : Nat) :
    t.startCore c pc d n = s.startCore c pc d n := by
  rw [h]
  rfl

/-- The cores that no entry names take their idle state. -/
def State.idleCores (s : State) (p : Nat) (d : List Byte) : State :=
  s.forEach (s.qtzOf p) fun s c => s.updQtz c fun _ => s.idleCore c d

theorem idleCores_idle (s : State) (p : Nat) (d : List Byte) : CoresOnly s (s.idleCores p d) ∧
    ∀ k ∈ s.qtzOf p, ((s.idleCores p d).qtz k).st = .halted ∧ ((s.idleCores p d).qtz k).part = false := by
  unfold State.idleCores
  refine ⟨forEach_rel_mem (R := CoresOnly) .refl (fun _ _ _ => .trans) (fun t c _ => updQtz_coresOnly ..) s, fun k hk => ?_⟩
  refine forEach_reaches (P := fun t => (t.qtz k).st = .halted ∧ (t.qtz k).part = false) hk (fun t => ?_) (fun t c _ ht => ?_) s
  · rw [qtz_updQtz]
    exact ⟨rfl, rfl⟩
  · by_cases h : k = c
    · subst h
      rw [qtz_updQtz]
      exact ⟨rfl, rfl⟩
    · rwa [qtz_updQtz_ne _ _ h]

/-- The cores that the entries name start. -/
def State.startCores (s : State) (l : List (List Byte)) (d : List Byte) (n : Nat) : State :=
  s.forEach l fun s e => s.updQtz (le e 0 1) fun _ => s.startCore (le e 0 1) (le e 4 4) d n

theorem startCores_started (s : State) {l : List (List Byte)} (hl : (l.map fun e => le e 0 1).Nodup) (d : List Byte) (n : Nat) :
    CoresOnly s (s.startCores l d n) ∧
    (∀ e ∈ l, (s.startCores l d n).qtz (le e 0 1) = s.startCore (le e 0 1) (le e 4 4) d n) ∧
    ∀ k, (∀ e ∈ l, le e 0 1 ≠ k) → (s.startCores l d n).qtz k = s.qtz k := by
  unfold State.startCores
  refine ⟨forEach_rel_mem (R := CoresOnly) .refl (fun _ _ _ => .trans) (fun t c _ => updQtz_coresOnly ..) s, fun e he => ?_,
    fun k hk => ?_⟩
  · have distinct : ∀ x ∈ l, x ≠ e → le e 0 1 ≠ le x 0 1 := fun x hx hne heq => hne (List.inj_on_of_nodup_map hl hx he heq.symm)
    obtain ⟨a, before, after⟩ := forEach_turn
      (R := fun a b => CoresOnly a b ∧ b.qtz (le e 0 1) = a.qtz (le e 0 1))
      (f := fun s e => s.updQtz (le e 0 1) fun _ => s.startCore (le e 0 1) (le e 4 4) d n)
      (fun t => ⟨.refl t, rfl⟩) (fun a b c h1 h2 => ⟨h1.1.trans h2.1, h2.2.trans h1.2⟩) (List.Nodup.of_map _ hl) he
      (fun t x hx hne => ⟨updQtz_coresOnly .., qtz_updQtz_ne _ _ (distinct x hx hne)⟩) s
    rw [after.2, qtz_updQtz, before.1.startCore]
  · refine forEach_keeps (P := fun t => t.qtz k = s.qtz k) (fun t e he ht => ?_) rfl
    rw [qtz_updQtz_ne _ _ (Ne.symm (hk e he)), ht]

/-- From `s` to `t` what a job's start resets beside partition and cores: slots, loops and graphs. -/
def TablesOnly (s t : State) : Prop := t = { s with slots := t.slots, graphs := t.graphs, loops := t.loops }

/-- The partition enters its mode, with an empty attempt and no checkpoint. -/
def State.startMode (s : State) (p : Nat) (m : PMode) : State :=
  let s := if (s.part p).mode = .hold then s.armCancel else s
  (s.setMode p m).updPart p fun q => { q with
    attempt := {}, prevE := none, shotE := none, shotNext := 0, replay := false, ckpt := {}, probe := none,
    probeActs := [], cold := [] }

/-- The slots, the graph and the loops of the partition start afresh. -/
def State.startTables (s : State) (p : Nat) : State :=
  let s := s.forEach (s.slotsOf p) fun s i => s.updSlot i fun _ => {}
  let s := s.updGraph p fun g => { g with run := { pauli := g.run.pauli } }
  s.forEach (s.loopsOf p) fun s l => s.updLoop l fun x => { x with due := false }

/-- The words of the program in object `b`. -/
def programCode (b : List Byte) : List (BitVec 64) :=
  (chunks 8 (le b 12 4 / 8) (b.drop (le b 8 4))).map fun x => BitVec.ofNat 64 (leBytes x)

theorem length_programCode (b : List Byte) : (programCode b).length = le b 12 4 / 8 := by
  rw [programCode, List.length_map, length_chunks]

theorem startProgram_eq (s : State) (p : Nat) (m : PMode) (d b : List Byte) : s.startProgram p m d b =
    (((((s.updJob p fun j => { j with code := programCode b, descs := (objDescs b).map parseDesc }).startMode p m).startTables
      p).idleCores p d).startCores (objEntries b) d (programCode b).length) := rfl

theorem startTables_only (s : State) (p : Nat) : TablesOnly s (s.startTables p) := by
  have pass : ∀ {α : Type} (l : List α) (f : State → α → State), (∀ s x, TablesOnly s (f s x)) → ∀ s : State,
      TablesOnly s (s.forEach l f) := fun l f h s =>
    forEach_rel_mem (R := TablesOnly) (fun _ => rfl) (fun a b c h1 h2 => by rw [TablesOnly, h2, h1]) (fun t x _ => h t x) s
  have slots := pass (s.slotsOf p) (fun s i => s.updSlot i fun _ => {}) (fun _ _ => rfl) s
  unfold State.startTables
  dsimp only
  generalize s.forEach (s.slotsOf p) (fun s i => s.updSlot i fun _ => {}) = a at slots ⊢
  have loops := pass ((a.updGraph p fun g => { g with run := { pauli := g.run.pauli } }).loopsOf p)
    (fun s l => s.updLoop l fun x => { x with due := false }) (fun _ _ => rfl)
    (a.updGraph p fun g => { g with run := { pauli := g.run.pauli } })
  generalize State.forEach _ _ _ = b at loops ⊢
  rw [TablesOnly, loops, slots]
  rfl

/-- What the start of a job leaves of time and configuration. -/
structure ModeStarted (s t : State) (p : Nat) (m : PMode) : Prop where
  now : t.now = s.now
  high : ∀ a, 0x100000 ≤ a → t.reg a = s.reg a
  variant : t.variant = s.variant
  others : PartsBut s t [p]
  part : t.part p = { s.part p with
    mode := m, attempt := {}, prevE := none, shotE := none, shotNext := 0, replay := false, ckpt := {}, probe := none,
    probeActs := [], cold := [] }

theorem armCancel_work (s : State) : s.armCancel.now = s.now ∧ (∀ a, 0x100000 ≤ a → s.armCancel.reg a = s.reg a) ∧
    s.armCancel.variant = s.variant ∧ s.armCancel.parts = s.parts := by
  unfold State.armCancel
  split
  · refine ⟨rfl, fun a ha => ?_, rfl, rfl⟩
    rw [reg_stick_ne _ _ (by unfold TIME_STAT; omega), reg_setBit_ne _ _ _ (by unfold TIME_CTRL; omega)]
    rfl
  · exact ⟨rfl, fun _ _ => rfl, rfl, rfl⟩

theorem setMode_partsBut (s : State) (p : Nat) (m : PMode) : PartsBut s (s.setMode p m) [p] := by
  unfold State.setMode
  split
  · exact fun _ _ => rfl
  · exact fun q hq => (part_irqEvent ..).trans (updPart_partsBut s p _ q hq)

theorem startMode_started (s : State) (p : Nat) (m : PMode) : ModeStarted s (s.startMode p m) p m := by
  unfold State.startMode
  dsimp only
  have arm : (if (s.part p).mode = .hold then s.armCancel else s).now = s.now ∧
      (∀ a, 0x100000 ≤ a → (if (s.part p).mode = .hold then s.armCancel else s).reg a = s.reg a) ∧
      (if (s.part p).mode = .hold then s.armCancel else s).variant = s.variant ∧
      (if (s.part p).mode = .hold then s.armCancel else s).parts = s.parts := by
    split
    · exact armCancel_work s
    · exact ⟨rfl, fun _ _ => rfl, rfl, rfl⟩
  generalize (if (s.part p).mode = .hold then s.armCancel else s) = a at arm ⊢
  obtain ⟨now, high, variant, parts⟩ := arm
  have part : ∀ q, a.part q = s.part q := fun q => by unfold State.part; rw [parts]
  have enters := setMode_partOnly a p m
  have mode := part_setMode a p m
  have others := setMode_partsBut a p m
  generalize a.setMode p m = b at enters mode others ⊢
  refine ⟨?_, fun x hx => ?_, ?_, fun q hq => ?_, ?_⟩
  · rw [← now]
    exact enters.holdWork.now
  · have same : b.reg x = a.reg x := by
      rw [enters.frame]
      rfl
    exact same.trans (high x hx)
  · rw [← variant]
    exact enters.holdWork.variant
  · rw [updPart_partsBut _ p _ q hq, others q hq, part]
  · rw [part_updPart, mode, part]

/-- What the start of a program job leaves. -/
structure ProgramStarted (s t : State) (p : Nat) (m : PMode) (d b : List Byte) : Prop where
  others : PartsBut s t [p]
  part : t.part p = { s.part p with
    mode := m, attempt := {}, prevE := none, shotE := none, shotNext := 0, replay := false, ckpt := {}, probe := none
    probeActs := [], cold := []
    job := (s.part p).job.map fun j => { j with code := programCode b, descs := (objDescs b).map parseDesc } }
  started : ∀ e ∈ objEntries b,
    t.qtz (le e 0 1) = s.startCore (le e 0 1) (le e 4 4) d (programCode b).length
  idle : ∀ k ∈ s.qtzOf p, (∀ e ∈ objEntries b, le e 0 1 ≠ k) → (t.qtz k).st = .halted ∧ (t.qtz k).part = false

theorem startCore_congr {s t : State} (hn : t.now = s.now) (c : Nat) (hr : t.reg (QTZ_CFG c) = s.reg (QTZ_CFG c)) (pc : Nat)
    (d : List Byte) (n : Nat) : t.startCore c pc d n = s.startCore c pc d n := by
  unfold State.startCore
  rw [hn, fld_ne s t _ _ hr]

theorem startProgram_started (s : State) (p : Nat) (m : PMode) (d : List Byte) {b : List Byte}
    (hb : ((objEntries b).map fun e => le e 0 1).Nodup) : ProgramStarted s (s.startProgram p m d b) p m d b := by
  rw [startProgram_eq]
  have job : (s.updJob p fun j => { j with code := programCode b, descs := (objDescs b).map parseDesc }).part p =
      { s.part p with job := (s.part p).job.map fun j =>
        { j with code := programCode b, descs := (objDescs b).map parseDesc } } := part_updPart ..
  have jobOthers : PartsBut s (s.updJob p fun j => { j with code := programCode b, descs := (objDescs b).map parseDesc }) [p] :=
    updPart_partsBut s p _
  have jobFrame : s.updJob p (fun j => { j with code := programCode b, descs := (objDescs b).map parseDesc }) = { s with
      parts := (s.updJob p fun j => { j with code := programCode b, descs := (objDescs b).map parseDesc }).parts } := rfl
  generalize s.updJob p (fun j => { j with code := programCode b, descs := (objDescs b).map parseDesc }) = a at job jobOthers jobFrame ⊢
  have mode := startMode_started a p m
  generalize a.startMode p m = a1 at mode ⊢
  have tables := startTables_only a1 p
  generalize a1.startTables p = a2 at tables ⊢
  obtain ⟨idleOnly, idle⟩ := idleCores_idle a2 p d
  generalize a2.idleCores p d = a3 at idleOnly idle ⊢
  obtain ⟨startOnly, started, unnamed⟩ := startCores_started a3 hb d (programCode b).length
  generalize a3.startCores (objEntries b) d (programCode b).length = t at startOnly started unnamed ⊢
  have toCores : t = { a1 with slots := t.slots, graphs := t.graphs, loops := t.loops, cores := t.cores } := by
    rw [startOnly, idleOnly, tables]
  have part : ∀ q, t.part q = a1.part q := fun q => by rw [toCores]; rfl
  have cfg : ∀ c, a3.reg (QTZ_CFG c) = s.reg (QTZ_CFG c) := fun c => by
    have h : a3.reg (QTZ_CFG c) = a1.reg (QTZ_CFG c) := by rw [idleOnly, tables]; rfl
    rw [h, mode.high _ (by unfold QTZ_CFG; omega), jobFrame]
    rfl
  have now : a3.now = s.now := by
    have h : a3.now = a1.now := by rw [idleOnly, tables]; rfl
    rw [h, mode.now, jobFrame]
    rfl
  have qtzOf : a2.qtzOf p = s.qtzOf p := by
    have reg : ∀ c, a2.reg (QTZ_CFG c) = s.reg (QTZ_CFG c) := fun c => by
      rw [← cfg c, idleOnly]
      rfl
    have variant : a2.variant = s.variant := by
      rw [tables]
      show a1.variant = _
      rw [mode.variant, jobFrame]
    unfold State.qtzOf State.nQtz State.nOch
    rw [variant]
    exact owner_congr State.qtzOwner (fun _ _ => rfl) (fun k _ => reg k) p
  refine ⟨fun q hq => ?_, ?_, fun e he => ?_, fun k hk hne => ?_⟩
  · rw [part, mode.others q hq, jobOthers q hq]
  · rw [part, mode.part, job]
  · rw [started e he, startCore_congr now _ (cfg _)]
  · rw [unnamed k hne]
    exact idle k (qtzOf ▸ hk)

/-! The taking of a descriptor. -/

/-- The type of the job that the descriptor tells. -/
def descType (d : List Byte) : JobType := match le d 0 1 with | 1 => .program | 2 => .library | _ => .capture

/-- The job of a descriptor that partition record `q` takes at tick `now`. -/
def takenJob (q : Part) (d : List Byte) (now : Nat) : Job :=
  { num := q.taken + 1, typeByte := le d 0 1, type := descType d, notify := bitOf (le d 2 1) 0
    usertag := BitVec.ofNat 64 (le d 16 8), startTick := now, wait := q.jobWait
    waitRank := if q.jobWait = 0 then 5 else 3 }

/-- T advances, and stopped Mica cores serve windows again. -/
def State.jobTaken (s : State) (p : Nat) (d : List Byte) : State :=
  let s := s.updPart p fun q => { q with taken := q.taken + 1, jobWait := 0, job := some (takenJob q d s.now) }
  s.forEach (s.micasOf p) fun s k => s.updMica k fun m => { m with faulted := false, stopped := false }

theorem takeJob_refused {d : List Byte} (h : descOk d = false) (s : State) (p : Nat) (body : Option (List Byte)) :
    s.takeJob p d body = (s.jobTaken p d).refuseJob p 1 := if_pos (by rw [h]; rfl)

theorem takeJob_program {s : State} {p : Nat} {d b : List Byte} (hd : descOk d = true) (hb : b.length = le d 4 4)
    (ht : le d 0 1 = 1) (hok : (s.jobTaken p d).progOk p b = true) (ha : le d 4 4 ≤ (s.jobTaken p d).progArea) :
    s.takeJob p d (some b) = (s.jobTaken p d).startProgram p (if le d 1 1 = 0 then .shot else .stream) d b := by
  have body : (some b).filter (fun b => b.length == le d 4 4) = some b := by simp [Option.filter, hb]
  unfold State.jobTaken takenJob descType at hok ha ⊢
  unfold State.takeJob
  dsimp only at hok ha ⊢
  rw [hd, body]
  simp only [ht, Bool.not_true, Bool.false_eq_true, if_false] at hok ha ⊢
  rw [if_neg (by simp [hok]), if_neg (by omega)]

theorem jobTaken_frame (s : State) (p : Nat) (d : List Byte) :
    s.jobTaken p d = { s with parts := (s.jobTaken p d).parts, micas := (s.jobTaken p d).micas } ∧
    PartsBut s (s.jobTaken p d) [p] ∧ (s.jobTaken p d).part p =
      { s.part p with taken := (s.part p).taken + 1, jobWait := 0, job := some (takenJob (s.part p) d s.now) } := by
  have part := part_updPart s p fun q => { q with taken := q.taken + 1, jobWait := 0, job := some (takenJob q d s.now) }
  have others := updPart_partsBut s p fun q => { q with taken := q.taken + 1, jobWait := 0, job := some (takenJob q d s.now) }
  have frame : s.updPart p (fun q => { q with taken := q.taken + 1, jobWait := 0, job := some (takenJob q d s.now) }) = { s with
    parts := (s.updPart p fun q => { q with taken := q.taken + 1, jobWait := 0, job := some (takenJob q d s.now) }).parts } := rfl
  unfold State.jobTaken
  dsimp only
  generalize s.updPart p _ = a at part others frame ⊢
  have micas : a.forEach (a.micasOf p) (fun s k => s.updMica k fun m => { m with faulted := false, stopped := false }) =
      { a with micas := (a.forEach (a.micasOf p) fun s k =>
        s.updMica k fun m => { m with faulted := false, stopped := false }).micas } :=
    forEach_rel_mem (R := fun a b => b = { a with micas := b.micas }) (fun _ => rfl) (fun a b c h1 h2 => by rw [h2, h1])
      (fun _ _ _ => rfl) a
  generalize a.forEach (a.micasOf p) _ = b at micas ⊢
  have same : ∀ q, b.part q = a.part q := fun q => by rw [micas]; rfl
  refine ⟨?_, fun q hq => (same q).trans (others q hq), (same p).trans part⟩
  rw [micas, frame]

theorem execJobTake_taken {s : State} {p : Fin 8} {d b : List Byte} (hm : s.mayTake p.val = true)
    (ho : s.otherMode p.val d = false) :
    exec (.jobTake p (some d) (some b)) s = answer s (s.takeJob p.val d (some b)) := by
  show answer s (if !s.mayTake p.val then s else if s.otherMode p.val d then _ else _) = _
  rw [hm, ho]
  rfl

theorem otherMode_of_bad {d : List Byte} (h : descOk d = false) (s : State) (p : Nat) : s.otherMode p d = false := by
  simp [State.otherMode, h]

theorem answers_jobTake_program {s : State} {p : Fin 8} {d b : List Byte} (hm : s.mayTake p.val = true)
    (ho : s.otherMode p.val d = false) (hd : descOk d = true) (hb : b.length = le d 4 4) (ht : le d 0 1 = 1)
    (hok : s.progOk p.val b = true) (ha : le d 4 4 ≤ s.progArea) : Answers (.jobTake p (some d) (some b)) s fun t =>
      (t.part p.val).mode = (if le d 1 1 = 0 then .shot else .stream) ∧ (t.part p.val).taken = (s.part p.val).taken + 1 ∧
      (∃ j, (t.part p.val).job = some j ∧ j.num = (s.part p.val).taken + 1 ∧ j.type = .program ∧
        j.usertag = BitVec.ofNat 64 (le d 16 8) ∧ j.code.length = le b 12 4 / 8) ∧
      (∀ e ∈ objEntries b, (t.qtz (le e 0 1)).st = .running ∧ (t.qtz (le e 0 1)).pc = le e 4 4 ∧
        (t.qtz (le e 0 1)).tl = 32 * (s.now + s.fld (QTZ_CFG (le e 0 1)) 31 16) ∧ (t.qtz (le e 0 1)).part = true) ∧
      (∀ k ∈ s.qtzOf p.val, (∀ e ∈ objEntries b, le e 0 1 ≠ k) → (t.qtz k).st = .halted ∧ (t.qtz k).part = false) ∧
      (t.part p.val).attempt = {} ∧ (t.part p.val).shotNext = 0 ∧ PartsBut s t [p.val] := by
  obtain ⟨frame, others, part⟩ := jobTaken_frame s p.val d
  have ok : (s.jobTaken p.val d).progOk p.val b = true := by
    rw [frame]
    exact hok
  have area : (s.jobTaken p.val d).progArea = s.progArea := by
    rw [frame]
    rfl
  have taken := takeJob_program hd hb ht ok (by rwa [area])
  have now : (s.jobTaken p.val d).now = s.now := by
    rw [frame]
    rfl
  have cfg : ∀ c, (s.jobTaken p.val d).reg (QTZ_CFG c) = s.reg (QTZ_CFG c) := fun c => by
    rw [frame]
    rfl
  have qtzOf : (s.jobTaken p.val d).qtzOf p.val = s.qtzOf p.val := by
    rw [frame]
    rfl
  generalize s.jobTaken p.val d = a at others part taken now cfg qtzOf
  have start := startProgram_started a p.val (if le d 1 1 = 0 then .shot else .stream) d (objEntries_nodup hok)
  rw [← taken] at start
  refine ⟨_, execJobTake_taken hm ho, ?_⟩
  generalize s.takeJob p.val d (some b) = t at start ⊢
  show (t.part p.val).mode = _ ∧ (t.part p.val).taken = _ ∧ (∃ j, (t.part p.val).job = some j ∧ _) ∧ _
  rw [start.part, part]
  refine ⟨rfl, rfl, ⟨_, rfl, rfl, ?_, rfl, length_programCode b⟩, fun e he => ?_, fun k hk hne => start.idle k (by rwa [qtzOf]) hne, ?_, ?_,
    fun q hq => (start.others q hq).trans (others q hq)⟩
  · show descType d = .program
    rw [descType, ht]
    rfl
  · have core := start.started e he
    rw [startCore_congr now _ (cfg _)] at core
    show (t.qtz _).st = _ ∧ (t.qtz _).pc = _ ∧ (t.qtz _).tl = _ ∧ (t.qtz _).part = _
    rw [core]
    exact ⟨rfl, rfl, rfl, rfl⟩
  · show (t.part p.val).attempt = _
    rw [start.part]
  · show (t.part p.val).shotNext = _
    rw [start.part]

/-- A descriptor out of range is refused: with the partition in HOLD nothing else comes of it. -/
theorem answers_jobTake_refused {s : State} {p : Fin 8} {d b : List Byte} (hm : s.mayTake p.val = true)
    (hd : descOk d = false) (hh : (s.part p.val).mode = .hold) : Answers (.jobTake p (some d) (some b)) s fun t =>
      (t.part p.val).taken = (s.part p.val).taken + 1 ∧ (t.part p.val).job = none ∧ (t.part p.val).mode = .hold ∧
      PartsBut s t [p.val] ∧ t = { s with parts := t.parts, micas := t.micas } := by
  have ha := execJobTake_taken (b := b) hm (otherMode_of_bad hd s p.val)
  rw [takeJob_refused hd] at ha
  obtain ⟨frame, others, part⟩ := jobTaken_frame s p.val d
  generalize s.jobTaken p.val d = a at ha frame others part
  have ended := completeJob_ended a p.val 1 1
  have hold : ((a.completeJob p.val 1 1).part p.val).mode = .hold := by
    have h := ended.kept.mode
    rw [part] at h
    exact h.trans hh
  have taken : ((a.completeJob p.val 1 1).part p.val).taken = (s.part p.val).taken + 1 := by
    have h := congrArg Part.taken ended.kept.rest
    rw [part] at h
    exact h
  have refused : a.refuseJob p.val 1 = a.completeJob p.val 1 1 := if_pos hold
  rw [refused] at ha
  generalize a.completeJob p.val 1 1 = t at ha ended hold taken
  have whole : t = { s with parts := t.parts, micas := t.micas } := by rw [ended.frame, frame]
  refine ⟨t, ha.trans ?_, taken, ended.job, hold, fun q hq => (ended.others q hq).trans (others q hq), whole⟩
  rw [whole]
  rfl

/-! The end of a program job. -/

/-- Partition `p` ends its job at `s`, and stays in SHOT mode with descriptors to take. -/
def State.jobDone (s : State) (p : Nat) : State := (s.completeJob p 0 0).garnetClose p

theorem garnetClose_frame (s : State) (p : Nat) :
    s.garnetClose p = { s with regs := (s.garnetClose p).regs, graphs := (s.garnetClose p).graphs } := by
  unfold State.garnetClose
  dsimp only
  split <;> rfl

theorem jobOver_stays {s : State} {p : Nat} (hm : (s.part p).mode = .shot) (hr : (s.part p).holdReq = none)
    (hp : (s.part p).posted ≠ (s.part p).taken) (t : Nat) : s.jobOver p t = s := by
  simp only [State.jobOver, hm, hr, if_neg hp]
  rfl

theorem execJobEnd_shot {s : State} {p : Fin 8} {j : Job} (hj : (s.part p.val).job = some j) (ht : j.type = .program)
    (hm : (s.part p.val).mode = .shot) (ha : (s.part p.val).attempt.active = false) (hp : (s.part p.val).probe = none)
    (hc : ∀ c ∈ s.cast p.val, (s.qtz c).st = .halted) (hl : ∀ l ∈ s.loopsOf p.val, (s.loop l).due = false) :
    exec (.jobEnd p) s = answer s ((s.jobDone p.val).jobOver p.val ((s.part p.val).prevE.getD s.now)) := by
  have done : ((s.cast p.val).all fun c => (s.qtz c).st == .halted) = true := by
    rw [List.all_eq_true]
    exact fun c h => by rw [hc c h]; rfl
  have due : ((s.loopsOf p.val).any fun l => (s.loop l).due) = false := by
    rw [List.any_eq_false]
    exact fun l h => by simp [hl l h]
  refine congrArg (answer s) ?_
  dsimp only
  rw [hj]
  dsimp only
  rw [done, due, ht, hm, ha, hp]
  rfl

theorem answers_jobEnd {s : State} {p : Fin 8} {j : Job} (hj : (s.part p.val).job = some j) (ht : j.type = .program)
    (hm : (s.part p.val).mode = .shot) (ha : (s.part p.val).attempt.active = false) (hp : (s.part p.val).probe = none)
    (hr : (s.part p.val).holdReq = none) (hd : (s.part p.val).posted ≠ (s.part p.val).taken)
    (hc : ∀ c ∈ s.cast p.val, (s.qtz c).st = .halted) (hl : ∀ l ∈ s.loopsOf p.val, (s.loop l).due = false) :
    Answers (.jobEnd p) s fun t => (t.part p.val).job = none ∧ (t.part p.val).mode = .shot ∧ t.cores = s.cores ∧
      t = { s with parts := t.parts, regs := t.regs, graphs := t.graphs } := by
  have hx := execJobEnd_shot hj ht hm ha hp hc hl
  have ended := completeJob_ended s p.val 0 0
  have part : (s.jobDone p.val).part p.val = (s.completeJob p.val 0 0).part p.val := by
    unfold State.jobDone
    rw [garnetClose_frame]
    rfl
  have frame : s.jobDone p.val = { s with
      parts := (s.jobDone p.val).parts, regs := (s.jobDone p.val).regs, graphs := (s.jobDone p.val).graphs } := by
    unfold State.jobDone
    rw [garnetClose_frame, ended.frame]
  generalize s.jobDone p.val = t at hx part frame
  have rest := ended.kept.rest
  have mode : (t.part p.val).mode = .shot := by
    rw [part]
    exact (congrArg Part.mode rest).trans hm
  have req : (t.part p.val).holdReq = none := by
    rw [part]
    exact (congrArg Part.holdReq rest).trans hr
  have left : (t.part p.val).posted ≠ (t.part p.val).taken := by
    rw [part]
    exact ((congrArg Part.posted rest).trans_ne hd).trans_eq (congrArg Part.taken rest).symm
  rw [jobOver_stays mode req left] at hx
  refine ⟨t, hx.trans ?_, part ▸ ended.job, mode, ?_, frame⟩
  · rw [frame]
    rfl
  · rw [frame]

theorem execJobEnd_early {s : State} {p : Fin 8} {j : Job} (hj : (s.part p.val).job = some j)
    (h : (s.part p.val).attempt.active = true ∨ ∃ c ∈ s.cast p.val, (s.qtz c).st ≠ .halted) :
    exec (.jobEnd p) s = .next s := by
  refine (congrArg (answer s) ?_).trans (answer_self s)
  dsimp only
  rw [hj]
  dsimp only
  refine if_pos ?_
  rcases h with h | ⟨c, hc, hne⟩
  · simp [h]
  · have running : ((s.cast p.val).all fun c => (s.qtz c).st == .halted) = false := by
      rw [List.all_eq_false]
      exact ⟨c, hc, by simpa using hne⟩
    simp [running]

/-- Settles O36, by what a hold request, a descriptor taken and a job's end come to in each mode. -/
theorem holdResumeAndJobs : Obligations.HoldResumeAndJobs := by
  refine ⟨fun s p l => ⟨fun h => ?_, fun h hm => ?_, fun h hm hw => ?_, fun h hm hj => ?_, fun h => ?_,
    fun hr hb hf => answers_hostResume l hr hb hf⟩, fun s p d b => ⟨fun h x y => ?_,
    fun hm ho hd hb ht hok ha => answers_jobTake_program hm ho hd hb ht hok ha,
    fun hm hd hh => answers_jobTake_refused hm hd hh, fun j hj ht hm ha hp hr hd hc hl => answers_jobEnd hj ht hm ha hp hr hd hc hl,
    fun j hj h => execJobEnd_early hj h⟩⟩
  · exact (congrArg (answer s) (holdCommand_busy h)).trans (answer_self s)
  · exact (congrArg (answer s) (holdCommand_hold h hm)).trans (answer_next _ _ rfl rfl rfl rfl)
  · exact (congrArg (answer s) (holdCommand_waits h hm hw)).trans (answer_next _ _ rfl rfl rfl rfl)
  · have held := holdCommand_held h hm hj
    exact ⟨_, rfl, held.mode, held.cause, held.resume.trans (Bool.or_true _), held.job, held.holdReq, held.halted⟩
  · rw [hostResume_eq, if_neg]
    · rfl
    · rcases h with h | h | h
      · rw [h]
        simp
      · rw [h]
        simp
      · rw [h]
        simp
  · show answer s (if !s.mayTake p.val then s else _) = _
    rw [h]
    rfl

end Sys2Proof.Machine

namespace Sys2Proof.Machine

/-! The targets of bias outputs (15 R435 to R439). -/

/-! A target that an output receives, by what its limiter does. -/

theorem biasAim_running {s : State} {n : Nat} (h : (s.bias n).next.isSome = true) (v : Int) (f : Nat) :
    s.biasAim n v f = s.updBias n fun b => { b with target := v, clampAfter := false } := if_pos h

theorem biasAim_there {s : State} {n : Nat} {v : Int} (h : (s.bias n).next = none) (hv : (s.bias n).out = v) (f : Nat) :
    s.biasAim n v f =
      (s.updBias n fun b => { b with target := v, clampAfter := false, zFrame := none }).setBiasState n bSteady :=
  (if_neg (by simp [h])).trans (if_pos hv)

theorem biasAim_ramps {s : State} {n : Nat} {v : Int} (h : (s.bias n).next = none) (hv : (s.bias n).out ≠ v)
    (hu : s.biasState n ≠ bUp) (f : Nat) : s.biasAim n v f =
      (s.updBias n fun b => { b with target := v, next := some f, clampAfter := false, zFrame := none }).setBiasState n bRamping :=
  (if_neg (by simp [h])).trans ((if_neg hv).trans (if_neg hu))

/-! A write, by the state of the output. -/

theorem biasWrite_control {s : State} {n : Nat} (h : s.biasState n = bControl) (c f : Nat) : s.biasWrite n c f = s := if_pos h

theorem biasWrite_changing {s : State} {n : Nat} (h : s.biasState n = bDown ∨ s.biasState n = bSwitch)
    (hc : (s.bias n).changing = true) (c f : Nat) :
    s.biasWrite n c f = s.updBias n fun b => { b with codeTo := codeVal b.spanTo c } := by
  refine (if_neg ?_).trans (if_pos ?_)
  · rcases h with h | h <;> rw [h] <;> decide
  · rw [hc]
    rcases h with h | h <;> rw [h] <;> decide

theorem biasWrite_open {s : State} {n : Nat} (h : s.biasState n = bSteady ∨ s.biasState n = bRamping)
    (hc : (s.bias n).changing = false) (c f : Nat) :
    s.biasWrite n c f = s.biasAim n (codeVal (s.fld (BIAS_STAT n) 4 3) c) f := by
  have states : s.biasState n ≠ bControl ∧ s.biasState n ≠ bClamped := by
    rcases h with h | h <;> rw [h] <;> decide
  unfold State.biasWrite
  simp only [hc, Bool.false_and, Bool.false_eq_true, if_false, if_neg states.1, if_neg states.2]

/-- The span of a clamped output whose span is to change is switched with the write. -/
def State.biasSpanNow (s : State) (n : Nat) : State :=
  if (s.bias n).changing then s.setFld (BIAS_STAT n) 4 3 (s.bias n).spanTo else s

/-- The clamp of output `n` opens, at code 0. -/
def State.biasOpen (s : State) (n : Nat) : State :=
  let s := s.updBias n fun b => { b with out := 0, target := 0, next := none, changing := false, zFrame := none }
  (s.setBit (BIAS_STAT n) 5 true).setBiasState n bSteady

theorem biasSpanNow_bias (s : State) (n : Nat) : (s.biasSpanNow n).bias n = s.bias n := by
  unfold State.biasSpanNow
  split <;> rfl

theorem biasSpanNow_state (s : State) (n : Nat) : (s.biasSpanNow n).biasState n = s.biasState n := by
  unfold State.biasSpanNow
  split
  · exact fld_setFld_disj _ _ _ _ _ _ _ (by decide) (by decide) (by decide)
  · rfl

theorem biasWrite_clamped {s : State} {n : Nat} (h : s.biasState n = bClamped) (c f : Nat) : s.biasWrite n c f =
    ((s.biasSpanNow n).biasOpen n).biasAim n (codeVal ((s.biasSpanNow n).fld (BIAS_STAT n) 4 3) c) f := by
  have span : (if ((s.bias n).changing && s.biasState n == bClamped) = true then s.setFld (BIAS_STAT n) 4 3 (s.bias n).spanTo
      else s) = s.biasSpanNow n := by
    unfold State.biasSpanNow
    rw [h]
    simp
  unfold State.biasWrite
  dsimp only
  rw [span, biasSpanNow_state, h, if_neg (by decide), if_neg (by simp), if_pos rfl]
  rfl

theorem setBiasState_shown (s : State) (n v : Nat) (hv : v < 8) : (s.setBiasState n v).biasState n = v ∧
    (s.setBiasState n v).fld (BIAS_STAT n) 4 3 = s.fld (BIAS_STAT n) 4 3 ∧
    (s.setBiasState n v).bit (BIAS_STAT n) 5 = s.bit (BIAS_STAT n) 5 :=
  ⟨(fld_setFld _ _ _ _ _ (by decide) (by decide)).trans (Nat.mod_eq_of_lt hv),
    fld_setFld_disj _ _ _ _ _ _ _ (by decide) (by decide) (by decide),
    bit_setFld_disj _ _ _ _ _ _ (by decide) (by decide) (by decide)⟩

theorem bias_setBiasState (s : State) (n v k : Nat) : (s.setBiasState n v).bias k = s.bias k := rfl

/-- What the opening of the clamp leaves. -/
theorem biasOpen_opened (s : State) (n : Nat) : (s.biasOpen n).biasState n = bSteady ∧ (s.biasOpen n).bit (BIAS_STAT n) 5 = true ∧
    (s.biasOpen n).fld (BIAS_STAT n) 4 3 = s.fld (BIAS_STAT n) 4 3 ∧ (s.biasOpen n).bias n =
      { s.bias n with out := 0, target := 0, next := none, changing := false, zFrame := none } := by
  unfold State.biasOpen
  dsimp only
  have bias := bias_updBias s n fun b => { b with out := 0, target := 0, next := none, changing := false, zFrame := none }
  have span : (s.updBias n fun b => { b with out := 0, target := 0, next := none, changing := false, zFrame := none }).fld
      (BIAS_STAT n) 4 3 = s.fld (BIAS_STAT n) 4 3 := rfl
  generalize s.updBias n _ = a at bias span ⊢
  have opened := bit_setBit a (BIAS_STAT n) 5 true (by decide)
  have spanKept := fld_setBit_disj a (BIAS_STAT n) 5 true 4 3 (by decide) (by decide)
  have biasKept : (a.setBit (BIAS_STAT n) 5 true).bias n = a.bias n := rfl
  generalize a.setBit (BIAS_STAT n) 5 true = b at opened spanKept biasKept ⊢
  obtain ⟨state, fld, bit⟩ := setBiasState_shown b n bSteady (by decide)
  exact ⟨state, bit.trans opened, fld.trans (spanKept.trans span), (bias_setBiasState ..).trans (biasKept.trans bias)⟩

/-- A target that an output at rest receives. -/
structure Aimed (s t : State) (n : Nat) (v : Int) (f : Nat) : Prop where
  target : (t.bias n).target = v
  out : (t.bias n).out = (s.bias n).out
  changing : (t.bias n).changing = (s.bias n).changing
  moves : v ≠ (s.bias n).out → t.biasState n = bRamping ∧ (t.bias n).next = some f
  rests : v = (s.bias n).out → t.biasState n = bSteady ∧ (t.bias n).next = none
  span : t.fld (BIAS_STAT n) 4 3 = s.fld (BIAS_STAT n) 4 3
  opened : t.bit (BIAS_STAT n) 5 = s.bit (BIAS_STAT n) 5

theorem biasAim_aimed {s : State} {n : Nat} (hn : (s.bias n).next = none) (hs : s.biasState n = bSteady) (v : Int) (f : Nat) :
    Aimed s (s.biasAim n v f) n v f := by
  by_cases hv : (s.bias n).out = v
  · rw [biasAim_there hn hv]
    obtain ⟨state, span, opened⟩ := setBiasState_shown
      (s.updBias n fun b => { b with target := v, clampAfter := false, zFrame := none }) n bSteady (by decide)
    have bias : ((s.updBias n fun b => { b with target := v, clampAfter := false, zFrame := none }).setBiasState n bSteady).bias n
        = { s.bias n with target := v, clampAfter := false, zFrame := none } :=
      (bias_setBiasState ..).trans (bias_updBias ..)
    refine ⟨?_, ?_, ?_, fun h => absurd hv.symm h, fun _ => ⟨state, ?_⟩, span, opened⟩ <;> rw [bias]
    exact hn
  · rw [biasAim_ramps hn hv (by rw [hs]; decide)]
    obtain ⟨state, span, opened⟩ := setBiasState_shown
      (s.updBias n fun b => { b with target := v, next := some f, clampAfter := false, zFrame := none }) n bRamping (by decide)
    have bias : ((s.updBias n fun b => { b with target := v, next := some f, clampAfter := false, zFrame := none }).setBiasState n
        bRamping).bias n = { s.bias n with target := v, next := some f, clampAfter := false, zFrame := none } :=
      (bias_setBiasState ..).trans (bias_updBias ..)
    refine ⟨?_, ?_, ?_, fun _ => ⟨state, ?_⟩, fun h => absurd h.symm hv, span, opened⟩ <;> rw [bias]

/-- A write that opens the clamp of output `n`. -/
theorem biasWrite_opens {s : State} {n : Nat} (h : s.biasState n = bClamped) (c f : Nat) :
    Aimed ((s.biasSpanNow n).biasOpen n) (s.biasWrite n c f) n (codeVal ((s.biasSpanNow n).fld (BIAS_STAT n) 4 3) c) f := by
  obtain ⟨state, -, -, bias⟩ := biasOpen_opened (s.biasSpanNow n) n
  rw [biasWrite_clamped h]
  exact biasAim_aimed (by rw [bias]) state _ f

/-- Events in hand stay in hand. -/
theorem events_biasAim (s : State) (n : Nat) (v : Int) (f : Nat) : ((s.biasAim n v f).bias n).events = (s.bias n).events := by
  unfold State.biasAim State.setBiasState
  dsimp only
  split
  · simp
  · split
    · simp
    · split <;> simp

theorem events_biasWrite (s : State) (n c f : Nat) : ((s.biasWrite n c f).bias n).events = (s.bias n).events := by
  by_cases hc : s.biasState n = bClamped
  · obtain ⟨-, -, -, bias⟩ := biasOpen_opened (s.biasSpanNow n) n
    rw [biasWrite_clamped hc, events_biasAim, bias, biasSpanNow_bias]
  · unfold State.biasWrite
    dsimp only
    split
    · rfl
    · split
      · rw [bias_updBias]
      · have hb : (s.biasState n == bClamped) = false := by simpa using hc
        rw [hb, Bool.and_false, if_neg Bool.false_ne_true, if_neg hc, events_biasAim]

/-! The frame (15 R435, R436). -/

/-- The later issued of two events in hand. -/
def laterIssued (a b : Nat × Nat × Nat × Bool) : Nat × Nat × Nat × Bool := if a.2.1 ≤ b.2.1 then b else a

theorem foldl_laterIssued (l : List (Nat × Nat × Nat × Bool)) (e : Nat × Nat × Nat × Bool) :
    l.foldl laterIssued e ∈ e :: l ∧ ∀ x ∈ e :: l, x.2.1 ≤ (l.foldl laterIssued e).2.1 := by
  induction l generalizing e with
  | nil => exact ⟨List.mem_singleton.2 rfl, fun x hx => by rw [List.mem_singleton.1 hx]; rfl⟩
  | cons y l ih =>
    obtain ⟨mem, latest⟩ := ih (laterIssued e y)
    have top := latest _ List.mem_cons_self
    have both : e.2.1 ≤ (laterIssued e y).2.1 ∧ y.2.1 ≤ (laterIssued e y).2.1 := by
      unfold laterIssued
      split <;> omega
    refine ⟨?_, ?_⟩
    · rcases List.mem_cons.1 mem with h | h
      · have either : laterIssued e y = e ∨ laterIssued e y = y := by
          unfold laterIssued
          split
          · exact .inr rfl
          · exact .inl rfl
        show l.foldl laterIssued (laterIssued e y) ∈ _
        rw [h]
        rcases either with h | h <;> simp [h]
      · exact List.mem_cons_of_mem _ (List.mem_cons_of_mem _ h)
    · simp only [List.forall_mem_cons]
      exact ⟨both.1.trans top, both.2.trans top, fun x hx => latest x (List.mem_cons_of_mem _ hx)⟩

theorem event_freeEvent (s : State) (id : Nat) : (s.freeEvent id).event id = none := by
  refine List.find?_eq_none.2 fun e he => ?_
  simpa using (List.mem_filter.1 he).2

theorem event_freeEvent_none {s : State} {k : Nat} (h : s.event k = none) (id : Nat) : (s.freeEvent id).event k = none :=
  List.find?_eq_none.2 fun e he => List.find?_eq_none.1 h e (List.mem_of_mem_filter he)

/-- The events of output `n` that are due leave its hand and their entries. -/
def State.biasTake (s : State) (n : Nat) (due : List (Nat × Nat × Nat × Bool)) : State :=
  (s.updBias n fun b => { b with events := b.events.filter fun e => !decide (e.1 ≤ s.now) }).forEach due fun s e => s.freeEvent e.2.1

/-- What the taking of the events due leaves. -/
structure BiasTaken (s t : State) (n : Nat) (due : List (Nat × Nat × Nat × Bool)) : Prop where
  frame : t = { s with biases := t.biases, fab := t.fab }
  bias : t.bias n = { s.bias n with events := (s.bias n).events.filter fun e => !decide (e.1 ≤ s.now) }
  freed : ∀ e ∈ due, t.event e.2.1 = none

theorem biasTake_taken (s : State) (n : Nat) (due : List (Nat × Nat × Nat × Bool)) : BiasTaken s (s.biasTake n due) n due := by
  unfold State.biasTake
  have bias := bias_updBias s n fun b => { b with events := b.events.filter fun e => !decide (e.1 ≤ s.now) }
  have frame : s.updBias n (fun b => { b with events := b.events.filter fun e => !decide (e.1 ≤ s.now) }) = { s with
    biases := (s.updBias n fun b => { b with events := b.events.filter fun e => !decide (e.1 ≤ s.now) }).biases } := rfl
  generalize s.updBias n _ = a at bias frame ⊢
  have frees : a.forEach due (fun s e => s.freeEvent e.2.1) = { a with fab := (a.forEach due fun s e => s.freeEvent e.2.1).fab } :=
    forEach_rel_mem (R := fun a b => b = { a with fab := b.fab }) (fun _ => rfl) (fun a b c h1 h2 => by rw [h2, h1])
      (fun _ _ _ => rfl) a
  have freed : ∀ e ∈ due, (a.forEach due fun s e => s.freeEvent e.2.1).event e.2.1 = none := fun e he =>
    forEach_reaches (P := fun t => t.event e.2.1 = none) he (fun t => event_freeEvent t _)
      (fun t x _ h => event_freeEvent_none h _) a
  generalize a.forEach due _ = b at frees freed ⊢
  refine ⟨?_, ?_, freed⟩
  · rw [frees, frame]
  · rw [← bias, frees]
    rfl

theorem execBiasFrame_none {s : State} {n : Fin 128} (h : ((s.bias n.val).events.filter fun e => decide (e.1 ≤ s.now)) = [] ∨
    s.now % 640 ≠ 0) : exec (.biasFrame n) s = .next s := by
  refine (congrArg (answer s) ?_).trans (answer_self s)
  dsimp only
  cases hd : (s.bias n.val).events.filter fun e => decide (e.1 ≤ s.now) with
  | nil => rfl
  | cons e l => exact if_pos (.inl (h.resolve_left (by simp [hd])))

theorem execBiasFrame_due {s : State} {n : Fin 128} {e : Nat × Nat × Nat × Bool} {l : List (Nat × Nat × Nat × Bool)}
    (hd : ((s.bias n.val).events.filter fun e => decide (e.1 ≤ s.now)) = e :: l) (hf : s.now % 640 = 0)
    (ho : (s.biasOwner n.val).isSome = true) : exec (.biasFrame n) s = answer s
      (if (s.biasTake n.val (e :: l)).biasState n.val = bClamped ∧ (e :: l).all (·.2.2.2) = true then s.biasTake n.val (e :: l)
      else (s.biasTake n.val (e :: l)).biasWrite n.val (l.foldl laterIssued e).2.2.1 (s.biasTake n.val (e :: l)).now) := by
  refine congrArg (answer s) ?_
  dsimp only
  rw [hd]
  exact if_neg (by simp [hf, Option.isSome_iff_ne_none.1 ho])

/-- What a frame comes to on an output whose last issued event due is `w`, as the obligation says it. -/
def FrameSays (s : State) (n : Nat) (due : List (Nat × Nat × Nat × Bool)) (w : Nat × Nat × Nat × Bool) (t : State) : Prop :=
  let b := s.bias n
  let v := codeVal (s.fld (BIAS_STAT n) 4 3) w.2.2.1
  (s.biasState n = bControl → (t.bias n).target = b.target ∧ t.regs = s.regs) ∧
  (s.biasState n = bDown ∨ s.biasState n = bSwitch → b.changing = true →
    (t.bias n).codeTo = codeVal b.spanTo w.2.2.1 ∧ (t.bias n).target = b.target ∧ t.regs = s.regs) ∧
  (s.biasState n = bClamped → (∀ e ∈ due, e.2.2.2 = true) →
    t.biasState n = bClamped ∧ t.regs = s.regs ∧ (t.bias n).out = b.out) ∧
  (s.biasState n = bClamped → (∃ e ∈ due, e.2.2.2 = false) → b.changing = true → b.spanTo < 4 →
    t.fld (BIAS_STAT n) 4 3 = b.spanTo ∧ (t.bias n).target = codeVal b.spanTo w.2.2.1 ∧
    (t.bias n).changing = false ∧ t.bit (BIAS_STAT n) 5 = true) ∧
  (s.biasState n = bClamped → (∃ e ∈ due, e.2.2.2 = false) → b.changing = false → t.bit (BIAS_STAT n) 5 = true ∧
    (t.bias n).target = v ∧ (t.bias n).out = 0 ∧
    (v ≠ 0 → t.biasState n = bRamping ∧ (t.bias n).next = some s.now) ∧
    (v = 0 → t.biasState n = bSteady ∧ (t.bias n).next = none)) ∧
  (s.biasState n = bSteady → b.changing = false → b.next = none → (t.bias n).target = v ∧
    (t.bias n).out = b.out ∧ (v ≠ b.out → t.biasState n = bRamping ∧ (t.bias n).next = some s.now)) ∧
  (s.biasState n = bRamping → b.changing = false → b.next.isSome = true → (t.bias n).target = v ∧
    (t.bias n).out = b.out ∧ (t.bias n).next = b.next ∧ t.regs = s.regs)

/-- The clamp of an output that a write in time opens, with a change of span in hand or without. -/
theorem biasWrite_clamp_says {a : State} {n : Nat} (h : a.biasState n = bClamped) (c f : Nat) :
    ((a.bias n).changing = true → (a.bias n).spanTo < 4 →
      (a.biasWrite n c f).fld (BIAS_STAT n) 4 3 = (a.bias n).spanTo ∧
      ((a.biasWrite n c f).bias n).target = codeVal (a.bias n).spanTo c) ∧
    ((a.bias n).changing = false → ((a.biasWrite n c f).bias n).target = codeVal (a.fld (BIAS_STAT n) 4 3) c ∧
      (codeVal (a.fld (BIAS_STAT n) 4 3) c ≠ 0 →
        (a.biasWrite n c f).biasState n = bRamping ∧ ((a.biasWrite n c f).bias n).next = some f) ∧
      (codeVal (a.fld (BIAS_STAT n) 4 3) c = 0 →
        (a.biasWrite n c f).biasState n = bSteady ∧ ((a.biasWrite n c f).bias n).next = none)) ∧
    ((a.biasWrite n c f).bias n).changing = false ∧ ((a.biasWrite n c f).bias n).out = 0 ∧
    (a.biasWrite n c f).bit (BIAS_STAT n) 5 = true := by
  have aimed := biasWrite_opens h c f
  obtain ⟨-, opened, span, bias⟩ := biasOpen_opened (a.biasSpanNow n) n
  have out : (((a.biasSpanNow n).biasOpen n).bias n).out = 0 := by rw [bias]
  have changing : (((a.biasSpanNow n).biasOpen n).bias n).changing = false := by rw [bias]
  refine ⟨fun hc hs => ?_, fun hc => ?_, aimed.changing.trans changing, aimed.out.trans out, aimed.opened.trans opened⟩
  · have now : (a.biasSpanNow n).fld (BIAS_STAT n) 4 3 = (a.bias n).spanTo := by
      rw [State.biasSpanNow, if_pos hc, fld_setFld _ _ _ _ _ (by decide) (by decide)]
      exact Nat.mod_eq_of_lt hs
    exact ⟨aimed.span.trans (span.trans now), now ▸ aimed.target⟩
  · have same : a.biasSpanNow n = a := if_neg (by simp [hc])
    have moves := aimed.moves
    have rests := aimed.rests
    rw [out, same] at moves rests
    exact ⟨aimed.target.trans (by rw [same]), moves, rests⟩

theorem biasFrame_says {s a : State} {n : Nat} {due : List (Nat × Nat × Nat × Bool)} (taken : BiasTaken s a n due)
    (w : Nat × Nat × Nat × Bool) : FrameSays s n due w
      (if a.biasState n = bClamped ∧ due.all (·.2.2.2) = true then a else a.biasWrite n w.2.2.1 a.now) := by
  have regs : a.regs = s.regs := by rw [taken.frame]
  have now : a.now = s.now := by rw [taken.frame]; rfl
  have reg : a.reg (BIAS_STAT n) = s.reg (BIAS_STAT n) := by unfold State.reg; rw [regs]
  have state : a.biasState n = s.biasState n := fld_ne _ _ _ _ reg
  have span : a.fld (BIAS_STAT n) 4 3 = s.fld (BIAS_STAT n) 4 3 := fld_ne _ _ _ _ reg
  have bias := taken.bias
  rw [now]
  have writes : ∀ h : ¬ (a.biasState n = bClamped ∧ due.all (·.2.2.2) = true),
      (if a.biasState n = bClamped ∧ due.all (·.2.2.2) = true then a else a.biasWrite n w.2.2.1 s.now) =
        a.biasWrite n w.2.2.1 s.now := fun h => if_neg h
  have unclamped : ∀ k, k ≠ bClamped → s.biasState n = k → ¬ (a.biasState n = bClamped ∧ due.all (·.2.2.2) = true) :=
    fun k hk hs h => hk (hs.symm.trans (state.symm.trans h.1))
  have inTime : (∃ e ∈ due, e.2.2.2 = false) → ¬ (a.biasState n = bClamped ∧ due.all (·.2.2.2) = true) := by
    rintro ⟨e, he, hf⟩ ⟨-, h⟩
    have := List.all_eq_true.1 h e he
    simp [hf] at this
  refine ⟨fun hs => ?_, fun hs hc => ?_, fun hs hl => ?_, fun hs he hc h4 => ?_, fun hs he hc => ?_, fun hs hc hn => ?_,
    fun hs hc hn => ?_⟩
  · rw [writes (unclamped _ (by decide) hs), biasWrite_control (state.trans hs), bias]
    exact ⟨rfl, regs⟩
  · have hne : ¬ (a.biasState n = bClamped ∧ due.all (·.2.2.2) = true) :=
      hs.elim (unclamped _ (by decide)) (unclamped _ (by decide))
    rw [writes hne, biasWrite_changing (by rwa [state]) (by rw [bias]; exact hc), bias_updBias, bias]
    exact ⟨rfl, rfl, regs⟩
  · rw [if_pos ⟨state.trans hs, List.all_eq_true.2 hl⟩, bias]
    exact ⟨state.trans hs, regs, rfl⟩
  · obtain ⟨changing, -, done, -, opened⟩ := biasWrite_clamp_says (state.trans hs) w.2.2.1 s.now
    rw [writes (inTime he)]
    rw [bias] at changing
    obtain ⟨shown, target⟩ := changing hc h4
    exact ⟨shown, target, done, opened⟩
  · obtain ⟨-, plain, -, out, opened⟩ := biasWrite_clamp_says (state.trans hs) w.2.2.1 s.now
    rw [writes (inTime he)]
    rw [bias, span] at plain
    obtain ⟨target, moves, rests⟩ := plain hc
    exact ⟨opened, target, out, moves, rests⟩
  · have aimed := biasAim_aimed (s := a) (n := n) (by rw [bias]; exact hn) (state.trans hs)
      (codeVal (s.fld (BIAS_STAT n) 4 3) w.2.2.1) s.now
    rw [writes (unclamped _ (by decide) hs), biasWrite_open (.inl (state.trans hs)) (by rw [bias]; exact hc), span]
    have out : (a.bias n).out = (s.bias n).out := by rw [bias]
    exact ⟨aimed.target, aimed.out.trans out, fun h => aimed.moves (by rwa [out])⟩
  · rw [writes (unclamped _ (by decide) hs), biasWrite_open (.inr (state.trans hs)) (by rw [bias]; exact hc), span,
      biasAim_running (by rw [bias]; exact hn), bias_updBias, bias]
    exact ⟨rfl, rfl, rfl, regs⟩

theorem answers_biasFrame {s : State} {n : Fin 128} (hd : ((s.bias n.val).events.filter fun e => decide (e.1 ≤ s.now)) ≠ [])
    (hf : s.now % 640 = 0) (ho : (s.biasOwner n.val).isSome = true) :
    let due := (s.bias n.val).events.filter fun e => decide (e.1 ≤ s.now)
    Answers (.biasFrame n) s fun t => ∃ w ∈ due, (∀ e ∈ due, e.2.1 ≤ w.2.1) ∧
      (t.bias n.val).events = ((s.bias n.val).events.filter fun e => !decide (e.1 ≤ s.now)) ∧
      (∀ e ∈ due, t.event e.2.1 = none) ∧ RegsBut s t [BIAS_STAT n.val] ∧ FrameSays s n.val due w t := by
  intro due
  obtain ⟨e, l, hel⟩ := List.exists_cons_of_ne_nil hd
  have ha := execBiasFrame_due hel hf ho
  obtain ⟨mem, latest⟩ := foldl_laterIssued l e
  have taken := biasTake_taken s n.val (e :: l)
  rw [← hel] at mem latest taken ha
  generalize s.biasTake n.val _ = a at ha taken
  have outcome := biasFrame_says taken (l.foldl laterIssued e)
  have work : BiasWork a (if a.biasState n.val = bClamped ∧ due.all (·.2.2.2) = true then a
      else a.biasWrite n.val (l.foldl laterIssued e).2.2.1 a.now) n.val := by
    split
    · exact .refl a _
    · exact .biasWrite ..
  have events : ((if a.biasState n.val = bClamped ∧ due.all (·.2.2.2) = true then a
      else a.biasWrite n.val (l.foldl laterIssued e).2.2.1 a.now).bias n.val).events = (a.bias n.val).events := by
    split
    · rfl
    · exact events_biasWrite ..
  generalize (if a.biasState n.val = bClamped ∧ due.all (·.2.2.2) = true then a
      else a.biasWrite n.val (l.foldl laterIssued e).2.2.1 a.now) = t at ha outcome work events
  refine ⟨t, ha.trans ?_, _, mem, latest, events.trans (by rw [taken.bias]), fun x hx => ?_, fun x hx => ?_, outcome⟩
  · rw [work.frame, taken.frame]
    rfl
  · have fab : t.fab = a.fab := by rw [work.frame]
    unfold State.event
    rw [fab]
    exact taken.freed x hx
  · rw [work.regs x hx, taken.frame]
    rfl

/-! The limiter (15 R437). -/

/-- What is left to the target. -/
def Bias.slewDelta (b : Bias) (step : Nat) : Int :=
  if (step : Int) = 0 then b.target - b.out else clamp (-(step : Int)) step (b.target - b.out)

/-- The limiter moves the code by at most STEP, towards the target and never past it. -/
theorem slewDelta_bounds (b : Bias) (step : Nat) : (step = 0 → b.out + b.slewDelta step = b.target) ∧
    (step ≠ 0 → (b.out + b.slewDelta step - b.out).natAbs = min step (b.target - b.out).natAbs) ∧
    (b.target - (b.out + b.slewDelta step)).natAbs + (b.out + b.slewDelta step - b.out).natAbs = (b.target - b.out).natAbs := by
  unfold Bias.slewDelta clamp
  split
  · omega
  · split
    · omega
    · split <;> omega

/-- The limiter's step has been made, before what the output's state adds. -/
def State.slewMove (s : State) (n f : Nat) : State := s.updBias n fun b => { b with prev := b.out, moved := f }

theorem execSlewStep_due {s : State} {n : Fin 128} {f : Nat} (h : (s.bias n.val).next = some f) (hf : f ≤ s.now) :
    exec (.slewStep n) s = answer s (
      let b := s.bias n.val
      let out := b.out + b.slewDelta (s.fld (BIAS_SLEW n.val) 19 0)
      let s := s.slewMove n.val f
      if out ≠ b.target then
        s.updBias n.val fun b => { b with out := out, next := some (f + 640 * max 1 (s.fld (BIAS_UI n.val) 15 0)) }
      else if s.biasState n.val = bControl then s.updBias n.val fun b => { b with out := out, next := none }
      else if s.biasState n.val = bDown || b.clampAfter then
        s.updBias n.val fun b => { b with out := out, next := none, zFrame := some (f + 640) }
      else
        (s.updBias n.val fun b =>
          { b with out := out, next := none, changing := false, zFrame := none }).setBiasState n.val bSteady) := by
  refine congrArg (answer s) ?_
  dsimp only
  rw [h]
  exact if_neg (by omega)

/-- What a step of the limiter of output `n` at its frame `f` leaves. -/
structure Slewed (s t : State) (n f : Nat) (out : Int) : Prop extends BiasWork s t n where
  out_eq : (t.bias n).out = out
  target : (t.bias n).target = (s.bias n).target
  events : (t.bias n).events = (s.bias n).events
  prev : (t.bias n).prev = (s.bias n).out
  moved : (t.bias n).moved = f
  goesOn : out ≠ (s.bias n).target →
    t.regs = s.regs ∧ (t.bias n).next = some (f + 640 * max 1 (s.fld (BIAS_UI n) 15 0))
  arrives : out = (s.bias n).target → (t.bias n).next = none
  control : out = (s.bias n).target → s.biasState n = bControl → t.regs = s.regs ∧ (t.bias n).zFrame = (s.bias n).zFrame
  clamps : out = (s.bias n).target → s.biasState n ≠ bControl → s.biasState n = bDown ∨ (s.bias n).clampAfter = true →
    (t.bias n).zFrame = some (f + 640) ∧ t.regs = s.regs
  rests : out = (s.bias n).target → s.biasState n ≠ bControl → s.biasState n ≠ bDown → (s.bias n).clampAfter = false →
    t.biasState n = bSteady ∧ (t.bias n).changing = false

theorem slewStep_slewed (s : State) (n f : Nat) (out : Int) : Slewed s
    (if out ≠ (s.bias n).target then (s.slewMove n f).updBias n fun b =>
        { b with out := out, next := some (f + 640 * max 1 ((s.slewMove n f).fld (BIAS_UI n) 15 0)) }
      else if (s.slewMove n f).biasState n = bControl then (s.slewMove n f).updBias n fun b => { b with out := out, next := none }
      else if (s.slewMove n f).biasState n = bDown || (s.bias n).clampAfter then
        (s.slewMove n f).updBias n fun b => { b with out := out, next := none, zFrame := some (f + 640) }
      else
        ((s.slewMove n f).updBias n fun b =>
          { b with out := out, next := none, changing := false, zFrame := none }).setBiasState n bSteady) n f out := by
  have moves : BiasWork s (s.slewMove n f) n := .updBias ..
  have moved : (s.slewMove n f).bias n = { s.bias n with prev := (s.bias n).out, moved := f } := bias_updBias ..
  have regs : (s.slewMove n f).regs = s.regs := rfl
  have state : (s.slewMove n f).biasState n = s.biasState n := rfl
  have ui : (s.slewMove n f).fld (BIAS_UI n) 15 0 = s.fld (BIAS_UI n) 15 0 := rfl
  rw [state, ui]
  generalize s.slewMove n f = a at moves moved regs
  split
  · rename_i hne
    refine ⟨moves.trans (.updBias ..), ?_, ?_, ?_, ?_, ?_, fun _ => ⟨regs, ?_⟩, fun h => absurd h hne, fun h => absurd h hne,
      fun h => absurd h hne, fun h => absurd h hne⟩ <;> rw [bias_updBias, moved]
  · rename_i heq
    have hout : out = (s.bias n).target := not_not.1 heq
    split
    · rename_i hc
      refine ⟨moves.trans (.updBias ..), ?_, ?_, ?_, ?_, ?_, fun h => absurd hout h, fun _ => ?_, fun _ _ => ⟨regs, ?_⟩,
        fun _ h => absurd hc h, fun _ h => absurd hc h⟩ <;> rw [bias_updBias, moved]
    · rename_i hc
      split
      · rename_i hd
        have hd : s.biasState n = bDown ∨ (s.bias n).clampAfter = true := by simpa using hd
        refine ⟨moves.trans (.updBias ..), ?_, ?_, ?_, ?_, ?_, fun h => absurd hout h, fun _ => ?_, fun _ h => absurd h hc,
          fun _ _ _ => ⟨?_, regs⟩, fun _ _ h1 h2 => ?_⟩
        rotate_right
        · exact absurd hd (by simp [h1, h2])
        all_goals rw [bias_updBias, moved]
      · rename_i hd
        have hd : ¬ (s.biasState n = bDown ∨ (s.bias n).clampAfter = true) := by simpa using hd
        refine ⟨(moves.trans (.updBias ..)).trans (.setBiasState ..), ?_, ?_, ?_, ?_, ?_, fun h => absurd hout h, fun _ => ?_,
          fun _ h => absurd h hc, fun _ _ h => absurd h hd, fun _ _ _ _ => ⟨(setBiasState_shown _ _ _ (by decide)).1, ?_⟩⟩
        all_goals rw [bias_setBiasState, bias_updBias, moved]

/-! The arrival of a SETBIAS event (15 R436; 01 R21, R24). -/

/-- The event is in its tile's hand. -/
def State.biasTile (s : State) (id : Nat) : State := s.updEvent id fun e => { e with stage := .tile }

theorem execSetbiasArrive_transit {s : State} {id n a : Nat} {code : BitVec 20} {e : Event} (he : s.event id = some e)
    (hk : e.kind = .setbias n code) (hs : e.stage = .transit a) (link : Bool) :
    exec (.setbiasArrive { id := id, link := link }) s = answer s (
      if a ≤ s.now && s.inOrder e a then
        if e.inst < 32 * (s.now + 48) then
          let s := s.inc (BIAS_LATECNT n)
          if (s.part e.part).mode = .shot then
            ((s.updBias n fun b => { b with events := b.events ++
              [(s.now + 1, id, code.toNat, true)] }).stick (BIAS_STAT n) 9).biasTile id
          else (s.cause e.part (if link then 3 else 1) e.core (resource 0 0) 1 (tagOr (s.tagOf e) 4 true)).freeEvent id
        else
          (s.updBias n fun b => { b with events := b.events ++ [((e.inst + 31) / 32, id, code.toNat, false)] }).biasTile id
      else s) := by
  refine congrArg (answer s) ?_
  dsimp only
  rw [he]
  dsimp only
  rw [hk, hs]
  rfl

theorem setbiasArrive_waits {s : State} {id n a : Nat} {code : BitVec 20} {e : Event} (he : s.event id = some e)
    (hk : e.kind = .setbias n code) (hs : e.stage = .transit a) (link : Bool) (h : s.now < a ∨ s.inOrder e a = false) :
    exec (.setbiasArrive { id := id, link := link }) s = .next s := by
  rw [execSetbiasArrive_transit he hk hs, if_neg]
  · rfl
  · rcases h with h | h
    · simp [h]
    · simp [h]

theorem setbiasArrive_inTime {s : State} {id n a : Nat} {code : BitVec 20} {e : Event} (he : s.event id = some e)
    (hk : e.kind = .setbias n code) (hs : e.stage = .transit a) (link : Bool) (ha : a ≤ s.now) (ho : s.inOrder e a = true)
    (ht : 32 * (s.now + 48) ≤ e.inst) : exec (.setbiasArrive { id := id, link := link }) s = .next
      ((s.updBias n fun b => { b with events := b.events ++ [((e.inst + 31) / 32, id, code.toNat, false)] }).updEvent id
        fun e => { e with stage := .tile }) := by
  rw [execSetbiasArrive_transit he hk hs, if_pos (by simp [ha, ho]), if_neg (by omega)]
  rfl

theorem setbiasArrive_late {s : State} {id n a : Nat} {code : BitVec 20} {e : Event} (he : s.event id = some e)
    (hk : e.kind = .setbias n code) (hs : e.stage = .transit a) (link : Bool) (ha : a ≤ s.now) (ho : s.inOrder e a = true)
    (ht : e.inst < 32 * (s.now + 48)) : exec (.setbiasArrive { id := id, link := link }) s = answer s (
      let s := s.inc (BIAS_LATECNT n)
      if (s.part e.part).mode = .shot then
        ((s.updBias n fun b => { b with events := b.events ++
          [(s.now + 1, id, code.toNat, true)] }).stick (BIAS_STAT n) 9).biasTile id
      else (s.cause e.part (if link then 3 else 1) e.core (resource 0 0) 1 (tagOr (s.tagOf e) 4 true)).freeEvent id) := by
  rw [execSetbiasArrive_transit he hk hs, if_pos (by simp [ha, ho]), if_pos ht]

theorem bit_stick (s : State) (a : Nat) {i : Nat} (h : i < 32) : (s.stick a i).bit a i = true := bit_setBit _ a i true h

theorem answers_setbiasArrive_lateShot {s : State} {id n a : Nat} {code : BitVec 20} {e : Event} (he : s.event id = some e)
    (hk : e.kind = .setbias n code) (hs : e.stage = .transit a) (link : Bool) (ha : a ≤ s.now) (ho : s.inOrder e a = true)
    (ht : e.inst < 32 * (s.now + 48)) (hm : (s.part e.part).mode = .shot) :
    Answers (.setbiasArrive { id := id, link := link }) s fun t =>
      (t.bias n).events = (s.bias n).events ++ [(s.now + 1, id, code.toNat, true)] ∧ t.bit (BIAS_STAT n) 9 = true ∧
      t.regN (BIAS_LATECNT n) = min (s.regN (BIAS_LATECNT n) + 1) (2 ^ 32 - 1) ∧
      RegsBut s t [BIAS_LATECNT n, BIAS_STAT n] ∧
      t = { s with regs := t.regs, before := t.before, biases := t.biases, fab := t.fab } := by
  have hx := setbiasArrive_late he hk hs link ha ho ht
  have counted := regN_inc s (BIAS_LATECNT n)
  have regs : ∀ x, x ≠ BIAS_LATECNT n → (s.inc (BIAS_LATECNT n)).reg x = s.reg x := fun x hx => reg_inc_ne s 1 hx
  have frame : s.inc (BIAS_LATECNT n) = { s with regs := (s.inc (BIAS_LATECNT n)).regs } := rfl
  have mode : ((s.inc (BIAS_LATECNT n)).part e.part).mode = .shot := hm
  have now : (s.inc (BIAS_LATECNT n)).now = s.now := rfl
  dsimp only at hx
  rw [if_pos mode] at hx
  generalize s.inc (BIAS_LATECNT n) = b at hx counted regs frame now
  have hand : (b.updBias n fun x => { x with events := x.events ++ [(b.now + 1, id, code.toNat, true)] }).bias n =
      { b.bias n with events := (b.bias n).events ++ [(b.now + 1, id, code.toNat, true)] } := bias_updBias ..
  have handRegs : (b.updBias n fun x => { x with events := x.events ++ [(b.now + 1, id, code.toNat, true)] }).regs = b.regs := rfl
  have handFrame : b.updBias n (fun x => { x with events := x.events ++ [(b.now + 1, id, code.toNat, true)] }) = { b with
    biases := (b.updBias n fun x => { x with events := x.events ++ [(b.now + 1, id, code.toNat, true)] }).biases } := rfl
  generalize b.updBias n _ = c at hx hand handRegs handFrame
  have shown : (c.stick (BIAS_STAT n) 9).bit (BIAS_STAT n) 9 = true := bit_stick c _ (by decide)
  have shownRegs : ∀ x, x ≠ BIAS_STAT n → (c.stick (BIAS_STAT n) 9).reg x = c.reg x := fun x hx => reg_stick_ne c 9 hx
  have shownFrame : c.stick (BIAS_STAT n) 9 = { c with
    regs := (c.stick (BIAS_STAT n) 9).regs, before := (c.stick (BIAS_STAT n) 9).before } := stick_frame ..
  generalize c.stick (BIAS_STAT n) 9 = d at hx shown shownRegs shownFrame
  have tile : d.biasTile id = { d with fab := (d.biasTile id).fab } := rfl
  generalize d.biasTile id = t at hx tile
  have whole : t = { s with regs := t.regs, before := t.before, biases := t.biases, fab := t.fab } := by
    rw [tile, shownFrame, handFrame, frame]
  have reg : ∀ x, t.reg x = d.reg x := fun x => by rw [tile]; rfl
  have kept : ∀ x, x ≠ BIAS_STAT n → t.reg x = b.reg x := fun x hx => by
    rw [reg, shownRegs x hx]
    unfold State.reg
    rw [handRegs]
  refine ⟨t, hx.trans ?_, ?_, (bit_ne _ _ _ (reg _)).trans shown, ?_, fun x hx => ?_, whole⟩
  · rw [whole]
    rfl
  · have bias : t.bias n = c.bias n := by rw [tile, shownFrame]; rfl
    rw [bias, hand, now, frame]
    rfl
  · exact (congrArg BitVec.toNat (kept _ (by unfold BIAS_LATECNT BIAS_STAT; omega))).trans counted
  · simp only [List.mem_cons, List.not_mem_nil, or_false, not_or] at hx
    exact (kept x hx.2).trans (regs x hx.1)

theorem answers_setbiasArrive_lateStream {s : State} {id n a : Nat} {code : BitVec 20} {e : Event} (he : s.event id = some e)
    (hk : e.kind = .setbias n code) (hs : e.stage = .transit a) (link : Bool) (ha : a ≤ s.now) (ho : s.inOrder e a = true)
    (ht : e.inst < 32 * (s.now + 48)) (hm : (s.part e.part).mode = .stream) :
    Answers (.setbiasArrive { id := id, link := link }) s fun t =>
      t.event id = none ∧ t.biases = s.biases ∧
      t.regN (BIAS_LATECNT n) = min (s.regN (BIAS_LATECNT n) + 1) (2 ^ 32 - 1) ∧
      RegsBut s t [BIAS_LATECNT n] ∧ t = { s with regs := t.regs, parts := t.parts, fab := t.fab } := by
  have hx := setbiasArrive_late he hk hs link ha ho ht
  have counted := regN_inc s (BIAS_LATECNT n)
  have regs : RegsBut s (s.inc (BIAS_LATECNT n)) [BIAS_LATECNT n] := fun x hx => reg_inc_ne s 1 (by simpa using hx)
  have frame : s.inc (BIAS_LATECNT n) = { s with regs := (s.inc (BIAS_LATECNT n)).regs } := rfl
  have mode : ((s.inc (BIAS_LATECNT n)).part e.part).mode = .stream := hm
  dsimp only at hx
  rw [if_neg (by rw [mode]; decide)] at hx
  generalize s.inc (BIAS_LATECNT n) = b at hx counted regs frame mode
  have cause : ∀ c r d t, Queued b (b.cause e.part c e.core r d t) := fun c r d t => by
    rw [State.cause, State.causeBy, mode]
    exact streamRec_queued ..
  have queued := cause (if link then 3 else 1) (resource 0 0) 1 (tagOr (b.tagOf e) 4 true)
  generalize b.cause e.part _ _ _ _ _ = c at hx queued
  have whole : c.freeEvent id = { s with regs := (c.freeEvent id).regs, parts := (c.freeEvent id).parts, fab := (c.freeEvent id).fab } := by
    have hc : c = { s with regs := c.regs, parts := c.parts, fab := c.fab } := by rw [queued.frame, frame]
    show { c with fab := _ } = _
    rw [hc]
    rfl
  have reg : ∀ x, (c.freeEvent id).reg x = b.reg x := fun x => by
    show c.reg x = b.reg x
    unfold State.reg
    rw [queued.regs]
  refine ⟨c.freeEvent id, hx.trans ?_, event_freeEvent c id, ?_, ?_, fun x hx => (reg x).trans (regs x hx), whole⟩
  · rw [whole]
    rfl
  · rw [whole]
  · exact (congrArg BitVec.toNat (reg _)).trans counted

theorem answers_slewStep {s : State} {n : Fin 128} {f : Nat} (h : (s.bias n.val).next = some f) (hf : f ≤ s.now) :
    Answers (.slewStep n) s fun t =>
      Slewed s t n.val f ((s.bias n.val).out + (s.bias n.val).slewDelta (s.fld (BIAS_SLEW n.val) 19 0)) := by
  have hx := execSlewStep_due h hf
  have slewed := slewStep_slewed s n.val f ((s.bias n.val).out + (s.bias n.val).slewDelta (s.fld (BIAS_SLEW n.val) 19 0))
  dsimp only at hx
  generalize (if (s.bias n.val).out + (s.bias n.val).slewDelta (s.fld (BIAS_SLEW n.val) 19 0) ≠ (s.bias n.val).target then _
    else _ : State) = t at hx slewed
  refine ⟨t, hx.trans ?_, slewed⟩
  rw [slewed.frame]
  rfl

/-- Settles O44, by what a write makes of a target in each state of the output. -/
theorem biasTargets : Obligations.BiasTargets := by
  refine ⟨fun s id n a code e link he hk hs hn => ⟨setbiasArrive_waits he hk hs link, setbiasArrive_inTime he hk hs link,
    answers_setbiasArrive_lateShot he hk hs link, answers_setbiasArrive_lateStream he hk hs link⟩,
    fun s n => ⟨execBiasFrame_none, answers_biasFrame⟩, fun s n => ⟨fun h => ?_, fun f h => ⟨fun hf => ?_, fun hf => ?_⟩⟩⟩
  · refine (congrArg (answer s) ?_).trans (answer_self s)
    dsimp only
    rw [h]
  · refine (congrArg (answer s) ?_).trans (answer_self s)
    dsimp only
    rw [h]
    exact if_pos hf
  · obtain ⟨t, ht, slewed⟩ := answers_slewStep h hf
    obtain ⟨whole, part, sum⟩ := slewDelta_bounds (s.bias n.val) (s.fld (BIAS_SLEW n.val) 19 0)
    have out := slewed.out_eq
    rw [← out] at whole part sum slewed
    exact ⟨t, ht, whole, part, sum, slewed.target, slewed.events, slewed.prev, slewed.moved, slewed.goesOn,
      fun hx => ⟨slewed.arrives hx, slewed.control hx, slewed.clamps hx, slewed.rests hx⟩, slewed.regs, slewed.bias, slewed.frame⟩

end Sys2Proof.Machine

namespace Sys2Proof.Machine

/-! Commits of resolved bindings to their slots (08 R247 to R249). -/

/-- A register below the record registers is as before. -/
theorem Noted.reg_low {s t : State} {p a : Nat} (h : Noted s t p) (ha : a < 0x308200) : t.reg a = s.reg a :=
  h.regs a fun hm => absurd (recordRegs_hold hm) (by omega)

theorem slotCfg_low (i : Fin 512) : DEC_SLOTCFG i.val < 0x308200 := by
  unfold DEC_SLOTCFG
  omega

theorem jappend_of_idle {s : State} {p : Nat} (hm : (s.part p).mode ≠ .shot) (x : Rec) : s.jappend p x = (s, true) := by
  unfold State.jappend
  dsimp only
  exact if_pos (by simp [hm])

/-- Outside SHOT mode nothing enters the journal, and no attempt fails for it. -/
theorem journal_of_idle {s : State} {p : Nat} (hm : (s.part p).mode ≠ .shot) (ha : (s.part p).attempt.active = false) (x : Rec) :
    s.journal p x = s := by
  unfold State.journal
  rw [jappend_of_idle hm]
  unfold State.quotaAtt
  dsimp only
  rw [ha]
  split <;> rfl

theorem garnetTake_of_invalid {s : State} {p : Nat} (h : (s.graph p).valid = false) (i st : Nat) : s.garnetTake p i st = s :=
  if_pos (by rw [h]; rfl)

theorem reportOut_of_off {s : State} {i : Nat} (h : s.bit (DEC_SLOTCFG i) 6 = false) (p : Nat) (r : Result) :
    s.reportOut p i r = s := by
  unfold State.reportOut
  rw [h]
  rfl

theorem forwardOut_of_off {s : State} {i : Nat} (h : s.bit (DEC_SLOTCFG i) 7 = false) (p : Nat) (r : Result) :
    s.forwardOut p i r = s :=
  if_neg (by simp [h])

/-- No core waits for room in a binding queue. -/
def State.NoneWaits (s : State) : Prop := ∀ c, (s.qtz c).st ≠ .stallMeas

theorem measResume_of_none {s : State} (h : s.NoneWaits) (p : Nat) : s.measResume p = s := by
  refine forEach_keeps (P := (· = s)) (fun t c _ ht => ?_) rfl
  subst ht
  have := h c
  split <;> simp_all

/-- Slot `i` reports and forwards nothing, and partition `p` has no graph. -/
structure State.Plain (s : State) (p i : Nat) : Prop where
  report : s.bit (DEC_SLOTCFG i) 6 = false
  forward : s.bit (DEC_SLOTCFG i) 7 = false
  graph : (s.graph p).valid = false

theorem State.Plain.congr {s t : State} {p : Nat} {i : Fin 512} (h : s.Plain p i.val)
    (hr : t.reg (DEC_SLOTCFG i.val) = s.reg (DEC_SLOTCFG i.val)) (hg : t.graphs = s.graphs) : t.Plain p i.val := by
  obtain ⟨report, forward, graph⟩ := h
  unfold State.bit State.regN at report forward
  refine ⟨?_, ?_, ?_⟩
  · rwa [State.bit, State.regN, hr]
  · rwa [State.bit, State.regN, hr]
  · rwa [State.graph, hg]

/-- The slot `x` after its first binding `b` has committed as `r` at tick `n`. -/
def Slot.committed (x : Slot) (b : Binding) (r : Result) (n : Nat) : Slot :=
  { x with
    value := r, queue := x.queue.drop 1, commits := x.commits + 1, validAt := n, hist := (b.id, r.state.toNat, n) :: x.hist }

/-- From `s` to `t` binding `b` of slot `i` has committed as `r`, on behalf of partition `p`. -/
structure Committed (s t : State) (p i : Nat) (b : Binding) (r : Result) : Prop where
  slot : t.slot i = (s.slot i).committed b r s.now
  others : ∀ k, k ≠ i → t.slot k = s.slot k
  frame : t = { s with slots := t.slots, fab := { s.fab with units := t.fab.units }, parts := t.parts, regs := t.regs }
  regs : RegsBut s t (recordRegs p)
  part : ∀ q, (s.part q).Kept (t.part q)
  idle : (s.part p).mode ≠ .shot → (s.part p).attempt.active = false → t.parts = s.parts ∧ t.regs = s.regs

/-- Slot `i` and the units of the fabric as binding `b` commits. -/
def State.commitSlot (s : State) (i : Nat) (b : Binding) (r : Result) : State :=
  (s.updSlot i fun x => x.committed b r s.now).updFab fun f => { f with units := f.units.filter (·.1 != b.id) }

/-- A commit is its slot's update with an entry in the journal, and what goes to the record, the mesh and the graph. -/
theorem commitOne_eq (s : State) (p i : Nat) (b : Binding) (r : Result) : ∃ x, s.commitOne p i b r =
    ((((s.commitSlot i b r).journal p x).reportOut p i r).forwardOut p i r).garnetTake p i r.state.toNat := by
  refine ⟨jentry 3 (s.commitSource i b) i (s.part p).attempt.shotNo r.tag r.state.toNat r.i.toNat r.q.toNat 0, ?_⟩
  unfold State.commitOne State.commitSlot Slot.committed
  dsimp only
  rfl

theorem commitOne_committed {s : State} {p : Nat} {i : Fin 512} (hp : s.Plain p i.val) (b : Binding) (r : Result) :
    Committed s (s.commitOne p i.val b r) p i.val b r := by
  obtain ⟨x, eq⟩ := commitOne_eq s p i.val b r
  have noted := journal_noted (s.commitSlot i.val b r) p x
  have idle : (s.part p).mode ≠ .shot → (s.part p).attempt.active = false →
    (s.commitSlot i.val b r).journal p x = s.commitSlot i.val b r :=
    fun hm ha => journal_of_idle (s := s.commitSlot i.val b r) hm ha x
  generalize (s.commitSlot i.val b r).journal p x = t at eq noted idle
  have plain : t.Plain p i.val := hp.congr (noted.reg_low (slotCfg_low i)) (by rw [noted.frame]; rfl)
  rw [eq, reportOut_of_off plain.report, forwardOut_of_off plain.forward, garnetTake_of_invalid plain.graph]
  have slot : ∀ k, t.slot k = (s.updSlot i.val fun x => x.committed b r s.now).slot k := fun k => by
    rw [noted.frame]
    rfl
  refine ⟨?_, fun k hk => ?_, ?_, noted.regs, noted.part, fun hm ha => ?_⟩
  · rw [slot, slot_updSlot]
  · rw [slot, slot_updSlot_ne _ _ hk]
  · rw [noted.frame]
    rfl
  · rw [idle hm ha]
    exact ⟨rfl, rfl⟩

/-! The head of a queue with one binding. -/

theorem commitReady_empty {s : State} {i : Nat} (h : (s.slot i).queue = []) (p k : Nat) : s.commitReady p i k = s := by
  cases k <;> simp [State.commitReady, h]

theorem commitReady_unresolved {s : State} {i : Nat} {b : Binding} (h : (s.slot i).queue = [b]) (hb : b.result = none)
    (p k : Nat) : s.commitReady p i k = s := by
  cases k <;> simp [State.commitReady, h, hb]

theorem commitReady_early {s : State} {i : Nat} {b : Binding} {r : Result} (h : (s.slot i).queue = [b]) (hb : b.result = some r)
    (hu : ∃ u ∈ s.fab.units, u.1 = b.id ∧ s.now < u.2.1 + 2) (p k : Nat) : s.commitReady p i k = s := by
  obtain ⟨u, hm, hid, ht⟩ := hu
  have early : (s.fab.units.any fun u => u.1 == b.id && decide (s.now < u.2.1 + 2)) = true :=
    List.any_eq_true.2 ⟨u, hm, by simp [hid, ht]⟩
  cases k with
  | zero => rfl
  | succ k => simp only [State.commitReady, h, hb, early, if_true]

theorem commitReady_committed {s : State} {p k : Nat} {i : Fin 512} {b : Binding} {r : Result} (hp : s.Plain p i.val)
    (h : (s.slot i.val).queue = [b]) (hb : b.result = some r)
    (hu : ∀ u ∈ s.fab.units, u.1 = b.id → u.2.1 + 2 ≤ s.now) :
    Committed s (s.commitReady p i.val (k + 1)) p i.val b r := by
  have due : (s.fab.units.any fun u => u.1 == b.id && decide (s.now < u.2.1 + 2)) = false := by
    refine List.any_eq_false.2 fun u hm => ?_
    simp only [Bool.and_eq_true, beq_iff_eq, decide_eq_true_eq, not_and, Nat.not_lt]
    exact hu u hm
  have commit := commitOne_committed hp b r
  have empty : ((s.commitOne p i.val b r).slot i.val).queue = [] := by
    rw [commit.slot, Slot.committed, h]
    rfl
  simpa [State.commitReady, h, hb, due, commitReady_empty empty] using commit

theorem Committed.noneWaits {s t : State} {p i : Nat} {b : Binding} {r : Result} (h : Committed s t p i b r) (hn : s.NoneWaits) :
    t.NoneWaits := by
  rw [h.frame]
  exact hn

/-! A result resolves the bindings that it is for. -/

theorem resolve_single {x : Slot} {b : Binding} (h : x.queue = [b]) (hb : b.result = none) {hit : Binding → Bool}
    (hh : hit b = true) (r : Result) : x.resolve hit r = { x with queue := [{ b with result := some r }] } := by
  unfold Slot.resolve
  simp [h, hb, hh]

theorem unresolved_single {x : Slot} {b : Binding} (h : x.queue = [b]) (hb : b.result = none) : x.unresolved = some b := by
  unfold Slot.unresolved
  simp [h, hb]

/-- The open binding of slot `i`, resolved by `r`, commits. -/
theorem resolve_commits {s : State} {p : Nat} {i : Fin 512} {b : Binding} (hp : s.Plain p i.val) (h : (s.slot i.val).queue = [b])
    (hb : b.result = none) (hu : ∀ u ∈ s.fab.units, u.1 ≠ b.id) (hn : s.NoneWaits) {hit : Binding → Bool} (hh : hit b = true)
    (r : Result) : Committed s (((s.updSlot i.val fun x => x.resolve hit r).commitReady p i.val 8).measResume p) p i.val b r := by
  have slot := resolve_single h hb hh r
  generalize ha : (s.updSlot i.val fun x => x.resolve hit r) = a
  have slot : a.slot i.val = { s.slot i.val with queue := [{ b with result := some r }] } := by
    rw [← ha, slot_updSlot, slot]
  have plain : a.Plain p i.val := by
    rw [← ha]
    exact ⟨hp.report, hp.forward, hp.graph⟩
  have waits : a.NoneWaits := by
    rw [← ha]
    exact hn
  have units : ∀ u ∈ a.fab.units, u.1 = b.id → u.2.1 + 2 ≤ a.now := by
    rw [← ha]
    exact fun u hm e => absurd e (hu u hm)
  have commit := commitReady_committed (k := 7) plain (b := { b with result := some r }) (by rw [slot]) rfl units
  rw [measResume_of_none (commit.noneWaits waits)]
  obtain ⟨value, others, frame, regs, part, idle⟩ := commit
  refine ⟨?_, fun k hk => (others k hk).trans ?_, ?_, ?_, ?_, ?_⟩
  · rw [value, slot, ← ha]
    simp only [Slot.committed, h]
    rfl
  · rw [← ha]
    exact slot_updSlot_ne _ _ hk
  · rw [frame, ← ha]
    rfl
  · subst ha
    exact regs
  · subst ha
    exact part
  · subst ha
    exact idle

end Sys2Proof.Machine

namespace Sys2Proof.Machine

/-! Results, commits and the forwarding time-out, as commands (08 R247, R248, R255). -/

theorem resultArrive_waits {s : State} {id : Nat} {u : Nat × Nat × Result} (h : s.fab.units.find? (·.1 == id) = some u)
    (hw : s.now < u.2.1 ∨ s.unitFirst id = false) : exec (.resultArrive id) s = .next s := by
  show answer s _ = _
  rw [h]
  exact congrArg _ (if_pos (by rcases hw with hw | hw <;> simp [hw]))

theorem resultArrive_resolves {s : State} {id : Nat} {u : Nat × Nat × Result} (h : s.fab.units.find? (·.1 == id) = some u)
    (hn : u.2.1 ≤ s.now) (hf : s.unitFirst id = true) {x : Nat × Slot}
    (hx : s.slots.find? (fun x => x.2.queue.any (·.id == id)) = some x) :
    exec (.resultArrive id) s = .next (s.updSlot x.1 fun y => y.resolve (·.id == id) u.2.2) := by
  show answer s _ = _
  rw [h]
  dsimp only
  rw [if_neg (by simp [hf, hn]), hx]
  rfl

/-- The bindings named `id` that have not resolved are the ones that take the result. -/
theorem resolve_named (y : Slot) (id : Nat) (r : Result) : y.resolve (·.id == id) r =
    { y with queue := y.queue.map fun b => if b.id = id ∧ b.result = none then { b with result := some r } else b } := by
  unfold Slot.resolve
  simp

theorem bindingCommit_eq {s : State} {i : Fin 512} {p : Nat} (h : s.slotOwner i.val = some p) :
    exec (.bindingCommit i) s = answer s ((s.commitReady p i.val 8).measResume p) := by
  show answer s _ = _
  rw [h]

theorem bindingCommit_same {s : State} {i : Fin 512} {p : Nat} (h : s.slotOwner i.val = some p) (hn : s.NoneWaits)
    (hc : s.commitReady p i.val 8 = s) : exec (.bindingCommit i) s = .next s := by
  rw [bindingCommit_eq h, hc, measResume_of_none hn, answer_self]

theorem Committed.answer {s t : State} {p i : Nat} {b : Binding} {r : Result} (h : Committed s t p i b r) : answer s t = .next t := by
  rw [h.frame]
  rfl

theorem bindingCommit_commits {s : State} {i : Fin 512} {p : Nat} {b : Binding} {r : Result} (h : s.slotOwner i.val = some p)
    (hn : s.NoneWaits) (hp : s.Plain p i.val) (hq : (s.slot i.val).queue = [b]) (hb : b.result = some r)
    (hu : ∀ u ∈ s.fab.units, u.1 = b.id → u.2.1 + 2 ≤ s.now) :
    Answers (.bindingCommit i) s fun t => Committed s t p i.val b r := by
  have commit := commitReady_committed (k := 7) hp hq hb hu
  refine ⟨_, ?_, commit⟩
  rw [bindingCommit_eq h, measResume_of_none (commit.noneWaits hn)]
  exact commit.answer

/-- The tag of a binding that the forwarding time-out resolves. -/
def State.lateTag (s : State) (p : Nat) : BitVec 64 :=
  mkTag s.now 0 p (s.part p).attempt.shotNo 0 2 true false false true (s.part p).attempt.num

/-- A tag made as late is late. -/
theorem mkTag_late (time sub part shot frame kind : Nat) (taint settle ovf : Bool) (attempt : Nat) :
    tagBit (mkTag time sub part shot frame kind taint settle ovf true attempt) 4 = true := by
  unfold tagBit mkTag
  rw [bitOf_eq_testBit]
  simp [bn, Nat.testBit_or, show Nat.testBit 16 4 = true by decide]

theorem forwardTimeout_early {s : State} {i : Fin 512} {p : Nat} (h : s.slotOwner i.val = some p)
    (ht : s.now < (s.part p).attempt.s + s.fld DEC_FWDTMO 15 0) : exec (.forwardTimeout i) s = .next s := by
  show answer s _ = _
  rw [h]
  exact congrArg _ (if_pos (by simp [ht]))

theorem forwardTimeout_eq {s : State} {i : Fin 512} {p : Nat} {b : Binding} (h : s.slotOwner i.val = some p)
    (hs : s.slotSrc i.val = 1) (ha : (s.part p).attempt.active = true) (hq : (s.slot i.val).queue = [b]) (hb : b.result = none)
    (ht : (s.part p).attempt.s + s.fld DEC_FWDTMO 15 0 ≤ s.now) : exec (.forwardTimeout i) s =
      answer s ((((s.cause p 3 0xF5 (resource 0x0B i.val) 0 (s.lateTag p)).updSlot i.val fun x =>
        x.resolve (fun _ => true) (indeterminate (s.lateTag p))).commitReady p i.val 8).measResume p) := by
  show answer s _ = _
  rw [h]
  dsimp only
  rw [if_neg (by simp [hs, ha, ht, unresolved_single hq hb])]
  rfl

/-- A commit that records of partition `p` precede. -/
theorem Committed.after_noted {s a t : State} {p : Nat} {i : Nat} {b : Binding} {r : Result} (hn : Noted s a p)
    (h : Committed a t p i b r) : t.slot i = (s.slot i).committed b r s.now ∧ (∀ k, k ≠ i → t.slot k = s.slot k) ∧
      t = { s with slots := t.slots, fab := { s.fab with units := t.fab.units }, parts := t.parts, regs := t.regs } ∧
      RegsBut s t (recordRegs p) := by
  obtain ⟨value, others, frame, regs, -, -⟩ := h
  have slots : ∀ k, a.slot k = s.slot k := fun k => by rw [State.slot, hn.frame]; rfl
  have now : a.now = s.now := by rw [hn.frame]; rfl
  refine ⟨by rw [value, slots, now], fun k hk => (others k hk).trans (slots k), ?_, fun x hx => (regs x hx).trans (hn.regs x hx)⟩
  rw [frame, hn.frame]

theorem forwardTimeout_commits {s : State} {i : Fin 512} {p : Nat} {b : Binding} (h : s.slotOwner i.val = some p)
    (hn : s.NoneWaits) (hp : s.Plain p i.val) (hq : (s.slot i.val).queue = [b]) (hb : b.result = none)
    (hs : s.slotSrc i.val = 1) (ha : (s.part p).attempt.active = true) (hm : (s.part p).mode = .shot)
    (ht : (s.part p).attempt.s + s.fld DEC_FWDTMO 15 0 ≤ s.now) (hu : ∀ u ∈ s.fab.units, u.1 ≠ b.id) :
    ∃ a, Noted s a p ∧ s.newTaint 3 (resource 0x0B i.val) 0 (s.lateTag p) ∈ (a.part p).attempt.taints ∧
      Answers (.forwardTimeout i) s fun t => Committed a t p i.val b (indeterminate (s.lateTag p)) := by
  refine ⟨_, cause_noted s p 3 0xF5 _ 0 _, mem_taints_cause hm ha .., ?_⟩
  have noted := cause_noted s p 3 0xF5 (resource 0x0B i.val) 0 (s.lateTag p)
  have exec := forwardTimeout_eq h hs ha hq hb ht
  generalize s.cause p 3 0xF5 (resource 0x0B i.val) 0 (s.lateTag p) = a at noted exec ⊢
  have slot : a.slot i.val = s.slot i.val := by rw [State.slot, noted.frame]; rfl
  have units : a.fab.units = s.fab.units := by rw [noted.frame]
  have waits : a.NoneWaits := by rw [noted.frame]; exact hn
  have commit := resolve_commits (hp.congr (noted.reg_low (slotCfg_low i)) (by rw [noted.frame])) (by rw [slot, hq]) hb
    (by rwa [units]) waits (hit := fun _ => true) rfl (indeterminate (s.lateTag p))
  refine ⟨_, exec.trans ?_, commit⟩
  rw [commit.frame, noted.frame]
  rfl

/-! DECIDE packets as they arrive (12 R371, R377). -/

theorem satAdd_one (w : Nat) : satAdd w 1 = min (w + 1) (2 ^ 32 - 1) := by
  unfold satAdd
  split <;> omega

theorem arrive_closed {s : State} {q : Nat} (h : s.nPort ≤ q ∨ s.portState q ≠ 4) (b : DecideBody) : s.arrive q b = s :=
  if_pos (by rcases h with h | h <;> simp [h])

/-- What an open port does with a packet. -/
theorem arrive_open {s : State} {q : Nat} (h1 : q < s.nPort) (h2 : s.portState q = 4) (b : DecideBody) : s.arrive q b =
    if !b.head.legal then (s.oweAck q).inc (MESH_DROP q)
    else if b.head.dst.val ≠ (s.oweAck q).devId then (s.oweAck q).forwardPacket q b
    else
      let t := (s.oweAck q).fullDue b.due
      let late := decide (t < (s.oweAck q).now)
      let s := if late then (s.oweAck q).inc (MESH_DLATE q) else s.oweAck q
      State.drainDue { s with dueq := s.dueq ++ [{ port := q, due := t, late := late, body := b }] } :=
  if_neg (by simp [h1, h2])

theorem drop_eq (s : State) (q : Nat) : (s.oweAck q).inc (MESH_DROP q) =
    (s.oweAck q).setN (MESH_DROP q) (min (s.regN (MESH_DROP q) + 1) (2 ^ 32 - 1)) :=
  congrArg (State.setN _ _) (satAdd_one _)

theorem drainDue_none {s : State} (h : ∀ d ∈ s.dueq, s.decideReady d = false) : s.drainDue = s := by
  have ready : s.dueq.filter s.decideReady = [] := List.filter_eq_nil_iff.2 fun d hd => by simp [h d hd]
  have kept : s.dueq.filter (fun d => !s.decideReady d) = s.dueq := List.filter_eq_self.2 fun d hd => by simp [h d hd]
  unfold State.drainDue
  rw [ready, kept]
  rfl

/-- A packet held alone that may act does. -/
theorem drainDue_single {s : State} {d : Decide} (h : s.dueq = [d]) (hr : s.decideReady d = true) :
    s.drainDue = ({ s with dueq := [] } : State).takeDecide d := by
  unfold State.drainDue
  simp only [h, List.filter_cons, hr, List.filter_nil, if_true, Bool.not_true, Bool.false_eq_true, if_false]
  rfl

theorem decideReady_future {s : State} {d : Decide} (h : s.now < d.due) : s.decideReady d = false := by
  unfold State.decideReady
  rw [decide_eq_false (by omega)]
  rfl

/-- A packet for this device whose tick is still to come is held. -/
theorem arrive_held {s : State} {q : Nat} {b : DecideBody} (h1 : q < s.nPort) (h2 : s.portState q = 4)
    (hl : b.head.legal = true) (hd : b.head.dst.val = s.devId) (hq : ∀ d ∈ s.dueq, s.decideReady d = false)
    (ht : s.now < s.fullDue b.due) : s.arrive q b = { s.oweAck q with
      dueq := s.dueq ++ [{ port := q, due := s.fullDue b.due, late := false, body := b }] } := by
  have early : decide ((s.oweAck q).fullDue b.due < (s.oweAck q).now) = false := decide_eq_false (Nat.not_lt.2 (Nat.le_of_lt ht))
  rw [arrive_open h1 h2, hl, if_neg (by simp), if_neg (not_not_intro (show b.head.dst.val = (s.oweAck q).devId from hd))]
  dsimp only
  rw [early, if_neg (by simp)]
  refine drainDue_none fun d hd => ?_
  rcases List.mem_append.1 hd with hd | hd
  · exact hq d hd
  · rw [List.mem_singleton.1 hd]
    exact decideReady_future ht

/-! DECIDE packets as they take effect (12 R377; 08 R254, R255; 04 R155; 09 R294; 08 R282). -/

theorem answers_decideDue {s : State} {d : Decide} (h : s.dueq = [d]) (hr : s.decideReady d = true) :
    exec .decideDue s = answer s (({ s with dueq := [] } : State).takeDecide d) :=
  congrArg (answer s) (drainDue_single h hr)

theorem decideReady_due {s : State} {d : Decide} (h : d.due ≤ s.now) (hb : ∀ h u, d.body ≠ .seam h u) : s.decideReady d = true := by
  unfold State.decideReady
  rw [decide_eq_true h]
  cases hd : d.body with
  | seam x u => exact absurd hd (hb x u)
  | _ => rfl

/-- A forwarded result has been counted, and is held no more. -/
def State.fwdRx (s : State) : State := ({ s with dueq := [] } : State).inc DEC_FWDRX

theorem fwdRx_count (s : State) : s.fwdRx.regN DEC_FWDRX = min (s.regN DEC_FWDRX + 1) (2 ^ 32 - 1) := regN_inc ..

theorem fwdRx_reg (s : State) {a : Nat} (h : a ≠ DEC_FWDRX) : s.fwdRx.reg a = s.reg a := reg_inc_ne _ 1 h

theorem fwdRx_tooFar (s : State) {p : Nat} (hp : p < 8) (n : Nat) : s.fwdRx.tooFar p n = s.tooFar p n := by
  have ahead : s.fwdRx.fld (TIME_LOOKAHEAD p) 19 0 = s.fld (TIME_LOOKAHEAD p) 19 0 :=
    fld_ne _ _ _ _ (fwdRx_reg s (by unfold TIME_LOOKAHEAD DEC_FWDRX; omega))
  unfold State.tooFar
  rw [ahead]
  rfl

theorem fwdRx_slotCfg (s : State) (i : Nat) : s.fwdRx.reg (DEC_SLOTCFG i) = s.reg (DEC_SLOTCFG i) :=
  fwdRx_reg s (by unfold DEC_SLOTCFG DEC_FWDRX; omega)

theorem fwdRx_owner (s : State) (i : Nat) : s.fwdRx.slotOwner i = s.slotOwner i := by
  unfold State.slotOwner State.bit State.fld State.regN
  rw [fwdRx_slotCfg]

theorem fwdRx_src (s : State) (i : Nat) : s.fwdRx.slotSrc i = s.slotSrc i := fld_ne _ _ _ _ (fwdRx_slotCfg s i)

theorem takeResult_far {s : State} {h : Head} {u : ResultPkt}
    (hf : s.tooFar h.dpart.val (fullTime s.now (tagTime u.tag)) = true) (late : Bool) :
    ({ s with dueq := [] } : State).takeResult h u late =
      s.fwdRx.cause h.dpart.val 9 0xF5 (resource 0x0B u.dslot.val) 0 u.tag :=
  if_pos ((fwdRx_tooFar s h.dpart.isLt _).trans hf)

/-- Whether slot `i` awaits forwarded results of the attempt in progress. -/
def State.awaits (s : State) (p i : Nat) (tag : BitVec 64) : Bool :=
  s.slotOwner i == some p && s.slotSrc i == 1 && (s.part p).attempt.active &&
    bits tag.toNat 31 20 == (s.part p).attempt.shotNo % 4096

theorem takeResult_near {s : State} {h : Head} {u : ResultPkt}
    (hf : s.tooFar h.dpart.val (fullTime s.now (tagTime u.tag)) = false) (late : Bool) :
    ({ s with dueq := [] } : State).takeResult h u late =
      match s.awaits h.dpart.val u.dslot.val u.tag, (s.slot u.dslot.val).unresolved with
      | true, some b =>
        let r : Result := { state := u.state, i := u.i, q := u.q, tag := tagOr u.tag 4 late }
        let t := if s.fwdRx.bit TIME_STAT 4 then s.fwdRx.cause h.dpart.val 3 0xF5 (resource 0x0B u.dslot.val) 0 r.tag else s.fwdRx
        ((t.updSlot u.dslot.val fun x => x.resolve (·.id == b.id) r).commitReady h.dpart.val u.dslot.val 8).measResume h.dpart.val
      | _, _ => s.fwdRx.forwardLost u.dslot.val u.tag := by
  refine (if_neg (ne_of_eq_of_ne ((fwdRx_tooFar s h.dpart.isLt _).trans hf) Bool.false_ne_true)).trans ?_
  unfold State.awaits
  rw [← fwdRx_owner s, ← fwdRx_src s]
  rfl

theorem forwardLost_queued (s : State) (i : Nat) (tag : BitVec 64) : Queued (s.inc DEC_FWDLOST) (s.forwardLost i tag) := by
  unfold State.forwardLost
  dsimp only
  split
  · exact .refl _
  · split
    · exact streamRec_queued ..
    · exact queueRec_queued ..

end Sys2Proof.Machine

namespace Sys2Proof.Machine

/-- The commands of DECIDE packets, with their contents. -/
abbrev packets (q : Fin 4) (h : Head) (r : ResultPkt) (b : BarrierPkt) (v : VerdictPkt) (m : SeamPkt) : List (Instr × DecideBody) :=
  [(.meshResult q h r, .result h r), (.meshBarrier q h b, .barrier h b), (.meshVerdict q h v, .verdict h v),
    (.meshSeam q h m, .seam h m)]

theorem packets_arrive (s : State) {q : Fin 4} {h : Head} {r : ResultPkt} {b : BarrierPkt} {v : VerdictPkt} {m : SeamPkt}
    {x : Instr × DecideBody} (hx : x ∈ packets q h r b v m) : x.2.head = h ∧ exec x.1 s = answer s (s.arrive q.val x.2) := by
  simp only [packets, List.mem_cons, List.not_mem_nil, or_false] at hx
  rcases hx with rfl | rfl | rfl | rfl <;> exact ⟨rfl, rfl⟩

/-- What a port does with each packet: nothing, drop it, or hold it to its due tick. -/
theorem packets_held (s : State) (q : Fin 4) (h : Head) (r : ResultPkt) (b : BarrierPkt) (v : VerdictPkt) (m : SeamPkt) :
    (s.nPort ≤ q.val ∨ s.portState q.val ≠ 4 → ∀ x ∈ packets q h r b v m, exec x.1 s = .next s) ∧
    (q.val < s.nPort → s.portState q.val = 4 →
      let owes := s.updPort q.val fun x => { x with ackOwed := true }
      let drop := owes.setN (MESH_DROP q.val) (min (s.regN (MESH_DROP q.val) + 1) (2 ^ 32 - 1))
      (h.legal = false → ∀ x ∈ packets q h r b v m, exec x.1 s = .next drop) ∧
      (h.legal = true → h.dst.val ≠ s.devId → h.hops.val = 0 → ∀ x ∈ packets q h r b v m, exec x.1 s = .next drop) ∧
      (h.legal = true → h.dst.val = s.devId → (∀ d ∈ s.dueq, s.decideReady d = false) → ∀ x ∈ packets q h r b v m,
        s.now < s.fullDue x.2.due → exec x.1 s =
          .next { owes with dueq := s.dueq ++ [{ port := q.val, due := s.fullDue x.2.due, late := false, body := x.2 }] })) := by
  refine ⟨fun hc x hx => ?_, fun h1 h2 => ⟨fun hl x hx => ?_, fun hl hd h0 x hx => ?_, fun hl hd hq x hx ht => ?_⟩⟩ <;>
    obtain ⟨head, eq⟩ := packets_arrive s hx
  · rw [eq, arrive_closed hc, answer_self]
  · rw [eq, arrive_open h1 h2, head, hl, if_pos (by simp), drop_eq]
    rfl
  · have forward : (s.oweAck q.val).forwardPacket q.val x.2 = (s.oweAck q.val).inc (MESH_DROP q.val) :=
      if_pos (by rw [head, h0])
    rw [eq, arrive_open h1 h2, head, hl, if_neg (by simp), if_pos (show h.dst.val ≠ (s.oweAck q.val).devId from hd), forward,
      drop_eq]
    rfl
  · rw [eq, arrive_held h1 h2 (by rw [head, hl]) (by rw [head, hd]) hq ht]
    rfl

/-- A result that lies too far ahead is refused. -/
theorem decideDue_far {s : State} {d : Decide} {h : Head} {r : ResultPkt} (hq : s.dueq = [d]) (hd : d.due ≤ s.now)
    (hb : d.body = .result h r) (hf : s.tooFar h.dpart.val (fullTime s.now (tagTime r.tag)) = true)
    (ha : (s.part h.dpart.val).attempt.active = true) (hm : (s.part h.dpart.val).mode = .shot) :
    Answers .decideDue s fun t => t.regN DEC_FWDRX = min (s.regN DEC_FWDRX + 1) (2 ^ 32 - 1) ∧ t.slots = s.slots ∧
      (∃ x ∈ (t.part h.dpart.val).attempt.taints, x.cause = 9 ∧ x.tick = s.now) ∧
      RegsBut s t (DEC_FWDRX :: recordRegs h.dpart.val) ∧ t = { s with dueq := [], regs := t.regs, parts := t.parts } := by
  have noted := cause_noted s.fwdRx h.dpart.val 9 0xF5 (resource 0x0B r.dslot.val) 0 r.tag
  have taint := mem_taints_cause (s := s.fwdRx) hm ha 9 0xF5 (resource 0x0B r.dslot.val) 0 r.tag
  have taken : ({ s with dueq := [] } : State).takeDecide d =
      s.fwdRx.cause h.dpart.val 9 0xF5 (resource 0x0B r.dslot.val) 0 r.tag := by
    rw [State.takeDecide, hb]
    exact takeResult_far hf _
  have eq := answers_decideDue hq (decideReady_due hd (by simp [hb]))
  rw [taken] at eq
  generalize s.fwdRx.cause h.dpart.val 9 0xF5 (resource 0x0B r.dslot.val) 0 r.tag = t at noted taint eq
  refine ⟨t, ?_, ?_, ?_, ⟨_, taint, rfl, rfl⟩, fun a hx => ?_, ?_⟩
  · rw [eq, noted.frame]
    rfl
  · rw [State.regN, noted.reg_low (by decide)]
    exact fwdRx_count s
  · rw [noted.frame]
    rfl
  · obtain ⟨hx1, hx2⟩ := not_or.1 (mt List.mem_cons.2 hx)
    exact (noted.regs a hx2).trans (fwdRx_reg s hx1)
  · rw [noted.frame]
    rfl

/-- A result that no binding awaits is counted as lost. -/
theorem decideDue_lost {s : State} {d : Decide} {h : Head} {r : ResultPkt} (hq : s.dueq = [d]) (hd : d.due ≤ s.now)
    (hb : d.body = .result h r) (hf : s.tooFar h.dpart.val (fullTime s.now (tagTime r.tag)) = false)
    (hw : s.slotOwner r.dslot.val ≠ some h.dpart.val ∨ s.slotSrc r.dslot.val ≠ 1 ∨
      (s.part h.dpart.val).attempt.active = false) :
    Answers .decideDue s fun t => t.regN DEC_FWDRX = min (s.regN DEC_FWDRX + 1) (2 ^ 32 - 1) ∧
      t.regN DEC_FWDLOST = min (s.regN DEC_FWDLOST + 1) (2 ^ 32 - 1) ∧ t.slots = s.slots ∧
      RegsBut s t [DEC_FWDRX, DEC_FWDLOST] ∧ t = { s with dueq := [], regs := t.regs, parts := t.parts } := by
  have awaits : s.awaits h.dpart.val r.dslot.val r.tag = false := by
    unfold State.awaits
    rcases hw with hw | hw | hw <;> simp [hw]
  have taken : ({ s with dueq := [] } : State).takeDecide d = s.fwdRx.forwardLost r.dslot.val r.tag := by
    rw [State.takeDecide, hb]
    dsimp only
    rw [takeResult_near hf, awaits]
  have eq := answers_decideDue hq (decideReady_due hd (by simp [hb]))
  have queued := forwardLost_queued s.fwdRx r.dslot.val r.tag
  rw [taken] at eq
  generalize s.fwdRx.forwardLost r.dslot.val r.tag = t at queued eq
  have reg : ∀ a, t.reg a = (s.fwdRx.inc DEC_FWDLOST).reg a := fun a => by rw [State.reg, queued.regs]; rfl
  refine ⟨t, ?_, ?_, ?_, ?_, fun a hx => ?_, ?_⟩
  · rw [eq, queued.frame]
    rfl
  · rw [State.regN, reg, reg_inc_ne _ _ (by decide)]
    exact fwdRx_count s
  · rw [State.regN, reg]
    exact (regN_inc ..).trans (by rw [State.regN, fwdRx_reg s (by decide)]; rfl)
  · rw [queued.frame]
    rfl
  · obtain ⟨hx1, hx2⟩ := not_or.1 (mt List.mem_cons.2 hx)
    rw [reg, reg_inc_ne _ _ (by simpa using hx2), fwdRx_reg s hx1]
  · rw [queued.frame]
    rfl

/-- A result in time resolves the open binding that awaits it, which commits. -/
theorem decideDue_resolves {s : State} {d : Decide} {h : Head} {r : ResultPkt} {k : Binding} (hq : s.dueq = [d])
    (hd : d.due ≤ s.now) (hb : d.body = .result h r) (hf : s.tooFar h.dpart.val (fullTime s.now (tagTime r.tag)) = false)
    (hl : d.late = false) (hw : s.awaits h.dpart.val r.dslot.val r.tag = true) (hk : (s.slot r.dslot.val).queue = [k])
    (hr : k.result = none) (hs : s.bit TIME_STAT 4 = false) (hu : ∀ u ∈ s.fab.units, u.1 ≠ k.id) (hn : s.NoneWaits)
    (hp : s.Plain h.dpart.val r.dslot.val) :
    Answers .decideDue s fun t => Committed s.fwdRx t h.dpart.val r.dslot.val k
      { state := r.state, i := r.i, q := r.q, tag := r.tag } := by
  have slip : s.fwdRx.bit TIME_STAT 4 = false := by
    rw [← hs]
    unfold State.bit State.regN
    rw [fwdRx_reg s (by decide)]
  have commit := resolve_commits (s := s.fwdRx) (hp.congr (fwdRx_slotCfg s r.dslot.val) rfl) hk hr hu hn (hit := (·.id == k.id))
    (by simp) { state := r.state, i := r.i, q := r.q, tag := r.tag }
  refine ⟨_, ?_, commit⟩
  rw [answers_decideDue hq (decideReady_due hd (by simp [hb])), State.takeDecide, hb]
  dsimp only
  rw [takeResult_near hf, hw, unresolved_single hk hr, hl]
  dsimp only
  rw [slip, if_neg (by simp)]
  exact commit.answer

end Sys2Proof.Machine

namespace Sys2Proof.Machine

/-- What a slot shows of a commit, with what commits on behalf of its partition. -/
theorem committed_shows {s t : State} {i : Nat} {b : Binding} {r : Result} (hq : (s.slot i).queue = [b])
    (h : t.slot i = (s.slot i).committed b r s.now) : t.slot i =
      { value := r, queue := [], commits := (s.slot i).commits + 1, validAt := s.now
        hist := (b.id, r.state.toNat, s.now) :: (s.slot i).hist } := by
  rw [h, Slot.committed, hq]
  rfl

/-- Settles O26: a commit is one lemma over its state operations, and the forwarding time-out and a forwarded result are that
commit after records and counts that leave the slots alone. -/
theorem resultsAndDecisions : Obligations.ResultsAndDecisions := by
  unfold Obligations.ResultsAndDecisions
  refine ⟨fun s => ⟨fun id u hu => ⟨resultArrive_waits hu, fun hn hf x hx => ?_⟩, fun i p b ho hn hq h6 h7 hg => ?_⟩,
    fun s q h r b v m => ⟨(packets_held s q h r b v m).1, (packets_held s q h r b v m).2, fun hd => ?_, fun d hq hd => ?_⟩⟩
  · rw [resultArrive_resolves hu hn hf hx]
    exact congrArg (fun f => Host.Outcome.next (s.updSlot x.1 f)) (funext fun y => resolve_named y id u.2.2)
  · have plain : s.Plain p i.val := ⟨h6, h7, hg⟩
    intro commits
    refine ⟨fun hb => bindingCommit_same ho hn (commitReady_unresolved hq hb p 8), fun r hb hu => ?_,
      fun r hb hu => bindingCommit_same ho hn (commitReady_early hq hb hu p 8), fun hb hs ha hm => ⟨forwardTimeout_early ho,
        fun ht hu => ?_⟩⟩
    · obtain ⟨t, eq, done⟩ := bindingCommit_commits ho hn plain hq hb hu
      exact ⟨t, eq, ⟨committed_shows hq done.slot, done.others, done.frame⟩, done.regs, done.idle⟩
    · obtain ⟨a, noted, taint, t, eq, done⟩ := forwardTimeout_commits ho hn plain hq hb hs ha hm ht hu
      obtain ⟨slot, others, frame, regs⟩ := done.after_noted noted
      exact ⟨t, eq, ⟨_, ⟨committed_shows hq slot, others, frame⟩, rfl, mkTag_late ..⟩, regs, _,
        (done.part p).taints.subset taint, rfl, rfl⟩
  · exact (congrArg (answer s) (drainDue_none hd)).trans (answer_self s)
  · intro p a
    refine ⟨fun hb hs => ⟨fun hk => ?_, fun hk => ?_⟩, fun hb hs ha h1 h2 => ?_, fun g hb hg hr hw => ?_,
      fun hb hf ha hm => decideDue_far hq hd hb hf ha hm, fun hb hf hw => decideDue_lost hq hd hb hf hw,
      fun k hb hf hl ho hs ha ht hk hr h4 hu hn hg h6 h7 => ?_⟩
    · rw [answers_decideDue hq (decideReady_due hd (by simp [hb])), State.takeDecide, hb]
      exact (congrArg (answer s) ((if_pos hs).trans (if_neg (mt List.contains_iff_mem.1 hk)))).trans (answer_next _ _ rfl rfl rfl rfl)
    · rw [answers_decideDue hq (decideReady_due hd (by simp [hb])), State.takeDecide, hb]
      exact (congrArg (answer s) ((if_pos hs).trans (if_pos (List.contains_iff_mem.2 hk)))).trans (answer_next _ _ rfl rfl rfl rfl)
    · rw [answers_decideDue hq (decideReady_due hd (by simp [hb])), State.takeDecide, hb]
      have named : ((({ s with dueq := [] } : State).spanIs h.dpart.val v.span && a.active && v.shot.toNat == a.shotNo &&
          v.attempt.toNat == a.num) : Bool) = true := by
        simp [show ({ s with dueq := [] } : State).spanIs h.dpart.val v.span = true from hs, ha, h1, h2]
      exact (congrArg (answer s) (if_pos named)).trans (answer_next _ _ rfl rfl rfl rfl)
    · have ready : s.decideReady d = true := by
        unfold State.decideReady
        rw [hb]
        simp [hd, hg, hr, hw, p]
      rw [answers_decideDue hq ready, State.takeDecide, hb]
      exact answer_next s (({ s with dueq := [] } : State).takeSeam h m) rfl rfl rfl rfl
    · have awaits : s.awaits h.dpart.val r.dslot.val r.tag = true := by
        unfold State.awaits
        simp [ho, hs, ha, ht, p, a]
      obtain ⟨t, eq, done⟩ := decideDue_resolves hq hd hb hf hl awaits hk hr h4 hu hn ⟨h6, h7, hg⟩
      have shows := committed_shows (s := s.fwdRx) hk done.slot
      refine ⟨t, eq, by rw [shows], by rw [shows]; rfl, by rw [shows], ?_, done.others⟩
      rw [State.regN, done.regs _ fun hm => absurd (recordRegs_hold hm) (by decide)]
      exact fwdRx_count s

end Sys2Proof.Machine

namespace Sys2Proof.Machine

/-! Events on their way to a tile, and from it (05 R179, R182; 01 R21, R22, R24; 03 R530). -/

/-! The event that a port is offered is the earliest of those that wait for it. -/

/-- Of the event `m` so far and `e`, the one that is offered first. -/
def earlier (m : Option Event) (e : Event) : Option Event :=
  match m with
  | none => some e
  | some x => if e.before x then some e else some x

/-- Event `e` is offered no later than `x`. -/
def Event.noLater (e x : Event) : Prop := e.inst < x.inst ∨ (e.inst = x.inst ∧ e.id ≤ x.id)

theorem Event.noLater_trans {a b c : Event} (h1 : a.noLater b) (h2 : b.noLater c) : a.noLater c := by
  unfold noLater at *
  omega

theorem Event.before_iff (e x : Event) : e.before x = true ↔ e.inst < x.inst ∨ (e.inst = x.inst ∧ e.id < x.id) := by
  simp [Event.before]

theorem Event.noLater_of_before {e x : Event} (h : e.before x = true) : e.noLater x := by
  have := (e.before_iff x).1 h
  unfold noLater
  omega

theorem Event.noLater_of_not_before {e x : Event} (h : e.before x ≠ true) : x.noLater e := by
  have := mt (e.before_iff x).2 h
  unfold noLater
  omega

/-- What a search that found `m` before the list `l` finds. -/
theorem foldl_earlier {l : List Event} {m : Option Event} {e : Event} (h : l.foldl earlier m = some e) :
    (e ∈ l ∨ m = some e) ∧ (∀ x ∈ l, e.noLater x) ∧ ∀ x, m = some x → e.noLater x := by
  induction l generalizing m with
  | nil =>
    refine ⟨.inr h, by simp, fun x hx => .inr ?_⟩
    obtain rfl : x = e := Option.some.inj (hx.symm.trans h)
    exact ⟨rfl, le_rfl⟩
  | cons y l ih =>
    obtain ⟨hin, hl, hm⟩ := ih h
    have least : e.noLater y ∧ ∀ x, m = some x → e.noLater x := by
      cases m with
      | none => exact ⟨hm y rfl, by simp⟩
      | some x =>
        by_cases hb : y.before x = true
        · have hy := hm y (if_pos hb)
          exact ⟨hy, fun z hz => Event.noLater_trans hy (Option.some.inj hz ▸ Event.noLater_of_before hb)⟩
        · have hx := hm x (if_neg hb)
          exact ⟨Event.noLater_trans hx (Event.noLater_of_not_before hb), fun z hz => Option.some.inj hz ▸ hx⟩
    refine ⟨?_, fun x hx => ?_, least.2⟩
    · rcases hin with hin | hin
      · exact .inl (List.mem_cons_of_mem _ hin)
      · cases m with
        | none => exact .inl (Option.some.inj hin ▸ List.mem_cons_self ..)
        | some x =>
          by_cases hb : y.before x = true
          · exact .inl (Option.some.inj ((if_pos hb).symm.trans hin) ▸ List.mem_cons_self ..)
          · exact .inr ((if_neg hb).symm.trans hin)
    · rcases List.mem_cons.1 hx with rfl | hx
      · exact least.1
      · exact hl x hx

theorem portNext_first {s : State} {q : Nat} {e : Event} (h : s.portNext q = some e) :
    e ∈ s.fab.events ∧ e.stage = .held ∧ s.portOf e = q ∧ ∀ x ∈ s.fab.events, x.stage = .held → s.portOf x = q → e.noLater x := by
  have search : (s.fab.events.filter fun e => e.stage == .held && s.portOf e == q).foldl earlier none = some e := h
  obtain ⟨hin, hall, -⟩ := foldl_earlier search
  have hin := hin.resolve_right (by simp)
  obtain ⟨hm, hp⟩ := List.mem_filter.1 hin
  simp only [Bool.and_eq_true, beq_iff_eq] at hp
  refine ⟨hm, hp.1, hp.2, fun x hx h1 h2 => hall x (List.mem_filter.2 ⟨hx, ?_⟩)⟩
  simp [h1, h2]

/-! Dispatch. -/

theorem eventDispatch_early {s : State} {q : Fin 18} {e : Event} (h : s.portNext q.val = some e) (ht : s.now + 256 < e.tick) :
    exec (.eventDispatch q) s = .next s := by
  show answer s _ = _
  rw [h]
  exact (congrArg (answer s) (if_pos (by simp [ht]))).trans (answer_self s)

theorem eventDispatch_sends {s : State} {q : Fin 18} {e : Event} (h : s.portNext q.val = some e) (ht : e.tick ≤ s.now + 256)
    (hf : ∀ x ∈ s.fab.events, s.portOf x = q.val → x.stage ≠ .transit (s.now + 10)) :
    let sent := s.updEvent e.id fun x => { x with stage := .transit (s.now + 10) }
    (s.now + 58 ≤ e.tick ∨ e.isMute = true → exec (.eventDispatch q) s = .next sent) ∧
      (e.tick < s.now + 58 → e.isMute = false → exec (.eventDispatch q) s =
        .next (sent.setN (SCHED_DLATE e.part) (min (s.regN (SCHED_DLATE e.part) + 1) (2 ^ 32 - 1)))) := by
  intro sent
  have free : (s.fab.events.any fun x => s.portOf x == q.val && x.stage == .transit (s.now + 10)) = false := by
    refine List.any_eq_false.2 fun x hx => ?_
    simp only [Bool.and_eq_true, beq_iff_eq, not_and]
    exact hf x hx
  have eq : exec (.eventDispatch q) s = answer s (if e.tick < s.now + 58 && !e.isMute then sent.inc (SCHED_DLATE e.part) else sent) := by
    show answer s _ = _
    rw [h]
    exact congrArg (answer s) (if_neg (by simp [free, ht]))
  refine ⟨fun hl => ?_, fun hl hm => ?_⟩
  · rw [eq, if_neg (by rcases hl with hl | hl <;> simp [hl])]
    rfl
  · rw [eq, if_pos (by simp [hl, hm]), State.inc, satAdd_one]
    rfl

/-! Arrival. -/

theorem inOrder_of_sent_before {s : State} {e : Event} {a : Nat}
    (h : ∃ x ∈ s.fab.events, s.portOf x = s.portOf e ∧ ∃ b, x.stage = .transit b ∧ b < a) : s.inOrder e a = false := by
  obtain ⟨x, hx, hp, b, hs, hb⟩ := h
  unfold State.inOrder
  rw [Bool.not_eq_false', List.any_eq_true]
  exact ⟨x, hx, by simp [hp, hs, hb]⟩

section
variable {s : State} {id a : Nat} {e : Event} (he : s.event id = some e) (hs : e.stage = .transit a)
  (hw : ∀ w, e.kind ≠ .window w) (hb : ∀ n v, e.kind ≠ .setbias n v) (link : Bool)
include he hs

theorem eventArrive_mute (hm : e.isMute = true) : exec (.eventArrive id link) s = answer s
    (if s.now < a || !s.inOrder e a then s
    else s.updEvent id fun x => { x with stage := .tile, inst := 32 * if e.tick < s.now + 48 then s.now + 1 else e.tick }) := by
  show answer s _ = _
  rw [he]
  cases hk : e.kind with
  | mute n =>
    dsimp only
    rw [hk, hs]
  | _ => simp [Event.isMute, hk] at hm

include hw hb in
theorem eventArrive_other (hm : e.isMute = false) : exec (.eventArrive id link) s = answer s
    (if s.now < a || !s.inOrder e a then s
    else if s.now + 48 ≤ e.tick then s.updEvent id fun x => { x with stage := .tile, link := link }
    else ((s.cause e.part (if link then 3 else 1) 0xF4 (eventRes e.kind) 0 (tagOr (s.tagOf e) 4 true)).lateUndo e).freeEvent
      id) := by
  show answer s _ = _
  rw [he]
  cases hk : e.kind with
  | mute n => simp [Event.isMute, hk] at hm
  | window w => exact absurd hk (hw w)
  | setbias n v => exact absurd hk (hb n v)
  | _ =>
    dsimp only
    rw [hk, hs]

include hw hb in
theorem eventArrive_waits (h : s.now < a ∨ s.inOrder e a = false) : exec (.eventArrive id link) s = .next s := by
  have waits : (s.now < a || !s.inOrder e a : Bool) = true := by rcases h with h | h <;> simp [h]
  cases hm : e.isMute
  · rw [eventArrive_other he hs hw hb link hm, if_pos waits, answer_self]
  · rw [eventArrive_mute he hs link hm, if_pos waits, answer_self]

end

/-- What a late event leaves undone changes pulses and the geometry of their pages only. -/
theorem lateUndo_frame (s : State) (e : Event) : s.lateUndo e = { s with fab := (s.lateUndo e).fab, geo := (s.lateUndo e).geo } ∧
    (s.lateUndo e).fab.events = s.fab.events := by
  unfold State.lateUndo
  split
  · exact ⟨rfl, rfl⟩
  · exact ⟨rfl, rfl⟩
  · exact ⟨rfl, rfl⟩

theorem mem_freeEvent (s : State) (id : Nat) (x : Event) : x ∈ (s.freeEvent id).fab.events ↔ x ∈ s.fab.events ∧ x.id ≠ id := by
  show x ∈ s.fab.events.filter (·.id != id) ↔ _
  simp

/-- A late event is freed, not applied, and taints its attempt. -/
theorem eventArrive_late {s : State} {id a : Nat} {e : Event} (he : s.event id = some e) (hs : e.stage = .transit a)
    (hw : ∀ w, e.kind ≠ .window w) (hb : ∀ n v, e.kind ≠ .setbias n v) (link : Bool) (ho : s.inOrder e a = true)
    (ha : a ≤ s.now) (hm : e.isMute = false) (ht : e.tick < s.now + 48) : Answers (.eventArrive id link) s fun t =>
      (∀ x ∈ t.fab.events, x.id ≠ id) ∧ (∀ x ∈ s.fab.events, x.id ≠ id → x ∈ t.fab.events) ∧
      ((s.part e.part).mode = .shot → (s.part e.part).attempt.active = true →
        ∃ x ∈ (t.part e.part).attempt.taints, x.cause = (if link then 3 else 1) ∧ x.tick = s.now) ∧
      RegsBut s t (recordRegs e.part) ∧ t = { s with fab := t.fab, geo := t.geo, parts := t.parts, regs := t.regs } := by
  have eq := eventArrive_other he hs hw hb link hm
  rw [if_neg (by simp [ho, ha]), if_neg (by omega)] at eq
  have noted := cause_noted s e.part (if link then 3 else 1) 0xF4 (eventRes e.kind) 0 (tagOr (s.tagOf e) 4 true)
  have taint := fun h1 h2 =>
    mem_taints_cause (s := s) (p := e.part) h1 h2 (if link then 3 else 1) 0xF4 (eventRes e.kind) 0 (tagOr (s.tagOf e) 4 true)
  generalize s.cause e.part (if link then 3 else 1) 0xF4 (eventRes e.kind) 0 (tagOr (s.tagOf e) 4 true) = b at eq noted taint
  obtain ⟨frame, events⟩ := lateUndo_frame b e
  generalize b.lateUndo e = c at eq frame events
  have same : b.fab.events = s.fab.events := by rw [noted.frame]
  refine ⟨_, eq.trans ?_, fun x hx => ((mem_freeEvent c id x).1 hx).2, fun x hx hne => (mem_freeEvent c id x).2 ⟨?_, hne⟩,
    fun h1 h2 => ?_, fun x hx => ?_, ?_⟩
  · rw [frame, noted.frame]
    rfl
  · rwa [events, same]
  · have kept := taint h1 h2
    rw [State.part, ← show c.parts = b.parts by rw [frame]] at kept
    exact ⟨_, kept, rfl, rfl⟩
  · rw [frame]
    exact noted.regs x hx
  · rw [frame, noted.frame]
    rfl

/-! Release. -/

theorem eventRelease_early {s : State} {id : Nat} {e : Event} (he : s.event id = some e) (ht : s.now + 38 < e.tick) :
    exec (.eventRelease id) s = .next s := by
  show answer s _ = _
  rw [he]
  exact (congrArg (answer s) (if_pos (by simp [ht]))).trans (answer_self s)

theorem eventRelease_eq {s : State} {id : Nat} {e : Event} (he : s.event id = some e) (hs : e.stage = .tile)
    (ht : e.tick ≤ s.now + 38) (hm : e.isMute = false) : exec (.eventRelease id) s = answer s
      (match e.kind with
      | .play .. => (s.updEvent id fun x => { x with stage := .released }).updPulse id fun u => { u with playing := true }
      | .stop f ch => (s.updEvent id fun x => { x with stage := .released }).updFab fun b => { b with
          pulses := b.pulses.map fun u => if stopHits e.part f ch e.inst u then
            { u with stopAt := some (match u.stopAt with | some i => min i e.inst | none => e.inst) } else u }
      | .setf .. | .setph .. | .shiftph .. => s.updEvent id fun x => { x with stage := .released }
      | _ => s) := by
  show answer s _ = _
  rw [he]
  exact congrArg (answer s) (if_neg (by simp [hs, ht, hm]))

/-- The mark of a stop: the earlier of the ends that a pulse's stops give it. -/
theorem stopMark_eq (p f ch inst : Nat) (u : Pulse) :
    (if stopHits p f ch inst u then
      { u with stopAt := some (match u.stopAt with | some i => min i inst | none => inst) } else u) =
    if u.part = p ∧ u.frame = f ∧ u.ch = ch ∧ u.isOpen = true ∧ u.start < inst
      then { u with stopAt := some (min (u.stopAt.getD inst) inst) } else u := by
  have mark : (match u.stopAt with | some i => min i inst | none => inst) = min (u.stopAt.getD inst) inst := by
    cases u.stopAt with
    | none => exact (min_self inst).symm
    | some i => rfl
  rw [mark]
  unfold stopHits
  simp only [Bool.and_eq_true, beq_iff_eq, decide_eq_true_eq, and_assoc]

theorem laneBind_binds {s : State} {id l : Nat} {u : Pulse} (hu : s.pulse id = some u) (hl : u.lane = none) (hd : u.done = false)
    (hp : u.playing = true) (ht : u.start / 32 ≤ s.now + 2) (hn : l < s.tones u.ch) (hb : l ∉ s.lanesBusy u.ch id s.now)
    (hr : s.toneRetired u.ch l = false) (hm : ∀ m < l, m ∈ s.lanesBusy u.ch id s.now ∨ s.toneRetired u.ch m = true) :
    exec (.laneBind id) s = .next (s.updPulse id fun x => { x with lane := some l }) := by
  have lowest : (List.range (s.tones u.ch)).find? (fun l => !(s.lanesBusy u.ch id s.now).contains l && !s.toneRetired u.ch l) =
      some l := by
    refine List.find?_range_eq_some.2 ⟨by simp [hb, hr], by simpa using hn, fun m hlt => ?_⟩
    rcases hm m hlt with h | h <;> simp [h]
  show answer s _ = _
  rw [hu]
  dsimp only
  rw [if_neg (by simp [hl, hd, hp, ht]), lowest]
  rfl

/-- Settles O16: a port is offered the least of a search, and each later stage of an event is one branch of its command. -/
theorem eventsReachTheirTile : Obligations.EventsReachTheirTile := by
  unfold Obligations.EventsReachTheirTile
  refine ⟨fun s q e h => ⟨portNext_first h, eventDispatch_early h, eventDispatch_sends h⟩,
    fun s id a link e he hs hw hb => ⟨fun h => ?_, fun ho ha hm ht => ?_, fun ho ha hm => ?_,
      eventArrive_late he hs hw hb link⟩,
    fun s id => ⟨fun e he hs ht => ⟨fun f o ch g cw hk => ?_, fun f ch hk => ?_, fun f v hk => ?_⟩,
      fun e he => eventRelease_early he, fun u l hu hl hd hp ht hn hb hr hm _ => laneBind_binds hu hl hd hp ht hn hb hr hm⟩⟩
  · exact eventArrive_waits he hs hw hb link (h.imp_right inOrder_of_sent_before)
  · rw [eventArrive_other he hs hw hb link hm, if_neg (by simp [ho, ha]), if_pos ht]
    rfl
  · exact (eventArrive_mute he hs link hm).trans (congrArg (answer s) (if_neg (by simp [ho, ha])))
  · rw [eventRelease_eq he hs ht (by rw [Event.isMute, hk]), hk]
    rfl
  · rw [Answers, eventRelease_eq he hs ht (by rw [Event.isMute, hk]), hk]
    exact ⟨_, rfl, rfl, List.map_congr_left fun u _ => stopMark_eq ..⟩
  · rw [eventRelease_eq he hs ht (by rcases hk with hk | hk | hk <;> rw [Event.isMute, hk])]
    rcases hk with hk | hk | hk <;> rw [hk] <;> rfl

end Sys2Proof.Machine

namespace Sys2Proof.Machine

/-! Sample blocks of an input channel (06 R187, R191, R205, R210). -/

/-- From `s` to `t` records, taints and journal entries have been made, on behalf of any partition. -/
structure Recorded (s t : State) : Prop where
  frame : t = { s with parts := t.parts, regs := t.regs }
  regs : ∀ a < 0x308200, t.reg a = s.reg a
  part : ∀ q, (s.part q).Kept (t.part q)

theorem Recorded.refl (s : State) : Recorded s s := ⟨rfl, fun _ _ => rfl, fun _ => .refl _⟩

theorem Recorded.trans {a b c : State} (h1 : Recorded a b) (h2 : Recorded b c) : Recorded a c := by
  refine ⟨?_, fun x hx => (h2.regs x hx).trans (h1.regs x hx), fun q => (h1.part q).trans (h2.part q)⟩
  rw [h2.frame, h1.frame]

theorem Noted.recorded {s t : State} {p : Nat} (h : Noted s t p) : Recorded s t := ⟨h.frame, fun _ => h.reg_low, h.part⟩

/-- One pass of a loop, between the passes before it and after it. -/
theorem forEach_pass {α : Type} {R : State → State → Prop} (refl : ∀ s, R s s) (trans : ∀ a b c, R a b → R b c → R a c)
    {l : List α} {f : State → α → State} {x : α} (hx : x ∈ l) (h : ∀ s, ∀ y ∈ l, R s (f s y)) (s : State) :
    ∃ a, R s a ∧ R (f a x) (s.forEach l f) := by
  obtain ⟨l1, l2, rfl⟩ := List.append_of_mem hx
  refine ⟨s.forEach l1 f, forEach_rel_mem refl trans (fun t y hy => h t y (by simp [hy])) s, ?_⟩
  have rest := forEach_rel_mem (l := l2) (f := f) refl trans (fun t y hy => h t y (by simp [hy])) (f (s.forEach l1 f) x)
  unfold State.forEach at rest ⊢
  rwa [List.foldl_append]

/-! Bounds of codes and of what the gain stage makes of them. -/

theorem clamp_bounds {lo hi : Int} (h : lo ≤ hi) (x : Int) : lo ≤ clamp lo hi x ∧ clamp lo hi x ≤ hi := by
  unfold clamp
  split
  · omega
  · split <;> omega

theorem gainOut_bounds (g : Nat) (x : Int) : -2 ^ 17 ≤ gainOut g x ∧ gainOut g x < 2 ^ 17 := by
  have := clamp_bounds (show (-131072 : Int) ≤ 131071 by decide) (roundOpen 9 ((g : Int) * x) 64)
  unfold gainOut
  omega

theorem trimCode_bound (code : Int) (sub : Int × Int × Int) (dcofs gtrim : Int) (inv : Bool) :
    (trimCode code sub dcofs gtrim inv).natAbs ≤ 2048 := by
  have bound : ∀ x, (clamp (-2048) 2047 x).natAbs ≤ 2048 := fun x => by
    have := clamp_bounds (show (-2048 : Int) ≤ 2047 by decide) x
    omega
  unfold trimCode
  dsimp only
  split <;> exact bound _

theorem trims_bound {s : State} {m : Nat} {l : List AdcSample} {a : Int × Bool} (h : a ∈ s.trims m l) : a.1.natAbs ≤ 2048 := by
  obtain ⟨x, -, rfl⟩ := List.mem_map.1 h
  exact trimCode_bound ..

/-- The peak of a block's codes. -/
def blockPeak (l : List (Int × Bool)) : Nat := l.foldl (fun n a => max n a.1.natAbs) 0

theorem foldl_peak (l : List (Int × Bool)) (n : Nat) : n ≤ l.foldl (fun n a => max n a.1.natAbs) n ∧
    (∀ a ∈ l, a.1.natAbs ≤ l.foldl (fun n a => max n a.1.natAbs) n) ∧
    ∀ k, n ≤ k → (∀ a ∈ l, a.1.natAbs ≤ k) → l.foldl (fun n a => max n a.1.natAbs) n ≤ k := by
  induction l generalizing n with
  | nil => exact ⟨le_rfl, by simp, fun k hk _ => hk⟩
  | cons x l ih =>
    obtain ⟨above, all, least⟩ := ih (max n x.1.natAbs)
    refine ⟨(le_max_left ..).trans above, fun a ha => ?_, fun k hk hl => least k ?_ fun a ha => hl a (List.mem_cons_of_mem _ ha)⟩
    · rcases List.mem_cons.1 ha with rfl | ha
      · exact (le_max_right ..).trans above
      · exact all a ha
    · exact max_le hk (hl x (List.mem_cons_self ..))

theorem regN_maxReg (s : State) (a : Nat) {v : Nat} (h : v < 2 ^ 32) : (s.maxReg a v).regN a = max (s.regN a) v := by
  unfold State.maxReg
  split
  · rw [regN_setN, Nat.mod_eq_of_lt h]
    omega
  · omega

theorem maxReg_frame (s : State) (a v : Nat) : s.maxReg a v = { s with regs := (s.maxReg a v).regs } := by
  unfold State.maxReg
  split <;> rfl

theorem reg_maxReg_ne (s : State) {a b : Nat} (v : Nat) (h : b ≠ a) : (s.maxReg a v).reg b = s.reg b := by
  unfold State.maxReg
  split
  · exact reg_setN_ne s v h
  · rfl

/-! The stages of a block's arrival. -/

/-- Channel `m` counts `n` overranged samples. -/
def State.ovrCount (s : State) (m n : Nat) : State := if n = 0 then s else (s.stick (ICH_STAT m) 2).inc (ICH_OVRCNT m) n

/-- The overranged samples of the block `l` meet the windows of channel `m`. -/
def State.overranges (s : State) (m t : Nat) (l : List (Int × Bool)) : State :=
  s.forEach (((List.range 16).zip l).filter (·.2.2)) fun s x => s.overrange m t x.1

/-- Window `w` as a block of channel `m` leaves it, with overranged samples or a saturated gain stage. -/
def Window.blockMark (m t ovr : Nat) (sat : Bool) (w : Window) : Window :=
  if w.ich = m ∧ w.ls ≤ t + w.carry + decQ w.dec ∧ t ≤ w.we + decQ w.dec then
    { w with ovf := if ovr = 0 then w.ovf else w.ovf ++ [t], gsat := if sat then w.gsat ++ [t] else w.gsat }
  else w

/-- The marks of a block on the windows. -/
def State.blockMarks (s : State) (m t ovr : Nat) (sat : Bool) : State :=
  if ovr = 0 && !sat then s else s.updFab fun b => { b with wins := b.wins.map (Window.blockMark m t ovr sat) }

/-- Overranged samples of a block. -/
def overCount (l : List (Int × Bool)) : Nat := (l.filter (·.2)).length

theorem inputBlock_eq {s : State} {m : Fin 16} {l : List AdcSample} (hm : m.val < s.nIch)
    (hb : s.bit (ICH_STAT m.val) 0 = true) (hl : l.length = 16) (ht : 15 ≤ s.now) :
    exec (.inputBlock m l) s = answer s
      (((((((s.ovrCount m.val (overCount (s.trims m.val l))).overranges m.val (s.now - 15) (s.trims m.val l)).maxReg
        (ICH_PEAK m.val) (blockPeak (s.trims m.val l))).blockMarks m.val (s.now - 15) (overCount (s.trims m.val l))
        ((s.trims m.val l).any fun a => gainSat (s.fld (ICH_GAIN m.val) 15 0) a.1)).keepInput m.val (s.now - 15)
        ((s.trims m.val l).map fun a => gainOut (s.fld (ICH_GAIN m.val) 15 0) a.1))).tapBlock m.val (s.now - 15)
        (tapWide (s.trims m.val l)) (tapPacked (s.trims m.val l)) (overCount (s.trims m.val l) != 0)) :=
  congrArg (answer s) (if_neg (by simp [Nat.not_le.2 hm, hb, hl, ht]))

theorem ovrCount_frame (s : State) (m n : Nat) :
    s.ovrCount m n = { s with regs := (s.ovrCount m n).regs, before := (s.ovrCount m n).before } := by
  unfold State.ovrCount
  split <;> rfl

theorem ovrCount_regs (s : State) (m n : Nat) : RegsBut s (s.ovrCount m n) [ICH_STAT m, ICH_OVRCNT m] := by
  intro a ha
  simp only [List.mem_cons, List.not_mem_nil, or_false, not_or] at ha
  unfold State.ovrCount
  split
  · rfl
  · rw [reg_inc_ne _ _ ha.2, reg_stick_ne _ _ ha.1]

theorem ovrCount_count (s : State) (m n : Nat) : (s.ovrCount m n).regN (ICH_OVRCNT m) = min (s.regN (ICH_OVRCNT m) + n) (2 ^ 32 - 1) := by
  have := regN_lt s (ICH_OVRCNT m)
  unfold State.ovrCount
  split
  · omega
  · have stuck : (s.stick (ICH_STAT m) 2).regN (ICH_OVRCNT m) = s.regN (ICH_OVRCNT m) :=
      congrArg BitVec.toNat (reg_stick_ne s 2 (by unfold ICH_STAT ICH_OVRCNT; omega))
    rw [State.inc, regN_setN, stuck]
    unfold satAdd
    split <;> omega

theorem ovrCount_flag {s : State} {m n : Nat} (h : 0 < n) : (s.ovrCount m n).bit (ICH_STAT m) 2 = true := by
  rw [State.ovrCount, if_neg (by omega), State.bit, State.regN, reg_inc_ne _ _ (by unfold ICH_STAT ICH_OVRCNT; omega)]
  exact bit_stick s _ (by decide)

theorem blockMarks_frame (s : State) (m t ovr : Nat) (sat : Bool) :
    s.blockMarks m t ovr sat = { s with fab := { s.fab with wins := (s.blockMarks m t ovr sat).fab.wins } } := by
  unfold State.blockMarks
  split <;> rfl

/-- The windows of a channel stay its windows. -/
theorem blockMarks_any (s : State) (m t ovr : Nat) (sat : Bool) (h : ∃ w ∈ s.fab.wins, w.ich = m) :
    ((s.blockMarks m t ovr sat).fab.wins.any (·.ich == m)) = true := by
  obtain ⟨w, hw, hi⟩ := h
  unfold State.blockMarks
  split
  · exact List.any_eq_true.2 ⟨w, hw, by simp [hi]⟩
  · refine List.any_eq_true.2 ⟨w.blockMark m t ovr sat, List.mem_map_of_mem hw, ?_⟩
    unfold Window.blockMark
    split <;> simp [hi]

theorem keepInput_frame (s : State) (m t : Nat) (l : List Int) :
    s.keepInput m t l = { s with fab := { s.fab with inputs := (s.keepInput m t l).fab.inputs } } := rfl

theorem keepInput_head {s : State} {m : Nat} (h : (s.fab.wins.any (·.ich == m)) = true) (t : Nat) (l : List Int) :
    (look (fun _ => []) (s.keepInput m t l).fab.inputs m).head? = some (t, l) := by
  unfold State.keepInput
  rw [fab_updFab]
  dsimp only
  rw [look_put_eq, if_pos h]
  rfl

theorem tapBlock_of_none {s : State} (h : s.reqs = []) (m t : Nat) (a b : List Word) (o : Bool) : s.tapBlock m t a b o = s := by
  unfold State.tapBlock
  rw [h]
  rfl

/-! An overranged sample taints the windows that hold it, where OVR_TAINT is set (06 R206). -/

theorem overrange_recorded (s : State) (m t i : Nat) : Recorded s (s.overrange m t i) := by
  unfold State.overrange
  dsimp only
  split
  · exact forEach_rel Recorded .refl (fun _ _ _ => .trans) s _ _ fun _ _ => (cause_noted ..).recorded
  · exact .refl s

theorem overranges_recorded (s : State) (m t : Nat) (l : List (Int × Bool)) : Recorded s (s.overranges m t l) :=
  forEach_rel Recorded .refl (fun _ _ _ => .trans) s _ _ fun _ _ => overrange_recorded ..

theorem Recorded.bit_low {s t : State} (h : Recorded s t) {a : Nat} (ha : a < 0x308200) (i : Nat) : t.bit a i = s.bit a i := by
  unfold State.bit State.regN
  rw [h.regs a ha]

theorem overranges_off {s : State} {m : Nat} (h : s.bit (ICH_CTRL m) 1 = false) (t : Nat) (l : List (Int × Bool)) :
    s.overranges m t l = s := by
  refine forEach_keeps (P := (· = s)) (fun u x _ hu => ?_) rfl
  subst hu
  exact if_neg (by simp [h])

/-- Partition `p` has a taint of cause 5 of this tick. -/
def State.ovrTainted (s : State) (p n : Nat) : Prop := ∃ x ∈ (s.part p).attempt.taints, x.cause = 5 ∧ x.tick = n

theorem Recorded.ovrTainted {s t : State} {p n : Nat} (h : Recorded s t) (hs : s.ovrTainted p n) : t.ovrTainted p n := by
  obtain ⟨x, hx, hc⟩ := hs
  exact ⟨x, (h.part p).taints.subset hx, hc⟩

theorem overrange_taints {s : State} {m t : Nat} (hb : s.bit (ICH_CTRL m) 1 = true) {w : Window} (hw : w ∈ s.fab.wins)
    (hi : w.ich = m) (ho : w.opened = true) (hs : w.spans t = true) (hm : (s.part w.part).mode = .shot)
    (ha : (s.part w.part).attempt.active = true) (i : Nat) : (s.overrange m t i).ovrTainted w.part s.now := by
  have hit : w.part ∈ ((s.fab.wins.filter fun w => w.ich == m && w.opened && w.spans t).map (·.part)).eraseDups :=
    List.mem_eraseDups.2 (List.mem_map_of_mem (List.mem_filter.2 ⟨hw, by simp [hi, ho, hs]⟩))
  unfold State.overrange
  dsimp only
  rw [if_pos hb]
  obtain ⟨a, before, after⟩ := forEach_pass (R := Recorded) .refl (fun _ _ _ => .trans) hit
    (f := fun s p => s.cause p 5 0xF4 (resource 3 m) 1
      (mkTag t i p (s.part p).attempt.shotNo 0 0 false false true false (s.part p).attempt.num))
    (fun s p _ => (cause_noted ..).recorded) s
  refine after.ovrTainted ⟨_, mem_taints_cause ?_ ?_ .., rfl, ?_⟩
  · rw [(before.part _).mode, hm]
  · rw [(before.part _).active, ha]
  · show a.now = s.now
    rw [before.frame]
    rfl

theorem overranges_taints {s : State} {m t : Nat} (hm : m < 16) (hb : s.bit (ICH_CTRL m) 1 = true) {w : Window}
    (hw : w ∈ s.fab.wins) (hi : w.ich = m) (ho : w.opened = true) (hs : w.spans t = true) (hp : (s.part w.part).mode = .shot)
    (ha : (s.part w.part).attempt.active = true) {l : List (Int × Bool)} (hl : l.length = 16) (hr : 0 < overCount l) :
    (s.overranges m t l).ovrTainted w.part s.now := by
  obtain ⟨x, hx⟩ := List.exists_mem_of_length_pos hr
  obtain ⟨hx, hv⟩ := List.mem_filter.1 hx
  obtain ⟨i, hil, rfl⟩ := List.getElem_of_mem hx
  have sample : (i, l[i]) ∈ ((List.range 16).zip l).filter (·.2.2) := by
    refine List.mem_filter.2 ⟨?_, hv⟩
    refine List.mem_iff_getElem.2 ⟨i, by simp only [List.length_zip, List.length_range]; omega, ?_⟩
    simp
  obtain ⟨a, before, after⟩ := forEach_pass (R := Recorded) .refl (fun _ _ _ => .trans) sample
    (f := fun s x => s.overrange m t x.1) (fun s x _ => overrange_recorded ..) s
  have now : a.now = s.now := by rw [before.frame]; rfl
  refine after.ovrTainted (now ▸ overrange_taints ?_ ?_ hi ho hs ?_ ?_ i)
  · rw [before.bit_low (by unfold ICH_CTRL; omega), hb]
  · rw [before.frame]
    exact hw
  · rw [(before.part _).mode, hp]
  · rw [(before.part _).active, ha]

end Sys2Proof.Machine

namespace Sys2Proof.Machine

theorem trims_length (s : State) (m : Nat) {l : List AdcSample} (h : l.length = 16) : (s.trims m l).length = 16 := by
  simp [State.trims, h]

/-- What a block that taints nothing leaves: the flag, the counter and the peak, and the gain stage's outputs. -/
theorem inputBlock_plain {s : State} {m : Fin 16} {l : List AdcSample} (hm : m.val < s.nIch)
    (hb : s.bit (ICH_STAT m.val) 0 = true) (hl : l.length = 16) (ht : 15 ≤ s.now) (hc : s.bit (ICH_CTRL m.val) 1 = false)
    (hq : s.reqs = []) :
    let codes := s.trims m.val l
    let ovr := (codes.filter (·.2)).length
    let g := s.fld (ICH_GAIN m.val) 15 0
    Answers (.inputBlock m l) s fun t =>
      (0 < ovr → t.bit (ICH_STAT m.val) 2 = true) ∧ (ovr = 0 → t.reg (ICH_STAT m.val) = s.reg (ICH_STAT m.val)) ∧
      t.regN (ICH_OVRCNT m.val) = min (s.regN (ICH_OVRCNT m.val) + ovr) (2 ^ 32 - 1) ∧
      (∀ a ∈ codes, a.1.natAbs ≤ t.regN (ICH_PEAK m.val)) ∧ s.regN (ICH_PEAK m.val) ≤ t.regN (ICH_PEAK m.val) ∧
      (ovr = 0 → (∀ a ∈ codes, g * a.1.natAbs < 2 ^ 23) → t.fab.wins = s.fab.wins) ∧
      ((∃ w ∈ s.fab.wins, w.ich = m.val) →
        (look (fun _ => []) t.fab.inputs m.val).head? = some (s.now - 15, codes.map fun a => gainOut g a.1)) ∧
      (∀ a ∈ codes, -2 ^ 17 ≤ gainOut g a.1 ∧ gainOut g a.1 < 2 ^ 17) ∧
      RegsBut s t [ICH_STAT m.val, ICH_OVRCNT m.val, ICH_PEAK m.val] ∧
      t = { s with regs := t.regs, before := t.before, fab := { s.fab with wins := t.fab.wins, inputs := t.fab.inputs } } := by
  intro codes ovr g
  have eq := inputBlock_eq hm hb hl ht
  obtain ⟨peakLow, peakAll, peakMost⟩ := foldl_peak codes 0
  have peak : blockPeak codes < 2 ^ 32 :=
    Nat.lt_of_le_of_lt (peakMost 2048 (by decide) fun a ha => trims_bound ha) (by decide)
  have count := ovrCount_count s m.val ovr
  have flag := ovrCount_flag (s := s) (m := m.val) (n := ovr)
  have none : ovr = 0 → s.ovrCount m.val ovr = s := fun h => if_pos h
  have regs1 := ovrCount_regs s m.val ovr
  have frame1 := ovrCount_frame s m.val ovr
  change exec (.inputBlock m l) s = answer s (((((((s.ovrCount m.val ovr).overranges m.val (s.now - 15) codes).maxReg
    (ICH_PEAK m.val) (blockPeak codes)).blockMarks m.val (s.now - 15) ovr (codes.any fun a => gainSat g a.1)).keepInput m.val
    (s.now - 15) (codes.map fun a => gainOut g a.1))).tapBlock m.val (s.now - 15) (tapWide codes) (tapPacked codes)
    (ovr != 0)) at eq
  generalize s.ovrCount m.val ovr = a at eq count flag none regs1 frame1
  have off : a.bit (ICH_CTRL m.val) 1 = false := by
    rw [← hc]
    unfold State.bit State.regN
    rw [regs1 _ (by simp only [List.mem_cons, List.not_mem_nil, or_false, not_or]; unfold ICH_CTRL ICH_STAT ICH_OVRCNT; omega)]
  rw [overranges_off off] at eq
  have peaks := regN_maxReg a (ICH_PEAK m.val) peak
  have frame2 := maxReg_frame a (ICH_PEAK m.val) (blockPeak codes)
  have regs2 := fun b (h : b ≠ ICH_PEAK m.val) => reg_maxReg_ne a (blockPeak codes) h
  generalize a.maxReg (ICH_PEAK m.val) (blockPeak codes) = b at eq peaks frame2 regs2
  have wins : b.fab.wins = s.fab.wins := by rw [frame2, frame1]
  have frame3 := blockMarks_frame b m.val (s.now - 15) ovr (codes.any fun a => gainSat g a.1)
  have any := blockMarks_any b m.val (s.now - 15) ovr (codes.any fun a => gainSat g a.1)
  have same : ovr = 0 → (∀ a ∈ codes, g * a.1.natAbs < 2 ^ 23) →
      b.blockMarks m.val (s.now - 15) ovr (codes.any fun a => gainSat g a.1) = b := fun h0 h1 => by
    have sat : (codes.any fun a => gainSat g a.1) = false := List.any_eq_false.2 fun a ha => by
      simpa [gainSat] using h1 a ha
    exact if_pos (by simp [h0, sat])
  generalize b.blockMarks m.val (s.now - 15) ovr (codes.any fun a => gainSat g a.1) = c at eq frame3 any same
  have frame4 := keepInput_frame c m.val (s.now - 15) (codes.map fun a => gainOut g a.1)
  have head := fun h => keepInput_head (m := m.val) (any h) (s.now - 15) (codes.map fun a => gainOut g a.1)
  generalize c.keepInput m.val (s.now - 15) (codes.map fun a => gainOut g a.1) = d at eq frame4 head
  have reqs : d.reqs = [] := by rw [frame4, frame3, frame2, frame1, hq]
  rw [tapBlock_of_none reqs] at eq
  have regs : ∀ x, d.reg x = b.reg x := fun x => by rw [frame4, frame3]; rfl
  have regNs : ∀ x, d.regN x = b.regN x := fun x => congrArg BitVec.toNat (regs x)
  have stat : ICH_STAT m.val ≠ ICH_PEAK m.val := by unfold ICH_STAT ICH_PEAK; omega
  have cnt : ICH_OVRCNT m.val ≠ ICH_PEAK m.val := by unfold ICH_OVRCNT ICH_PEAK; omega
  have own : a.regN (ICH_PEAK m.val) = s.regN (ICH_PEAK m.val) := congrArg BitVec.toNat (regs1 _ (by
    simp only [List.mem_cons, List.not_mem_nil, or_false, not_or]; unfold ICH_STAT ICH_OVRCNT ICH_PEAK; omega))
  refine ⟨d, eq.trans ?_, fun h => ?_, fun h => ?_, ?_, fun x hx => ?_, ?_, fun h0 h1 => ?_, fun h => ?_,
    fun x _ => gainOut_bounds g x.1, fun x hx => ?_, ?_⟩
  · rw [frame4, frame3, frame2, frame1]
    rfl
  · rw [State.bit, regNs, State.regN, regs2 _ stat]
    exact flag h
  · rw [regs, regs2 _ stat, none h]
  · rw [regNs, State.regN, regs2 _ cnt]
    exact count
  · rw [regNs, peaks]
    exact (peakAll x hx).trans (le_max_right ..)
  · rw [regNs, peaks, own]
    exact le_max_left ..
  · rw [frame4, same h0 h1]
    exact wins
  · exact head (by rwa [wins])
  · simp only [List.mem_cons, List.not_mem_nil, or_false, not_or] at hx
    rw [regs, regs2 x hx.2.2, regs1 x (by simp [hx.1, hx.2.1])]
  · rw [frame4, frame3, frame2, frame1]

/-- An overranged block taints the attempts of the windows that hold it. -/
theorem inputBlock_taints {s : State} {m : Fin 16} {l : List AdcSample} (hm : m.val < s.nIch)
    (hb : s.bit (ICH_STAT m.val) 0 = true) (hl : l.length = 16) (ht : 15 ≤ s.now) {w : Window} (hw : w ∈ s.fab.wins)
    (hc : s.bit (ICH_CTRL m.val) 1 = true) (hr : 0 < overCount (s.trims m.val l)) (hq : s.reqs = []) (hi : w.ich = m.val)
    (ho : w.opened = true) (hs : w.spans (s.now - 15) = true) (hp : (s.part w.part).mode = .shot)
    (ha : (s.part w.part).attempt.active = true) : Answers (.inputBlock m l) s fun t => t.ovrTainted w.part s.now := by
  have eq := inputBlock_eq hm hb hl ht
  have regs1 := ovrCount_regs s m.val (overCount (s.trims m.val l))
  have frame1 := ovrCount_frame s m.val (overCount (s.trims m.val l))
  generalize s.ovrCount m.val (overCount (s.trims m.val l)) = a at eq regs1 frame1
  have on : a.bit (ICH_CTRL m.val) 1 = true := by
    rw [← hc]
    unfold State.bit State.regN
    rw [regs1 _ (by simp only [List.mem_cons, List.not_mem_nil, or_false, not_or]; unfold ICH_CTRL ICH_STAT ICH_OVRCNT; omega)]
  have part : ∀ q, a.part q = s.part q := fun q => by rw [frame1]; rfl
  have now : a.now = s.now := by rw [frame1]; rfl
  have taint := overranges_taints (t := s.now - 15) m.isLt on (by rwa [frame1]) hi ho hs (by rwa [part]) (by rwa [part])
    (trims_length s m.val hl) hr
  have recorded := overranges_recorded a m.val (s.now - 15) (s.trims m.val l)
  generalize a.overranges m.val (s.now - 15) (s.trims m.val l) = b at eq taint recorded
  have frame2 := maxReg_frame b (ICH_PEAK m.val) (blockPeak (s.trims m.val l))
  generalize b.maxReg (ICH_PEAK m.val) (blockPeak (s.trims m.val l)) = c at eq frame2
  have frame3 := blockMarks_frame c m.val (s.now - 15) (overCount (s.trims m.val l))
    ((s.trims m.val l).any fun a => gainSat (s.fld (ICH_GAIN m.val) 15 0) a.1)
  generalize c.blockMarks m.val (s.now - 15) (overCount (s.trims m.val l)) _ = d at eq frame3
  have frame4 := keepInput_frame d m.val (s.now - 15)
    ((s.trims m.val l).map fun a => gainOut (s.fld (ICH_GAIN m.val) 15 0) a.1)
  generalize d.keepInput m.val (s.now - 15) _ = e at eq frame4
  have reqs : e.reqs = [] := by rw [frame4, frame3, frame2, recorded.frame, frame1, hq]
  rw [tapBlock_of_none reqs] at eq
  refine ⟨e, eq.trans ?_, ?_⟩
  · rw [frame4, frame3, frame2, recorded.frame, frame1]
    rfl
  · rw [now] at taint
    have kept : ∀ q, e.part q = b.part q := fun q => by rw [frame4, frame3, frame2]; rfl
    rwa [State.ovrTainted, kept]

/-! Settling and trims (06 R200, R201). -/

theorem settlingEnd_early {s : State} {m : Fin 16} {g : Nat} (hg : s.time.gainAt = some g) (ht : s.now < g + 2048) :
    exec (.settlingEnd m) s = .next s := by
  show answer s _ = _
  rw [hg]
  exact (congrArg (answer s) (if_pos ht)).trans (answer_self s)

theorem settlingEnd_ends {s : State} {m : Fin 16} {g : Nat} (hg : s.time.gainAt = some g) (ht : g + 2048 ≤ s.now) :
    Answers (.settlingEnd m) s fun t =>
      t.bit (ICH_STAT m.val) 1 = false ∧ (∀ i, i ≠ 1 → t.bit (ICH_STAT m.val) i = s.bit (ICH_STAT m.val) i) ∧
      RegsBut s t [ICH_STAT m.val] ∧ t = { s with regs := t.regs } := by
  refine ⟨s.setBit (ICH_STAT m.val) 1 false, ?_, bit_setBit _ _ _ _ (by decide), fun i hi => ?_, fun a ha => ?_, rfl⟩
  · show answer s _ = _
    rw [hg]
    exact congrArg (answer s) (if_neg (by omega))
  · exact bit_setFld_disj _ _ _ _ _ _ (by decide) (by decide) (by omega)
  · exact reg_setBit_ne _ _ _ (by simpa using ha)

/-- From `s` to `t` only registers and the state of calibration have changed. -/
def TrimsOnly (s t : State) : Prop := t = { s with regs := t.regs, cal := t.cal }

theorem TrimsOnly.trans {a b c : State} (h1 : TrimsOnly a b) (h2 : TrimsOnly b c) : TrimsOnly a c := by
  rw [TrimsOnly, h2, h1]

theorem setFld_trimsOnly (s : State) (a hi lo v : Nat) : TrimsOnly s (s.setFld a hi lo v) := rfl

theorem updCal_trimsOnly (s : State) (f : Cal → Cal) : TrimsOnly s (s.updCal f) := rfl

theorem applyIch_trimsOnly (s : State) (m : Nat) : TrimsOnly s (s.applyIch m) := by
  unfold State.applyIch
  refine TrimsOnly.trans ?_ (setFld_trimsOnly ..)
  refine TrimsOnly.trans ?_ (setFld_trimsOnly ..)
  refine TrimsOnly.trans ?_ (updCal_trimsOnly ..)
  exact (setFld_trimsOnly ..).trans (setFld_trimsOnly ..)

theorem ichTrimUpdate_takes {s : State} {m : Fin 16} (hm : m.val < s.nIch) (ht : s.trimMay (64 + m.val) = true)
    (hh : s.ichHeld m.val s.now = false) :
    exec (.ichTrimUpdate m) s = .next (((s.applyIch m.val).trimTook (64 + m.val)).markIch m.val s.now) := by
  refine (congrArg (answer s) (if_pos ⟨hm, ht, by simp [hh]⟩)).trans ?_
  have frame := applyIch_trimsOnly s m.val
  generalize s.applyIch m.val = a at frame ⊢
  rw [frame]
  rfl

theorem ichTrimUpdate_waits {s : State} {m : Fin 16} (ht : s.trimMay (64 + m.val) = false) :
    exec (.ichTrimUpdate m) s = .next s :=
  (congrArg (answer s) (if_neg (by simp [ht]))).trans (answer_self s)

end Sys2Proof.Machine

namespace Sys2Proof.Machine

/-! Windows that arrive, that find a lane, and that are lost (06 R194, R196). -/

theorem relink_same (l : List Window) (w : Window) : (w.relink l).id = w.id ∧ (w.relink l).served = w.served := by
  unfold Window.relink
  split
  · exact ⟨rfl, rfl⟩
  · split
    · exact ⟨rfl, rfl⟩
    · split <;> exact ⟨rfl, rfl⟩

/-- Each window of a list relinked in order is one of the list's. -/
theorem mem_relinked {l k : List Window} {v : Window} (h : v ∈ l.foldl (fun l w => l ++ [w.relink l]) k) :
    v ∈ k ∨ ∃ w ∈ l, v.id = w.id ∧ v.served = w.served := by
  induction l generalizing k with
  | nil => exact .inl h
  | cons x l ih =>
    rcases ih h with h | ⟨w, hw, same⟩
    · rcases List.mem_append.1 h with h | h
      · exact .inl h
      · rw [List.mem_singleton.1 h]
        exact .inr ⟨x, List.mem_cons_self .., relink_same ..⟩
    · exact .inr ⟨w, List.mem_cons_of_mem _ hw, same⟩

/-- From `s` to `t` window `w` is lost, with its indeterminate result at tick `n`. -/
structure WindowLost (s t : State) (w : Window) (n : Nat) (late : Bool) : Prop where
  frame : t = { s with fab := t.fab }
  events : t.fab.events = s.fab.events
  served : ∀ v ∈ t.fab.wins, v.id = w.id → v.served = true
  unit : (w.id, n, indeterminate (s.winTag w late)) ∈ t.fab.units

theorem loseWindow_lost (s : State) (w : Window) (n : Nat) (late : Bool) : WindowLost s (s.loseWindow w n late) w n late := by
  refine ⟨rfl, rfl, fun v hv hi => ?_, List.mem_append_right _ (List.mem_singleton_self _)⟩
  rcases mem_relinked (show v ∈ (s.updWin w.id fun w => { w with served := true }).fab.wins.foldl _ [] from hv) with h |
    ⟨x, hx, hid, hs⟩
  · exact absurd h (List.not_mem_nil)
  · obtain ⟨y, -, rfl⟩ := List.mem_map.1 hx
    rw [hs]
    split
    · rfl
    · rename_i hne
      rw [if_neg hne] at hid
      exact absurd (hid.symm.trans hi) hne

theorem winTag_late (s : State) (w : Window) : tagBit (s.winTag w true) 4 = true := mkTag_late ..

section
variable {s : State} {id a : Nat} {e : Event} {w : Window} (hw : s.win id = some w) (he : s.event id = some e)
  (hs : e.stage = .transit a) (link : Bool)
include hw he hs

theorem windowArrive_eq : exec (.windowEventArrive { id := id, link := link }) s = answer s
    (if s.now < a || !s.inOrder e a then s
    else if s.now + 48 ≤ e.tick then s.updEvent id fun e => { e with stage := .tile, link := link }
    else
      let s := s.cause e.part (if link then 3 else 1) 0xF4 (resource 4 w.mica) 0 (tagOr (s.tagOf e) 4 true)
      let s := (s.loseWindow w (w.we + decResolve w.dec - 2) true).freeEvent id
      if (s.part e.part).mode = .stream then s.micaGap w.mica 4 ((w.we - w.ws) / decP w.dec) w.dframe else s) := by
  show answer s _ = _
  rw [he, hw]
  dsimp only
  rw [hs]

theorem windowArrive_late (hi : w.id = id) (ho : s.inOrder e a = true) (ha : a ≤ s.now) (ht : e.tick < s.now + 48)
    (hm : (s.part e.part).mode = .shot) (hp : (s.part e.part).attempt.active = true) :
    Answers (.windowEventArrive { id := id, link := link }) s fun t =>
      (∀ v ∈ t.fab.wins, v.id = id → v.served = true) ∧ (∀ x ∈ t.fab.events, x.id ≠ id) ∧
      (∃ u : Result, (id, w.we + decResolve w.dec - 2, u) ∈ t.fab.units ∧ u.state = 3#2 ∧ tagBit u.tag 4 = true) ∧
      (∃ x ∈ (t.part e.part).attempt.taints, x.cause = (if link then 3 else 1) ∧ x.tick = s.now) ∧
      RegsBut s t (recordRegs e.part) ∧ t = { s with fab := t.fab, parts := t.parts, regs := t.regs } := by
  have eq := windowArrive_eq hw he hs link
  rw [if_neg (by simp [ho, ha]), if_neg (by omega)] at eq
  dsimp only at eq
  have noted := cause_noted s e.part (if link then 3 else 1) 0xF4 (resource 4 w.mica) 0 (tagOr (s.tagOf e) 4 true)
  have taint := mem_taints_cause hm hp (if link then 3 else 1) 0xF4 (resource 4 w.mica) 0 (tagOr (s.tagOf e) 4 true)
  generalize s.cause e.part (if link then 3 else 1) 0xF4 (resource 4 w.mica) 0 (tagOr (s.tagOf e) 4 true) = b at eq noted taint
  have lost := loseWindow_lost b w (w.we + decResolve w.dec - 2) true
  generalize b.loseWindow w (w.we + decResolve w.dec - 2) true = c at eq lost
  have parts : (c.freeEvent id).parts = b.parts := by
    show c.parts = b.parts
    rw [lost.frame]
  have mode : ((c.freeEvent id).part e.part).mode = .shot := by
    rw [State.part, parts]
    exact (noted.part _).mode.trans hm
  rw [if_neg (by rw [mode]; decide)] at eq
  have served : ∀ v ∈ c.fab.wins, v.id = id → v.served = true := by
    rw [← hi]
    exact lost.served
  have unit : (id, w.we + decResolve w.dec - 2, indeterminate (b.winTag w true)) ∈ c.fab.units := by
    rw [← hi]
    exact lost.unit
  refine ⟨c.freeEvent id, eq.trans ?_, served, fun x hx => ((mem_freeEvent c id x).1 hx).2, ⟨_, unit, rfl, winTag_late ..⟩, ?_,
    fun x hx => ?_, ?_⟩
  · rw [lost.frame, noted.frame]
    rfl
  · rw [State.part, ← parts] at taint
    exact ⟨_, taint, rfl, rfl⟩
  · rw [lost.frame]
    exact noted.regs x hx
  · rw [lost.frame, noted.frame]
    rfl

end

section
variable {s : State} {id : Nat} {e : Event} {w : Window} (hw : s.win id = some w) (he : s.event id = some e)
  (hs : e.stage = .tile) (ho : w.opened = false) (hv : w.served = false)
include hw he

theorem windowBind_early (ht : s.now + 2 < w.ls) : exec (.windowBind id) s = .next s := by
  show answer s _ = _
  rw [he, hw]
  exact (congrArg (answer s) (if_pos (by simp [ht]))).trans (answer_self s)

include hs ho hv

/-- A window that chains to none takes the lowest lane of its group that is free. -/
theorem windowBind_eq (hc : w.chained = none) (ht : w.ls ≤ s.now + 2) : exec (.windowBind id) s = answer s
    (match (List.range 8).find? fun l => !(s.groupBusy w.mica id w.ls).contains l && !s.demodRetired w.mica l with
    | some l => ((s.updEvent id fun e => { e with stage := .released }).updWin id fun w =>
        { w with lane := some l, opened := true }).inc (ICH_WINCNT w.ich)
    | none => ((s.updEvent id fun e => { e with stage := .released }).cause w.part 10 0xF4 (resource 4 w.mica) 0
        ((s.updEvent id fun e => { e with stage := .released }).tagOf e)).loseWindow w (w.we + decResolve w.dec - 2) false) := by
  show answer s _ = _
  rw [he, hw]
  dsimp only
  rw [if_neg (by simp [ho, hv, hs, ht]), hc]
  rfl

theorem windowBind_binds (hc : w.chained = none) (ht : w.ls ≤ s.now + 2) {l : Nat} (hl : l < 8)
    (hr : s.demodRetired w.mica l = false) (hb : l ∉ s.groupBusy w.mica id w.ls)
    (hm : ∀ m < l, m ∈ s.groupBusy w.mica id w.ls ∨ s.demodRetired w.mica m = true) : exec (.windowBind id) s = .next
      (((s.updEvent id fun x => { x with stage := .released }).updWin id fun v =>
        { v with lane := some l, opened := true }).setN (ICH_WINCNT w.ich)
          (min (s.regN (ICH_WINCNT w.ich) + 1) (2 ^ 32 - 1))) := by
  have lowest : (List.range 8).find? (fun l => !(s.groupBusy w.mica id w.ls).contains l && !s.demodRetired w.mica l) =
      some l := by
    refine List.find?_range_eq_some.2 ⟨by simp [hb, hr], by simpa using hl, fun m hlt => ?_⟩
    rcases hm m hlt with h | h <;> simp [h]
  rw [windowBind_eq hw he hs ho hv hc ht, lowest]
  dsimp only
  rw [State.inc, satAdd_one]
  rfl

theorem windowBind_lost (hi : w.id = id) (hc : w.chained = none) (ht : w.ls ≤ s.now + 2)
    (hm : ∀ l < 8, l ∈ s.groupBusy w.mica id w.ls ∨ s.demodRetired w.mica l = true) (hp : (s.part w.part).mode = .shot)
    (ha : (s.part w.part).attempt.active = true) : Answers (.windowBind id) s fun t =>
      (∀ v ∈ t.fab.wins, v.id = id → v.served = true) ∧
      (∃ x ∈ (t.part w.part).attempt.taints, x.cause = 10 ∧ x.tick = s.now) := by
  have full : (List.range 8).find? (fun l => !(s.groupBusy w.mica id w.ls).contains l && !s.demodRetired w.mica l) = none := by
    refine List.find?_eq_none.2 fun l hl => ?_
    rcases hm l (List.mem_range.1 hl) with h | h <;> simp [h]
  have eq := windowBind_eq hw he hs ho hv hc ht
  rw [full] at eq
  dsimp only at eq
  generalize hb : (s.updEvent id fun e => { e with stage := .released }) = b at eq
  have frame : b = { s with fab := b.fab } := by rw [← hb]; rfl
  have part : b.part w.part = s.part w.part := by rw [frame]; rfl
  have now : b.now = s.now := by rw [frame]; rfl
  have noted := cause_noted b w.part 10 0xF4 (resource 4 w.mica) 0 (b.tagOf e)
  have taint := mem_taints_cause (s := b) (by rwa [part]) (by rwa [part]) 10 0xF4 (resource 4 w.mica) 0 (b.tagOf e)
  generalize b.cause w.part 10 0xF4 (resource 4 w.mica) 0 (b.tagOf e) = c at eq noted taint
  have lost := loseWindow_lost c w (w.we + decResolve w.dec - 2) false
  generalize c.loseWindow w (w.we + decResolve w.dec - 2) false = d at eq lost
  have parts : d.parts = c.parts := by rw [lost.frame]
  refine ⟨d, eq.trans ?_, hi ▸ lost.served, ?_⟩
  · rw [lost.frame, noted.frame, frame]
    rfl
  · rw [State.part, ← parts] at taint
    exact ⟨_, taint, rfl, now⟩

end

end Sys2Proof.Machine

namespace Sys2Proof.Machine

/-! How a window begins, with the SAMPLES record that it ends (07 R216, R220; 10 R311, R313). -/

/-- From `s` to `t` records have gone to ring `r`: no other ring, no request and no collection has changed. -/
structure RingPuts (s t : State) (r : Nat) : Prop where
  reqs : t.reqs = s.reqs
  others : ∀ q, q ≠ r → t.ring q = s.ring q
  coll : (t.ring r).coll = (s.ring r).coll

namespace RingPuts

theorem refl (s : State) (r : Nat) : RingPuts s s r := ⟨rfl, fun _ _ => rfl, rfl⟩

theorem trans {a b c : State} {r : Nat} (h1 : RingPuts a b r) (h2 : RingPuts b c r) : RingPuts a c r :=
  ⟨h2.reqs.trans h1.reqs, fun q hq => (h2.others q hq).trans (h1.others q hq), h2.coll.trans h1.coll⟩

theorem updRing (s : State) (r : Nat) (f : Ring → Ring) (h : (f (s.ring r)).coll = (s.ring r).coll) :
    RingPuts s (s.updRing r f) r :=
  ⟨rfl, fun _ hq => ring_updRing_ne s f hq, by rw [ring_updRing, h]⟩

/-- Steps that leave rings and requests alone put nothing. -/
theorem of_same {s t : State} (h1 : t.rings = s.rings) (h2 : t.reqs = s.reqs) (r : Nat) : RingPuts s t r := by
  refine ⟨h2, fun q _ => ?_, ?_⟩ <;> rw [State.ring, h1] <;> rfl

theorem inc (s : State) (r a n : Nat) : RingPuts s (s.inc a n) r := of_same (by rfl) (by rfl) r

theorem ringAppend (s : State) (r : Nat) (c : CapRec) : RingPuts s (s.ringAppend r c) r := by
  unfold State.ringAppend
  exact updRing s r _ rfl

theorem ringTime (s : State) (r k : Nat) : RingPuts s (s.ringTime r k) r := by
  unfold State.ringTime
  exact ((ringAppend ..).trans (inc ..)).trans (updRing _ r _ rfl)

theorem ringTimeDue (s : State) (r : Nat) (o : Option Nat) :
    RingPuts s (match o with | some k => s.ringTime r k | none => s) r := by
  cases o with
  | none => exact .refl s r
  | some k => exact ringTime ..

theorem gapAdd (s : State) (r cause src records samples t frame last : Nat) :
    RingPuts s (s.gapAdd r cause src records samples t frame last) r := by
  unfold State.gapAdd
  dsimp only
  split <;> exact (inc ..).trans (updRing _ r _ rfl)

theorem gapEmit (s : State) (r cause src : Nat) : RingPuts s (s.gapEmit r cause src) r := by
  unfold State.gapEmit
  split
  · exact .refl s r
  · refine trans ?_ (ringTime ..)
    refine trans ?_ (updRing _ r _ rfl)
    refine trans ?_ (inc ..)
    refine trans ?_ (inc ..)
    exact (ringTimeDue ..).trans (ringAppend ..)

theorem gapWrite (s : State) (r cause src : Nat) : RingPuts s (s.gapWrite r cause src) r := by
  unfold State.gapWrite
  split
  · exact gapEmit ..
  · exact .refl s r

theorem ringKeep (s : State) (r : Nat) (c : CapRec) : RingPuts s (s.ringKeep r c) r := by
  unfold State.ringKeep
  exact (ringAppend ..).trans (of_same (by rfl) (by rfl) r)

theorem bufferLost (s : State) (r src samples t frame : Nat) : RingPuts s (s.bufferLost r src samples t frame) r := by
  unfold State.bufferLost
  exact (gapAdd ..).trans (of_same (by rfl) (by rfl) r)

theorem forEach {α : Type} {r : Nat} {f : State → α → State} (h : ∀ s x, RingPuts s (f s x) r) (s : State) (l : List α) :
    RingPuts s (s.forEach l f) r :=
  forEach_rel (RingPuts · · r) (refl · r) (fun _ _ _ => trans) s l f h

theorem ringPut (s : State) (r : Nat) (c : CapRec) (samples src : Nat) : RingPuts s (s.ringPut r c samples src) r := by
  unfold State.ringPut
  dsimp only
  split
  · exact bufferLost ..
  · split
    · refine trans ?_ (ringKeep ..)
      exact (forEach (fun _ _ => gapWrite ..) _ _).trans (ringTimeDue ..)
    · exact gapAdd ..

theorem micaPut (s : State) (r k t : Nat) (c : CapRec) (samples : Nat) : RingPuts s (s.micaPut r k t c samples) r :=
  ((updRing s r _ rfl).trans (updRing _ r _ rfl)).trans (forEach (fun _ _ => ringPut ..) _ _)

end RingPuts

/-- From `s` to `t` the collection of context `x` of core `k` on ring `r` has ended. -/
structure SamplesClosed (s t : State) (r k x : Nat) : Prop where
  captured : Captured s t
  reqs : t.reqs = s.reqs
  others : ∀ q, q ≠ r → t.ring q = s.ring q
  none : ∀ y ∈ (t.ring r).coll, ¬ (y.mica = k ∧ y.ctx = x)

theorem samplesClose_closed (s : State) (r k x : Nat) : SamplesClosed s (s.samplesClose r k x) r k x := by
  suffices h : (s.samplesClose r k x).reqs = s.reqs ∧ (∀ q, q ≠ r → (s.samplesClose r k x).ring q = s.ring q) ∧
      ∀ y ∈ ((s.samplesClose r k x).ring r).coll, ¬ (y.mica = k ∧ y.ctx = x) from
    ⟨samplesClose_captured .., h.1, h.2.1, h.2.2⟩
  unfold State.samplesClose
  split
  · rename_i hnone
    exact ⟨rfl, fun _ _ => rfl, fun y hy he => List.find?_eq_none.1 hnone y hy (by simp [he])⟩
  · dsimp only
    generalize hb : s.updRing r _ = b
    have ring : (b.ring r).coll = (s.ring r).coll.filter fun c => !(c.mica == k && c.ctx == x) := by
      rw [← hb, ring_updRing]
    obtain ⟨reqs, others, coll⟩ := RingPuts.micaPut b r k _ _ _
    refine ⟨reqs.trans (by rw [← hb]; rfl), fun q hq => (others q hq).trans (by rw [← hb, ring_updRing_ne _ _ hq]),
      fun y hy he => ?_⟩
    rw [coll, ring] at hy
    simpa [he] using (List.mem_filter.1 hy).2

/-- The discriminator entries of core `k`, as a context takes them. -/
def State.discTab (s : State) (k : Nat) : Tab Word :=
  ((List.range 4).map fun d => ((List.range 4).zip (s.discEntry k d)).map fun e => (4 * d + e.1, e.2)).flatten

/-- The SAMPLES record of context `x` of core `k` ends, where the core writes to a ring. -/
def State.closeCtx (s : State) (k x : Nat) : State :=
  match s.micaRing k with
  | some r => s.samplesClose r k x
  | none => s

theorem beginWindow_fresh {s : State} {k x : Nat} {w : Window} (hc : w.chained = none) (hm : w.mentry < 4096) :
    s.beginWindow k x w = (s.closeCtx k x).updCtx k x fun c => c.begin w ((s.closeCtx k x).discTab k) := by
  have chained : ((s.ctx k x).prev.isSome && w.chained == (s.ctx k x).prev) = false := by
    rw [hc]
    cases (s.ctx k x).prev <;> rfl
  unfold State.beginWindow State.closeCtx
  dsimp only
  rw [chained, if_neg (by omega)]
  cases s.micaRing k <;> rfl

theorem ctx_updCtx (s : State) (k x : Nat) (f : Ctx → Ctx) : (s.updCtx k x f).ctx k x = f (s.ctx k x) := by
  unfold State.ctx State.updCtx
  rw [mica_updMica, look_put_eq]

theorem windowStart_eq {s : State} {id x : Nat} {w : Window} (hw : s.win id = some w) (hl : w.lane = some x) :
    exec (.windowStart id) s = answer s
      (if !w.opened || w.served || decide (s.now < w.ws + 10) || (s.ctx w.mica x).queue.contains id ||
          (s.ctx w.mica x).win == some id || (s.mica w.mica).stopped then s
      else if (s.ctx w.mica x).win.isNone then s.beginWindow w.mica x w
      else if (s.ctx w.mica x).queue.length < 4 then s.updCtx w.mica x fun c => { c with queue := c.queue ++ [id] }
      else
        ((s.incFld (MICA_FIFODROP w.mica) 23 16).cause w.part 1 (0x10 + w.mica) (resource 5 w.mica) 0
          (tagOr (s.winTag w true) 4 true)).loseWindow w s.now true) := by
  show answer s _ = _
  rw [hw]
  dsimp only
  rw [hl]

section
variable {s : State} {id x : Nat} {w : Window} (hw : s.win id = some w) (hl : w.lane = some x)
include hw hl

theorem windowStart_early (ht : s.now < w.ws + 10) : exec (.windowStart id) s = .next s := by
  rw [windowStart_eq hw hl, if_pos (by simp [ht]), answer_self]

theorem windowStart_queues (ho : w.opened = true) (hv : w.served = false) (hr : (s.mica w.mica).stopped = false)
    (ht : w.ws + 10 ≤ s.now) (hs : (s.ctx w.mica x).win.isSome = true) (hn : (s.ctx w.mica x).win ≠ some id)
    (hq : id ∉ (s.ctx w.mica x).queue) (h4 : (s.ctx w.mica x).queue.length < 4) : exec (.windowStart id) s =
      .next (s.updCtx w.mica x fun c => { c with queue := c.queue ++ [id] }) := by
  rw [windowStart_eq hw hl, if_neg (by simp [ho, hv, hr, ht, hn, hq]), if_neg (by simpa using Option.isSome_iff_ne_none.1 hs),
    if_pos h4]
  rfl

/-- A window that chains to none begins in an idle context, which keeps its FIFO only. -/
theorem windowStart_begins (hi : w.id = id) (ho : w.opened = true) (hv : w.served = false)
    (hr : (s.mica w.mica).stopped = false) (ht : w.ws + 10 ≤ s.now) (hn : (s.ctx w.mica x).win = none)
    (hq : (s.ctx w.mica x).queue = []) (hm : w.mentry < 4096) (hc : w.chained = none) :
    Answers (.windowStart id) s fun t =>
      let c := s.ctx w.mica x
      let d := t.ctx w.mica x
      d.win = some id ∧ d.pc = w.mentry ∧ d.wn = w.count ∧ d.pops = 0 ∧ d.emitted = false ∧ d.fifo = c.fifo ∧ d.x = [] ∧
      d.acc = [] ∧ d.a = [] ∧ d.base = [] ∧ d.len = [] ∧ d.scratch = [] ∧ d.fOvf = false ∧ d.fSettle = false ∧ d.rep = none ∧
      (s.micaRing w.mica = none → t = { s with micas := t.micas }) ∧
      (∀ r, s.micaRing w.mica = some r → (∀ y ∈ (t.ring r).coll, ¬ (y.mica = w.mica ∧ y.ctx = x)) ∧
        ∀ q, q ≠ r → t.ring q = s.ring q) ∧
      (∀ q, (t.part q).mode = (s.part q).mode) ∧
      t = { s with micas := t.micas, rings := t.rings, regs := t.regs, before := t.before, parts := t.parts } := by
  have eq := windowStart_eq hw hl
  rw [if_neg (by simp [ho, hv, hr, ht, hn, hq]), if_pos (by simp [hn]), beginWindow_fresh hc hm] at eq
  have unringed : s.micaRing w.mica = none → s.closeCtx w.mica x = s := fun h => by rw [State.closeCtx, h]
  have ringed : ∀ r, s.micaRing w.mica = some r → SamplesClosed s (s.closeCtx w.mica x) r w.mica x := fun r h => by
    rw [State.closeCtx, h]
    exact samplesClose_closed ..
  have captured : Captured s (s.closeCtx w.mica x) ∧ (s.closeCtx w.mica x).reqs = s.reqs := by
    cases h : s.micaRing w.mica with
    | none => rw [unringed h]; exact ⟨.refl s, rfl⟩
    | some r => exact ⟨(ringed r h).captured, (ringed r h).reqs⟩
  obtain ⟨captured, reqs⟩ := captured
  generalize s.closeCtx w.mica x = a at eq unringed ringed captured reqs
  have same : a.ctx w.mica x = s.ctx w.mica x := by rw [captured.frame]; rfl
  have fresh : (((a.ctx w.mica x).prev.isSome && w.chained == (a.ctx w.mica x).prev) : Bool) = false := by
    rw [hc]
    cases (a.ctx w.mica x).prev <;> rfl
  have frame : a = { s with rings := a.rings, regs := a.regs, before := a.before, parts := a.parts } := by
    rw [captured.frame, reqs]
  generalize hd : a.discTab w.mica = disc at eq
  have ctx := ctx_updCtx a w.mica x fun c => c.begin w disc
  have frame2 : (a.updCtx w.mica x fun c => c.begin w disc) =
      { a with micas := (a.updCtx w.mica x fun c => c.begin w disc).micas } := rfl
  generalize (a.updCtx w.mica x fun c => c.begin w disc) = t at eq ctx frame2
  have rings : ∀ q, t.ring q = a.ring q := fun q => by rw [frame2]; rfl
  refine ⟨t, eq.trans ?_, ?_⟩
  · rw [frame2, frame]
    rfl
  · rw [Ctx.begin, fresh] at ctx
    dsimp only
    rw [ctx]
    refine ⟨congrArg some hi, rfl, rfl, rfl, rfl, show (a.ctx w.mica x).fifo = _ by rw [same], rfl, rfl, rfl, rfl, rfl, rfl, rfl, rfl, rfl, fun h => ?_,
      fun r h => ⟨fun y hy => ?_, fun q hq => ?_⟩, fun q => ?_, ?_⟩
    · rw [frame2, unringed h]
    · rw [rings] at hy
      exact (ringed r h).none y hy
    · rw [rings]
      exact (ringed r h).others q hq
    · rw [frame2]
      exact (captured.part q).mode
    · rw [frame2, frame]

end

end Sys2Proof.Machine

namespace Sys2Proof.Machine

/-! Output samples that enter their lane's FIFO (07 R218, R219). -/

/-- Counter `a` counts one where `c` holds. -/
def State.incIf (s : State) (a : Nat) (c : Bool) : State := if c then s.inc a else s

theorem incIf_frame (s : State) (a : Nat) (c : Bool) : s.incIf a c = { s with regs := (s.incIf a c).regs } := by
  cases c <;> rfl

theorem reg_incIf_ne (s : State) {a b : Nat} (c : Bool) (h : b ≠ a) : (s.incIf a c).reg b = s.reg b := by
  cases c
  · rfl
  · exact reg_inc_ne s 1 h

theorem regN_incIf (s : State) (a : Nat) (c : Bool) :
    (s.incIf a c).regN a = min (s.regN a + if c then 1 else 0) (2 ^ 32 - 1) := by
  cases c
  · have := regN_lt s a
    exact (min_eq_left (show s.regN a + 0 ≤ 2 ^ 32 - 1 by omega)).symm
  · exact regN_inc ..

theorem win_updWin {s : State} {id : Nat} {w : Window} (h : s.win id = some w) {f : Window → Window} (hf : ∀ v, (f v).id = v.id) :
    (s.updWin id f).win id = some (f w) := by
  have same : ((fun v : Window => v.id == id) ∘ fun v => if v.id = id then f v else v) = fun v => v.id == id := by
    funext v
    simp only [Function.comp]
    split <;> simp [hf]
  have hi : w.id = id := by simpa using List.find?_some h
  show (s.fab.wins.map fun v => if v.id = id then f v else v).find? (·.id == id) = _
  rw [List.find?_map, same, show s.fab.wins.find? _ = some w from h, Option.map_some, if_pos hi]

/-- Window `id` has brought one more output sample, and its channel has counted what it carries. -/
def State.sampleSeen (s : State) (id : Nat) (w : Window) (sat settle : Bool) : State :=
  ((s.incIf (ICH_SATCNT w.ich) sat).incIf (ICH_SETTLECNT w.ich) settle).updWin id fun w => { w with seen := w.seen + 1 }

/-- From `s` to `t` window `id` has brought one more output sample. -/
structure SampleSeen (s t : State) (id : Nat) (w : Window) (sat settle : Bool) : Prop where
  frame : t = { s with regs := t.regs, fab := { s.fab with wins := t.fab.wins } }
  regs : RegsBut s t [ICH_SATCNT w.ich, ICH_SETTLECNT w.ich]
  sat : t.regN (ICH_SATCNT w.ich) = min (s.regN (ICH_SATCNT w.ich) + if sat then 1 else 0) (2 ^ 32 - 1)
  settle : t.regN (ICH_SETTLECNT w.ich) = min (s.regN (ICH_SETTLECNT w.ich) + if settle then 1 else 0) (2 ^ 32 - 1)
  win : t.win id = some { w with seen := w.seen + 1 }

theorem sampleSeen_seen {s : State} {id : Nat} {w : Window} (hw : s.win id = some w) (sat settle : Bool) :
    SampleSeen s (s.sampleSeen id w sat settle) id w sat settle := by
  have distinct : ICH_SATCNT w.ich ≠ ICH_SETTLECNT w.ich := by unfold ICH_SATCNT ICH_SETTLECNT; omega
  have frame1 := incIf_frame s (ICH_SATCNT w.ich) sat
  have count1 := regN_incIf s (ICH_SATCNT w.ich) sat
  have regs1 := fun b (h : b ≠ ICH_SATCNT w.ich) => reg_incIf_ne s sat h
  unfold State.sampleSeen
  generalize s.incIf (ICH_SATCNT w.ich) sat = a at frame1 count1 regs1 ⊢
  have frame2 := incIf_frame a (ICH_SETTLECNT w.ich) settle
  have count2 := regN_incIf a (ICH_SETTLECNT w.ich) settle
  have regs2 := fun b (h : b ≠ ICH_SETTLECNT w.ich) => reg_incIf_ne a settle h
  generalize a.incIf (ICH_SETTLECNT w.ich) settle = b at frame2 count2 regs2 ⊢
  refine ⟨?_, fun x hx => ?_, ?_, ?_, ?_⟩
  · rw [frame2, frame1]
    rfl
  · simp only [List.mem_cons, List.not_mem_nil, or_false, not_or] at hx
    exact (regs2 x hx.2).trans (regs1 x hx.1)
  · exact (congrArg BitVec.toNat (regs2 _ distinct)).trans count1
  · rw [← show a.regN (ICH_SETTLECNT w.ich) = s.regN (ICH_SETTLECNT w.ich) from congrArg BitVec.toNat (regs1 _ distinct.symm)]
    exact count2
  · exact win_updWin (by rw [frame2, frame1]; exact hw) fun _ => rfl

section
variable {s : State} {id x : Nat} {w : Window} (hw : s.win id = some w) (hl : w.lane = some x) (ho : w.opened = true)
include hw hl

theorem laneFifo_waits (h : w.count ≤ w.seen ∨ s.now < w.arrive w.seen) : exec (.laneFifoSample id) s = .next s := by
  show answer s _ = _
  rw [hw]
  dsimp only
  rw [hl]
  exact (congrArg (answer s) (if_pos (by rcases h with h | h <;> simp [h]))).trans (answer_self s)

/-- The output sample of window `w` that enters its FIFO next. -/
abbrev nextSample (s : State) (id : Nat) (w : Window) (sat : Bool) : Sample :=
  { iq := (s.laneSample w (w.sampleAt w.seen)).1, settle := s.settles w (w.sampleAt w.seen)
    ovf := sat || s.spanOvr w (w.sampleAt w.seen), time := (w.sampleAt w.seen).toNat, win := id }

include ho

theorem laneFifo_eq (hv : w.served = false) (hc : w.seen < w.count) (ht : w.arrive w.seen ≤ s.now)
    (hf : (s.ctx w.mica x).fifo.length < 512) :
    let sat := (s.laneSample w (w.sampleAt w.seen)).2 || s.spanSat w (w.sampleAt w.seen)
    let u := (s.sampleSeen id w sat (s.settles w (w.sampleAt w.seen))).updCtx w.mica x fun c =>
      { c with fifo := c.fifo ++ [nextSample s id w sat] }
    exec (.laneFifoSample id) s = answer s (u.maxReg (MICA_FIFOMAX w.mica) (u.ctx w.mica x).fifo.length) := by
  intro sat u
  have seen := sampleSeen_seen hw sat (s.settles w (w.sampleAt w.seen))
  have room : ¬ 512 ≤ ((s.sampleSeen id w sat (s.settles w (w.sampleAt w.seen))).ctx w.mica x).fifo.length := by
    rw [seen.frame]
    exact Nat.not_le.2 hf
  show answer s _ = _
  rw [hw]
  dsimp only
  rw [hl]
  dsimp only
  rw [if_neg (by simp [ho, hc, ht]), if_neg (by simp [hv])]
  exact congrArg (answer s) (if_neg room)

theorem laneFifo_enters (hv : w.served = false) (hc : w.seen < w.count) (ht : w.arrive w.seen ≤ s.now)
    (hf : (s.ctx w.mica x).fifo.length < 512) :
    let T := w.sampleAt w.seen
    let z := s.laneSample w T
    let sat := z.2 || s.spanSat w T
    Answers (.laneFifoSample id) s fun t =>
      (∃ it : Sample, t.ctx w.mica x = { s.ctx w.mica x with fifo := (s.ctx w.mica x).fifo ++ [it] } ∧ it.win = id ∧
        it.iq = z.1 ∧ it.time = T.toNat ∧ it.settle = s.settles w T ∧ it.ovf = (sat || s.spanOvr w T)) ∧
      (∃ v, t.win id = some v ∧ v = { w with seen := w.seen + 1 }) ∧
      t.regN (ICH_SATCNT w.ich) = min (s.regN (ICH_SATCNT w.ich) + if sat then 1 else 0) (2 ^ 32 - 1) ∧
      t.regN (ICH_SETTLECNT w.ich) = min (s.regN (ICH_SETTLECNT w.ich) + if s.settles w T then 1 else 0) (2 ^ 32 - 1) ∧
      (s.ctx w.mica x).fifo.length + 1 ≤ t.regN (MICA_FIFOMAX w.mica) ∧
      RegsBut s t [ICH_SATCNT w.ich, ICH_SETTLECNT w.ich, MICA_FIFOMAX w.mica] ∧
      t = { s with micas := t.micas, regs := t.regs, fab := { s.fab with wins := t.fab.wins } } := by
  intro T z sat
  have eq := laneFifo_eq hw hl ho hv hc ht hf
  have seen := sampleSeen_seen hw sat (s.settles w T)
  dsimp only at eq
  change exec (.laneFifoSample id) s = answer s (State.maxReg ((s.sampleSeen id w sat (s.settles w T)).updCtx w.mica x _) _ _) at eq
  generalize s.sampleSeen id w sat (s.settles w T) = a at eq seen
  have same : a.ctx w.mica x = s.ctx w.mica x := by rw [seen.frame]; rfl
  have ctx := ctx_updCtx a w.mica x fun c => { c with fifo := c.fifo ++ [nextSample s id w sat] }
  have frame2 : (a.updCtx w.mica x fun c => { c with fifo := c.fifo ++ [nextSample s id w sat] }) =
    { a with micas := (a.updCtx w.mica x fun c => { c with fifo := c.fifo ++ [nextSample s id w sat] }).micas } := rfl
  generalize (a.updCtx w.mica x fun c => { c with fifo := c.fifo ++ [nextSample s id w sat] }) = b at eq ctx frame2
  rw [same] at ctx
  have size : (b.ctx w.mica x).fifo.length = (s.ctx w.mica x).fifo.length + 1 := by
    rw [ctx]
    exact List.length_append ..
  rw [size] at eq
  have frame3 := maxReg_frame b (MICA_FIFOMAX w.mica) ((s.ctx w.mica x).fifo.length + 1)
  have most := regN_maxReg b (MICA_FIFOMAX w.mica) (v := (s.ctx w.mica x).fifo.length + 1) (by omega)
  have regs3 := fun y (h : y ≠ MICA_FIFOMAX w.mica) => reg_maxReg_ne b ((s.ctx w.mica x).fifo.length + 1) h
  generalize b.maxReg (MICA_FIFOMAX w.mica) ((s.ctx w.mica x).fifo.length + 1) = t at eq frame3 most regs3
  have reg : ∀ y, y ≠ MICA_FIFOMAX w.mica → t.reg y = a.reg y := fun y h => (regs3 y h).trans (by rw [frame2]; rfl)
  refine ⟨t, eq.trans ?_, ⟨nextSample s id w sat, ?_, rfl, rfl, rfl, rfl, rfl⟩, ⟨_, ?_, rfl⟩, ?_, ?_, ?_, fun y hy => ?_, ?_⟩
  · rw [frame3, frame2, seen.frame]
    rfl
  · rw [← ctx, frame3]
    rfl
  · rw [frame3, frame2]
    exact seen.win
  · exact (congrArg BitVec.toNat (reg _ (by unfold ICH_SATCNT MICA_FIFOMAX; omega))).trans seen.sat
  · exact (congrArg BitVec.toNat (reg _ (by unfold ICH_SETTLECNT MICA_FIFOMAX; omega))).trans seen.settle
  · rw [most]
    exact le_max_right ..
  · simp only [List.mem_cons, List.not_mem_nil, or_false, not_or] at hy
    exact (reg y hy.2.2).trans (seen.regs y (by simp [hy.1, hy.2.1]))
  · rw [frame3, frame2, seen.frame]

end

/-- Settles O25: a block is a chain of stages of which each names what it changes, a window's stages are branches of their
commands, and what a new window's SAMPLES record does to the rings is a relation of its own. -/
theorem inputChannels : Obligations.InputChannels := by
  unfold Obligations.InputChannels
  refine ⟨fun s m l hm => ⟨fun hb hl ht => ⟨fun hc hq => inputBlock_plain hm hb hl ht hc hq,
      fun w hw hc hr hq hi ho hs hp ha => inputBlock_taints hm hb hl ht hw hc hr hq hi ho hs hp ha⟩,
      fun g hg => ⟨settlingEnd_early hg, settlingEnd_ends hg⟩, ichTrimUpdate_takes hm, ichTrimUpdate_waits⟩,
    fun s id e w hw hi => ⟨fun a link he hs => ⟨fun h => ?_, fun ho ha ht => ?_, windowArrive_late hw he hs link hi⟩,
      fun he hs ho hv hc => ⟨windowBind_early hw he, fun ht l hl hr hb hm => windowBind_binds hw he hs ho hv hc ht hl hr hb hm,
        fun ht hm hp ha => windowBind_lost hw he hs ho hv hi hc ht hm hp ha⟩,
      fun x hl ho hv hr => ⟨windowStart_early hw hl,
        fun ht hn hq hm hc => windowStart_begins hw hl hi ho hv hr ht hn hq hm hc, windowStart_queues hw hl ho hv hr⟩,
      fun x hl ho hv => ⟨laneFifo_waits hw hl, laneFifo_enters hw hl ho hv⟩⟩⟩
  · rw [windowArrive_eq hw he hs link, if_pos (by rcases h with h | h <;> simp [h]), answer_self]
  · rw [windowArrive_eq hw he hs link, if_neg (by simp [ho, ha]), if_pos ht]
    rfl

end Sys2Proof.Machine

namespace Sys2Proof.Machine

/-! The queue of commands (log 1, 114). -/

/-- Settles O1, by the equation of `step` on a queue that is not empty. -/
theorem stepRunsTheFrontCommand : Obligations.StepRunsTheFrontCommand := by
  have front : ∀ (s : State) (c : Instr) (rest : List Instr), s.pending = c :: rest →
      step s = exec c { s with pending := rest } := by
    intro s c rest h
    unfold step
    rw [h]
  exact ⟨front, fun s c => front (s.withFront c) c s.pending rfl⟩

/-- From `s` to `t` command `c` has left the queue and the fuses, and the flash too unless it ends a flash operation. -/
def LeavesQueue (c : Instr) (s t : State) : Prop :=
  t.pending = s.pending ∧ t.variant = s.variant ∧ t.serial = s.serial ∧
    (t.flash = s.flash ∨ (∃ g, c = .flashCommandDone g) ∨ ∃ tr g, c = .calAreaWrite tr g)

theorem answers_leavesQueue {c : Instr} {s u : State} (h : exec c s = answer s u) : Answers c s (LeavesQueue c s) :=
  ⟨_, h, rfl, rfl, rfl, .inl rfl⟩

theorem flashCommandDone_leavesQueue (g : Bool) (s : State) :
    Answers (.flashCommandDone g) s (LeavesQueue (.flashCommandDone g) s) := by
  simp only [Answers, exec, execFlashCommandDone]
  split
  · exact ⟨_, rfl, rfl, rfl, rfl, .inl rfl⟩
  · exact ⟨_, rfl, rfl, rfl, rfl, .inr (.inl ⟨g, rfl⟩)⟩

theorem calAreaWrite_leavesQueue (tr : List Byte) (g : Bool) (s : State) :
    Answers (.calAreaWrite tr g) s (LeavesQueue (.calAreaWrite tr g) s) := by
  simp only [Answers, exec, execCalAreaWrite]
  split
  · exact ⟨_, rfl, rfl, rfl, rfl, .inl rfl⟩
  · split <;> exact ⟨_, rfl, rfl, rfl, rfl, .inr (.inr ⟨tr, g, rfl⟩)⟩

/-- Settles O2: every command but two ends in `answer`, and those two write the flash. -/
theorem everyCommandAnswers : Obligations.EveryCommandAnswers := by
  intro c s
  cases c
  case flashCommandDone g => exact flashCommandDone_leavesQueue g s
  case calAreaWrite tr g => exact calAreaWrite_leavesQueue tr g s
  all_goals exact answers_leavesQueue rfl

/-! The state after reset (17 R482, R488; 15 R438). -/

theorem biasStat_reset : ∀ n < 128, bits (pf0Reset (BIAS_STAT n)).toNat 2 0 = bClamped := by decide +kernel

/-- Settles O4: every table is empty, so that each entry reads its reset value. -/
theorem resetState : Obligations.ResetState := by
  refine ⟨rfl, rfl, fun _ => rfl, fun _ _ => rfl, fun _ => ⟨rfl, rfl, rfl⟩, fun _ => rfl, biasStat_reset, ?_, rfl, rfl, rfl,
    rfl, rfl⟩
  decide +kernel

/-! One tick (02 R48, R52; 14 R416; log 105, 106). -/

/-- From `s` to `t` a partition has kept its mode and its job. -/
def Part.Stays (a b : Part) : Prop := b.mode = a.mode ∧ b.job.map (·.num) = a.job.map (·.num)

/-- From `s` to `t`, what a tick does besides its counts: time, boot, pins, cores, frames, slots and modes stay. -/
structure TickWork (s t : State) : Prop where
  frame : t = { s with
    regs := t.regs, before := t.before, parts := t.parts, rings := t.rings, reqs := t.reqs, fab := t.fab, geo := t.geo
    ports := t.ports, hk := t.hk, cal := t.cal }
  part : ∀ p, (s.part p).Stays (t.part p)

namespace TickWork

theorem refl (s : State) : TickWork s s := ⟨rfl, fun _ => ⟨rfl, rfl⟩⟩

theorem trans {a b c : State} (h1 : TickWork a b) (h2 : TickWork b c) : TickWork a c := by
  refine ⟨?_, fun p => ⟨(h2.part p).1.trans (h1.part p).1, (h2.part p).2.trans (h1.part p).2⟩⟩
  rw [h2.frame, h1.frame]

/-- Work that leaves every partition alone. -/
theorem of_frame {s t : State}
    (h : t = { s with
      regs := t.regs, before := t.before, rings := t.rings, reqs := t.reqs, fab := t.fab, geo := t.geo
      ports := t.ports, hk := t.hk, cal := t.cal }) : TickWork s t := by
  refine ⟨?_, fun p => ?_⟩
  · rw [h]
  · rw [h]
    exact ⟨rfl, rfl⟩

theorem of_captured {s t : State} (h : Captured s t) : TickWork s t := by
  refine ⟨?_, fun p => ⟨(h.part p).mode, congrArg _ (h.part p).job⟩⟩
  rw [h.frame]

theorem of_queued {s t : State} (h : Queued s t) : TickWork s t := of_captured h.captured

theorem forEach {α : Type} {f : State → α → State} (h : ∀ s x, TickWork s (f s x)) (s : State) (l : List α) :
    TickWork s (s.forEach l f) :=
  forEach_rel TickWork refl (fun _ _ _ => trans) s l f h

/-- A loop that carries a value besides the state. -/
theorem foldl {α β : Type} {f : State × β → α → State × β} (h : ∀ x a, TickWork x.1 (f x a).1) (l : List α) (x : State × β) :
    TickWork x.1 (l.foldl f x).1 := by
  induction l generalizing x with
  | nil => exact refl x.1
  | cons a l ih => exact (h x a).trans (ih _)

theorem updPart (s : State) (p : Nat) (f : Part → Part) (h : (s.part p).Stays (f (s.part p))) : TickWork s (s.updPart p f) := by
  refine ⟨rfl, fun q => ?_⟩
  by_cases hq : q = p
  · rw [hq, part_updPart]
    exact h
  · rw [part_updPart_ne _ _ hq]
    exact ⟨rfl, rfl⟩

theorem ite {s : State} {c : Prop} [Decidable c] {t u : State} (ht : TickWork s t) (hu : TickWork s u) :
    TickWork s (if c then t else u) := by
  split
  · exact ht
  · exact hu

end TickWork

/-- From `s` to `t`, what the samples of an output channel may change: registers of the output channels, and the fabric. -/
structure SampleWork (s t : State) : Prop where
  frame : t = { s with regs := t.regs, before := t.before, fab := t.fab }
  regs : ∀ a, 0x84000 ≤ a → t.reg a = s.reg a

namespace SampleWork

theorem refl (s : State) : SampleWork s s := ⟨rfl, fun _ _ => rfl⟩

theorem trans {a b c : State} (h1 : SampleWork a b) (h2 : SampleWork b c) : SampleWork a c := by
  refine ⟨?_, fun x hx => (h2.regs x hx).trans (h1.regs x hx)⟩
  rw [h2.frame, h1.frame]

theorem updFab (s : State) (f : Fab → Fab) : SampleWork s (s.updFab f) := ⟨rfl, fun _ _ => rfl⟩

theorem ite {s : State} {c : Prop} [Decidable c] {t u : State} (ht : SampleWork s t) (hu : SampleWork s u) :
    SampleWork s (if c then t else u) := by
  split
  · exact ht
  · exact hu

theorem setN (s : State) (a v : Nat) (h : a < 0x84000) : SampleWork s (s.setN a v) :=
  ⟨rfl, fun _ hx => reg_setN_ne s v (by omega)⟩

theorem stick (s : State) (a i : Nat) (h : a < 0x84000) : SampleWork s (s.stick a i) :=
  ⟨rfl, fun _ hx => reg_stick_ne s i (by omega)⟩

theorem maxReg (s : State) (a v : Nat) (h : a < 0x84000) : SampleWork s (s.maxReg a v) :=
  ite (setN s a v h) (refl s)

theorem tick {s t : State} (h : SampleWork s t) : TickWork s t := by
  refine .of_frame ?_
  rw [h.frame]

end SampleWork

theorem formTick_work (s : State) {n : Nat} (hn : n < 64) : SampleWork s (s.formTick n) := by
  have hpeak : OCH_PEAK n < 0x84000 := by unfold OCH_PEAK; omega
  have hstat : OCH_STAT n < 0x84000 := by unfold OCH_STAT; omega
  have hsat : OCH_SATCNT n < 0x84000 := by unfold OCH_SATCNT; omega
  unfold State.formTick
  extract_lets a r l out s1 s2 s3 s4
  have h1 : SampleWork s s1 := .updFab ..
  have h2 : SampleWork s1 s2 := .maxReg _ _ _ hpeak
  have h3 : SampleWork s2 s3 := .ite (.stick _ _ _ hstat) (.refl _)
  have h4 : SampleWork s3 s4 := .ite (.refl _) ((SampleWork.stick _ _ _ hstat).trans (.setN _ _ _ hsat))
  exact h1.trans (h2.trans (h3.trans (h4.trans (.updFab ..))))

theorem tickOutputs_work (s : State) : SampleWork s s.tickOutputs :=
  forEach_rel_mem .refl (fun _ _ _ => .trans)
    (fun s _ hn => formTick_work s ((List.mem_range.1 (List.mem_filter.1 hn).1).trans_le (nOch_le _))) s

theorem tickBursts_work (s : State) : TickWork s s.tickBursts :=
  .forEach (fun s k => .of_captured (beginBurst_captured s k)) _ _

theorem tickFabric_work (s : State) : TickWork s s.tickFabric := by
  unfold State.tickFabric
  extract_lets passed past old s1
  exact TickWork.trans (.of_frame (t := s1) rfl) (.forEach (fun _ _ => .of_frame rfl) _ _)

theorem pinLoan_work (s : State) (p : Nat) (l : Option Nat) : TickWork s (s.pinLoan p l) := by
  unfold State.pinLoan
  split
  · exact .ite (.refl s) (.of_queued (yields_queued ..))
  · exact .refl s

theorem requestPage_work (s : State) (p n pg u t d : Nat) : TickWork s (s.requestPage p n pg u t d) := by
  unfold State.requestPage
  split
  · exact .refl s
  · extract_lets hit ent new excess lender ways full was ent' swap s1
    have h1 : TickWork s1 (s1.setFullNote p (full && !was)) := .ite (.of_frame rfl) (.refl _)
    exact (TickWork.of_frame (t := s1) rfl).trans (h1.trans (pinLoan_work ..))

theorem tickPins_work (s : State) : TickWork s s.tickPins := by
  refine .forEach (fun s g => ?_) _ _
  unfold State.retryQuota
  split
  · exact .refl s
  · exact .forEach (fun s w => .ite (requestPage_work ..) (.refl s)) _ _

theorem tickUsers_work (s : State) : TickWork s s.tickUsers := by
  unfold State.tickUsers
  extract_lets due s1
  exact TickWork.trans (.of_frame (t := s1) rfl) (.forEach (fun _ _ => .of_queued (queueRec_queued ..)) _ _)

theorem capServe_work (s : State) : TickWork s s.capServe := by
  unfold State.capServe
  extract_lets ps share total others spare n s1
  refine TickWork.trans (.of_frame (t := s1) rfl) (.foldl (fun x p => ?_) ps (s1, n))
  exact .updPart x.1 p (fun q => { q with capWait := _ }) ⟨rfl, rfl⟩

theorem tickShares_work (s : State) : TickWork s s.tickShares := by
  unfold State.tickShares
  refine .ite (.refl s) ?_
  extract_lets s1 s2 s3
  have h1 : TickWork s s1 := .ite (.refl s) (capServe_work s)
  have h2 : TickWork s1 s2 := .forEach (fun s p => .updPart s p _ ⟨rfl, rfl⟩) _ _
  have h3 : TickWork s2 s3 := .forEach (fun s q => .of_frame rfl) _ _
  exact h1.trans (h2.trans (h3.trans (.of_frame rfl)))

theorem addWait_work (s : State) (p k r : Nat) : TickWork s (s.addWait p k r) := by
  refine .ite (.refl s) (.updPart s p _ ⟨rfl, ?_⟩)
  rw [Option.map_map]
  rfl

theorem shotWaits_work (s : State) (p : Nat) : TickWork s (s.shotWaits p) := by
  refine .ite ?_ (.refl s)
  split
  · exact .refl s
  · exact addWait_work ..

theorem tickWaits_work (s : State) : TickWork s s.tickWaits := by
  refine .forEach (fun s p => ?_) _ _
  extract_lets s1 s2
  have h1 : TickWork s s1 := .ite (.refl s) (.updPart s p _ ⟨rfl, rfl⟩)
  exact h1.trans ((shotWaits_work ..).trans (.ite (.updPart _ p _ ⟨rfl, rfl⟩) (.refl _)))

theorem applyFlint_work (s : State) : TickWork s s.applyFlint :=
  TickWork.trans (.of_frame (t := s.updCal _) rfl) (.forEach (fun _ _ => .of_frame rfl) _ _)

theorem trimTook_work (s : State) (k : Nat) : TickWork s (s.trimTook k) := .of_frame rfl

theorem tickTrims_work (s : State) : TickWork s s.tickTrims := by
  unfold State.tickTrims
  extract_lets s1 s2
  have h1 : TickWork s s1 := .ite (.of_frame rfl) (.refl s)
  have h2 : TickWork s1 s2 := .ite ((applyFlint_work s1).trans (trimTook_work ..)) (.refl _)
  exact h1.trans (h2.trans (.forEach (fun s m => .ite (.of_frame rfl) (.refl s)) _ _))

theorem tickProbes_work (s : State) : TickWork s s.tickProbes := by
  unfold State.tickProbes
  exact .ite (.refl s) (.forEach (fun _ _ => .of_frame rfl) _ _)

theorem launchTime_work (s : State) (q : Nat) : TickWork s (s.launchTime q) := by
  unfold State.launchTime
  split
  · refine .ite ?_ (.refl s)
    rename_i e l n _ _
    obtain ⟨a, b⟩ := s.timePayload e
    dsimp -zeta only
    extract_lets h body s1 s2
    have h1 : TickWork s s1 := .of_frame rfl
    have h2 : TickWork s1 s2 := .of_frame rfl
    exact h1.trans (h2.trans (.ite (.of_frame rfl) (.refl _)))
  · exact .refl s

theorem tickAck_work (s : State) (q : Nat) : TickWork s (s.tickAck q) := by
  unfold State.tickAck
  split
  · exact .ite (.of_frame rfl) (.refl s)
  · exact .refl s

theorem tickLines_work (s : State) : TickWork s s.tickLines := by
  refine .forEach (fun s q => .ite (.refl s) ?_) _ _
  extract_lets s1 s2
  have h1 : TickWork s s1 := .ite ((tickAck_work s q).trans (launchTime_work _ q)) (.refl s)
  refine h1.trans (TickWork.trans (.of_frame (t := s2) rfl) (.forEach (fun s l => ?_) _ _))
  exact .ite (.of_frame rfl) (.ite (.of_frame rfl) (.refl s))

/-- What the running device does in a tick after its counts. -/
theorem tickRunning_work (s : State) :
    TickWork s s.tickBursts.tickFabric.tickPins.tickUsers.tickShares.tickWaits.tickTrims.tickProbes.tickLines :=
  (tickBursts_work s).trans <| (tickFabric_work _).trans <| (tickPins_work _).trans <| (tickUsers_work _).trans <|
    (tickShares_work _).trans <| (tickWaits_work _).trans <| (tickTrims_work _).trans <| (tickProbes_work _).trans <|
    tickLines_work _

/-- The tick up to the counts and the clock. -/
def State.tickStart (s : State) : State := if s.mode == .boot || s.mode == .failed || s.heldOff then s else s.tickOutputs

theorem tickStart_work (s : State) : SampleWork s s.tickStart := .ite (.refl s) (tickOutputs_work s)

/-- The part of the tick that the clock gives. -/
def State.tickClock (s : State) : State := if s.clockRuns then s.tickTime else s

/-- The part of the tick that only a running device has. -/
def State.tickRest (s : State) : State :=
  if s.mode == .boot || s.mode == .failed || s.heldOff then s
  else s.tickBursts.tickFabric.tickPins.tickUsers.tickShares.tickWaits.tickTrims.tickProbes.tickLines

theorem tickRest_work (s : State) : TickWork s s.tickRest := .ite (.refl s) (tickRunning_work s)

theorem tick_eq (s : State) : tick s = { s.tickStart.tickCounts.tickClock.tickRest with
    before := s.tickStart.tickCounts.tickClock.tickRest.regs
    pending := s.pending, variant := s.variant, serial := s.serial, flash := s.flash } := rfl

theorem tickCounts_frame (s : State) : s.tickCounts = { s with
    time := { s.time with edge := s.time.edge.map (· + 1) }
    pins := { s.pins with syncLeft := s.pins.syncLeft - 1, syncOut := s.pins.syncOut && decide (1 < s.pins.syncLeft) }
    boot := if s.heldOff then s.boot else { s.boot with ticks := s.boot.ticks + 1 } } := by
  unfold State.tickCounts
  extract_lets s1 s2
  have hh : s2.heldOff = s.heldOff := rfl
  rw [hh]
  split <;> rfl

theorem tickStart_time (s : State) : s.tickStart.time = s.time := by rw [(tickStart_work s).frame]
theorem tickStart_boot (s : State) : s.tickStart.boot = s.boot := by rw [(tickStart_work s).frame]
theorem tickStart_pins (s : State) : s.tickStart.pins = s.pins := by rw [(tickStart_work s).frame]
theorem tickStart_mode (s : State) : s.tickStart.mode = s.mode := by rw [(tickStart_work s).frame]

theorem heldOff_congr {s t : State} (h : t.boot = s.boot) : t.heldOff = s.heldOff := by
  unfold State.heldOff
  rw [h]

theorem ftInc_tickStart (s : State) : s.tickStart.ftInc = s.ftInc := by
  unfold State.ftInc State.fld State.regN
  rw [(tickStart_work s).regs PTP_INC_LO (by decide), (tickStart_work s).regs PTP_INC_HI (by decide)]

theorem clockRuns_tickCounts (s : State) : s.tickStart.tickCounts.clockRuns = s.clockRuns := by
  have hb : s.tickStart.tickCounts.boot.biasWait = s.boot.biasWait ∧ s.tickStart.tickCounts.heldOff = s.heldOff := by
    rw [← heldOff_congr (tickStart_boot s), ← tickStart_boot s, tickCounts_frame]
    unfold State.heldOff
    dsimp only
    constructor <;> split <;> rfl
  have hm : s.tickStart.tickCounts.mode = s.mode := by
    rw [tickCounts_frame]
    exact tickStart_mode s
  unfold State.clockRuns
  rw [hb.1, hb.2, hm]

/-- The course of time in a tick: the capture edge's count, and where the clock runs DTIME and facility time. -/
def State.timeAfterTick (s : State) : Time :=
  let x := { s.time with edge := s.time.edge.map (· + 1) }
  if s.clockRuns then { x with dtime := x.dtime + 1#64, ft := x.ft + BitVec.ofNat 64 s.ftInc } else x

theorem tick_time (s : State) : (tick s).time = s.timeAfterTick := by
  have hc : s.tickStart.tickCounts.time = { s.time with edge := s.time.edge.map (· + 1) } := by
    rw [tickCounts_frame, tickStart_time]
  have hi : s.tickStart.tickCounts.ftInc = s.ftInc := by
    rw [tickCounts_frame]
    exact ftInc_tickStart s
  have hr : (tick s).time = s.tickStart.tickCounts.tickClock.time := by
    rw [tick_eq, (tickRest_work _).frame]
  rw [hr]
  unfold State.tickClock State.timeAfterTick
  rw [clockRuns_tickCounts]
  split
  · unfold State.tickTime State.updTime
    rw [hi, hc]
  · exact hc

theorem tickClock_frame (s : State) : s.tickClock = { s with time := s.tickClock.time } := by
  unfold State.tickClock
  split <;> rfl

theorem tick_boot (s : State) : (tick s).boot = if s.heldOff then s.boot else { s.boot with ticks := s.boot.ticks + 1 } := by
  rw [tick_eq, (tickRest_work _).frame, tickClock_frame, tickCounts_frame, tickStart_boot, heldOff_congr (tickStart_boot s)]

theorem tick_pins (s : State) : (tick s).pins =
    { s.pins with syncLeft := s.pins.syncLeft - 1, syncOut := s.pins.syncOut && decide (1 < s.pins.syncLeft) } := by
  rw [tick_eq, (tickRest_work _).frame, tickClock_frame, tickCounts_frame, tickStart_pins]

theorem tick_keeps (s : State) : (tick s).mode = s.mode ∧ (tick s).cores = s.cores ∧ (tick s).frames = s.frames ∧
    (tick s).slots = s.slots ∧ ∀ p, (s.part p).Stays ((tick s).part p) := by
  rw [tick_eq]
  refine ⟨?_, ?_, ?_, ?_, fun p => ?_⟩
  case refine_5 =>
    have h1 := (tickStart_work s).tick.part p
    have h2 := (tickRest_work s.tickStart.tickCounts.tickClock).part p
    have hp : s.tickStart.tickCounts.tickClock.part p = s.tickStart.part p := by rw [tickClock_frame, tickCounts_frame]; rfl
    rw [hp] at h2
    exact ⟨h2.1.trans h1.1, h2.2.trans h1.2⟩
  all_goals rw [(tickRest_work _).frame, tickClock_frame, tickCounts_frame, (tickStart_work s).frame]

/-- Settles O5, by what a tick makes of time, boot and pins, and by what its other work leaves alone. -/
theorem emptyQueueTicks : Obligations.EmptyQueueTicks := by
  intro s hp
  have hs : step s = .next (tick s) := by
    unfold step
    rw [hp]
  obtain ⟨hmode, hcores, hframes, hslots, hparts⟩ := tick_keeps s
  refine ⟨tick s, hs, rfl, hp, fun hh hb hf => ?_, fun hh => ?_, fun hb hw => ?_, fun hh => ?_, ?_, ?_, hmode, hcores, hframes,
    hslots, rfl, hparts⟩
  · have hc : s.clockRuns = true := by simp [State.clockRuns, hh, hb, hf]
    rw [tick_time, State.timeAfterTick, if_pos hc]
    exact ⟨rfl, rfl⟩
  · have hc : ¬ s.clockRuns = true := by simp [State.clockRuns, hh]
    rw [tick_time, tick_boot, State.timeAfterTick, if_neg hc, if_pos hh]
    exact ⟨rfl, rfl⟩
  · have hc : ¬ s.clockRuns = true := by simp [State.clockRuns, hb, hw]
    rw [tick_time, State.timeAfterTick, if_neg hc]
  · rw [tick_boot, if_neg (by simp [hh])]
  · rw [tick_time, State.timeAfterTick]
    split <;> rfl
  · simp [tick_pins]

end Sys2Proof.Machine

namespace Sys2Proof.Machine

/-! A timed instruction that may issue its event (02 R51, R62; 04 R117, R141; 05 R181). -/

section
variable {s : State} {q p n : Nat} (h : s.mayIssue q p n)
include h

theorem inShotOnly_mayIssue (f : State → State) : s.inShotOnly q p f = f s := by
  obtain ⟨hm, -⟩ := h
  refine if_neg fun hc => ?_
  rcases hm with hm | hm <;> simp [hm] at hc

theorem timed_mayIssue (w : BitVec 64) (f : State → State) : s.timed q p w f = f s := if_neg (Nat.not_lt.2 h.2.1)

theorem refStall_mayIssue (w : BitVec 64) (f : State → State) : s.refStall q p w f = f s := by
  obtain ⟨-, -, hm, -⟩ := h
  refine if_neg fun hc => ?_
  rcases hm with hm | hm <;> simp [hm] at hc

theorem entries_mayIssue (w : BitVec 64) (f : State → State) :
    s.entries q p n w f = f (s.updQtz q fun k => { k with asked := none }) := if_pos h.2.2.2

end

theorem fetched_frame (q : Core) : q.fetched = { q with lines := q.fetched.lines } := by
  unfold Core.fetched
  split <;> rfl

/-- A fetch changes no core but in its cache lines. -/
theorem qtz_fetch_frame (s : State) (c k : Nat) : (s.fetch c).qtz k = { s.qtz k with lines := ((s.fetch c).qtz k).lines } := by
  by_cases hk : k = c
  · rw [hk, qtz_fetch, ← fetched_frame]
  · rw [qtz_fetch_ne _ hk]

theorem vr_fetch (s : State) (c i : Nat) : (s.fetch c).vr c i = s.vr c i := by
  unfold State.vr
  rw [qtz_fetch, fetched_v]

theorem inLine_fetch (s : State) (c p t : Nat) : (s.fetch c).inLine p t = s.inLine p t := by
  have hf := fetch_cores s c
  have hq : ∀ d, ((s.fetch c).qtz d).st = (s.qtz d).st ∧ ((s.fetch c).qtz d).asked = (s.qtz d).asked := fun d => by
    rw [qtz_fetch_frame]
    exact ⟨rfl, rfl⟩
  generalize s.fetch c = u at hf hq
  unfold State.inLine
  rw [hf] at hq ⊢
  simp only [hq]
  rfl

theorem mayIssue_fetch {s : State} {c p n : Nat} (h : s.mayIssue c p n) : (s.fetch c).mayIssue c p n := by
  obtain ⟨h1, h2, h3, h4⟩ := h
  have hf := fetch_cores s c
  have hl := inLine_fetch s c p (((s.fetch c).qtz c).asked.getD s.now)
  have hq := qtz_fetch_frame s c c
  generalize s.fetch c = u at hf hl hq
  have ht : (u.qtz c).tl = (s.qtz c).tl ∧ (u.qtz c).inShot = (s.qtz c).inShot ∧ (u.qtz c).asked = (s.qtz c).asked := by
    rw [hq]
    exact ⟨rfl, rfl, rfl⟩
  obtain ⟨htl, hin, has⟩ := ht
  have hb : u.begun c p = s.begun c p := by
    unfold State.begun
    rw [hin, hf]
    rfl
  have hpart : u.part p = s.part p := by rw [hf]; rfl
  have hnow : u.now = s.now := by rw [hf]; rfl
  have hregs : u.fld (TIME_LOOKAHEAD p) 19 0 = s.fld (TIME_LOOKAHEAD p) 19 0 := by rw [hf]; rfl
  have hlost : u.time.lost = s.time.lost := by rw [hf]
  have htake : ∀ b, u.canTake p n b = s.canTake p n b := fun b => by rw [hf]; rfl
  refine ⟨?_, ?_, ?_, ?_⟩
  · rw [hpart, hin]
    exact h1
  · rw [htl, hnow, hregs]
    exact h2
  · rw [hlost, hpart]
    exact h3
  · rw [htake, hb, hnow, hl, has]
    exact h4

/-- The state in which core `c` has its entries: the instruction is fetched and the request for entries is done. -/
def State.granted (s : State) (c : Nat) : State := (s.fetch c).updQtz c fun k => { k with asked := none }

theorem entries_fetch {s : State} {c p n : Nat} (h : s.mayIssue c p n) (w : BitVec 64) (f : State → State) :
    (s.fetch c).entries c p n w f = f (s.granted c) :=
  entries_mayIssue (mayIssue_fetch h) w f

theorem qtz_granted (s : State) (c : Nat) : (s.granted c).qtz c = { (s.qtz c).fetched with asked := none } := by
  unfold State.granted
  rw [qtz_updQtz, qtz_fetch]

theorem granted_frame (s : State) (c : Nat) : s.granted c = { s with cores := (s.granted c).cores } := by
  unfold State.granted
  rw [fetch_cores]
  rfl

theorem tl_granted (s : State) (c : Nat) : ((s.granted c).qtz c).tl = (s.qtz c).tl := by
  rw [qtz_granted]
  exact fetched_tl _

theorem vr_granted (s : State) (c i : Nat) : (s.granted c).vr c i = s.vr c i := by
  unfold State.vr
  rw [qtz_granted]
  exact congrArg (look _ · i) (fetched_v _)

theorem vpair_granted (s : State) (c i : Nat) : (s.granted c).vpair c i = s.vpair c i := by
  unfold State.vpair
  rw [vr_granted, vr_granted]

/-- The state at which core `c` issues its event, its slack noted. -/
def State.readied (s : State) (c : Nat) : State := (s.granted c).slackNote c

/-- What has changed when core `c` issues its event. -/
structure Readied (s t : State) (c : Nat) : Prop where
  frame : t = { s with cores := t.cores, regs := t.regs, before := t.before }
  regs : RegsBut s t [QTZ_STAT c, QTZ_LATECNT c, QTZ_SLACKMIN c]
  core : t.qtz c = { (s.qtz c).fetched with asked := none }
  others : CoresBut s t [c]

theorem inc_frame (s : State) (a n : Nat) : s.inc a n = { s with regs := (s.inc a n).regs } := rfl

theorem lateNote_frame (s : State) (c : Nat) (k : Int) :
    s.lateNote c k = { s with regs := (s.lateNote c k).regs, before := (s.lateNote c k).before } := by
  unfold State.lateNote
  split
  · rw [inc_frame, stick_frame]
  · rfl

theorem slackMin_frame (s : State) (c : Nat) (k : Int) : s.slackMin c k = { s with regs := (s.slackMin c k).regs } := by
  unfold State.slackMin
  split <;> rfl

theorem slackNote_frame (s : State) (c : Nat) :
    s.slackNote c = { s with regs := (s.slackNote c).regs, before := (s.slackNote c).before } := by
  unfold State.slackNote
  rw [slackMin_frame, lateNote_frame]

theorem slackNote_regs (s : State) (c : Nat) : RegsBut s (s.slackNote c) [QTZ_STAT c, QTZ_LATECNT c, QTZ_SLACKMIN c] := by
  intro a ha
  simp only [List.mem_cons, List.not_mem_nil, or_false, not_or] at ha
  obtain ⟨h1, h2, h3⟩ := ha
  have hl : ∀ k, (s.lateNote c k).reg a = s.reg a := fun k => by
    unfold State.lateNote
    split
    · rw [reg_inc_ne _ _ h2, reg_stick_ne _ _ h1]
    · rfl
  unfold State.slackNote State.slackMin
  split
  · rw [reg_setN_ne _ _ h3, hl]
  · exact hl _

theorem readied_readied (s : State) (c : Nat) : Readied s (s.readied c) c := by
  unfold State.readied
  have hf := slackNote_frame (s.granted c) c
  have hr := slackNote_regs (s.granted c) c
  have hq : ∀ k, ((s.granted c).slackNote c).qtz k = (s.granted c).qtz k := fun k => by rw [hf]; rfl
  refine ⟨?_, fun a ha => (hr a ha).trans ?_, ?_, fun k hk => ?_⟩
  · rw [hf, granted_frame]
  · rw [granted_frame]
    rfl
  · rw [hq, qtz_granted]
  · have hk : k ≠ c := by simpa using hk
    unfold State.granted at hq
    rw [State.granted, hq, qtz_updQtz_ne _ _ hk, qtz_fetch_ne _ hk]

/-- Work of an issue that accepts event `k` at the cursor and ends in `t` with the next instruction. -/
theorem issued_of_accepted {s a b t : State} {c p : Nat} {k : EvKind} (hr : Readied s a c) (hw : IssueWork a b c p)
    (he : ∃ l, b.fab.events = a.fab.events ++ [{ a.cursorEvent c p k with id := a.fab.nextId, lender := l }])
    (hn : b.fab.nextId = a.fab.nextId + 1) (ht : t = { b.qnext c with issued := t.issued }) :
    Issued s t c p k := by
  obtain ⟨hb, -, hfab, hregs, hmode⟩ := hw
  obtain ⟨l, he⟩ := he
  have hafab : a.fab = s.fab := by rw [hr.frame]
  have htfab : t.fab = b.fab := by rw [ht]; rfl
  have hcore : t.qtz c = (a.qtz c).next := by
    have h1 : t.qtz c = (b.qtz c).next := by
      rw [ht]
      exact qtz_updQtz ..
    have h2 : b.qtz c = a.qtz c := by rw [hb]; rfl
    rw [h1, h2]
  refine ⟨⟨{ a.cursorEvent c p k with id := a.fab.nextId, lender := l }, ?_, ?_, rfl, rfl, ?_, rfl, rfl, rfl⟩, ?_, ?_, fun d hd => ?_, fun x hx => ?_, fun r => ?_, ?_⟩
  · rw [htfab, he, hafab]
  · rw [hafab]
  · show (a.qtz c).tl = _
    rw [hr.core]
    exact fetched_tl _
  · rw [htfab, hfab, hn, hafab]
  · rw [hcore, hr.core]
    unfold Core.next
    rw [fetched_frame]
  · have h1 : t.qtz d = b.qtz d := by
      rw [ht]
      exact qtz_updQtz_ne _ _ (by simpa using hd)
    have h2 : b.qtz d = a.qtz d := by rw [hb]; rfl
    rw [h1, h2, hr.others d hd]
  · have h1 : t.reg x = b.reg x := by rw [ht]; rfl
    rw [h1, hregs x hx]
    refine hr.regs x fun hm => hx ?_
    unfold issueRegs
    simp only [List.mem_cons, List.not_mem_nil, or_false] at hm
    rcases hm with rfl | rfl | rfl <;> simp
  · have h1 : t.part r = b.part r := by rw [ht]; rfl
    have h2 : a.part r = s.part r := by rw [hr.frame]; rfl
    rw [h1, hmode, h2]
  · rw [ht, hb, hr.frame]
    rfl

end Sys2Proof.Machine

namespace Sys2Proof.Machine

/-! The words of PLAY, PLAYCW and the frame writes (04 R122, R127, R128). -/

/-- The word of PLAY and PLAYCW. -/
def playWord (f : BitVec 10) (ch : BitVec 6) (obj g : BitVec 16) (fv wv gv : Bool) : BitVec 56 :=
  f ++ ch ++ obj ++ g ++ 0#5 ++ BitVec.ofBool fv ++ BitVec.ofBool wv ++ BitVec.ofBool gv

/-- The word of the stop form of PLAYCW. -/
def stopWord (f : BitVec 10) (ch : BitVec 6) (fv : Bool) : BitVec 56 := f ++ ch ++ 0#36 ++ 1#1 ++ BitVec.ofBool fv ++ 0#2

/-- The word of SETF, SETPH and SHIFTPH. -/
def setWord (f : BitVec 10) (a : BitVec 6) (imm : Word) (fv iv : Bool) : BitVec 56 :=
  f ++ a ++ imm ++ 0#5 ++ BitVec.ofBool fv ++ 0#1 ++ BitVec.ofBool iv

theorem ofBool_toNat (b : Bool) : (BitVec.ofBool b).toNat = bn b := by cases b <;> rfl

theorem playWord_toNat (f : BitVec 10) (ch : BitVec 6) (obj g : BitVec 16) (fv wv gv : Bool) :
    (playWord f ch obj g fv wv gv).toNat = f.toNat * 2 ^ 46 + (ch.toNat * 2 ^ 40 + (obj.toNat * 2 ^ 24 + (g.toNat * 2 ^ 8 +
      (bn fv * 4 + bn wv * 2 + bn gv)))) := by
  have h : (playWord f ch obj g fv wv gv).toNat = (((((((f.toNat * 2 ^ 6 + ch.toNat) * 2 ^ 16 + obj.toNat) * 2 ^ 16 + g.toNat) *
      2 ^ 5 + 0) * 2 ^ 1 + bn fv) * 2 ^ 1 + bn wv) * 2 ^ 1 + bn gv) := by
    unfold playWord
    simp only [append_nat, ofBool_toNat]
    rfl
  omega

theorem stopWord_toNat (f : BitVec 10) (ch : BitVec 6) (fv : Bool) :
    (stopWord f ch fv).toNat = f.toNat * 2 ^ 46 + (ch.toNat * 2 ^ 40 + (8 + bn fv * 4)) := by
  have h : (stopWord f ch fv).toNat = (((((f.toNat * 2 ^ 6 + ch.toNat) * 2 ^ 36 + 0) * 2 ^ 1 + 1) * 2 ^ 1 + bn fv) *
      2 ^ 2 + 0) := by
    unfold stopWord
    simp only [append_nat, ofBool_toNat]
    rfl
  omega

theorem setWord_toNat (f : BitVec 10) (a : BitVec 6) (imm : Word) (fv iv : Bool) :
    (setWord f a imm fv iv).toNat = f.toNat * 2 ^ 46 + (a.toNat * 2 ^ 40 + (imm.toNat * 2 ^ 8 + (bn fv * 4 + bn iv))) := by
  have h : (setWord f a imm fv iv).toNat = ((((((f.toNat * 2 ^ 6 + a.toNat) * 2 ^ 32 + imm.toNat) * 2 ^ 5 + 0) * 2 ^ 1 + bn fv) *
      2 ^ 1 + 0) * 2 ^ 1 + bn iv) := by
    unfold setWord
    simp only [append_nat, ofBool_toNat]
    rfl
  omega

/-- The topmost field of a word that is put together from it and the bits below it. -/
theorem bits_top {x r hi lo : Nat} (hx : x < 2 ^ (hi + 1 - lo)) (hr : r < 2 ^ lo) : bits (x * 2 ^ lo + r) hi lo = x := by
  unfold bits
  rw [Nat.shiftRight_eq_div_pow, Nat.mul_comm, Nat.mul_add_div (Nat.two_pow_pos lo), Nat.div_eq_of_lt hr, Nat.add_zero,
    Nat.mod_eq_of_lt hx]

theorem onlyBits_top {x r hi lo : Nat} (hx : x < 2 ^ (hi + 1 - lo)) (hr : r < 2 ^ lo) (l : List (Nat × Nat)) :
    onlyBits (x * 2 ^ lo + r) ((hi, lo) :: l) = onlyBits r l := by
  have h : setBits (x * 2 ^ lo + r) hi lo 0 = r := by
    unfold setBits
    rw [bits_top hx hr, Nat.shiftLeft_eq, Nat.zero_mod, Nat.zero_shiftLeft]
    omega
  unfold onlyBits
  rw [List.foldl_cons, h]

theorem bitOf_bn {n i : Nat} {b : Bool} (h : n / 2 ^ i % 2 = bn b) : bitOf n i = b := by
  unfold bitOf
  rw [Nat.shiftRight_eq_div_pow, h, bn_beq_one]

section
variable (f : BitVec 10) (ch : BitVec 6) (obj g : BitVec 16) (fv wv gv : Bool)

theorem playWord_fields :
    qf (playWord f ch obj g fv wv gv) 55 46 = f.toNat ∧ qf (playWord f ch obj g fv wv gv) 45 40 = ch.toNat ∧
    qf (playWord f ch obj g fv wv gv) 39 24 = obj.toNat ∧ qf (playWord f ch obj g fv wv gv) 23 8 = g.toNat := by
  have := f.isLt; have := ch.isLt; have := obj.isLt; have := g.isLt
  have := bn_lt fv; have := bn_lt wv; have := bn_lt gv
  unfold qf bits
  simp only [playWord_toNat, Nat.shiftRight_eq_div_pow]
  refine ⟨?_, ?_, ?_, ?_⟩ <;> omega

theorem playWord_flags :
    qflag (playWord f ch obj g fv wv gv) 3 = false ∧ qflag (playWord f ch obj g fv wv gv) 2 = fv ∧
    qflag (playWord f ch obj g fv wv gv) 1 = wv ∧ qflag (playWord f ch obj g fv wv gv) 0 = gv := by
  have := f.isLt; have := ch.isLt; have := obj.isLt; have := g.isLt
  have := bn_lt fv; have := bn_lt wv; have := bn_lt gv
  have h0 : bn false = 0 := rfl
  unfold qflag
  rw [playWord_toNat]
  refine ⟨bitOf_bn ?_, bitOf_bn ?_, bitOf_bn ?_, bitOf_bn ?_⟩ <;> omega

theorem playWord_onlyBits {hi : Nat} (h : 2 ≤ hi) :
    onlyBits (playWord f ch obj g fv wv gv).toNat [(55, 46), (45, 40), (39, 24), (23, 8), (hi, 0)] = true := by
  have := f.isLt; have := ch.isLt; have := obj.isLt; have := g.isLt
  have := bn_lt fv; have := bn_lt wv; have := bn_lt gv
  have h3 : bn fv * 4 + bn wv * 2 + bn gv < 2 ^ (hi + 1 - 0) :=
    lt_of_lt_of_le (b := 2 ^ 3) (by omega) (Nat.pow_le_pow_right (by omega) (by omega))
  have hz : bn fv * 4 + bn wv * 2 + bn gv = (bn fv * 4 + bn wv * 2 + bn gv) * 2 ^ 0 + 0 := by omega
  rw [playWord_toNat, onlyBits_top (by omega) (by omega), onlyBits_top (by omega) (by omega), onlyBits_top (by omega) (by omega),
    onlyBits_top (by omega) (by omega), hz, onlyBits_top h3 (by omega)]
  rfl

theorem stopWord_fields : qf (stopWord f ch fv) 55 46 = f.toNat ∧ qf (stopWord f ch fv) 45 40 = ch.toNat ∧
    qf (stopWord f ch fv) 39 8 = 0 ∧ qf (stopWord f ch fv) 1 0 = 0 ∧ qf (stopWord f ch fv) 39 24 = 0 ∧
    qf (stopWord f ch fv) 23 8 = 0 := by
  have := f.isLt; have := ch.isLt; have := bn_lt fv
  unfold qf bits
  simp only [stopWord_toNat, Nat.shiftRight_eq_div_pow]
  refine ⟨?_, ?_, ?_, ?_, ?_, ?_⟩ <;> omega

theorem stopWord_flags : qflag (stopWord f ch fv) 3 = true ∧ qflag (stopWord f ch fv) 2 = fv ∧
    qflag (stopWord f ch fv) 1 = false ∧ qflag (stopWord f ch fv) 0 = false := by
  have := f.isLt; have := ch.isLt; have := bn_lt fv
  have h0 : bn false = 0 := rfl
  have h1 : bn true = 1 := rfl
  unfold qflag
  rw [stopWord_toNat]
  refine ⟨bitOf_bn ?_, bitOf_bn ?_, bitOf_bn ?_, bitOf_bn ?_⟩ <;> omega

theorem stopWord_onlyBits :
    onlyBits (stopWord f ch fv).toNat [(55, 46), (45, 40), (39, 24), (23, 8), (3, 0)] = true := by
  have := f.isLt; have := ch.isLt; have := bn_lt fv
  have h : (stopWord f ch fv).toNat = f.toNat * 2 ^ 46 + (ch.toNat * 2 ^ 40 + (0 * 2 ^ 24 + (0 * 2 ^ 8 +
      ((8 + bn fv * 4) * 2 ^ 0 + 0)))) := by rw [stopWord_toNat]; omega
  rw [h, onlyBits_top (by omega) (by omega), onlyBits_top (by omega) (by omega), onlyBits_top (by omega) (by omega),
    onlyBits_top (by omega) (by omega), onlyBits_top (by omega) (by omega)]
  rfl

end

section
variable (f : BitVec 10) (a : BitVec 6) (imm : Word) (fv iv : Bool)

theorem setWord_fields : qf (setWord f a imm fv iv) 55 46 = f.toNat ∧ qf (setWord f a imm fv iv) 45 40 = a.toNat ∧
    qf (setWord f a imm fv iv) 39 8 = imm.toNat := by
  have := f.isLt; have := a.isLt; have := imm.isLt; have := bn_lt fv; have := bn_lt iv
  unfold qf bits
  simp only [setWord_toNat, Nat.shiftRight_eq_div_pow]
  refine ⟨?_, ?_, ?_⟩ <;> omega

theorem setWord_flags : qflag (setWord f a imm fv iv) 2 = fv ∧ qflag (setWord f a imm fv iv) 0 = iv := by
  have := f.isLt; have := a.isLt; have := imm.isLt; have := bn_lt fv; have := bn_lt iv
  unfold qflag
  rw [setWord_toNat]
  refine ⟨bitOf_bn ?_, bitOf_bn ?_⟩ <;> omega

theorem setWord_onlyBits :
    onlyBits (setWord f a imm fv iv).toNat [(55, 46), (45, 40), (39, 8), (2, 2), (0, 0)] = true := by
  have := f.isLt; have := a.isLt; have := imm.isLt; have := bn_lt fv; have := bn_lt iv
  have h : (setWord f a imm fv iv).toNat = f.toNat * 2 ^ 46 + (a.toNat * 2 ^ 40 + (imm.toNat * 2 ^ 8 + (bn fv * 2 ^ 2 +
      (bn iv * 2 ^ 0 + 0)))) := by rw [setWord_toNat]; omega
  rw [h, onlyBits_top (by omega) (by omega), onlyBits_top (by omega) (by omega), onlyBits_top (by omega) (by omega),
    onlyBits_top (by omega) (by omega), onlyBits_top (by omega) (by omega)]
  rfl

end

end Sys2Proof.Machine

namespace Sys2Proof.Machine

/-! Pulses and frame writes as they are issued (03 R80, R86; 04 R127, R128; 05 R177, R180). -/

/-- The value of an operand that its flag takes from a register, modulo 2^n. -/
def State.operand (s : State) (c : Nat) (flag : Bool) (field n : Nat) : Nat :=
  if flag then (s.vr c field).toNat % 2 ^ n else field

theorem qsrc_operand {s : State} {c field n : Nat} {flag : Bool} (h : flag = true → field < 64) :
    s.qsrc c flag field n = some (s.operand c flag field n) := by
  unfold State.qsrc State.operand
  cases flag with
  | false => rfl
  | true => simp [h rfl]

theorem operand_fetch (s : State) (c : Nat) (flag : Bool) (field n : Nat) :
    (s.fetch c).operand c flag field n = s.operand c flag field n := by
  unfold State.operand
  rw [vr_fetch]

/-- The resources that a pulse names, as a partition's core finds them. -/
structure State.PulseFits (s : State) (c p f ch obj : Nat) (o : Obj) : Prop where
  frame : s.frameOwn f = some p
  channel : s.ochUsable p ch = true
  image : s.objUsable p obj = true
  loaded : s.obj obj = some o
  whole : o.damaged = false
  kept : s.bit (OCH_STAT ch) 3 = false
  fits : s.laneFits ch ((s.qtz c).tl / 32 - 2) (o.maxlen.map fun m => rsvEnd (s.qtz c).tl m o.ratio) = true

theorem issuePulse_eq {s : State} {c p f ch obj : Nat} {o : Obj} (h : s.mayIssue c p 1) (hf : s.PulseFits c p f ch obj o)
    (w : BitVec 64) (op g : Nat) (cw : Bool) : ∃ j, (s.fetch c).issuePulse c p w op f ch obj g cw =
      ((s.readied c).startPulse c p f obj ch (BitVec.ofNat 16 g) cw j).qnext c := by
  have hm := mayIssue_fetch h
  have h1 : (s.fetch c).frameOwn f = some p := by rw [fetch_cores]; exact hf.frame
  have h2 : (s.fetch c).ochUsable p ch = true := by rw [fetch_cores]; exact hf.channel
  have h3 : (s.fetch c).objUsable p obj = true := by rw [fetch_cores]; exact hf.image
  refine ⟨qw op (f <<< 46 ||| ch <<< 40 ||| obj <<< 24 ||| g <<< 8), ?_⟩
  unfold State.issuePulse
  rw [timed_mayIssue hm, refStall_mayIssue hm, if_neg (not_not.2 h1), if_neg (by simp [h2]), if_neg (by simp [h3]),
    entries_fetch h]
  rfl

theorem qtzReg_ne_ochStat {s t : State} {c ch : Nat} (h : RegsBut s t [QTZ_STAT c, QTZ_LATECNT c, QTZ_SLACKMIN c]) :
    t.reg (OCH_STAT ch) = s.reg (OCH_STAT ch) := by
  refine h _ ?_
  simp only [List.mem_cons, List.not_mem_nil, or_false, OCH_STAT, QTZ_STAT, QTZ_LATECNT, QTZ_SLACKMIN]
  omega

theorem readied_tl (s : State) (c : Nat) : ((s.readied c).qtz c).tl = (s.qtz c).tl := by
  rw [(readied_readied s c).core]
  exact fetched_tl _

theorem laneFits_congr {s t : State} {ch : Nat} (hf : t.fab = s.fab) (hr : t.reg (OCH_STAT ch) = s.reg (OCH_STAT ch)) (a : Nat)
    (b : Option Nat) : t.laneFits ch a b = s.laneFits ch a b := by
  unfold State.laneFits State.lanesAt
  rw [hf, fld_ne _ _ _ _ hr]

/-- What a pulse-start event leaves behind (05 R177, R180). -/
def PulseIssued (s t : State) (c p f ch obj : Nat) (g : BitVec 16) (cw : Bool) (o : Obj) : Prop :=
  Issued s t c p (.play f obj ch g cw) ∧ t.fab.wins = s.fab.wins ∧ t.issued = s.issued ∧ t.slots = s.slots ∧
    t.graphs = s.graphs ∧
    ∃ u, t.fab.pulses = s.fab.pulses ++ [u] ∧ u.id = s.fab.nextId ∧ u.part = p ∧ u.ch = ch ∧ u.frame = f ∧ u.obj = obj ∧
      u.gain = g ∧ u.start = (s.qtz c).tl ∧ u.rsvFrom = (s.qtz c).tl / 32 - 2 ∧
      u.rsvTo = (o.maxlen.map fun m => rsvEnd (s.qtz c).tl m o.ratio) ∧ u.cw = cw

theorem startPulse_issued {s : State} {c p f ch obj : Nat} {o : Obj} (hf : s.PulseFits c p f ch obj o)
    (g : BitVec 16) {cw : Bool} (hcw : o.forever = cw) (hm : cw = true → (s.part p).mode ≠ .shot) (j : BitVec 64) :
    PulseIssued s (((s.readied c).startPulse c p f obj ch g cw j).qnext c) c p f ch obj g cw o := by
  have hr := readied_readied s c
  have hfab : (s.readied c).fab = s.fab := by rw [hr.frame]
  have hreg := qtzReg_ne_ochStat hr.regs (ch := ch)
  have htl := readied_tl s c
  have hobj : (s.readied c).obj obj = some o := by rw [hr.frame]; exact hf.loaded
  have hmode : cw = true → ((s.readied c).part p).mode ≠ .shot := fun h => by rw [hr.frame]; exact hm h
  have hbit : (s.readied c).bit (OCH_STAT ch) 3 = false := by rw [bit_ne _ _ _ hreg]; exact hf.kept
  have hfit : (s.readied c).laneFits ch (((s.readied c).qtz c).tl / 32 - 2)
      (o.maxlen.map fun m => rsvEnd ((s.readied c).qtz c).tl m o.ratio) = true := by
    rw [htl, laneFits_congr hfab hreg]
    exact hf.fits
  obtain ⟨hw, hb⟩ := startPulse_issue (s.readied c) c p f obj ch g cw j o hobj hcw hmode hf.whole hbit hfit
  have hi : ((s.readied c).startPulse c p f obj ch g cw j).issued = s.issued ∧
      ((s.readied c).startPulse c p f obj ch g cw j).slots = s.slots ∧
      ((s.readied c).startPulse c p f obj ch g cw j).graphs = s.graphs := by
    rw [hw.1, hr.frame]
    exact ⟨rfl, rfl, rfl⟩
  generalize (s.readied c).startPulse c p f obj ch g cw j = b at hw hb hi
  refine ⟨issued_of_accepted hr hw ⟨_, by rw [hb]⟩ (by rw [hb]) rfl, ?_, hi.1, hi.2.1, hi.2.2,
    (s.readied c).newPulse c p f obj ch g cw o, ?_, ?_, rfl, rfl, rfl, rfl, rfl, htl, ?_, ?_, rfl⟩
  · show b.fab.wins = _
    rw [hb, hfab]
  · show b.fab.pulses = _
    rw [hb, hfab]
  · exact congrArg Fab.nextId hfab
  · show ((s.readied c).qtz c).tl / 32 - 2 = _
    rw [htl]
  · show (o.maxlen.map fun m => rsvEnd ((s.readied c).qtz c).tl m o.ratio) = _
    rw [htl]

theorem answers_of_next {c : Instr} {s t : State} {P : State → Prop} (h : exec c s = answer s t) (hp : t.pending = s.pending)
    (hv : t.variant = s.variant) (hs : t.serial = s.serial) (hf : t.flash = s.flash) (ht : P t) : Answers c s P :=
  ⟨t, h.trans (answer_next s t hp hv hs hf), ht⟩

theorem answers_of_issued {i : Instr} {s t : State} {c p : Nat} {k : EvKind} {P : State → Prop} (h : exec i s = answer s t)
    (ht : Issued s t c p k) (hp : P t) : Answers i s P := by
  obtain ⟨-, -, -, -, -, -, hfr⟩ := ht
  refine answers_of_next h ?_ ?_ ?_ ?_ hp <;> rw [hfr]

theorem exec_of_executes {i : Instr} {s : State} {c p : Nat} {f : State → Nat → State} (he : s.executes c p)
    (h : exec i s = answer s (s.qtz1 c f)) : exec i s = answer s (f (s.fetch c) p) := by
  rw [h, qtz1_of he]

section
variable {s : State} {c : Fin 16} {p : Nat} {f : BitVec 10} {ch : BitVec 6} {obj g : BitVec 16} {fv wv gv : Bool}
  (h : s.mayIssue c.val p 1) (hf : fv = true → f.toNat < 64) (hw : wv = true → obj.toNat < 64) (hg : gv = true → g.toNat < 64)
include h hf hw hg

theorem doPlay_eq : (s.fetch c.val).doPlay c.val p (playWord f ch obj g fv wv gv) =
    (s.fetch c.val).issuePulse c.val p (qword 8 (playWord f ch obj g fv wv gv)) 8 (s.operand c.val fv f.toNat 10) ch.toNat
      (s.operand c.val wv obj.toNat 16) (s.operand c.val gv g.toNat 16) false := by
  obtain ⟨f1, f2, f3, f4⟩ := playWord_fields f ch obj g fv wv gv
  obtain ⟨-, b2, b1, b0⟩ := playWord_flags f ch obj g fv wv gv
  unfold State.doPlay
  rw [f1, f2, f3, f4, b2, b1, b0, qsrc_operand hf, qsrc_operand hw, qsrc_operand hg]
  dsimp only
  rw [playWord_onlyBits _ _ _ _ _ _ _ (le_refl 2), State.legal, if_pos rfl, inShotOnly_mayIssue (mayIssue_fetch h)]
  simp only [operand_fetch]

theorem doPlaycw_eq : (s.fetch c.val).doPlaycw c.val p (playWord f ch obj g fv wv gv) =
    (s.fetch c.val).issuePulse c.val p (qword 9 (playWord f ch obj g fv wv gv)) 9 (s.operand c.val fv f.toNat 10) ch.toNat
      (s.operand c.val wv obj.toNat 16) (s.operand c.val gv g.toNat 16) true := by
  obtain ⟨f1, f2, f3, f4⟩ := playWord_fields f ch obj g fv wv gv
  obtain ⟨b3, b2, b1, b0⟩ := playWord_flags f ch obj g fv wv gv
  unfold State.doPlaycw
  rw [f1, f2, f3, f4, b3, b2, b1, b0, qsrc_operand hf, qsrc_operand hw, qsrc_operand hg]
  dsimp only
  rw [playWord_onlyBits _ _ _ _ _ _ _ (by omega : 2 ≤ 3), State.legal, if_pos (by simp),
    inShotOnly_mayIssue (mayIssue_fetch h)]
  simp only [operand_fetch, Bool.false_eq_true, if_false]

end

/-- The gain operand of a pulse, as the event holds it. -/
theorem operand_gain (s : State) (c : Nat) (gv : Bool) (g : BitVec 16) :
    BitVec.ofNat 16 (s.operand c gv g.toNat 16) = if gv then (s.vr c g.toNat).setWidth 16 else g := by
  unfold State.operand
  split
  · apply BitVec.eq_of_toNat_eq
    simp
  · simp

/-! The stop form of PLAYCW. -/

theorem doPlaycw_stop_eq {s : State} {c : Fin 16} {p : Nat} {f : BitVec 10} {fv : Bool} (ch : BitVec 6)
    (h : s.mayIssue c.val p 1) (hf : fv = true → f.toNat < 64) : (s.fetch c.val).doPlaycw c.val p (stopWord f ch fv) =
    (s.fetch c.val).issueStop c.val p (qword 9 (stopWord f ch fv)) (s.operand c.val fv f.toNat 10) ch.toNat := by
  obtain ⟨f1, f2, f3, f4, f5, f6⟩ := stopWord_fields f ch fv
  obtain ⟨b3, b2, b1, b0⟩ := stopWord_flags f ch fv
  have hn : ∀ n, (s.fetch c.val).qsrc c.val false 0 n = some 0 := fun _ => rfl
  unfold State.doPlaycw
  rw [f1, f2, f3, f4, f5, f6, b3, b2, b1, b0, qsrc_operand hf, hn]
  dsimp only
  rw [stopWord_onlyBits, State.legal, if_pos (by simp), inShotOnly_mayIssue (mayIssue_fetch h), operand_fetch, if_pos rfl]

/-- The state at which core `c` has accepted event `k`. -/
def State.accepted (s : State) (c p : Nat) (k : EvKind) (w : BitVec 64) (o : BitVec 48) : State :=
  (s.readied c).acceptEvent c p k w o

theorem issueStop_eq {s : State} {c p f ch : Nat} (h : s.mayIssue c p 1) (hm : (s.part p).mode = .stream)
    (hf : s.frameOwn f = some p) (hc : s.ochUsable p ch = true) (w : BitVec 64) : ∃ j, (s.fetch c).issueStop c p w f ch =
      ((s.accepted c p (.stop f ch) j 0#48).cutTones p f ch (s.qtz c).tl).qnext c := by
  have hi := mayIssue_fetch h
  have h1 : (s.fetch c).frameOwn f = some p := by rw [fetch_cores]; exact hf
  have h2 : (s.fetch c).ochUsable p ch = true := by rw [fetch_cores]; exact hc
  have h3 : ((s.fetch c).part p).mode = .stream := by rw [fetch_cores]; exact hm
  refine ⟨qw 9 (f <<< 46 ||| ch <<< 40 ||| 8), ?_⟩
  unfold State.issueStop
  rw [timed_mayIssue hi, refStall_mayIssue hi, if_neg (not_not.2 h1), if_neg (by simp [h2]), if_neg (by simp [h3]),
    entries_fetch h]
  dsimp only
  rw [tl_granted]
  rfl

/-- From `s` to `b` core `c` has accepted event `k` at its cursor, and no more. -/
structure EventAccepted (s b : State) (c p : Nat) (k : EvKind) : Prop where
  work : IssueWork (s.readied c) b c p
  event : ∃ l, b.fab.events = (s.readied c).fab.events ++
    [{ (s.readied c).cursorEvent c p k with id := (s.readied c).fab.nextId, lender := l }]
  next : b.fab.nextId = (s.readied c).fab.nextId + 1
  issued : b.issued = s.issued
  slots : b.slots = s.slots
  graphs : b.graphs = s.graphs
  geo : b.geo = s.geo
  pulses : b.fab.pulses = s.fab.pulses
  wins : b.fab.wins = s.fab.wins

theorem accepted_accepted (s : State) (c p : Nat) (k : EvKind) (w : BitVec 64) (o : BitVec 48) :
    EventAccepted s (s.accepted c p k w o) c p k := by
  obtain ⟨hw, hg, hb⟩ := acceptEvent_issue (s.readied c) c p k w o
  have hr := (readied_readied s c).frame
  unfold State.accepted
  refine ⟨hw, ⟨_, by rw [hb]⟩, by rw [hb], ?_, ?_, ?_, ?_, ?_, ?_⟩
  · rw [hw.1, hr]
  · rw [hw.1, hr]
  · rw [hw.1, hr]
  · rw [hg, hr]
  · rw [hb, hr]
  · rw [hb, hr]

theorem cutTones_issue (s : State) (q p f ch inst : Nat) : IssueWork s (s.cutTones p f ch inst) q p :=
  ⟨rfl, rfl, rfl, fun _ _ => rfl, fun _ => rfl⟩

/-! Frame writes. -/

/-- The value of a frame write: the immediate or a pair of registers. -/
def State.setValue (s : State) (c : Nat) (iv : Bool) (imm : Word) (a : Nat) : BitVec 48 :=
  if iv then imm ++ 0#16 else s.vpair c a

theorem setValue_eq (s : State) (c : Nat) (iv : Bool) (imm : Word) (a : Nat) :
    (if iv then BitVec.ofNat 48 (imm.toNat * 65536) else (s.granted c).vpair c a) = s.setValue c iv imm a := by
  unfold State.setValue
  rw [vpair_granted]
  split
  · apply BitVec.eq_of_toNat_eq
    have := imm.isLt
    simp only [append_nat, BitVec.toNat_ofNat]
    omega
  · rfl

theorem doSet_eq {s : State} {c : Fin 16} {p op : Nat} {f : BitVec 10} {a : BitVec 6} {imm : Word} {fv iv : Bool}
    (h : s.mayIssue c.val p 1) (hf : fv = true → f.toNat < 64) (ha : iv = false → a.toNat % 2 = 0)
    (ho : s.frameOwn (s.operand c.val fv f.toNat 10) = some p)
    (ht : op = 0x0C → s.freqTarget (s.operand c.val fv f.toNat 10) = false) :
    ∃ j, (s.fetch c.val).doSet c.val p op (setWord f a imm fv iv) =
      let F := s.operand c.val fv f.toNat 10
      let v := s.setValue c.val iv imm a.toNat
      ((s.accepted c.val p (setKind op F v) j v).setIssued F ((s.frameIssued F).set op v)).qnext c.val := by
  obtain ⟨f1, f2, f3⟩ := setWord_fields f a imm fv iv
  obtain ⟨b2, b0⟩ := setWord_flags f a imm fv iv
  have hi := mayIssue_fetch h
  generalize hF : s.operand c.val fv f.toNat 10 = F at ho ht ⊢
  have h1 : (s.fetch c.val).frameOwn F = some p := by rw [fetch_cores]; exact ho
  have h2 : ((op == 0x0C) && (s.fetch c.val).freqTarget F) = false := by
    by_cases hop : op = 0x0C
    · have h3 : (s.fetch c.val).freqTarget F = false := by rw [fetch_cores]; exact ht hop
      simp [h3]
    · simp [hop]
  have h4 : (iv || a.toNat % 2 == 0) = true := by
    cases iv with
    | true => rfl
    | false => simp [ha rfl]
  have h6 : ∀ j v, ((s.accepted c.val p (setKind op F v) j v).frameIssued F) = s.frameIssued F := fun j v => by
    unfold State.frameIssued
    rw [(accepted_accepted s c.val p (setKind op F v) j v).issued]
  refine ⟨qw op (F <<< 46 ||| setBits (setBits (setWord f a imm fv iv).toNat 55 46 0) 2 2 0), ?_⟩
  unfold State.doSet
  rw [f1, f2, f3, b2, b0, qsrc_operand hf, operand_fetch, hF]
  dsimp only
  rw [setWord_onlyBits, h4, Bool.and_true, State.legal, if_pos rfl, inShotOnly_mayIssue hi, timed_mayIssue hi,
    refStall_mayIssue hi, h2, if_neg (by simp [h1]), entries_fetch h, setValue_eq, ← h6]
  rfl

/-- What a stop leaves behind (03 R86). -/
theorem stop_issued {s b : State} {c p f ch : Nat} (h : EventAccepted s b c p (.stop f ch)) :
    let t := (b.cutTones p f ch (s.qtz c).tl).qnext c
    Issued s t c p (.stop f ch) ∧ t.fab.wins = s.fab.wins ∧ t.issued = s.issued ∧ t.geo = s.geo ∧
      t.slots = s.slots ∧ t.graphs = s.graphs ∧
      ∃ e : Pulse → Nat, t.fab.pulses = s.fab.pulses.map fun u =>
        if u.part = p ∧ u.frame = f ∧ u.ch = ch ∧ u.isOpen = true ∧ u.start < (s.qtz c).tl
        then { u with rsvTo := some (e u) } else u := by
  refine ⟨issued_of_accepted (readied_readied s c) (h.work.trans (cutTones_issue ..)) h.event h.next rfl, h.wins, h.issued,
    h.geo, h.slots, h.graphs, b.toneEnd (s.qtz c).tl, ?_⟩
  show List.map _ b.fab.pulses = _
  rw [h.pulses]
  refine List.map_congr_left fun u _ => ?_
  simp only [stopHits, Bool.and_eq_true, beq_iff_eq, decide_eq_true_eq, and_assoc]

/-- What a frame write leaves behind (02 R66, R67). -/
def FrameIssued (s t : State) (c p F : Nat) (k : EvKind) (x : Frame) : Prop :=
  Issued s t c p k ∧ t.fab.pulses = s.fab.pulses ∧ t.fab.wins = s.fab.wins ∧ t.geo = s.geo ∧
    t.slots = s.slots ∧ t.graphs = s.graphs ∧ t.frameIssued F = x ∧ ∀ g, g ≠ F → t.frameIssued g = s.frameIssued g

theorem set_issued {s b : State} {c p : Nat} {k : EvKind} (h : EventAccepted s b c p k) (F : Nat) (x : Frame) :
    FrameIssued s ((b.setIssued F x).qnext c) c p F k x := by
  refine ⟨issued_of_accepted (readied_readied s c) h.work h.event h.next rfl, h.pulses, h.wins, h.geo, h.slots, h.graphs,
    frameIssued_setIssued .., fun g hn => ?_⟩
  have hg : (b.setIssued F x).frameIssued g = s.frameIssued g := by
    rw [frameIssued_setIssued_ne _ _ hn]
    unfold State.frameIssued
    rw [h.issued]
  exact hg

theorem answers_doSet {s : State} {i : Instr} {c : Fin 16} {p op : Nat} {f : BitVec 10} {a : BitVec 6} {imm : Word}
    {fv iv : Bool} (hi : exec i s = answer s (s.qtz1 c.val fun s p => s.doSet c.val p op (setWord f a imm fv iv)))
    (he : s.executes c.val p) (h : s.mayIssue c.val p 1) (hf : fv = true → f.toNat < 64) (ha : iv = false → a.toNat % 2 = 0)
    {F : Nat} {v : BitVec 48} (hF : s.operand c.val fv f.toNat 10 = F) (hv : s.setValue c.val iv imm a.toNat = v)
    (ho : s.frameOwn F = some p) (ht : op = 0x0C → s.freqTarget F = false) :
    Answers i s fun t => FrameIssued s t c.val p F (setKind op F v) ((s.frameIssued F).set op v) := by
  subst hF hv
  obtain ⟨j, hj⟩ := doSet_eq (imm := imm) h hf ha ho ht
  have hx := exec_of_executes he hi
  rw [hj] at hx
  have hs := set_issued (accepted_accepted s c.val p (setKind op (s.operand c.val fv f.toNat 10)
    (s.setValue c.val iv imm a.toNat)) j (s.setValue c.val iv imm a.toNat)) (s.operand c.val fv f.toNat 10)
    ((s.frameIssued (s.operand c.val fv f.toNat 10)).set op (s.setValue c.val iv imm a.toNat))
  exact answers_of_issued hx hs.1 hs

theorem answers_play {s : State} {c : Fin 16} {p : Nat} {f : BitVec 10} {ch : BitVec 6} {obj g : BitVec 16} {fv wv gv : Bool}
    {o : Obj} (he : s.executes c.val p) (h : s.mayIssue c.val p 1) (hf : fv = true → f.toNat < 64)
    (hw : wv = true → obj.toNat < 64) (hg : gv = true → g.toNat < 64)
    (hfit : s.PulseFits c.val p (s.operand c.val fv f.toNat 10) ch.toNat (s.operand c.val wv obj.toNat 16) o) :
    let plays := fun (i : Instr) (cw : Bool) => Answers i s fun t => PulseIssued s t c.val p (s.operand c.val fv f.toNat 10) ch.toNat
      (s.operand c.val wv obj.toNat 16) (BitVec.ofNat 16 (s.operand c.val gv g.toNat 16)) cw o
    (o.forever = false → plays (.play c (playWord f ch obj g fv wv gv)) false) ∧
    (o.forever = true → (s.part p).mode = .stream → plays (.playcw c (playWord f ch obj g fv wv gv)) true) := by
  intro plays
  have issues : ∀ (i : Instr) (d : State → Nat → State) (w : BitVec 64) (op : Nat) (cw : Bool), o.forever = cw →
      (cw = true → (s.part p).mode ≠ .shot) → exec i s = answer s (s.qtz1 c.val d) →
      d (s.fetch c.val) p = (s.fetch c.val).issuePulse c.val p w op (s.operand c.val fv f.toNat 10) ch.toNat
        (s.operand c.val wv obj.toNat 16) (s.operand c.val gv g.toNat 16) cw → plays i cw := by
    intro i d w op cw hcw hm hi hd
    obtain ⟨j, hj⟩ := issuePulse_eq h hfit w op (s.operand c.val gv g.toNat 16) cw
    have hx := exec_of_executes he hi
    rw [hd, hj] at hx
    have hp := startPulse_issued hfit (BitVec.ofNat 16 (s.operand c.val gv g.toNat 16)) hcw hm j
    exact answers_of_issued hx hp.1 hp
  refine ⟨fun ho => ?_, fun ho hm => ?_⟩
  · exact issues _ _ _ _ _ ho (by simp) rfl (doPlay_eq h hf hw hg)
  · exact issues _ _ _ _ _ ho (by simp [hm]) rfl (doPlaycw_eq h hf hw hg)

theorem exec_playcwStop {s : State} {c : Fin 16} {p : Nat} {f : BitVec 10} {ch : BitVec 6} {fv : Bool}
    (he : s.executes c.val p) (h : s.mayIssue c.val p 1) (hf : fv = true → f.toNat < 64) (hm : (s.part p).mode = .stream)
    {F : Nat} (hF : s.operand c.val fv f.toNat 10 = F) (ho : s.frameOwn F = some p) (hc : s.ochUsable p ch.toNat = true) :
    ∃ j, exec (.playcwStop c (stopWord f ch fv)) s = answer s
      (((s.accepted c.val p (.stop F ch.toNat) j 0#48).cutTones p F ch.toNat (s.qtz c.val).tl).qnext c.val) := by
  obtain ⟨j, hj⟩ := issueStop_eq h hm ho hc (qword 9 (stopWord f ch fv))
  refine ⟨j, ?_⟩
  have hx := exec_of_executes (i := .playcwStop c (stopWord f ch fv)) he rfl
  rw [doPlaycw_stop_eq ch h hf, hF, hj] at hx
  exact hx

/-- Settles O11: each instruction decodes to one issue, and an issue is one accepted event. -/
theorem quartzPulsesAndFrames : Obligations.QuartzPulsesAndFrames := by
  refine ⟨?_, ?_, ?_⟩
  · intro s c p f ch obj g fv wv gv o he h hf hw hg w F O G tl last h1 h2 h3 h4 h5 h6 h7
    have hF : s.operand c.val fv f.toNat 10 = F := rfl
    have hO : s.operand c.val wv obj.toNat 16 = O := rfl
    have hG : BitVec.ofNat 16 (s.operand c.val gv g.toNat 16) = G := operand_gain ..
    clear_value F O G
    have hfit : s.PulseFits c.val p F ch.toNat O o := ⟨h1, h2, h3, h4, h5, h6, h7⟩
    rw [← hF, ← hO] at hfit
    have := answers_play he h hf hw hg hfit
    rw [hF, hO, hG] at this
    exact this
  · intro s c p f ch fv he h hf hm w F ho hc
    have hF : s.operand c.val fv f.toNat 10 = F := rfl
    clear_value F
    obtain ⟨j, hj⟩ := exec_playcwStop he h hf hm hF ho hc
    obtain ⟨hi, hrest⟩ := stop_issued (accepted_accepted s c.val p (.stop F ch.toNat) j 0#48)
    exact answers_of_issued hj hi ⟨hi, hrest⟩
  · intro s c p f a imm fv iv he h hf ha w F v ho writes x
    have hF : s.operand c.val fv f.toNat 10 = F := rfl
    have hv : s.setValue c.val iv imm a.toNat = v := rfl
    clear_value F v
    refine ⟨fun ht => ?_, ?_, ?_⟩
    · exact answers_doSet (op := 0x0C) rfl he h hf ha hF hv ho fun _ => ht
    · exact answers_doSet (op := 0x0D) rfl he h hf ha hF hv ho (by simp)
    · exact answers_doSet (op := 0x0E) rfl he h hf ha hF hv ho (by simp)

end Sys2Proof.Machine

namespace Sys2Proof.Machine

/-! The loss of the reference and its return (02 R51). -/

/-- From `s` to `t`, what the loss of the reference does besides its mutes: TIME_STAT and the output channels' status stay,
and partitions take records only. -/
structure LossWork (s t : State) : Prop where
  variant : t.variant = s.variant
  time : t.time = { s.time with gainAt := t.time.gainAt }
  cores : t.cores = s.cores
  frames : t.frames = s.frames
  slots : t.slots = s.slots
  part : ∀ q, (s.part q).Kept (t.part q)
  stat : t.reg TIME_STAT = s.reg TIME_STAT
  och : ∀ n < 64, t.reg (OCH_STAT n) = s.reg (OCH_STAT n)

namespace LossWork

theorem refl (s : State) : LossWork s s := ⟨rfl, rfl, rfl, rfl, rfl, fun _ => .refl _, rfl, fun _ _ => rfl⟩

theorem trans {a b c : State} (h1 : LossWork a b) (h2 : LossWork b c) : LossWork a c := by
  refine ⟨h2.variant.trans h1.variant, ?_, h2.cores.trans h1.cores, h2.frames.trans h1.frames, h2.slots.trans h1.slots,
    fun q => (h1.part q).trans (h2.part q), h2.stat.trans h1.stat, fun n hn => (h2.och n hn).trans (h1.och n hn)⟩
  rw [h2.time, h1.time]

theorem now {s t : State} (h : LossWork s t) : t.now = s.now := by
  unfold State.now
  rw [h.time]

/-- Work that changes registers only, besides what no clause speaks of. -/
theorem of_regs {s t : State} (frame : t = { s with
      regs := t.regs, cal := t.cal, hk := t.hk, irq := t.irq, ev := t.ev, biases := t.biases, mode := t.mode
      time := { s.time with gainAt := t.time.gainAt } })
    (stat : t.reg TIME_STAT = s.reg TIME_STAT) (och : ∀ n < 64, t.reg (OCH_STAT n) = s.reg (OCH_STAT n)) : LossWork s t := by
  refine ⟨?_, ?_, ?_, ?_, ?_, fun q => ?_, stat, och⟩
  case refine_6 =>
    rw [frame]
    exact .refl _
  all_goals rw [frame]

theorem setFld (s : State) (a hi lo v : Nat) (h1 : a ≠ TIME_STAT) (h2 : a < 0x80000 ∨ 0x84000 ≤ a) :
    LossWork s (s.setFld a hi lo v) :=
  of_regs rfl (reg_setFld_ne _ _ _ _ (Ne.symm h1)) fun n hn => reg_setFld_ne _ _ _ _ (by unfold OCH_STAT; omega)

theorem of_captured {s t : State} (h : Captured s t) : LossWork s t := by
  refine ⟨?_, ?_, ?_, ?_, ?_, h.part, h.regs _ (by decide), fun n hn => h.regs _ (by unfold OCH_STAT; omega)⟩ <;> rw [h.frame]

theorem of_noted {s t : State} {p : Nat} (h : Noted s t p) : LossWork s t := by
  refine ⟨?_, ?_, ?_, ?_, ?_, h.part, h.reg_low (by decide), fun n hn => h.reg_low (by unfold OCH_STAT; omega)⟩ <;> rw [h.frame]

theorem of_queued {s t : State} (h : Queued s t) : LossWork s t := of_captured h.captured

end LossWork

theorem stopBurst_captured (s : State) (k : Nat) : Captured s (s.stopBurst k) := by
  have begins := beginBurst_captured s k
  unfold State.stopBurst
  generalize s.beginBurst k = a at begins ⊢
  have ends : ∀ b : State, Captured b (b.reserve k) := fun b => by
    unfold State.reserve
    split
    · exact .refl b
    · split
      · exact .refl b
      · exact updReq_captured ..
  dsimp only
  split
  · exact begins
  · split
    · exact begins
    · refine begins.trans (Captured.trans ?_ ((stopped_captured ..).trans (ends _)))
      exact (updRing_captured ..).trans (updReq_captured ..)

theorem biasRestore_loss (s : State) : LossWork s s.biasRestore := by
  rw [biasRestore_eq]
  refine forEach_rel_mem .refl (fun _ _ _ => .trans) (fun t n hn => ?_) s
  have h := (biasReturn_work t n).1
  have hn : n < 128 := by
    have := nOch_le s
    have := List.mem_range.1 hn
    unfold State.nBias at this
    omega
  refine .of_regs ?_ (h.regs _ ?_) fun m hm => h.regs _ ?_
  · rw [h.frame]
  · simp only [List.mem_singleton, TIME_STAT, BIAS_STAT]
    omega
  · simp only [List.mem_singleton, OCH_STAT, BIAS_STAT]
    omega

theorem applyGains_loss (s : State) : LossWork s s.applyGains := by
  unfold State.applyGains
  refine LossWork.trans (b := s.updTime fun t => { t with gainAt := some s.now }) (.of_regs rfl rfl fun _ _ => rfl) ?_
  refine forEach_rel_mem .refl (fun _ _ _ => .trans) (fun t m _ => ?_) _
  exact .setFld _ _ _ _ _ (by unfold ICH_STAT TIME_STAT; omega) (.inr (by unfold ICH_STAT; omega))

theorem calFail_loss (s : State) (code : Nat) : LossWork s (s.calFail code) := by
  unfold State.calFail
  split
  · exact .refl s
  · extract_lets a
    have h1 : LossWork s a := .of_regs rfl rfl fun _ _ => rfl
    have h2 : LossWork a (a.setFld CAL_STAT 2 0 4) := .setFld _ _ _ _ _ (by decide) (by decide)
    have h3 : ∀ b : State, LossWork b (b.setFld CAL_STAT 15 8 code) := fun b => .setFld _ _ _ _ _ (by decide) (by decide)
    have h4 : ∀ b : State, LossWork b b.hkRelease := fun b =>
      LossWork.trans (.setFld b HK_STAT 2 2 _ (by decide) (by decide)) (.of_regs rfl rfl fun _ _ => rfl)
    have h5 : ∀ b : State, LossWork b b.leaveControl := fun b =>
      ((biasRestore_loss b).trans (applyGains_loss _)).trans (.of_regs rfl rfl fun _ _ => rfl)
    have h6 : ∀ b : State, LossWork b (b.irqEvent 8 2) := fun b => by
      rw [irqEvent_frame]
      exact .of_regs rfl rfl fun _ _ => rfl
    exact h1.trans (h2.trans ((h3 _).trans ((h4 _).trans ((h5 _).trans (h6 _)))))

/-- The pass of the loss of the reference over partition `p`. -/
def State.refTaint (s : State) (p : Nat) : State :=
  let t := s.cause p 3 0xFF (resource 0 0) 0 0#64
  if (s.part p).mode == .shot && (s.part p).attempt.active then
    t.queueRec p (errorRec 9 3 1 (t.jobNum p) 0#64 t.now 0 (t.regN TIME_STAT))
  else t

theorem refTaint_loss (s : State) (p : Nat) : LossWork s (s.refTaint p) := by
  unfold State.refTaint
  dsimp only
  split
  · exact (LossWork.of_noted (cause_noted ..)).trans (.of_queued (queueRec_queued ..))
  · exact .of_noted (cause_noted ..)

/-- Partition `p` shows the loss at tick `n`, if it has an attempt in progress. -/
def State.LinkTainted (s : State) (p n : Nat) : Prop :=
  (s.part p).mode = .shot → (s.part p).attempt.active = true → ∃ x ∈ (s.part p).attempt.taints, x.cause = 3 ∧ x.tick = n

theorem LossWork.linkTainted {s t : State} {p n : Nat} (h : LossWork s t) (hs : s.LinkTainted p n) : t.LinkTainted p n := by
  have hk := h.part p
  intro hm ha
  obtain ⟨x, hx, hc⟩ := hs (hk.mode ▸ hm) (hk.active ▸ ha)
  exact ⟨x, hk.taints.subset hx, hc⟩

theorem refTaint_taints (s : State) (p : Nat) : (s.refTaint p).LinkTainted p s.now := by
  intro hm ha
  have hk := (refTaint_loss s p).part p
  rw [hk.mode] at hm
  rw [hk.active] at ha
  refine ⟨s.newTaint 3 (resource 0 0) 0 0#64, ?_, rfl, rfl⟩
  have ht := mem_taints_cause hm ha 3 0xFF (resource 0 0) 0 0#64
  unfold State.refTaint
  dsimp only
  rw [if_pos (by simp [hm, ha])]
  exact ((queueRec_queued _ p _).part p).taints.subset ht

theorem timeAlarm_frame (s : State) :
    s.timeAlarm = { s with regs := s.timeAlarm.regs, irq := s.timeAlarm.irq, ev := s.timeAlarm.ev } ∧
    RegsBut s s.timeAlarm [HOST_EVLOST] := by
  obtain ⟨frame, regs⟩ := queueEv_frame (s.irqEvent 8 1) (errorRec 9 3 1 0 0#64 s.now 0 (s.regN TIME_STAT))
  have irq := irqEvent_frame s 8 1
  unfold State.timeAlarm
  refine ⟨?_, fun a ha => ?_⟩
  · rw [frame, irq]
  · rw [regs a ha, irq]
    rfl

theorem timeAlarm_loss (s : State) : LossWork s s.timeAlarm := by
  obtain ⟨frame, regs⟩ := timeAlarm_frame s
  refine .of_regs ?_ (regs _ (by decide)) fun n hn => regs _ ?_
  · rw [frame]
  · simp only [List.mem_singleton, OCH_STAT, HOST_EVLOST]
    omega

/-- From `s` to `t` output channels have muted, and nothing else. -/
structure Mutes (s t : State) : Prop where
  frame : t = { s with regs := t.regs, fab := t.fab }
  stat : t.reg TIME_STAT = s.reg TIME_STAT
  muted : ∀ n, s.ochState n ≠ 2 → t.ochState n ≠ 2

theorem Mutes.refl (s : State) : Mutes s s := ⟨rfl, rfl, fun _ => id⟩

theorem Mutes.trans {a b c : State} (h1 : Mutes a b) (h2 : Mutes b c) : Mutes a c := by
  refine ⟨?_, h2.stat.trans h1.stat, fun n h => h2.muted n (h1.muted n h)⟩
  rw [h2.frame, h1.frame]

theorem ochState_muteCh (s : State) (n b : Nat) : (s.muteCh n b).ochState n ≠ 2 := by
  unfold State.muteCh
  split
  · exact (fld_setFld s (OCH_STAT n) 1 0 1 (by decide) (by decide)).trans_ne (by decide)
  · assumption

theorem reg_muteCh_ne (s : State) {n b a : Nat} (h : a ≠ OCH_STAT n) : (s.muteCh n b).reg a = s.reg a := by
  unfold State.muteCh State.updChan
  split
  · rw [reg_updFab, reg_setFld_ne _ _ _ _ h]
  · rfl

theorem ochStat_ne {m n : Nat} (h : m ≠ n) : OCH_STAT m ≠ OCH_STAT n := by
  unfold OCH_STAT
  omega

theorem muteCh_mutes (s : State) (n b : Nat) : Mutes s (s.muteCh n b) := by
  refine ⟨muteCh_frame s n b, reg_muteCh_ne s (by unfold TIME_STAT OCH_STAT; omega), fun m hm => ?_⟩
  by_cases h : m = n
  · rw [h]
    exact ochState_muteCh s n b
  · have hr := reg_muteCh_ne s (b := b) (ochStat_ne h)
    unfold State.ochState
    rwa [fld_ne _ _ _ _ hr]

/-- Output channel `n` mutes at the next tick boundary. -/
def State.muteNext (s : State) (n : Nat) : State := s.muteCh n (s.now + 1)

/-- Every output channel mutes at the next tick boundary. -/
def State.muteAll (s : State) : State := s.forEach (List.range s.nOch) State.muteNext

theorem muteAll_mutes (s : State) : Mutes s s.muteAll ∧ ∀ n < s.nOch, s.muteAll.ochState n ≠ 2 := by
  refine ⟨forEach_rel_mem .refl (fun _ _ _ => .trans) (fun t n _ => muteCh_mutes t n (t.now + 1)) s, fun n hn => ?_⟩
  exact forEach_reaches (P := fun t => t.ochState n ≠ 2) (f := State.muteNext) (List.mem_range.2 hn)
    (fun t => ochState_muteCh t n (t.now + 1))
    (fun t m _ h => (muteCh_mutes t m (t.now + 1)).muted n h) s

/-- The reference is noted as lost. -/
def State.refMark (s : State) : State :=
  ((s.stick TIME_STAT 2).setBit TIME_STAT 0 false).updTime fun t =>
    { t with lost := true, clearAt := none, settleFrom := s.now, settleTo := 2 ^ 64 }

/-- What the loss of the reference does after the mutes. -/
def State.refStop (s : State) : State :=
  let t := (s.forEach (s.reqs.map Req.key) State.stopBurst).calFail 0x0D
  t.forEach (List.range t.nPart) State.refTaint

theorem refStop_loss (s : State) : LossWork s s.refStop ∧ ∀ p < s.nPart, s.refStop.LinkTainted p s.now := by
  unfold State.refStop
  extract_lets t
  have h1 : LossWork s t :=
    (LossWork.of_captured (forEach_captured _ _ _ fun _ _ => stopBurst_captured ..)).trans (calFail_loss ..)
  have hpass : ∀ a : State, ∀ q ∈ List.range t.nPart, LossWork a (a.refTaint q) := fun a q _ => refTaint_loss a q
  refine ⟨h1.trans (forEach_rel_mem .refl (fun _ _ _ => .trans) hpass t), fun p hp => ?_⟩
  have hn : t.nPart = s.nPart := by
    unfold State.nPart
    rw [h1.variant]
  rw [hn]
  have hr := forEach_reaches (P := fun a => a.now = s.now → a.LinkTainted p s.now) (l := List.range s.nPart)
    (f := State.refTaint) (List.mem_range.2 hp)
    (fun a ha => ((refTaint_loss a p).now.symm.trans ha) ▸ refTaint_taints a p)
    (fun a q _ h ha => (refTaint_loss a q).linkTainted (h ((refTaint_loss a q).now.symm.trans ha))) t
  refine hr (LossWork.now ?_)
  exact h1.trans (forEach_rel_mem .refl (fun _ _ _ => .trans) (fun a q _ => refTaint_loss a q) t)

theorem execRefLost_idle {s : State} (h : s.time.lost = true ∨ s.mode = .boot ∨ s.mode = .failed) : exec .refLost s = .next s := by
  have hc : (s.time.lost || s.mode == .boot || s.mode == .failed) = true := by rcases h with h | h | h <;> simp [h]
  show answer s (if _ then s else _) = _
  rw [if_pos hc, answer_self]

theorem execRefLost_running {s : State} (hl : s.time.lost = false) (hb : s.mode ≠ .boot) (hf : s.mode ≠ .failed) :
    exec .refLost s = answer s s.refMark.timeAlarm.muteAll.refStop := by
  have hc : ¬ (s.time.lost || s.mode == .boot || s.mode == .failed) = true := by simp [hl, hb, hf]
  show answer s (if _ then s else _) = _
  rw [if_neg hc]
  rfl

theorem refMark_time (s : State) : s.refMark.time =
    { s.time with lost := true, clearAt := none, settleFrom := s.now, settleTo := 2 ^ 64 } := rfl

theorem refMark_frame (s : State) :
    s.refMark = { s with regs := s.refMark.regs, before := s.refMark.before, time := s.refMark.time } := by
  have h := stick_frame s TIME_STAT 2
  unfold State.refMark
  generalize s.stick TIME_STAT 2 = a at h ⊢
  rw [h]
  rfl

theorem refMark_bits (s : State) : s.refMark.bit TIME_STAT 2 = true ∧ s.refMark.bit TIME_STAT 0 = false := by
  refine ⟨?_, bit_setBit (s.stick TIME_STAT 2) TIME_STAT 0 false (by decide)⟩
  exact (bit_setBit_ne (s.stick TIME_STAT 2) TIME_STAT 0 2 false (by decide) (by decide)).trans (bit_stick s TIME_STAT (by decide))

/-- What the loss of the reference leaves behind (02 R51). -/
structure RefGone (s t : State) : Prop where
  lost : t.time.lost = true
  bits : t.bit TIME_STAT 2 = true ∧ t.bit TIME_STAT 0 = false
  muted : ∀ n < s.nOch, t.ochState n ≠ 2
  tainted : ∀ p < s.nPart, t.LinkTainted p s.now
  part : ∀ p, (s.part p).Kept (t.part p)
  cores : t.cores = s.cores
  frames : t.frames = s.frames
  slots : t.slots = s.slots

theorem refLost_gone (s : State) : RefGone s s.refMark.timeAlarm.muteAll.refStop := by
  have hf := refMark_frame s
  have ht := refMark_time s
  obtain ⟨b2, b0⟩ := refMark_bits s
  generalize s.refMark = a at hf ht b2 b0 ⊢
  have ha := timeAlarm_loss a
  generalize a.timeAlarm = b at ha ⊢
  obtain ⟨hm, hmuted⟩ := muteAll_mutes b
  generalize b.muteAll = c at hm hmuted ⊢
  obtain ⟨hs, htaint⟩ := refStop_loss c
  generalize c.refStop = d at hs htaint ⊢
  have hstat : d.reg TIME_STAT = a.reg TIME_STAT := hs.stat.trans (hm.stat.trans ha.stat)
  have hvar : b.variant = s.variant := ha.variant.trans (by rw [hf])
  have hcb : c.variant = b.variant ∧ c.time = b.time ∧ c.cores = b.cores ∧ c.frames = b.frames ∧ c.slots = b.slots ∧
      ∀ p, c.part p = b.part p := by
    rw [hm.frame]
    exact ⟨rfl, rfl, rfl, rfl, rfl, fun _ => rfl⟩
  obtain ⟨cvar, ctime, ccores, cframes, cslots, cpart⟩ := hcb
  have hnow : c.now = s.now := by
    unfold State.now
    rw [ctime, ha.time, ht]
  refine ⟨?_, ⟨?_, ?_⟩, fun n hn => ?_, fun p hp => ?_, fun p => ?_, ?_, ?_, ?_⟩
  · rw [hs.time, ctime, ha.time, ht]
  · rw [bit_ne _ _ _ hstat, b2]
  · rw [bit_ne _ _ _ hstat, b0]
  · unfold State.ochState
    rw [fld_ne _ _ _ _ (hs.och n (lt_of_lt_of_le hn (nOch_le s)))]
    refine hmuted n ?_
    unfold State.nOch at hn ⊢
    rwa [hvar]
  · rw [← hnow]
    refine htaint p ?_
    unfold State.nPart at hp ⊢
    rwa [cvar, hvar]
  · have h1 := ha.part p
    have h2 := hs.part p
    rw [cpart] at h2
    rw [hf] at h1
    exact Part.Kept.trans h1 h2
  · rw [hs.cores, ccores, ha.cores, hf]
  · rw [hs.frames, cframes, ha.frames, hf]
  · rw [hs.slots, cslots, ha.slots, hf]

/-! The return of the reference. -/

/-- The reference is noted as locked again. -/
def State.refBack (s : State) : State :=
  ((s.updTime fun t => { t with lost := false, clearAt := some s.now, settleTo := s.now + 2048 }).setBit TIME_STAT 2 false).setBit
    TIME_STAT 0 true

theorem execRefLockReturn_lost {s : State} (h : s.time.lost = true) (b : Bool) : exec (.refLockReturn b) s = answer s
    (if b then ((s.refBack.setBit TIME_STAT 3 true).setBit TIME_STAT 1 false).loseAlign else s.refBack) := by
  show answer s (if _ then s else _) = _
  rw [if_neg (by simp [h])]
  rfl

theorem execRefLockReturn_locked {s : State} (h : s.time.lost = false) (b : Bool) : exec (.refLockReturn b) s = .next s := by
  show answer s (if _ then s else _) = _
  rw [if_pos (by simp [h]), answer_self]

/-- From `s` to `t` bits of TIME_STAT have changed, with the alarm that tells of it. -/
structure StatWork (s t : State) : Prop where
  frame : t = { s with regs := t.regs, irq := t.irq, ev := t.ev }
  regs : RegsBut s t [TIME_STAT, HOST_EVLOST]

theorem StatWork.refl (s : State) : StatWork s s := ⟨rfl, fun _ _ => rfl⟩

theorem StatWork.trans {a b c : State} (h1 : StatWork a b) (h2 : StatWork b c) : StatWork a c := by
  refine ⟨?_, fun x hx => (h2.regs x hx).trans (h1.regs x hx)⟩
  rw [h2.frame, h1.frame]

theorem StatWork.setBit (s : State) (i : Nat) (b : Bool) : StatWork s (s.setBit TIME_STAT i b) :=
  ⟨rfl, fun a ha => reg_setBit_ne s i b (by simp_all)⟩

theorem StatWork.timeAlarm (s : State) : StatWork s s.timeAlarm :=
  ⟨(timeAlarm_frame s).1, fun a ha => (timeAlarm_frame s).2 a (by simp_all)⟩

theorem reg_timeAlarm_stat (s : State) : s.timeAlarm.reg TIME_STAT = s.reg TIME_STAT := (timeAlarm_frame s).2 _ (by decide)

theorem loseAlign_work (s : State) : StatWork s s.loseAlign := by
  unfold State.loseAlign
  split
  · exact .refl s
  · exact (StatWork.setBit s 4 true).trans (.timeAlarm _)

theorem loseAlign_raised (s : State) : s.loseAlign.bit TIME_STAT 4 = true := by
  unfold State.loseAlign
  split
  · assumption
  · rw [bit_ne _ _ _ (reg_timeAlarm_stat _)]
    exact bit_setBit s TIME_STAT 4 true (by decide)

theorem loseAlign_other (s : State) {i : Nat} (h : i ≠ 4) : s.loseAlign.bit TIME_STAT i = s.bit TIME_STAT i := by
  unfold State.loseAlign
  split
  · rfl
  · rw [bit_ne _ _ _ (reg_timeAlarm_stat _)]
    exact bit_setBit_ne s TIME_STAT 4 i true (by decide) h

end Sys2Proof.Machine

namespace Sys2Proof.Machine

/-- The course of time once the reference is back. -/
def State.refBackTime (s : State) : Time := { s.time with lost := false, clearAt := some s.now, settleTo := s.now + 2048 }

/-- The bits of TIME_STAT that a slipped boundary at the reference's return changes. -/
def State.refSlip (s : State) : State := ((s.setBit TIME_STAT 3 true).setBit TIME_STAT 1 false).loseAlign

theorem refBack_work (s : State) : StatWork (s.updTime fun _ => s.refBackTime) s.refBack :=
  (StatWork.setBit (s.updTime fun _ => s.refBackTime) 2 false).trans (.setBit _ 0 true)

theorem refBack_bits (s : State) : s.refBack.bit TIME_STAT 2 = false ∧ s.refBack.bit TIME_STAT 0 = true ∧
    s.refBack.bit TIME_STAT 1 = s.bit TIME_STAT 1 := by
  unfold State.refBack
  generalize ha : (s.updTime fun t => { t with lost := false, clearAt := some s.now, settleTo := s.now + 2048 }) = a
  have h1 : a.bit TIME_STAT 1 = s.bit TIME_STAT 1 := by rw [← ha, bit_updTime]
  refine ⟨?_, bit_setBit _ TIME_STAT 0 true (by decide), ?_⟩
  · rw [bit_setBit_ne _ _ _ _ _ (by decide) (by decide), bit_setBit _ _ _ _ (by decide)]
  · rw [bit_setBit_ne _ _ _ _ _ (by decide) (by decide), bit_setBit_ne _ _ _ _ _ (by decide) (by decide), h1]

theorem refSlip_work (s : State) : StatWork s s.refSlip :=
  (StatWork.setBit s 3 true).trans ((StatWork.setBit _ 1 false).trans (loseAlign_work _))

theorem refSlip_bits (s : State) : s.refSlip.bit TIME_STAT 1 = false ∧ s.refSlip.bit TIME_STAT 3 = true ∧
    s.refSlip.bit TIME_STAT 4 = true ∧ s.refSlip.bit TIME_STAT 2 = s.bit TIME_STAT 2 ∧
    s.refSlip.bit TIME_STAT 0 = s.bit TIME_STAT 0 := by
  unfold State.refSlip
  have others : ∀ i, i ≠ 4 → i ≠ 1 → i ≠ 3 →
      (((s.setBit TIME_STAT 3 true).setBit TIME_STAT 1 false).loseAlign).bit TIME_STAT i = s.bit TIME_STAT i := by
    intro i h4 h1 h3
    rw [loseAlign_other _ h4, bit_setBit_ne _ _ _ _ _ (by decide) h1, bit_setBit_ne _ _ _ _ _ (by decide) h3]
  refine ⟨?_, ?_, loseAlign_raised _, others 2 (by decide) (by decide) (by decide), others 0 (by decide) (by decide) (by decide)⟩
  · rw [loseAlign_other _ (by decide), bit_setBit _ _ _ _ (by decide)]
  · rw [loseAlign_other _ (by decide), bit_setBit_ne _ _ _ _ _ (by decide) (by decide), bit_setBit _ _ _ _ (by decide)]

theorem StatWork.answers {c : Instr} {s a t : State} {x : Time} {P : State → Prop} (hx : exec c s = answer s t)
    (ha : a = s.updTime fun _ => x) (h : StatWork a t)
    (hp : t.time = x → RegsBut s t [TIME_STAT, HOST_EVLOST] →
      t = { s with time := t.time, regs := t.regs, irq := t.irq, ev := t.ev } → P t) : Answers c s P := by
  have hf : t = { s with time := t.time, regs := t.regs, irq := t.irq, ev := t.ev } := by rw [h.frame, ha]; rfl
  refine answers_of_next hx ?_ ?_ ?_ ?_ (hp ?_ (fun y hy => ?_) hf)
  iterate 4 rw [hf]
  · rw [h.frame, ha]
    rfl
  · rw [h.regs y hy, ha, reg_updTime]

theorem answers_refLockReturn {s : State} (h : s.time.lost = true) (b : Bool) : Answers (.refLockReturn b) s fun t =>
    t.time = s.refBackTime ∧ t.bit TIME_STAT 2 = false ∧ t.bit TIME_STAT 0 = true ∧
    (b = true → t.bit TIME_STAT 1 = false ∧ t.bit TIME_STAT 3 = true ∧ t.bit TIME_STAT 4 = true) ∧
    (b = false → t.bit TIME_STAT 1 = s.bit TIME_STAT 1 ∧ t.ev = s.ev) ∧ RegsBut s t [TIME_STAT, HOST_EVLOST] ∧
    t = { s with time := t.time, regs := t.regs, irq := t.irq, ev := t.ev } := by
  have hx := execRefLockReturn_lost h b
  obtain ⟨b2, b0, b1⟩ := refBack_bits s
  have hw := refBack_work s
  cases b with
  | true =>
    obtain ⟨c1, c3, c4, c2, c0⟩ := refSlip_bits s.refBack
    refine StatWork.answers hx rfl (hw.trans (refSlip_work _)) fun ht hr hf => ?_
    exact ⟨ht, c2.trans b2, c0.trans b0, fun _ => ⟨c1, c3, c4⟩, fun h => absurd h (by decide), hr, hf⟩
  | false =>
    have he : s.refBack.ev = s.ev := by unfold State.refBack; simp
    exact StatWork.answers hx rfl hw fun ht hr hf =>
      ⟨ht, b2, b0, fun h => absurd h (by decide), fun _ => ⟨b1, he⟩, hr, hf⟩

/-! The channels of streams are driven again (02 R51). -/

/-- Channel `n` is driven again from the next boundary. -/
def State.driveCh (s : State) (n : Nat) : State :=
  (s.setFld (OCH_STAT n) 2 0 6).updChan n fun c => { c with edge := some (s.now, true) }

/-- The channels that hold a playing tone of a stream. -/
def State.toneChs (s : State) : List Nat :=
  (s.fab.pulses.filter fun u => u.cw && u.playing && !u.done && (s.part u.part).mode == .stream).map (·.ch)

theorem execRefClearUnmute_due {s : State} {t0 : Nat} (hc : s.time.clearAt = some t0) (hl : s.time.lost = false)
    (h : t0 + 1024 ≤ s.now) : exec .refClearUnmute s = answer s
      ((s.updTime fun x => { x with clearAt := none }).forEach (s.toneChs.eraseDups.filter fun n => s.ochState n == 1)
        State.driveCh) := by
  simp only [exec, execRefClearUnmute, hc]
  rw [if_neg (by simp [hl]; omega)]
  rfl

theorem execRefClearUnmute_early {s : State} {t0 : Nat} (hc : s.time.clearAt = some t0) (h : s.now < t0 + 1024) :
    exec .refClearUnmute s = .next s := by
  simp only [exec, execRefClearUnmute, hc]
  rw [if_pos (by simp [h]), answer_self]

/-- From `s` to `t` channels of the list `l` have been driven again. -/
structure Driven (s t : State) (l : List Nat) : Prop where
  frame : t = { s with regs := t.regs, fab := { s.fab with chans := t.fab.chans } }
  regs : ∀ a, (∀ n ∈ l, a ≠ OCH_STAT n) → t.reg a = s.reg a

theorem Driven.refl (s : State) (l : List Nat) : Driven s s l := ⟨rfl, fun _ _ => rfl⟩

theorem Driven.trans {a b c : State} {l : List Nat} (h1 : Driven a b l) (h2 : Driven b c l) : Driven a c l := by
  refine ⟨?_, fun x hx => (h2.regs x hx).trans (h1.regs x hx)⟩
  rw [h2.frame, h1.frame]

theorem driveCh_driven (s : State) {n : Nat} {l : List Nat} (hn : n ∈ l) : Driven s (s.driveCh n) l := by
  refine ⟨rfl, fun a ha => ?_⟩
  unfold State.driveCh State.updChan
  rw [reg_updFab, reg_setFld_ne _ _ _ _ (ha n hn)]

theorem ochState_driveCh (s : State) (n : Nat) : (s.driveCh n).ochState n = 2 := by
  have h : (s.driveCh n).fld (OCH_STAT n) 2 0 = 6 := fld_setFld s (OCH_STAT n) 2 0 6 (by decide) (by decide)
  unfold State.ochState
  unfold State.fld bits at h ⊢
  rw [Nat.shiftRight_zero] at h ⊢
  omega

theorem ochState_driveCh_stays (s : State) (m : Nat) {n : Nat} (h : s.ochState n = 2) : (s.driveCh m).ochState n = 2 := by
  by_cases hm : n = m
  · rw [hm]
    exact ochState_driveCh s m
  · have hr := (driveCh_driven s (List.mem_singleton_self m)).regs (OCH_STAT n) (by simpa using ochStat_ne hm)
    unfold State.ochState
    rwa [fld_ne _ _ _ _ hr]

theorem driveChs_driven (s : State) (l : List Nat) : Driven s (s.forEach l State.driveCh) l ∧
    ∀ n ∈ l, (s.forEach l State.driveCh).ochState n = 2 := by
  refine ⟨forEach_rel_mem (R := fun a b => Driven a b l) (fun a => .refl a l) (fun _ _ _ => .trans)
    (fun a n hn => driveCh_driven a hn) s, fun n hn => ?_⟩
  exact forEach_reaches (P := fun a => a.ochState n = 2) (f := State.driveCh) hn (fun a => ochState_driveCh a n)
    (fun a m _ h => ochState_driveCh_stays a m h) s

theorem answers_refClearUnmute {s : State} {t0 : Nat} (hc : s.time.clearAt = some t0) (hl : s.time.lost = false)
    (h : t0 + 1024 ≤ s.now) : Answers .refClearUnmute s fun t => t.time = { s.time with clearAt := none } ∧
    (∀ u ∈ s.fab.pulses, u.cw = true → u.playing = true → u.done = false → (s.part u.part).mode = .stream → u.ch < 64 →
      s.ochState u.ch = 1 → t.ochState u.ch = 2) ∧
    (∀ n, s.ochState n ≠ 1 → t.reg (OCH_STAT n) = s.reg (OCH_STAT n)) ∧
    t = { s with time := t.time, regs := t.regs, fab := { s.fab with chans := t.fab.chans } } := by
  have hx := execRefClearUnmute_due hc hl h
  have hl : ∀ n, n ∈ (s.toneChs.eraseDups.filter fun n => s.ochState n == 1) ↔ n ∈ s.toneChs ∧ s.ochState n = 1 := by
    simp [List.mem_eraseDups]
  generalize (s.toneChs.eraseDups.filter fun n => s.ochState n == 1) = l at hx hl
  obtain ⟨hd, hdrive⟩ := driveChs_driven (s.updTime fun x => { x with clearAt := none }) l
  generalize (s.updTime fun x => { x with clearAt := none }).forEach l State.driveCh = t at hx hd hdrive
  have hf : t = { s with time := { s.time with clearAt := none }, regs := t.regs,
                         fab := { s.fab with chans := t.fab.chans } } := by
    rw [hd.frame]
    rfl
  refine answers_of_next hx ?_ ?_ ?_ ?_ ⟨?_, fun u hu hcw hp hdn hm _ hs => ?_, fun n hn => ?_, ?_⟩
  iterate 5 rw [hf]
  · refine hdrive u.ch ((hl _).2 ⟨List.mem_map.2 ⟨u, List.mem_filter.2 ⟨hu, ?_⟩, rfl⟩, hs⟩)
    simp [hcw, hp, hdn, hm]
  · rw [hd.regs, reg_updTime]
    rintro m hm he
    have hmn : n = m := by
      by_contra hne
      exact ochStat_ne hne he
    exact hn (hmn ▸ ((hl m).1 hm).2)
  · rw [hf]

/-- Settles O42, by the marks, mutes and taints of the loss, the bits of the return and the channels driven again. -/
theorem referenceLoss : Obligations.ReferenceLoss := by
  intro s
  refine ⟨execRefLost_idle, fun hl hb hf => ?_, fun hl b => execRefLockReturn_locked hl b, fun hl b => answers_refLockReturn hl b,
    fun t0 hc hl => ⟨execRefClearUnmute_early hc, answers_refClearUnmute hc hl⟩⟩
  have hg := refLost_gone s
  have hx := execRefLost_running hl hb hf
  generalize s.refMark.timeAlarm.muteAll.refStop = t at hg hx
  refine ⟨_, hx, hg.lost, hg.bits.1, hg.bits.2, hg.muted, fun p hp hm ha => ?_, fun p => (hg.part p).mode, hg.cores, hg.frames,
    hg.slots⟩
  have hk := hg.part p
  exact hg.tainted p hp (hk.mode.trans hm) (hk.active.trans ha)

end Sys2Proof.Machine

namespace Sys2Proof.Machine

/-! The epoch load and SYNC_OUT (02 R53 to R56, R58). -/

/-! The arm. -/

/-- From `s` to `t` TIME_CTRL, TIME_STAT, time and pins have changed. -/
structure TimeSet (s t : State) : Prop where
  frame : t = { s with regs := t.regs, before := t.before, time := t.time, pins := t.pins }
  regs : RegsBut s t [TIME_CTRL, TIME_STAT]

namespace TimeSet

theorem refl (s : State) : TimeSet s s := ⟨rfl, fun _ _ => rfl⟩

theorem trans {a b c : State} (h1 : TimeSet a b) (h2 : TimeSet b c) : TimeSet a c := by
  refine ⟨?_, fun x hx => (h2.regs x hx).trans (h1.regs x hx)⟩
  rw [h2.frame, h1.frame]

theorem setFld (s : State) (hi lo v : Nat) : TimeSet s (s.setFld TIME_CTRL hi lo v) :=
  ⟨rfl, fun a ha => reg_setFld_ne s hi lo v (by simp_all)⟩

theorem setStat (s : State) (i : Nat) (b : Bool) : TimeSet s (s.setBit TIME_STAT i b) :=
  ⟨rfl, fun a ha => reg_setBit_ne s i b (by simp_all)⟩

theorem stick (s : State) (i : Nat) : TimeSet s (s.stick TIME_STAT i) :=
  ⟨stick_frame s TIME_STAT i, fun a ha => reg_stick_ne s i (by simp_all)⟩

theorem updTime (s : State) (f : Time → Time) : TimeSet s (s.updTime f) := ⟨rfl, fun _ _ => rfl⟩

theorem updPins (s : State) (f : Pins → Pins) : TimeSet s (s.updPins f) := ⟨rfl, fun _ _ => rfl⟩

end TimeSet

/-- The fields of TIME_CTRL that an arm sets, with SYNC_OUT as they select it. -/
def State.ctrlSet (s : State) (d : Nat) : State :=
  let a := if bits d 3 2 = 3 then s else s.setFld TIME_CTRL 3 2 (bits d 3 2)
  let b := a.setBit TIME_CTRL 7 (bitOf d 7)
  if b.fld TIME_CTRL 3 2 = 0 then b.updPins fun x => { x with syncOut := false, syncLeft := 0 } else b

theorem ctrlSet_set (s : State) (d : Nat) : TimeSet s (s.ctrlSet d) ∧ (s.ctrlSet d).time = s.time ∧
    (∀ a, a ≠ TIME_CTRL → (s.ctrlSet d).reg a = s.reg a) := by
  unfold State.ctrlSet
  extract_lets a b
  have h1 : TimeSet s a ∧ a.time = s.time ∧ ∀ x, x ≠ TIME_CTRL → a.reg x = s.reg x := by
    refine iteInduction (motive := fun a : State => TimeSet s a ∧ a.time = s.time ∧ ∀ x, x ≠ TIME_CTRL → a.reg x = s.reg x)
      (fun _ => ⟨.refl s, rfl, fun _ _ => rfl⟩) fun _ => ⟨.setFld .., rfl, fun x hx => reg_setFld_ne _ _ _ _ hx⟩
  obtain ⟨ha, htime, hregs⟩ := h1
  have hb : TimeSet a b := .setFld ..
  have hbt : b.time = a.time := rfl
  have hbr : ∀ x, x ≠ TIME_CTRL → b.reg x = a.reg x := fun x hx => reg_setBit_ne _ _ _ hx
  refine iteInduction (motive := fun c : State => TimeSet s c ∧ c.time = s.time ∧ ∀ x, x ≠ TIME_CTRL → c.reg x = s.reg x)
    (fun _ => ?_) fun _ => ?_
  · exact ⟨(ha.trans hb).trans (.updPins ..), hbt.trans htime, fun x hx => (hbr x hx).trans (hregs x hx)⟩
  · exact ⟨ha.trans hb, hbt.trans htime, fun x hx => (hbr x hx).trans (hregs x hx)⟩

/-- The load is armed. -/
def State.armTake (s : State) : State :=
  (s.setBit TIME_CTRL 0 true).updTime fun t =>
    { t with armed := true, armAt := s.now, edge := none, follow := none, epoch := s.epochWord }

/-- The arm is refused. -/
def State.armRefuse (s : State) : State := ((s.stick TIME_STAT 5).setBit TIME_CTRL 0 false).updTime fun t => { t with armed := false }

theorem timeCtrlWrite_arm {s : State} {d : Word} (h : d.getLsbD 0 = true) : s.timeCtrlWrite d =
    if (s.ctrlSet d.toNat).mode == .run && (s.ctrlSet d.toNat).allHold then (s.ctrlSet d.toNat).armTake
    else (s.ctrlSet d.toNat).armRefuse := by
  unfold State.timeCtrlWrite
  extract_lets n a b c
  have hb : bitOf n 0 = true := by rw [bitOf_toNat]; exact h
  rw [if_neg (by simp [hb])]
  rfl

theorem TimeSet.allHold {s t : State} (h : TimeSet s t) : t.mode = s.mode ∧ t.allHold = s.allHold := by
  rw [h.frame]
  exact ⟨rfl, rfl⟩

theorem armTake_set (s : State) : TimeSet s s.armTake ∧ s.armTake.bit TIME_CTRL 0 = true := by
  refine ⟨⟨rfl, fun a ha => reg_setBit_ne s 0 true (by simp_all)⟩, ?_⟩
  exact bit_setBit s TIME_CTRL 0 true (by decide)

theorem armRefuse_set (s : State) : TimeSet s s.armRefuse ∧ s.armRefuse.bit TIME_STAT 5 = true ∧
    s.armRefuse.bit TIME_CTRL 0 = false ∧ s.armRefuse.time = { s.time with armed := false } := by
  have hs := TimeSet.stick s 5
  have hb := bit_stick s TIME_STAT (i := 5) (by decide)
  have ht : (s.stick TIME_STAT 5).time = s.time := time_stick s _ _
  unfold State.armRefuse
  generalize s.stick TIME_STAT 5 = a at hs hb ht ⊢
  refine ⟨hs.trans ((TimeSet.setFld a 0 0 _).trans (.updTime ..)), ?_, bit_setBit a TIME_CTRL 0 false (by decide), ?_⟩
  · rw [bit_updTime, bit_ne a _ 5 (reg_setBit_ne a 0 false (by decide)), hb]
  · exact congrArg (fun x : Time => { x with armed := false }) ht

theorem execEpochArm_eq {s : State} (ho : s.opened) {d : Word} (h : d.getLsbD 0 = true) : exec (.epochArm d) s = answer s
    (if s.mode == .run && s.allHold then (s.ctrlSet d.toNat).armTake else (s.ctrlSet d.toNat).armRefuse) := by
  have hc := (ctrlSet_set s d.toNat).1.allHold
  show answer s (s.pf0 _) = _
  rw [pf0_opened ho, timeCtrlWrite_arm h, hc.1, hc.2]

theorem TimeSet.answers {c : Instr} {s t : State} {P : State → Prop} (hx : exec c s = answer s t) (h : TimeSet s t) (hp : P t) :
    Answers c s P := by
  have hf := h.frame
  refine answers_of_next hx ?_ ?_ ?_ ?_ hp <;> rw [hf]

theorem answers_epochArm {s : State} (ho : s.opened) {d : Word} (h : d.getLsbD 0 = true) : Answers (.epochArm d) s fun t =>
    (s.mode = .run ∧ s.allHold = true → t.bit TIME_CTRL 0 = true ∧
      t.time = { s.time with armed := true, armAt := s.now, edge := none, follow := none
                             epoch := BitVec.ofNat 64 (s.regN TIME_EPOCH_LO + 2 ^ 32 * s.regN TIME_EPOCH_HI) }) ∧
    (s.mode ≠ .run ∨ s.allHold = false → t.bit TIME_STAT 5 = true ∧ t.bit TIME_CTRL 0 = false ∧ t.time.armed = false) ∧
    t.time.dtime = s.time.dtime ∧ RegsBut s t [TIME_CTRL, TIME_STAT] ∧
    t = { s with regs := t.regs, before := t.before, time := t.time, pins := t.pins } := by
  have hx := execEpochArm_eq ho h
  obtain ⟨hset, htime, hregs⟩ := ctrlSet_set s d.toNat
  generalize s.ctrlSet d.toNat = a at hx hset htime hregs
  by_cases hc : s.mode = .run ∧ s.allHold = true
  · rw [if_pos (by simp [hc])] at hx
    obtain ⟨ht, hb⟩ := armTake_set a
    have hnow : a.now = s.now := by unfold State.now; rw [htime]
    have hword : a.epochWord = s.epochWord := by
      unfold State.epochWord State.regN
      rw [hregs TIME_EPOCH_LO (by decide), hregs TIME_EPOCH_HI (by decide)]
    have htt : a.armTake.time =
        { s.time with armed := true, armAt := s.now, edge := none, follow := none, epoch := s.epochWord } := by
      rw [← htime, ← hnow, ← hword]
      rfl
    generalize a.armTake = t at hx ht hb htt
    have hst := hset.trans ht
    refine TimeSet.answers hx hst ⟨fun _ => ⟨hb, htt⟩, fun hn => ?_, ?_, hst.regs, hst.frame⟩
    · simp [hc] at hn
    · rw [htt]
  · rw [if_neg (by simpa using hc)] at hx
    obtain ⟨ht, h5, h0, htt⟩ := armRefuse_set a
    generalize a.armRefuse = t at hx ht h5 h0 htt
    have hst := hset.trans ht
    refine TimeSet.answers hx hst ⟨fun hn => absurd hn hc, fun _ => ⟨h5, h0, ?_⟩, ?_, hst.regs, hst.frame⟩
    · rw [htt]
    · rw [htt, htime]

/-! The capture edge. -/

/-- What the capture edge makes of the state. -/
def State.captureAt (s : State) (k : Nat) : State :=
  ((s.setBit TIME_CTRL 0 false).setBit TIME_STAT 7 true).updTime fun t =>
    { t with armed := false, edge := some k, stage := 0, repeated := false }

/-- Ticks since the capture edge that a command of this tick may take, none where no edge lies. -/
def State.captureEdge (s : State) : Option Nat :=
  if s.bit TIME_STAT 3 then some 0
  else if s.bit TIME_CTRL 7 then
    (if (s.time.armAt / 4 + 1) * 4 ≤ s.now then some (s.now - (s.time.armAt / 4 + 1) * 4) else none)
  else if s.now % 4 = 0 ∧ s.time.armAt < s.now then some 0
  else none

theorem execEpochCapture_none {s : State} (h : s.time.armed = false ∨ (s.bit TIME_CTRL 7 = false ∧ s.bit TIME_CTRL 1 = true) ∨
    s.captureEdge = none) : exec .epochCapture s = .next s := by
  show answer s (if (s.time.armed && s.time.edge.isNone && (s.bit TIME_CTRL 7 || !s.bit TIME_CTRL 1) &&
    s.captureEdge.isSome) = true then _ else s) = _
  rw [if_neg (by rcases h with h | h | h <;> simp [h]), answer_self]

theorem execEpochCapture_some {s : State} {k : Nat} (ha : s.time.armed = true) (he : s.time.edge = none)
    (hs : s.bit TIME_CTRL 7 = true ∨ s.bit TIME_CTRL 1 = false) (hk : s.captureEdge = some k) :
    exec .epochCapture s = answer s (s.captureAt k) := by
  have hx : exec .epochCapture s = answer s (if (s.time.armed && s.time.edge.isNone && (s.bit TIME_CTRL 7 || !s.bit TIME_CTRL 1) &&
    s.captureEdge.isSome) = true then ((s.setBit TIME_CTRL 0 false).setBit TIME_STAT 7 true).updTime fun t => { t with
        armed := false, edge := s.captureEdge, stage := 0, repeated := false } else s) := rfl
  rw [hx, if_pos (by rcases hs with hs | hs <;> simp [ha, he, hs, hk]), hk]
  rfl

theorem captureAt_set (s : State) (k : Nat) : TimeSet s (s.captureAt k) ∧ (s.captureAt k).bit TIME_CTRL 0 = false ∧
    (s.captureAt k).bit TIME_STAT 7 = true ∧ (s.captureAt k).before = s.before ∧ (s.captureAt k).pins = s.pins ∧
    (s.captureAt k).time = { s.time with armed := false, edge := some k, stage := 0, repeated := false } := by
  have h1 := TimeSet.setFld s 0 0 (bn false)
  have hb : (s.setBit TIME_CTRL 0 false).bit TIME_CTRL 0 = false := bit_setBit s _ _ _ (by decide)
  have hf : (s.setBit TIME_CTRL 0 false).before = s.before ∧ (s.setBit TIME_CTRL 0 false).pins = s.pins ∧
      (s.setBit TIME_CTRL 0 false).time = s.time := ⟨rfl, rfl, rfl⟩
  obtain ⟨hbe, hpi, hti⟩ := hf
  unfold State.captureAt
  change TimeSet s (s.setBit TIME_CTRL 0 false) at h1
  generalize s.setBit TIME_CTRL 0 false = a at h1 hb hbe hpi hti ⊢
  refine ⟨h1.trans ((TimeSet.setStat a 7 true).trans (.updTime ..)), ?_, ?_, hbe, hpi, ?_⟩
  · rw [bit_updTime, bit_ne a _ 0 (reg_setBit_ne a 7 true (by decide)), hb]
  · rw [bit_updTime, bit_setBit a TIME_STAT 7 true (by decide)]
  · exact congrArg (fun x : Time => { x with armed := false, edge := some k, stage := 0, repeated := false }) hti

theorem answers_epochCapture {s : State} {k : Nat} (ha : s.time.armed = true) (he : s.time.edge = none)
    (hs : s.bit TIME_CTRL 7 = true ∨ s.bit TIME_CTRL 1 = false) (hk : s.captureEdge = some k) :
    Answers .epochCapture s fun t =>
      t.time = { s.time with armed := false, edge := some k, stage := 0, repeated := false } ∧ t.bit TIME_CTRL 0 = false ∧
      t.bit TIME_STAT 7 = true ∧ RegsBut s t [TIME_CTRL, TIME_STAT] ∧ t = { s with regs := t.regs, time := t.time } := by
  have hx := execEpochCapture_some ha he hs hk
  obtain ⟨hset, h0, h7, hbe, hpi, ht⟩ := captureAt_set s k
  generalize s.captureAt k = t at hx hset h0 h7 hbe hpi ht
  refine TimeSet.answers hx hset ⟨ht, h0, h7, hset.regs, ?_⟩
  have hf := hset.frame
  rw [hbe, hpi] at hf
  exact hf

/-! The course of a load. -/

theorem loadAt_some {s : State} {k n stage : Nat} (he : s.time.edge = some k) (hk : n ≤ k) (hs : s.time.stage = stage) :
    s.loadAt n stage = true := by simp [State.loadAt, he, hk, hs]

theorem loadAt_early {s : State} {k n stage : Nat} (he : s.time.edge = some k) (hk : k < n) : s.loadAt n stage = false := by
  simp [State.loadAt, he, hk]

theorem execEpochLoadCommand_due {s : State} (h : s.loadAt 4 0 = true) :
    exec .epochLoadCommand s = .next { s with time := { s.time with stage := 1 } } := by
  show answer s (if _ then _ else _) = _
  rw [if_pos h]
  rfl

theorem execEpochLoadCommand_early {s : State} (h : s.loadAt 4 0 = false) : exec .epochLoadCommand s = .next s := by
  show answer s (if _ then _ else _) = _
  rw [if_neg (by simp [h]), answer_self]

theorem execSyncOutRepeat_due {s : State} (h : s.loadAt 32 1 = true) (hr : s.time.repeated = false)
    (hf : s.fld TIME_CTRL 3 2 = 1) : exec .syncOutRepeat s =
      .next { s with pins := { s.pins with syncOut := true, syncLeft := 32 }, time := { s.time with repeated := true } } := by
  show answer s (if _ then _ else _) = _
  rw [if_pos (by simp [h, hr, hf])]
  rfl

theorem execSyncOutGenerate_due {s : State} (hf : s.fld TIME_CTRL 3 2 = 2) (hn : s.now % 2 ^ 32 = s.regN TIME_SYNCGEN_LO) :
    exec .syncOutGenerate s = .next { s with pins := { s.pins with syncOut := true, syncLeft := 32 } } := by
  have hx : exec .syncOutGenerate s = answer s
    (if s.fld TIME_CTRL 3 2 == 2 && s.now % 2 ^ 32 == s.regN TIME_SYNCGEN_LO then s.syncPulse else s) := rfl
  rw [hx, if_pos (by rw [hf, hn, beq_self_eq_true, beq_self_eq_true]; rfl)]
  rfl

theorem execSyncOutGenerate_off {s : State} (h : s.fld TIME_CTRL 3 2 ≠ 2 ∨ s.now % 2 ^ 32 ≠ s.regN TIME_SYNCGEN_LO) :
    exec .syncOutGenerate s = .next s := by
  have hx : exec .syncOutGenerate s = answer s
    (if s.fld TIME_CTRL 3 2 == 2 && s.now % 2 ^ 32 == s.regN TIME_SYNCGEN_LO then s.syncPulse else s) := rfl
  rw [hx, if_neg, answer_self]
  rw [Bool.and_eq_true, beq_iff_eq, beq_iff_eq]
  exact not_and_or.2 h

theorem execEpochTileLoad_early {s : State} {k : Nat} (he : s.time.edge = some k) (hk : k < 64) :
    exec .epochTileLoad s = .next s := by
  simp only [exec, execEpochTileLoad, he]
  rw [if_pos (.inl hk), answer_self]

theorem execEpochTileLoad_due {s : State} {k : Nat} (he : s.time.edge = some k) (hk : 64 ≤ k) (hs : s.time.stage = 1) :
    exec .epochTileLoad s = answer s
      ((s.loadTime (s.time.epoch + BitVec.ofNat 64 (k - 64))).updTime fun t => { t with stage := 2 }) := by
  simp only [exec, execEpochTileLoad, he]
  rw [if_neg (by omega)]

/-! What the move of stored instants leaves of cores, slots and rings (02 R55). -/

/-- From `s` to `t` DTIME has moved: frames, graphs and the library stay, and of cores and slots all but their instants. -/
structure TimeMoved (s t : State) : Prop where
  frames : t.frames = s.frames
  graphs : t.graphs = s.graphs
  geo : t.geo = { s.geo with pages := t.geo.pages }
  cores : ∀ c, t.qtz c = { s.qtz c with
    syncAt := (t.qtz c).syncAt, stallFrom := (t.qtz c).stallFrom, asked := (t.qtz c).asked }
  slots : ∀ i, t.slot i = { s.slot i with validAt := (t.slot i).validAt, hist := (t.slot i).hist }

theorem TimeMoved.congr {s a t : State} (h : TimeMoved s a) (hf : t.frames = a.frames) (hg : t.graphs = a.graphs)
    (hp : t.geo = a.geo) (hc : t.cores = a.cores) (hs : t.slots = a.slots) : TimeMoved s t := by
  have hq : ∀ c, t.qtz c = a.qtz c := fun c => by unfold State.qtz; rw [hc]
  have hl : ∀ i, t.slot i = a.slot i := fun i => by unfold State.slot; rw [hs]
  refine ⟨hf.trans h.frames, hg.trans h.graphs, ?_, fun c => ?_, fun i => ?_⟩
  · rw [hp]
    exact h.geo
  · rw [hq]
    exact h.cores c
  · rw [hl]
    exact h.slots i

/-- An entry of a table whose values a function has mapped, or the default. -/
theorem look_tabMap {α : Type} (d : Nat → α) (f : α → α) (t : Tab α) (i : Nat) :
    look d (tabMap f t) i = f (look d t i) ∨ (look d (tabMap f t) i = d i ∧ look d t i = d i) := by
  induction t with
  | nil => exact .inr ⟨rfl, rfl⟩
  | cons x t ih =>
    obtain ⟨k, v⟩ := x
    have hm : look d (tabMap f ((k, v) :: t)) i = if i = k then f v else look d (tabMap f t) i := rfl
    have hl : look d ((k, v) :: t) i = if i = k then v else look d t i := rfl
    rw [hm, hl]
    by_cases h : i = k
    · rw [if_pos h, if_pos h]
      exact .inl rfl
    · rw [if_neg h, if_neg h]
      exact ih

/-- Entry `r` of a table that writes at the indices of a list have filled. -/
theorem look_foldl_put {α : Type} [DecidableEq α] (d : Nat → α) (f : Nat → α) {l : List Nat} {r : Nat} (t : Tab α)
    (h : r ∈ l ∨ look d t r = f r) : look d (l.foldl (fun t r => put d t r (f r)) t) r = f r := by
  induction l generalizing t with
  | nil => exact h.resolve_left List.not_mem_nil
  | cons x l ih =>
    refine ih _ ?_
    by_cases hx : r = x
    · rw [hx]
      exact .inr (look_put_eq t x _)
    · rw [look_put_ne t _ hx]
      exact h.imp_left fun hr => (List.mem_cons.1 hr).resolve_left hx

/-- The count that DTIME `v` moves every stored instant by. -/
def State.timeStep (s : State) (v : BitVec 64) : Int := (v.toNat : Int) - (s.now : Int)

theorem cores_loadTime (s : State) (v : BitVec 64) : (s.loadTime v).cores = tabMap (Core.shift (s.timeStep v)) s.cores := rfl

theorem slots_loadTime (s : State) (v : BitVec 64) : (s.loadTime v).slots = tabMap (Slot.shift (s.timeStep v)) s.slots := rfl

theorem rings_loadTime (s : State) (v : BitVec 64) : (s.loadTime v).rings =
    (List.range 32).foldl (fun t r => put (fun _ => {}) t r ((s.ring r).shift (s.timeStep v))) [] := rfl

theorem loadTime_moved (s : State) (v : BitVec 64) : TimeMoved s (s.loadTime v) := by
  refine ⟨rfl, rfl, rfl, fun c => ?_, fun i => ?_⟩
  · unfold State.qtz
    rw [cores_loadTime]
    rcases look_tabMap (fun _ => {}) (Core.shift (s.timeStep v)) s.cores c with h | ⟨h, h'⟩
    · rw [h]
      rfl
    · rw [h, h']
  · unfold State.slot
    rw [slots_loadTime]
    rcases look_tabMap (fun _ => {}) (Slot.shift (s.timeStep v)) s.slots i with h | ⟨h, h'⟩
    · rw [h]
      rfl
    · rw [h, h']

theorem ring_loadTime (s : State) (v : BitVec 64) {r : Nat} (hr : r < 32) :
    (s.loadTime v).ring r = (s.ring r).shift (s.timeStep v) := by
  unfold State.ring
  rw [rings_loadTime]
  exact look_foldl_put _ (fun r => (s.ring r).shift (s.timeStep v)) [] (.inl (List.mem_range.2 hr))

theorem answers_epochTileLoad {s : State} {k : Nat} (he : s.time.edge = some k) (hk : 64 ≤ k) (hs : s.time.stage = 1) :
    Answers .epochTileLoad s fun t =>
      t.time.dtime = s.time.epoch + BitVec.ofNat 64 (k - 64) ∧ t.time.sample = 0 ∧ t.time.stage = 2 ∧ t.regs = s.regs ∧
      TimeMoved s t ∧ ∀ r < 32, (t.ring r).epoch = true ∧ (t.ring r).recs = (s.ring r).recs := by
  have hx := execEpochTileLoad_due he hk hs
  generalize s.time.epoch + BitVec.ofNat 64 (k - 64) = v at hx ⊢
  refine answers_of_next hx rfl rfl rfl rfl ⟨rfl, rfl, rfl, rfl, ?_, fun r hr => ?_⟩
  · exact (loadTime_moved s v).congr rfl rfl rfl rfl rfl
  · have h : ((s.loadTime v).updTime fun t => { t with stage := 2 }).ring r = (s.loadTime v).ring r := rfl
    rw [h, ring_loadTime s v hr]
    exact ⟨rfl, rfl⟩

/-! The epoch is valid (02 R51, R55; 12 R376). -/

/-- From `s` to `t` only registers of the list `l` have changed. -/
structure RegsOnly (s t : State) (l : List Nat) : Prop where
  frame : t = { s with regs := t.regs }
  regs : RegsBut s t l

theorem RegsOnly.trans {a b c : State} {l : List Nat} (h1 : RegsOnly a b l) (h2 : RegsOnly b c l) : RegsOnly a c l := by
  refine ⟨?_, fun x hx => (h2.regs x hx).trans (h1.regs x hx)⟩
  rw [h2.frame, h1.frame]

theorem RegsOnly.setFld (s : State) (a hi lo v : Nat) : RegsOnly s (s.setFld a hi lo v) [a] :=
  ⟨rfl, fun x hx => reg_setFld_ne s hi lo v (by simpa using hx)⟩

/-- TIME_STAT where the epoch is valid. -/
def State.statValid (s : State) : State :=
  (((s.setBit TIME_STAT 1 true).setBit TIME_STAT 3 false).setBit TIME_STAT 4 false).setBit TIME_STAT 7 false

theorem bit_setBit_of (s : State) (a : Nat) {i : Nat} (v : Bool) (hi : i < 32) (j : Nat) :
    (s.setBit a i v).bit a j = if j = i then v else s.bit a j := by
  by_cases h : j = i
  · rw [if_pos h, h, bit_setBit s a i v hi]
  · rw [if_neg h, bit_setBit_ne s a i j v hi h]

theorem statValid_regs (s : State) : RegsOnly s s.statValid [TIME_STAT] :=
  ((RegsOnly.setFld s ..).trans (.setFld ..)).trans ((RegsOnly.setFld _ ..).trans (.setFld ..))

theorem statValid_bits (s : State) : s.statValid.bit TIME_STAT 1 = true ∧ s.statValid.bit TIME_STAT 3 = false ∧
    s.statValid.bit TIME_STAT 4 = false ∧ s.statValid.bit TIME_STAT 7 = false := by
  simp [State.statValid, bit_setBit_of]

/-- From `s` to `t` TIME packets wait at ports. -/
def SendsTime (s t : State) : Prop := t = { s with ports := t.ports }

theorem SendsTime.trans {a b c : State} (h1 : SendsTime a b) (h2 : SendsTime b c) : SendsTime a c := by
  unfold SendsTime
  rw [h2, h1]

theorem sendEpoch_sends (s : State) (q : Nat) : SendsTime s (s.sendEpoch q) := by
  unfold State.sendEpoch
  split
  · rfl
  · rfl

/-- From `s` to `t` the epoch has become valid. -/
structure EpochValid (s t : State) : Prop where
  frame : t = { s with regs := t.regs, ports := t.ports }
  regs : RegsBut s t [TIME_STAT]
  bits : t.bit TIME_STAT 1 = true ∧ t.bit TIME_STAT 3 = false ∧ t.bit TIME_STAT 4 = false ∧ t.bit TIME_STAT 7 = false

theorem epochValid_valid (s : State) : EpochValid s s.epochValid := by
  have hr := statValid_regs s
  have hb := statValid_bits s
  have he : s.epochValid = s.statValid.forEach (List.range s.statValid.nPort) State.sendEpoch := rfl
  rw [he]
  generalize s.statValid = a at hr hb ⊢
  have hs : SendsTime a (a.forEach (List.range a.nPort) State.sendEpoch) :=
    forEach_rel_mem (R := SendsTime) (fun _ => rfl) (fun _ _ _ => .trans) (fun t q _ => sendEpoch_sends t q) a
  generalize a.forEach (List.range a.nPort) State.sendEpoch = t at hs ⊢
  have hreg : ∀ x, t.reg x = a.reg x := fun x => by rw [hs]; rfl
  refine ⟨?_, fun x hx => (hreg x).trans (hr.regs x hx), ?_⟩
  · rw [hs, hr.frame]
  · rwa [bit_ne _ _ _ (hreg _), bit_ne _ _ _ (hreg _), bit_ne _ _ _ (hreg _), bit_ne _ _ _ (hreg _)]

/-- The load in progress has ended, and what is in flight from before it is discarded. -/
def State.loadEnd (s : State) : State :=
  (({ s.updTime fun t => { t with edge := none, stage := 0 } with dueq := [] } : State).updFab fun b =>
    { b with units := [], users := [] })

theorem execEpochValidSet_early {s : State} (h : s.loadAt 66 2 = false) : exec .epochValidSet s = .next s := by
  show answer s (if _ then _ else _) = _
  rw [if_neg (by simp [h]), answer_self]

theorem execEpochValidSet_due {s : State} (h : s.loadAt 66 2 = true) : exec .epochValidSet s = answer s s.loadEnd.epochValid := by
  show answer s (if _ then _ else _) = _
  rw [if_pos h]
  rfl

theorem answers_epochValidSet {s : State} (h : s.loadAt 66 2 = true) : Answers .epochValidSet s fun t =>
    t.bit TIME_STAT 1 = true ∧ t.bit TIME_STAT 3 = false ∧ t.bit TIME_STAT 4 = false ∧ t.bit TIME_STAT 7 = false ∧
    t.time = { s.time with edge := none, stage := 0 } ∧ RegsBut s t [TIME_STAT] ∧
    t = { s with regs := t.regs, time := t.time, fab := { s.fab with units := [], users := [] }, dueq := [], ports := t.ports } := by
  have hx := execEpochValidSet_due h
  obtain ⟨frame, regs, b1, b3, b4, b7⟩ := epochValid_valid s.loadEnd
  generalize s.loadEnd.epochValid = t at hx frame regs b1 b3 b4 b7
  refine answers_of_next hx ?_ ?_ ?_ ?_ ⟨b1, b3, b4, b7, ?_, regs, ?_⟩
  all_goals
    rw [frame]
    rfl

/-! A follower's load (02 R58; 12 R376). -/

/-- From `s` to `t` a follower has taken its parent's epoch `v`. -/
def State.followLoad (s : State) (v : BitVec 64) : State :=
  ((s.loadTime v).updTime fun t => { t with armed := false, follow := none }).updFab fun f => { f with freeN := s.fab.freeN + 1 }

/-- The fine skew takes the offset `d` of the boundaries, and the arm ends. -/
def State.followSkew (s : State) (d : Int) : State := (s.setBit TIME_CTRL 0 false).moveSkew d d

theorem execFollowerEpochLoad_idle {s : State} {v : BitVec 64} (hv : s.time.follow = some v)
    (h : s.allHold = false ∨ s.now < s.time.followAt + 1024) : exec .followerEpochLoad s = .next s := by
  simp only [exec, execFollowerEpochLoad, hv]
  rw [if_pos (by rcases h with h | h <;> simp [h]), answer_self]

theorem execFollowerEpochLoad_due {s : State} {v : BitVec 64} (hv : s.time.follow = some v) (hh : s.allHold = true)
    (hn : s.time.followAt + 1024 ≤ s.now) : exec .followerEpochLoad s = answer s
      ((s.followLoad v).followSkew (Config.boundaryOffset s.fab.freeN)).epochValid := by
  simp only [exec, execFollowerEpochLoad, hv]
  rw [if_neg (by simp [hh, hn])]
  rfl

theorem RegsBut.mono {s t : State} {l l' : List Nat} (h : RegsBut s t l) (hl : l ⊆ l') : RegsBut s t l' :=
  fun a ha => h a fun hm => ha (hl hm)

theorem RegsBut.trans {a b c : State} {l : List Nat} (h1 : RegsBut a b l) (h2 : RegsBut b c l) : RegsBut a c l :=
  fun x hx => (h2 x hx).trans (h1 x hx)

theorem moveSkew_frame (s : State) (step residual : Int) :
    s.moveSkew step residual =
      { s with regs := (s.moveSkew step residual).regs, time := { s.time with skew := s.time.skew - step } } ∧
    RegsBut s (s.moveSkew step residual) [TIME_SKEW] :=
  ⟨rfl, fun _ ha => reg_setN_ne _ _ (by simpa using ha)⟩

theorem followSkew_frame (s : State) (d : Int) :
    s.followSkew d = { s with regs := (s.followSkew d).regs, time := { s.time with skew := s.time.skew - d } } ∧
    RegsBut s (s.followSkew d) [TIME_CTRL, TIME_SKEW] := by
  have h1 := RegsOnly.setFld s TIME_CTRL 0 0 (bn false)
  obtain ⟨h2, r2⟩ := moveSkew_frame (s.setBit TIME_CTRL 0 false) d d
  refine ⟨?_, (h1.regs.mono (by simp)).trans (r2.mono (by simp))⟩
  unfold State.followSkew
  rw [h2]
  rfl

theorem followLoad_moved (s : State) (v : BitVec 64) : TimeMoved s (s.followLoad v) :=
  (loadTime_moved s v).congr rfl rfl rfl rfl rfl

theorem answers_followerEpochLoad {s : State} {v : BitVec 64} (hv : s.time.follow = some v) (hh : s.allHold = true)
    (hn : s.time.followAt + 1024 ≤ s.now) : Answers .followerEpochLoad s fun t =>
      t.time.dtime = v ∧ t.time.sample = 0 ∧ t.time.armed = false ∧ t.time.follow = none ∧ t.bit TIME_STAT 1 = true ∧
      t.time.skew = s.time.skew - Config.boundaryOffset s.fab.freeN ∧ RegsBut s t [TIME_CTRL, TIME_STAT, TIME_SKEW] ∧
      TimeMoved s t := by
  have hx := execFollowerEpochLoad_due hv hh hn
  generalize Config.boundaryOffset s.fab.freeN = d at hx ⊢
  have hm := followLoad_moved s v
  have ht : (s.followLoad v).time =
    { s.time.shift (s.timeStep v) with dtime := v, sample := 0, armed := false, follow := none } := rfl
  have hreg : ∀ x, (s.followLoad v).reg x = s.reg x := fun _ => rfl
  have hid : (s.followLoad v).pending = s.pending ∧ (s.followLoad v).variant = s.variant ∧
    (s.followLoad v).serial = s.serial ∧ (s.followLoad v).flash = s.flash := ⟨rfl, rfl, rfl, rfl⟩
  obtain ⟨hp, hva, hse, hfl⟩ := hid
  generalize s.followLoad v = a at hx hm ht hreg hp hva hse hfl
  obtain ⟨fb, rb⟩ := followSkew_frame a d
  generalize a.followSkew d = b at hx fb rb
  obtain ⟨frame, regs, b1, -⟩ := epochValid_valid b
  generalize b.epochValid = t at hx frame regs b1
  have htt : t.time = { a.time with skew := a.time.skew - d } := by rw [frame, fb]
  have hmt : TimeMoved s t := by refine hm.congr ?_ ?_ ?_ ?_ ?_ <;> rw [frame, fb]
  refine answers_of_next hx ?_ ?_ ?_ ?_ ⟨?_, ?_, ?_, ?_, b1, ?_, ?_, hmt⟩
  · rw [frame, fb, ← hp]
  · rw [frame, fb, ← hva]
  · rw [frame, fb, ← hse]
  · rw [frame, fb, ← hfl]
  · rw [htt, ht]
  · rw [htt, ht]
  · rw [htt, ht]
  · rw [htt, ht]
  · rw [htt, ht]
    rfl
  · have hr : RegsBut s a [TIME_CTRL, TIME_STAT, TIME_SKEW] := fun x _ => hreg x
    exact (hr.trans (rb.mono (by simp))).trans (regs.mono (by simp))

/-! The obligation. -/

theorem captureEdge_some {s : State} {k : Nat}
    (h : (s.bit TIME_CTRL 7 = true ∧ s.bit TIME_STAT 3 = false ∧ (s.time.armAt / 4 + 1) * 4 + k = s.now) ∨
      (s.bit TIME_CTRL 7 = false ∧ s.bit TIME_CTRL 1 = false ∧ s.bit TIME_STAT 3 = false ∧ s.now % 4 = 0 ∧
        s.time.armAt < s.now ∧ k = 0) ∨
      ((s.bit TIME_CTRL 7 = true ∨ s.bit TIME_CTRL 1 = false) ∧ s.bit TIME_STAT 3 = true ∧ k = 0)) :
    s.captureEdge = some k ∧ (s.bit TIME_CTRL 7 = true ∨ s.bit TIME_CTRL 1 = false) := by
  unfold State.captureEdge
  rcases h with ⟨h7, h3, hk⟩ | ⟨h7, h1, h3, h4, ha, rfl⟩ | ⟨hs, h3, rfl⟩
  · refine ⟨?_, .inl h7⟩
    rw [if_neg (by simp [h3]), if_pos h7, if_pos (by omega)]
    congr 1
    omega
  · refine ⟨?_, .inr h1⟩
    rw [if_neg (by simp [h3]), if_neg (by simp [h7]), if_pos ⟨h4, ha⟩]
  · exact ⟨if_pos h3, hs⟩

theorem captureEdge_soft_early {s : State} (h7 : s.bit TIME_CTRL 7 = true) (h3 : s.bit TIME_STAT 3 = false)
    (h : s.now < (s.time.armAt / 4 + 1) * 4) : s.captureEdge = none := by
  unfold State.captureEdge
  rw [if_neg (by simp [h3]), if_pos h7, if_neg (by omega)]

theorem captureEdge_sync_off {s : State} (h7 : s.bit TIME_CTRL 7 = false) (h3 : s.bit TIME_STAT 3 = false)
    (h : s.now % 4 ≠ 0 ∨ s.now ≤ s.time.armAt) : s.captureEdge = none := by
  unfold State.captureEdge
  rw [if_neg (by simp [h3]), if_neg (by simp [h7]), if_neg (by omega)]

theorem Answers.mono {c : Instr} {s : State} {P Q : State → Prop} (h : Answers c s P) (hq : ∀ t, P t → Q t) : Answers c s Q := by
  obtain ⟨t, hx, hp⟩ := h
  exact ⟨t, hx, hq t hp⟩

/-- Settles O40, command by command, from the arm to the follower's load. -/
theorem epochLoad : Obligations.EpochLoad := by
  intro s d moved
  have hmoved : ∀ t, TimeMoved s t → moved t := fun t h =>
    ⟨h.frames, h.graphs, h.geo, fun c => h.cores c.val, fun i => h.slots i.val⟩
  clear_value moved
  refine ⟨fun ho hd => answers_epochArm ho hd, ?capture, fun h => execEpochCapture_none (.inl h), fun k he => ?course,
    fun hf hn => execSyncOutGenerate_due hf hn, fun h => execSyncOutGenerate_off h, fun v hv => ?follow⟩
  case capture =>
    intro soft first
    refine ⟨fun k ha he h => ?_, fun h7 h3 hn => ?_, fun h7 h1 => ?_, fun h7 h3 hn => ?_⟩
    · obtain ⟨hk, hs⟩ := captureEdge_some h
      exact answers_epochCapture ha he hs hk
    · exact execEpochCapture_none (.inr (.inr (captureEdge_soft_early h7 h3 hn)))
    · exact execEpochCapture_none (.inr (.inl ⟨h7, h1⟩))
    · exact execEpochCapture_none (.inr (.inr (captureEdge_sync_off h7 h3 hn)))
  case course =>
    refine ⟨fun hk hs => execEpochLoadCommand_due (loadAt_some he hk hs),
      fun hk => execEpochLoadCommand_early (loadAt_early he hk),
      fun hk hs hr hf => execSyncOutRepeat_due (loadAt_some he hk hs) hr hf, fun hk => execEpochTileLoad_early he hk,
      fun hk hs => ?_, fun hk => execEpochValidSet_early (loadAt_early he hk),
      fun hk hs => answers_epochValidSet (loadAt_some he hk hs)⟩
    refine (answers_epochTileLoad he hk hs).mono fun t ⟨hd, hsm, hst, hregs, hm, hring⟩ => ?_
    exact ⟨hd, hsm, hst, hregs, hmoved t hm, fun r => hring r.val r.isLt⟩
  case follow =>
    refine ⟨fun h => execFollowerEpochLoad_idle hv h, fun hh hn => ?_⟩
    refine (answers_followerEpochLoad hv hh hn).mono fun t ⟨hd, hsm, ha, hf, hb, hsk, hregs, hm⟩ => ?_
    exact ⟨hd, hsm, ha, hf, hb, hsk, hregs, hmoved t hm⟩

end Sys2Proof.Machine

namespace Sys2Proof.Machine

/-! The stages of the boot (02 R48; 17 R482, R485): what holds at every stage. -/

theorem inStage_iff {s : State} {k : Nat} : s.inStage k = true ↔ s.mode = .boot ∧ s.heldOff = false ∧ s.bootStage = k := by
  simp [State.inStage, and_assoc]

/-- From `s` to `t` the queue, the fuses, the flash, the partitions and the mode stay. -/
structure BootKeep (s t : State) : Prop where
  pending : t.pending = s.pending
  variant : t.variant = s.variant
  serial : t.serial = s.serial
  flash : t.flash = s.flash
  parts : t.parts = s.parts
  mode : t.mode = s.mode

namespace BootKeep

theorem refl (s : State) : BootKeep s s := ⟨rfl, rfl, rfl, rfl, rfl, rfl⟩

theorem trans {a b c : State} (h1 : BootKeep a b) (h2 : BootKeep b c) : BootKeep a c :=
  ⟨h2.pending.trans h1.pending, h2.variant.trans h1.variant, h2.serial.trans h1.serial, h2.flash.trans h1.flash,
    h2.parts.trans h1.parts, h2.mode.trans h1.mode⟩

theorem of_regs {s t : State} (h : t = { s with regs := t.regs }) : BootKeep s t := by
  rw [h]
  exact ⟨rfl, rfl, rfl, rfl, rfl, rfl⟩

theorem setFld (s : State) (a hi lo v : Nat) : BootKeep s (s.setFld a hi lo v) := of_regs rfl

theorem setN (s : State) (a v : Nat) : BootKeep s (s.setN a v) := of_regs rfl

theorem updBoot (s : State) (f : Boot → Boot) : BootKeep s (s.updBoot f) := ⟨rfl, rfl, rfl, rfl, rfl, rfl⟩

theorem updMem (s : State) (f : Mem → Mem) : BootKeep s (s.updMem f) := ⟨rfl, rfl, rfl, rfl, rfl, rfl⟩

theorem answers {c : Instr} {s t : State} {P : State → Prop} (h : BootKeep s t) (hx : exec c s = answer s t) (hp : P t) :
    Answers c s P :=
  answers_of_next hx h.pending h.variant h.serial h.flash hp

end BootKeep

theorem bootStage_toStage (s : State) {k : Nat} (h : k < 16) : (s.toStage k).bootStage = k :=
  (fld_setFld s BOOT_STAT 3 0 k (by decide) (by decide)).trans (Nat.mod_eq_of_lt h)

theorem toStage_regs (s : State) (k : Nat) : RegsOnly s (s.toStage k) [BOOT_STAT] := .setFld ..

/-- The boot has moved on from `s` to stage `k`. -/
structure BootMoves (s t : State) (k : Nat) : Prop where
  mode : t.mode = .boot
  stage : t.bootStage = k
  flash : t.flash = s.flash
  parts : t.parts = s.parts

theorem BootKeep.toStage {s a : State} (h : BootKeep s a) (k : Nat) : BootKeep s (a.toStage k) := h.trans (.setFld ..)

theorem BootKeep.moves {s a : State} (h : BootKeep s a) (hb : s.mode = .boot) {k : Nat} (hk : k < 16) :
    BootMoves s (a.toStage k) k :=
  ⟨(h.toStage k).mode.trans hb, bootStage_toStage a hk, (h.toStage k).flash, (h.toStage k).parts⟩

/-! The end in BOOT_FAILED (17 R482, R483). -/

/-- From `s` to `t` the boot has failed with `code` and `detail`. -/
structure BootFails (s t : State) (code detail : Nat) : Prop where
  frame : t = { s with regs := t.regs, biases := t.biases, mode := t.mode }
  mode : t.mode = .failed
  stage : t.bootStage = 14
  code : t.fld BOOT_STAT 11 4 = code % 256
  detail : t.regN BOOT_DETAIL = detail % 2 ^ 32
  clamped : ∀ n < 128, t.biasState n = bClamped
  high : ∀ i, 12 ≤ i → t.bit BOOT_STAT i = s.bit BOOT_STAT i
  regs : ∀ a < 0x40000, a ≠ BOOT_STAT → a ≠ BOOT_DETAIL → t.reg a = s.reg a

theorem biasStat_ne {k n : Nat} (h : k ≠ n) : BIAS_STAT k ≠ BIAS_STAT n := by
  unfold BIAS_STAT
  omega

theorem biasState_biasClamp (s : State) (n : Nat) : (s.biasClamp n).biasState n = bClamped := by
  unfold State.biasClamp State.biasState
  extract_lets a
  refine (fld_setFld_disj (a.setBiasState n bClamped) (BIAS_STAT n) 5 5 _ 2 0 (by decide) (by decide) (by decide)).trans ?_
  exact fld_setFld a (BIAS_STAT n) 2 0 bClamped (by decide) (by decide)

theorem biasClamp_clamped (s : State) {k n : Nat} (h : s.biasState n = bClamped) : (s.biasClamp k).biasState n = bClamped := by
  by_cases hk : n = k
  · rw [hk]
    exact biasState_biasClamp s k
  · rw [← h]
    exact fld_ne _ _ _ _ ((BiasWork.biasClamp s k).regs _ (by simpa using biasStat_ne hk))

theorem clampAll (s : State) : BiasesWork s (s.forEach (List.range 128) State.biasClamp) ∧
    ∀ n < 128, (s.forEach (List.range 128) State.biasClamp).biasState n = bClamped := by
  refine ⟨forEach_rel_mem .refl (fun _ _ _ => .trans) (fun t n _ => (BiasWork.biasClamp t n).biasesWork) s, fun n hn => ?_⟩
  exact forEach_reaches (P := fun t => t.biasState n = bClamped) (f := State.biasClamp) (List.mem_range.2 hn)
    (fun t => biasState_biasClamp t n) (fun t k _ h => biasClamp_clamped t h) s

theorem bootFail_fails (s : State) (code detail : Nat) : BootFails s (s.bootFail code detail) code detail := by
  have hx : s.bootFail code detail = { (((s.toStage 14).setFld BOOT_STAT 11 4 code).setN BOOT_DETAIL detail).forEach
    (List.range 128) State.biasClamp with mode := .failed } := rfl
  rw [hx]
  have h1 := toStage_regs s 14
  have s1 := bootStage_toStage s (k := 14) (by decide)
  have g1 : ∀ i, 12 ≤ i → (s.toStage 14).bit BOOT_STAT i = s.bit BOOT_STAT i := fun i hi =>
    bit_setFld_disj s BOOT_STAT 3 0 14 i (by decide) (by decide) (by omega)
  generalize s.toStage 14 = a at h1 s1 g1 ⊢
  have h2 := RegsOnly.setFld a BOOT_STAT 11 4 code
  have s2 : (a.setFld BOOT_STAT 11 4 code).bootStage = a.bootStage :=
    fld_setFld_disj a BOOT_STAT 11 4 code 3 0 (by decide) (by decide) (by decide)
  have c2 : (a.setFld BOOT_STAT 11 4 code).fld BOOT_STAT 11 4 = code % 256 := fld_setFld a _ _ _ _ (by decide) (by decide)
  have g2 : ∀ i, 12 ≤ i → (a.setFld BOOT_STAT 11 4 code).bit BOOT_STAT i = a.bit BOOT_STAT i := fun i hi =>
    bit_setFld_disj a BOOT_STAT 11 4 code i (by decide) (by decide) (by omega)
  generalize a.setFld BOOT_STAT 11 4 code = b at h2 s2 c2 g2 ⊢
  have f3 : b.setN BOOT_DETAIL detail = { b with regs := (b.setN BOOT_DETAIL detail).regs } := rfl
  have r3 : ∀ x, x ≠ BOOT_DETAIL → (b.setN BOOT_DETAIL detail).reg x = b.reg x := fun x hx => reg_setN_ne b detail hx
  have d3 := regN_setN b BOOT_DETAIL detail
  generalize b.setN BOOT_DETAIL detail = c at f3 r3 d3 ⊢
  obtain ⟨h4, k4⟩ := clampAll c
  generalize c.forEach (List.range 128) State.biasClamp = d at h4 k4 ⊢
  have hd : d.reg BOOT_STAT = b.reg BOOT_STAT := (h4.regs _ (by decide)).trans (r3 _ (by decide))
  have hdd : d.reg BOOT_DETAIL = c.reg BOOT_DETAIL := h4.regs _ (by decide)
  refine ⟨?_, rfl, ?_, ?_, ?_, k4, fun i hi => ?_, fun x hx h1' h2' => ?_⟩
  · rw [h4.frame, f3, h2.frame, h1.frame]
  · exact (fld_ne b { d with mode := .failed } 3 0 hd).trans (s2.trans s1)
  · exact (fld_ne b { d with mode := .failed } 11 4 hd).trans c2
  · exact (congrArg BitVec.toNat hdd).trans d3
  · exact (bit_ne b { d with mode := .failed } i hd).trans ((g2 i hi).trans (g1 i hi))
  · exact (h4.regs x hx).trans ((r3 x h2').trans ((h2.regs x (by simpa using h1')).trans (h1.regs x (by simpa using h1'))))

/-- What a failed stage answers, from a state `a` that keeps what no stage changes. -/
theorem answers_bootFail {c : Instr} {s a : State} {code detail : Nat} {P : State → Prop} (h : BootKeep s a)
    (hx : exec c s = answer s (a.bootFail code detail)) (hp : ∀ t, BootFails a t code detail → t.flash = s.flash → P t) :
    Answers c s P := by
  have hf := bootFail_fails a code detail
  generalize a.bootFail code detail = t at hx hf
  have keep : t.pending = a.pending ∧ t.variant = a.variant ∧ t.serial = a.serial ∧ t.flash = a.flash := by
    rw [hf.frame]
    exact ⟨rfl, rfl, rfl, rfl⟩
  obtain ⟨h1, h2, h3, h4⟩ := keep
  exact answers_of_next hx (h1.trans h.pending) (h2.trans h.variant) (h3.trans h.serial) (h4.trans h.flash)
    (hp t hf (h4.trans h.flash))

/-! Stages PLL, FLASH and D2D (02 R48; 17 R471, R481, R482). -/

theorem answers_bootPll {s : State} (h : s.inStage 1 = true) : Answers (.bootPll true true) s fun t =>
    BootMoves s t 2 ∧ t.bit TIME_STAT 0 = true ∧ RegsBut s t [TIME_STAT, BOOT_STAT] ∧ t = { s with regs := t.regs } := by
  have hx : exec (.bootPll true true) s = answer s ((s.setBit TIME_STAT 0 true).toStage 2) := by
    show answer s (if _ then _ else _) = _
    rw [if_neg (by simp [h])]
    rfl
  have h1 := RegsOnly.setFld s TIME_STAT 0 0 (bn true)
  have hb : (s.setBit TIME_STAT 0 true).bit TIME_STAT 0 = true := bit_setBit s _ _ _ (by decide)
  change RegsOnly s (s.setBit TIME_STAT 0 true) [TIME_STAT] at h1
  generalize s.setBit TIME_STAT 0 true = a at hx h1 hb
  have h2 := toStage_regs a 2
  have hk := BootKeep.of_regs h1.frame
  refine (hk.toStage 2).answers hx ⟨hk.moves (inStage_iff.1 h).1 (by decide), ?_, ?_, ?_⟩
  · rw [bit_ne _ _ _ (h2.regs _ (by decide)), hb]
  · exact (h1.regs.mono (by simp)).trans (h2.regs.mono (by simp))
  · rw [h2.frame, h1.frame]

theorem execBootPll_fails {s : State} (h : s.inStage 1 = true) {r l : Bool} (hb : (r && l) = false) :
    exec (.bootPll r l) s = answer s (s.bootFail 1 (Config.bootDetail 1)) := by
  show answer s (if _ then _ else if _ then _ else _) = _
  rw [if_neg (by simp [h]), if_neg (by simp [hb])]

theorem execBootFlash_fails {s : State} (h : s.inStage 2 = true) (id : Word) :
    exec (.bootFlash false id) s = answer s (s.bootFail 2 (Config.bootDetail 2)) := by
  show answer s (if _ then _ else if _ then _ else _) = _
  rw [if_neg (by simp [h])]
  rfl

theorem execBootFlash_passes {s : State} (h : s.inStage 2 = true) (id : Word) : exec (.bootFlash true id) s = answer s
    (((s.setN BOOT_FLID (id.toNat % 2 ^ 24)).setBit BOOT_STAT 12 (s.boot.warm && s.bit BOOT_CTRL 0)).takeHalf.toStage 3) := by
  show answer s (if _ then _ else if _ then _ else _) = _
  rw [if_neg (by simp [h]), if_neg (by decide)]

theorem bootSlot_iff (s : State) : s.bootSlot = 1 ↔ s.bit BOOT_STAT 12 = true := by
  rw [bit_eq_fld]
  exact beq_iff_eq.symm

theorem calHalf_congr {s t : State} (h : t.flash = s.flash) (k : Nat) : t.calHalf k = s.calHalf k := by
  unfold State.calHalf State.halfGen
  rw [h]

/-- The half of the calibration area of the slot in BOOT_STAT is noted. -/
theorem takeHalf_frame (s : State) :
    s.takeHalf = { s with boot := { s.boot with half := s.takeHalf.boot.half, gen := s.takeHalf.boot.gen } } ∧
    s.takeHalf.boot.half = (s.calHalf s.bootSlot).map (·.1) := ⟨rfl, rfl⟩

theorem answers_bootFlash {s : State} (h : s.inStage 2 = true) (id : Word) : Answers (.bootFlash true id) s fun t =>
    BootMoves s t 3 ∧ t.regN BOOT_FLID = id.toNat % 2 ^ 24 ∧
    (t.bootSlot = 1 ↔ s.boot.warm = true ∧ s.bit BOOT_CTRL 0 = true) ∧
    t.boot.half = (t.calHalf t.bootSlot).map (·.1) ∧ RegsBut s t [BOOT_FLID, BOOT_STAT] ∧
    t = { s with regs := t.regs, boot := { s.boot with half := t.boot.half, gen := t.boot.gen } } := by
  have hx := execBootFlash_passes h id
  have f1 : s.setN BOOT_FLID (id.toNat % 2 ^ 24) = { s with regs := (s.setN BOOT_FLID (id.toNat % 2 ^ 24)).regs } := rfl
  have r1 : RegsBut s (s.setN BOOT_FLID (id.toNat % 2 ^ 24)) [BOOT_FLID] := fun x hx => reg_setN_ne s _ (by simpa using hx)
  have n1 : (s.setN BOOT_FLID (id.toNat % 2 ^ 24)).regN BOOT_FLID = id.toNat % 2 ^ 24 := by
    rw [regN_setN]
    exact Nat.mod_eq_of_lt ((Nat.mod_lt _ (by decide)).trans (by decide))
  generalize s.setN BOOT_FLID (id.toNat % 2 ^ 24) = a at hx f1 r1 n1
  generalize hv : (s.boot.warm && s.bit BOOT_CTRL 0) = v at hx
  have h2 := RegsOnly.setFld a BOOT_STAT 12 12 (bn v)
  have b2 : (a.setBit BOOT_STAT 12 v).bit BOOT_STAT 12 = v := bit_setBit a _ _ _ (by decide)
  change RegsOnly a (a.setBit BOOT_STAT 12 v) _ at h2
  generalize a.setBit BOOT_STAT 12 v = b at hx h2 b2
  obtain ⟨f3, half3⟩ := takeHalf_frame b
  have r3 : ∀ x, b.takeHalf.reg x = b.reg x := fun _ => rfl
  generalize b.takeHalf = c at hx f3 half3 r3
  have f4 := toStage_regs c 3
  have s4 := bootStage_toStage c (k := 3) (by decide)
  have b4 : (c.toStage 3).bit BOOT_STAT 12 = c.bit BOOT_STAT 12 :=
    bit_setFld_disj c BOOT_STAT 3 0 3 12 (by decide) (by decide) (by decide)
  have hslot : (c.toStage 3).bootSlot = c.bootSlot :=
    fld_setFld_disj c BOOT_STAT 3 0 3 12 12 (by decide) (by decide) (by decide)
  have hk : BootKeep s c := by
    rw [f3, h2.frame, f1]
    exact ⟨rfl, rfl, rfl, rfl, rfl, rfl⟩
  have hm := hk.moves (inStage_iff.1 h).1 (k := 3) (by decide)
  generalize c.toStage 3 = t at hx f4 s4 b4 hslot hm
  have hcb : c.bootSlot = b.bootSlot := fld_ne b c 12 12 (r3 _)
  have hfb : t.flash = b.flash := by rw [f4.frame, f3]
  refine (hk.trans (.of_regs f4.frame)).answers hx ⟨hm, ?_, ?_, ?_, ?_, ?_⟩
  · rw [← n1]
    unfold State.regN
    rw [f4.regs _ (by decide), r3, h2.regs _ (by decide)]
  · rw [bootSlot_iff, b4, bit_ne _ _ _ (r3 _), b2, ← hv, Bool.and_eq_true]
  · rw [hslot, hcb, calHalf_congr hfb, ← half3, f4.frame]
  · have hr : RegsBut b c [BOOT_FLID, BOOT_STAT] := fun x _ => r3 x
    exact (((r1.mono (by simp)).trans (h2.regs.mono (by simp))).trans hr).trans (f4.regs.mono (by simp))
  · rw [f4.frame, f3, h2.frame, f1]

theorem execBootD2d_passes {s : State} (h : s.inStage 3 = true) : exec (.bootD2d none) s = answer s (s.toStage 4) := by
  show answer s (if _ then _ else _) = _
  rw [if_neg (by simp [h])]

theorem execBootD2d_fails {s : State} (h : s.inStage 3 = true) (d : Fin 5) :
    exec (.bootD2d (some d)) s = answer s (s.bootFail 3 d.val) := by
  show answer s (if _ then _ else _) = _
  rw [if_neg (by simp [h])]

theorem answers_bootD2d {s : State} (h : s.inStage 3 = true) : Answers (.bootD2d none) s fun t =>
    BootMoves s t 4 ∧ RegsBut s t [BOOT_STAT] ∧ t = { s with regs := t.regs } := by
  have hk := BootKeep.refl s
  exact (hk.toStage 4).answers (execBootD2d_passes h)
    ⟨hk.moves (inStage_iff.1 h).1 (by decide), (toStage_regs s 4).regs, (toStage_regs s 4).frame⟩

/-! Stage LOCK (17 R485). -/

theorem answers_bootLock {s : State} (h : s.inStage 6 = true) : Answers .bootLock s fun t =>
    BootMoves s t 7 ∧ t.bit GLB_STAT 3 = true ∧ t.boot = { s.boot with overrides := [] } ∧
    RegsBut s t [GLB_STAT, BOOT_STAT] ∧ t = { s with regs := t.regs, boot := t.boot } := by
  have hx : exec .bootLock s =
      answer s (((s.setBit GLB_STAT 3 true).updBoot fun b => { b with overrides := [] }).toStage 7) := by
    show answer s (if _ then _ else _) = _
    rw [if_pos h]
  have h1 := RegsOnly.setFld s GLB_STAT 3 3 (bn true)
  have b1 : (s.setBit GLB_STAT 3 true).bit GLB_STAT 3 = true := bit_setBit s _ _ _ (by decide)
  change RegsOnly s (s.setBit GLB_STAT 3 true) _ at h1
  generalize s.setBit GLB_STAT 3 true = a at hx h1 b1
  have h2 := toStage_regs (a.updBoot fun b => { b with overrides := [] }) 7
  have hk : BootKeep s (a.updBoot fun b => { b with overrides := [] }) := (BootKeep.of_regs h1.frame).trans (.updBoot ..)
  refine (hk.toStage 7).answers hx ⟨hk.moves (inStage_iff.1 h).1 (by decide), ?_, ?_, ?_, ?_⟩
  · rw [bit_ne _ _ _ (h2.regs _ (by decide)), bit_updBoot, b1]
  · rw [h2.frame, h1.frame]
    rfl
  · exact (h1.regs.mono (by simp)).trans (h2.regs.mono (by simp))
  · rw [h2.frame, h1.frame]
    rfl

/-! The overrides (17 R484). -/

/-- Every register word whose write may be an override is one that PF0 holds. -/
theorem word_of_hasRwl {off : Nat} (h : hasRwl off = true) :
    (off % 4 == 0 && ((pf0Row off).isSome || (micaWindow off && micaWord off))) = true := by
  unfold hasRwl at h
  cases hr : pf0Row off with
  | none => simp_all
  | some r => simp_all

theorem overrideLost_eq (s : State) :
    s.overrideLost = s.setN BOOT_OVRCNT (min (s.regN BOOT_OVRCNT + 1) (2 ^ 32 - 1)) := by
  unfold State.overrideLost State.inc
  rw [satAdd_one]

theorem execConfigOverride_rwl {s : State} {off : BitVec 26} (h : hasRwl off.toNat = true) (d : Word) :
    exec (.configOverride off d) s = answer s (s.earlyWrite off.toNat d) := congrArg (answer s) (if_pos h)

theorem execConfigOverride_idle {s : State} {off : BitVec 26} {d : Word}
    (h : hasRwl off.toNat = false ∨ s.heldOff = true ∨ s.opened) : exec (.configOverride off d) s = .next s := by
  by_cases hr : hasRwl off.toNat = true
  · rw [execConfigOverride_rwl hr]
    refine (congrArg (answer s) (if_pos ?_)).trans (answer_self s)
    rcases h with h | h | ⟨h0, hb, hf⟩
    · simp [hr] at h
    · simp [h]
    · simp [hb, hf]
  · exact (congrArg (answer s) (if_neg hr)).trans (answer_self s)

theorem earlyWrite_override {s : State} {off : Nat} (hr : hasRwl off = true) (hm : s.mode = .boot) (hh : s.heldOff = false)
    (hs : s.bootStage ≤ 5) (d : Word) : s.earlyWrite off d = s.override off d := by
  unfold State.earlyWrite
  extract_lets word own
  rw [if_neg (by simp [hh, hm]), if_pos (by simp [State.isOverride, hm, hh, hs, hr])]

theorem earlyWrite_locked {s : State} {off : Nat} (hr : hasRwl off = true) (hh : s.heldOff = false)
    (hm : s.mode = .failed ∨ (s.mode = .boot ∧ 5 < s.bootStage)) (d : Word) :
    s.earlyWrite off d = if off / 0x10000 = 0 ∨ off / 0x10000 = 2 then s else s.overrideLost := by
  have hmode : ¬ (s.heldOff || (s.mode != .boot && s.mode != .failed)) = true := by rcases hm with hm | ⟨hm, _⟩ <;> simp [hh, hm]
  have hover : ¬ s.isOverride off = true := by
    rcases hm with hm | ⟨hm, hs⟩
    · simp [State.isOverride, hm]
    · simp [State.isOverride, hs]
  have hown : (decide (off ≤ 0xFFFF) || (decide (0x20000 ≤ off) && decide (off ≤ 0x2FFFF))) = true ↔
      (off / 0x10000 = 0 ∨ off / 0x10000 = 2) := by
    simp only [Bool.or_eq_true, Bool.and_eq_true, decide_eq_true_eq]
    omega
  unfold State.earlyWrite
  extract_lets word own
  have hw : word = true := word_of_hasRwl hr
  rw [if_neg hmode, if_neg hover, hw]
  by_cases ho : off / 0x10000 = 0 ∨ off / 0x10000 = 2
  · have : own = true := hown.2 ho
    rw [if_pos ho, if_neg (by simp [this])]
  · have : own = false := Bool.eq_false_iff.2 fun h => ho (hown.1 h)
    rw [if_neg ho, if_pos (by simp [this])]

/-- What CONFIG_OVERRIDE does in every state. -/
theorem configOverrides (s : State) (off : BitVec 26) (d : Word) :
    (hasRwl off.toNat = true → s.mode = .boot → s.heldOff = false → s.bootStage ≤ 5 →
      (s.boot.overrides.length < 256 → exec (.configOverride off d) s = .next { s with
        boot := { s.boot with overrides := s.boot.overrides ++ [(off.toNat, d)] } }) ∧
      (256 ≤ s.boot.overrides.length → exec (.configOverride off d) s =
        .next (s.setN BOOT_OVRCNT (min (s.regN BOOT_OVRCNT + 1) (2 ^ 32 - 1))))) ∧
    (hasRwl off.toNat = true → s.heldOff = false → s.mode = .failed ∨ (s.mode = .boot ∧ 5 < s.bootStage) →
      exec (.configOverride off d) s = .next (if off.toNat / 0x10000 = 0 ∨ off.toNat / 0x10000 = 2 then s
        else s.setN BOOT_OVRCNT (min (s.regN BOOT_OVRCNT + 1) (2 ^ 32 - 1)))) ∧
    (hasRwl off.toNat = false ∨ s.heldOff = true ∨ s.opened → exec (.configOverride off d) s = .next s) := by
  refine ⟨fun hr hm hh hs => ?_, fun hr hh hm => ?_, execConfigOverride_idle⟩
  · rw [execConfigOverride_rwl hr, earlyWrite_override hr hm hh hs]
    unfold State.override
    refine ⟨fun hl => ?_, fun hl => ?_⟩
    · rw [if_pos hl]
      rfl
    · rw [if_neg (by omega), overrideLost_eq]
      rfl
  · rw [execConfigOverride_rwl hr, earlyWrite_locked hr hh hm, overrideLost_eq]
    split
    · exact answer_self s
    · rfl

end Sys2Proof.Machine

namespace Sys2Proof.Machine

/-! Stage DDR (11 R338 to R340). -/

/-- What the device takes of the training of channel `c`: its record counts only where one may be used. -/
def trainedOf (chans : List ChTrain) (r : Bool) (c : Nat) : ChTrain :=
  { chans.getD c {} with fromRecord := (chans.getD c {}).fromRecord && r }

/-- The channels' status after training, from `s` to `t`. -/
structure TrainWork (s t : State) : Prop where
  frame : t = { s with regs := t.regs, mem := t.mem }
  regs : ∀ a, a < 0x300000 ∨ 0x308000 ≤ a → t.reg a = s.reg a

namespace TrainWork

theorem refl (s : State) : TrainWork s s := ⟨rfl, fun _ _ => rfl⟩

theorem trans {a b c : State} (h1 : TrainWork a b) (h2 : TrainWork b c) : TrainWork a c := by
  refine ⟨?_, fun x hx => (h2.regs x hx).trans (h1.regs x hx)⟩
  rw [h2.frame, h1.frame]

theorem setFld (s : State) {a : Nat} (hi lo v : Nat) (h : 0x300000 ≤ a ∧ a < 0x308000) : TrainWork s (s.setFld a hi lo v) :=
  ⟨rfl, fun x hx => reg_setFld_ne s hi lo v (by omega)⟩

theorem updMem (s : State) (f : Mem → Mem) : TrainWork s (s.updMem f) := ⟨rfl, fun _ _ => rfl⟩

theorem keep {s t : State} (h : TrainWork s t) : BootKeep s t := by
  rw [h.frame]
  exact ⟨rfl, rfl, rfl, rfl, rfl, rfl⟩

end TrainWork

/-- Channel `c` shows the step `k` at which its training failed. -/
def State.Trained (s : State) (c : Nat) (k : Fin 8) : Prop :=
  s.fld (MEM_CHSTAT c) 6 3 = k.val ∧ s.bit (MEM_CHSTAT c) 1 = (k.val == 0)

theorem trainChan_work (s : State) {c : Nat} (hc : c < 8) (x : ChTrain) : TrainWork s (s.trainChan c x) := by
  have ha : 0x300000 ≤ MEM_CHSTAT c ∧ MEM_CHSTAT c < 0x308000 := by
    unfold MEM_CHSTAT
    omega
  unfold State.trainChan
  exact ((((TrainWork.setFld s _ _ _ ha).trans (.setFld _ _ _ _ ha)).trans (.setFld _ _ _ _ ha)).trans
    (.setFld _ _ _ _ ha)).trans (.setFld _ _ _ _ ha)

theorem trainChan_trained (s : State) (c : Nat) (x : ChTrain) : (s.trainChan c x).Trained c x.failStep := by
  unfold State.trainChan State.Trained
  extract_lets a b
  have hb : b.fld a 6 3 = x.failStep.val ∧ b.bit a 1 = (x.failStep.val == 0) := by
    constructor
    · refine (fld_setFld_disj _ a 7 7 _ 6 3 (by decide) (by decide) (by decide)).trans ?_
      refine (fld_setFld _ a 6 3 _ (by decide) (by decide)).trans (Nat.mod_eq_of_lt ?_)
      exact x.failStep.isLt.trans (by decide)
    · refine (bit_setFld_disj _ a 7 7 _ 1 (by decide) (by decide) (by decide)).trans ?_
      refine (bit_setFld_disj _ a 6 3 _ 1 (by decide) (by decide) (by decide)).trans ?_
      rw [bit_setBit_of _ a _ (by decide), if_neg (by decide), bit_setBit _ a 1 _ (by decide)]
  clear_value b
  refine ⟨?_, ?_⟩
  · rw [← hb.1]
    exact fld_setFld_disj b a 9 9 _ 6 3 (by decide) (by decide) (by decide)
  · rw [← hb.2]
    exact bit_setBit_ne b a 9 1 _ (by decide) (by decide)

theorem trainChan_other (s : State) {c d : Nat} (h : d ≠ c) (x : ChTrain) : (s.trainChan c x).reg (MEM_CHSTAT d) = s.reg (MEM_CHSTAT d) := by
  have hne : MEM_CHSTAT d ≠ MEM_CHSTAT c := by
    unfold MEM_CHSTAT
    omega
  unfold State.trainChan
  extract_lets a b
  have hb : b.reg (MEM_CHSTAT d) = s.reg (MEM_CHSTAT d) := by
    refine (reg_setFld_ne _ _ _ _ hne).trans ((reg_setFld_ne _ _ _ _ hne).trans ?_)
    exact (reg_setFld_ne _ _ _ _ hne).trans (reg_setFld_ne _ _ _ _ hne)
  exact (reg_setFld_ne b _ _ _ hne).trans hb

theorem nChan_le (s : State) : s.nChan ≤ 8 := by
  have := nOch_le s
  unfold State.nChan
  omega

/-- One pass of the training. -/
def State.trainPass (s : State) (x : Nat × ChTrain) : State := s.trainChan x.1 x.2

theorem trainAll_trained (s : State) (l : List ChTrain) : TrainWork s (s.trainAll l) ∧
    ∀ c < s.nChan, (s.trainAll l).Trained c (l.getD c {}).failStep := by
  have hx : s.trainAll l = (if ((List.range s.nChan).map fun c => (c, l.getD c {})).any fun x => !x.2.fromRecord && x.2.changed then
      (s.forEach ((List.range s.nChan).map fun c => (c, l.getD c {})) State.trainPass).updMem fun m => { m with rewrite := true }
    else s.forEach ((List.range s.nChan).map fun c => (c, l.getD c {})) State.trainPass) := rfl
  rw [hx]
  have hm : ∀ x ∈ (List.range s.nChan).map (fun c => (c, l.getD c {})), x.1 < 8 ∧ x.2 = l.getD x.1 {} := fun x hx => by
    obtain ⟨c, hc, rfl⟩ := List.mem_map.1 hx
    exact ⟨(List.mem_range.1 hc).trans_le (nChan_le s), rfl⟩
  have hin : ∀ c < s.nChan, (c, l.getD c {}) ∈ (List.range s.nChan).map (fun c => (c, l.getD c {})) := fun c hc =>
    List.mem_map.2 ⟨c, List.mem_range.2 hc, rfl⟩
  generalize (List.range s.nChan).map (fun c => (c, l.getD c {})) = ts at hm hin ⊢
  have h1 : TrainWork s (s.forEach ts State.trainPass) :=
    forEach_rel_mem .refl (fun _ _ _ => .trans) (fun t x hx => trainChan_work t (hm x hx).1 x.2) s
  have h2 : ∀ c < s.nChan, (s.forEach ts State.trainPass).Trained c (l.getD c {}).failStep := fun c hc => by
    refine forEach_reaches (P := fun t => t.Trained c (l.getD c {}).failStep) (f := State.trainPass) (hin c hc)
      (fun t => trainChan_trained t c _) (fun t x hx ht => ?_) s
    by_cases hcx : c = x.1
    · rw [hcx, ← (hm x hx).2]
      exact trainChan_trained t x.1 x.2
    · have hr := trainChan_other t hcx x.2
      exact ⟨(fld_ne _ _ _ _ hr).trans ht.1, (bit_ne _ _ _ hr).trans ht.2⟩
  generalize s.forEach ts State.trainPass = a at h1 h2 ⊢
  split
  · exact ⟨h1.trans (.updMem ..), h2⟩
  · exact ⟨h1, h2⟩

/-- What the channels' training gives, with the record usable or not. -/
def State.ddrList (s : State) (chans : List ChTrain) : List ChTrain :=
  (List.range s.nChan).map (trainedOf chans (s.boot.warm && s.halfField 12 != 0))

/-- The state after the training, before the stage ends. -/
def State.ddrDone (s : State) (chans : List ChTrain) : State :=
  let full := (s.ddrList chans).any fun t => !t.fromRecord
  let a := s.trainAll (s.ddrList chans)
  let b := if full && a.boot.warm then a.setBit MEM_STAT 3 true else a
  if full && !(s.halfField 12 != 0) then b.updMem fun m => { m with rewrite := true } else b

/-- The first channel whose training failed. -/
def State.ddrFailed (s : State) (chans : List ChTrain) : Option Nat :=
  (List.range (s.ddrDone chans).nChan).find? fun c => ((s.ddrList chans).getD c {}).failStep != 0

theorem execBootDdr_eq {s : State} (h : s.inStage 4 = true) (chans : List ChTrain) : exec (.bootDdr chans) s = answer s
    (match s.ddrFailed chans with | some c => (s.ddrDone chans).bootFail 4 c | none => (s.ddrDone chans).toStage 5) := by
  show answer s (if _ then _ else _) = _
  rw [if_neg (by simp [h])]
  rfl

theorem getD_ddrList {s : State} (chans : List ChTrain) {c : Nat} (hc : c < s.nChan) :
    (s.ddrList chans).getD c {} = trainedOf chans (s.boot.warm && s.halfField 12 != 0) c := by
  simp [State.ddrList, hc]

theorem ddrFull_iff {s : State} (chans : List ChTrain) : ((s.ddrList chans).any fun t => !t.fromRecord) = true ↔
    ∃ c < s.nChan, s.boot.warm = false ∨ s.halfField 12 = 0 ∨ (chans.getD c {}).fromRecord = false := by
  simp only [State.ddrList, List.any_map, List.any_eq_true, List.mem_range, Function.comp, trainedOf, Bool.not_eq_true',
    Bool.and_eq_false_iff, bne_eq_false_iff_eq]
  exact exists_congr fun c => and_congr_right fun _ => by tauto

/-- What the stage's training leaves, from `s` to `t`. -/
structure DdrDone (s t : State) (chans : List ChTrain) : Prop where
  work : BootKeep s t
  trained : ∀ c < s.nChan, t.Trained c (chans.getD c {}).failStep
  stat : t.bit MEM_STAT 3 = true ↔ s.bit MEM_STAT 3 = true ∨
    (s.boot.warm = true ∧ ∃ c < s.nChan, s.halfField 12 = 0 ∨ (chans.getD c {}).fromRecord = false)

theorem ddrDone_done (s : State) (chans : List ChTrain) : DdrDone s (s.ddrDone chans) chans := by
  have hfull := ddrFull_iff (s := s) chans
  obtain ⟨h1, c1⟩ := trainAll_trained s (s.ddrList chans)
  have c1' : ∀ c < s.nChan, (s.trainAll (s.ddrList chans)).Trained c (chans.getD c {}).failStep := fun c hc => by
    have := c1 c hc
    rwa [getD_ddrList chans hc] at this
  unfold State.ddrDone
  extract_lets full a b
  change full = true ↔ _ at hfull
  clear_value full
  change TrainWork s a at h1
  change ∀ c < s.nChan, a.Trained c _ at c1'
  clear_value a
  have hwarm : a.boot.warm = s.boot.warm := by rw [h1.frame]
  have hstat : a.bit MEM_STAT 3 = s.bit MEM_STAT 3 := bit_ne _ _ _ (h1.regs _ (by decide))
  have hb : DdrDone s b chans := by
    by_cases hc : (full && a.boot.warm) = true
    · have hbv : b = a.setBit MEM_STAT 3 true := if_pos hc
      rw [hbv]
      refine ⟨h1.keep.trans (.setFld ..), fun c hcn => ?_, ?_⟩
      · have hne : MEM_CHSTAT c ≠ MEM_STAT := by
          have := nChan_le s
          unfold MEM_CHSTAT MEM_STAT
          omega
        have hr := reg_setBit_ne a 3 true hne
        exact ⟨(fld_ne _ _ _ _ hr).trans (c1' c hcn).1, (bit_ne _ _ _ hr).trans (c1' c hcn).2⟩
      · rw [bit_setBit a _ _ _ (by decide)]
        obtain ⟨hf, hw⟩ := Bool.and_eq_true_iff.1 hc
        obtain ⟨c, hcn, hcf⟩ := hfull.1 hf
        rw [hwarm] at hw
        exact ⟨fun _ => .inr ⟨hw, c, hcn, hcf.resolve_left (by simp [hw])⟩, fun _ => rfl⟩
    · have hbv : b = a := if_neg hc
      rw [hbv]
      refine ⟨h1.keep, c1', hstat ▸ ⟨.inl, fun h => h.resolve_right fun ⟨hw, c, hcn, hcf⟩ => hc ?_⟩⟩
      rw [hwarm, hw, hfull.2 ⟨c, hcn, .inr hcf⟩]
      rfl
  clear_value b
  split
  · exact ⟨hb.work.trans (.updMem ..), hb.trained, hb.stat⟩
  · exact hb

theorem nChan_ddrDone (s : State) (chans : List ChTrain) : (s.ddrDone chans).nChan = s.nChan := by
  unfold State.nChan State.nOch
  rw [(ddrDone_done s chans).work.variant]

theorem ddrFailed_none {s : State} {chans : List ChTrain} (h : ∀ c < s.nChan, (chans.getD c {}).failStep = 0) :
    s.ddrFailed chans = none := by
  unfold State.ddrFailed
  rw [nChan_ddrDone, List.find?_eq_none]
  intro c hc
  rw [getD_ddrList chans (List.mem_range.1 hc)]
  have := h c (List.mem_range.1 hc)
  simp only [trainedOf, this]
  decide

theorem ddrFailed_some {s : State} {chans : List ChTrain} {c : Nat} (hc : c < s.nChan) (hf : (chans.getD c {}).failStep ≠ 0)
    (hb : ∀ k < c, (chans.getD k {}).failStep = 0) : s.ddrFailed chans = some c := by
  unfold State.ddrFailed
  rw [nChan_ddrDone, List.find?_range_eq_some]
  refine ⟨?_, List.mem_range.2 hc, fun k hk => ?_⟩
  · rw [getD_ddrList chans hc]
    simpa [trainedOf] using hf
  · rw [getD_ddrList chans (hk.trans hc)]
    simp only [trainedOf, hb k hk]
    decide

theorem answers_bootDdr {s : State} (h : s.inStage 4 = true) {chans : List ChTrain}
    (hf : ∀ c < s.nChan, (chans.getD c {}).failStep = 0) : Answers (.bootDdr chans) s fun t =>
      BootMoves s t 5 ∧
      (t.bit MEM_STAT 3 = true ↔ s.bit MEM_STAT 3 = true ∨
        (s.boot.warm = true ∧ ∃ c < s.nChan, s.halfField 12 = 0 ∨ (chans.getD c {}).fromRecord = false)) ∧
      ∀ c < s.nChan, t.fld (MEM_CHSTAT c) 6 3 = 0 ∧ t.bit (MEM_CHSTAT c) 1 = true := by
  have hx := execBootDdr_eq h chans
  have hd := ddrDone_done s chans
  rw [ddrFailed_none hf] at hx
  generalize s.ddrDone chans = a at hx hd
  have hr := toStage_regs a 5
  refine (hd.work.toStage 5).answers hx ⟨hd.work.moves (inStage_iff.1 h).1 (by decide), ?_, fun c hc => ?_⟩
  · rw [bit_ne _ _ _ (hr.regs _ (by decide))]
    exact hd.stat
  · have hne : MEM_CHSTAT c ∉ [BOOT_STAT] := by
      simp only [List.mem_singleton, MEM_CHSTAT, BOOT_STAT]
      omega
    have ht := hd.trained c hc
    rw [hf c hc] at ht
    exact ⟨(fld_ne _ _ _ _ (hr.regs _ hne)).trans ht.1, (bit_ne _ _ _ (hr.regs _ hne)).trans ht.2⟩

theorem execBootDdr_fails {s : State} (h : s.inStage 4 = true) {chans : List ChTrain} {c : Nat} (hc : c < s.nChan)
    (hf : (chans.getD c {}).failStep ≠ 0) (hb : ∀ k < c, (chans.getD k {}).failStep = 0) :
    exec (.bootDdr chans) s = answer s ((s.ddrDone chans).bootFail 4 c) := by
  rw [execBootDdr_eq h chans, ddrFailed_some hc hf hb]

end Sys2Proof.Machine

namespace Sys2Proof.Machine

/-! Stage IMAGE (17 R477, R478, R481, R484). -/

/-- From `s` to `t` an image has loaded: what no stage changes stays, and the overrides with it. -/
structure Loads (s t : State) : Prop where
  keep : BootKeep s t
  overrides : t.boot.overrides = s.boot.overrides

namespace Loads

theorem refl (s : State) : Loads s s := ⟨.refl s, rfl⟩

theorem trans {a b c : State} (h1 : Loads a b) (h2 : Loads b c) : Loads a c :=
  ⟨h1.keep.trans h2.keep, h2.overrides.trans h1.overrides⟩

theorem setN (s : State) (a v : Nat) : Loads s (s.setN a v) := ⟨.setN .., rfl⟩

theorem setFld (s : State) (a hi lo v : Nat) : Loads s (s.setFld a hi lo v) := ⟨.setFld .., rfl⟩

theorem setBit (s : State) (a i : Nat) (b : Bool) : Loads s (s.setBit a i b) := setFld ..

theorem updBoot (s : State) (f : Boot → Boot) (h : (f s.boot).overrides = s.boot.overrides) : Loads s (s.updBoot f) :=
  ⟨.updBoot .., h⟩

theorem frameOwner (s : State) (t : Tab Nat) : Loads s { s with frameOwner := t } := ⟨⟨rfl, rfl, rfl, rfl, rfl, rfl⟩, rfl⟩

theorem forEach {α : Type} {f : State → α → State} (h : ∀ s x, Loads s (f s x)) (s : State) (l : List α) :
    Loads s (s.forEach l f) :=
  forEach_rel Loads refl (fun _ _ _ => trans) s l f h

end Loads

theorem imageDefaults_loads (s : State) (b : Bool) : Loads s (s.imageDefaults b) := by
  unfold State.imageDefaults
  extract_lets fill rate a
  have h : Loads s a := .forEach (fun s p => (Loads.setN s ..).trans (.setN ..)) s _
  exact h.trans (((((Loads.setN a ..).trans (.setN ..)).trans (.setN ..)).trans (.setN ..)).trans (.setN ..))

theorem setMicaWord_loads (s : State) (a w : Nat) : Loads s (s.setMicaWord a w) := by
  unfold State.setMicaWord
  extract_lets k o
  split
  · exact ⟨⟨rfl, rfl, rfl, rfl, rfl, rfl⟩, rfl⟩
  · exact ⟨⟨rfl, rfl, rfl, rfl, rfl, rfl⟩, rfl⟩

theorem setFrameWord_loads (s : State) (a w : Nat) : Loads s (s.setFrameWord a w) :=
  ⟨⟨rfl, rfl, rfl, rfl, rfl, rfl⟩, rfl⟩

theorem cfgWord_loads (s : State) (ok : Fld → Bool) (a w : Nat) : Loads s (s.cfgWord ok a w) := by
  unfold State.cfgWord
  split
  · exact .refl s
  · split
    · exact setMicaWord_loads ..
    · split
      · exact setFrameWord_loads ..
      · split
        · exact .refl s
        · exact .setN ..

theorem setOwner_loads (s : State) (a lo : Nat) (v : Byte) : Loads s (s.setOwner a lo v) := by
  unfold State.setOwner
  split
  · exact .refl s
  · exact (Loads.setFld s ..).trans (.setBit ..)

theorem loadAssign_loads (s : State) (l : List Byte) : Loads s (s.loadAssign l) := by
  unfold State.loadAssign
  extract_lets own s1 s2 s3 s4 s5 s6 s7 s8
  have h1 : Loads s s1 := .forEach (fun s n => setOwner_loads ..) s _
  have h2 : Loads s1 s2 := .forEach (fun s n => setOwner_loads ..) s1 _
  have h3 : Loads s2 s3 := .forEach (fun s n => setOwner_loads ..) s2 _
  have h4 : Loads s3 s4 := .forEach (fun s n => setOwner_loads ..) s3 _
  have h5 : Loads s4 s5 := .forEach (fun s n => ((setOwner_loads ..).trans (.setFld ..)).trans (.setFld ..)) s4 _
  have h6 : Loads s5 s6 := .forEach (fun s n => setOwner_loads ..) s5 _
  have h7 : Loads s6 s7 := .frameOwner ..
  have h8 : Loads s7 s8 := by
    clear_value s7
    exact .updBoot s7 _ rfl
  have h : Loads s s8 := ((((((h1.trans h2).trans h3).trans h4).trans h5).trans h6).trans h7).trans h8
  exact h.trans (.forEach (fun s c => .setBit s ..) s8 _)

theorem loadGraph_loads (s : State) (l : List Byte) : Loads s (s.loadGraph l) := by
  unfold State.loadGraph
  extract_lets p a b
  have h1 : Loads s a := ⟨⟨rfl, rfl, rfl, rfl, rfl, rfl⟩, rfl⟩
  exact h1.trans ((Loads.setN a ..).trans (.setN b ..))

theorem loadImage_loads (s : State) (b : List Byte) (ov : List (Nat × Word)) : Loads s (s.loadImage b ov) := by
  unfold State.loadImage
  extract_lets gs s1 s2 s3 s4 s5
  have h1 : Loads s s1 := imageDefaults_loads ..
  have h2 : Loads s1 s2 := .forEach (fun s x => cfgWord_loads ..) s1 _
  have h3 : Loads s2 s3 := .forEach (fun s x => cfgWord_loads ..) s2 _
  have h4 : Loads s3 s4 := .forEach (fun s x => loadAssign_loads ..) s3 _
  have h5 : Loads s4 s5 := .forEach (fun s x => loadGraph_loads ..) s4 _
  exact ((((h1.trans h2).trans h3).trans h4).trans h5).trans (.updBoot s5 _ rfl)

theorem trySlot_loads {s u : State} {k : Nat} {ov : List (Nat × Word)} (h : s.trySlot k ov = .ok u) : Loads s u := by
  unfold State.trySlot at h
  dsimp only at h
  generalize s.slotImage k = b at h
  have hl := loadImage_loads s b ov
  generalize s.loadImage b ov = t at h hl
  split at h
  · cases h
  · split at h
    · cases h
    · injection h with h
      rw [← h]
      exact hl.trans (.setN ..)

/-! The image has passed. -/

theorem setN_biasesWork (s : State) {a : Nat} (h : 0x40000 ≤ a) (v : Nat) : BiasesWork s (s.setN a v) :=
  ⟨rfl, fun _ hx => reg_setN_ne s v (by omega)⟩

theorem setFld_biasesWork (s : State) {a : Nat} (h : 0x40000 ≤ a) (hi lo v : Nat) : BiasesWork s (s.setFld a hi lo v) :=
  setN_biasesWork s h _

theorem imageReports_work (s : State) : BiasesWork s s.imageReports := by
  unfold State.imageReports
  extract_lets size s1 s2
  have h1 : BiasesWork s s1 := forEach_rel_mem .refl (fun _ _ _ => .trans) (fun t i _ =>
    (setN_biasesWork t (by unfold MEM_RBASE; omega) _).trans (setN_biasesWork _ (by unfold MEM_RSPARE; omega) _)) s
  have h2 : BiasesWork s1 s2 := (setN_biasesWork s1 (by decide) _).trans (setN_biasesWork _ (by decide) _)
  exact (h1.trans h2).trans ((setN_biasesWork s2 (by decide) _).trans (setN_biasesWork _ (by decide) _))

theorem imageOuts_work (s : State) : BiasesWork s s.imageOuts := by
  refine forEach_rel_mem .refl (fun _ _ _ => .trans) (fun t n _ => ?_) s
  have ha : 0x40000 ≤ OCH_STAT n := by
    unfold OCH_STAT
    omega
  exact (setFld_biasesWork t ha ..).trans (setFld_biasesWork _ ha ..)

theorem imageBiases_work (s : State) : BiasesWork s s.imageBiases := by
  refine forEach_rel_mem .refl (fun _ _ _ => .trans) (fun t n _ => ?_) s
  have span : ∀ a : State, BiasesWork a (a.biasLoadSpan n) := fun a => setFld_biasesWork a (by unfold BIAS_STAT; omega) ..
  split
  · exact (BiasWork.biasClamp t n).biasesWork.trans (span _)
  · split
    · exact .refl t
    · exact span t

/-- What the image leaves, from the loaded state `u` to `t`, in stage LOCK. -/
structure ImageDone (u t : State) : Prop where
  keep : BootKeep u t
  overrides : t.boot.overrides = u.boot.overrides
  stage : t.bootStage = 6
  frames : t.frames = u.frames
  shadow : t.frameShadow = u.frames
  owner : t.frameOwner = u.frameOwner
  seq : t.regN BOOT_IMGSEQ = u.regN BOOT_IMGSEQ

theorem imageDone_done (u : State) : ImageDone u u.imageDone := by
  have h := ((imageReports_work u).trans (imageOuts_work _)).trans (imageBiases_work _)
  unfold State.imageDone
  generalize u.imageReports.imageOuts.imageBiases = a at h ⊢
  have hs : a.imageShadow = { a with
    frameShadow := a.frames, discShadow := a.imageShadow.discShadow, micas := a.imageShadow.micas } := rfl
  generalize a.imageShadow = b at hs ⊢
  obtain ⟨hh, -⟩ := takeHalf_frame b
  generalize b.takeHalf = c at hh ⊢
  have hr := toStage_regs c 6
  have hst := bootStage_toStage c (k := 6) (by decide)
  generalize c.toStage 6 = t at hr hst ⊢
  have hc : c.reg BOOT_IMGSEQ = u.reg BOOT_IMGSEQ := by
    have : c.reg BOOT_IMGSEQ = a.reg BOOT_IMGSEQ := by
      rw [hh, hs]
      rfl
    exact this.trans (h.regs _ (by decide))
  refine ⟨?_, ?_, hst, ?_, ?_, ?_, congrArg BitVec.toNat ((hr.regs _ (by decide)).trans hc)⟩
  · rw [hr.frame, hh, hs, h.frame]
    exact ⟨rfl, rfl, rfl, rfl, rfl, rfl⟩
  all_goals rw [hr.frame, hh, hs, h.frame]

/-! The stage. -/

theorem dropBiasCfg_keep (s : State) : Loads s s.dropBiasCfg := ⟨⟨rfl, rfl, rfl, rfl, rfl, rfl⟩, rfl⟩

/-- An entry that the filter leaves reads as before. -/
theorem look_filter_kept {α : Type} (d : Nat → α) (t : Tab α) (g : Nat → Bool) {i : Nat} (h : g i = true) :
    look d (t.filter fun x => g x.1) i = look d t i := by
  induction t with
  | nil => rfl
  | cons x t ih =>
    obtain ⟨k, v⟩ := x
    have hl : look d ((k, v) :: t) i = if i = k then v else look d t i := rfl
    rw [List.filter_cons, hl]
    by_cases hk : i = k
    · have hg : g k = true := hk ▸ h
      rw [if_pos hg, if_pos hk]
      exact if_pos hk
    · rw [if_neg hk]
      split
      · exact (if_neg hk).trans ih
      · exact ih

theorem bootSlot_dropBiasCfg (s : State) : s.dropBiasCfg.bootSlot = s.bootSlot :=
  fld_ne s s.dropBiasCfg 12 12 (look_filter_kept pf0Reset s.regs
    (fun x => decide (x < 0x60000) || decide (0x80000 ≤ x) || x % 0x40 == 0x1C) (by decide))

/-- The first slot has failed with error `e`: what is noted before the other is tried. -/
def State.slotFailed (s : State) (k c d : Nat) : State :=
  ((((((s.setBit BOOT_STAT 13 true).setBit BOOT_STAT 12 (k == 0)).setN BOOT_FAIL (c + 256 * (d % 2 ^ 24))).setFld
    BOOT_STAT 11 4 c).setN BOOT_DETAIL d).updBoot fun b => { b with second := true, overrides := [] })

theorem execBootImage_ok {s u : State} (h : s.inStage 5 = true)
    (hu : s.dropBiasCfg.trySlot s.bootSlot s.boot.overrides = .ok u) : exec .bootImage s = answer s u.imageDone := by
  show answer s (if _ then _ else _) = _
  rw [if_neg (by simp [h])]
  dsimp only
  rw [bootSlot_dropBiasCfg, show s.dropBiasCfg.boot.overrides = s.boot.overrides from rfl, hu]

theorem execBootImage_second {s u : State} {c d : Nat} (h : s.inStage 5 = true)
    (he : s.dropBiasCfg.trySlot s.bootSlot s.boot.overrides = .error (c, d))
    (hu : (s.dropBiasCfg.slotFailed s.bootSlot c d).trySlot (1 - s.bootSlot) [] = .ok u) :
    exec .bootImage s = answer s u.imageDone := by
  show answer s (if _ then _ else _) = _
  unfold State.slotFailed at hu
  rw [if_neg (by simp [h])]
  dsimp only
  rw [bootSlot_dropBiasCfg, show s.dropBiasCfg.boot.overrides = s.boot.overrides from rfl, he]
  dsimp only
  rw [hu]

theorem execBootImage_fails {s : State} {c d c' d' : Nat} (h : s.inStage 5 = true)
    (he : s.dropBiasCfg.trySlot s.bootSlot s.boot.overrides = .error (c, d))
    (hu : (s.dropBiasCfg.slotFailed s.bootSlot c d).trySlot (1 - s.bootSlot) [] = .error (c', d')) :
    exec .bootImage s = answer s ((s.dropBiasCfg.slotFailed s.bootSlot c d).bootFail c' d') := by
  show answer s (if _ then _ else _) = _
  unfold State.slotFailed at hu ⊢
  rw [if_neg (by simp [h])]
  dsimp only
  rw [bootSlot_dropBiasCfg, show s.dropBiasCfg.boot.overrides = s.boot.overrides from rfl, he]
  dsimp only
  rw [hu]

/-- What a failed first slot leaves noted, from `s` to `t`. -/
structure SlotFailed (s t : State) (k c d : Nat) : Prop where
  keep : BootKeep s t
  overrides : t.boot.overrides = []
  tried : t.bit BOOT_STAT 13 = true
  slot : t.bit BOOT_STAT 12 = (k == 0)
  fail : t.regN BOOT_FAIL = (c + 256 * (d % 2 ^ 24)) % 2 ^ 32

theorem slotFailed_failed (s : State) (k c d : Nat) : SlotFailed s (s.slotFailed k c d) k c d := by
  have hkeep : BootKeep s (s.slotFailed k c d) :=
    (((((BootKeep.setFld s ..).trans (.setFld ..)).trans (.setN ..)).trans (.setFld ..)).trans (.setN ..)).trans (.updBoot ..)
  have hover : (s.slotFailed k c d).boot.overrides = [] := rfl
  have hx : s.slotFailed k c d = ((((((s.setBit BOOT_STAT 13 true).setBit BOOT_STAT 12 (k == 0)).setN BOOT_FAIL
    (c + 256 * (d % 2 ^ 24))).setFld BOOT_STAT 11 4 c).setN BOOT_DETAIL d).updBoot fun b =>
      { b with second := true, overrides := [] }) := rfl
  have h1 : ((s.setBit BOOT_STAT 13 true).setBit BOOT_STAT 12 (k == 0)).bit BOOT_STAT 13 = true := by
    rw [bit_setBit_of _ _ _ (by decide), if_neg (by decide), bit_setBit _ _ _ _ (by decide)]
  have h2 : ((s.setBit BOOT_STAT 13 true).setBit BOOT_STAT 12 (k == 0)).bit BOOT_STAT 12 = (k == 0) :=
    bit_setBit _ _ _ _ (by decide)
  generalize (s.setBit BOOT_STAT 13 true).setBit BOOT_STAT 12 (k == 0) = a at hx h1 h2
  have h3 : (a.setN BOOT_FAIL (c + 256 * (d % 2 ^ 24))).reg BOOT_STAT = a.reg BOOT_STAT := reg_setN_ne a _ (by decide)
  have h4 := regN_setN a BOOT_FAIL (c + 256 * (d % 2 ^ 24))
  generalize a.setN BOOT_FAIL (c + 256 * (d % 2 ^ 24)) = b at hx h3 h4
  have h5 : ∀ i, 12 ≤ i → (b.setFld BOOT_STAT 11 4 c).bit BOOT_STAT i = b.bit BOOT_STAT i := fun i hi =>
    bit_setFld_disj b BOOT_STAT 11 4 c i (by decide) (by decide) (by omega)
  have h6 : (b.setFld BOOT_STAT 11 4 c).reg BOOT_FAIL = b.reg BOOT_FAIL := reg_setFld_ne b _ _ _ (by decide)
  generalize b.setFld BOOT_STAT 11 4 c = e at hx h5 h6
  have h7 : (s.slotFailed k c d).reg BOOT_STAT = e.reg BOOT_STAT := by
    rw [hx]
    exact reg_setN_ne e d (by decide)
  have h8 : (s.slotFailed k c d).reg BOOT_FAIL = e.reg BOOT_FAIL := by
    rw [hx]
    exact reg_setN_ne e d (by decide)
  refine ⟨hkeep, hover, ?_, ?_, ?_⟩
  · rw [bit_ne _ _ _ h7, h5 13 (by decide), bit_ne _ _ _ h3, h1]
  · rw [bit_ne _ _ _ h7, h5 12 (by decide), bit_ne _ _ _ h3, h2]
  · exact (congrArg BitVec.toNat (h8.trans h6)).trans h4

/-- What stage IMAGE says of a load of slot `s.bootSlot` that gave `u`. -/
theorem answers_bootImage_ok {s u : State} (h : s.inStage 5 = true)
    (hu : s.dropBiasCfg.trySlot s.bootSlot s.boot.overrides = .ok u) : Answers .bootImage s fun t =>
      BootMoves s t 6 ∧ t.frames = u.frames ∧ t.frameShadow = u.frames ∧ t.frameOwner = u.frameOwner ∧
      t.regN BOOT_IMGSEQ = u.regN BOOT_IMGSEQ := by
  have hx := execBootImage_ok h hu
  have hd := imageDone_done u
  have hk := ((dropBiasCfg_keep s).trans (trySlot_loads hu)).keep.trans hd.keep
  exact hk.answers hx
    ⟨⟨hk.mode.trans (inStage_iff.1 h).1, hd.stage, hk.flash, hk.parts⟩, hd.frames, hd.shadow, hd.owner, hd.seq⟩

theorem answers_bootImage_error {s : State} {c d : Nat} (h : s.inStage 5 = true)
    (he : s.dropBiasCfg.trySlot s.bootSlot s.boot.overrides = .error (c, d)) : Answers .bootImage s fun t =>
      t.boot.overrides = [] ∧ t.flash = s.flash ∧ ((t.mode = .boot ∧ t.bootStage = 6) ∨
        (t.mode = .failed ∧ t.bootStage = 14 ∧ t.bit BOOT_STAT 13 = true ∧ (t.bootSlot = 1 ↔ s.bootSlot = 0) ∧
          t.regN BOOT_FAIL = (c + 256 * (d % 2 ^ 24)) % 2 ^ 32)) := by
  have hf := slotFailed_failed s.dropBiasCfg s.bootSlot c d
  have hk := (dropBiasCfg_keep s).keep.trans hf.keep
  cases hu : (s.dropBiasCfg.slotFailed s.bootSlot c d).trySlot (1 - s.bootSlot) [] with
  | ok u =>
    have hx := execBootImage_second h he hu
    have hl := trySlot_loads hu
    have hd := imageDone_done u
    have hk' := (hk.trans hl.keep).trans hd.keep
    exact hk'.answers hx ⟨(hd.overrides.trans hl.overrides).trans hf.overrides, hk'.flash,
      .inl ⟨hk'.mode.trans (inStage_iff.1 h).1, hd.stage⟩⟩
  | error e =>
    have hx := execBootImage_fails h he hu
    generalize s.dropBiasCfg.slotFailed s.bootSlot c d = a at hx hf hk
    refine answers_bootFail hk hx fun t hb hfl => ?_
    have hov : t.boot.overrides = a.boot.overrides := by rw [hb.frame]
    refine ⟨hov.trans hf.overrides, hfl, .inr ⟨hb.mode, hb.stage, ?_, ?_, ?_⟩⟩
    · rw [hb.high 13 (by decide), hf.tried]
    · rw [bootSlot_iff, hb.high 12 (by decide), hf.slot, beq_iff_eq]
    · exact (congrArg BitVec.toNat (hb.regs _ (by decide) (by decide) (by decide))).trans hf.fail

end Sys2Proof.Machine

namespace Sys2Proof.Machine

/-! Stage CALAPPLY (08 R259, 16 R465, 17 R478, R479). -/

/-- From `s` to `t` registers, calibration and its interrupt have changed: the store and the registers of the loops stay. -/
structure Trims (s t : State) : Prop where
  frame : t = { s with regs := t.regs, cal := t.cal }
  store : t.cal.store = s.cal.store ∧ t.cal.valid = s.cal.valid
  regs : ∀ a, a < 0x30000 ∨ 0xD0000 ≤ a → t.reg a = s.reg a

namespace Trims

theorem refl (s : State) : Trims s s := ⟨rfl, ⟨rfl, rfl⟩, fun _ _ => rfl⟩

theorem trans {a b c : State} (h1 : Trims a b) (h2 : Trims b c) : Trims a c := by
  refine ⟨?_, ⟨h2.store.1.trans h1.store.1, h2.store.2.trans h1.store.2⟩, fun x hx => (h2.regs x hx).trans (h1.regs x hx)⟩
  rw [h2.frame, h1.frame]

theorem setN (s : State) {a : Nat} (h : 0x30000 ≤ a ∧ a < 0xD0000) (v : Nat) : Trims s (s.setN a v) :=
  ⟨rfl, ⟨rfl, rfl⟩, fun x hx => reg_setN_ne s v (by omega)⟩

theorem setFld (s : State) {a : Nat} (h : 0x30000 ≤ a ∧ a < 0xD0000) (hi lo v : Nat) : Trims s (s.setFld a hi lo v) := setN s h _

theorem updCal (s : State) (f : Cal → Cal) (h : (f s.cal).store = s.cal.store ∧ (f s.cal).valid = s.cal.valid) :
    Trims s (s.updCal f) := ⟨rfl, h, fun _ _ => rfl⟩

theorem keep {s t : State} (h : Trims s t) : BootKeep s t := by
  rw [h.frame]
  exact ⟨rfl, rfl, rfl, rfl, rfl, rfl⟩

end Trims

theorem trim_neutral {s : State} (h : s.cal.valid = false) (item t off size : Nat) (sgn : Bool) (neutral : Int) :
    s.trim item t off size sgn neutral = neutral := by
  unfold State.trim State.trimAt
  exact if_pos (by simp [h])

/-- The trims of output channel `n` are neutral. -/
def State.OchNeutral (s : State) (n : Nat) : Prop := s.fld (OCH_DCOFS n) 15 0 = 0 ∧ s.fld (OCH_DELAY n) 15 8 = 61

theorem RegsOnly.mono {s t : State} {l l' : List Nat} (h : RegsOnly s t l) (hl : l ⊆ l') : RegsOnly s t l' :=
  ⟨h.frame, h.regs.mono hl⟩

/-- The registers that the trims of output channel `n` change. -/
def ochTrimRegs (n : Nat) : List Nat := [OCH_DCOFS n, OCH_FSTRIM n, OCH_DELAY n, OCH_STAT n]

theorem applyOch_regs (s : State) (n : Nat) : RegsOnly s (s.applyOch n) (ochTrimRegs n) := by
  have step : ∀ (t : State) (a : Nat), a ∈ ochTrimRegs n → ∀ hi lo v, RegsOnly t (t.setFld a hi lo v) (ochTrimRegs n) :=
    fun t a ha hi lo v => (RegsOnly.setFld t a hi lo v).mono (by simpa using ha)
  unfold State.applyOch
  extract_lets b t cal sum a
  have h1 : RegsOnly s a (ochTrimRegs n) :=
    (step s (OCH_DCOFS n) (by simp [ochTrimRegs]) ..).trans (step _ (OCH_FSTRIM n) (by simp [ochTrimRegs]) ..)
  exact h1.trans (((step a (OCH_DELAY n) (by simp [ochTrimRegs]) ..).trans (step _ (OCH_DELAY n) (by simp [ochTrimRegs]) ..)).trans
    (step _ (OCH_STAT n) (by simp [ochTrimRegs]) ..))

theorem ochTrimRegs_block {n a : Nat} (h : a ∈ ochTrimRegs n) : 0x80000 + 0x100 * n ≤ a ∧ a < 0x80000 + 0x100 * (n + 1) := by
  simp only [ochTrimRegs, List.mem_cons, List.not_mem_nil, or_false, OCH_DCOFS, OCH_FSTRIM, OCH_DELAY, OCH_STAT] at h
  omega

theorem applyOch_trims (s : State) {n : Nat} (hn : n < 64) : Trims s (s.applyOch n) := by
  have h := applyOch_regs s n
  refine ⟨?_, ?_, fun a ha => h.regs a fun hm => ?_⟩
  · rw [h.frame]
  · rw [h.frame]
    exact ⟨rfl, rfl⟩
  · have := ochTrimRegs_block hm
    omega

theorem ochNeutral_congr {s t : State} {n : Nat} (h1 : t.reg (OCH_DCOFS n) = s.reg (OCH_DCOFS n))
    (h2 : t.reg (OCH_DELAY n) = s.reg (OCH_DELAY n)) (h : s.OchNeutral n) : t.OchNeutral n :=
  ⟨(fld_ne _ _ _ _ h1).trans h.1, (fld_ne _ _ _ _ h2).trans h.2⟩

theorem applyOch_neutral {s : State} (h : s.cal.valid = false) (n : Nat) : (s.applyOch n).OchNeutral n := by
  have n1 : OCH_DCOFS n ≠ OCH_FSTRIM n ∧ OCH_DCOFS n ≠ OCH_DELAY n ∧ OCH_DCOFS n ≠ OCH_STAT n ∧ OCH_DELAY n ≠ OCH_STAT n := by
    unfold OCH_DCOFS OCH_FSTRIM OCH_DELAY OCH_STAT
    omega
  obtain ⟨hft, hfd, hfs, hds⟩ := n1
  unfold State.applyOch
  extract_lets b t cal sum a
  have hcal : cal = 61 := congrArg Int.toNat (trim_neutral h ..)
  have ha : a.fld (OCH_DCOFS n) 15 0 = 0 := by
    refine (fld_ne _ _ 15 0 (reg_setFld_ne _ _ _ _ hft)).trans ((fld_setFld s (OCH_DCOFS n) 15 0 _ (by decide) (by decide)).trans ?_)
    rw [trim_neutral h]
    rfl
  clear_value a cal sum
  refine ⟨?_, ?_⟩
  · rw [fld_ne _ _ _ _ (reg_setBit_ne _ _ _ hfs), fld_ne _ _ _ _ (reg_setFld_ne _ _ _ _ hfd),
      fld_ne _ _ _ _ (reg_setFld_ne _ _ _ _ hfd), ha]
  · rw [fld_ne _ _ _ _ (reg_setBit_ne _ _ _ hds), fld_setFld_disj _ _ 23 16 _ 15 8 (by decide) (by decide) (by decide),
      fld_setFld _ _ _ _ _ (by decide) (by decide), hcal]
    rfl

theorem applyIch_trims (s : State) {m : Nat} (hm : m < 16) : Trims s (s.applyIch m) ∧
    ∀ a < 0xC0000, (s.applyIch m).reg a = s.reg a := by
  have ha : ∀ a ∈ [ICH_DCOFS m, ICH_GTRIM m, ICH_DELAY m], 0xC0000 ≤ a ∧ a < 0xD0000 := by
    simp only [List.mem_cons, List.not_mem_nil, or_false, ICH_DCOFS, ICH_GTRIM, ICH_DELAY]
    omega
  have step : ∀ (t : State) (a : Nat), a ∈ [ICH_DCOFS m, ICH_GTRIM m, ICH_DELAY m] → ∀ hi lo v, Trims t (t.setFld a hi lo v) ∧
      ∀ x < 0xC0000, (t.setFld a hi lo v).reg x = t.reg x := fun t a hmem hi lo v => by
    obtain ⟨h1, h2⟩ := ha a hmem
    exact ⟨.setFld t ⟨by omega, h2⟩ .., fun x hx => reg_setFld_ne t hi lo v (by omega)⟩
  have comp : ∀ {t u v : State}, (Trims t u ∧ ∀ x < 0xC0000, u.reg x = t.reg x) → (Trims u v ∧ ∀ x < 0xC0000, v.reg x = u.reg x) →
      Trims t v ∧ ∀ x < 0xC0000, v.reg x = t.reg x := fun h1 h2 =>
    ⟨h1.1.trans h2.1, fun x hx => (h2.2 x hx).trans (h1.2 x hx)⟩
  unfold State.applyIch
  extract_lets b t cal a z subs a1
  have h1 : Trims s a ∧ ∀ x < 0xC0000, a.reg x = s.reg x :=
    comp (step s (ICH_DCOFS m) (by simp) ..) (step _ (ICH_GTRIM m) (by simp) ..)
  have h2 : Trims a a1 ∧ ∀ x < 0xC0000, a1.reg x = a.reg x := ⟨.updCal a _ ⟨rfl, rfl⟩, fun _ _ => reg_updCal ..⟩
  clear_value a1 a
  exact comp (comp h1 h2) (comp (step a1 (ICH_DELAY m) (by simp) ..) (step _ (ICH_DELAY m) (by simp) ..))

/-- One monitor's threshold offsets. -/
def State.flintOffsets (s : State) (k : Nat) : State :=
  s.setN (CAL_FLINTOFS k) (wrapInt 16 (s.trim 5 4 (2240 + 4 * k) 2 true 0)
    + 65536 * wrapInt 16 (s.trim 5 4 (2242 + 4 * k) 2 true 0))

theorem applyFlint_trims (s : State) : Trims s s.applyFlint ∧ ∀ a, 0x40000 ≤ a → s.applyFlint.reg a = s.reg a := by
  have hx : s.applyFlint = (s.updCal fun c => { c with anaTemp := s.dieTemp 4 }).forEach
    ((List.range 48).filter (s.updCal fun c => { c with anaTemp := s.dieTemp 4 }).hasMon) State.flintOffsets := rfl
  have h1 : Trims s (s.updCal fun c => { c with anaTemp := s.dieTemp 4 }) := .updCal s _ ⟨rfl, rfl⟩
  have l1 : ∀ a, (s.updCal fun c => { c with anaTemp := s.dieTemp 4 }).reg a = s.reg a := fun _ => rfl
  rw [hx]
  generalize (s.updCal fun c => { c with anaTemp := s.dieTemp 4 }) = b at h1 l1 ⊢
  have hk : ∀ k ∈ (List.range 48).filter b.hasMon, k < 48 := fun k hk => List.mem_range.1 (List.mem_filter.1 hk).1
  refine ⟨h1.trans (forEach_rel_mem .refl (fun _ _ _ => .trans) (fun t k hm => ?_) b), fun a ha => ?_⟩
  · have := hk k hm
    exact .setN t (by unfold CAL_FLINTOFS; omega) _
  · refine (forEach_rel_mem (R := fun t u : State => u.reg a = t.reg a) (fun _ => rfl) (fun _ _ _ h1 h2 => h2.trans h1)
      (fun t k hm => reg_setN_ne t _ ?_) b).trans (l1 a)
    have := hk k hm
    unfold CAL_FLINTOFS
    omega

/-- What the trims leave, from `s` to `t`. -/
structure TrimsDone (s t : State) : Prop where
  work : Trims s t
  due : t.cal.trimDue = []
  neutral : s.cal.valid = false → ∀ n < s.nOch, t.OchNeutral n

theorem nIch_le (s : State) : s.nIch ≤ 16 := by
  have := nOch_le s
  unfold State.nIch
  omega

theorem applyTrims_done (s : State) : TrimsDone s s.applyTrims := by
  unfold State.applyTrims
  extract_lets a b
  have hn : ∀ n ∈ List.range s.nOch, n < 64 := fun n hn => (List.mem_range.1 hn).trans_le (nOch_le s)
  have h1 : Trims s a := forEach_rel_mem .refl (fun _ _ _ => .trans) (fun t n hm => applyOch_trims t (hn n hm)) s
  have k1 : s.cal.valid = false → ∀ n < s.nOch, a.OchNeutral n := fun hv n hm => by
    have hr := forEach_reaches (P := fun t => t.cal.valid = false → t.OchNeutral n) (f := State.applyOch) (List.mem_range.2 hm)
      (fun t ht => applyOch_neutral ((applyOch_trims t (hn n (List.mem_range.2 hm))).store.2.symm.trans ht) n)
      (fun t m hm' h ht => ?_) s
    · exact hr (h1.store.2.trans hv)
    · have hv := (applyOch_trims t (hn m hm')).store.2.symm.trans ht
      by_cases hnm : n = m
      · rw [hnm]
        exact applyOch_neutral hv m
      · have hr := (applyOch_regs t m).regs
        refine ochNeutral_congr (hr _ fun hmem => ?_) (hr _ fun hmem => ?_) (h hv)
        all_goals
          have := ochTrimRegs_block hmem
          simp only [OCH_DCOFS, OCH_DELAY] at this
          omega
  clear_value a
  have hm : ∀ m ∈ List.range a.nIch, m < 16 := fun m hm => (List.mem_range.1 hm).trans_le (nIch_le a)
  have h2 : Trims a b := forEach_rel_mem .refl (fun _ _ _ => .trans) (fun t m h => (applyIch_trims t (hm m h)).1) a
  have l2 : ∀ x < 0xC0000, b.reg x = a.reg x := fun x hx =>
    forEach_rel_mem (R := fun t u : State => u.reg x = t.reg x) (fun _ => rfl) (fun _ _ _ h1 h2 => h2.trans h1)
      (fun t m h => (applyIch_trims t (hm m h)).2 x hx) a
  clear_value b
  obtain ⟨h3, l3⟩ := applyFlint_trims b
  generalize b.applyFlint = c at h3 l3 ⊢
  refine ⟨((h1.trans h2).trans h3).trans (.updCal c _ ⟨rfl, rfl⟩), rfl, fun hv n hnn => ?_⟩
  have hlt := hn n (List.mem_range.2 hnn)
  have reg : ∀ x, 0x40000 ≤ x → x < 0xC0000 → (c.updCal fun c => { c with trimDue := [] }).reg x = a.reg x := fun x h h' =>
    (l3 x h).trans (l2 x h')
  exact ochNeutral_congr (reg _ (by unfold OCH_DCOFS; omega) (by unfold OCH_DCOFS; omega))
    (reg _ (by unfold OCH_DELAY; omega) (by unfold OCH_DELAY; omega)) (k1 hv n hnn)

end Sys2Proof.Machine

namespace Sys2Proof.Machine

/-- The store of the half in force has been taken, from `s` to `t`. -/
structure TakesStore (s t : State) : Prop where
  frame : t = { s with cal := t.cal, irq := t.irq }
  noHalf : s.boot.half = none → t.cal.valid = false
  empty : t.cal.valid = false → t.cal.store = []

theorem takeStore_takes (s : State) : TakesStore s s.takeStore := by
  unfold State.takeStore
  extract_lets len l
  have hlen : s.boot.half = none → len = 0 := fun h => by
    show s.halfField 8 = 0
    unfold State.halfField
    rw [h]
  clear_value l len
  by_cases hc : len ≠ 0 ∧ s.storeOk l = true
  · rw [if_pos hc]
    exact ⟨rfl, fun h => absurd (hlen h) hc.1, fun h => nomatch h⟩
  · rw [if_neg hc]
    have hf := irqEvent_frame (s.updCal fun c => { c with store := [], valid := false }) 8 2
    generalize (s.updCal fun c => { c with store := [], valid := false }).irqEvent 8 2 = t at hf ⊢
    refine ⟨?_, fun _ => ?_, fun _ => ?_⟩
    · rw [hf]
      rfl
    all_goals
      rw [hf]
      rfl

/-- CAL_SETTEMP of set `k` shows the store `st`. -/
def State.setTemps (st : Tab Byte) (s : State) (k : Nat) : State :=
  ((s.setN (CAL_SETTEMP0 k) (stLe st (setOff k) 4)).setN (CAL_SETTEMP1 k) (stLe st (setOff k + 4) 4)).setN
    (CAL_SETTEMP2 k) (stLe st (setOff k + 8) 2 + 65536 * (setItems st k % 64))

/-- From `s` to `t` only registers of the calibration block past CAL_INFO have changed. -/
structure Shows (s t : State) : Prop where
  frame : t = { s with regs := t.regs }
  regs : ∀ a, a < 0x30030 ∨ 0x31000 ≤ a → t.reg a = s.reg a

theorem Shows.refl (s : State) : Shows s s := ⟨rfl, fun _ _ => rfl⟩

theorem Shows.trans {a b c : State} (h1 : Shows a b) (h2 : Shows b c) : Shows a c := by
  refine ⟨?_, fun x hx => (h2.regs x hx).trans (h1.regs x hx)⟩
  rw [h2.frame, h1.frame]

theorem Shows.setN (s : State) {a : Nat} (h : 0x30030 ≤ a ∧ a < 0x31000) (v : Nat) : Shows s (s.setN a v) :=
  ⟨rfl, fun x hx => reg_setN_ne s v (by omega)⟩

theorem setTemps_shows (st : Tab Byte) (s : State) {k : Nat} (hk : k < 8) : Shows s (State.setTemps st s k) :=
  ((Shows.setN s (by unfold CAL_SETTEMP0; omega) _).trans (.setN _ (by unfold CAL_SETTEMP1; omega) _)).trans
    (.setN _ (by unfold CAL_SETTEMP2; omega) _)

theorem bitOf_info (v : Bool) (x : Nat) : bitOf ((bn v + 2 * x) % 2 ^ 32) 0 = v := by
  have hb := bn_lt v
  have h : (bn v + 2 * x) % 2 ^ 32 % 2 = bn v := by omega
  rw [bitOf_eq_bits]
  have : bits ((bn v + 2 * x) % 2 ^ 32) 0 0 = bn v := by
    unfold bits
    rw [Nat.shiftRight_zero]
    exact h
  rw [this, bn_beq_one]

theorem calInfo_shown (s : State) : s.calInfo = { s with regs := s.calInfo.regs } ∧
    (∀ a, a < 0x30000 ∨ 0x31000 ≤ a → s.calInfo.reg a = s.reg a) ∧ s.calInfo.bit CAL_INFO 0 = s.cal.valid := by
  have hx : s.calInfo = (s.setN CAL_INFO (bn s.cal.valid + 2 * (stOrigin s.cal.store % 2) + 4 * (stNsets s.cal.store % 8) +
      65536 * (stLe s.cal.store 16 4 % 65536))).forEach (List.range s.nSets) (State.setTemps s.cal.store) := rfl
  have hs : s.nSets ≤ 5 := by
    unfold State.nSets
    split <;> decide
  rw [hx]
  have h1 : ∀ v a, a ≠ CAL_INFO → (s.setN CAL_INFO v).reg a = s.reg a := fun v a ha => reg_setN_ne s v ha
  have f1 : ∀ v, s.setN CAL_INFO v = { s with regs := (s.setN CAL_INFO v).regs } := fun _ => rfl
  have n1 : ∀ x, (s.setN CAL_INFO (bn s.cal.valid + 2 * x)).bit CAL_INFO 0 = s.cal.valid := fun x => by
    unfold State.bit
    rw [regN_setN]
    exact bitOf_info _ _
  have hv : bn s.cal.valid + 2 * (stOrigin s.cal.store % 2) + 4 * (stNsets s.cal.store % 8) +
      65536 * (stLe s.cal.store 16 4 % 65536) = bn s.cal.valid + 2 * (stOrigin s.cal.store % 2 +
        2 * (stNsets s.cal.store % 8) + 32768 * (stLe s.cal.store 16 4 % 65536)) := by omega
  rw [hv]
  generalize stOrigin s.cal.store % 2 + 2 * (stNsets s.cal.store % 8) + 32768 * (stLe s.cal.store 16 4 % 65536) = x
  have n1 := n1 x
  have h1 := h1 (bn s.cal.valid + 2 * x)
  have f1 := f1 (bn s.cal.valid + 2 * x)
  generalize s.setN CAL_INFO (bn s.cal.valid + 2 * x) = a at n1 h1 f1 ⊢
  have h2 : Shows a (a.forEach (List.range s.nSets) (State.setTemps s.cal.store)) :=
    forEach_rel_mem .refl (fun _ _ _ => .trans) (fun t k hk => setTemps_shows _ t (by have := List.mem_range.1 hk; omega)) a
  generalize a.forEach (List.range s.nSets) (State.setTemps s.cal.store) = t at h2 ⊢
  refine ⟨?_, fun y hy => ?_, ?_⟩
  · rw [h2.frame, f1]
  · exact (h2.regs y (by omega)).trans (h1 y (by unfold CAL_INFO; omega))
  · rw [bit_ne _ _ _ (h2.regs _ (by decide)), n1]

/-! The references of the loops (08 R259). -/

/-- Loop `l` takes its reference from the boot. -/
def State.refPass (s : State) (l : Nat) : State := (s.setRef l (s.bootRef l)).writeTarget l (s.bootRef l)

/-- The reference of loop `l` is noted in the loop and in the shadow. -/
theorem setRef_frame (s : State) (l : Nat) (v : BitVec 64) :
    s.setRef l v = { s with
      loops := (s.updLoop l fun x => { x with ref := v }).loops, discShadow := (s.setRef l v).discShadow
      frameShadow := (s.setRef l v).frameShadow } := by
  unfold State.setRef
  extract_lets a
  split <;> rfl

theorem trkT01_ne_trkRot (s t : State) (k l : Nat) : s.trkT01 k ≠ t.trkRot l := by
  unfold State.trkT01 State.trkRot MICA_DT01 MICA_DROT
  omega

/-- The target of loop `l` has taken a value, from `s` to `t`: of registers its discriminator's alone. -/
structure TakesTarget (s t : State) (l : Nat) (v : BitVec 64) : Prop where
  frame : t = { s with regs := t.regs, frames := t.frames, issued := t.issued }
  regs : ∀ a, a ≠ s.trkT01 l → a ≠ s.trkRot l → t.reg a = s.reg a
  taken : s.trkKind l = 0 → t.reg (s.trkT01 l) = BitVec.ofNat 32 v.toNat
  kept : s.trkKind l ≠ 0 → ∀ k, t.reg (s.trkT01 k) = s.reg (s.trkT01 k)

theorem writeTarget_takes (s : State) (l : Nat) (v : BitVec 64) : TakesTarget s (s.writeTarget l v) l v := by
  unfold State.writeTarget
  split
  case h_1 hk =>
    exact ⟨rfl, fun a ha _ => reg_setReg_ne s _ ha, fun _ => reg_setReg .., fun h => absurd hk h⟩
  case h_2 hk =>
    exact ⟨rfl, fun a _ ha => reg_setReg_ne s _ ha, fun h => by omega, fun _ k => reg_setReg_ne s _ (trkT01_ne_trkRot s s k l)⟩
  case h_3 hk _ =>
    exact ⟨rfl, fun _ _ _ => rfl, fun h => absurd h hk, fun _ _ => rfl⟩

/-- From `s` to `t` loops have taken their references: calibration stays, and every register outside the discriminators. -/
structure RefWork (s t : State) : Prop where
  frame : t = { s with
    loops := t.loops, discShadow := t.discShadow, frameShadow := t.frameShadow, regs := t.regs, frames := t.frames
    issued := t.issued }
  regs : ∀ a, a < 0xE0000 ∨ 0xF0000 ≤ a → t.reg a = s.reg a

theorem RefWork.refl (s : State) : RefWork s s := ⟨rfl, fun _ _ => rfl⟩

theorem RefWork.trans {a b c : State} (h1 : RefWork a b) (h2 : RefWork b c) : RefWork a c := by
  refine ⟨?_, fun x hx => (h2.regs x hx).trans (h1.regs x hx)⟩
  rw [h2.frame, h1.frame]

/-- The registers of a loop's discriminator lie in the Mica block. -/
theorem trkRegs_block (s : State) (l : Nat) :
    (0xE0000 ≤ s.trkT01 l ∧ s.trkT01 l < 0xF0000) ∧ 0xE0000 ≤ s.trkRot l ∧ s.trkRot l < 0xF0000 := by
  have h : s.trkTarget l < 1024 := bits_lt _ 17 8
  unfold State.trkT01 State.trkRot MICA_DT01 MICA_DROT
  omega

/-- Loop `l` has taken its reference, from `s` to `t`. -/
structure RefTaken (s t : State) (l : Nat) : Prop where
  work : RefWork s t
  ref : (t.loop l).ref = s.bootRef l
  loops : ∀ k, k ≠ l → t.loop k = s.loop k
  taken : s.trkKind l = 0 → t.reg (s.trkT01 l) = BitVec.ofNat 32 (s.bootRef l).toNat
  kept : ∀ k, s.trkKind l ≠ 0 ∨ s.trkT01 k ≠ s.trkT01 l → t.reg (s.trkT01 k) = s.reg (s.trkT01 k)

theorem refPass_taken (s : State) (l : Nat) : RefTaken s (s.refPass l) l := by
  unfold State.refPass
  generalize hv : s.bootRef l = v
  have hf := setRef_frame s l v
  have hl : ∀ k, (s.setRef l v).loop k = (s.updLoop l fun x => { x with ref := v }).loop k := fun k => by
    rw [hf]
    rfl
  have hr : ∀ a, (s.setRef l v).reg a = s.reg a := fun a => by
    rw [hf]
    rfl
  have hd : ∀ k, (s.setRef l v).trkT01 k = s.trkT01 k ∧ (s.setRef l v).trkRot k = s.trkRot k ∧
      (s.setRef l v).trkKind k = s.trkKind k := fun k => by
    rw [hf]
    exact ⟨rfl, rfl, rfl⟩
  generalize s.setRef l v = a at hf hl hr hd ⊢
  have hw := writeTarget_takes a l v
  generalize a.writeTarget l v = t at hw ⊢
  have htl : ∀ k, t.loop k = a.loop k := fun k => by
    rw [hw.frame]
    rfl
  obtain ⟨⟨b1, b2⟩, b3, b4⟩ := trkRegs_block s l
  obtain ⟨d1, d2, d3⟩ := hd l
  refine ⟨⟨?_, fun x hx => ?_⟩, ?_, fun k hk => ?_, fun hk => ?_, fun k hk => ?_⟩
  · rw [hw.frame, hf]
  · exact (hw.regs x (by omega) (by omega)).trans (hr x)
  · rw [htl, hl, loop_updLoop, hv]
  · rw [htl, hl, loop_updLoop_ne _ _ hk]
  · rw [← d1, hv]
    exact hw.taken (d3.trans hk)
  · rw [← hr, ← (hd k).1]
    rcases hk with hk | hk
    · exact hw.kept (d3 ▸ hk) k
    · refine hw.regs _ ?_ ?_
      · rwa [(hd k).1, d1]
      · exact trkT01_ne_trkRot a a k l

/-- A threshold written as the two's complement of what its register held leaves the register. -/
theorem ofInt_toSigned (w : Word) : BitVec.ofNat 32 (BitVec.ofInt 64 (toSigned 32 w.toNat)).toNat = w := by
  have hw := w.isLt
  apply BitVec.eq_of_toNat_eq
  rw [BitVec.toNat_ofNat, BitVec.toNat_ofInt]
  unfold toSigned
  rw [Nat.mod_eq_of_lt hw]
  dsimp only
  split
  · omega
  · omega

/-- What every pass keeps while the store is not in force: the loops' descriptions, and the thresholds they point at. -/
structure RefBase (s t : State) : Prop where
  store : t.cal.valid = false
  regs : ∀ a, 0x200000 ≤ a → t.reg a = s.reg a
  held : ∀ k, s.trkKind k = 0 → t.reg (s.trkT01 k) = s.reg (s.trkT01 k)

theorem RefBase.describes {s t : State} (h : RefBase s t) (k : Nat) : t.trkKind k = s.trkKind k ∧ t.trkT01 k = s.trkT01 k := by
  have hr : t.reg (DEC_TRKCFG k) = s.reg (DEC_TRKCFG k) := h.regs _ (by unfold DEC_TRKCFG; omega)
  have ht : t.trkTarget k = s.trkTarget k := fld_ne _ _ _ _ hr
  refine ⟨fld_ne _ _ _ _ hr, ?_⟩
  unfold State.trkT01
  rw [ht]

/-- The reference of a loop of kind 0 from the image: its threshold as it stands. -/
def State.imageRef (s : State) (l : Nat) : BitVec 64 := BitVec.ofInt 64 (toSigned 32 (s.regN (s.trkT01 l)))

theorem RefBase.bootRef {s t : State} (h : RefBase s t) {l : Nat} (hk : s.trkKind l = 0) : t.bootRef l = s.imageRef l := by
  obtain ⟨h1, h2⟩ := h.describes l
  unfold State.bootRef State.trkNow State.imageRef State.regN
  rw [h1, hk, h.store, ← h.held l hk, ← h2]
  rfl

theorem RefBase.pass {s t : State} (h : RefBase s t) (l : Nat) : RefBase s (t.refPass l) := by
  have hp := refPass_taken t l
  have hcal : (t.refPass l).cal = t.cal := by rw [hp.work.frame]
  refine ⟨by rw [hcal, h.store], fun a ha => (hp.work.regs a (by omega)).trans (h.regs a ha), fun k hk => ?_⟩
  obtain ⟨k1, k2⟩ := h.describes k
  obtain ⟨l1, l2⟩ := h.describes l
  rw [← k2]
  by_cases hc : t.trkKind l ≠ 0 ∨ t.trkT01 k ≠ t.trkT01 l
  · rw [hp.kept k hc, k2, h.held k hk]
  · obtain ⟨hl, hkl⟩ := not_or.1 hc
    have hl : t.trkKind l = 0 := not_not.1 hl
    have hkl : t.trkT01 k = t.trkT01 l := not_not.1 hkl
    have hls : s.trkKind l = 0 := l1.symm.trans hl
    rw [hkl, hp.taken hl, h.bootRef hls, l2]
    exact ofInt_toSigned _

/-- What one pass brings about from where the invariant holds, and every pass keeps there, holds after the loop. -/
theorem forEach_reaches_of {α : Type} {I P : State → Prop} {l : List α} {f : State → α → State} {x : α} (hx : x ∈ l)
    (inv : ∀ s, ∀ y ∈ l, I s → I (f s y)) (reach : ∀ s, I s → P (f s x))
    (keep : ∀ s, ∀ y ∈ l, I s → P s → P (f s y)) {s : State} (hs : I s) : P (s.forEach l f) := by
  obtain ⟨l1, l2, rfl⟩ := List.append_of_mem hx
  have h1 : I (s.forEach l1 f) := forEach_keeps (fun s y hy => inv s y (by simp [hy])) hs
  have hsplit : s.forEach (l1 ++ x :: l2) f = (f (s.forEach l1 f) x).forEach l2 f := by
    unfold State.forEach
    rw [List.foldl_append]
    rfl
  rw [hsplit]
  refine (forEach_keeps (P := fun t => I t ∧ P t) (fun t y hy ht => ?_) ⟨inv _ x (by simp) h1, reach _ h1⟩).2
  exact ⟨inv t y (by simp [hy]) ht.1, keep t y (by simp [hy]) ht.1 ht.2⟩

/-- Every enabled loop takes its reference. -/
def State.refPasses (s : State) : State := s.forEach s.trkAll State.refPass

theorem refPasses_work (s : State) : RefWork s s.refPasses :=
  forEach_rel_mem .refl (fun _ _ _ => .trans) (fun t l _ => (refPass_taken t l).work) s

theorem refPasses_ref {s : State} (h : s.cal.valid = false) {l : Nat} (hl : l ∈ s.trkAll) (hk : s.trkKind l = 0) :
    (s.refPasses.loop l).ref = s.imageRef l := by
  have hs : RefBase s s := ⟨h, fun _ _ => rfl, fun _ _ => rfl⟩
  refine forEach_reaches_of (I := RefBase s) (P := fun t => (t.loop l).ref = s.imageRef l) (f := State.refPass) hl
    (fun t k _ ht => ht.pass k) (fun t ht => (refPass_taken t l).ref.trans (ht.bootRef hk)) (fun t k _ ht hp => ?_) hs
  by_cases hkl : l = k
  · rw [← hkl]
    exact (refPass_taken t l).ref.trans (ht.bootRef hk)
  · rw [(refPass_taken t k).loops l hkl]
    exact hp

/-! The stage. -/

theorem execBootCalapply_eq {s : State} (h : s.inStage 7 = true) :
    exec .bootCalapply s = answer s (s.takeStore.applyTrims.calInfo.refPasses.toStage 8) := by
  show answer s (if _ then _ else _) = _
  rw [if_neg (by simp [h])]
  rfl

/-- What stage CALAPPLY leaves before it ends, from `s` to `t`. -/
structure CalApplied (s t : State) : Prop where
  keep : BootKeep s t
  info : t.bit CAL_INFO 0 = t.cal.valid
  due : t.cal.trimDue = []
  noHalf : s.boot.half = none → t.cal.valid = false
  empty : t.cal.valid = false → t.cal.store = []
  neutral : t.cal.valid = false → ∀ n < s.nOch, t.OchNeutral n
  refs : t.cal.valid = false → ∀ l ∈ s.trkAll, s.trkKind l = 0 → (t.loop l).ref = s.imageRef l

theorem calApply_applied (s : State) : CalApplied s s.takeStore.applyTrims.calInfo.refPasses := by
  have h1 := takeStore_takes s
  have r1 : ∀ a, s.takeStore.reg a = s.reg a := fun a => by
    rw [h1.frame]
    rfl
  generalize s.takeStore = a at h1 r1 ⊢
  have h2 := applyTrims_done a
  generalize a.applyTrims = b at h2 ⊢
  obtain ⟨f3, r3, i3⟩ := calInfo_shown b
  generalize b.calInfo = c at f3 r3 i3 ⊢
  have h4 := refPasses_work c
  have x4 : c.cal.valid = false → ∀ l ∈ c.trkAll, c.trkKind l = 0 → (c.refPasses.loop l).ref = c.imageRef l := fun h l hl hk =>
    refPasses_ref h hl hk
  generalize c.refPasses = t at h4 x4 ⊢
  have hcal : t.cal = b.cal := by rw [h4.frame, f3]
  have hvalid : t.cal.valid = a.cal.valid := by rw [hcal, h2.work.store.2]
  have hhigh : ∀ x, 0xD0000 ≤ x → c.reg x = s.reg x := fun x hx =>
    ((r3 x (by omega)).trans (h2.work.regs x (.inr hx))).trans (r1 x)
  have hcfg : ∀ l, c.reg (DEC_TRKCFG l) = s.reg (DEC_TRKCFG l) := fun l => hhigh _ (by unfold DEC_TRKCFG; omega)
  have htarget : ∀ l, c.trkT01 l = s.trkT01 l := fun l => by
    have : c.trkTarget l = s.trkTarget l := fld_ne _ _ _ _ (hcfg l)
    unfold State.trkT01
    rw [this]
  have hall : c.trkAll = s.trkAll := List.filter_congr fun l _ => bit_ne _ _ _ (hcfg l)
  refine ⟨?_, ?_, ?_, fun h => hvalid.trans (h1.noHalf h), fun h => ?_, fun h n hn => ?_, fun h l hl hk => ?_⟩
  · have hk : BootKeep s a := by
      rw [h1.frame]
      exact ⟨rfl, rfl, rfl, rfl, rfl, rfl⟩
    have hk2 := hk.trans h2.work.keep
    refine hk2.trans ?_
    rw [h4.frame, f3]
    exact ⟨rfl, rfl, rfl, rfl, rfl, rfl⟩
  · rw [bit_ne _ _ _ (h4.regs _ (by decide)), i3, hcal]
  · rw [hcal, h2.due]
  · rw [hcal, h2.work.store.1]
    exact h1.empty (hvalid.symm.trans h)
  · have hn' : n < a.nOch := by
      unfold State.nOch at hn ⊢
      rwa [h1.frame]
    have hlt := hn'.trans_le (nOch_le a)
    refine ochNeutral_congr ?_ ?_ (h2.neutral (hvalid.symm.trans h) n hn')
    · exact (h4.regs _ (by unfold OCH_DCOFS; omega)).trans (r3 _ (by unfold OCH_DCOFS; omega))
    · exact (h4.regs _ (by unfold OCH_DELAY; omega)).trans (r3 _ (by unfold OCH_DELAY; omega))
  · have hcv : c.cal.valid = false := by
      rw [f3, ← hcal, h]
    rw [x4 hcv l (hall ▸ hl) ((fld_ne _ _ _ _ (hcfg l)).trans hk)]
    unfold State.imageRef State.regN
    rw [htarget l, hhigh _ (by have := (trkRegs_block s l).1.1; omega)]

theorem answers_bootCalapply {s : State} (h : s.inStage 7 = true) : Answers .bootCalapply s fun t =>
    BootMoves s t 8 ∧ t.bit CAL_INFO 0 = t.cal.valid ∧ t.cal.trimDue = [] ∧
    (s.boot.half = none → t.cal.valid = false) ∧
    (t.cal.valid = false → t.cal.store = [] ∧
      (∀ n < s.nOch, t.fld (OCH_DCOFS n) 15 0 = 0 ∧ t.fld (OCH_DELAY n) 15 8 = 61) ∧
      ∀ l ∈ s.trkAll, s.trkKind l = 0 → (t.loop l).ref = BitVec.ofInt 64 (toSigned 32 (s.regN (s.trkT01 l)))) := by
  have hx := execBootCalapply_eq h
  have ha := calApply_applied s
  generalize s.takeStore.applyTrims.calInfo.refPasses = a at hx ha
  have hr := toStage_regs a 8
  have hm := ha.keep.moves (inStage_iff.1 h).1 (k := 8) (by decide)
  have hk := ha.keep.toStage 8
  have hl : ∀ l, (a.toStage 8).loop l = a.loop l := fun _ => rfl
  generalize a.toStage 8 = t at hx hr hm hk hl
  have hcal : t.cal = a.cal := by rw [hr.frame]
  refine hk.answers hx ⟨hm, ?_, ?_, ?_, fun hv => ⟨?_, fun n hn => ?_, fun l hlm hkd => ?_⟩⟩
  · rw [bit_ne _ _ _ (hr.regs _ (by decide)), ha.info, hcal]
  · rw [hcal, ha.due]
  · rw [hcal]
    exact ha.noHalf
  · rw [hcal]
    exact ha.empty (hcal ▸ hv)
  · refine ochNeutral_congr (hr.regs _ ?_) (hr.regs _ ?_) (ha.neutral (hcal ▸ hv) n hn)
    · simp only [List.mem_singleton, OCH_DCOFS, BOOT_STAT]
      omega
    · simp only [List.mem_singleton, OCH_DELAY, BOOT_STAT]
      omega
  · rw [hl]
    exact ha.refs (hcal ▸ hv) l hlm hkd

end Sys2Proof.Machine

namespace Sys2Proof.Machine

/-! Stage BIAS and the end of BOOT (02 R52; 03 R104; 08 R259; 15 R440, R446; 17 R488). -/

/-- From `a` to `b` a partition may have come to need RESUME, and keeps its mode and its job. -/
structure Part.Boots (a b : Part) : Prop where
  mode : b.mode = a.mode
  job : b.job = a.job
  resume : a.resumeNeeded = true → b.resumeNeeded = true

/-- From `s` to `t`, what the end of the boot keeps, with every register in `K`. -/
structure Ends (K : Nat → Prop) (s t : State) : Prop where
  pending : t.pending = s.pending
  variant : t.variant = s.variant
  serial : t.serial = s.serial
  flash : t.flash = s.flash
  boot : t.boot = s.boot
  dtime : t.time.dtime = s.time.dtime
  part : ∀ p, (s.part p).Boots (t.part p)
  regs : ∀ a, K a → t.reg a = s.reg a

namespace Ends

variable {K : Nat → Prop} {s t : State}

theorem refl (s : State) : Ends K s s := ⟨rfl, rfl, rfl, rfl, rfl, rfl, fun _ => ⟨rfl, rfl, id⟩, fun _ _ => rfl⟩

theorem trans {a b c : State} (h1 : Ends K a b) (h2 : Ends K b c) : Ends K a c := by
  refine ⟨h2.pending.trans h1.pending, h2.variant.trans h1.variant, h2.serial.trans h1.serial, h2.flash.trans h1.flash,
    h2.boot.trans h1.boot, h2.dtime.trans h1.dtime, fun p => ?_, fun x hx => (h2.regs x hx).trans (h1.regs x hx)⟩
  exact ⟨(h2.part p).mode.trans (h1.part p).mode, (h2.part p).job.trans (h1.part p).job,
    fun h => (h2.part p).resume ((h1.part p).resume h)⟩

theorem mono (h : Ends K s t) {K' : Nat → Prop} (hk : ∀ a, K' a → K a) : Ends K' s t :=
  ⟨h.pending, h.variant, h.serial, h.flash, h.boot, h.dtime, h.part, fun a ha => h.regs a (hk a ha)⟩

/-- A part of the end of the boot that leaves every partition alone. -/
theorem of_frame (h : t = { s with
      regs := t.regs, pins := t.pins, loops := t.loops, biases := t.biases, ev := t.ev
      time := { s.time with gainAt := t.time.gainAt } })
    (hr : ∀ a, K a → t.reg a = s.reg a) : Ends K s t := by
  refine ⟨?_, ?_, ?_, ?_, ?_, ?_, fun p => ?_, hr⟩
  case refine_7 =>
    rw [h]
    exact ⟨rfl, rfl, id⟩
  all_goals rw [h]

theorem setFld (s : State) (a hi lo v : Nat) : Ends (· ≠ a) s (s.setFld a hi lo v) :=
  of_frame rfl fun _ hx => reg_setFld_ne s hi lo v hx

theorem forEach {α : Type} {l : List α} {f : State → α → State} (h : ∀ s, ∀ x ∈ l, Ends K s (f s x)) (s : State) :
    Ends K s (s.forEach l f) := forEach_rel_mem refl (fun _ _ _ => trans) h s

end Ends

theorem flintLatched_congr {s t : State} {m : Nat} (h : t.reg (latchReg m) = s.reg (latchReg m)) :
    t.flintLatched m = s.flintLatched m := by
  rw [flintLatched_eq, flintLatched_eq, bit_ne _ _ _ h]

/-! The monitors resolve. -/

/-- What monitor `m` sees at the end of the boot. -/
def flintSeen (inputs : List FlintIn) (m : Nat) : FlintIn := inputs.getD m .low

theorem flintSeen_of {inputs : List FlintIn} {m : Nat} {x : FlintIn} (h : inputs[m]? = some x) : flintSeen inputs m = x := by
  unfold flintSeen
  rw [List.getD_eq_getElem?_getD, h]
  rfl

theorem flintResolve_latchWork (s : State) (inputs : List FlintIn) {m : Nat} (h : m < 48) : LatchWork s (s.flintResolve inputs m) m := by
  unfold State.flintResolve
  extract_lets x inside a
  have h1 : LatchWork s a m := (setStat_latchWork s ..).trans (setStat_latchWork ..)
  clear_value a
  split
  · exact h1.trans (setLatch_latchWork a h false)
  · exact h1.trans (setStat_latchWork ..)

theorem flintResolve_inside (s : State) {inputs : List FlintIn} {m : Nat} (h : m < 48) (hx : flintSeen inputs m = .inside) :
    (s.flintResolve inputs m).flintLatched m = false := by
  unfold State.flintResolve
  extract_lets x inside a
  have hin : inside = true := by
    show (flintSeen inputs m == .inside || _) = true
    rw [hx]
    rfl
  clear_value a
  rw [if_pos (by simp [hin])]
  exact flintLatched_setLatch a h false

theorem flintResolve_high {s : State} {inputs : List FlintIn} {m : Nat} (hx : flintSeen inputs m = .high)
    (hm : s.hasMon m = true) (hc : s.bit (FLINT_CFG m) 0 = true) : (s.flintResolve inputs m).flintLatched m = s.flintLatched m := by
  unfold State.flintResolve
  extract_lets x inside a
  have hin : inside = false := by
    show (flintSeen inputs m == .inside || (flintSeen inputs m == .band && _)) = false
    rw [hx]
    rfl
  have hne : FLINT_CFG m ≠ FLINT_STAT m := by
    unfold FLINT_CFG FLINT_STAT
    omega
  have hca : a.bit (FLINT_CFG m) 0 = s.bit (FLINT_CFG m) 0 :=
    bit_ne _ _ _ ((reg_setBit_ne _ _ _ hne).trans (reg_setBit_ne s _ _ hne))
  have hma : a.hasMon m = s.hasMon m := rfl
  have hla : a.flintLatched m = s.flintLatched m :=
    flintLatched_congr ((reg_setBit_ne _ _ _ (latchReg_ne_stat m m)).trans (reg_setBit_ne s _ _ (latchReg_ne_stat m m)))
  clear_value a inside
  rw [if_neg (by simp [hca, hma, hm, hc, hin]), ← hla]
  exact flintLatched_congr (reg_setBit_ne a _ _ (latchReg_ne_stat m m))

/-- Registers that the monitors and the interrupt of the host leave alone. -/
def offFlint (a : Nat) : Prop := (a < 0x40000 ∨ 0x41000 ≤ a) ∧ a ≠ HOST_EVLOST

/-- The registers that describe the monitors. -/
def isFlintCfg (a : Nat) : Prop := ∃ m < 48, a = FLINT_CFG m

/-- Every monitor resolves its input. -/
def State.flintResolves (inputs : List FlintIn) (s : State) : State := s.forEach (List.range 48) fun s m => s.flintResolve inputs m

theorem latchRegs_block {m : Nat} (h : m < 48) {a : Nat} (ha : a ∈ latchRegs m) : 0x40000 ≤ a ∧ a < 0x41000 ∧ ¬ isFlintCfg a := by
  simp only [latchRegs, List.mem_cons, List.not_mem_nil, or_false, FLINT_LATCH_LO, FLINT_LATCH_HI, FLINT_STAT] at ha
  refine ⟨by omega, by omega, fun ⟨k, _, hk⟩ => ?_⟩
  unfold FLINT_CFG at hk
  omega

theorem LatchWork.ends {s t : State} {m : Nat} (h : LatchWork s t m) (hm : m < 48) : Ends (fun a => offFlint a ∨ isFlintCfg a) s t := by
  refine .of_frame ?_ fun a ha => h.regs a fun hmem => ?_
  · rw [h.frame]
  · obtain ⟨h1, h2, h3⟩ := latchRegs_block hm hmem
    exact ha.elim (fun hoff => by have := hoff.1; omega) h3

theorem flintResolves_ends (inputs : List FlintIn) (s : State) :
    Ends (fun a => offFlint a ∨ isFlintCfg a) s (s.flintResolves inputs) :=
  .forEach (fun t _ hm => (flintResolve_latchWork t inputs (List.mem_range.1 hm)).ends (List.mem_range.1 hm)) s

theorem flintResolves_inside {inputs : List FlintIn} (s : State) {m : Nat} (h : m < 48) (hx : flintSeen inputs m = .inside) :
    (s.flintResolves inputs).flintLatched m = false := by
  refine forEach_reaches (P := fun t => t.flintLatched m = false) (f := fun s m => State.flintResolve s inputs m)
    (List.mem_range.2 h) (fun t => flintResolve_inside t h hx) (fun t k hk ht => ?_) s
  by_cases hkm : m = k
  · rw [← hkm]
    exact flintResolve_inside t h hx
  · rw [(flintResolve_latchWork t inputs (List.mem_range.1 hk)).others m hkm h, ht]

theorem Ends.hasMon {K : Nat → Prop} {s t : State} (h : Ends K s t) (m : Nat) : t.hasMon m = s.hasMon m := by
  unfold State.hasMon State.nOch
  rw [h.variant]

theorem flintResolves_high {inputs : List FlintIn} {s : State} {m : Nat} (h : m < 48) (hx : flintSeen inputs m = .high)
    (hm : s.hasMon m = true) (hc : s.bit (FLINT_CFG m) 0 = true) (hl : s.flintLatched m = true) :
    (s.flintResolves inputs).flintLatched m = true := by
  refine (forEach_keeps (P := fun t => Ends (fun a => offFlint a ∨ isFlintCfg a) s t ∧ t.flintLatched m = true)
    (fun t k hk ⟨he, ht⟩ => ?_) ⟨.refl s, hl⟩).2
  have hk := List.mem_range.1 hk
  have hw := flintResolve_latchWork t inputs hk
  refine ⟨he.trans (hw.ends hk), ?_⟩
  by_cases hkm : m = k
  · rw [← hkm, flintResolve_high hx ((he.hasMon m).trans hm) ((bit_ne _ _ _ (he.regs _ (.inr ⟨m, h, rfl⟩))).trans hc), ht]
  · rw [hw.others m hkm h, ht]

/-! A monitor still latched. -/

/-- Partition `p` needs RESUME. -/
def State.needResume (s : State) (p : Nat) : State := s.updPart p fun q => { q with resumeNeeded := true }

theorem needResume_ends (s : State) (p : Nat) : Ends (fun _ => True) s (s.needResume p) := by
  refine ⟨rfl, rfl, rfl, rfl, rfl, rfl, fun q => ?_, fun _ _ => rfl⟩
  unfold State.needResume
  by_cases h : q = p
  · rw [h, part_updPart]
    exact ⟨rfl, rfl, fun _ => rfl⟩
  · rw [part_updPart_ne _ _ h]
    exact ⟨rfl, rfl, id⟩

/-- Every partition in the mask of monitor `m` needs RESUME. -/
def State.needResumes (s : State) (m : Nat) : State := s.forEach (s.flintMask m) State.needResume

theorem needResumes_ends (s : State) (m : Nat) : Ends (fun _ => True) s (s.needResumes m) ∧
    ∀ p ∈ s.flintMask m, ((s.needResumes m).part p).resumeNeeded = true := by
  refine ⟨.forEach (fun t p _ => needResume_ends t p) s, fun p hp => ?_⟩
  refine forEach_reaches (P := fun t => (t.part p).resumeNeeded = true) (f := State.needResume) hp (fun t => ?_)
    (fun t q _ h => ((needResume_ends t q).part p).resume h) s
  unfold State.needResume
  rw [part_updPart]

theorem flintPutrip_eq (s : State) (m : Nat) : s.flintPutrip m = if s.hasMon m && s.flintLatched m then
    ((s.setBit (FLINT_STAT m) 4 true).needResumes m).queueEv (errorRec 7 7 1 0 0#64 0 (resource 10 m)
      (bn (((s.setBit (FLINT_STAT m) 4 true).needResumes m).bit (FLINT_STAT m) 3))) else s := rfl

/-- Registers that a monitor still latched leaves alone. -/
def offPutrip (m a : Nat) : Prop := a ≠ FLINT_STAT m ∧ a ≠ HOST_EVLOST

theorem flintPutrip_ends (s : State) (m : Nat) : Ends (offPutrip m) s (s.flintPutrip m) := by
  rw [flintPutrip_eq]
  split
  · have h1 : Ends (offPutrip m) s (s.setBit (FLINT_STAT m) 4 true) := (Ends.setFld s ..).mono fun _ ha => ha.1
    generalize s.setBit (FLINT_STAT m) 4 true = a at h1 ⊢
    have h2 : Ends (offPutrip m) a (a.needResumes m) := (needResumes_ends a m).1.mono fun _ _ => trivial
    generalize a.needResumes m = b at h2 ⊢
    obtain ⟨f3, r3⟩ := queueEv_frame b (errorRec 7 7 1 0 0#64 0 (resource 10 m) (bn (b.bit (FLINT_STAT m) 3)))
    refine (h1.trans h2).trans (.of_frame ?_ fun x hx => r3 x (by simpa using hx.2))
    rw [f3]
  · exact .refl s

theorem offPutrip_stat {k m : Nat} (h : m ≠ k) : offPutrip k (FLINT_STAT m) := by
  unfold offPutrip FLINT_STAT HOST_EVLOST
  omega

/-- Monitor `m` shows that it was latched at the end of the boot. -/
def State.PutripShown (s t : State) (m : Nat) : Prop :=
  t.bit (FLINT_STAT m) 4 = true ∧ ∀ p ∈ s.flintMask m, (t.part p).resumeNeeded = true

theorem flintPutrip_shown {s : State} {m : Nat} (hm : s.hasMon m = true) (hl : s.flintLatched m = true) :
    s.PutripShown (s.flintPutrip m) m := by
  have hmask : (s.setBit (FLINT_STAT m) 4 true).flintMask m = s.flintMask m := List.filter_congr fun p _ =>
    bit_ne _ _ _ (reg_setBit_ne s 4 true (by unfold FLINT_CFG FLINT_STAT; omega))
  have hb : (s.setBit (FLINT_STAT m) 4 true).bit (FLINT_STAT m) 4 = true := bit_setBit s _ _ _ (by decide)
  rw [flintPutrip_eq, if_pos (by simp [hm, hl])]
  unfold State.PutripShown
  rw [← hmask]
  generalize s.setBit (FLINT_STAT m) 4 true = a at hb ⊢
  obtain ⟨h2, n2⟩ := needResumes_ends a m
  generalize a.needResumes m = b at h2 n2 ⊢
  obtain ⟨f3, r3⟩ := queueEv_frame b (errorRec 7 7 1 0 0#64 0 (resource 10 m) (bn (b.bit (FLINT_STAT m) 3)))
  generalize b.queueEv (errorRec 7 7 1 0 0#64 0 (resource 10 m) (bn (b.bit (FLINT_STAT m) 3))) = c at f3 r3 ⊢
  refine ⟨?_, fun p hp => ?_⟩
  · rw [bit_ne _ _ _ (r3 _ (by simp only [List.mem_singleton, FLINT_STAT, HOST_EVLOST]; omega)),
      bit_ne _ _ _ (h2.regs _ trivial), hb]
  · have hpart : c.part p = b.part p := by
      rw [f3]
      rfl
    rw [hpart, n2 p hp]

/-- The registers that decide what a monitor shows at the end of the boot. -/
def decidesFlint (a : Nat) : Prop := a ≠ HOST_EVLOST ∧ ∀ k, a ≠ FLINT_STAT k

theorem decidesFlint_latch (m : Nat) : decidesFlint (latchReg m) :=
  ⟨by unfold latchReg; split <;> decide, fun k => latchReg_ne_stat m k⟩

theorem decidesFlint_cfg {m : Nat} (h : m < 48) : decidesFlint (FLINT_CFG m) := by
  refine ⟨?_, fun k => ?_⟩
  · unfold FLINT_CFG HOST_EVLOST
    omega
  · unfold FLINT_CFG FLINT_STAT
    omega

/-- Every monitor still latched shows it. -/
def State.flintPutrips (s : State) : State := s.forEach (List.range 48) State.flintPutrip

theorem flintPutrip_decides (s : State) (m : Nat) : Ends decidesFlint s (s.flintPutrip m) :=
  (flintPutrip_ends s m).mono fun _ ha => ⟨ha.2 m, ha.1⟩

theorem flintMask_congr {s t : State} {m : Nat} (hv : t.variant = s.variant) (hr : t.reg (FLINT_CFG m) = s.reg (FLINT_CFG m)) :
    t.flintMask m = s.flintMask m := by
  unfold State.flintMask State.nPart
  rw [hv]
  exact List.filter_congr fun p _ => bit_ne _ _ _ hr

theorem flintPutrips_shown {s : State} {m : Nat} (h : m < 48) (hm : s.hasMon m = true) (hl : s.flintLatched m = true) :
    s.PutripShown s.flintPutrips m := by
  have reach : ∀ t, Ends decidesFlint s t → s.PutripShown (t.flintPutrip m) m := fun t ht => by
    have hmask := flintMask_congr ht.variant (ht.regs _ (decidesFlint_cfg h))
    have hs := flintPutrip_shown ((ht.hasMon m).trans hm) ((flintLatched_congr (ht.regs _ (decidesFlint_latch m))).trans hl)
    exact ⟨hs.1, fun p hp => hs.2 p (hmask ▸ hp)⟩
  refine forEach_reaches_of (I := Ends decidesFlint s) (P := fun t => s.PutripShown t m) (f := State.flintPutrip)
    (List.mem_range.2 h) (fun t k _ ht => ht.trans (flintPutrip_decides t k)) reach (fun t k _ ht hp => ?_) (.refl s)
  by_cases hkm : m = k
  · rw [← hkm]
    exact reach t ht
  · have he := flintPutrip_ends t k
    exact ⟨(bit_ne _ _ _ (he.regs _ (offPutrip_stat hkm))).trans hp.1, fun p hpm => (he.part p).resume (hp.2 p hpm)⟩

theorem flintPutrips_ends (s : State) : Ends decidesFlint s s.flintPutrips := .forEach (fun t m _ => flintPutrip_decides t m) s

/-! Channels, loops and domains. -/

/-- Output channel `n` is muted where it has an owner. -/
def State.ochMutes (s : State) (n : Nat) : State :=
  if (s.ochOwner n).isSome && !s.bit (OCH_STAT n) 4 then s.setFld (OCH_STAT n) 1 0 1 else s

/-- Every output channel with an owner is muted. -/
def State.ochsMute (s : State) : State := s.forEach (List.range s.nOch) State.ochMutes

theorem ochMutes_ends (s : State) (n : Nat) : Ends (· ≠ OCH_STAT n) s (s.ochMutes n) := by
  unfold State.ochMutes
  split
  · exact .setFld ..
  · exact .refl s

theorem ochMutes_silent (s : State) (n : Nat) : (s.ochMutes n).bit (OCH_STAT n) 4 = s.bit (OCH_STAT n) 4 := by
  unfold State.ochMutes
  split
  · exact bit_setFld_disj s _ 1 0 1 4 (by decide) (by decide) (by decide)
  · rfl

theorem ochMutes_muted {s : State} {n : Nat} (ho : (s.ochOwner n).isSome = true) (hs : s.bit (OCH_STAT n) 4 = false) :
    (s.ochMutes n).ochState n = 1 := by
  unfold State.ochMutes
  rw [if_pos (by simp [ho, hs])]
  exact fld_setFld s _ 1 0 1 (by decide) (by decide)

/-- Registers that say nothing of an output channel's state. -/
def offOch (a : Nat) : Prop := ∀ n, a ≠ OCH_STAT n

theorem ochsMute_ends (s : State) : Ends (fun a => a < 0x80000 ∨ 0x84000 ≤ a) s s.ochsMute := by
  refine .forEach (fun t n hn => (ochMutes_ends t n).mono fun a ha => ?_) s
  have := (List.mem_range.1 hn).trans_le (nOch_le s)
  unfold OCH_STAT
  omega

theorem ochOwner_congr {s t : State} {n : Nat} (h : t.reg (OCH_CTRL n) = s.reg (OCH_CTRL n)) : t.ochOwner n = s.ochOwner n := by
  unfold State.ochOwner
  rw [bit_ne _ _ _ h, fld_ne _ _ _ _ h]

theorem ochsMute_muted {s : State} {n : Nat} (h : n < s.nOch) (ho : (s.ochOwner n).isSome = true)
    (hs : s.bit (OCH_STAT n) 4 = false) : s.ochsMute.ochState n = 1 := by
  have hctrl : offOch (OCH_CTRL n) := fun m => by
    unfold OCH_CTRL OCH_STAT
    omega
  have reach : ∀ t, Ends offOch s t ∧ t.bit (OCH_STAT n) 4 = false → (t.ochMutes n).ochState n = 1 := fun t ⟨ht, hb⟩ =>
    ochMutes_muted ((ochOwner_congr (ht.regs _ hctrl)).symm ▸ ho) hb
  refine forEach_reaches_of (I := fun t => Ends offOch s t ∧ t.bit (OCH_STAT n) 4 = false) (P := fun t => t.ochState n = 1)
    (f := State.ochMutes) (List.mem_range.2 h) (fun t m _ ⟨ht, hb⟩ => ⟨ht.trans ((ochMutes_ends t m).mono fun _ ha => ha m), ?_⟩)
    reach (fun t m _ ht hp => ?_) ⟨.refl s, hs⟩
  · by_cases hmn : n = m
    · rw [← hmn, ochMutes_silent, hb]
    · rw [bit_ne _ _ _ ((ochMutes_ends t m).regs _ (ochStat_ne hmn)), hb]
  · by_cases hmn : n = m
    · rw [← hmn]
      exact reach t ht
    · exact (fld_ne _ _ _ _ ((ochMutes_ends t m).regs _ (ochStat_ne hmn))).trans hp

/-- Every input channel with an owner is powered. -/
def State.ichsPower (s : State) : State :=
  s.forEach ((List.range s.nIch).filter fun m => (s.ichOwner m).isSome) fun s m => s.setBit (ICH_STAT m) 0 true

theorem ichStat_block {s : State} {m : Nat} {p : Nat → Bool} (h : m ∈ (List.range s.nIch).filter p) :
    0xC0000 ≤ ICH_STAT m ∧ ICH_STAT m < 0xD0000 := by
  have := (List.mem_range.1 (List.mem_filter.1 h).1).trans_le (nIch_le s)
  unfold ICH_STAT
  omega

theorem ichsPower_ends (s : State) : Ends (fun a => a < 0xC0000 ∨ 0xD0000 ≤ a) s s.ichsPower :=
  .forEach (fun t m hm => (Ends.setFld t ..).mono fun a ha => by have := ichStat_block hm; omega) s

theorem applyGains_ends (s : State) : Ends (fun a => a < 0xC0000 ∨ 0xD0000 ≤ a) s s.applyGains := by
  unfold State.applyGains
  extract_lets a
  have h1 : Ends (fun a => a < 0xC0000 ∨ 0xD0000 ≤ a) s a := .of_frame rfl fun _ _ => rfl
  exact h1.trans (.forEach (fun t m hm => (Ends.setFld t ..).mono fun x hx => by have := ichStat_block hm; omega) a)

/-- Every enabled loop runs. -/
def State.loopsStart (s : State) : State := s.forEach s.trkAll fun s l => s.updLoop l fun x => { x with state := 1 }

theorem loopsStart_ends (s : State) : Ends (fun _ => True) s s.loopsStart :=
  .forEach (fun t l _ => .of_frame (t := t.updLoop l _) rfl fun _ _ => rfl) s

/-- Every enabled domain listens. -/
def State.domsListen (s : State) : State :=
  s.forEach ((List.range 2).filter fun d => s.bit (PTP_DCFG d) 0) fun s d => s.setFld (PTP_DSTAT d) 1 0 1

theorem domsListen_ends (s : State) : Ends (fun a => ∀ d, a ≠ PTP_DSTAT d) s s.domsListen :=
  .forEach (fun t d _ => (Ends.setFld t ..).mono fun _ ha => ha d) s

theorem domsListen_listening {s : State} {d : Nat} (hd : d < 2) (hc : s.bit (PTP_DCFG d) 0 = true) : s.domsListen.dstate d = 1 := by
  have reach : ∀ t : State, (t.setFld (PTP_DSTAT d) 1 0 1).dstate d = 1 := fun t => fld_setFld t _ 1 0 1 (by decide) (by decide)
  refine forEach_reaches (P := fun t => t.dstate d = 1) (f := fun s d => s.setFld (PTP_DSTAT d) 1 0 1)
    (List.mem_filter.2 ⟨List.mem_range.2 hd, hc⟩) reach (fun t k _ hp => ?_) s
  by_cases hkd : d = k
  · rw [← hkd]
    exact reach t
  · refine (fld_ne _ _ _ _ (reg_setFld_ne t 1 0 1 ?_)).trans hp
    unfold PTP_DSTAT
    omega

theorem bootUnits_eq (s : State) : s.bootUnits = s.ochsMute.ichsPower.loopsStart.domsListen := rfl

/-- Registers that the start of the units leaves alone. -/
def offUnits (a : Nat) : Prop := (a < 0x80000 ∨ 0xD0000 ≤ a) ∧ ∀ d, a ≠ PTP_DSTAT d

/-- What the start of the units leaves, from `s` to `t`. -/
structure UnitsStart (s t : State) : Prop where
  ends : Ends offUnits s t
  muted : ∀ n < s.nOch, (s.ochOwner n).isSome = true → s.bit (OCH_STAT n) 4 = false → t.ochState n = 1
  listening : ∀ d < 2, s.bit (PTP_DCFG d) 0 = true → t.dstate d = 1

theorem bootUnits_start (s : State) : UnitsStart s s.bootUnits := by
  rw [bootUnits_eq]
  have e1 := ochsMute_ends s
  have m1 : ∀ n < s.nOch, (s.ochOwner n).isSome = true → s.bit (OCH_STAT n) 4 = false → s.ochsMute.ochState n = 1 :=
    fun n hn ho hs => ochsMute_muted hn ho hs
  generalize s.ochsMute = a at e1 m1 ⊢
  have e2 := ichsPower_ends a
  generalize a.ichsPower = b at e2 ⊢
  have e3 := loopsStart_ends b
  generalize b.loopsStart = c at e3 ⊢
  have e4 := domsListen_ends c
  have l4 : ∀ d < 2, c.bit (PTP_DCFG d) 0 = true → c.domsListen.dstate d = 1 := fun d hd hc => domsListen_listening hd hc
  generalize c.domsListen = t at e4 l4 ⊢
  refine ⟨?_, fun n hn ho hs => ?_, fun d hd hc => l4 d hd ?_⟩
  · have h1 : Ends offUnits s a := e1.mono fun x hx => by have := hx.1; omega
    have h2 : Ends offUnits a b := e2.mono fun x hx => by have := hx.1; omega
    exact ((h1.trans h2).trans (e3.mono fun _ _ => trivial)).trans (e4.mono fun _ hx => hx.2)
  · have hlt := hn.trans_le (nOch_le s)
    have h1 : OCH_STAT n < 0xC0000 := by
      unfold OCH_STAT
      omega
    have h2 : ∀ d, OCH_STAT n ≠ PTP_DSTAT d := fun d => by
      unfold OCH_STAT PTP_DSTAT
      omega
    have hr := (e4.regs _ h2).trans ((e3.regs _ trivial).trans (e2.regs _ (.inl h1)))
    exact (fld_ne _ _ _ _ hr).trans (m1 n hn ho hs)
  · have hx : 0xD0000 ≤ PTP_DCFG d := by
      unfold PTP_DCFG
      omega
    rw [bit_ne _ _ _ ((e3.regs _ trivial).trans ((e2.regs _ (.inr hx)).trans (e1.regs _ (.inr (by omega))))), hc]

/-! The default writes of the bias outputs. -/

theorem bootDefaults_ends (s : State) : Ends (fun a => a < 0x60000 ∨ 0x80000 ≤ a) s s.bootDefaults := by
  refine .forEach (fun t n hn => ?_) s
  have hw := BiasWork.biasWrite t n (t.fld (BIAS_DEFAULT n) 19 0) 0
  have hn128 : n < 128 := by
    have := List.mem_range.1 (List.mem_filter.1 hn).1
    have := nOch_le s
    unfold State.nBias at *
    omega
  refine .of_frame ?_ fun a ha => hw.regs a ?_
  · rw [hw.frame]
  · simp only [List.mem_singleton, BIAS_STAT]
    omega

end Sys2Proof.Machine

namespace Sys2Proof.Machine

/-! The end of the boot (02 R52; 17 R482). -/

/-- DTIME starts at 0. -/
def State.startTime (s : State) : State := s.updTime fun _ => { running := true }

/-- What stage BIAS does before the boot is noted as done. -/
def State.bootEnds (inputs : List FlintIn) (s : State) : State :=
  (s.startTime.flintResolves inputs).bootUnits.applyGains.bootDefaults.flintPutrips

/-- The boot is noted as done. -/
def State.bootDone (s : State) : State :=
  State.toStage { ((s.setFld BOOT_STAT 11 4 0).setN BOOT_DETAIL 0).setN BOOT_TIME (s.boot.ticks / 640000) with mode := .run } 15

theorem execBootBias_eq {s : State} (h : s.inStage 8 = true) (inputs : List FlintIn) :
    exec (.bootBias inputs) s = answer s (s.bootEnds inputs).bootDone := by
  show answer s (if _ then _ else _) = _
  rw [if_neg (by simp [h])]
  rfl

/-- What the end of the boot leaves, from `s` to `t`. -/
structure BootEnded (inputs : List FlintIn) (s t : State) : Prop where
  pending : t.pending = s.pending
  variant : t.variant = s.variant
  serial : t.serial = s.serial
  flash : t.flash = s.flash
  ticks : t.boot.ticks = s.boot.ticks
  dtime : t.time.dtime = 0#64
  part : ∀ p, (t.part p).mode = (s.part p).mode ∧ (t.part p).job = (s.part p).job
  inside : ∀ m < 48, inputs[m]? = some .inside → t.flintLatched m = false
  high : ∀ m < 48, s.hasMon m = true → s.bit (FLINT_CFG m) 0 = true → s.flintLatched m = true → inputs[m]? = some .high →
    t.flintLatched m = true ∧ s.PutripShown t m
  muted : ∀ n < s.nOch, (s.ochOwner n).isSome = true → s.bit (OCH_STAT n) 4 = false → t.ochState n = 1
  listening : ∀ d < 2, s.bit (PTP_DCFG d) 0 = true → t.dstate d = 1

theorem bootEnds_ended (inputs : List FlintIn) (s : State) : BootEnded inputs s (s.bootEnds inputs) := by
  unfold State.bootEnds
  have h0 : s.startTime = { s with time := { running := true } } := rfl
  have r0 : ∀ a, s.startTime.reg a = s.reg a := fun _ => rfl
  have d0 : s.startTime.time.dtime = 0#64 := rfl
  have p0 : ∀ p, s.startTime.part p = s.part p := fun _ => rfl
  have v0 : s.startTime.variant = s.variant ∧ s.startTime.pending = s.pending ∧ s.startTime.serial = s.serial ∧
    s.startTime.flash = s.flash ∧ s.startTime.boot = s.boot := ⟨rfl, rfl, rfl, rfl, rfl⟩
  obtain ⟨v0, q0, s0, f0, b0⟩ := v0
  clear h0
  generalize s.startTime = a at r0 d0 p0 v0 q0 s0 f0 b0 ⊢
  have e1 := flintResolves_ends inputs a
  have i1 : ∀ m < 48, inputs[m]? = some .inside → (a.flintResolves inputs).flintLatched m = false := fun m hm hx =>
    flintResolves_inside a hm (flintSeen_of hx)
  have hi1 : ∀ m < 48, a.hasMon m = true → a.bit (FLINT_CFG m) 0 = true → a.flintLatched m = true → inputs[m]? = some .high →
      (a.flintResolves inputs).flintLatched m = true := fun m hm hh hc hl hx => flintResolves_high hm (flintSeen_of hx) hh hc hl
  generalize a.flintResolves inputs = b at e1 i1 hi1 ⊢
  have u2 := bootUnits_start b
  generalize b.bootUnits = c at u2 ⊢
  have e3 := (applyGains_ends c).mono (K' := fun a => a < 0x60000 ∨ 0xD0000 ≤ a ∨ (0x80000 ≤ a ∧ a < 0xC0000)) fun x hx => by omega
  have e4 := (bootDefaults_ends c.applyGains).mono (K' := fun a => a < 0x60000 ∨ 0xD0000 ≤ a ∨ (0x80000 ≤ a ∧ a < 0xC0000))
    fun x hx => by omega
  have e34 := e3.trans e4
  generalize c.applyGains.bootDefaults = d at e34 ⊢
  have e5 := flintPutrips_ends d
  have x5 : ∀ m < 48, d.hasMon m = true → d.flintLatched m = true → d.PutripShown d.flintPutrips m := fun m hm hh hl =>
    flintPutrips_shown hm hh hl
  generalize d.flintPutrips = t at e5 x5 ⊢
  have late : ∀ x, (0x40000 ≤ x ∧ x < 0x41000) → offUnits x ∧ (x < 0x60000 ∨ 0xD0000 ≤ x ∨ (0x80000 ≤ x ∧ x < 0xC0000)) :=
    fun x hx => ⟨⟨by omega, fun k => by unfold PTP_DSTAT; omega⟩, by omega⟩
  have flint : ∀ x, (0x40000 ≤ x ∧ x < 0x41000) → d.reg x = b.reg x := fun x hx =>
    (e34.regs x (late x hx).2).trans (u2.ends.regs x (late x hx).1)
  have latch : ∀ m, d.flintLatched m = b.flintLatched m := fun m => flintLatched_congr
    (flint _ (by unfold latchReg; split <;> decide))
  have cfg : ∀ m < 48, b.reg (FLINT_CFG m) = s.reg (FLINT_CFG m) ∧ d.reg (FLINT_CFG m) = b.reg (FLINT_CFG m) := fun m hm =>
    ⟨(e1.regs _ (.inr ⟨m, hm, rfl⟩)).trans (r0 _), flint _ (by unfold FLINT_CFG; omega)⟩
  have hvar : d.variant = s.variant := e34.variant.trans (u2.ends.variant.trans (e1.variant.trans v0))
  have hmon : ∀ m, d.hasMon m = s.hasMon m ∧ a.hasMon m = s.hasMon m := fun m => by
    unfold State.hasMon State.nOch
    rw [hvar, v0]
    exact ⟨rfl, rfl⟩
  have off : ∀ x, (x < 0x40000 ∨ 0x41000 ≤ x) → x ≠ HOST_EVLOST → b.reg x = s.reg x := fun x hx hne =>
    (e1.regs x (.inl ⟨hx, hne⟩)).trans (r0 x)
  have keep5 : ∀ x, (∀ k, x ≠ FLINT_STAT k) → x ≠ HOST_EVLOST → t.reg x = d.reg x := fun x hx hne => e5.regs x ⟨hne, hx⟩
  refine ⟨?_, ?_, ?_, ?_, ?_, ?_, fun p => ⟨?_, ?_⟩, fun m hm hx => ?_, fun m hm hh hc hl hx => ?_, fun n hn ho hs => ?_,
    fun k hk hc => ?_⟩
  · rw [e5.pending, e34.pending, u2.ends.pending, e1.pending, q0]
  · rw [e5.variant, hvar]
  · rw [e5.serial, e34.serial, u2.ends.serial, e1.serial, s0]
  · rw [e5.flash, e34.flash, u2.ends.flash, e1.flash, f0]
  · rw [e5.boot, e34.boot, u2.ends.boot, e1.boot, b0]
  · rw [e5.dtime, e34.dtime, u2.ends.dtime, e1.dtime, d0]
  · rw [(e5.part p).mode, (e34.part p).mode, (u2.ends.part p).mode, (e1.part p).mode, p0]
  · rw [(e5.part p).job, (e34.part p).job, (u2.ends.part p).job, (e1.part p).job, p0]
  · rw [flintLatched_congr (e5.regs _ (decidesFlint_latch m)), latch, i1 m hm hx]
  · have hal : a.flintLatched m = true := (flintLatched_congr (r0 _)).trans hl
    have hac : a.bit (FLINT_CFG m) 0 = true := (bit_ne _ _ _ (r0 _)).trans hc
    have hdl : d.flintLatched m = true := (latch m).trans (hi1 m hm ((hmon m).2.trans hh) hac hal hx)
    have hmask := flintMask_congr hvar ((cfg m hm).2.trans (cfg m hm).1)
    have hs := x5 m hm ((hmon m).1.trans hh) hdl
    refine ⟨(flintLatched_congr (e5.regs _ (decidesFlint_latch m))).trans hdl, hs.1, fun p hp => hs.2 p (hmask ▸ hp)⟩
  · have hlt := hn.trans_le (nOch_le s)
    have hbn : n < b.nOch := by
      unfold State.nOch at hn ⊢
      rwa [e1.variant, v0]
    have hctrl : b.reg (OCH_CTRL n) = s.reg (OCH_CTRL n) :=
      off _ (by unfold OCH_CTRL; omega) (by unfold OCH_CTRL HOST_EVLOST; omega)
    have hstat : b.reg (OCH_STAT n) = s.reg (OCH_STAT n) :=
      off _ (by unfold OCH_STAT; omega) (by unfold OCH_STAT HOST_EVLOST; omega)
    have hm := u2.muted n hbn ((ochOwner_congr hctrl).symm ▸ ho) ((bit_ne _ _ _ hstat).trans hs)
    have h5 : t.reg (OCH_STAT n) = c.reg (OCH_STAT n) :=
      (keep5 _ (fun k => by unfold OCH_STAT FLINT_STAT; omega) (by unfold OCH_STAT HOST_EVLOST; omega)).trans
        (e34.regs _ (by unfold OCH_STAT; omega))
    exact (fld_ne _ _ _ _ h5).trans hm
  · have hcfg : b.reg (PTP_DCFG k) = s.reg (PTP_DCFG k) :=
      off _ (by unfold PTP_DCFG; omega) (by unfold PTP_DCFG HOST_EVLOST; omega)
    have hm := u2.listening k hk ((bit_ne _ _ _ hcfg).trans hc)
    have h5 : t.reg (PTP_DSTAT k) = c.reg (PTP_DSTAT k) :=
      (keep5 _ (fun j => by unfold PTP_DSTAT FLINT_STAT; omega) (by unfold PTP_DSTAT HOST_EVLOST; omega)).trans
        (e34.regs _ (by unfold PTP_DSTAT; omega))
    exact (fld_ne _ _ _ _ h5).trans hm

/-- The boot has been noted as done, from `s` to `t`. -/
structure BootDone (s t : State) : Prop where
  frame : t = { s with regs := t.regs, mode := .run }
  stage : t.bootStage = 15
  code : t.fld BOOT_STAT 11 4 = 0
  ticks : t.regN BOOT_TIME = s.boot.ticks / 640000 % 2 ^ 32
  regs : ∀ a, 0x30000 ≤ a → t.reg a = s.reg a

theorem bootDone_done (s : State) : BootDone s s.bootDone := by
  unfold State.bootDone
  have h1 := RegsOnly.setFld s BOOT_STAT 11 4 0
  have c1 := fld_setFld s BOOT_STAT 11 4 0 (by decide) (by decide)
  generalize s.setFld BOOT_STAT 11 4 0 = a at h1 c1 ⊢
  have h2 : a.setN BOOT_DETAIL 0 = { a with regs := (a.setN BOOT_DETAIL 0).regs } := rfl
  have r2 : ∀ x, x ≠ BOOT_DETAIL → (a.setN BOOT_DETAIL 0).reg x = a.reg x := fun x hx => reg_setN_ne a 0 hx
  generalize a.setN BOOT_DETAIL 0 = b at h2 r2 ⊢
  have h3 : b.setN BOOT_TIME (s.boot.ticks / 640000) = { b with regs := (b.setN BOOT_TIME (s.boot.ticks / 640000)).regs } := rfl
  have r3 : ∀ x, x ≠ BOOT_TIME → (b.setN BOOT_TIME (s.boot.ticks / 640000)).reg x = b.reg x := fun x hx => reg_setN_ne b _ hx
  have t3 := regN_setN b BOOT_TIME (s.boot.ticks / 640000)
  generalize b.setN BOOT_TIME (s.boot.ticks / 640000) = c at h3 r3 t3 ⊢
  have r4 : ∀ x, ({ c with mode := .run } : State).reg x = c.reg x := fun _ => rfl
  have h5 := toStage_regs { c with mode := .run } 15
  have s5 := bootStage_toStage { c with mode := .run } (k := 15) (by decide)
  have c5 : (State.toStage { c with mode := .run } 15).fld BOOT_STAT 11 4 = ({ c with mode := .run } : State).fld BOOT_STAT 11 4 :=
    fld_setFld_disj _ BOOT_STAT 3 0 15 11 4 (by decide) (by decide) (by decide)
  generalize State.toStage { c with mode := .run } 15 = t at h5 s5 c5 ⊢
  refine ⟨?_, s5, ?_, ?_, fun x hx => ?_⟩
  · rw [h5.frame, h3, h2, h1.frame]
  · rw [c5, fld_ne a _ 11 4 (((r4 _).trans (r3 _ (by decide))).trans (r2 _ (by decide))), c1]
    exact Nat.zero_mod _
  · exact (congrArg BitVec.toNat ((h5.regs _ (by decide)).trans (r4 _))).trans t3
  · have hx1 : x ≠ BOOT_STAT ∧ x ≠ BOOT_DETAIL ∧ x ≠ BOOT_TIME := by
      unfold BOOT_STAT BOOT_DETAIL BOOT_TIME
      omega
    obtain ⟨n1, n2, n3⟩ := hx1
    exact ((h5.regs x (by simpa using n1)).trans (r4 x)).trans ((r3 x n3).trans ((r2 x n2).trans (h1.regs x (by simpa using n1))))

theorem answers_bootBias {s : State} (h : s.inStage 8 = true) (inputs : List FlintIn) : Answers (.bootBias inputs) s fun t =>
    t.mode = .run ∧ t.bootStage = 15 ∧ t.fld BOOT_STAT 11 4 = 0 ∧
    t.time.dtime = 0#64 ∧ t.regN BOOT_TIME = s.boot.ticks / 640000 % 2 ^ 32 ∧
    (∀ p, (t.part p).mode = (s.part p).mode ∧ (t.part p).job = (s.part p).job) ∧
    (∀ m < 48, s.hasMon m = true → s.bit (FLINT_CFG m) 0 = true → inputs[m]? = some .inside → t.flintLatched m = false) ∧
    (∀ m < 48, s.hasMon m = true → s.bit (FLINT_CFG m) 0 = true → s.flintLatched m = true → inputs[m]? = some .high →
      t.flintLatched m = true ∧ t.bit (FLINT_STAT m) 4 = true ∧
      ∀ p < s.nPart, s.bit (FLINT_CFG m) (4 + p) = true → (t.part p).resumeNeeded = true) ∧
    (∀ n < s.nOch, (s.ochOwner n).isSome = true → s.bit (OCH_STAT n) 4 = false → t.ochState n = 1) ∧
    (∀ d < 2, s.bit (PTP_DCFG d) 0 = true → t.dstate d = 1) := by
  have hx := execBootBias_eq h inputs
  have he := bootEnds_ended inputs s
  generalize s.bootEnds inputs = a at hx he
  have hd := bootDone_done a
  generalize a.bootDone = t at hx hd
  have hpart : ∀ p, t.part p = a.part p := fun p => by
    rw [hd.frame]
    rfl
  have hlatch : ∀ m, t.flintLatched m = a.flintLatched m := fun m =>
    flintLatched_congr (hd.regs _ (by unfold latchReg; split <;> decide))
  refine answers_of_next hx ?_ ?_ ?_ ?_ ⟨?_, hd.stage, hd.code, ?_, ?_, fun p => ?_, fun m hm _ _ hi => ?_,
    fun m hm hh hc hl hi => ?_, fun n hn ho hs => ?_, fun k hk hc => ?_⟩
  · rw [hd.frame, ← he.pending]
  · rw [hd.frame, ← he.variant]
  · rw [hd.frame, ← he.serial]
  · rw [hd.frame, ← he.flash]
  · rw [hd.frame]
  · rw [hd.frame, ← he.dtime]
  · rw [hd.ticks, he.ticks]
  · rw [hpart]
    exact he.part p
  · rw [hlatch, he.inside m hm hi]
  · obtain ⟨hlt, h4, hres⟩ := he.high m hm hh hc hl hi
    refine ⟨(hlatch m).trans hlt, (bit_ne _ _ _ (hd.regs _ (by unfold FLINT_STAT; omega))).trans h4, fun p hp hb => ?_⟩
    rw [hpart]
    exact hres p (mem_flintMask.2 ⟨hp, hb⟩)
  · exact (fld_ne _ _ _ _ (hd.regs _ (by unfold OCH_STAT; omega))).trans (he.muted n hn ho hs)
  · exact (fld_ne _ _ _ _ (hd.regs _ (by unfold PTP_DSTAT; omega))).trans (he.listening k hk hc)

/-! The obligation. -/

/-- A command whose stage it is not leaves the state. -/
theorem bootStages_idle {s : State} {id : Word} {die : Fin 5} {chans : List ChTrain} {inputs : List FlintIn} :
    ∀ x ∈ [(1, Instr.bootPll true true), (1, .bootPll false false), (2, .bootFlash true id), (2, .bootFlash false id),
      (3, .bootD2d none), (3, .bootD2d (some die)), (4, .bootDdr chans), (5, .bootImage), (6, .bootLock), (7, .bootCalapply),
      (8, .bootBias inputs)], s.inStage x.1 = false → exec x.2 s = .next s := by
  have idle : ∀ (k : Nat) (t : State), s.inStage k = false → answer s (if (!s.inStage k) = true then s else t) = .next s :=
    fun k t h => by rw [if_pos (by simp [h]), answer_self]
  have lock : s.inStage 6 = false → exec .bootLock s = .next s := fun h => by
    show answer s (if _ then _ else _) = _
    rw [if_neg (by simp [h]), answer_self]
  simp only [List.forall_mem_cons, List.not_mem_nil, false_implies, implies_true, and_true]
  exact ⟨idle 1 _, idle 1 _, idle 2 _, idle 2 _, idle 3 _, idle 3 _, idle 4 _, idle 5 _, lock, idle 7 _, idle 8 _⟩

/-- Settles O59, stage by stage. -/
theorem bootAndOverrides : Obligations.BootAndOverrides := by
  refine ⟨fun s id die chans inputs => ?_, configOverrides⟩
  intro at' moves fails
  have hat : ∀ {k}, at' k → s.inStage k = true := fun h => inStage_iff.2 h
  have hoff : ∀ {k}, ¬ at' k → s.inStage k = false := fun h => Bool.eq_false_iff.2 fun hs => h (inStage_iff.1 hs)
  have hmoves : ∀ {t k}, BootMoves s t k → moves t k := fun h => ⟨h.mode, h.stage, h.flash, h.parts⟩
  have hfails : ∀ {c : Instr} {a : State} {code detail n : Nat}, BootKeep s a → exec c s = answer s (a.bootFail code detail) →
      code < 256 → detail % 2 ^ 32 = n → Answers c s fun t => fails t code n := by
    intro c a code detail n hk hx hc hn
    refine answers_bootFail hk hx fun t hb hf => ⟨hb.mode, hb.stage, ?_, hb.detail.trans hn, hf, hb.clamped⟩
    rw [hb.code, Nat.mod_eq_of_lt hc]
  have self := BootKeep.refl s
  clear_value moves fails
  refine ⟨fun x hx h => bootStages_idle x hx (hoff h), fun h => ?pll, fun h => ?flash, fun h => ?d2d, fun h hf => ?ddr,
    fun h c hc hf hb => ?ddrFails, fun h => ?image, fun h => ?lock, fun h => ?calapply, fun h => answers_bootBias (hat h) inputs⟩
  case pll =>
    refine ⟨(answers_bootPll (hat h)).mono fun t ⟨hm, hr⟩ => ⟨hmoves hm, hr⟩, ?_, ?_⟩
    · exact hfails self (execBootPll_fails (hat h) rfl) (by decide) rfl
    · exact hfails self (execBootPll_fails (hat h) rfl) (by decide) rfl
  case flash =>
    refine ⟨hfails self (execBootFlash_fails (hat h) id) (by decide) rfl, ?_⟩
    exact (answers_bootFlash (hat h) id).mono fun t ⟨hm, hr⟩ => ⟨hmoves hm, hr⟩
  case d2d =>
    refine ⟨(answers_bootD2d (hat h)).mono fun t ⟨hm, hr⟩ => ⟨hmoves hm, hr⟩, ?_⟩
    exact hfails self (execBootD2d_fails (hat h) die) (by decide) (Nat.mod_eq_of_lt (die.isLt.trans (by decide)))
  case ddr => exact (answers_bootDdr (hat h) hf).mono fun t ⟨hm, hr⟩ => ⟨hmoves hm, hr⟩
  case ddrFails =>
    have hn := hc.trans_le (nChan_le s)
    exact hfails (ddrDone_done s chans).work (execBootDdr_fails (hat h) hc hf hb) (by decide)
      (Nat.mod_eq_of_lt (hn.trans (by decide)))
  case image =>
    cases hu : s.dropBiasCfg.trySlot s.bootSlot s.boot.overrides with
    | ok u => exact (answers_bootImage_ok (hat h) hu).mono fun t ⟨hm, hr⟩ => ⟨hmoves hm, hr⟩
    | error e => exact answers_bootImage_error (hat h) hu
  case lock => exact (answers_bootLock (hat h)).mono fun t ⟨hm, hr⟩ => ⟨hmoves hm, hr⟩
  case calapply => exact (answers_bootCalapply (hat h)).mono fun t ⟨hm, hr⟩ => ⟨hmoves hm, hr⟩

end Sys2Proof.Machine

namespace Sys2Proof.Machine

/-! The writes that clear counters (17 R484; 18 R502). -/

/-- The counters `l` are cleared, and the registers `z`, which hold extremes, set to 0. -/
def State.clearGroup (s : State) (l z : List Nat) : State := (s.clearCounts l).zeroRegs z

theorem clearGroup_nil (s : State) (l : List Nat) : s.clearGroup l [] = s.clearCounts l := by
  unfold State.clearGroup State.zeroRegs
  exact List.foldl_nil

/-- From `s` to `t` the counters `l` have been cleared but for what they have counted in this tick. -/
structure CountsCleared (s t : State) (l : List Nat) : Prop where
  frame : t = { s with regs := t.regs, before := t.before }
  count : ∀ a ∈ l, t.regN a = s.regN a - s.beforeN a
  regs : RegsBut s t l
  before : ∀ a, a ∉ l → t.beforeN a = s.beforeN a

theorem clearCount_cleared (s : State) (a : Nat) : CountsCleared s (s.clearCount a) [a] := by
  refine ⟨rfl, fun b hb => ?_, fun b hb => reg_setN_ne s _ (by simpa using hb), fun b hb => ?_⟩
  · obtain rfl := List.mem_singleton.1 hb
    exact (regN_setN s b _).trans (Nat.mod_eq_of_lt ((Nat.sub_le _ _).trans_lt (regN_lt s b)))
  · exact beforeN_setBefore_ne _ _ (by simpa using hb)

/-- Each counter of the list is cleared once, by its own step. -/
theorem clearCounts_cleared (s : State) {l : List Nat} (h : l.Nodup) : CountsCleared s (s.clearCounts l) l := by
  induction l generalizing s with
  | nil => exact ⟨rfl, fun _ h => (List.not_mem_nil h).elim, fun _ _ => rfl, fun _ _ => rfl⟩
  | cons a l ih =>
    obtain ⟨ha, hl⟩ := List.nodup_cons.1 h
    have first := clearCount_cleared s a
    have rest : CountsCleared (s.clearCount a) (s.clearCounts (a :: l)) l := ih _ hl
    refine ⟨?_, fun b hb => ?_, fun b hb => ?_, fun b hb => ?_⟩
    · rw [rest.frame, first.frame]
    · rcases List.mem_cons.1 hb with rfl | hm
      · exact (congrArg BitVec.toNat (rest.regs b ha)).trans (first.count b (List.mem_singleton_self b))
      · have hne : b ∉ [a] := fun e => ha (List.mem_singleton.1 e ▸ hm)
        rw [rest.count b hm, first.before b hne, State.regN, first.regs b hne, State.regN]
    · obtain ⟨h1, h2⟩ := not_or.1 (mt List.mem_cons.2 hb)
      exact (rest.regs b h2).trans (first.regs b (by simpa using h1))
    · obtain ⟨h1, h2⟩ := not_or.1 (mt List.mem_cons.2 hb)
      exact (rest.before b h2).trans (first.before b (by simpa using h1))

/-- What the command `x.1` does, the write that clears the counters `x.2.2.1` and sets the registers `x.2.2.2` to 0, where its
block is present (`x.2.1`), where it is absent, and before DONE. -/
def ClearsGroup (s : State) (x : Instr × Bool × List Nat × List Nat) : Prop :=
  (s.opened → x.2.1 = true → Answers x.1 s fun t => (∀ a ∈ x.2.2.1, t.regN a = s.regN a - s.beforeN a) ∧
    (∀ a ∈ x.2.2.2, t.reg a = 0#32) ∧ RegsBut s t (x.2.2.1 ++ x.2.2.2) ∧ t = { s with regs := t.regs, before := t.before }) ∧
  (s.opened → x.2.1 = false → exec x.1 s = .next s) ∧
  (s.heldOff = false → s.mode = .boot ∨ s.mode = .failed →
    exec x.1 s = .next (s.setN BOOT_OVRCNT (min (s.regN BOOT_OVRCNT + 1) (2 ^ 32 - 1))))

theorem answers_clearGroup {s u : State} {c : Instr} {l z : List Nat} (hn : (l ++ z).Nodup) (ho : s.opened)
    (h : exec c s = answer s (s.pf0 u)) (hu : u = s.clearGroup l z) :
    Answers c s fun t => (∀ a ∈ l, t.regN a = s.regN a - s.beforeN a) ∧ (∀ a ∈ z, t.reg a = 0#32) ∧ RegsBut s t (l ++ z) ∧
      t = { s with regs := t.regs, before := t.before } := by
  obtain ⟨hl, -, apart⟩ := List.nodup_append.1 hn
  have cleared := clearCounts_cleared s hl
  have frame : u = { s with regs := u.regs, before := u.before } := by
    rw [hu, State.clearGroup, zeroRegs_frame, cleared.frame]
  refine ⟨u, ?_, fun a ha => ?_, fun a ha => ?_, fun a ha => ?_, frame⟩
  · rw [h, pf0_opened ho, frame]
    rfl
  · have hz : a ∉ z := fun hz => apart a ha a hz rfl
    rw [hu, ← cleared.count a ha, State.regN, State.regN, State.clearGroup, reg_zeroRegs_ne _ _ hz]
  · rw [hu]
    exact reg_zeroRegs_mem _ _ ha
  · obtain ⟨h1, h2⟩ := not_or.1 (mt List.mem_append.2 ha)
    rw [hu]
    exact (reg_zeroRegs_ne _ _ h2).trans (cleared.regs a h1)

/-- Before DONE a PF0 write outside GLB and BOOT is discarded and counted (17 R484). -/
theorem exec_pf0_boot {s u : State} {c : Instr} (h : exec c s = answer s (s.pf0 u)) (hh : s.heldOff = false)
    (hm : s.mode = .boot ∨ s.mode = .failed) :
    exec c s = .next (s.setN BOOT_OVRCNT (min (s.regN BOOT_OVRCNT + 1) (2 ^ 32 - 1))) := by
  have hu : s.pf0 u = s.inc BOOT_OVRCNT := by
    rcases hm with hm | hm <;> simp [State.pf0, hh, hm]
  rw [h, hu, State.inc, satAdd_one]
  rfl

/-- Such a write of a block that every variant has. -/
theorem clearsGroup {s : State} {c : Instr} {l z : List Nat} (hn : (l ++ z).Nodup)
    (h : exec c s = answer s (s.pf0 (s.clearGroup l z))) : ClearsGroup s (c, true, l, z) :=
  ⟨fun ho _ => answers_clearGroup hn ho h rfl, fun _ h => Bool.noConfusion h, exec_pf0_boot h⟩

/-- Such a write of block `i`, where the variant has `k` of the kind. -/
theorem clearsGroup_of_present {s : State} {c : Instr} {l z : List Nat} {i k : Nat} (hn : (l ++ z).Nodup)
    (h : exec c s = answer s (s.pf0 (if k ≤ i then s else s.clearGroup l z))) : ClearsGroup s (c, decide (i < k), l, z) := by
  refine ⟨fun ho hi => ?_, fun ho hi => ?_, exec_pf0_boot h⟩
  · exact answers_clearGroup hn ho h (if_neg (Nat.not_le.2 (of_decide_eq_true hi)))
  · rw [h, pf0_opened ho, if_pos (Nat.not_lt.1 (of_decide_eq_false hi)), answer_self]

/-- The same of writes that only clear counters. -/
theorem clearsCounts {s : State} {c : Instr} {l : List Nat} (hn : l.Nodup)
    (h : exec c s = answer s (s.pf0 (s.clearCounts l))) : ClearsGroup s (c, true, l, []) :=
  clearsGroup (by rwa [List.append_nil]) (by rwa [clearGroup_nil])

theorem clearsCounts_of_present {s : State} {c : Instr} {l : List Nat} {i k : Nat} (hn : l.Nodup)
    (h : exec c s = answer s (s.pf0 (if k ≤ i then s else s.clearCounts l))) : ClearsGroup s (c, decide (i < k), l, []) :=
  clearsGroup_of_present (by rwa [List.append_nil]) (by rwa [clearGroup_nil])

/-- The write that clears the counters `l` of a Quartz core sets its slack `a` to the maximum. -/
theorem answers_qtzCntclr {s : State} {c : Fin 16} (ho : s.opened) (hc : c.val < s.nQtz) :
    let l := [QTZ_LATECNT c.val, QTZ_ICMISS c.val, QTZ_STALL_LA c.val, QTZ_STALL_BRD c.val, QTZ_STALL_SYNC c.val]
    Answers (.qtzCntclr c) s fun t => t.regN (QTZ_SLACKMIN c.val) = 0x7FFFFF ∧ (∀ a ∈ l, t.regN a = s.regN a - s.beforeN a) ∧
      RegsBut s t (QTZ_SLACKMIN c.val :: l) ∧ t = { s with regs := t.regs, before := t.before } := by
  intro l
  have hn : ∀ c : Fin 16, [QTZ_SLACKMIN c.val, QTZ_LATECNT c.val, QTZ_ICMISS c.val, QTZ_STALL_LA c.val, QTZ_STALL_BRD c.val,
    QTZ_STALL_SYNC c.val].Nodup := by decide
  obtain ⟨apart, hl⟩ := List.nodup_cons.1 (hn c)
  have cleared : CountsCleared s (s.clearCounts l) l := clearCounts_cleared s hl
  have frame : s.qtzCounters c.val = { s with regs := (s.qtzCounters c.val).regs, before := (s.qtzCounters c.val).before } := by
    show (s.clearCounts l).setN _ _ = _
    rw [cleared.frame]
    rfl
  refine ⟨s.qtzCounters c.val, ?_, regN_setN .., fun a ha => ?_, fun a ha => ?_, frame⟩
  · show answer s (s.pf0 (s.qtzCntclr c)) = _
    rw [pf0_opened ho, State.qtzCntclr, if_neg (Nat.not_le.2 hc), frame]
    rfl
  · rw [← cleared.count a ha]
    exact regN_setN_ne _ _ fun e => apart (e ▸ ha)
  · obtain ⟨h1, h2⟩ := not_or.1 (mt List.mem_cons.2 ha)
    exact (reg_setN_ne _ _ h1).trans (cleared.regs a h2)

/-- Settles O52: each write clears registers at different addresses, the Quartz core's with its slack. -/
theorem counterClears : Obligations.CounterClears := by
  intro s n m p r q
  refine ⟨(List.forall_iff_forall_mem (p := ClearsGroup s)).1 ?_, answers_qtzCntclr⟩
  exact ⟨
    clearsGroup_of_present (by revert n; decide) rfl,
    clearsGroup_of_present (by revert m; decide) rfl,
    clearsGroup_of_present (by revert n; decide) rfl,
    clearsCounts_of_present (by revert p; decide) rfl,
    clearsGroup_of_present (by revert p; decide) rfl,
    clearsGroup (by revert p; decide) rfl,
    clearsCounts (by decide) rfl,
    clearsGroup (by revert p; decide) rfl,
    clearsCounts (by revert r; decide) rfl,
    clearsCounts (by revert p; decide) rfl,
    clearsCounts_of_present (by revert p; decide) rfl,
    clearsCounts_of_present (by revert q; decide) rfl⟩

end Sys2Proof.Machine

namespace Sys2Proof.Machine

/-! An output channel's trims at a free tick (03 R102; 16 R468). -/

/-- The code of a value in `n` bits is its residue. -/
theorem wrapInt_mod (n : Nat) (x : Int) : ((wrapInt n x % 2 ^ n : Nat) : Int) = x % 2 ^ n := by
  have hpos : (0 : Int) < 2 ^ n := by positivity
  have hnn := Int.emod_nonneg x hpos.ne'
  have hlt := Int.emod_lt_of_pos x hpos
  unfold wrapInt
  push_cast
  rw [Int.toNat_of_nonneg hnn]
  exact Int.emod_eq_of_lt hnn hlt

/-- From `s` to `t` output channel `n` has taken its trims. -/
structure OchTrimmed (s t : State) (n : Nat) : Prop extends RegsOnly s t (ochTrimRegs n) where
  dcofs : (t.fld (OCH_DCOFS n) 15 0 : Int) = s.trim 2 (n / 16) (64 + 8 * n) 2 true 0 % 2 ^ 16
  fstrim : (t.fld (OCH_FSTRIM n) 11 0 : Int) = s.trim 2 (n / 16) (64 + 8 * n + 2) 2 true 0 % 2 ^ 12
  set : t.fld (OCH_DELAY n) 7 0 = s.fld (OCH_DELAY n) 7 0
  sum : t.fld (OCH_DELAY n) 23 16 =
    min 244 (s.fld (OCH_DELAY n) 7 0 + (s.trim 4 (n / 16) (64 + 8 * n + 4) 1 false 61).toNat)

theorem ochTrimRegs_nodup (n : Nat) : (ochTrimRegs n).Nodup := by
  simp [ochTrimRegs, OCH_DCOFS, OCH_FSTRIM, OCH_DELAY, OCH_STAT]

theorem applyOch_trimmed (s : State) (n : Nat) : OchTrimmed s (s.applyOch n) n := by
  have apart := ochTrimRegs_nodup n
  simp only [ochTrimRegs, List.nodup_cons, List.mem_cons, List.not_mem_nil, or_false, not_or] at apart
  obtain ⟨⟨hcf, hcd, hcs⟩, ⟨hfd, hfs⟩, hds, -⟩ := apart
  suffices fields : _ ∧ _ ∧ _ ∧ _ by
    obtain ⟨h1, h2, h3, h4⟩ := fields
    exact ⟨applyOch_regs s n, h1, h2, h3, h4⟩
  unfold State.applyOch
  extract_lets b t cal sum a
  have dcofs : (a.fld (OCH_DCOFS n) 15 0 : Int) = s.trim 2 t b 2 true 0 % 2 ^ 16 := by
    rw [fld_ne _ _ _ _ (reg_setFld_ne _ _ _ _ hcf), fld_setFld _ _ _ _ _ (by decide) (by decide)]
    exact wrapInt_mod 16 _
  have fstrim : (a.fld (OCH_FSTRIM n) 11 0 : Int) = s.trim 2 t (b + 2) 2 true 0 % 2 ^ 12 := by
    rw [fld_setFld _ _ _ _ _ (by decide) (by decide)]
    exact wrapInt_mod 12 _
  have delay : a.fld (OCH_DELAY n) 7 0 = s.fld (OCH_DELAY n) 7 0 :=
    fld_ne _ _ _ _ ((reg_setFld_ne _ _ _ _ (Ne.symm hfd)).trans (reg_setFld_ne _ _ _ _ (Ne.symm hcd)))
  clear_value a
  refine ⟨?_, ?_, ?_, ?_⟩ <;> rw [fld_ne _ _ _ _ (reg_setBit_ne _ _ _ (by assumption))]
  · rwa [fld_ne _ _ _ _ (reg_setFld_ne _ _ _ _ hcd), fld_ne _ _ _ _ (reg_setFld_ne _ _ _ _ hcd)]
  · rwa [fld_ne _ _ _ _ (reg_setFld_ne _ _ _ _ hfd), fld_ne _ _ _ _ (reg_setFld_ne _ _ _ _ hfd)]
  · rwa [fld_setFld_disj _ _ _ _ _ _ _ (by decide) (by decide) (by decide),
      fld_setFld_disj _ _ _ _ _ _ _ (by decide) (by decide) (by decide)]
  · rw [fld_setFld _ _ _ _ _ (by decide) (by decide)]
    exact Nat.mod_eq_of_lt ((Nat.min_le_left ..).trans_lt (by decide))

theorem reg_trimTook (s : State) (k a : Nat) : (s.trimTook k).reg a = s.reg a := reg_updCal ..

/-- What has taken its trims waits no longer; the others wait as before. -/
theorem mem_trimDue_trimTook (s : State) (k j : Nat) : j ∈ (s.trimTook k).cal.trimDue ↔ j ∈ s.cal.trimDue ∧ j ≠ k := by
  simp [State.trimTook, State.updCal]

theorem trimTook_frame (s : State) (k : Nat) : s.trimTook k = { s with cal := (s.trimTook k).cal } := rfl

theorem execOutputTrimUpdate_eq (s : State) (n : Fin 64) : exec (.outputTrimUpdate n) s = answer s
    (if n.val < s.nOch ∧ s.trimMay n.val = true ∧ s.lanesAt n.val s.now = 0 then (s.applyOch n.val).trimTook n.val else s) := rfl

/-- Settles O50, by what a channel's trims leave in its registers. -/
theorem outputTrims : Obligations.OutputTrims := by
  refine fun s n => ⟨fun hn hm hl => ?_, fun h => ?_⟩
  · have takes : exec (.outputTrimUpdate n) s = answer s ((s.applyOch n.val).trimTook n.val) := by
      rw [execOutputTrimUpdate_eq, if_pos ⟨hn, hm, hl⟩]
    have done := applyOch_trimmed s n.val
    have due := mem_trimDue_trimTook (s.applyOch n.val) n.val
    have reg := reg_trimTook (s.applyOch n.val) n.val
    have frame := trimTook_frame (s.applyOch n.val) n.val
    have same : (s.applyOch n.val).cal = s.cal := by rw [done.frame]
    generalize (s.applyOch n.val).trimTook n.val = t at takes due reg frame
    have frame' : t = { s with regs := t.regs, cal := t.cal } := by rw [frame, done.frame]
    refine ⟨t, ?_, ?_, ?_, ?_, ?_, ?_, fun k hk => ?_, fun x hx => (reg x).trans (done.regs x hx), frame'⟩
    · rw [takes, frame']
      rfl
    · rw [fld_ne _ _ _ _ (reg _), done.dcofs]
    · rw [fld_ne _ _ _ _ (reg _), done.fstrim]
    · rw [fld_ne _ _ _ _ (reg _), done.set]
    · rw [fld_ne _ _ _ _ (reg _), done.sum]
    · simp [due]
    · simp [due, same, hk]
  · have waits : ¬ (n.val < s.nOch ∧ s.trimMay n.val = true ∧ s.lanesAt n.val s.now = 0) := by
      rintro ⟨hn, hm, hl⟩
      rcases h with h | h | h
      · omega
      · simp [State.trimMay, h] at hm
      · exact h hl
    rw [execOutputTrimUpdate_eq, if_neg waits, answer_self]

end Sys2Proof.Machine

namespace Sys2Proof.Machine

/-! A pulse and its pins (05 R169). -/

theorem pulse_updPulse {s : State} {id : Nat} {u : Pulse} (h : s.pulse id = some u) {f : Pulse → Pulse}
    (hf : ∀ v, (f v).id = v.id) : (s.updPulse id f).pulse id = some (f u) := by
  have same : ((fun v : Pulse => v.id == id) ∘ fun v => if v.id = id then f v else v) = fun v => v.id == id := by
    funext v
    simp only [Function.comp]
    split <;> simp [hf]
  have hi : u.id = id := by simpa using List.find?_some h
  show (s.fab.pulses.map fun v => if v.id = id then f v else v).find? (·.id == id) = _
  rw [List.find?_map, same, show s.fab.pulses.find? _ = some u from h, Option.map_some, if_pos hi]

theorem pulse_endPulse {s : State} {id : Nat} {u : Pulse} (h : s.pulse id = some u) (keep : Bool) :
    (s.endPulse id keep).pulse id = some { u with done := true, lane := if keep then u.lane else none } :=
  pulse_updPulse h (f := fun u => { u with done := true, lane := if keep then u.lane else none }) fun _ => rfl

/-- From `s` to `t` pulses, pins, registers and records have changed. -/
structure PulseWork (s t : State) : Prop where
  frame : t = { s with fab := { s.fab with pulses := t.fab.pulses }, geo := t.geo, parts := t.parts, regs := t.regs }

namespace PulseWork

theorem refl (s : State) : PulseWork s s := ⟨rfl⟩

theorem trans {a b c : State} (h1 : PulseWork a b) (h2 : PulseWork b c) : PulseWork a c := by
  refine ⟨?_⟩
  rw [h2.frame, h1.frame]

theorem updPulse (s : State) (id : Nat) (f : Pulse → Pulse) : PulseWork s (s.updPulse id f) := ⟨rfl⟩

theorem endPulse (s : State) (id : Nat) (keep : Bool) : PulseWork s (s.endPulse id keep) := ⟨rfl⟩

theorem setN (s : State) (a v : Nat) : PulseWork s (s.setN a v) := ⟨rfl⟩

theorem inc (s : State) (a n : Nat) : PulseWork s (s.inc a n) := setN s _ _

theorem of_noted {s t : State} {p : Nat} (h : Noted s t p) : PulseWork s t := by
  refine ⟨?_⟩
  rw [h.frame]

/-- The answer of a command that ends in such a state. -/
theorem answer {s t : State} (h : PulseWork s t) : Machine.answer s t = .next t := by
  rw [h.frame]
  rfl

end PulseWork

/-! Page requests (05 R169, R174). -/

/-- From `s` to `t` pages have been asked for: the cache, the counters and the lenders' records have changed. -/
structure PageWork (s t : State) : Prop where
  frame : t = { s with geo := t.geo, parts := t.parts, regs := t.regs }

theorem PageWork.trans {a b c : State} (h1 : PageWork a b) (h2 : PageWork b c) : PageWork a c := by
  refine ⟨?_⟩
  rw [h2.frame, h1.frame]

theorem setFullNote_pages (s : State) (p : Nat) (b : Bool) : PageWork s (s.setFullNote p b) := by
  unfold State.setFullNote
  split <;> exact ⟨rfl⟩

theorem pinLoan_pages (s : State) (p : Nat) (l : Option Nat) : PageWork s (s.pinLoan p l) := by
  unfold State.pinLoan
  split
  · split
    · exact ⟨rfl⟩
    · refine ⟨?_⟩
      rw [(yields_queued ..).frame]
  · exact ⟨rfl⟩

theorem requestPage_pages (s : State) (p n pg user untl due : Nat) : PageWork s (s.requestPage p n pg user untl due) := by
  unfold State.requestPage
  split
  · exact ⟨rfl⟩
  · extract_lets hit ent new excess lender ways full was ent' swap s1
    have asks : PageWork s s1 := ⟨rfl⟩
    exact asks.trans ((setFullNote_pages ..).trans (pinLoan_pages ..))

theorem requestPages_pages (s : State) (p n : Nat) (l : List Nat) (user untl due : Nat) :
    PageWork s (s.requestPages p n l user untl due) :=
  forEach_rel PageWork (fun _ => ⟨rfl⟩) (fun _ _ _ => .trans) _ _ _ fun _ _ => requestPage_pages ..

theorem PageWork.pulseWork {s t : State} (h : PageWork s t) : PulseWork s t := by
  refine ⟨?_⟩
  rw [h.frame]

theorem PageWork.pulse {s t : State} (h : PageWork s t) (id : Nat) : t.pulse id = s.pulse id := by
  rw [h.frame]
  rfl

/-! A due granule (03 R92; 05 R169, R172). -/

section Granule
variable {s : State} {id : Nat} {u : Pulse} {o : Obj}

/-- Pulse `u` after its next granule, played as zeros on a `miss`. -/
def Pulse.afterGranule (u : Pulse) (o : Obj) (miss : Bool) : Pulse :=
  { u with
    gran := u.gran + 1, played := u.played + 1, zeroed := miss
    env := ((if miss then List.replicate 16 0#32 else o.granule u.seg u.gran) ++ u.env).take 512 }

theorem playGranule_plays (hu : s.pulse id = some u) (hi : u.id = id) (o : Obj) (miss : Bool) :
    PulseWork s (s.playGranule u o miss) ∧ (s.playGranule u o miss).pulse id = some (u.afterGranule o miss) := by
  unfold State.playGranule
  extract_lets v data a horizon l b
  have plays : PulseWork s b := ⟨rfl⟩
  have pulse : b.pulse id = some (u.afterGranule o miss) := hi ▸ pulse_updPulse (hi ▸ hu) fun _ => rfl
  clear_value b
  have asks := requestPages_pages b u.part u.obj l u.id pinOpen (u.due o)
  exact ⟨plays.trans asks.pulseWork, (asks.pulse id).trans pulse⟩

/-- A granule that is not due yet waits. -/
theorem granuleDue_waits (hu : s.pulse id = some u) (ho : s.obj u.obj = some o) (ht : s.now < u.due o) :
    exec (.granuleDue id) s = .next s := by
  show answer s _ = _
  rw [hu]
  dsimp only
  rw [ho]
  dsimp only
  rw [if_pos (by simp [ht]), answer_self]

/-- Pulse `id` of partition `p` has run dry of page `pg` in a shot: it outputs zeros to its end. -/
def State.runDry (s : State) (id p obj pg : Nat) (tag : BitVec 64) : State :=
  (((s.inc (GEODE_UNDERRUN p)).cause p 2 0xF0 (resource 0x0C obj) pg tag).endPulse id true).updPulse id fun u =>
    { u with zeroed := true, req := none, carry := none }

variable (hu : s.pulse id = some u) (ho : s.obj u.obj = some o) (hp : u.playing = true) (hd : u.done = false)
  (hg : u.gran < (o.seg u.seg).len) (ht : u.due o ≤ s.now) (hl : o.limit = 0 ∨ u.played < o.limit)
include hu ho hp hd hg ht hl

theorem granuleDue_resident (hr : s.resident u.obj (o.pageOf u.seg u.gran) = true) :
    exec (.granuleDue id) s = answer s (s.playGranule u o false) := by
  show answer s _ = _
  rw [hu]
  dsimp only
  rw [ho]
  dsimp only
  rw [if_neg (by simp [hp, hd, hg, ht]), if_neg (by omega), if_pos hr]

theorem granuleDue_missing (hr : s.resident u.obj (o.pageOf u.seg u.gran) = false)
    (hq : s.quotaWaits u.obj (o.pageOf u.seg u.gran) = false) (hz : u.zeroed = false) (hm : (s.part u.part).mode = .shot) :
    exec (.granuleDue id) s =
      answer s (s.runDry id u.part u.obj (o.pageOf u.seg u.gran) (s.pulseTag u (u.at_ o) 1 false)) := by
  show answer s _ = _
  rw [hu]
  dsimp only
  rw [ho]
  dsimp only
  rw [if_neg (by simp [hp, hd, hg, ht]), if_neg (by omega), hr, hq, hz, if_neg (by simp), if_neg (by rw [hm]; simp)]
  rfl

end Granule

theorem runDry_dry {s : State} {id p : Nat} {u : Pulse} (hu : s.pulse id = some u) (hp : p < 8) (hm : (s.part p).mode = .shot)
    (ha : (s.part p).attempt.active = true) (obj pg : Nat) (tag : BitVec 64) :
    PulseWork s (s.runDry id p obj pg tag) ∧
      (∃ v, (s.runDry id p obj pg tag).pulse id = some v ∧ v.done = true ∧ v.zeroed = true) ∧
      (s.runDry id p obj pg tag).regN (GEODE_UNDERRUN p) = min (s.regN (GEODE_UNDERRUN p) + 1) (2 ^ 32 - 1) ∧
      ∃ x ∈ ((s.runDry id p obj pg tag).part p).attempt.taints, x.cause = 2 ∧ x.tick = s.now := by
  unfold State.runDry
  have counted := regN_inc s (GEODE_UNDERRUN p)
  have counts : PulseWork s (s.inc (GEODE_UNDERRUN p)) := .inc ..
  have noted := cause_noted (s.inc (GEODE_UNDERRUN p)) p 2 0xF0 (resource 0x0C obj) pg tag
  have taint := mem_taints_cause (s := s.inc (GEODE_UNDERRUN p)) hm ha 2 0xF0 (resource 0x0C obj) pg tag
  have pulse : ((s.inc (GEODE_UNDERRUN p)).cause p 2 0xF0 (resource 0x0C obj) pg tag).pulse id = some u := by
    rw [noted.frame]
    exact hu
  generalize (s.inc (GEODE_UNDERRUN p)).cause p 2 0xF0 (resource 0x0C obj) pg tag = a at noted taint pulse ⊢
  have low : a.regN (GEODE_UNDERRUN p) = (s.inc (GEODE_UNDERRUN p)).regN (GEODE_UNDERRUN p) :=
    congrArg BitVec.toNat (noted.reg_low (by unfold GEODE_UNDERRUN; omega))
  refine ⟨((counts.trans (.of_noted noted)).trans (.endPulse ..)).trans (.updPulse ..), ⟨_, pulse_updPulse (pulse_endPulse pulse _)
    fun _ => rfl, rfl, rfl⟩, low.trans counted, _, taint, rfl, rfl⟩

end Sys2Proof.Machine

namespace Sys2Proof.Machine

/-! The codes beyond PEAK (03 R100, R101). -/

/-- Whether the code of channel `n` for output sample `t` lies beyond PEAK. -/
def State.beyondPeak (s : State) (n t : Nat) : Prop := s.fld (OCH_LIMIT n) 13 0 < (s.codeAt n t).1.natAbs

/-- Forming samples meets a code beyond PEAK where one of them is. -/
theorem form_beyond (s : State) (n k t : Nat) (a : Formed) :
    (s.form n k t a).beyond = true ↔ a.beyond = true ∨ ∃ x ∈ List.range' t k, s.beyondPeak n x := by
  induction k generalizing t a with
  | zero => simp [State.form]
  | succ k ih =>
    have head : (∃ x ∈ List.range' t (k + 1), s.beyondPeak n x) ↔
        s.beyondPeak n t ∨ ∃ x ∈ List.range' (t + 1) k, s.beyondPeak n x := by
      rw [List.range'_succ, List.exists_mem_cons_iff]
    unfold State.form
    dsimp only
    split
    · rename_i h
      rw [Bool.and_eq_true, decide_eq_true_iff] at h
      exact iff_of_true rfl (.inr (head.2 (.inl h.1)))
    · rw [ih, head, Bool.or_eq_true, decide_eq_true_iff, or_assoc]
      rfl

/-- Without ACTION trip every sample is formed, and the pulses that play at a sample beyond PEAK or saturated are marked. -/
theorem mem_form_ovf {s : State} {n : Nat} (hb : s.bit (OCH_LIMIT n) 16 = false) (i k t : Nat) (a : Formed) :
    i ∈ (s.form n k t a).ovf ↔
      i ∈ a.ovf ∨ ∃ x ∈ List.range' t k, (s.beyondPeak n x ∨ (s.codeAt n x).2 = true) ∧ i ∈ s.playingAt n x := by
  induction k generalizing t a with
  | zero => simp [State.form]
  | succ k ih =>
    unfold State.form
    dsimp only
    rw [if_neg (by simp [hb]), ih, List.range'_succ, List.exists_mem_cons_iff, ← or_assoc]
    refine or_congr_left ?_
    dsimp only
    split
    · rename_i h
      have here : s.beyondPeak n t ∨ (s.codeAt n t).2 = true := by
        simpa [State.beyondPeak, or_comm] using h
      simp [here, or_comm]
    · rename_i h
      have none : ¬ (s.beyondPeak n t ∨ (s.codeAt n t).2 = true) := by
        simpa [State.beyondPeak, or_comm] using h
      simp [none]

/-- The samples of channel `n` that leave the balls up to 8 ticks from now and are not formed yet. -/
def State.ahead (s : State) (n : Nat) : List Nat :=
  let a := max (s.chan n).evalTo (32 * s.now)
  List.range' a (32 * (s.now + 9) - a)

/-- What forming those samples gives. -/
def State.formAhead (s : State) (n : Nat) : Formed :=
  let a := max (s.chan n).evalTo (32 * s.now)
  s.form n (32 * (s.now + 9) - a) a {}

theorem formAhead_beyond (s : State) (n : Nat) : (s.formAhead n).beyond = true ↔ ∃ t ∈ s.ahead n, s.beyondPeak n t := by
  simp [State.formAhead, State.ahead, form_beyond]

theorem mem_formAhead_ovf {s : State} {n : Nat} (hb : s.bit (OCH_LIMIT n) 16 = false) (i : Nat) : i ∈ (s.formAhead n).ovf ↔
    ∃ t ∈ s.ahead n, (s.beyondPeak n t ∨ (s.codeAt n t).2 = true) ∧ i ∈ s.playingAt n t := by
  simp [State.formAhead, State.ahead, mem_form_ovf hb]

/-- Partition `p`, owner of a channel that trips, on its way into HOLD. -/
def State.limitTrip (s : State) (n p : Nat) : State :=
  let a := (s.part p).attempt
  let tag := mkTag s.now 0 p a.shotNo 0 3 a.active false false false a.num
  let r := errorRec 7 7 1 (s.jobNum p) tag s.now (resource 1 n) 2
  let s := if a.active || (s.part p).mode == .stream then s.yields p 1 2 1 tag (s.lostEvents p) 255 else s
  s.enterHold p .trip [r]

/-- Channel `n` mutes at the next tick boundary, and PF0 takes its interrupt. -/
def State.limitMute (s : State) (n : Nat) : State := (s.asyncMute n).irqEvent 8 3

theorem execOutputLimitTrip_eq (s : State) (n : Fin 64) : exec (.outputLimitTrip n) s = answer s
    (if !(s.formAhead n.val).beyond then s
    else if !(s.stick (OCH_STAT n.val) 6).bit (OCH_LIMIT n.val) 16 then
      (s.stick (OCH_STAT n.val) 6).markOvf (s.formAhead n.val).ovf
    else match ((s.stick (OCH_STAT n.val) 6).limitMute n.val).ochOwner n.val with
      | none => (s.stick (OCH_STAT n.val) 6).limitMute n.val
      | some p => ((s.stick (OCH_STAT n.val) 6).limitMute n.val).limitTrip n.val p) := by
  have h : exec (.outputLimitTrip n) s = execOutputLimitTrip n s := rfl
  rw [h]
  unfold execOutputLimitTrip State.formAhead State.limitMute State.limitTrip
  rfl

theorem bit_stick_limit (s : State) (n : Nat) : (s.stick (OCH_STAT n) 6).bit (OCH_LIMIT n) 16 = s.bit (OCH_LIMIT n) 16 :=
  bit_ne _ _ _ (reg_stick_ne _ _ (by unfold OCH_LIMIT OCH_STAT; omega))

theorem outputLimit_within {s : State} {n : Fin 64} (h : ∀ t ∈ s.ahead n.val, ¬ s.beyondPeak n.val t) :
    exec (.outputLimitTrip n) s = .next s := by
  have none : (s.formAhead n.val).beyond = false := by
    rw [Bool.eq_false_iff, Ne, formAhead_beyond]
    rintro ⟨t, ht, hb⟩
    exact h t ht hb
  rw [execOutputLimitTrip_eq, none]
  rfl

theorem markOvf_frame (s : State) (l : List Nat) : s.markOvf l =
    { s with fab := { s.fab with pulses := (s.markOvf l).fab.pulses, events := (s.markOvf l).fab.events } } := rfl

theorem markOvf_pulses (s : State) (l : List Nat) : (s.markOvf l).fab.pulses =
    s.fab.pulses.map fun u => if u.id ∈ l then { u with ovf := true } else u := by
  show s.fab.pulses.map _ = _
  simp only [List.contains_iff_mem]

theorem answers_outputLimit_clips {s : State} {n : Fin 64} (h : ∃ t ∈ s.ahead n.val, s.beyondPeak n.val t)
    (hb : s.bit (OCH_LIMIT n.val) 16 = false) : Answers (.outputLimitTrip n) s fun t => t.bit (OCH_STAT n.val) 6 = true ∧
      t.fab.pulses = (s.fab.pulses.map fun u => if u.id ∈ (s.formAhead n.val).ovf then { u with ovf := true } else u) ∧
      t.fab = { s.fab with pulses := t.fab.pulses, events := t.fab.events } ∧ RegsBut s t [OCH_STAT n.val] ∧
      t = { s with regs := t.regs, before := t.before, fab := t.fab } := by
  have clips : exec (.outputLimitTrip n) s = answer s ((s.stick (OCH_STAT n.val) 6).markOvf (s.formAhead n.val).ovf) := by
    rw [execOutputLimitTrip_eq, (formAhead_beyond ..).2 h, bit_stick_limit, hb]
    rfl
  have frame := stick_frame s (OCH_STAT n.val) 6
  have flag := bit_stick s (OCH_STAT n.val) (i := 6) (by decide)
  have regs : RegsBut s (s.stick (OCH_STAT n.val) 6) [OCH_STAT n.val] := fun a ha => reg_stick_ne s 6 (by simpa using ha)
  generalize s.stick (OCH_STAT n.val) 6 = a at clips frame flag regs
  have fab : a.fab = s.fab := by rw [frame]
  have marks := markOvf_frame a (s.formAhead n.val).ovf
  have pulses := markOvf_pulses a (s.formAhead n.val).ovf
  have bits : ∀ x, (a.markOvf (s.formAhead n.val).ovf).reg x = a.reg x := fun _ => rfl
  generalize a.markOvf (s.formAhead n.val).ovf = t at clips marks pulses bits
  have frame' : t = { s with regs := t.regs, before := t.before, fab := t.fab } := by rw [marks, frame]
  refine ⟨t, ?_, (bit_ne _ _ _ (bits _)).trans flag, fab ▸ pulses, ?_, fun x hx => (bits x).trans (regs x hx), frame'⟩
  · rw [clips, frame']
    rfl
  · rw [marks, fab]

end Sys2Proof.Machine

namespace Sys2Proof.Machine

/-! HOLD changes no bit of an output channel's status but its STATE (01 R32; 03 R105). -/

/-- From `s` to `t` the status of channel `n` above STATE stays. -/
structure StatusKept (n : Nat) (s t : State) : Prop where
  bits : ∀ i, 2 ≤ i → t.bit (OCH_STAT n) i = s.bit (OCH_STAT n) i

namespace StatusKept
variable {n : Nat}

theorem refl (s : State) : StatusKept n s s := ⟨fun _ _ => rfl⟩

theorem trans {a b c : State} (h1 : StatusKept n a b) (h2 : StatusKept n b c) : StatusKept n a c :=
  ⟨fun i hi => (h2.bits i hi).trans (h1.bits i hi)⟩

theorem of_reg {s t : State} (h : t.reg (OCH_STAT n) = s.reg (OCH_STAT n)) : StatusKept n s t := ⟨fun i _ => bit_ne s t i h⟩

theorem of_regs {s t : State} (h : t.regs = s.regs) : StatusKept n s t := of_reg (by unfold State.reg; rw [h])

theorem of_noted {s t : State} {p : Nat} (h : Noted s t p) (hn : n < 64) : StatusKept n s t :=
  of_reg (h.reg_low (by unfold OCH_STAT; omega))

theorem setN (s : State) {a : Nat} (v : Nat) (h : OCH_STAT n ≠ a) : StatusKept n s (s.setN a v) := of_reg (reg_setN_ne s v h)

theorem updPart (s : State) (p : Nat) (f : Part → Part) : StatusKept n s (s.updPart p f) := of_regs rfl

theorem forEach {α : Type} {l : List α} {f : State → α → State} (h : ∀ s, ∀ x ∈ l, StatusKept n s (f s x)) (s : State) :
    StatusKept n s (s.forEach l f) := forEach_rel_mem refl (fun _ _ _ => trans) h s

theorem forEach_regs {α : Type} {f : State → α → State} (h : ∀ s x, (f s x).regs = s.regs) (s : State) (l : List α) :
    StatusKept n s (s.forEach l f) := forEach (fun t x _ => of_regs (h t x)) s

theorem asyncMute (s : State) (m : Nat) : StatusKept n s (s.asyncMute m) := by
  have mutes : StatusKept n s (s.muteCh m (s.now + 1)) := by
    unfold State.muteCh
    split
    · by_cases h : n = m
      · exact ⟨fun i hi => h ▸ bit_setFld_disj s (OCH_STAT m) 1 0 1 i (by decide) (by decide) (.inr hi)⟩
      · exact of_reg (reg_setFld_ne s _ _ _ (ochStat_ne h))
    · exact refl s
  have ends : ((s.muteCh m (s.now + 1)).endTones m).regs = (s.muteCh m (s.now + 1)).regs := by rw [endTones_frame]
  exact mutes.trans (of_regs ends)

theorem tripVerdict (s : State) {p : Nat} (hp : p < 8) (hn : n < 64) : StatusKept n s (s.tripVerdict p) := by
  have low : ∀ (t : State) {a : Nat} (v : Nat), 0x220100 ≤ a → StatusKept n t (t.setN a v) := fun t a v h =>
    setN t v (by unfold OCH_STAT; omega)
  have most : ∀ t : State, StatusKept n t (t.maxReg (STRATA_JMAX p) (t.part p).attempt.entries) := fun t =>
    of_reg (reg_maxReg_ne _ _ (by unfold OCH_STAT STRATA_JMAX; omega))
  rw [tripVerdict_eq]
  split
  · refine (of_noted (tripNotes_noted s p) hn).trans ?_
    generalize s.tripNotes p = a
    unfold State.tripCounts
    refine StatusKept.trans ?_ (updPart ..)
    refine StatusKept.trans ?_ (low _ _ (by unfold STRATA_CAUSECNT; omega))
    refine StatusKept.trans ?_ (low _ _ (by unfold STRATA_FAILS; omega))
    exact (most a).trans (updPart ..)
  · exact refl s

theorem rollback (s : State) (p : Nat) (hn : n < 64) : StatusKept n s (s.rollback p) := by
  unfold State.rollback
  split
  · have frames := restoreFrames_restored s p
    generalize s.restoreFrames p = a at frames ⊢
    have restored : StatusKept n s a := of_reg (frames.regs _ fun h => by
      have := recordRegs_hold h
      unfold OCH_STAT at this
      omega)
    have slots : StatusKept n a (a.restoreSlots p) := by
      unfold State.restoreSlots
      exact forEach_regs (by intros; rfl) ..
    generalize a.restoreSlots p = b at slots ⊢
    exact (restored.trans slots).trans (of_regs (t := b.restoreGraph p) rfl)
  · exact refl s

theorem biasHold (s : State) (p : Nat) (drop : Bool) : StatusKept n s (s.biasHold p drop) := by
  refine forEach (fun s k hk => ?_) s
  have hk := (mem_biasesOf hk).1
  have low : ∀ {a b : State}, BiasWork a b k → StatusKept n a b := fun h =>
    of_reg (h.regs _ (by simp only [List.mem_singleton, OCH_STAT, BIAS_STAT]; omega))
  refine StatusKept.trans (b := if drop then s.updBias k fun b => { b with events := [] } else s) ?_ ?_
  · split
    · exact low (.updBias ..)
    · exact refl s
  · generalize (if drop then s.updBias k fun b => { b with events := [] } else s) = a
    exact iteInduction (motive := StatusKept n a) (fun _ => low (.biasDefault ..)) fun _ => refl a

theorem holdOutputs (s : State) (p : Nat) (hn : n < 64) : StatusKept n s (s.holdOutputs p) := by
  unfold State.holdOutputs
  have halts : StatusKept n s (s.haltCores p) := by
    unfold State.haltCores
    exact forEach_regs (by intros; rfl) ..
  generalize s.haltCores p = a at halts ⊢
  have idles : StatusKept n a (a.micaIdle p) := by
    unfold State.micaIdle
    exact forEach_regs (by intros; rfl) ..
  generalize a.micaIdle p = b at idles ⊢
  have captures : StatusKept n b (b.captureHold p) := of_reg ((captureHold_captured b p).regs _ (by unfold OCH_STAT; omega))
  generalize b.captureHold p = d at captures ⊢
  have empties : StatusKept n d (d.forEach (d.slotsOf p) fun s i => s.updSlot i fun x => { x with queue := [] }) :=
    forEach_regs (by intros; rfl) ..
  dsimp only
  generalize d.forEach (d.slotsOf p) _ = e at empties ⊢
  have mutes : StatusKept n e (e.forEach (e.ochsOf p) State.asyncMute) := forEach (fun t m _ => asyncMute t m) e
  exact ((((halts.trans idles).trans captures).trans empties).trans mutes).trans (biasHold _ p true)

theorem enterHold {s : State} {p : Nat} (hp : p < 8) (hn : n < 64) (hm : (s.part p).mode ≠ .hold) (c : HoldCause)
    (l : List Rec) : StatusKept n s (s.enterHold p c l) := by
  have verdict : StatusKept n s (if c = .trip then s.tripVerdict p else s) := by
    split
    · exact tripVerdict s hp hn
    · exact refl s
  rw [enterHold_of_ne hm]
  dsimp only
  refine verdict.trans ?_
  generalize (if c = .trip then s.tripVerdict p else s) = v
  have discards : StatusKept n v (v.holdDiscard p) := of_regs rfl
  refine discards.trans ?_
  generalize v.holdDiscard p = a
  have restores : StatusKept n a (if (s.part p).attempt.active then a.rollback p else a.holdGraph p) := by
    split
    · exact rollback a p hn
    · exact of_regs rfl
  refine restores.trans ?_
  generalize (if (s.part p).attempt.active then a.rollback p else a.holdGraph p) = b
  have clears : StatusKept n b (b.holdClear p) := of_regs rfl
  refine (clears.trans (holdOutputs _ p hn)).trans ?_
  generalize (b.holdClear p).holdOutputs p = e
  refine (of_regs (holdRecords_queued e p l).regs).trans ?_
  generalize e.holdRecords p l = f
  have job : (f.holdJob p c).regs = f.regs := by rw [(holdJob_partOnly f p c).1.frame]
  generalize f.holdJob p c = g at job ⊢
  have mark : (g.holdMark p c).regs = g.regs := by rw [(holdMark_partOnly g p c).frame]
  exact of_regs (mark.trans job)

end StatusKept

/-! A channel that trips (03 R101). -/

theorem ochOwner_lt {s : State} {n p : Nat} (h : s.ochOwner n = some p) : p < 8 := by
  unfold State.ochOwner at h
  split at h
  · obtain rfl := Option.some.inj h
    exact bits_lt ..
  · cases h

/-- What the mute of a channel that trips leaves. -/
theorem limitMute_mutes (s : State) {n : Nat} (hn : n < 64) : HoldWork s (s.limitMute n) ∧ StatusKept n s (s.limitMute n) ∧
    (s.limitMute n).ochState n ≠ 2 ∧ ∀ p, (s.limitMute n).part p = s.part p := by
  have work := asyncMute_holdWork s hn
  have kept := StatusKept.asyncMute s n (n := n)
  have state := ochState_asyncMute s n
  have parts : ∀ p, (s.asyncMute n).part p = s.part p := fun p => by rw [asyncMute_frame]; rfl
  unfold State.limitMute
  generalize s.asyncMute n = a at work kept state parts ⊢
  have irq := irqEvent_frame a 8 3
  have regs : (a.irqEvent 8 3).regs = a.regs := by rw [irq]
  refine ⟨work.trans (.of_tables (by rw [irq])), kept.trans (.of_regs regs), ?_, fun p => (part_irqEvent ..).trans (parts p)⟩
  rwa [State.ochState, fld_ne a _ 1 0 (by unfold State.reg; rw [regs])]

/-- What the trip makes of the channel's owner. -/
theorem limitTrip_trips {s : State} {n p : Nat} (hn : n < 64) (hp : p < 8) (hm : (s.part p).mode ≠ .hold) :
    HoldWork s (s.limitTrip n p) ∧ StatusKept n s (s.limitTrip n p) ∧ ((s.limitTrip n p).part p).mode = .hold ∧
    ((s.limitTrip n p).part p).cause = .trip ∧ ((s.limitTrip n p).part p).resumeNeeded = true ∧
    ((s.limitTrip n p).part p).job = none := by
  unfold State.limitTrip
  extract_lets a tag r b
  have records : Queued s b := iteInduction (motive := Queued s) (fun _ => yields_queued ..) fun _ => .refl s
  have mode : (b.part p).mode ≠ .hold := (records.part p).mode.trans_ne hm
  clear_value b
  have held := enterHold_entered hp mode .trip [r]
  exact ⟨records.holdWork.trans held.work, (StatusKept.of_regs records.regs).trans (.enterHold hp hn mode ..), held.mode,
    held.cause, held.resume.trans (Bool.or_true _), held.job⟩

theorem answers_outputLimit_trips {s : State} {n : Fin 64} {p : Nat} (h : ∃ t ∈ s.ahead n.val, s.beyondPeak n.val t)
    (hb : s.bit (OCH_LIMIT n.val) 16 = true) (ho : s.ochOwner n.val = some p) (hm : (s.part p).mode ≠ .hold) :
    Answers (.outputLimitTrip n) s fun t => t.bit (OCH_STAT n.val) 6 = true ∧ (t.part p).mode = .hold ∧
      (t.part p).cause = .trip ∧ (t.part p).resumeNeeded = true ∧ (t.part p).job = none ∧
      (s.ochState n.val = 2 → t.ochState n.val = 1) := by
  have hx := execOutputLimitTrip_eq s n
  rw [(formAhead_beyond ..).2 h, bit_stick_limit, hb] at hx
  have flag := bit_stick s (OCH_STAT n.val) (i := 6) (by decide)
  have driven : (s.stick (OCH_STAT n.val) 6).ochState n.val = s.ochState n.val :=
    fld_setBit_disj _ _ 6 true 1 0 (by decide) (by decide)
  have owner : (s.stick (OCH_STAT n.val) 6).ochOwner n.val = some p :=
    (ochOwner_congr (reg_stick_ne s 6 (by unfold OCH_CTRL OCH_STAT; omega))).trans ho
  have parts : ∀ q, (s.stick (OCH_STAT n.val) 6).part q = s.part q := fun _ => rfl
  generalize s.stick (OCH_STAT n.val) 6 = a at hx flag driven owner parts
  obtain ⟨mute, muteKept, muted, muteParts⟩ := limitMute_mutes a n.isLt
  have owner' : (a.limitMute n.val).ochOwner n.val = some p :=
    (ochOwner_congr (mute.regs _ (by unfold HoldReg OCH_CTRL; omega))).trans owner
  rw [owner'] at hx
  generalize a.limitMute n.val = b at hx mute muteKept muted muteParts
  obtain ⟨trip, tripKept, mode, cause, resume, job⟩ :=
    limitTrip_trips n.isLt (ochOwner_lt ho) (s := b) (by rwa [muteParts, parts])
  refine ⟨_, hx, ?_, mode, cause, resume, job, fun hs => ?_⟩
  · exact ((muteKept.trans tripKept).bits 6 (by decide)).trans flag
  · show (b.limitTrip n.val p).ochState n.val = 1
    have h1 := mute.och n.val n.isLt
    have h2 := trip.och n.val n.isLt
    omega

end Sys2Proof.Machine

namespace Sys2Proof.Machine

/-! Jumps (03 R92 to R97). -/

section Jump
variable {s : State} {id : Nat} {u : Pulse} {o : Obj} (hu : s.pulse id = some u) (ho : s.obj u.obj = some o)
include hu ho

/-- Only a jump segment registers requests. -/
theorem jumpRegister_plain (hj : (o.seg u.seg).jen = false) : exec (.jumpRegister id) s = .next s := by
  show answer s _ = _
  rw [hu]
  dsimp only
  rw [ho]
  dsimp only
  rw [if_pos (by simp [hj]), answer_self]

theorem jumpRegister_registers (hp : u.playing = true) (hd : u.done = false) (hj : (o.seg u.seg).jen = true)
    (hr : u.req = none) (hc : u.carry = none) (hq : (s.slot (o.seg u.seg).jslot).queue = [])
    (hf : ((o.seg u.seg).jslot, (s.slot (o.seg u.seg).jslot).commits) ∉ u.used) (ha : u.passAt o ≤ s.now)
    (hb : s.now < u.passAt o + (o.seg u.seg).len * o.gp) :
    exec (.jumpRegister id) s = .next (s.updPulse id fun x => { x with
      req := some (s.slot (o.seg u.seg).jslot).value.state.toNat
      used := ((o.seg u.seg).jslot, (s.slot (o.seg u.seg).jslot).commits) :: x.used
      reqLate := decide (u.passAt o + ((o.seg u.seg).len - 1) * o.gp < s.now) }) := by
  show answer s _ = _
  rw [hu]
  dsimp only
  rw [ho]
  dsimp only
  rw [if_neg (by simp [hp, hd, hj, hr, hc, hq, hf, ha, hb])]
  rfl

variable (hp : u.playing = true) (hd : u.done = false) (hg : (o.seg u.seg).len ≤ u.gran) (ht : u.due o ≤ s.now)
include hp hd hg ht

theorem segmentPassEnd_passes (hs : u.stopAt = none) : exec (.segmentPassEnd id) s = answer s (s.passEnd u o) := by
  show answer s _ = _
  rw [hu]
  dsimp only
  rw [ho]
  dsimp only
  rw [if_neg (by simp [hp, hd, hg, ht]), hs]
  rfl

theorem segmentPassEnd_stops {i : Nat} (hs : u.stopAt = some i) (hi : i < u.at_ o) :
    exec (.segmentPassEnd id) s = answer s (s.endChain u o) := by
  show answer s _ = _
  rw [hu]
  dsimp only
  rw [ho]
  dsimp only
  rw [if_neg (by simp [hp, hd, hg, ht]), hs]
  dsimp only
  rw [if_pos (by simp [hi])]

end Jump

/-! The end of a pass. -/

/-- Without a request, and where none could be missed, a pass ends in the next one. -/
theorem passEnd_quiet {s : State} {u : Pulse} {o : Obj} (hc : u.carry = none) (hr : u.req = none)
    (h : (o.seg u.seg).jen = false ∨ (o.seg u.seg).forever = true ∨ u.pass ≠ (o.seg u.seg).reps) :
    s.passEnd u o = s.nextPass u o := by
  unfold State.passEnd
  rw [hc, hr]
  dsimp only
  rw [if_neg (by rcases h with h | h | h <;> simp [h])]

theorem nextPass_repeats {s : State} {u : Pulse} {o : Obj} (h : (o.seg u.seg).forever = true ∨ u.pass < (o.seg u.seg).reps) :
    s.nextPass u o = s.updPulse u.id fun x => { x with pass := x.pass + 1, gran := 0, req := none, reqLate := false } :=
  if_pos (by simpa using h)

theorem nextPass_follows {s : State} {u : Pulse} {o : Obj} (hf : (o.seg u.seg).forever = false)
    (hr : (o.seg u.seg).reps ≤ u.pass) (hl : u.seg + 1 < o.segs.length) :
    s.nextPass u o = s.updPulse u.id fun x => { x with seg := x.seg + 1, pass := 0, gran := 0, req := none, reqLate := false } :=
  (if_neg (by simp [hf, hr])).trans (if_pos hl)

theorem nextPass_ends {s : State} {u : Pulse} {o : Obj} (hu : s.pulse u.id = some u) (hf : (o.seg u.seg).forever = false)
    (hr : (o.seg u.seg).reps ≤ u.pass) (hl : o.segs.length ≤ u.seg + 1) : s.nextPass u o = s.endChain u o := by
  unfold State.nextPass
  dsimp only
  rw [if_neg (by simp [hf, hr]), if_neg (by omega), hu]

/-- The pulse's chain is over, and what it carried with it. -/
def State.chainOver (s : State) (id : Nat) : State :=
  (s.endPulse id true).updPulse id fun u => { u with carry := none, req := none }

theorem chainOver_over {s : State} {id : Nat} {u : Pulse} (hu : s.pulse id = some u) :
    ∃ v, (s.chainOver id).pulse id = some v ∧ v.done = true ∧ v.req = none :=
  ⟨_, pulse_updPulse (pulse_endPulse hu true) fun _ => rfl, rfl, rfl⟩

theorem chainOver_frame (s : State) (id : Nat) : s.chainOver id =
    { s with fab := { s.fab with pulses := (s.chainOver id).fab.pulses }, geo := (s.chainOver id).geo } := rfl

theorem endChain_quiet {s : State} {u : Pulse} (hc : u.carry = none) (hr : u.req = none) (o : Obj) :
    s.endChain u o = s.chainOver u.id := by
  unfold State.endChain
  rw [hc, hr]
  rfl

/-! A jump's result unit (03 R97). -/

/-- From `s` to `t` records and journal entries have been made on behalf of partition `p`. -/
structure Reported (s t : State) (p : Nat) : Prop where
  frame : t = { s with parts := t.parts, regs := t.regs }
  regs : RegsBut s t (recordRegs p)

theorem jumpResult_reported (s : State) (u : Pulse) (o : Obj) (i st tgt : Nat) (late missed : Bool) :
    Reported s (s.jumpResult u o i st tgt late missed) u.part := by
  unfold State.jumpResult
  extract_lets tag st' tgt' g b r
  have notes : Noted s b u.part := journal_noted ..
  clear_value b
  have queues : ∀ x, Reported s (b.queueRec u.part x) u.part := fun x => by
    have queued := queueRec_queued b u.part x
    refine ⟨by rw [queued.frame, notes.frame], fun a ha => ?_⟩
    rw [State.reg, queued.regs]
    exact notes.regs a ha
  split
  · split
    · exact ⟨by rw [State.updAtt, State.updPart, notes.frame], notes.regs⟩
    · exact queues _
  · exact ⟨notes.frame, notes.regs⟩

theorem Reported.reg_low {s t : State} {p a : Nat} (h : Reported s t p) (ha : a < 0x308200) : t.reg a = s.reg a :=
  h.regs a fun hm => absurd (recordRegs_hold hm) (by omega)

/-- A jump that takes effect is reported and counted, and leads to its target. -/
def State.jumped (s : State) (u : Pulse) (o : Obj) (st tgt : Nat) : State :=
  ((s.jumpResult u o u.seg st tgt false false).inc (OCH_JCNT u.ch)).jumpTo u o tgt

theorem passEnd_jumps {s : State} {u : Pulse} {o : Obj} {st : Nat} (hc : u.carry = none) (hr : u.req = some st)
    (hl : u.reqLate = false) : s.passEnd u o = s.jumped u o st ((o.seg u.seg).target st) := by
  unfold State.passEnd
  rw [hc, hr]
  dsimp only
  rw [hl]
  rfl

theorem jumpTo_segment {s : State} {u : Pulse} {o : Obj} {tgt : Nat} (h : tgt < 254) : s.jumpTo u o tgt =
    (s.updPulse u.id fun u => { u with carry := none, req := none, reqLate := false }).updPulse u.id fun u =>
      { u with seg := tgt, pass := 0, gran := 0 } := by
  unfold State.jumpTo
  dsimp only
  rw [if_neg (by omega), if_neg (by omega)]

theorem jumped_jumps {s : State} {u : Pulse} {o : Obj} {st tgt : Nat} (hu : s.pulse u.id = some u) (hn : u.ch < 64)
    (hd : u.done = false) (h : tgt < 254) :
    (∃ v, (s.jumped u o st tgt).pulse u.id = some v ∧ v.seg = tgt ∧ v.pass = 0 ∧ v.gran = 0 ∧ v.req = none ∧ v.done = false) ∧
      (s.jumped u o st tgt).regN (OCH_JCNT u.ch) = min (s.regN (OCH_JCNT u.ch) + 1) (2 ^ 32 - 1) ∧
      s.jumped u o st tgt = { s with
        fab := { s.fab with pulses := (s.jumped u o st tgt).fab.pulses }, parts := (s.jumped u o st tgt).parts
        regs := (s.jumped u o st tgt).regs } := by
  unfold State.jumped
  rw [jumpTo_segment h]
  have reports := jumpResult_reported s u o u.seg st tgt false false
  generalize s.jumpResult u o u.seg st tgt false false = a at reports ⊢
  have pulse : (a.inc (OCH_JCNT u.ch)).pulse u.id = some u := by
    rw [reports.frame]
    exact hu
  have count : (a.inc (OCH_JCNT u.ch)).regN (OCH_JCNT u.ch) = min (s.regN (OCH_JCNT u.ch) + 1) (2 ^ 32 - 1) := by
    rw [regN_inc, State.regN, reports.reg_low (by unfold OCH_JCNT; omega), State.regN]
  have frame : a.inc (OCH_JCNT u.ch) = { s with parts := a.parts, regs := (a.inc (OCH_JCNT u.ch)).regs } := by
    rw [State.inc, State.setN, State.setReg, reports.frame]
  generalize a.inc (OCH_JCNT u.ch) = b at pulse count frame ⊢
  have set := pulse_updPulse pulse (f := fun u => { u with carry := none, req := none, reqLate := false }) fun _ => rfl
  refine ⟨⟨_, pulse_updPulse set fun _ => rfl, rfl, rfl, rfl, rfl, hd⟩, count, ?_⟩
  rw [frame]
  rfl

/-! A request of the last pass that a stop ends (03 R96, R97). -/

theorem fld_incFld (s : State) (a : Nat) {hi lo : Nat} (hh : hi < 32) (hl : lo ≤ hi + 1) :
    (s.incFld a hi lo).fld a hi lo = min (s.fld a hi lo + 1) (2 ^ (hi + 1 - lo) - 1) := by
  have fits : satAdd (s.fld a hi lo) 1 (hi + 1 - lo) = min (s.fld a hi lo + 1) (2 ^ (hi + 1 - lo) - 1) := by
    unfold satAdd
    split <;> omega
  have pos := Nat.two_pow_pos (hi + 1 - lo)
  rw [State.incFld, fld_setFld _ _ _ _ _ hh hl, fits]
  exact Nat.mod_eq_of_lt (by omega)

/-- A request that came late counts as such. -/
def State.lateCount (s : State) (ch : Nat) (late : Bool) : State := if late then s.incFld (OCH_JLATE ch) 15 0 else s

theorem lateCount_counts (s : State) (ch : Nat) (late : Bool) : s.lateCount ch late = { s with regs := (s.lateCount ch late).regs } ∧
    (s.lateCount ch late).fld (OCH_JLATE ch) 31 16 = s.fld (OCH_JLATE ch) 31 16 ∧
    (s.lateCount ch late).fld (OCH_JLATE ch) 15 0 = min (s.fld (OCH_JLATE ch) 15 0 + if late then 1 else 0) 65535 := by
  unfold State.lateCount
  cases late with
  | true => exact ⟨rfl, fld_setFld_disj _ _ _ _ _ _ _ (by decide) (by decide) (by decide), fld_incFld _ _ (by decide) (by decide)⟩
  | false => exact ⟨rfl, rfl, (Nat.min_eq_left (Nat.le_of_lt_succ (bits_lt _ 15 0))).symm⟩

/-- The request for state `st` of pulse `u` is reported as missed, and counted. -/
def State.missed (s : State) (u : Pulse) (o : Obj) (st : Nat) : State :=
  ((s.lateCount u.ch u.reqLate).jumpResult u o u.seg st ((o.seg u.seg).target st) u.reqLate true).incFld (OCH_JLATE u.ch) 31 16

theorem endChain_missed {s : State} {u : Pulse} {o : Obj} {st : Nat} (hc : u.carry = none) (hr : u.req = some st) :
    s.endChain u o = (s.missed u o st).chainOver u.id := by
  unfold State.endChain
  rw [hc, hr]
  rfl

theorem missed_counts (s : State) {u : Pulse} (hn : u.ch < 64) (o : Obj) (st : Nat) :
    s.missed u o st = { s with parts := (s.missed u o st).parts, regs := (s.missed u o st).regs } ∧
    (s.missed u o st).fld (OCH_JLATE u.ch) 31 16 = min (s.fld (OCH_JLATE u.ch) 31 16 + 1) 65535 ∧
    (s.missed u o st).fld (OCH_JLATE u.ch) 15 0 =
      min (s.fld (OCH_JLATE u.ch) 15 0 + if u.reqLate then 1 else 0) 65535 := by
  unfold State.missed
  obtain ⟨frame, high, low⟩ := lateCount_counts s u.ch u.reqLate
  generalize s.lateCount u.ch u.reqLate = a at frame high low ⊢
  have reports := jumpResult_reported a u o u.seg st ((o.seg u.seg).target st) u.reqLate true
  generalize a.jumpResult u o u.seg st ((o.seg u.seg).target st) u.reqLate true = b at reports ⊢
  have reg : b.reg (OCH_JLATE u.ch) = a.reg (OCH_JLATE u.ch) := reports.reg_low (by unfold OCH_JLATE; omega)
  refine ⟨?_, ?_, ?_⟩
  · rw [State.incFld, State.setFld, State.setN, State.setReg, reports.frame, frame]
  · exact (fld_incFld _ _ (by decide) (by decide)).trans (by rw [fld_ne a b 31 16 reg, high]; rfl)
  · rw [State.incFld, fld_setFld_disj _ _ _ _ _ _ _ (by decide) (by decide) (by decide), fld_ne a b 15 0 reg, low]

end Sys2Proof.Machine

namespace Sys2Proof.Machine

/-! The obligation. -/

section Play
variable {s : State} {id : Nat} {u : Pulse} {o : Obj} (hu : s.pulse id = some u) (hi : u.id = id) (ho : s.obj u.obj = some o)
  (hp : u.playing = true) (hd : u.done = false)
include hu hi ho hp hd

theorem answers_granule_plays (hg : u.gran < (o.seg u.seg).len) (ht : u.due o ≤ s.now)
    (hl : o.limit = 0 ∨ u.played < o.limit) (hr : s.resident u.obj (o.pageOf u.seg u.gran) = true) :
    Answers (.granuleDue id) s fun t =>
      (∃ v, t.pulse id = some v ∧ v.gran = u.gran + 1 ∧ v.played = u.played + 1 ∧ v.zeroed = false ∧ v.seg = u.seg ∧
        v.pass = u.pass ∧ v.done = false) ∧
      t = { s with fab := t.fab, geo := t.geo, parts := t.parts, regs := t.regs } := by
  obtain ⟨work, pulse⟩ := playGranule_plays hu hi o false
  refine ⟨_, (granuleDue_resident hu ho hp hd hg ht hl hr).trans work.answer, ⟨_, pulse, rfl, rfl, rfl, rfl, rfl, hd⟩, ?_⟩
  rw [work.frame]

omit hi in
theorem answers_granule_missing (hn : u.part < 8) (hg : u.gran < (o.seg u.seg).len) (ht : u.due o ≤ s.now)
    (hl : o.limit = 0 ∨ u.played < o.limit) (hr : s.resident u.obj (o.pageOf u.seg u.gran) = false)
    (hq : s.quotaWaits u.obj (o.pageOf u.seg u.gran) = false) (hz : u.zeroed = false) (hm : (s.part u.part).mode = .shot)
    (ha : (s.part u.part).attempt.active = true) : Answers (.granuleDue id) s fun t =>
      (∃ v, t.pulse id = some v ∧ v.done = true ∧ v.zeroed = true) ∧
      t.regN (GEODE_UNDERRUN u.part) = min (s.regN (GEODE_UNDERRUN u.part) + 1) (2 ^ 32 - 1) ∧
      (∃ x ∈ (t.part u.part).attempt.taints, x.cause = 2 ∧ x.tick = s.now) ∧
      t = { s with fab := t.fab, geo := t.geo, parts := t.parts, regs := t.regs } := by
  obtain ⟨work, pulse, count, taint⟩ := runDry_dry hu hn hm ha u.obj (o.pageOf u.seg u.gran) (s.pulseTag u (u.at_ o) 1 false)
  refine ⟨_, (granuleDue_missing hu ho hp hd hg ht hl hr hq hz hm).trans work.answer, pulse, count, taint, ?_⟩
  rw [work.frame]

variable (hg : (o.seg u.seg).len ≤ u.gran) (ht : u.due o ≤ s.now) (hc : u.carry = none)
include hg ht hc

omit hi in
/-- A pass ends without a request, and where none could be missed. -/
theorem segmentPassEnd_quiet (hs : u.stopAt = none) (hr : u.req = none)
    (h : (o.seg u.seg).jen = false ∨ (o.seg u.seg).forever = true ∨ u.pass ≠ (o.seg u.seg).reps) :
    exec (.segmentPassEnd id) s = answer s (s.nextPass u o) := by
  rw [segmentPassEnd_passes hu ho hp hd hg ht hs, passEnd_quiet hc hr h]

theorem answers_chain_ends (hs : u.stopAt = none) (hr : u.req = none)
    (h : (o.seg u.seg).jen = false ∨ (o.seg u.seg).forever = true ∨ u.pass ≠ (o.seg u.seg).reps)
    (hf : (o.seg u.seg).forever = false) (hn : (o.seg u.seg).reps ≤ u.pass) (hl : o.segs.length ≤ u.seg + 1) :
    Answers (.segmentPassEnd id) s fun t => (∃ v, t.pulse id = some v ∧ v.done = true ∧ v.req = none) ∧
      t = { s with fab := { s.fab with pulses := t.fab.pulses }, geo := t.geo } := by
  have ended := chainOver_over hu
  have ends := segmentPassEnd_quiet hu ho hp hd hg ht hc hs hr h
  rw [nextPass_ends (hi ▸ hu) hf hn hl, endChain_quiet hc hr, hi] at ends
  exact ⟨_, ends, ended, chainOver_frame ..⟩

theorem answers_jump (hn : u.ch < 64) (hs : u.stopAt = none) {st : Nat} (hr : u.req = some st) (hl : u.reqLate = false)
    (h : (o.seg u.seg).target st < 254) : Answers (.segmentPassEnd id) s fun t =>
      (∃ v, t.pulse id = some v ∧ v.seg = (o.seg u.seg).target st ∧ v.pass = 0 ∧ v.gran = 0 ∧ v.req = none ∧
        v.done = false) ∧
      t.regN (OCH_JCNT u.ch) = min (s.regN (OCH_JCNT u.ch) + 1) (2 ^ 32 - 1) ∧
      t = { s with fab := { s.fab with pulses := t.fab.pulses }, parts := t.parts, regs := t.regs } := by
  have ends := segmentPassEnd_passes hu ho hp hd hg ht hs
  rw [passEnd_jumps hc hr hl] at ends
  subst hi
  obtain ⟨pulse, count, frame⟩ := jumped_jumps (st := st) hu hn hd h
  generalize s.jumped u o st ((o.seg u.seg).target st) = t at ends pulse count frame
  refine ⟨t, ?_, pulse, count, frame⟩
  rw [ends, frame]
  rfl

theorem answers_jump_missed (hn : u.ch < 64) {i st : Nat} (hs : u.stopAt = some i) (hb : i < u.at_ o)
    (hr : u.req = some st) : Answers (.segmentPassEnd id) s fun t =>
      (∃ v, t.pulse id = some v ∧ v.done = true ∧ v.req = none) ∧
      t.fld (OCH_JLATE u.ch) 31 16 = min (s.fld (OCH_JLATE u.ch) 31 16 + 1) 65535 ∧
      t.fld (OCH_JLATE u.ch) 15 0 = min (s.fld (OCH_JLATE u.ch) 15 0 + if u.reqLate then 1 else 0) 65535 ∧
      t = { s with fab := { s.fab with pulses := t.fab.pulses }, geo := t.geo, parts := t.parts, regs := t.regs } := by
  have ends := segmentPassEnd_stops hu ho hp hd hg ht hs hb
  obtain ⟨frame, high, low⟩ := missed_counts s hn o st
  rw [endChain_missed hc hr, hi] at ends
  generalize s.missed u o st = a at ends frame high low
  have ended : ∃ v, (a.chainOver id).pulse id = some v ∧ v.done = true ∧ v.req = none :=
    chainOver_over (u := u) (by rw [frame]; exact hu)
  have fields : ∀ hi lo, (a.chainOver id).fld (OCH_JLATE u.ch) hi lo = a.fld (OCH_JLATE u.ch) hi lo := fun _ _ => rfl
  have frame' := chainOver_frame a id
  generalize a.chainOver id = t at ends ended fields frame'
  have all : t = { s with fab := { s.fab with pulses := t.fab.pulses }, geo := t.geo, parts := t.parts, regs := t.regs } := by
    rw [frame', frame]
  refine ⟨t, ?_, ended, (fields 31 16).trans high, (fields 15 0).trans low, all⟩
  rw [ends, all]
  rfl

end Play

/-- Settles O18: granules, passes and jumps are branches of their commands; the samples ahead are formed one by one. -/
theorem pulsesPlay : Obligations.PulsesPlay := by
  refine ⟨⟨fun s id u o hu hi ho hn hch hp hd hg => ⟨granuleDue_waits hu ho, fun ht hl => ⟨fun hr => ?_, fun hr hq hz hm ha => ?_⟩⟩,
    fun s n => ⟨outputLimit_within, fun h hb => ?clips, fun h hb p ho hm => answers_outputLimit_trips h hb ho hm⟩⟩,
    fun s id u o hu hi ho hn hch hp hd => ⟨fun hj hr hc hq hf ha hb => jumpRegister_registers hu ho hp hd hj hr hc hq hf ha hb,
      jumpRegister_plain hu ho, fun hg ht hs hc => ⟨fun hr h => ⟨fun ha => ?_, fun hf hr' hl => ?_, fun hf hr' hl => ?_⟩,
        fun st hr hl h => ?_⟩, fun hg ht hc i st hs hb hr => ?_⟩⟩
  · exact answers_granule_plays hu hi ho hp hd hg ht hl hr
  · exact answers_granule_missing hu ho hp hd hn hg ht hl hr hq hz hm ha
  case clips =>
    obtain ⟨t, hx, flag, pulses, frame⟩ := answers_outputLimit_clips h hb
    refine ⟨t, hx, flag, pulses.trans (List.map_congr_left fun u _ => ?_), frame⟩
    exact if_congr (mem_formAhead_ovf hb u.id) rfl rfl
  · rw [segmentPassEnd_quiet hu ho hp hd hg ht hc hs hr h, nextPass_repeats ha, hi]
    rfl
  · rw [segmentPassEnd_quiet hu ho hp hd hg ht hc hs hr h, nextPass_follows hf hr' hl, hi]
    rfl
  · exact answers_chain_ends hu hi ho hp hd hg ht hc hs hr h hf hr' hl
  · exact answers_jump hu hi ho hp hd hg ht hc hch hs hr hl h
  · exact answers_jump_missed hu hi ho hp hd hg ht hc hch hs hb hr

end Sys2Proof.Machine

namespace Sys2Proof.Machine

/-! The fetch of an instruction, when it does not execute (04 R111, R118, R122, R157). -/

theorem qtz1_idle {s : State} {c : Nat} (f : State → Nat → State) (h : s.qtzLive c = none) : s.qtz1 c f = s := by
  unfold State.qtz1
  rw [h]

theorem qtz1_beyond {s : State} {c p : Nat} (f : State → Nat → State) (h : s.qtzLive c = some p)
    (hl : s.codeLen p ≤ (s.qtz c).pc) : s.qtz1 c f = s.coreFault c 6 := by
  unfold State.qtz1
  rw [h]
  exact if_pos hl

theorem qtz1_miss {s : State} {c p : Nat} (f : State → Nat → State) (h : s.qtzLive c = some p)
    (hl : (s.qtz c).pc < s.codeLen p) (hc : (s.qtz c).cached = false) : s.qtz1 c f = s.icacheMiss c := by
  simp [State.qtz1, h, Nat.not_le.2 hl, hc]

theorem qtz1_reserved {s : State} {c p : Nat} (f : State → Nat → State) (h : s.qtzLive c = some p)
    (hl : (s.qtz c).pc < s.codeLen p) (hc : (s.qtz c).cached = true) (hr : s.reservedAt p (s.qtz c).pc = true) :
    s.qtz1 c f = s.coreFault c fIllegal := by
  simp [State.qtz1, h, Nat.not_le.2 hl, hc, hr]

/-- The instructions of Quartz core `c` with the operand word `w` (04 R123). -/
def quartzInstrs (c : Fin 16) (w : BitVec 56) : List Instr :=
  [.add c w, .sub c w, .and_ c w, .or_ c w, .xor_ c w, .shl c w, .shr c w, .sra c w, .mul c w, .min_ c w, .max_ c w, .mov c w,
    .addp c w, .subp c w, .addi c w, .subi c w, .andi c w, .ori c w, .xori c w, .shli c w, .shri c w, .srai c w, .muli c w,
    .mini c w, .maxi c w, .ldi c w, .rnd c w, .movs c w, .nop c w, .wait c w, .waituntil c w, .br c w, .brv c w, .brd c w,
    .loop c w, .endl c w, .call c w, .ret c w, .halt c w, .shot c w, .endshot c w, .sync c w, .play c w, .playcw c w,
    .playcwStop c w, .setf c w, .setph c w, .shiftph c w, .meas c w, .setbias c w, .emitv c w]

/-- Each is a body behind the fetch that they share. -/
theorem exec_quartzInstrs (s : State) (c : Fin 16) (w : BitVec 56) :
    ∀ i ∈ quartzInstrs c w, ∃ f, exec i s = answer s (s.qtz1 c.val f) := by
  dsimp only [quartzInstrs]
  repeat refine List.forall_mem_cons.2 ⟨⟨_, rfl⟩, ?_⟩
  exact List.forall_mem_nil _

/-! What HOLD leaves of the cores' programs: halting keeps a core's PC and value registers (04 R112). -/

/-- From `s` to `t`, every core's PC and value registers are kept. -/
def CodeKept (s t : State) : Prop := ∀ k, (t.qtz k).pc = (s.qtz k).pc ∧ (t.qtz k).v = (s.qtz k).v

namespace CodeKept

theorem refl (s : State) : CodeKept s s := fun _ => ⟨rfl, rfl⟩

theorem trans {a b c : State} (h1 : CodeKept a b) (h2 : CodeKept b c) : CodeKept a c :=
  fun k => ⟨(h2 k).1.trans (h1 k).1, (h2 k).2.trans (h1 k).2⟩

theorem of_cores {s t : State} (h : t.cores = s.cores) : CodeKept s t := fun k => by simp only [State.qtz, h, and_self]

theorem updQtz (s : State) (c : Nat) (f : Core → Core) (h : ∀ q, (f q).pc = q.pc ∧ (f q).v = q.v) : CodeKept s (s.updQtz c f) := by
  intro k
  by_cases hk : k = c
  · subst hk
    rw [qtz_updQtz]
    exact h _
  · rw [qtz_updQtz_ne _ _ hk]
    exact ⟨rfl, rfl⟩

end CodeKept

theorem forEach_cores {α : Type} {l : List α} {f : State → α → State} (h : ∀ s x, (f s x).cores = s.cores) (s : State) :
    (s.forEach l f).cores = s.cores :=
  forEach_rel_mem (R := fun a b => b.cores = a.cores) (fun _ => rfl) (fun _ _ _ h1 h2 => h2.trans h1) (fun s x _ => h s x) s

theorem Queued.cores {s t : State} (h : Queued s t) : t.cores = s.cores := by rw [h.frame]
theorem Restored.cores {s t : State} {p : Nat} (h : Restored s t p) : t.cores = s.cores := by rw [h.frame]
theorem BiasWork.cores {s t : State} {n : Nat} (h : BiasWork s t n) : t.cores = s.cores := by rw [h.frame]
theorem PartOnly.cores {s t : State} {p : Nat} (h : PartOnly s t p) : t.cores = s.cores := by rw [h.frame]
theorem Noted.cores {s t : State} {p : Nat} (h : Noted s t p) : t.cores = s.cores := by rw [h.frame]

theorem SlotsOnly.cores {s t : State} {l : List Nat} (h : SlotsOnly s t l) : t.cores = s.cores := by rw [h.1]
theorem updGraph_cores (s : State) (p : Nat) (f : Graph → Graph) : (s.updGraph p f).cores = s.cores := rfl
theorem updMica_cores (s : State) (k : Nat) (f : Mica → Mica) : (s.updMica k f).cores = s.cores := rfl
theorem updBias_cores (s : State) (n : Nat) (f : Bias → Bias) : (s.updBias n f).cores = s.cores := rfl

theorem restoreSlots_cores (s : State) (p : Nat) : (s.restoreSlots p).cores = s.cores :=
  SlotsOnly.cores (forEach_slotsOnly (fun _ _ => updSlot_slotsOnly ..) s)

theorem rollback_cores (s : State) (p : Nat) : (s.rollback p).cores = s.cores := by
  unfold State.rollback State.restoreGraph
  split
  · exact (updGraph_cores ..).trans ((restoreSlots_cores ..).trans (restoreFrames_restored s p).cores)
  · rfl

theorem holdGraph_cores (s : State) (p : Nat) : (s.holdGraph p).cores = s.cores := by
  unfold State.holdGraph
  exact updGraph_cores ..

theorem micaIdle_cores (s : State) (p : Nat) : (s.micaIdle p).cores = s.cores := by
  unfold State.micaIdle
  exact forEach_cores (fun _ _ => updMica_cores ..) s

theorem holdDiscard_cores (s : State) (p : Nat) : (s.holdDiscard p).cores = s.cores := rfl

theorem holdClear_cores (s : State) (p : Nat) : (s.holdClear p).cores = s.cores := by
  unfold State.holdClear
  exact (PartOnly.updPart ..).cores

theorem biasHold_cores (s : State) (p : Nat) (drop : Bool) : (s.biasHold p drop).cores = s.cores := by
  have defaults : ∀ (s : State) (n : Nat), (if s.bit (BIAS_CFG n) 5 then s.biasDefault n else s).cores = s.cores := fun s n => by
    split
    · exact (BiasWork.biasDefault ..).cores
    · rfl
  refine forEach_cores (fun s n => (defaults _ n).trans ?_) s
  split
  · exact updBias_cores ..
  · rfl

theorem haltCores_codeKept (s : State) (p : Nat) : CodeKept s (s.haltCores p) := by
  unfold State.haltCores
  exact forEach_rel_mem .refl (fun _ _ _ => .trans) (fun s c _ => .updQtz s c _ fun _ => ⟨rfl, rfl⟩) s

theorem holdOutputs_codeKept (s : State) (p : Nat) : CodeKept s (s.holdOutputs p) := by
  unfold State.holdOutputs
  refine (haltCores_codeKept s p).trans (.of_cores ?_)
  rw [biasHold_cores, forEach_cores (fun s n => by rw [asyncMute_frame]),
    SlotsOnly.cores (forEach_slotsOnly (fun _ _ => updSlot_slotsOnly ..) _), (captureHold_captured _ p).frame]
  exact micaIdle_cores ..

/-- A HOLD that is no trip's keeps every core's PC and value registers. -/
theorem enterHold_codeKept (s : State) (p : Nat) {c : HoldCause} (hc : c ≠ .trip) (l : List Rec) :
    CodeKept s (s.enterHold p c l) := by
  by_cases hm : (s.part p).mode = .hold
  · have records : (s.forEach l fun s r => s.queueRec p r).cores = s.cores := forEach_cores (fun s r => (queueRec_queued s p r).cores) s
    unfold State.enterHold
    simp only [if_pos hm]
    split
    · exact .of_cores ((PartOnly.updPart ..).cores.trans ((setCause_partOnly ..).cores.trans records))
    · exact .of_cores records
  · rw [enterHold_of_ne hm, if_neg hc]
    dsimp only
    have restores : (if (s.part p).attempt.active then (s.holdDiscard p).rollback p else (s.holdDiscard p).holdGraph p).cores = s.cores := by
      split
      · exact (rollback_cores ..).trans (holdDiscard_cores s p)
      · exact (holdGraph_cores ..).trans (holdDiscard_cores s p)
    generalize (if (s.part p).attempt.active then _ else _) = a at restores ⊢
    refine (CodeKept.of_cores ((holdClear_cores a p).trans restores)).trans ((holdOutputs_codeKept _ p).trans (.of_cores ?_))
    rw [(holdMark_partOnly ..).cores, (holdJob_partOnly ..).1.cores, (holdRecords_queued ..).cores]

/-- A trigger with records while the partition is in HOLD leaves it there, and the other partitions alone. -/
theorem enterHold_stays {s : State} {p : Nat} (hm : (s.part p).mode = .hold) (c : HoldCause) (l : List Rec) :
    HoldCourse s (s.enterHold p c l) p ∧ ((s.enterHold p c l).part p).mode = .hold := by
  have records : Queued s (s.forEach l fun s r => s.queueRec p r) := forEach_queued _ _ _ fun _ _ => queueRec_queued ..
  unfold State.enterHold
  simp only [if_pos hm]
  generalize (s.forEach l fun s r => s.queueRec p r) = t at records ⊢
  have mode : (t.part p).mode = .hold := (records.part p).mode.trans hm
  split
  · exact ⟨(records.holdStage p).course.trans ((setCause_partOnly ..).trans (.updPart ..)).course,
      by rw [part_updPart, part_setCause]; exact mode⟩
  · exact ⟨(records.holdStage p).course, mode⟩

/-! A core fault (04 R157). -/

/-- A core fault is recorded: its code and its PC. -/
def State.faultRegs (s : State) (c code : Nat) : State := (s.setN (QTZ_FAULT c) code).setN (QTZ_FAULTPC c) (s.qtz c).pc

theorem part_faultRegs (s : State) (c code p : Nat) : (s.faultRegs c code).part p = s.part p := by simp [State.faultRegs]
theorem qtz_faultRegs (s : State) (c code k : Nat) : (s.faultRegs c code).qtz k = s.qtz k := by simp [State.faultRegs]

/-- The error record of a core fault. -/
def State.faultRec (s : State) (c p code : Nat) : Rec :=
  errorRec 3 code 1 (s.jobNum p) (s.cursorTag c p 0 3) s.now (resource 6 c) (s.qtz c).pc

theorem coreFault_eq {s : State} {c p : Nat} (h : s.qtzOwner c = some p) (code : Nat) : s.coreFault c code =
    ((s.faultRegs c code).enterHold p .coreFault [s.faultRec c p code]).updQtz c fun q => { q with st := .faulted } := by
  unfold State.coreFault
  rw [h]
  rfl

theorem faultRegs_regs {s : State} {c code p : Nat} {t : State} (hc : c < 64)
    (h : HoldCourse (s.faultRegs c code) t p) :
    t.regN (QTZ_FAULT c) = code % 2 ^ 32 ∧ t.regN (QTZ_FAULTPC c) = (s.qtz c).pc % 2 ^ 32 := by
  have keeps : ∀ a, ¬ HoldReg a → t.regN a = (s.faultRegs c code).regN a := fun a ha => congrArg BitVec.toNat (h.work.regs a ha)
  constructor
  · rw [keeps _ (by unfold HoldReg QTZ_FAULT; omega), State.faultRegs,
      regN_setN_ne _ _ (by unfold QTZ_FAULT QTZ_FAULTPC; omega), regN_setN]
  · rw [keeps _ (by unfold HoldReg QTZ_FAULTPC; omega), State.faultRegs, regN_setN]

theorem faultRegs_qtzOf (s : State) (c code p : Nat) : (s.faultRegs c code).qtzOf p = s.qtzOf p := by
  refine owner_congr State.qtzOwner (fun _ _ => rfl) (fun k _ => ?_) p
  unfold State.faultRegs
  rw [reg_setN_ne _ _ (by unfold QTZ_CFG QTZ_FAULTPC; omega), reg_setN_ne _ _ (by unfold QTZ_CFG QTZ_FAULT; omega)]

/-- Settles O8: the instructions share one fetch, and a core fault is its record and an immediate HOLD. -/
theorem quartzFetchAndFaults : Obligations.QuartzFetchAndFaults := by
  refine ⟨fun s c w i hi => ?_, fun s c code p ho hc hp => ?_⟩
  · obtain ⟨f, hf⟩ := exec_quartzInstrs s c w i hi
    rw [hf]
    refine ⟨fun h => ?_, fun p h hl => ?_, fun p h hl hm => ?_, fun p h hl hm hr => ?_⟩
    · rw [qtz1_idle f h, answer_self]
    · rw [qtz1_beyond f h hl]
    · rw [qtz1_miss f h hl hm]
      rfl
    · rw [qtz1_reserved f h hl hm hr]
      rfl
  · have hp8 : p < 8 := hp.trans_le (nPart_le s)
    have hc64 : c < 64 := (show c < s.nOch / 4 from hc).trans_le (by have := nOch_le s; omega)
    have code' := enterHold_codeKept (s.faultRegs c code) p (c := .coreFault) (by decide) [s.faultRec c p code]
    have enters : (s.part p).mode ≠ .hold →
        EnteredHold (s.faultRegs c code) ((s.faultRegs c code).enterHold p .coreFault [s.faultRec c p code]) p .coreFault :=
      fun hm => enterHold_entered hp8 (by rwa [part_faultRegs]) _ _
    have course : HoldCourse (s.faultRegs c code) ((s.faultRegs c code).enterHold p .coreFault [s.faultRec c p code]) p ∧
        (((s.faultRegs c code).enterHold p .coreFault [s.faultRec c p code]).part p).mode = .hold := by
      by_cases hm : (s.part p).mode = .hold
      · exact enterHold_stays (by rwa [part_faultRegs]) _ _
      · exact ⟨(enters hm).toHoldCourse, (enters hm).mode⟩
    rw [coreFault_eq ho]
    generalize (s.faultRegs c code).enterHold p .coreFault [s.faultRec c p code] = t at code' enters course ⊢
    obtain ⟨hcode, hpc⟩ := faultRegs_regs hc64 course.1
    refine ⟨hcode, hpc, by rw [qtz_updQtz], by rw [qtz_updQtz]; exact (code' c).1.trans (by rw [qtz_faultRegs]), by rw [qtz_updQtz]; exact (code' c).2.trans (by rw [qtz_faultRegs]),
      course.2,
      fun hm => ⟨(enters hm).cause, ?_, fun k hk hkc => ?_⟩, fun q hq => (course.1.others q hq).mode.trans (by rw [part_faultRegs])⟩
    · rw [part_updQtz, (enters hm).resume]
      exact Bool.or_true _
    · rw [qtz_updQtz_ne _ _ hkc]
      exact (enters hm).halted k (faultRegs_qtzOf s c code p ▸ hk)

end Sys2Proof.Machine

namespace Sys2Proof.Machine

/-! Instructions with an operand word that is legal, or is not (04 R122). -/

theorem legal_true {s : State} {c : Nat} {b : Bool} (h : b = true) (f : State → State) : s.legal c b f = f s := if_pos h

/-- An instruction whose word is not legal is the fault ILLEGAL. -/
theorem faults_illegal {i : Instr} {s : State} {c p : Nat} {b : Bool} {F : State → Nat → State} {f : State → State}
    (he : s.executes c p) (hi : exec i s = answer s (s.qtz1 c F)) (hF : F (s.fetch c) p = (s.fetch c).legal c b f)
    (hb : b = false) : Faults i s c 5 := by
  unfold Faults
  rw [exec_of_executes he hi, hF, State.legal, hb]
  rfl

@[simp] theorem part_fetch (s : State) (c p : Nat) : (s.fetch c).part p = s.part p := by
  rw [fetch_cores]
  rfl

/-- A field that the listed ones do not touch is 0 where only the listed ones may be set. -/
theorem bits_of_onlyBits {n hi lo : Nat} {l : List (Nat × Nat)} (h : onlyBits n l = true)
    (hl : ∀ f ∈ l, hi < f.2 ∨ (f.1 < lo ∧ f.2 ≤ f.1 + 1)) : bits n hi lo = 0 := by
  induction l generalizing n with
  | nil =>
    have hn : n = 0 := by simpa [onlyBits] using h
    rw [hn]
    simp [bits]
  | cons f l ih =>
    have := ih (n := setBits n f.1 f.2 0) h fun g hg => hl g (List.mem_cons_of_mem _ hg)
    rcases hl f List.mem_cons_self with hf | hf
    · rwa [bits_setBits_below _ _ _ _ _ _ hf] at this
    · rwa [bits_setBits_above _ _ _ _ _ _ hf.1 hf.2] at this

theorem qf_extract (w : BitVec 56) (hi lo : Nat) : qf w hi lo = (w.extractLsb' lo (hi + 1 - lo)).toNat := by
  rw [BitVec.extractLsb'_toNat]
  rfl

theorem qword_append (op : BitVec 8) (w : BitVec 56) : qword op.toNat w = op ++ w := by
  refine BitVec.eq_of_toNat_eq ?_
  have := op.isLt
  have := w.isLt
  rw [append_nat, qword, BitVec.toNat_ofNat]
  omega

end Sys2Proof.Machine

namespace Sys2Proof.Machine

/-! WAITUNTIL (04 R126). -/

/-- The word of WAITUNTIL. -/
def untilWord (m : BitVec 2) (k : BitVec 6) (T : Word) : BitVec 56 := m ++ k ++ 0#8 ++ T ++ 0#8

theorem untilWord_toNat (m : BitVec 2) (k : BitVec 6) (T : Word) :
    (untilWord m k T).toNat = m.toNat * 2 ^ 54 + (k.toNat * 2 ^ 48 + (T.toNat * 2 ^ 8 + 0)) := by
  have h : (untilWord m k T).toNat = ((((m.toNat * 2 ^ 6 + k.toNat) * 2 ^ 8 + 0) * 2 ^ 32 + T.toNat) * 2 ^ 8 + 0) := by
    unfold untilWord
    simp only [append_nat]
    rfl
  rw [h]
  ring

theorem untilWord_fields (m : BitVec 2) (k : BitVec 6) (T : Word) : qf (untilWord m k T) 55 54 = m.toNat ∧
    qf (untilWord m k T) 53 48 = k.toNat ∧ qf (untilWord m k T) 39 8 = T.toNat := by
  have := m.isLt; have := k.isLt; have := T.isLt
  unfold qf bits
  simp only [untilWord_toNat, Nat.shiftRight_eq_div_pow]
  refine ⟨?_, ?_, ?_⟩ <;> omega

theorem untilWord_onlyBits (m : BitVec 2) (k : BitVec 6) (T : Word) :
    onlyBits (untilWord m k T).toNat [(55, 54), (53, 48), (39, 8)] = true := by
  have := m.isLt; have := k.isLt; have := T.isLt
  rw [untilWord_toNat, onlyBits_top (by omega) (by omega), onlyBits_top (by omega) (by omega), onlyBits_top (by omega) (by omega)]
  rfl

/-- A reserved bit or encoding makes the word illegal. -/
theorem until_reserved {w : BitVec 56} (h : w.extractLsb' 40 8 ≠ 0#8 ∨ w.extractLsb' 0 8 ≠ 0#8 ∨
    2 ≤ (w.extractLsb' 54 2).toNat ∨ 32 < (w.extractLsb' 48 6).toNat) :
    (onlyBits w.toNat [(55, 54), (53, 48), (39, 8)] && qf w 55 54 < 2 && qf w 53 48 ≤ 32) = false := by
  have gap : ∀ {hi lo : Nat}, (w.extractLsb' lo (hi + 1 - lo)) ≠ 0#_ →
      (∀ f ∈ [(55, 54), (53, 48), (39, 8)], hi < f.2 ∨ (f.1 < lo ∧ f.2 ≤ f.1 + 1)) →
      onlyBits w.toNat [(55, 54), (53, 48), (39, 8)] = false := fun hx hl => by
    refine Bool.eq_false_iff.2 fun ho => hx (BitVec.eq_of_toNat_eq ?_)
    rw [← qf_extract]
    exact (bits_of_onlyBits ho hl).trans (by simp)
  have hm : qf w 55 54 = (w.extractLsb' 54 2).toNat := qf_extract ..
  have hk : qf w 53 48 = (w.extractLsb' 48 6).toNat := qf_extract ..
  rcases h with h | h | h | h
  · rw [gap (hi := 47) h (by decide)]
    rfl
  · rw [gap (hi := 7) h (by decide)]
    rfl
  · rw [hm, decide_eq_false (Nat.not_lt.2 h), Bool.and_false, Bool.false_and]
  · rw [hk, decide_eq_false (Nat.not_le.2 h), Bool.and_false]

/-- `alignTick` is the earliest tick at or after the cursor that is `t` modulo 2^k. -/
theorem alignTick_least (tl k t : Nat) : tl ≤ 32 * alignTick tl k t ∧ alignTick tl k t % 2 ^ k = t % 2 ^ k ∧
    ∀ y, tl ≤ 32 * y → y % 2 ^ k = t % 2 ^ k → alignTick tl k t ≤ y := by
  unfold alignTick
  dsimp only
  have pos := Nat.two_pow_pos k
  generalize 2 ^ k = m at pos ⊢
  have ha : tl ≤ 32 * ((tl + 31) / 32) := by omega
  have least : ∀ y, tl ≤ 32 * y → (tl + 31) / 32 ≤ y := by omega
  generalize (tl + 31) / 32 = a at ha least ⊢
  have hr := Nat.mod_lt t pos
  have hq := Nat.mod_lt a pos
  have split : (t % m + m - a % m) % m = if a % m ≤ t % m then t % m - a % m else t % m + m - a % m := by
    split
    · rw [Nat.sub_add_comm ‹_›, Nat.add_mod_right, Nat.mod_eq_of_lt (by omega)]
    · exact Nat.mod_eq_of_lt (by omega)
  have hd := Nat.div_add_mod a m
  refine ⟨by omega, ?_, fun y hy hm => ?_⟩
  · have : a + (t % m + m - a % m) = t % m + m * (a / m + 1) := by rw [Nat.mul_add]; omega
    rw [Nat.add_mod, Nat.mod_mod, ← Nat.add_mod, this, Nat.add_mul_mod_self_left, Nat.mod_mod]
  · have hy := least y hy
    have hdy := Nat.div_add_mod y m
    rw [split]
    rw [hm] at hdy
    have hle : a / m ≤ y / m := Nat.div_le_div_right hy
    split
    · have := Nat.mul_le_mul_left m hle
      omega
    · rcases Nat.lt_or_eq_of_le hle with hlt | heq
      · have := Nat.mul_le_mul_left m hlt
        rw [Nat.mul_succ] at this
        omega
      · rw [heq] at hd
        omega

section
variable {s : State} {c p : Nat} {k : BitVec 6} {T : Word} (hk : k.toNat ≤ 32)
include hk

theorem waituntil_legal (m : BitVec 2) (hm : m.toNat < 2) :
    (onlyBits (untilWord m k T).toNat [(55, 54), (53, 48), (39, 8)] && qf (untilWord m k T) 55 54 < 2 &&
      qf (untilWord m k T) 53 48 ≤ 32) = true := by
  obtain ⟨h1, h2, -⟩ := untilWord_fields m k T
  rw [untilWord_onlyBits, h1, h2]
  simp [hm, hk]

theorem waituntil_aligned : s.waituntil c p (untilWord 1#2 k T) = s.updQtz c fun q =>
    ({ q with tl := wrapTl (32 * alignTick (s.qtz c).tl k.toNat T.toNat) }).next := by
  obtain ⟨h1, h2, h3⟩ := untilWord_fields 1#2 k T
  unfold State.waituntil
  rw [legal_true (waituntil_legal hk _ (by decide)), h1, h2, h3]
  rfl

/-- The shot-relative form: its base is the shot's start inside one, and else the last E, for which it waits. -/
theorem waituntil_relative : s.waituntil c p (untilWord 0#2 k T) =
    let upTo := fun x : Nat => s.updQtz c fun q => ({ q with tl := max q.tl (wrapTl (32 * (x + T.toNat))) }).next
    if (s.qtz c).inShot then upTo (s.part p).attempt.s
    else if (s.part p).attempt.active ∧ (s.part p).attempt.e.isNone ∧ (s.part p).probe.isNone then
      s.qstall c .stallShot (0x03#8 ++ untilWord 0#2 k T)
    else upTo ((s.part p).shotE.getD (match (s.part p).job with | some j => j.startTick | none => 0)) := by
  obtain ⟨h1, h2, h3⟩ := untilWord_fields 0#2 k T
  unfold State.waituntil
  rw [legal_true (waituntil_legal hk _ (by decide)), h1, h3, ← qword_append]
  cases (s.part p).shotE <;> rfl

end

theorem fetched_inShot (q : Core) : q.fetched.inShot = q.inShot := by
  rw [fetched_frame]

/-- Settles O13, by the form of the word and the cases of the base tick. -/
theorem quartzWaitUntil : Obligations.QuartzWaitUntil := by
  intro s c p he
  refine ⟨fun w hw => faults_illegal he rfl rfl (until_reserved hw), fun k T hk => ?_⟩
  have relative := exec_of_executes (i := .waituntil c (untilWord 0#2 k T)) he rfl
  rw [waituntil_relative hk] at relative
  have aligned := exec_of_executes (i := .waituntil c (untilWord 1#2 k T)) he rfl
  rw [waituntil_aligned hk] at aligned
  simp only [part_fetch, qtz_fetch] at relative aligned
  dsimp only
  have base : (s.qtz c.val).fetched.inShot = false →
      ((s.part p).attempt.active = false ∨ (s.part p).attempt.e ≠ none ∨ (s.part p).probe ≠ none) →
      ∀ e, (s.part p).shotE.getD (match (s.part p).job with | some j => j.startTick | none => 0) = e →
      SetsCore (.waituntil c (untilWord 0#2 k T)) s c.val { (s.qtz c.val).fetched with
        tl := max (s.qtz c.val).fetched.tl (wrapTl (32 * (e + T.toNat))), pc := ((s.qtz c.val).fetched.pc + 1) % 2 ^ 21 } := by
    intro hs hw e hb
    have known : ¬ ((s.part p).attempt.active ∧ (s.part p).attempt.e.isNone ∧ (s.part p).probe.isNone) := by
      rintro ⟨h1, h2, h3⟩
      simp [h1, Option.isNone_iff_eq_none.1 h2, Option.isNone_iff_eq_none.1 h3] at hw
    rw [hs, if_neg Bool.false_ne_true, if_neg known, hb] at relative
    exact sets_core relative
  refine ⟨fun hs => ?_, fun hs ha h1 h2 => ?_, fun e hs hw h => base hs hw e (by rw [h]; rfl),
    fun j hs hw h1 h2 => base hs hw _ (by rw [h1, h2]; rfl),
    alignTick (s.qtz c.val).fetched.tl k.toNat T.toNat, ?_⟩
  · rw [hs, if_pos rfl] at relative
    exact sets_core relative
  · rw [hs, if_neg Bool.false_ne_true, if_pos ⟨ha, by rw [h1]; rfl, by rw [h2]; rfl⟩] at relative
    obtain ⟨t, ht, frame, cores, core⟩ := sets_core relative
    exact ⟨t, ht, cores, frame, by rw [core], by rw [core], by rw [core], by rw [core]; rfl⟩
  · obtain ⟨low, mod, least⟩ := alignTick_least (s.qtz c.val).fetched.tl k.toNat T.toNat
    exact ⟨low, mod, least, sets_core aligned⟩

end Sys2Proof.Machine

namespace Sys2Proof.Machine

/-! The words of the arithmetic instructions (04 R122, R131). -/

/-- The word of a register form: D, A and B. -/
def regWord (d a b : BitVec 6) : BitVec 56 := d ++ a ++ b ++ 0#38

/-- The word of an immediate form: D, A and IMM. -/
def immWord (d a : BitVec 6) (y : Word) : BitVec 56 := d ++ a ++ 0#12 ++ y

theorem regWord_toNat (d a b : BitVec 6) :
    (regWord d a b).toNat = d.toNat * 2 ^ 50 + (a.toNat * 2 ^ 44 + (b.toNat * 2 ^ 38 + 0)) := by
  have h : (regWord d a b).toNat = ((d.toNat * 2 ^ 6 + a.toNat) * 2 ^ 6 + b.toNat) * 2 ^ 38 + 0 := by
    unfold regWord
    simp only [append_nat]
    rfl
  rw [h]
  ring

theorem immWord_toNat (d a : BitVec 6) (y : Word) :
    (immWord d a y).toNat = d.toNat * 2 ^ 50 + (a.toNat * 2 ^ 44 + (y.toNat * 2 ^ 0 + 0)) := by
  have h : (immWord d a y).toNat = ((d.toNat * 2 ^ 6 + a.toNat) * 2 ^ 12 + 0) * 2 ^ 32 + y.toNat := by
    unfold immWord
    simp only [append_nat]
    rfl
  rw [h]
  ring

theorem regWord_fields (d a b : BitVec 6) :
    qf (regWord d a b) 55 50 = d.toNat ∧ qf (regWord d a b) 49 44 = a.toNat ∧ qf (regWord d a b) 43 38 = b.toNat := by
  have := d.isLt; have := a.isLt; have := b.isLt
  unfold qf bits
  simp only [regWord_toNat, Nat.shiftRight_eq_div_pow]
  refine ⟨?_, ?_, ?_⟩ <;> omega

theorem immWord_fields (d a : BitVec 6) (y : Word) :
    qf (immWord d a y) 55 50 = d.toNat ∧ qf (immWord d a y) 49 44 = a.toNat ∧ qf (immWord d a y) 31 0 = y.toNat := by
  have := d.isLt; have := a.isLt; have := y.isLt
  unfold qf bits
  simp only [immWord_toNat, Nat.shiftRight_eq_div_pow]
  refine ⟨?_, ?_, ?_⟩ <;> omega

theorem onlyBits_zero (l : List (Nat × Nat)) : onlyBits 0 l = true := by
  unfold onlyBits
  induction l with
  | nil => rfl
  | cons f l ih =>
    have hz : setBits 0 f.1 f.2 0 = 0 := by simp [setBits, bits]
    rw [List.foldl_cons, hz]
    exact ih

theorem regWord_onlyBits (d a b : BitVec 6) : onlyBits (regWord d a b).toNat [(55, 50), (49, 44), (43, 38)] = true := by
  have := d.isLt; have := a.isLt; have := b.isLt
  rw [regWord_toNat, onlyBits_top (by omega) (by omega), onlyBits_top (by omega) (by omega), onlyBits_top (by omega) (by omega)]
  exact onlyBits_zero []

theorem immWord_onlyBits (d a : BitVec 6) (y : Word) :
    onlyBits (immWord d a y).toNat [(55, 50), (49, 44), (31, 0)] = true := by
  have := d.isLt; have := a.isLt; have := y.isLt
  rw [immWord_toNat, onlyBits_top (by omega) (by omega), onlyBits_top (by omega) (by omega), onlyBits_top (by omega) (by omega)]
  exact onlyBits_zero []

/-- A word that names D, and A, and nothing else. -/
theorem regWord_da_onlyBits (d a : BitVec 6) : onlyBits (regWord d a 0#6).toNat [(55, 50), (49, 44)] = true := by
  have := d.isLt; have := a.isLt
  rw [regWord_toNat, onlyBits_top (by omega) (by simp; omega), onlyBits_top (by omega) (by simp)]
  exact onlyBits_zero []

theorem regWord_d_onlyBits (d : BitVec 6) : onlyBits (regWord d 0#6 0#6).toNat [(55, 50)] = true := by
  have := d.isLt
  rw [regWord_toNat, onlyBits_top (by omega) (by simp)]
  exact onlyBits_zero []

theorem regWord_da (d a : BitVec 6) : d ++ a ++ 0#44 = regWord d a 0#6 := by
  refine BitVec.eq_of_toNat_eq ?_
  simp only [append_nat, regWord_toNat, BitVec.toNat_ofNat, Nat.zero_mod]
  ring

theorem regWord_d (d : BitVec 6) : d ++ 0#50 = regWord d 0#6 0#6 := by
  refine BitVec.eq_of_toNat_eq ?_
  simp only [append_nat, regWord_toNat, BitVec.toNat_ofNat, Nat.zero_mod]
  ring

theorem immWord_d (d : BitVec 6) (y : Word) : d ++ 0#18 ++ y = immWord d 0#6 y := by
  refine BitVec.eq_of_toNat_eq ?_
  simp only [append_nat, immWord_toNat, BitVec.toNat_ofNat, Nat.zero_mod]
  ring

end Sys2Proof.Machine

namespace Sys2Proof.Machine

/-! Arithmetic (04 R131). -/

section
variable {i : Instr} {s : State} {c p : Nat} {d a b : BitVec 6} (f : Word → Word → Word) (he : s.executes c p)
include he

theorem aluR_writes (hi : exec i s = answer s (s.aluR c (regWord d a b) f)) :
    WritesV i s c d.toNat (f (s.vr c a.toNat) (s.vr c b.toNat)) := by
  obtain ⟨h1, h2, h3⟩ := regWord_fields d a b
  refine writes_v ?_
  rw [exec_of_executes he hi, legal_true (regWord_onlyBits d a b), h1, h2, h3, vr_fetch, vr_fetch]

theorem aluI_writes {y : Word} {ok : Bool} (hok : ok = true) (hi : exec i s = answer s (s.aluI c (immWord d a y) ok f)) :
    WritesV i s c d.toNat (f (s.vr c a.toNat) y) := by
  obtain ⟨h1, h2, h3⟩ := immWord_fields d a y
  refine writes_v ?_
  rw [exec_of_executes he hi, legal_true (by rw [hok, immWord_onlyBits]; rfl), h1, h2, h3, vr_fetch, BitVec.ofNat_toNat,
    BitVec.setWidth_eq]

end

theorem aluMin_eq (x y : Word) : aluMin x y = BitVec.ofInt 32 (min x.toInt y.toInt) := by
  unfold aluMin
  split
  · rename_i h
    rw [min_eq_left (BitVec.slt_iff_toInt_lt.1 h).le, BitVec.ofInt_toInt]
  · rename_i h
    rw [min_eq_right (not_lt.1 fun hl => h (BitVec.slt_iff_toInt_lt.2 hl)), BitVec.ofInt_toInt]

theorem aluMax_eq (x y : Word) : aluMax x y = BitVec.ofInt 32 (max x.toInt y.toInt) := by
  unfold aluMax
  split
  · rename_i h
    rw [max_eq_right (BitVec.slt_iff_toInt_lt.1 h).le, BitVec.ofInt_toInt]
  · rename_i h
    rw [max_eq_left (not_lt.1 fun hl => h (BitVec.slt_iff_toInt_lt.2 hl)), BitVec.ofInt_toInt]

/-! Pairs (04 R124). -/

theorem vpair_fetch (s : State) (c i : Nat) : (s.fetch c).vpair c i = s.vpair c i := by
  unfold State.vpair
  rw [vr_fetch, vr_fetch]

/-- What `c'` does that writes `z` to the pair V[d]:V[d + 1] of core `c` and goes on. -/
def WritesPair (c' : Instr) (s : State) (c d : Nat) (z : BitVec 48) : Prop :=
  Answers c' s fun t =>
    t = { s with cores := t.cores } ∧ CoresBut s t [c] ∧
    t.qtz c = { (s.qtz c).fetched with v := (t.qtz c).v, pc := ((s.qtz c).pc + 1) % 2 ^ 21 } ∧
    t.vr c d = z.setWidth 32 ∧ t.vr c (d + 1) = (z >>> 32).setWidth 32 ∧
    ∀ k, k ≠ d → k ≠ d + 1 → t.vr c k = s.vr c k

theorem writes_pair {s : State} {i : Instr} {c d : Nat} {z : BitVec 48}
    (h : exec i s = answer s ((s.fetch c).updQtz c fun q => (q.setPair d z).next)) : WritesPair i s c d z := by
  obtain ⟨t, h1, h2, h3, h4⟩ := sets_core h
  have low : BitVec.ofNat 32 z.toNat = z.setWidth 32 := BitVec.ofNat_toNat ..
  have high : BitVec.ofNat 32 (z.toNat / 2 ^ 32) = (z >>> 32).setWidth 32 := by
    rw [← BitVec.ofNat_toNat, BitVec.toNat_ushiftRight, Nat.shiftRight_eq_div_pow]
  refine ⟨t, h1, h2, h3, ?_, ?_, ?_, fun k hk hk' => ?_⟩
  · rw [h4]
    simp [Core.next, Core.setPair, Core.setV]
  · rw [State.vr, h4]
    simp only [Core.next, Core.setPair, Core.setV]
    rw [look_put_ne _ _ (by omega), look_put_eq, low]
  · rw [State.vr, h4]
    simp only [Core.next, Core.setPair, Core.setV]
    rw [look_put_eq, high]
  · rw [State.vr, h4]
    simp only [Core.next, Core.setPair, Core.setV]
    rw [look_put_ne _ _ hk', look_put_ne _ _ hk, fetched_v]
    rfl

theorem aluP_writes {i : Instr} {s : State} {c p : Nat} {d a b : BitVec 6} {f : BitVec 48 → BitVec 48 → BitVec 48}
    (he : s.executes c p) (hd : d.toNat % 2 = 0) (ha : a.toNat % 2 = 0) (hb : b.toNat % 2 = 0)
    (hi : exec i s = answer s (s.aluP c (regWord d a b) f)) :
    WritesPair i s c d.toNat (f (s.vpair c a.toNat) (s.vpair c b.toNat)) := by
  obtain ⟨h1, h2, h3⟩ := regWord_fields d a b
  refine writes_pair ?_
  rw [exec_of_executes he hi]
  dsimp only
  rw [legal_true (by rw [regWord_onlyBits, h1, h2, h3, hd, ha, hb]; rfl), h1, h2, h3, vpair_fetch, vpair_fetch]

/-! The special values (04 R133). -/

theorem special_fetch (s : State) (c p n : Nat) : (s.fetch c).special c p n = s.special c p n := by
  unfold State.special
  rw [part_fetch, qtz_fetch, fetched_frame]

theorem movs_writes {s : State} {c : Fin 16} {p x : Nat} (he : s.executes c.val p) (d a : BitVec 6)
    (hx : s.special c.val p a.toNat = some x) :
    WritesV (.movs c (regWord d a 0#6)) s c.val d.toNat (BitVec.ofNat 32 x) := by
  obtain ⟨h1, h2, -⟩ := regWord_fields d a 0#6
  refine writes_v ?_
  rw [exec_of_executes he rfl, h1, h2, special_fetch, hx]
  exact congrArg (answer s) (legal_true (regWord_da_onlyBits d a) _)

/-- Settles O9, by the shape that the instructions of each form share. -/
theorem quartzArithmetic : Obligations.QuartzArithmetic := by
  refine ⟨fun s c p d a b he => ?_, fun s c p d a y he => ?_, fun s c p d he => ⟨fun a b hd ha hb => ?_, ?_, ?_⟩⟩
  · dsimp only
    rw [← aluMin_eq, ← aluMax_eq]
    exact ⟨aluR_writes aluAdd he rfl, aluR_writes aluSub he rfl, aluR_writes aluAnd he rfl, aluR_writes aluOr he rfl,
      aluR_writes aluXor he rfl, aluR_writes aluShl he rfl, aluR_writes aluShr he rfl, aluR_writes aluSra he rfl,
      aluR_writes aluMul he rfl, aluR_writes aluMin he rfl, aluR_writes aluMax he rfl, aluR_writes aluMov he rfl⟩
  · dsimp only
    rw [← aluMin_eq, ← aluMax_eq, immWord_d]
    exact ⟨aluI_writes aluAdd he rfl rfl, aluI_writes aluSub he rfl rfl, aluI_writes aluAnd he rfl rfl,
      aluI_writes aluOr he rfl rfl, aluI_writes aluXor he rfl rfl, aluI_writes aluShl he rfl rfl,
      aluI_writes aluShr he rfl rfl, aluI_writes aluSra he rfl rfl, aluI_writes aluMul he rfl rfl,
      aluI_writes aluMin he rfl rfl, aluI_writes aluMax he rfl rfl,
      aluI_writes (ok := qf (immWord d 0#6 y) 49 44 == 0) (fun _ i => i) he (by rw [(immWord_fields d 0#6 y).2.1]; rfl) rfl⟩
  · exact ⟨aluP_writes he hd ha hb rfl, aluP_writes he hd ha hb rfl⟩
  · have hi : exec (.rnd c (d ++ 0#50)) s = answer s ((s.fetch c.val).updQtz c.val fun q =>
        (({ q with rng := rndStep q.rng }).setV d.toNat (BitVec.ofNat 32 ((rndStep q.rng).toNat / 2 ^ 32))).next) := by
      rw [regWord_d, exec_of_executes he rfl, (regWord_fields d 0#6 0#6).1]
      exact congrArg (answer s) (legal_true (regWord_d_onlyBits d) _)
    obtain ⟨t, h1, h2, h3, h4⟩ := sets_core hi
    have rng : (s.qtz c.val).fetched.rng = (s.qtz c.val).rng := by rw [fetched_frame]
    rw [rng] at h4
    refine ⟨t, h1, h2, h3, ?_, ?_, fun k hk => ?_⟩
    · rw [h4]
      simp [Core.next, Core.setV]
      rfl
    · rw [State.vr, h4]
      simp only [Core.next, Core.setV]
      rw [look_put_eq, ← BitVec.ofNat_toNat, BitVec.toNat_ushiftRight, Nat.shiftRight_eq_div_pow]
      rfl
    · rw [State.vr, h4]
      simp only [Core.next, Core.setV]
      rw [look_put_ne _ _ hk, fetched_v]
      rfl
  · rw [regWord_d]
    simp only [regWord_da]
    exact ⟨movs_writes he d 0#6 rfl, movs_writes he d 1#6 rfl, movs_writes he d 2#6 rfl, movs_writes he d 3#6 rfl,
      movs_writes he d 4#6 rfl, movs_writes he d 5#6 rfl⟩

end Sys2Proof.Machine

namespace Sys2Proof.Machine

/-! The words of the control-flow instructions (04 R122, R125, R136-R138). -/

theorem toSigned_toNat {n : Nat} (x : BitVec n) : toSigned n x.toNat = x.toInt := by
  unfold toSigned
  rw [Nat.mod_eq_of_lt x.isLt, BitVec.toInt_eq_toNat_cond]

theorem target_eq (pc : Nat) (off : Int) : target pc off = ((pc + off) % 2 ^ 21).toNat := by
  unfold target wrapInt
  norm_num

/-- The word of BR and CALL. -/
def offsetWord (off : BitVec 24) : BitVec 56 := 0#24 ++ off ++ 0#8

theorem offsetWord_toNat (off : BitVec 24) : (offsetWord off).toNat = off.toNat * 2 ^ 8 + 0 := by
  unfold offsetWord
  simp only [append_nat, BitVec.toNat_ofNat]
  ring

theorem qoffset_offsetWord (off : BitVec 24) : qoffset (offsetWord off) = off.toInt := by
  have := off.isLt
  unfold qoffset qf
  rw [offsetWord_toNat, bits_top (by omega) (by omega), toSigned_toNat]

theorem offsetWord_onlyBits (off : BitVec 24) : onlyBits (offsetWord off).toNat [(31, 8)] = true := by
  have := off.isLt
  rw [offsetWord_toNat, onlyBits_top (by omega) (by omega)]
  exact onlyBits_zero []

/-- The word of BRV. -/
def brvWord (a b : BitVec 6) (k : BitVec 4) (off : BitVec 24) (zero : Bool) : BitVec 56 :=
  a ++ b ++ k ++ 0#8 ++ off ++ 0#7 ++ BitVec.ofBool zero

section
variable (a b : BitVec 6) (k : BitVec 4) (off : BitVec 24) (zero : Bool)

theorem brvWord_toNat : (brvWord a b k off zero).toNat =
    a.toNat * 2 ^ 50 + (b.toNat * 2 ^ 44 + (k.toNat * 2 ^ 40 + (off.toNat * 2 ^ 8 + (bn zero * 2 ^ 0 + 0)))) := by
  unfold brvWord
  simp only [append_nat, BitVec.toNat_ofNat, ofBool_toNat]
  ring

theorem brvWord_fields : qf (brvWord a b k off zero) 55 50 = a.toNat ∧ qf (brvWord a b k off zero) 49 44 = b.toNat ∧
    qf (brvWord a b k off zero) 43 40 = k.toNat ∧ qoffset (brvWord a b k off zero) = off.toInt ∧
    qflag (brvWord a b k off zero) 0 = zero := by
  have := a.isLt; have := b.isLt; have := k.isLt; have := off.isLt; have := bn_lt zero
  rw [← toSigned_toNat]
  unfold qoffset qf qflag bits
  simp only [brvWord_toNat, Nat.shiftRight_eq_div_pow]
  refine ⟨by omega, by omega, by omega, congrArg _ (by omega), bitOf_bn (by omega)⟩

theorem brvWord_onlyBits :
    onlyBits (brvWord a b k off zero).toNat [(55, 50), (49, 44), (43, 40), (31, 8), (0, 0)] = true := by
  have := a.isLt; have := b.isLt; have := k.isLt; have := off.isLt; have := bn_lt zero
  rw [brvWord_toNat, onlyBits_top (by omega) (by omega), onlyBits_top (by omega) (by omega), onlyBits_top (by omega) (by omega),
    onlyBits_top (by omega) (by omega), onlyBits_top (by omega) (by omega)]
  exact onlyBits_zero []

end

/-- What a word of WAIT from its register, sub-tick, tick and form fields reads as. -/
theorem wait_fields {w : BitVec 56} {a sub ticks : Nat} {reg : Bool}
    (hw : w.toNat = a * 2 ^ 50 + (sub * 2 ^ 40 + (ticks * 2 ^ 8 + (bn reg * 2 ^ 0 + 0)))) (ha : a < 64) (hs : sub < 32)
    (ht : ticks < 2 ^ 32) : qf w 55 50 = a ∧ qf w 44 40 = sub ∧ qf w 39 8 = ticks ∧ qflag w 0 = reg ∧
      onlyBits w.toNat [(55, 50), (44, 40), (39, 8), (0, 0)] = true := by
  have := bn_lt reg
  unfold qf qflag bits
  simp only [hw, Nat.shiftRight_eq_div_pow]
  refine ⟨by omega, by omega, by omega, bitOf_bn (by omega), ?_⟩
  rw [onlyBits_top (by omega) (by omega), onlyBits_top (by omega) (by omega), onlyBits_top (by omega) (by omega),
    onlyBits_top (by omega) (by omega)]
  exact onlyBits_zero []

/-- The word of LOOP. -/
def loopWord (reg : Bool) (body : BitVec 23) (cnt : Word) : BitVec 56 := BitVec.ofBool reg ++ body ++ cnt

theorem loopWord_fields (reg : Bool) (body : BitVec 23) (cnt : Word) : qf (loopWord reg body cnt) 55 55 = bn reg ∧
    qf (loopWord reg body cnt) 54 32 = body.toNat ∧ qf (loopWord reg body cnt) 31 0 = cnt.toNat := by
  have := body.isLt; have := cnt.isLt; have := bn_lt reg
  have hw : (loopWord reg body cnt).toNat = (bn reg * 2 ^ 23 + body.toNat) * 2 ^ 32 + cnt.toNat := by
    unfold loopWord
    simp only [append_nat, ofBool_toNat]
  unfold qf bits
  simp only [hw, Nat.shiftRight_eq_div_pow]
  refine ⟨?_, ?_, ?_⟩ <;> omega

end Sys2Proof.Machine

namespace Sys2Proof.Machine

/-! Branches and loops (04 R136-R138). -/

/-- The loops that a branch pops are the innermost ones before the first that holds the target. -/
theorem popLoops_eq_drop (t : Nat) : ∀ (n : Nat) (l : List LoopFrame), n ≤ l.length →
    ∃ k, k ≤ n ∧ (∀ f ∈ l.take k, t < f.start ∨ f.stop < t) ∧
      (k < n → ∃ f, l[k]? = some f ∧ f.start ≤ t ∧ t ≤ f.stop) ∧ popLoops n l t = l.drop k
  | 0, l, _ => ⟨0, le_refl 0, by simp, fun h => absurd h (Nat.lt_irrefl 0), by simp [popLoops]⟩
  | n + 1, [], h => absurd h (by simp)
  | n + 1, f :: l, h => by
    by_cases hf : f.start ≤ t ∧ t ≤ f.stop
    · exact ⟨0, Nat.zero_le _, by simp, fun _ => ⟨f, rfl, hf⟩, if_pos hf⟩
    · obtain ⟨k, hk, out, inside, eq⟩ := popLoops_eq_drop t n l (by simpa using h)
      refine ⟨k + 1, by omega, fun g hg => ?_, fun hlt => inside (by omega), (if_neg hf).trans eq⟩
      rcases List.mem_cons.1 hg with rfl | hg
      · omega
      · exact out g hg

theorem ownLoops_le (q : Core) : q.ownLoops ≤ q.loops.length := by
  unfold Core.ownLoops
  split
  · exact le_refl _
  · exact Nat.sub_le _ _

theorem branches_of_branch {i : Instr} {s : State} {c : Nat} {off : BitVec 24}
    (h : exec i s = answer s ((s.fetch c).updQtz c fun q => q.branch (target q.pc off.toInt))) : Branches i s c off := by
  have sets := sets_core h
  have hf : ∀ q : Core, q.fetched.ownLoops = q.ownLoops := fun q => by
    rw [fetched_frame]
    rfl
  rw [Core.branch, hf, fetched_loops, fetched_pc, target_eq] at sets
  unfold Branches
  dsimp only
  generalize (((s.qtz c).pc + off.toInt) % 2 ^ 21).toNat = t at sets ⊢
  obtain ⟨k, hk, out, inside, eq⟩ := popLoops_eq_drop t _ _ (ownLoops_le (s.qtz c))
  rw [eq] at sets
  exact ⟨k, hk, out, inside, sets⟩

theorem cond_reserved {k : BitVec 4} (h : 6 ≤ k.toNat) (x y : Word) : cond k.toNat x y = none := by
  unfold cond
  split <;> first | omega | rfl

theorem opcodeAt_fetch (s : State) (c p n : Nat) : (s.fetch c).opcodeAt p n = s.opcodeAt p n := by
  unfold State.opcodeAt
  rw [part_fetch]

section
variable {s : State} {c : Fin 16} {p : Nat} (he : s.executes c.val p)
include he

/-- An instruction without operands. -/
theorem exec_bare {i : Instr} {f : State → Nat → State}
    (hi : exec i s = answer s (s.qtz1 c.val fun s p => s.legal c.val (0#56 == 0#56) fun s => f s p)) :
    exec i s = answer s (f (s.fetch c.val) p) := by
  rw [exec_of_executes he hi]
  exact congrArg (answer s) (legal_true rfl _)

theorem exec_offset {i : Instr} {off : BitVec 24} {f : State → State}
    (hi : exec i s = answer s (s.qtz1 c.val fun s _ => s.legal c.val (onlyBits (offsetWord off).toNat [(31, 8)]) f)) :
    exec i s = answer s (f (s.fetch c.val)) := by
  rw [exec_of_executes he hi, legal_true (offsetWord_onlyBits off)]

theorem brv_answers {a b : BitVec 6} {k : BitVec 4} {off : BitVec 24} {zero : Bool} {y : Word}
    (hy : (if zero then 0#32 else s.vr c.val b.toNat) = y) :
    exec (.brv c (brvWord a b k off zero)) s = answer s (match cond k.toNat (s.vr c.val a.toNat) y with
      | none => (s.fetch c.val).coreFault c.val fIllegal
      | some t => (s.fetch c.val).updQtz c.val fun q => if t then q.branch (target q.pc off.toInt) else q.next) := by
  obtain ⟨h1, h2, h3, h4, h5⟩ := brvWord_fields a b k off zero
  rw [exec_of_executes he rfl, h1, h2, h3, h4, h5]
  simp only [vr_fetch, hy]
  cases cond k.toNat (s.vr c.val a.toNat) y with
  | none => rfl
  | some t => exact congrArg (answer s) (legal_true (brvWord_onlyBits a b k off zero) _)

/-- A BRV whose condition is known branches where it holds, and else goes on. -/
theorem brv_goes {a b : BitVec 6} {k : BitVec 4} {off : BitVec 24} {zero t : Bool} {y : Word} {P : Prop}
    (hy : (if zero then 0#32 else s.vr c.val b.toNat) = y) (hc : cond k.toNat (s.vr c.val a.toNat) y = some t) (hP : P ↔ t = true) :
    (P → Branches (.brv c (brvWord a b k off zero)) s c.val off) ∧
    (¬ P → SetsCore (.brv c (brvWord a b k off zero)) s c.val
      { (s.qtz c.val).fetched with pc := ((s.qtz c.val).pc + 1) % 2 ^ 21 }) := by
  have answers := brv_answers (a := a) (k := k) (off := off) he hy
  rw [hc] at answers
  refine ⟨fun h => ?_, fun h => ?_⟩
  · rw [hP.1 h] at answers
    exact branches_of_branch answers
  · rw [Bool.eq_false_iff.2 fun ht => h (hP.2 ht)] at answers
    have sets := sets_core (f := Core.next) answers
    rwa [Core.next, fetched_pc] at sets

theorem endl_answers : exec (.endl c 0#56) s = answer s
    (match (s.qtz c.val).fetched.loops with
      | f :: l =>
        if f.stop ≠ (s.qtz c.val).fetched.pc then (s.fetch c.val).coreFault c.val 4
        else if 1 < f.left then
          (s.fetch c.val).updQtz c.val fun q => { q with loops := { f with left := f.left - 1 } :: l, pc := f.start }
        else (s.fetch c.val).updQtz c.val fun q => ({ q with loops := l }).next
      | [] => (s.fetch c.val).coreFault c.val 4) := by
  rw [exec_bare he rfl, qtz_fetch] <;> rfl

theorem call_answers (off : BitVec 24) : exec (.call c (offsetWord off)) s = answer s
    (if 16 ≤ (s.qtz c.val).fetched.calls.length then (s.fetch c.val).coreFault c.val 1
      else (s.fetch c.val).updQtz c.val fun q =>
        { q with calls := { ret := q.pc + 1, depth := q.loops.length } :: q.calls, pc := target q.pc off.toInt }) := by
  rw [exec_offset (off := off) he rfl, qoffset_offsetWord, qtz_fetch]

theorem ret_answers : exec (.ret c 0#56) s = answer s
    (match (s.qtz c.val).fetched.calls with
      | [] => (s.fetch c.val).coreFault c.val 2
      | f :: l => (s.fetch c.val).updQtz c.val fun q =>
        { q with calls := l, loops := q.loops.drop (q.loops.length - f.depth), pc := f.ret }) := by
  rw [exec_bare he rfl, qtz_fetch] <;> rfl

theorem loop_answers (reg : Bool) (body : BitVec 23) (cnt : Word) (hr : reg = true → cnt.toNat < 64) :
    exec (.loop c (loopWord reg body cnt)) s = answer s
      (let n := if reg then (s.vr c.val cnt.toNat).toNat else if cnt.toNat = 0 then 2 ^ 32 else cnt.toNat
       let q := (s.qtz c.val).fetched
       if s.opcodeAt p (q.pc + body.toNat + 1) ≠ some 0x1D then (s.fetch c.val).coreFault c.val 4
       else if n = 0 then (s.fetch c.val).updQtz c.val fun q' => { q' with pc := q.pc + body.toNat + 2 }
       else if 8 ≤ q.loops.length then (s.fetch c.val).coreFault c.val 3
       else (s.fetch c.val).updQtz c.val fun q' =>
        ({ q' with loops := { left := n, start := q.pc + 1, stop := q.pc + body.toNat + 1 } :: q'.loops }).next) := by
  obtain ⟨h1, h2, h3⟩ := loopWord_fields reg body cnt
  have ok : (!(bn reg == 1) || decide (cnt.toNat < 64)) = true := by
    cases reg with
    | false => rfl
    | true => simp [bn, hr rfl]
  rw [exec_of_executes he rfl, h1, h2, h3, legal_true ok, bn_beq_one]
  simp only [opcodeAt_fetch, qtz_fetch, vr_fetch]

end

/-! Halting (04 R139). -/

theorem cast_congr {s t : State} (hf : t = { s with cores := t.cores }) (h : ∀ d, (t.qtz d).part = (s.qtz d).part) (p : Nat) :
    t.cast p = s.cast p := by
  have own : t.qtzOf p = s.qtzOf p := by
    rw [hf]
    rfl
  unfold State.cast
  rw [own]
  exact List.filter_congr fun d _ => h d

theorem waiters_nil_iff (s : State) (p : Nat) :
    s.waiters p = [] ↔ ∀ d ∈ s.cast p, (s.qtz d).atShot = false ∧ (s.qtz d).syncId = none := by
  simp [State.waiters, List.filter_eq_nil_iff]

/-- What core `c` does after its fetch to itself alone leaves what no core's fetch touches. -/
theorem fetch_updQtz_cores (s : State) (c : Nat) (f : Core → Core) :
    (s.fetch c).updQtz c f = { s with cores := ((s.fetch c).updQtz c f).cores } := by
  conv_lhs => rw [fetch_cores]
  rfl

/-- A core that halts outside a shot is no waiter. -/
theorem waiters_halt (s : State) (c p : Nat) (n : Nat) :
    ((s.fetch c).updQtz c fun q => { q with st := .halted, stallFrom := n }).waiters p = [] ↔ s.waiters p = [] := by
  have frame := fetch_updQtz_cores s c fun q => { q with st := .halted, stallFrom := n }
  have same : ∀ d, ∃ st l m, ((s.fetch c).updQtz c fun q => { q with st := .halted, stallFrom := n }).qtz d =
      { s.qtz d with st := st, lines := l, stallFrom := m } := fun d => by
    by_cases hd : d = c
    · rw [hd, qtz_updQtz, qtz_fetch_frame]
      exact ⟨_, _, _, rfl⟩
    · rw [qtz_updQtz_ne _ _ hd, qtz_fetch_frame]
      exact ⟨_, _, _, rfl⟩
  generalize ((s.fetch c).updQtz c fun q => { q with st := .halted, stallFrom := n }) = t at frame same
  have keeps : ∀ d, (t.qtz d).part = (s.qtz d).part ∧ (t.qtz d).atShot = (s.qtz d).atShot ∧
      (t.qtz d).syncId = (s.qtz d).syncId := fun d => by
    obtain ⟨st, l, m, h⟩ := same d
    rw [h]
    exact ⟨rfl, rfl, rfl⟩
  rw [waiters_nil_iff, waiters_nil_iff, cast_congr frame fun d => (keeps d).1]
  exact forall₂_congr fun d _ => by rw [(keeps d).2.1, (keeps d).2.2]

/-- Settles O10, instruction by instruction. -/
theorem quartzControlFlow : Obligations.QuartzControlFlow := by
  refine ⟨fun s c p he => ⟨?nop, fun sub ticks => ?waitImm, fun a => ?waitReg, fun hs => ?haltInShot, fun hs hw => ?halt⟩,
    fun s c p off he => ⟨?br, fun a b k zero => ?brv⟩, fun s c p he => ⟨fun body cnt reg hr => ?loop, fun hl => ?endlNone,
      fun f l hl => ⟨fun hf => ?endlElsewhere, fun hf hn => ?endlAgain, fun hf hn => ?endlLast⟩⟩,
    fun s c p off he => ⟨fun hl => ?call, fun hl => ?callFull, fun hl => ?retNone, fun f l hl hd => ?ret⟩⟩
  case nop =>
    exact sets_core (f := Core.next) (exec_bare (f := fun s _ => s.qnext c.val) he rfl)
  case waitImm =>
    have hw : (0#11 ++ sub ++ ticks ++ 0#8 : BitVec 56).toNat =
        0 * 2 ^ 50 + (sub.toNat * 2 ^ 40 + (ticks.toNat * 2 ^ 8 + (bn false * 2 ^ 0 + 0))) := by
      simp only [append_nat, BitVec.toNat_ofNat, bn, Bool.false_eq_true, if_false]
      ring
    obtain ⟨-, h2, h3, h4, ok⟩ := wait_fields hw (by omega) sub.isLt ticks.isLt
    refine sets_core (f := fun q => ({ q with tl := wrapTl (q.tl + (32 * ticks.toNat + sub.toNat)) }).next) ?_
    rw [exec_of_executes he rfl, h2, h3, h4]
    exact congrArg (answer s) (legal_true (by rw [ok]; rfl) _)
  case waitReg =>
    have hw : (a ++ 0#49 ++ 1#1 : BitVec 56).toNat = a.toNat * 2 ^ 50 + (0 * 2 ^ 40 + (0 * 2 ^ 8 + (bn true * 2 ^ 0 + 0))) := by
      simp only [append_nat, BitVec.toNat_ofNat, bn, if_true]
      ring
    obtain ⟨h1, h2, h3, h4, ok⟩ := wait_fields hw a.isLt (by omega) (by omega)
    have sets : SetsCore (.wait c (a ++ 0#49 ++ 1#1)) s c.val _ :=
      sets_core (f := fun q => ({ q with tl := wrapTl (q.tl + 32 * ((s.fetch c.val).vr c.val a.toNat).toNat) }).next) (by
        rw [exec_of_executes he rfl, h1, h2, h3, h4, ok]
        exact congrArg (answer s) (legal_true (b := true && _) rfl _))
    rwa [vr_fetch] at sets
  case haltInShot =>
    unfold Faults
    rw [exec_bare he rfl, qtz_fetch]
    exact congrArg (answer s) (if_pos hs)
  case halt =>
    have hi : exec (.halt c 0#56) s = _ := exec_bare he rfl
    rw [qtz_fetch, hs, if_neg Bool.false_ne_true] at hi
    have empty := (waiters_halt s c.val p (s.fetch c.val).now).2 ((waiters_nil_iff s p).2 hw)
    have sets := sets_core (f := fun q => { q with st := .halted, stallFrom := (s.fetch c.val).now })
      (hi.trans (congrArg (answer s) (if_pos (List.isEmpty_iff.2 empty))))
    have now : (s.fetch c.val).now = s.now := by
      rw [fetch_cores]
      rfl
    rwa [now] at sets
  case br =>
    refine branches_of_branch ?_
    rw [exec_offset (off := off) he rfl, ← qoffset_offsetWord off]
    rfl
  case brv =>
    obtain ⟨y, hy⟩ : ∃ y, (if zero then 0#32 else s.vr c.val b.toNat) = y := ⟨_, rfl⟩
    dsimp only
    rw [hy]
    refine ⟨fun h => ?_, fun h => ?_, fun h => ?_, fun h => ?_, fun h => ?_, fun h => ?_, fun h => ?_⟩
    · subst h; exact brv_goes he hy rfl beq_iff_eq.symm
    · subst h; exact brv_goes he hy rfl bne_iff_ne.symm
    · subst h; exact brv_goes he hy rfl BitVec.slt_iff_toInt_lt.symm
    · subst h
      exact brv_goes he hy rfl (by rw [Bool.not_eq_true', Bool.eq_false_iff, Ne, BitVec.slt_iff_toInt_lt, not_lt])
    · subst h; exact brv_goes he hy rfl (by simp [BitVec.ult])
    · subst h; exact brv_goes he hy rfl (by simp [BitVec.ult])
    · unfold Faults
      refine (brv_answers (k := k) (off := off) he hy).trans ?_
      rw [cond_reserved h]
      rfl
  case loop =>
    have answers := loop_answers he reg body cnt hr
    have zero : (cnt = 0#32) = (cnt.toNat = 0) := propext (by rw [← BitVec.toNat_inj]; rfl)
    dsimp only at answers ⊢
    simp only [zero]
    generalize (if reg then _ else _) = n at answers ⊢
    refine ⟨fun h => ?_, fun h h0 => ?_, fun h h0 h8 => ?_, fun h h0 h8 => ?_⟩
    · rwa [if_pos h] at answers
    · rw [if_neg (not_not.2 h), if_pos h0] at answers
      exact sets_core answers
    · rw [if_neg (not_not.2 h), if_neg h0, if_neg (Nat.not_le.2 h8)] at answers
      exact sets_core answers
    · rwa [if_neg (not_not.2 h), if_neg h0, if_pos h8] at answers
  case endlNone =>
    unfold Faults
    rw [endl_answers he, hl]
  case endlElsewhere =>
    unfold Faults
    rw [endl_answers he, hl]
    exact congrArg (answer s) (if_pos hf)
  case endlAgain =>
    refine sets_core (f := fun q => { q with loops := { f with left := f.left - 1 } :: l, pc := f.start }) ?_
    rw [endl_answers he, hl]
    exact congrArg (answer s) ((if_neg (not_not.2 hf)).trans (if_pos hn))
  case endlLast =>
    refine sets_core (f := fun q => ({ q with loops := l }).next) ?_
    rw [endl_answers he, hl]
    exact congrArg (answer s) ((if_neg (not_not.2 hf)).trans (if_neg (Nat.not_lt.2 hn)))
  case call =>
    have answers := call_answers he off
    rw [if_neg (Nat.not_le.2 hl)] at answers
    have sets := sets_core answers
    rwa [target_eq] at sets
  case callFull =>
    unfold Faults
    exact (call_answers he off).trans (congrArg (answer s) (if_pos hl))
  case retNone =>
    unfold Faults
    rw [ret_answers he, hl]
  case ret =>
    refine ⟨_, _, (List.take_append_drop ((s.qtz c.val).fetched.loops.length - f.depth) _).symm, ?_, ?_⟩
    · rw [List.length_drop]
      omega
    · have answers := ret_answers he
      rw [hl] at answers
      exact sets_core answers

end Sys2Proof.Machine

namespace Sys2Proof.Machine

/-! A replay whose rollback moves a frame back (08 R267, R270; 09 R290, R299). -/

/-- The judgement of a complete attempt of a partition that spans no devices. -/
theorem exec_judgement_alone {s : State} {p : Fin 8} (inputs : List FlintIn) (ho : s.attemptOver p.val = true)
    (hs : (s.forVerdict p.val).spanOf p.val = none) : exec (.judgement p inputs) s = answer s
      ((s.forVerdict p.val).giveVerdict p.val ((s.forVerdict p.val).ownVerdict p.val).1 ((s.forVerdict p.val).ownVerdict p.val).2
        inputs) := by
  have h : exec (.judgement p inputs) s = execJudgement p inputs s := rfl
  rw [h, execJudgement]
  simp [ho, hs]

theorem part_answer {s t u : State} (h : answer s t = .next u) (p : Nat) : u.part p = t.part p := by
  cases h
  rfl

/-- A complete attempt of partition 0 that LINK taints. Frame 1 has moved since the checkpoint by an update of FREQ loop 0
whose record is still to come, and a record of an earlier shot waits for the journal. -/
def replayDue : State :=
  { (Tests.owned.setN (STRATA_JSIZE 0) 1).setN (DEC_TRKCFG 0) 0x106 with
    parts := [(0, {
      mode := .shot, job := some Tests.job, relq := [{}]
      attempt := { active := true, e := some 0, taints := [{ cause := 3 }] }
      ckpt := { valid := true, owned := [1] } })]
    frames := [(1, { fw := 5 })]
    loops := [(0, { fwNote := some (0, 5, 1) })] }

/-- The rollback writes frame 1 back, and the loop's record of it comes behind the one that waits. -/
theorem replayDue_relq : (((replayDue.forVerdict 0).giveVerdict 0 ((replayDue.forVerdict 0).ownVerdict 0).1
    ((replayDue.forVerdict 0).ownVerdict 0).2 []).part 0).relq.length = 2 := by decide +kernel

/-- Refutes O29: a replay's rollback can put a tracking record behind the records that wait for their release. -/
theorem not_verdictsAndJournal : ¬ Obligations.VerdictsAndJournal := by
  unfold Obligations.VerdictsAndJournal
  rintro ⟨h, -⟩
  have complete : replayDue.attemptOver 0 = true := by decide +kernel
  have alone : (replayDue.forVerdict 0).spanOf 0 = none := by decide +kernel
  have unspanned : replayDue.spanOf 0 = none := by decide +kernel
  have room : fits (replayDue.jappend 0 {}) 0 = true := by decide +kernel
  have link : ∀ x ∈ (replayDue.part 0).attempt.taints, x.cause < 7 := by decide +kernel
  have limit : (replayDue.part 0).attempt.num < replayDue.fld (STRATA_CFG 0) 3 0 := by decide +kernel
  obtain ⟨t, ht, -, -, -, -, -, same, -⟩ :=
    ((h replayDue 0 [] Tests.job rfl rfl).2.1 complete unspanned room).2.1 (List.cons_ne_nil _ _) link limit
  have judged := part_answer ((exec_judgement_alone (p := 0) [] complete alone).symm.trans ht) 0
  have grown : (t.part 0).relq.length = 2 := (congrArg (fun q : Part => q.relq.length) judged).trans replayDue_relq
  have kept : (t.part 0).relq.length = 1 := congrArg List.length same
  omega

end Sys2Proof.Machine

namespace Sys2Proof.Machine

/-! The words of MEAS, SETBIAS and EMITV (04 R122, R129, R134, R135). -/

/-- A word that ends in two flags, from the fields above them. -/
theorem flags_two {w : BitVec 56} {x : Nat} {f g : Bool} (hw : w.toNat = x * 4 + (bn f * 2 + bn g)) :
    qflag w 1 = f ∧ qflag w 0 = g := by
  have := bn_lt f; have := bn_lt g
  unfold qflag
  exact ⟨bitOf_bn (by omega), bitOf_bn (by omega)⟩

theorem onlyBits_two (f g : Bool) : onlyBits (bn f * 2 + bn g) [(1, 0)] = true := by
  have := bn_lt f; have := bn_lt g
  have h : bn f * 2 + bn g = (bn f * 2 + bn g) * 2 ^ 0 + 0 := by omega
  rw [h, onlyBits_top (by omega) (by omega)]
  exact onlyBits_zero []

/-- The word of MEAS. -/
def measWord (n : BitVec 8) (i : BitVec 9) (dv sv : Bool) : BitVec 56 := n ++ i ++ 0#37 ++ BitVec.ofBool dv ++ BitVec.ofBool sv

section
variable (n : BitVec 8) (i : BitVec 9) (dv sv : Bool)

theorem measWord_toNat : (measWord n i dv sv).toNat = (n.toNat * 2 ^ 9 + i.toNat) * 2 ^ 39 + (bn dv * 2 + bn sv) := by
  unfold measWord
  simp only [append_nat, BitVec.toNat_ofNat, ofBool_toNat]
  ring

theorem measWord_fields : qf (measWord n i dv sv) 55 48 = n.toNat ∧ qf (measWord n i dv sv) 47 39 = i.toNat := by
  have := n.isLt; have := i.isLt; have := bn_lt dv; have := bn_lt sv
  unfold qf bits
  simp only [measWord_toNat, Nat.shiftRight_eq_div_pow]
  refine ⟨?_, ?_⟩ <;> omega

theorem measWord_flags : qflag (measWord n i dv sv) 1 = dv ∧ qflag (measWord n i dv sv) 0 = sv :=
  flags_two (x := (n.toNat * 2 ^ 9 + i.toNat) * 2 ^ 37) (by rw [measWord_toNat]; ring)

theorem measWord_onlyBits : onlyBits (measWord n i dv sv).toNat [(55, 39), (1, 0)] = true := by
  have := n.isLt; have := i.isLt; have := bn_lt dv; have := bn_lt sv
  rw [measWord_toNat, onlyBits_top (by omega) (by omega)]
  exact onlyBits_two dv sv

end

/-- The word of SETBIAS. -/
def biasWord (n : BitVec 7) (v : BitVec 20) (bv vv : Bool) : BitVec 56 :=
  n ++ 0#21 ++ v ++ 0#6 ++ BitVec.ofBool bv ++ BitVec.ofBool vv

section
variable (n : BitVec 7) (v : BitVec 20) (bv vv : Bool)

theorem biasWord_toNat : (biasWord n v bv vv).toNat = n.toNat * 2 ^ 49 + (v.toNat * 2 ^ 8 + (bn bv * 2 + bn vv)) := by
  unfold biasWord
  simp only [append_nat, BitVec.toNat_ofNat, ofBool_toNat]
  ring

theorem biasWord_fields : qf (biasWord n v bv vv) 55 49 = n.toNat ∧ qf (biasWord n v bv vv) 27 8 = v.toNat := by
  have := n.isLt; have := v.isLt; have := bn_lt bv; have := bn_lt vv
  unfold qf bits
  simp only [biasWord_toNat, Nat.shiftRight_eq_div_pow]
  refine ⟨?_, ?_⟩ <;> omega

theorem biasWord_flags : qflag (biasWord n v bv vv) 1 = bv ∧ qflag (biasWord n v bv vv) 0 = vv :=
  flags_two (x := n.toNat * 2 ^ 47 + v.toNat * 2 ^ 6) (by rw [biasWord_toNat]; ring)

theorem biasWord_onlyBits : onlyBits (biasWord n v bv vv).toNat [(55, 49), (27, 8), (1, 0)] = true := by
  have := n.isLt; have := v.isLt; have := bn_lt bv; have := bn_lt vv
  rw [biasWord_toNat, onlyBits_top (by omega) (by omega), onlyBits_top (by omega) (by omega)]
  exact onlyBits_two bv vv

end

/-- The word of EMITV. -/
def emitWord (a : BitVec 6) (n : BitVec 2) (code : BitVec 16) : BitVec 56 := a ++ n ++ 0#16 ++ code ++ 0#16

section
variable (a : BitVec 6) (n : BitVec 2) (code : BitVec 16)

theorem emitWord_toNat : (emitWord a n code).toNat = (a.toNat * 2 ^ 2 + n.toNat) * 2 ^ 48 + (code.toNat * 2 ^ 16 + 0) := by
  unfold emitWord
  simp only [append_nat, BitVec.toNat_ofNat]
  ring

theorem emitWord_fields : qf (emitWord a n code) 55 50 = a.toNat ∧ qf (emitWord a n code) 49 48 = n.toNat ∧
    qf (emitWord a n code) 31 16 = code.toNat := by
  have := a.isLt; have := n.isLt; have := code.isLt
  unfold qf bits
  simp only [emitWord_toNat, Nat.shiftRight_eq_div_pow]
  refine ⟨?_, ?_, ?_⟩ <;> omega

theorem emitWord_onlyBits : onlyBits (emitWord a n code).toNat [(55, 48), (31, 16)] = true := by
  have := a.isLt; have := n.isLt; have := code.isLt
  rw [emitWord_toNat, onlyBits_top (by omega) (by omega), onlyBits_top (by omega) (by omega)]
  exact onlyBits_zero []

end

end Sys2Proof.Machine

namespace Sys2Proof.Machine

/-! SETBIAS (04 R117, R135; 05 R181). -/

/-- The look-ahead limit, the reference and the scheduler entries let core `c` of partition `p` issue `n` events now,
in a shot or outside one. -/
structure State.Within (s : State) (c p n : Nat) : Prop where
  ahead : (s.qtz c).tl / 32 ≤ s.now + s.fld (TIME_LOOKAHEAD p) 19 0
  reference : s.time.lost = false ∨ (s.part p).mode ≠ .stream
  entries : s.canTake p n (s.begun c p && s.inLine p ((s.qtz c).asked.getD s.now)) = true

namespace State.Within
variable {s : State} {c p n : Nat} (h : s.Within c p n)
include h

theorem fetch : (s.fetch c).Within c p n := by
  have begun : (s.fetch c).begun c p = s.begun c p := by
    unfold State.begun
    rw [part_fetch, qtz_fetch, fetched_inShot]
  have asked : ((s.fetch c).qtz c).asked = (s.qtz c).asked := by rw [qtz_fetch, fetched_frame]
  have line := inLine_fetch s c p ((s.qtz c).asked.getD s.now)
  have take : ∀ b, (s.fetch c).canTake p n b = s.canTake p n b := fun b => by
    rw [fetch_cores]
    rfl
  have now : (s.fetch c).now = s.now := by
    rw [fetch_cores]
    rfl
  refine ⟨?_, ?_, ?_⟩
  · rw [qtz_fetch, fetched_tl, now, fetch_cores]
    exact h.ahead
  · rw [part_fetch, fetch_cores]
    exact h.reference
  · rw [take, begun, asked, now, line]
    exact h.entries

theorem timed (w : BitVec 64) (f : State → State) : s.timed c p w f = f s := if_neg (Nat.not_lt.2 h.ahead)

theorem refStall (w : BitVec 64) (f : State → State) : s.refStall c p w f = f s := by
  refine if_neg fun hc => ?_
  rcases h.reference with hm | hm <;> simp [hm] at hc

theorem granted (w : BitVec 64) (f : State → State) : (s.fetch c).entries c p n w f = f (s.granted c) := if_pos h.fetch.entries

end State.Within

theorem operand_lt {s : State} {c : Nat} {fv : Bool} {n k : Nat} (h : n < 2 ^ k) : s.operand c fv n k < 2 ^ k := by
  unfold State.operand
  split
  · exact Nat.mod_lt _ (Nat.two_pow_pos k)
  · exact h

section
variable {s : State} {c : Fin 16} {p : Nat} {n : BitVec 7} {v : BitVec 20} {bv vv : Bool} (he : s.executes c.val p)
  (hb : bv = true → n.toNat < 64) (hv : vv = true → v.toNat < 64)
include he hb hv

theorem setbias_answers : exec (.setbias c (biasWord n v bv vv)) s = answer s
    (if (s.part p).mode = .shot ∧ (s.qtz c.val).inShot then (s.fetch c.val).coreFault c.val fMode
     else (s.fetch c.val).timed c.val p (qword 0x28 (biasWord n v bv vv)) fun u =>
      u.refStall c.val p (qword 0x28 (biasWord n v bv vv)) fun u =>
        let N := s.operand c.val bv n.toNat 7
        let V := s.operand c.val vv v.toNat 20
        if u.biasOwner N ≠ some p then u.resourceError c.val p (resource 0 N) fun u => u.qnext c.val
        else u.entries c.val p 1 (qword 0x28 (biasWord n v bv vv)) fun u =>
          ((u.slackNote c.val).acceptEvent c.val p (.setbias N (BitVec.ofNat 20 V)) (qw 0x28 (N <<< 49 ||| V <<< 8))
            (BitVec.ofNat 48 V)).qnext c.val) := by
  obtain ⟨f1, f2⟩ := biasWord_fields n v bv vv
  obtain ⟨b1, b0⟩ := biasWord_flags n v bv vv
  have hi := exec_of_executes (i := .setbias c (biasWord n v bv vv)) he rfl
  unfold State.doSetbias at hi
  rw [f1, f2, b1, b0, qsrc_operand hb, qsrc_operand hv] at hi
  dsimp only at hi
  rw [biasWord_onlyBits, legal_true rfl, operand_fetch, operand_fetch, part_fetch, qtz_fetch, fetched_inShot] at hi
  exact hi

/-- SETBIAS outside a shot accepts its event at the cursor (04 R135). -/
theorem setbias_accepts (hm : (s.part p).mode = .stream ∨ (s.qtz c.val).inShot = false) (h : s.Within c.val p 1)
    (ho : s.biasOwner (s.operand c.val bv n.toNat 7) = some p) : ∃ j o, exec (.setbias c (biasWord n v bv vv)) s = answer s
      ((s.accepted c.val p (.setbias (s.operand c.val bv n.toNat 7) (BitVec.ofNat 20 (s.operand c.val vv v.toNat 20))) j
        o).qnext c.val) := by
  have outside : ¬ ((s.part p).mode = .shot ∧ (s.qtz c.val).inShot = true) := by
    rintro ⟨h1, h2⟩
    rcases hm with hm | hm
    · simp [hm] at h1
    · simp [hm] at h2
  have owner : (s.fetch c.val).biasOwner (s.operand c.val bv n.toNat 7) = some p := by
    rw [fetch_cores]
    exact ho
  rw [setbias_answers he hb hv, if_neg outside, h.fetch.timed, h.fetch.refStall]
  dsimp only
  rw [if_neg (not_not.2 owner), h.granted]
  exact ⟨_, _, rfl⟩

end

/-! EMITV (04 R134). -/

/-- A core that has executed its instruction and goes on, in a state that has its fetch. -/
theorem qnext_goes {s u : State} {c : Nat} (h : u.cores = (s.fetch c).cores) :
    (u.qnext c).qtz c = { (s.qtz c).fetched with pc := ((s.qtz c).pc + 1) % 2 ^ 21 } ∧ CoresBut s (u.qnext c) [c] := by
  have hq : ∀ k, u.qtz k = (s.fetch c).qtz k := fun k => by simp only [State.qtz, h]
  unfold State.qnext
  refine ⟨?_, fun k hk => ?_⟩
  · rw [qtz_updQtz, hq, qtz_fetch, Core.next, fetched_pc]
  · rw [qtz_updQtz_ne _ _ (by simpa using hk), hq, qtz_fetch_ne _ (by simpa using hk)]

theorem cursorTag_fetch (s : State) (c p f k : Nat) : (s.fetch c).cursorTag c p f k = s.cursorTag c p f k := by
  have taint : (s.fetch c).tainted p = s.tainted p := by
    unfold State.tainted
    rw [part_fetch]
  unfold State.cursorTag
  rw [taint, qtz_fetch, fetched_frame]

/-- The record of an EMITV at core `c`'s cursor. -/
def State.userRec (s : State) (c p a n code : Nat) : Rec :=
  let x := s.emitWords c a n
  mkRec (b4 2 n code (code / 256)) (if (s.qtz c).inShot then (s.qtz c).shotNo else 0) (s.cursorTag c p 0 1) x.1 x.2.1 x.2.2.1
    x.2.2.2

theorem userRec_fetch (s : State) (c p a n code : Nat) : (s.fetch c).userRec c p a n code = s.userRec c p a n code := by
  have words : (s.fetch c).emitWords c a n = s.emitWords c a n := by
    unfold State.emitWords
    simp only [vr_fetch]
  unfold State.userRec
  rw [words, cursorTag_fetch, qtz_fetch, fetched_frame]

/-- EMITV sends its record to the attempt, to the ring, or to the records that wait for their TIME. -/
theorem emitv_answers {s : State} {c : Fin 16} {p : Nat} {a : BitVec 6} {n : BitVec 2} {code : BitVec 16}
    (he : s.executes c.val p) (hn : a.toNat + n.toNat ≤ 63)
    (hm : (s.part p).mode = .shot → (s.qtz c.val).inShot = true) : ∃ e : Rec,
    exec (.emitv c (emitWord a n code)) s = answer s
      ((let r := s.userRec c.val p a.toNat n.toNat code.toNat
        if (s.part p).mode = .shot then ((s.fetch c.val).journal p e).updAtt p fun t => { t with recs := t.recs ++ [r] }
        else if (s.qtz c.val).tl / 32 ≤ s.now then (s.fetch c.val).queueRec p r
        else (s.fetch c.val).updFab fun f => { f with users := f.users ++ [(p, (s.qtz c.val).tl / 32, r)] }).qnext c.val) := by
  obtain ⟨f1, f2, f3⟩ := emitWord_fields a n code
  have hi := exec_of_executes (i := .emitv c (emitWord a n code)) he rfl
  have legal : (onlyBits (emitWord a n code).toNat [(55, 48), (31, 16)] && decide (a.toNat + n.toNat ≤ 63)) = true := by
    rw [emitWord_onlyBits, decide_eq_true hn]
    rfl
  have inside : ∀ f, (s.fetch c.val).inShotOnly c.val p f = f (s.fetch c.val) := fun f => if_neg (by
    rw [part_fetch, qtz_fetch, fetched_inShot]
    rintro ⟨h1, h2⟩
    simp [hm h1] at h2)
  have rec' := userRec_fetch s c.val p a.toNat n.toNat code.toNat
  have now : (s.fetch c.val).now = s.now := by
    rw [fetch_cores]
    rfl
  unfold State.userRec at rec'
  unfold State.doEmitv at hi
  dsimp only at hi rec'
  rw [f1, f2, f3, legal_true legal, inside, rec', part_fetch, now] at hi
  rw [hi, qtz_fetch, fetched_tl]
  exact ⟨_, rfl⟩

/-- Whether a record finds room on its way to partition `p`'s result ring (13 R398). -/
def State.takesRec (s : State) (p : Nat) (r : Rec) : Bool :=
  if r.journalled then decide ((s.part p).waitq.length + (s.part p).relq.length < s.ringFree p)
  else r.typ == 7 || s.queued p < 192

theorem queueRec_eq (s : State) (p : Nat) (r : Rec) :
    s.queueRec p r = if s.takesRec p r then s.pushRec p r else s.loseRec p := by
  unfold State.queueRec State.takesRec
  split
  · simp only [decide_eq_true_eq]
  · rfl

theorem queueRec_fetch (s : State) (c p : Nat) (r : Rec) :
    (s.fetch c).queueRec p r = { s.queueRec p r with cores := (s.fetch c).cores } := by
  have takes : (s.fetch c).takesRec p r = s.takesRec p r := by
    rw [fetch_cores]
    rfl
  rw [queueRec_eq, queueRec_eq, takes]
  split
  · conv_lhs => rw [fetch_cores]
    rfl
  · conv_lhs => rw [fetch_cores]
    rfl

end Sys2Proof.Machine

namespace Sys2Proof.Machine

/-- A core's instruction that leaves all but what a fetch, partitions and registers hold answers with that state. -/
theorem answers_of_frame {i : Instr} {s t : State} {P : State → Prop} (h : exec i s = answer s t)
    (hf : t = { s with cores := t.cores, parts := t.parts, regs := t.regs, before := t.before, fab := t.fab, geo := t.geo,
                       slots := t.slots, graphs := t.graphs }) (hp : P t) : Answers i s P := by
  refine answers_of_next h ?_ ?_ ?_ ?_ hp <;> rw [hf]

theorem frame_of_records {s t : State} (h : t = { s with cores := t.cores, parts := t.parts, regs := t.regs }) :
    t = { s with cores := t.cores, parts := t.parts, regs := t.regs, before := t.before, fab := t.fab, geo := t.geo,
                 slots := t.slots, graphs := t.graphs } := by
  rw [h]

/-- An EMITV inside a shot (04 R134). -/
theorem emitted_shot {s : State} {c p : Nat} (e r : Rec) :
    let t := (((s.fetch c).journal p e).updAtt p fun t => { t with recs := t.recs ++ [r] }).qnext c
    (t.qtz c = { (s.qtz c).fetched with pc := ((s.qtz c).pc + 1) % 2 ^ 21 } ∧ CoresBut s t [c]) ∧
    (t.part p).attempt.recs = (s.part p).attempt.recs ++ [r] ∧ RegsBut s t (recordRegs p) ∧
    t = { s with cores := t.cores, parts := t.parts, regs := t.regs } := by
  obtain ⟨frame, regs, parts⟩ := journal_records (s.fetch c) p e
  have recs := (parts p).2
  rw [part_fetch] at recs
  generalize (s.fetch c).journal p e = j at frame regs recs
  refine ⟨qnext_goes ?_, ?_, fun x hx => ?_, ?_⟩
  · show j.cores = _
    rw [frame]
  · show ((j.updAtt p fun t => { t with recs := t.recs ++ [r] }).part p).attempt.recs = _
    rw [State.updAtt, part_updPart, recs]
  · show j.reg x = _
    rw [regs x hx, fetch_cores]
    rfl
  · rw [frame, fetch_cores]
    rfl

theorem emitv_sends {s : State} {c : Fin 16} {p : Nat} (he : s.executes c.val p) (a : BitVec 6) (n : BitVec 2)
    (code : BitVec 16) (hn : a.toNat + n.toNat ≤ 63) :
    let r := s.userRec c.val p a.toNat n.toNat code.toNat
    let goes := fun t : State =>
      t.qtz c.val = { (s.qtz c.val).fetched with pc := ((s.qtz c.val).pc + 1) % 2 ^ 21 } ∧ CoresBut s t [c.val]
    ((s.part p).mode = .shot → (s.qtz c.val).inShot = true → Answers (.emitv c (emitWord a n code)) s fun t =>
      goes t ∧ (t.part p).attempt.recs = (s.part p).attempt.recs ++ [r] ∧ RegsBut s t (recordRegs p) ∧
      t = { s with cores := t.cores, parts := t.parts, regs := t.regs }) ∧
    ((s.part p).mode = .stream → (s.qtz c.val).tl / 32 ≤ s.now → Answers (.emitv c (emitWord a n code)) s fun t =>
      goes t ∧ t = { s.queueRec p r with cores := t.cores }) ∧
    ((s.part p).mode = .stream → s.now < (s.qtz c.val).tl / 32 → Answers (.emitv c (emitWord a n code)) s fun t =>
      goes t ∧ t = { s with cores := t.cores, fab := { s.fab with
        users := s.fab.users ++ [(p, (s.qtz c.val).tl / 32, r)] } }) := by
  refine ⟨fun hm hs => ?_, fun hm ht => ?_, fun hm ht => ?_⟩
  · obtain ⟨e, answers⟩ := emitv_answers (code := code) he hn fun _ => hs
    rw [if_pos hm] at answers
    have emitted := emitted_shot (s := s) (c := c.val) (p := p) e (s.userRec c.val p a.toNat n.toNat code.toNat)
    exact answers_of_frame answers (frame_of_records emitted.2.2.2) emitted
  · obtain ⟨e, answers⟩ := emitv_answers (code := code) he hn fun h => by simp [hm] at h
    rw [if_neg (by simp [hm]), if_pos ht, queueRec_fetch] at answers
    have queued := (queueRec_records s p p (s.userRec c.val p a.toNat n.toNat code.toNat)).1
    refine answers_of_frame answers ?_ ⟨qnext_goes rfl, rfl⟩
    rw [queued]
    rfl
  · obtain ⟨e, answers⟩ := emitv_answers (code := code) he hn fun h => by simp [hm] at h
    rw [if_neg (by simp [hm]), if_neg (Nat.not_le.2 ht)] at answers
    refine answers_of_frame answers ?_ ⟨qnext_goes rfl, ?_⟩
    · rw [fetch_cores]
      rfl
    · rw [fetch_cores]
      rfl

/-- What a SETBIAS does, in a shot and outside one (04 R135). -/
theorem setbias_faults_or_issues {s : State} {c : Fin 16} {p : Nat} (he : s.executes c.val p) (n : BitVec 7) (v : BitVec 20)
    (bv vv : Bool) (hb : bv = true → n.toNat < 64) (hv : vv = true → v.toNat < 64)
    (ho : s.biasOwner (s.operand c.val bv n.toNat 7) = some p) :
    ((s.part p).mode = .shot → (s.qtz c.val).inShot = true → Faults (.setbias c (biasWord n v bv vv)) s c.val 9) ∧
    ((s.part p).mode = .stream ∨ (s.qtz c.val).inShot = false → s.Within c.val p 1 →
      Answers (.setbias c (biasWord n v bv vv)) s fun t =>
        Issued s t c.val p (.setbias (s.operand c.val bv n.toNat 7) (BitVec.ofNat 20 (s.operand c.val vv v.toNat 20))) ∧
        t.fab.pulses = s.fab.pulses ∧ t.fab.wins = s.fab.wins ∧ t.geo = s.geo ∧ t.issued = s.issued ∧ t.slots = s.slots ∧
        t.graphs = s.graphs) := by
  refine ⟨fun hm hs => ?_, fun hm h => ?_⟩
  · unfold Faults
    rw [setbias_answers he hb hv, if_pos ⟨hm, hs⟩]
    rfl
  · obtain ⟨j, o, answers⟩ := setbias_accepts he hb hv hm h ho
    have taken := accepted_accepted s c.val p
      (.setbias (s.operand c.val bv n.toNat 7) (BitVec.ofNat 20 (s.operand c.val vv v.toNat 20))) j o
    generalize s.accepted c.val p _ j o = b at answers taken
    have issued := issued_of_accepted (t := b.qnext c.val) (readied_readied s c.val) taken.work taken.event taken.next rfl
    exact answers_of_issued answers issued ⟨issued, taken.pulses, taken.wins, taken.geo, taken.issued, taken.slots, taken.graphs⟩

theorem operand_bias (s : State) (c : Nat) (vv : Bool) (v : BitVec 20) :
    BitVec.ofNat 20 (s.operand c vv v.toNat 20) = if vv then (s.vr c v.toNat).setWidth 20 else v := by
  unfold State.operand
  split
  · apply BitVec.eq_of_toNat_eq
    simp
  · simp

end Sys2Proof.Machine

namespace Sys2Proof.Machine

/-! Bindings (04 R129; 08 R248, R251). -/

/-- From `s` to `t` core `c` has bound: slots gain at the end of their queues, the core has made more bindings, and of the
fabric only the count of acceptance numbers has moved. -/
structure Binds (s t : State) (c : Nat) : Prop where
  frame : t = { s with cores := t.cores, slots := t.slots, graphs := t.graphs, fab := { s.fab with nextId := t.fab.nextId } }
  core : t.qtz c = { s.qtz c with made := (t.qtz c).made }
  others : CoresBut s t [c]
  queues : ∀ i, (s.slot i).queue <+: (t.slot i).queue

namespace Binds

theorem refl (s : State) (c : Nat) : Binds s s c := ⟨rfl, rfl, fun _ _ => rfl, fun _ => List.prefix_refl _⟩

theorem trans {a b d : State} {c : Nat} (h1 : Binds a b c) (h2 : Binds b d c) : Binds a d c := by
  refine ⟨?_, ?_, fun k hk => (h2.others k hk).trans (h1.others k hk), fun i => (h1.queues i).trans (h2.queues i)⟩
  · rw [h2.frame, h1.frame]
  · rw [h2.core, h1.core]

theorem updGraph (s : State) (c p : Nat) (f : Graph → Graph) : Binds s (s.updGraph p f) c :=
  ⟨rfl, rfl, fun _ _ => rfl, fun _ => List.prefix_refl _⟩

theorem number (s : State) (c : Nat) : Binds s (s.updFab fun b => { b with nextId := b.nextId + 1 }) c :=
  ⟨rfl, rfl, fun _ _ => rfl, fun _ => List.prefix_refl _⟩

/-- A binding stands at the end of its slot's queue. -/
theorem bind (s : State) (c i id : Nat) (r : Option Result) : Binds s (s.bind c i id r) c ∧
    ((s.bind c i id r).slot i).queue = (s.slot i).queue ++ [{ id := id, core := c, result := r }] := by
  unfold State.bind
  have same : ((s.updSlot i fun x => { x with queue := x.queue ++ [{ id := id, core := c, result := r }] }).slot i).queue =
      (s.slot i).queue ++ [{ id := id, core := c, result := r }] := by rw [slot_updSlot]
  refine ⟨⟨rfl, ?_, fun k hk => ?_, fun k => ?_⟩, same⟩
  · rw [qtz_updQtz]
    rfl
  · rw [qtz_updQtz_ne _ _ (by simpa using hk)]
    rfl
  · show (s.slot k).queue <+:
      ((s.updSlot i fun x => { x with queue := x.queue ++ [{ id := id, core := c, result := r }] }).slot k).queue
    by_cases hk : k = i
    · rw [hk, same]
      exact List.prefix_append ..
    · rw [slot_updSlot_ne _ _ hk]

end Binds

theorem bindGarnet_binds (s : State) (c p i : Nat) : Binds s (s.bindGarnet c p i) c := by
  have all : ∀ (s : State) (l : List (Nat × List Nat)), Binds s (s.forEach l fun s o =>
      let id := s.fab.nextId
      (s.updFab fun b => { b with nextId := b.nextId + 1 }).bind c o.1 id none) c := fun s l =>
    forEach_rel_mem (R := fun a b => Binds a b c) (.refl · c) (fun _ _ _ => .trans)
      (fun s o _ => (Binds.number s c).trans (Binds.bind ..).1) s
  have counts : ∀ (s : State) (b : Bool) (f : Graph → Graph), Binds s (if b then s.updGraph p f else s) c := fun s b f => by
    split
    · exact .updGraph ..
    · exact .refl ..
  unfold State.bindGarnet
  refine Binds.trans ?_ (counts _ _ _)
  split
  · exact (all s _).trans (.updGraph ..)
  · exact .refl ..

end Sys2Proof.Machine

namespace Sys2Proof.Machine

/-! MEAS (04 R129, R130; 06 R193, R194). -/

/-- What a MEAS with descriptor `d` into slot `i` finds, so that nothing refuses it: the slot is its partition's own and
has room, the window's channel, core and lanes can be used, and so can what a probe names. -/
structure State.MeasFits (s : State) (c p i : Nat) (d : Desc) (o : Obj) : Prop where
  slot : s.slotOwner i = some p
  program : s.fld (DEC_SLOTCFG i) 5 4 = 0
  room : (s.slot i).queue.length < 4
  garnet : s.garnetFull p i = false
  channel : s.bit (ICH_STAT d.ich) 3 = false
  mica : (s.err (resource 5 d.mica)).retired = false
  lanes : s.demodFits { s.mkWindow c p i d with id := s.fab.nextId + if d.poch = 255 then 0 else 1 } = true
  probe : d.poch ≠ 255 → s.ochUsable p d.poch = true ∧ s.objUsable p d.pwave = true ∧ s.obj d.pwave = some o ∧
    o.forever = false ∧ o.damaged = false ∧ s.bit (OCH_STAT d.poch) 3 = false ∧
    s.laneFits d.poch ((s.qtz c).tl / 32 - 2) (o.maxlen.map fun m => rsvEnd (s.qtz c).tl m o.ratio) = true

theorem ochUsable_fetch (s : State) (c p n : Nat) : (s.fetch c).ochUsable p n = s.ochUsable p n := by
  rw [fetch_cores]
  rfl

theorem objUsable_fetch (s : State) (c p n : Nat) : (s.fetch c).objUsable p n = s.objUsable p n := by
  rw [fetch_cores]
  rfl

/-- The state at which a MEAS has issued its probe, where its descriptor has one. -/
def State.probed (s : State) (c p : Nat) (d : Desc) (j : BitVec 64) : State :=
  if d.poch = 255 then s.granted c else (s.readied c).startPulse c p d.pframe d.pwave d.poch d.pgain false j

section
variable {s : State} {c : Fin 16} {p : Nat} {n : BitVec 8} {i : BitVec 9} {dv sv : Bool} {d : Desc} {j : Job} {o : Obj}
  (he : s.executes c.val p) (h : s.mayIssue c.val p (if d.poch = 255 then 1 else 2)) (hn : dv = true → n.toNat < 64)
  (hi : sv = true → i.toNat < 64) (hj : (s.part p).job = some j) (hd : j.descs[s.operand c.val dv n.toNat 8]? = some d)
  (hf : s.MeasFits c.val p (s.operand c.val sv i.toNat 9) d o)
include he h hn hi hj hd hf

theorem meas_answers : ∃ x, exec (.meas c (measWord n i dv sv)) s = answer s
    ((((s.probed c.val p d x).slackNote c.val).openWindow c.val p (s.operand c.val sv i.toNat 9) d x).qnext c.val) := by
  obtain ⟨f1, f2⟩ := measWord_fields n i dv sv
  obtain ⟨b1, b0⟩ := measWord_flags n i dv sv
  have hm := mayIssue_fetch h
  have hx := exec_of_executes (i := .meas c (measWord n i dv sv)) he rfl
  unfold State.doMeas at hx
  rw [f1, f2, b1, b0, qsrc_operand hn, qsrc_operand hi] at hx
  dsimp only at hx
  rw [measWord_onlyBits, legal_true rfl, operand_fetch, operand_fetch, inShotOnly_mayIssue hm, timed_mayIssue hm,
    refStall_mayIssue hm, part_fetch, hj] at hx
  simp only [Option.map_some, Option.bind_some, hd] at hx
  generalize s.operand c.val sv i.toNat 9 = I at hf hx ⊢
  have slot : ¬ ((s.fetch c.val).slotOwner I ≠ some p ∨ (s.fetch c.val).fld (DEC_SLOTCFG I) 5 4 ≠ 0) := by
    rw [fetch_cores]
    rintro (h | h)
    · exact h hf.slot
    · exact h hf.program
  have och : (d.poch != 255 && !(s.fetch c.val).ochUsable p d.poch) = false := by
    by_cases hp : d.poch = 255
    · simp [hp]
    · simp [ochUsable_fetch, (hf.probe hp).1]
  have obj : (d.poch != 255 && !(s.fetch c.val).objUsable p d.pwave) = false := by
    by_cases hp : d.poch = 255
    · simp [hp]
    · simp [objUsable_fetch, (hf.probe hp).2.1]
  have room : ¬ (decide (4 ≤ ((s.fetch c.val).slot I).queue.length) || (s.fetch c.val).garnetFull p I) = true := by
    rw [fetch_cores]
    intro hc
    rcases Bool.or_eq_true_iff.1 hc with hc | hc
    · exact absurd (of_decide_eq_true hc) (Nat.not_le.2 hf.room)
    · exact absurd (hf.garnet.symm.trans hc) Bool.false_ne_true
  have count : 1 + bn (d.poch != 255) = if d.poch = 255 then 1 else 2 := by
    by_cases hp : d.poch = 255 <;> simp [hp, bn]
  rw [if_neg slot, och, if_neg Bool.false_ne_true, obj, if_neg Bool.false_ne_true, if_neg room, count, entries_fetch h] at hx
  refine ⟨qw 0x10 (s.operand c.val dv n.toNat 8 <<< 48 ||| I <<< 39), ?_⟩
  rw [hx, State.probed]
  by_cases hp : d.poch = 255
  · simp only [hp, bne_self_eq_false, Bool.false_eq_true, if_false, if_true]
  · simp only [bne_iff_ne, ne_eq, hp, not_false_eq_true, if_true, if_false]
    rfl

end

/-- What the probe of a MEAS leaves: its event, where there is one, and the rest of the fabric but for its pulse. -/
structure Probed (s t : State) (c p : Nat) (d : Desc) : Prop where
  work : IssueWork (s.granted c) t c p
  next : t.fab.nextId = s.fab.nextId + if d.poch = 255 then 0 else 1
  kept : ∀ e ∈ s.fab.events, e ∈ t.fab.events
  probe : d.poch ≠ 255 → ∃ e ∈ t.fab.events, e.kind = .play d.pframe d.pwave d.poch d.pgain false ∧ e.inst = (s.qtz c).tl
  quiet : d.poch = 255 → t.fab.pulses = s.fab.pulses

theorem granted_fab (s : State) (c : Nat) : (s.granted c).fab = s.fab := by rw [granted_frame]

theorem probed_probed {s : State} {c p i : Nat} {d : Desc} {o : Obj} (hf : s.MeasFits c p i d o) (j : BitVec 64) :
    Probed s (s.probed c p d j) c p d := by
  unfold State.probed
  split
  · rename_i hp
    refine ⟨.refl .., ?_, fun e he => ?_, fun h => absurd hp h, fun _ => ?_⟩
    · rw [granted_fab, if_pos hp]
      rfl
    · rwa [granted_fab]
    · rw [granted_fab]
  · rename_i hp
    obtain ⟨-, -, hobj, hcw, hdam, hbit, hfit⟩ := hf.probe hp
    have hr := readied_readied s c
    have hfab : (s.readied c).fab = s.fab := by rw [hr.frame]
    have hreg := qtzReg_ne_ochStat hr.regs (ch := d.poch)
    have htl := readied_tl s c
    obtain ⟨work, fab⟩ := startPulse_issue (s.readied c) c p d.pframe d.pwave d.poch d.pgain false j o
      (by rw [hr.frame]; exact hobj) hcw (fun h => by cases h) hdam (by rw [bit_ne _ _ _ hreg]; exact hbit)
      (by rw [htl, laneFits_congr hfab hreg]; exact hfit)
    rw [hfab] at fab
    refine ⟨(slackNote_issue (s.granted c) c p).1.trans work, ?_, fun e he => ?_, fun _ => ?_, fun h => absurd h hp⟩
    · rw [fab, if_neg hp]
    · rw [fab]
      exact List.mem_append_left _ he
    · rw [fab]
      exact ⟨_, List.mem_append_right _ (List.mem_singleton_self _), rfl, htl⟩

theorem Probed.slackNote {s t : State} {c p : Nat} {d : Desc} (h : Probed s t c p d) : Probed s (t.slackNote c) c p d := by
  obtain ⟨work, fab, -⟩ := slackNote_issue t c p
  refine ⟨h.work.trans work, ?_, ?_, ?_, ?_⟩ <;> rw [fab]
  · exact h.next
  · exact h.kept
  · exact h.probe
  · exact h.quiet

end Sys2Proof.Machine

namespace Sys2Proof.Machine

theorem ichStat_not_mem_issueRegs (n c p : Nat) : ICH_STAT n ∉ issueRegs c p := by
  simp only [issueRegs, recordRegs, List.mem_append, List.mem_cons, List.not_mem_nil, or_false, List.mem_map, List.mem_range,
    ICH_STAT, QTZ_STAT, QTZ_LATECNT, QTZ_SLACKMIN, SCHED_PEAK, GEODE_SETFULL, MEM_PBORROWED, MEM_PLENT]
  omega

theorem mkWindow_congr {s t : State} {c : Nat} (hw : t.fab.wins = s.fab.wins) {l : List Nat} {a : Option Nat}
    (hq : t.qtz c = { s.qtz c with lines := l, asked := a }) (p i : Nat) (d : Desc) :
    t.mkWindow c p i d = { s.mkWindow c p i d with id := t.fab.nextId } := by
  unfold State.mkWindow
  rw [hw, hq]

theorem demodFits_congr {s t : State} {w : Window} (hw : t.fab.wins = s.fab.wins) (hr : ∀ n, t.reg (ICH_STAT n) = s.reg (ICH_STAT n)) :
    t.demodFits w = s.demodFits w := by
  have lanes : t.groupLanes w.mica = s.groupLanes w.mica := fld_ne _ _ _ _ (hr _)
  unfold State.demodFits
  rw [hw, lanes]

/-- A window event that is not refused is accepted, and its binding stands at the end of the slot's queue. -/
theorem openWindow_eq {s : State} {c p i : Nat} {d : Desc} (j : BitVec 64) (hc : s.bit (ICH_STAT d.ich) 3 = false)
    (hm : (s.err (resource 5 d.mica)).retired = false) (hf : s.demodFits (s.mkWindow c p i d) = true) :
    s.openWindow c p i d j = (((s.updFab fun b => { b with wins := b.wins ++ [s.mkWindow c p i d] }).acceptEvent c p
      (.window (s.mkWindow c p i d).id) j 0#48).bind c i (s.mkWindow c p i d).id none).bindGarnet c p i := by
  unfold State.openWindow
  simp only [hc, hm, hf, Bool.false_eq_true, if_false, Bool.not_true]

end Sys2Proof.Machine

namespace Sys2Proof.Machine

/-- What a MEAS with descriptor `d` into slot `i` leaves behind. -/
def MeasIssued (s t : State) (c p i : Nat) (d : Desc) : Prop :=
  (∃ x : Window, t.fab.wins = s.fab.wins ++ [x] ∧ x.part = p ∧ x.core = c ∧ x.slot = i ∧ x.ich = d.ich ∧
    x.mica = d.mica ∧ x.dframe = d.dframe ∧ x.dec = d.dec ∧ x.ws = (s.qtz c).tl / 32 + d.wofs ∧ x.we = x.ws + d.wlen ∧
    (∃ e, e ∈ t.fab.events ∧ e.kind = .window x.id ∧ e.inst = (s.qtz c).tl ∧ e.part = p ∧ e.core = c) ∧
    (s.slot i).queue ++ [{ id := x.id, core := c }] <+: (t.slot i).queue) ∧
  (d.poch ≠ 255 → ∃ e, e ∈ t.fab.events ∧ e.kind = .play d.pframe d.pwave d.poch d.pgain false ∧ e.inst = (s.qtz c).tl) ∧
  (d.poch = 255 → t.fab.pulses = s.fab.pulses) ∧ (∀ e, e ∈ s.fab.events → e ∈ t.fab.events) ∧
  t.qtz c = { (s.qtz c).fetched with pc := ((s.qtz c).pc + 1) % 2 ^ 21, made := (t.qtz c).made, asked := none } ∧
  CoresBut s t [c] ∧ RegsBut s t (issueRegs c p) ∧
  t = { s with cores := t.cores, parts := t.parts, regs := t.regs, before := t.before, fab := t.fab, geo := t.geo,
               slots := t.slots, graphs := t.graphs }

theorem granted_others (s : State) (c : Nat) : CoresBut s (s.granted c) [c] := by
  intro k hk
  have hk : k ≠ c := by simpa using hk
  unfold State.granted
  rw [qtz_updQtz_ne _ _ hk, qtz_fetch_ne _ hk]

theorem Probed.measured {s a : State} {c p i : Nat} {d : Desc} {o : Obj} (h : Probed s a c p d) (hf : s.MeasFits c p i d o)
    (j : BitVec 64) : MeasIssued s ((a.openWindow c p i d j).qnext c) c p i d := by
  obtain ⟨frame, wins, -, regs, -⟩ := h.work
  have core : a.qtz c = { (s.qtz c).fetched with asked := none } := (h.work.qtz c).trans (qtz_granted s c)
  have others : CoresBut s a [c] := fun k hk => (h.work.qtz k).trans (granted_others s c k hk)
  rw [granted_fab] at wins
  have low : RegsBut s a (issueRegs c p) := fun x hx => (regs x hx).trans (by rw [granted_frame]; rfl)
  have ich : ∀ n, a.reg (ICH_STAT n) = s.reg (ICH_STAT n) := fun n => low _ (ichStat_not_mem_issueRegs n c p)
  have window : a.mkWindow c p i d = { s.mkWindow c p i d with id := a.fab.nextId } :=
    mkWindow_congr wins (by rw [core, fetched_frame]) p i d
  have errs : a.err = s.err := by rw [frame, granted_frame]; rfl
  have slots : a.slots = s.slots := by rw [frame, granted_frame]
  have opens := openWindow_eq (s := a) (p := p) (i := i) j ((bit_ne _ _ _ (ich d.ich)).trans hf.channel)
    (by rw [errs]; exact hf.mica) (by rw [demodFits_congr wins ich, window, h.next]; exact hf.lanes)
  rw [opens]
  generalize a.mkWindow c p i d = x at window ⊢
  obtain ⟨accepts, -, fab⟩ := acceptEvent_issue (a.updFab fun b => { b with wins := b.wins ++ [x] }) c p (.window x.id) j 0#48
  generalize (a.updFab fun b => { b with wins := b.wins ++ [x] }).acceptEvent c p (.window x.id) j 0#48 = b at accepts fab ⊢
  obtain ⟨bframe, -, -, bregs, -⟩ := accepts
  obtain ⟨bound, queue⟩ := Binds.bind b c i x.id none
  have garnet := bindGarnet_binds (b.bind c i x.id none) c p i
  have binds := bound.trans garnet
  have last := garnet.queues i
  rw [queue] at last
  generalize (b.bind c i x.id none).bindGarnet c p i = g at binds last ⊢
  have gfab : g.fab = { b.fab with nextId := g.fab.nextId } := by rw [binds.frame]
  have gwins : g.fab.wins = s.fab.wins ++ [x] := by
    rw [gfab, fab]
    exact congrArg (· ++ [x]) wins
  obtain ⟨l, gevents⟩ : ∃ l, g.fab.events =
      a.fab.events ++ [{ a.cursorEvent c p (.window x.id) with id := a.fab.nextId, lender := l }] := by
    rw [gfab, fab]
    exact ⟨_, rfl⟩
  have gpulses : g.fab.pulses = a.fab.pulses := by
    rw [gfab, fab]
    rfl
  have bqtz : ∀ k, b.qtz k = a.qtz k := fun k => by
    rw [bframe]
    rfl
  have bslot : b.slot i = s.slot i := by
    unfold State.slot
    rw [bframe, ← slots]
    rfl
  have gcore : (g.qnext c).qtz c = (g.qtz c).next := qtz_updQtz ..
  have kept : ∀ e ∈ a.fab.events, e ∈ g.fab.events := fun e he => gevents ▸ List.mem_append_left _ he
  refine ⟨⟨x, gwins, ?_, ?_, ?_, ?_, ?_, ?_, ?_, ?_, ?_, ⟨_, gevents ▸ List.mem_append_right _ (List.mem_singleton_self _), rfl,
    ?_, rfl, rfl⟩, bslot ▸ last⟩, fun hp => ?_, fun hp => gpulses.trans (h.quiet hp), fun e he => kept e (h.kept e he), ?_,
    fun k hk => ?_, fun y hy => ?_, ?_⟩
  iterate 9 rw [window]; rfl
  · show (a.qtz c).tl = _
    rw [core]
    exact fetched_tl _
  · obtain ⟨e, he, kind, inst⟩ := h.probe hp
    exact ⟨e, kept e he, kind, inst⟩
  · rw [gcore, binds.core, bqtz, core, Core.next]
    simp only [fetched_pc]
  · unfold State.qnext
    rw [qtz_updQtz_ne _ _ (by simpa using hk), binds.others k hk, bqtz, others k hk]
  · show g.reg y = _
    rw [binds.frame]
    exact (bregs y hy).trans (low y hy)
  · rw [binds.frame, bframe, frame, granted_frame]
    rfl

/-- Settles O12: a MEAS is its probe and its window, a SETBIAS one accepted event, an EMITV one record. -/
theorem quartzMeasureBiasAndUser : Obligations.QuartzMeasureBiasAndUser := by
  refine ⟨?_, fun s c p he => ⟨?_, fun a n code hn => emitv_sends he a n code hn⟩⟩
  · intro s c p n i dv sv d j o he h hn hi w N I tl hj hd h1 h2 h3 h4 h5 h6 h7 h8
    have hN : s.operand c.val dv n.toNat 8 = N := rfl
    have hI : s.operand c.val sv i.toNat 9 = I := rfl
    clear_value N I
    have fits : s.MeasFits c.val p I d o := ⟨h1, h2, h3, h4, h5, h6, h7, h8⟩
    obtain ⟨x, answers⟩ := meas_answers he h hn hi hj (hN ▸ hd) (hI ▸ fits)
    rw [hI] at answers
    have issued := (probed_probed fits x).slackNote.measured fits x
    exact answers_of_frame answers issued.2.2.2.2.2.2.2 issued
  · intro n v bv vv hb hv w N V ho
    have hV : BitVec.ofNat 20 (s.operand c.val vv v.toNat 20) = V := operand_bias ..
    obtain ⟨faults, issues⟩ := setbias_faults_or_issues he n v bv vv hb hv ho
    rw [hV] at issues
    exact ⟨faults, fun hm h1 h2 h3 => issues hm ⟨h1, h2, h3⟩⟩

end Sys2Proof.Machine

namespace Sys2Proof.Machine

/-! Participating cores (04 R111). -/

theorem mem_cast {s : State} {p c : Nat} :
    c ∈ s.cast p ↔ c < s.nQtz ∧ s.qtzOwner c = some p ∧ (s.qtz c).part = true := by
  simp only [State.cast, State.qtzOf, List.mem_filter, List.mem_range, beq_iff_eq, and_assoc]

theorem cast_nodup (s : State) (p : Nat) : (s.cast p).Nodup := (List.nodup_range.filter _).filter _

/-- A core that executes runs, and its partition owns it. -/
theorem executes_owned {s : State} {c p : Nat} (he : s.executes c p) :
    c < s.nQtz ∧ s.qtzOwner c = some p ∧ (s.qtz c).st = .running := by
  obtain ⟨hl, -⟩ := he
  unfold State.qtzLive at hl
  split at hl
  · rename_i r hr
    split at hl
    · rename_i h
      simp only [Bool.and_eq_true, decide_eq_true_eq, beq_iff_eq] at h
      exact ⟨h.1.1.1, hr.trans hl, h.1.1.2⟩
    · cases hl
  · cases hl

section
variable {s : State} {c : Nat} {f : Core → Core}

theorem qtz_fetch_updQtz (s : State) (c : Nat) (f : Core → Core) : ((s.fetch c).updQtz c f).qtz c = f (s.qtz c).fetched := by
  rw [qtz_updQtz, qtz_fetch]

theorem qtz_fetch_updQtz_ne {k : Nat} (h : k ≠ c) : ((s.fetch c).updQtz c f).qtz k = s.qtz k := by
  rw [qtz_updQtz_ne _ _ h, qtz_fetch_ne _ h]

theorem cast_fetch_updQtz (hf : ∀ q, (f q).part = q.part) (p : Nat) : ((s.fetch c).updQtz c f).cast p = s.cast p := by
  refine cast_congr (fetch_updQtz_cores ..) (fun d => ?_) p
  by_cases h : d = c
  · rw [h, qtz_fetch_updQtz, hf, fetched_frame]
  · rw [qtz_fetch_updQtz_ne h]

end

theorem anyHalted_false {s : State} {p : Nat} (h : ∀ d ∈ s.cast p, (s.qtz d).st ≠ .halted) : s.anyHalted p = false := by
  simpa [State.anyHalted] using h

/-- A loop that does to each core of the list what `f` says, and to no other. -/
theorem forEach_qtz {l : List Nat} (hl : l.Nodup) {g : State → Nat → State} {f : Core → Core}
    (hc : ∀ s c, (g s c).qtz c = f (s.qtz c)) (ho : ∀ s c, CoresBut s (g s c) [c]) (s : State) :
    (∀ d ∈ l, (s.forEach l g).qtz d = f (s.qtz d)) ∧ CoresBut s (s.forEach l g) l := by
  induction l generalizing s with
  | nil => exact ⟨fun d hd => absurd hd (by simp), fun _ _ => rfl⟩
  | cons c l ih =>
    obtain ⟨hn, hl⟩ := List.nodup_cons.1 hl
    obtain ⟨inside, outside⟩ := ih hl (g s c)
    rw [forEach_cons]
    refine ⟨fun d hd => ?_, fun d hd => ?_⟩
    · rcases List.mem_cons.1 hd with rfl | hd
      · rw [outside d hn, hc]
      · have hne : d ≠ c := fun h => hn (h ▸ hd)
        rw [inside d hd, ho s c d (by simpa using hne)]
    · obtain ⟨h1, h2⟩ := not_or.1 (fun h => hd (List.mem_cons.2 h))
      rw [outside d h2, ho s c d (by simpa using h1)]

theorem forEach_id {α : Type} {l : List α} {g : State → α → State} {s : State} (h : ∀ x ∈ l, g s x = s) : s.forEach l g = s := by
  induction l with
  | nil => rfl
  | cons x l ih =>
    rw [forEach_cons, h x List.mem_cons_self]
    exact ih fun y hy => h y (List.mem_cons_of_mem _ hy)

/-! Largest values. -/

theorem foldl_max_le {l : List Nat} {a b : Nat} : l.foldl max a ≤ b ↔ a ≤ b ∧ ∀ x ∈ l, x ≤ b := by
  induction l generalizing a with
  | nil => simp
  | cons x l ih =>
    rw [List.foldl_cons, ih, max_le_iff, List.forall_mem_cons, and_assoc]

theorem foldl_max_mem (l : List Nat) (a : Nat) : l.foldl max a = a ∨ l.foldl max a ∈ l := by
  induction l generalizing a with
  | nil => exact .inl rfl
  | cons x l ih =>
    rw [List.foldl_cons]
    rcases ih (max a x) with h | h
    · rw [h]
      rcases max_choice a x with h | h
      · exact .inl h
      · exact .inr (by rw [h]; exact List.mem_cons_self)
    · exact .inr (List.mem_cons_of_mem _ h)

/-- The largest value of a list that is not empty is one of it, and none exceeds it. -/
theorem foldl_max_zero {l : List Nat} (h : l ≠ []) : l.foldl max 0 ∈ l ∧ ∀ x ∈ l, x ≤ l.foldl max 0 := by
  have bound := (foldl_max_le.1 (le_refl (l.foldl max 0))).2
  refine ⟨?_, bound⟩
  rcases foldl_max_mem l 0 with hz | hm
  · obtain ⟨x, hx⟩ := List.exists_mem_of_ne_nil l h
    have : x = l.foldl max 0 := by
      have := bound x hx
      omega
    exact this ▸ hx
  · exact hm

/-- The least whole tick that no sub-tick of a list exceeds. -/
theorem ticks_le {α : Type} {l : List α} {f : α → Nat} {e : Nat} :
    (l.map fun x => (f x + 31) / 32).foldl max 0 ≤ e ↔ ∀ x ∈ l, f x ≤ 32 * e := by
  rw [foldl_max_le]
  simp only [Nat.zero_le, true_and, List.forall_mem_map]
  exact forall₂_congr fun x _ => by omega

end Sys2Proof.Machine

namespace Sys2Proof.Machine

/-! SHOT (04 R141-R143). -/

theorem updPart_issue (s : State) (c p r : Nat) {f : Part → Part} (hf : ∀ q, (f q).mode = q.mode) :
    IssueWork s (s.updPart r f) c p ∧ PageWork s (s.updPart r f) := by
  refine ⟨⟨rfl, rfl, rfl, fun _ _ => rfl, fun k => ?_⟩, ⟨rfl⟩⟩
  by_cases hk : k = r
  · rw [hk, part_updPart, hf]
  · rw [part_updPart_ne _ _ hk]

theorem requestAll_issue (s : State) (c p : Nat) (l : List (Nat × Nat)) (u e : Nat) :
    IssueWork s (s.forEach l fun s x => s.requestPage p x.1 x.2 u e s.now) c p ∧
      PageWork s (s.forEach l fun s x => s.requestPage p x.1 x.2 u e s.now) :=
  forEach_rel_mem (R := fun x y => IssueWork x y c p ∧ PageWork x y) (fun _ => ⟨.refl .., ⟨rfl⟩⟩)
    (fun _ _ _ h1 h2 => ⟨h1.1.trans h2.1, h1.2.trans h2.2⟩) (fun _ _ _ => ⟨(requestPage_issue ..).1, requestPage_pages ..⟩) s

theorem coldStart_issue (s : State) (c p : Nat) : IssueWork s (s.coldStart p) c p ∧ PageWork s (s.coldStart p) := by
  unfold State.coldStart
  split
  · split
    · exact ⟨.refl .., ⟨rfl⟩⟩
    · dsimp only
      have scans : IssueWork s (s.updJob p fun j => { j with scanned := true }) c p ∧
          PageWork s (s.updJob p fun j => { j with scanned := true }) := updPart_issue s c p p fun _ => rfl
      generalize s.updJob p (fun j => { j with scanned := true }) = a at scans ⊢
      have marks := updPart_issue a c p p (f := fun q => { q with cold := s.coldSet p }) fun _ => rfl
      generalize a.updPart p (fun q => { q with cold := s.coldSet p }) = b at marks ⊢
      have asks := requestAll_issue b c p (s.coldSet p) (coldUser p) pinOpen
      exact ⟨(scans.1.trans marks.1).trans asks.1, (scans.2.trans marks.2).trans asks.2⟩
  · exact ⟨.refl .., ⟨rfl⟩⟩

theorem shotArrive_issue (s : State) (c p : Nat) : IssueWork s (s.shotArrive p) c p ∧ PageWork s (s.shotArrive p) := by
  unfold State.shotArrive
  split
  · exact coldStart_issue s c p
  · exact ⟨.refl .., ⟨rfl⟩⟩

/-- The core as it waits at its SHOT. -/
def Core.atShotWith (q : Core) (reset now : Nat) : Core :=
  { q with atShot := true, shotReset := reset, st := .stallShot, stallFrom := now }

theorem shotWord_fields (reset : BitVec 24) : qf (reset ++ 0#32) 55 32 = reset.toNat ∧
    onlyBits (reset ++ 0#32 : BitVec 56).toNat [(55, 32)] = true := by
  have := reset.isLt
  have hw : (reset ++ 0#32 : BitVec 56).toNat = reset.toNat * 2 ^ 32 + 0 := append_nat ..
  refine ⟨?_, ?_⟩
  · unfold qf
    rw [hw, bits_top (by omega) (by omega)]
  · rw [hw, onlyBits_top (by omega) (by omega)]
    exact onlyBits_zero []

theorem fetch_now (s : State) (c : Nat) : (s.fetch c).now = s.now := by
  rw [fetch_cores]
  rfl

theorem shot_answers {s : State} {c : Fin 16} {p : Nat} {reset : BitVec 24} (he : s.executes c.val p)
    (hm : (s.part p).mode = .shot) (hs : (s.qtz c.val).inShot = false)
    (hh : ∀ d ∈ s.cast p, d ≠ c.val → (s.qtz d).st ≠ .halted) : exec (.shot c (reset ++ 0#32)) s = answer s
      (((s.fetch c.val).updQtz c.val fun q => q.atShotWith reset.toNat s.now).shotArrive p) := by
  obtain ⟨field, ok⟩ := shotWord_fields reset
  have running : ((s.fetch c.val).updQtz c.val fun q => q.atShotWith reset.toNat s.now).anyHalted p = false := by
    refine anyHalted_false fun d hd => ?_
    rw [cast_fetch_updQtz (f := fun q => q.atShotWith reset.toNat s.now) fun _ => rfl] at hd
    by_cases h : d = c.val
    · rw [h, qtz_fetch_updQtz]
      simp [Core.atShotWith]
    · rw [qtz_fetch_updQtz_ne h]
      exact hh d hd h
  have hx := exec_of_executes (i := .shot c (reset ++ 0#32)) he rfl
  rw [legal_true ok, field, part_fetch, if_neg (not_not.2 hm), qtz_fetch, fetched_inShot, hs, if_neg Bool.false_ne_true,
    fetch_now] at hx
  rw [hx]
  exact congrArg (answer s) (if_neg (by rw [Bool.not_eq_true]; exact running))

/-- A SHOT stalls its core (04 R143). -/
theorem shot_stalls {s : State} {c : Fin 16} {p : Nat} {reset : BitVec 24} (he : s.executes c.val p)
    (hm : (s.part p).mode = .shot) (hs : (s.qtz c.val).inShot = false)
    (hh : ∀ d ∈ s.cast p, d ≠ c.val → (s.qtz d).st ≠ .halted) : Answers (.shot c (reset ++ 0#32)) s fun t =>
      t.qtz c.val = { (s.qtz c.val).fetched with atShot := true, shotReset := reset.toNat, st := .stallShot, stallFrom := s.now } ∧
      CoresBut s t [c.val] ∧ RegsBut s t (issueRegs c.val p) ∧
      t = { s with cores := t.cores, parts := t.parts, regs := t.regs, geo := t.geo } := by
  have answers := shot_answers (reset := reset) he hm hs hh
  obtain ⟨issues, pages⟩ := shotArrive_issue ((s.fetch c.val).updQtz c.val fun q => q.atShotWith reset.toNat s.now) c.val p
  have uframe := fetch_updQtz_cores s c.val fun q => q.atShotWith reset.toNat s.now
  have core := qtz_fetch_updQtz s c.val fun q => q.atShotWith reset.toNat s.now
  have others : CoresBut s ((s.fetch c.val).updQtz c.val fun q => q.atShotWith reset.toNat s.now) [c.val] :=
    fun k hk => qtz_fetch_updQtz_ne (by simpa using hk)
  generalize (s.fetch c.val).updQtz c.val (fun q => q.atShotWith reset.toNat s.now) = u at answers issues pages uframe core others
  have regs := issues.2.2.2.1
  have qtz := issues.qtz
  have frame : u.shotArrive p = { s with
      cores := (u.shotArrive p).cores, parts := (u.shotArrive p).parts, regs := (u.shotArrive p).regs, geo := (u.shotArrive p).geo } := by
    rw [pages.frame, uframe]
  refine answers_of_frame answers ?_ ⟨(qtz _).trans core, fun k hk => (qtz k).trans (others k hk), fun a ha => ?_, frame⟩
  · generalize u.shotArrive p = t at frame
    rw [frame]
  · rw [regs a ha, uframe]
    rfl

end Sys2Proof.Machine

namespace Sys2Proof.Machine

/-! The start of a shot (04 R143, R146; 09 R290). -/

/-- `S` is late enough for partition `p`'s cursors, its reset interval and LEAD. -/
def State.AllowsStart (s : State) (p S : Nat) : Prop :=
  (∀ d ∈ s.cast p, (s.qtz d).tl ≤ 32 * S) ∧
  (∀ e, (s.part p).prevE = some e → e + s.shotReset p ≤ S) ∧
  (∀ j, (s.part p).prevE = none → (s.part p).job = some j → j.startTick + s.shotReset p ≤ S) ∧
  (∀ d l, s.cast p = d :: l → s.now + s.fld (QTZ_CFG d) 31 16 ≤ S)

theorem allowsStart_iff {s : State} {p : Nat} {j : Job} (hj : (s.part p).job = some j) {d : Nat} {l : List Nat}
    (hc : s.cast p = d :: l) (S : Nat) : s.AllowsStart p S ↔ s.shotFloor p ≤ S := by
  have lead : (∀ d' l', s.cast p = d' :: l' → s.now + s.fld (QTZ_CFG d') 31 16 ≤ S) ↔ s.now + s.fld (QTZ_CFG d) 31 16 ≤ S := by
    refine ⟨fun h => h d l hc, fun h d' l' h' => ?_⟩
    obtain ⟨rfl, -⟩ := List.cons.inj (hc.symm.trans h')
    exact h
  have reset : ((∀ e, (s.part p).prevE = some e → e + s.shotReset p ≤ S) ∧
      ∀ j, (s.part p).prevE = none → (s.part p).job = some j → j.startTick + s.shotReset p ≤ S) ↔
      (s.part p).prevE.getD j.startTick + s.shotReset p ≤ S := by
    cases (s.part p).prevE with
    | none => simp [hj]
    | some e => simp
  have floor : s.shotFloor p = max (((s.cast p).map fun c => ((s.qtz c).tl + 31) / 32).foldl max 0)
      (max ((s.part p).prevE.getD j.startTick + s.shotReset p) (s.now + s.fld (QTZ_CFG d) 31 16)) := by
    unfold State.shotFloor
    rw [hj, hc]
  rw [floor, max_le_iff, max_le_iff, ticks_le, ← reset, ← lead, and_assoc]
  rfl

/-- What waits for a shot stands at its barrier with a job and at least one core. -/
theorem atBarrier_cast {s : State} {p : Nat} (h : s.atBarrier p = true) :
    (s.part p).mode = .shot ∧ (∃ j, (s.part p).job = some j) ∧ ∃ d l, s.cast p = d :: l := by
  simp only [State.atBarrier, State.allAtShot, Bool.and_eq_true, beq_iff_eq, Bool.not_eq_true', Option.isSome_iff_exists] at h
  obtain ⟨⟨⟨⟨⟨⟨mode, job⟩, all, -⟩, -⟩, -⟩, -⟩, -⟩ := h
  exact ⟨mode, job, List.exists_cons_of_ne_nil (List.isEmpty_eq_false_iff.1 all)⟩

theorem exec_shotStart {s : State} {p : Fin 8} (hb : s.atBarrier p.val = true) (hh : s.shotHolds p.val = [])
    (hc : s.codeLoads p.val = false) (hl : s.time.lost = false) (hr : (s.part p.val).holdReq = none)
    (hs : s.spanOf p.val = none) : exec (.shotStart p) s = answer s (s.startShot p.val (s.shotFloor p.val)) := by
  have h : exec (.shotStart p) s = execShotStart p s := rfl
  rw [h, execShotStart]
  simp [hb, hh, hc, hl, hr, hs]

/-- The shot number of the attempt that starts. -/
def Part.startNo (q : Part) : Nat := if q.replay then q.attempt.shotNo else q.shotNext

/-- Its number among the attempts of its shot. -/
def Part.startNum (q : Part) : Nat := if q.replay then q.attempt.num + 1 else 0

/-- The attempt of partition `p` begins at tick `t`: what waited is counted, the cold-start pins go after a while. -/
def State.openAttempt (s : State) (p t : Nat) : State :=
  let w := if (s.part p).replay then s.addWait p (t - (s.part p).attempt.s) 3 else s
  ((w.expirePins (coldUser p) (t + 2048) fun _ => false).takeFar p true 0).updPart p fun q => { q with
    attempt := { active := true, s := t, shotNo := (s.part p).startNo, num := (s.part p).startNum
                 relFrom := q.jcount + q.jbuf.length }
    replay := false, cold := []
    shotNext := if q.replay then q.shotNext else q.shotNext + 1 }

/-- The checkpoint of partition `p` at tick `t`, with the frame writes of that instant and no binding resolved. -/
def State.takeCheckpoint (s : State) (p t : Nat) : State :=
  let a := s.applyFw p t
  let b := a.forEach (a.slotsOf p) fun s i => s.updSlot i fun x => { x with hist := [] }
  b.updPart p fun q => { q with ckpt := b.checkpoint p t }

/-- A core as its shot starts. -/
def Core.inShotAt (q : Core) (no num t : Nat) : Core :=
  { q with
    tl := 32 * t, st := .running, atShot := false, inShot := true, pc := q.pc + 1, shotPc := q.pc + 1, endPc := none
    shotLoops := q.loops.length, shotCalls := q.calls.length, shotNo := no, attempt := num, ended := false
    passed := q.passed + 1, made := [] }

theorem startShot_eq (s : State) (p t : Nat) : ∃ e, s.startShot p t =
    let a := (((s.openAttempt p t).journal p e).takeCheckpoint p t).bindForwarded p
    a.forEach (a.cast p) fun u c => u.updQtz c fun q => q.inShotAt (s.part p).startNo (s.part p).startNum t := by
  unfold State.startShot
  extract_lets q no num w v s3 mask job s4 s5 s6 s7 s8
  exact ⟨_, rfl⟩

end Sys2Proof.Machine

namespace Sys2Proof.Machine

/-- Cores that keep their flag, in a state of the same variant and core configuration, are cast alike. -/
theorem cast_of_config {s t : State} (hv : t.variant = s.variant) (hc : ∀ d, (t.qtz d).part = (s.qtz d).part)
    (hr : ∀ k < 16, t.reg (QTZ_CFG k) = s.reg (QTZ_CFG k)) (p : Nat) : t.cast p = s.cast p := by
  have count : t.nQtz = s.nQtz := by
    unfold State.nQtz State.nOch
    rw [hv]
  have own : t.qtzOf p = s.qtzOf p := by
    have := nOch_le s
    unfold State.qtzOf
    rw [count]
    exact owner_congr State.qtzOwner (fun _ _ => rfl) (fun k hk => hr k (by unfold State.nQtz at hk; omega)) p
  unfold State.cast
  rw [own]
  exact List.filter_congr fun d _ => hc d

theorem qtzCfg_not_mem_recordRegs {k : Nat} (h : k < 16) (p : Nat) : QTZ_CFG k ∉ recordRegs p := fun hm => by
  have := recordRegs_hold hm
  unfold QTZ_CFG at this
  omega

theorem forEach_updQtz_coresOnly (s : State) (l : List Nat) (f : Core → Core) :
    CoresOnly s (s.forEach l fun u c => u.updQtz c f) :=
  forEach_rel_mem (R := CoresOnly) .refl (fun _ _ _ => .trans) (fun _ _ _ => updQtz_coresOnly ..) s

theorem updQtz_coresBut (s : State) (c : Nat) (f : Core → Core) : CoresBut s (s.updQtz c f) [c] :=
  fun _ hk => qtz_updQtz_ne _ _ (by simpa using hk)

/-- What the opening of an attempt leaves. -/
structure Opened (s t : State) (p S : Nat) : Prop where
  frame : t = { s with parts := t.parts, geo := t.geo }
  mode : (t.part p).mode = (s.part p).mode
  next : (t.part p).shotNext = if (s.part p).replay then (s.part p).shotNext else (s.part p).shotNext + 1
  active : (t.part p).attempt.active = true
  start : (t.part p).attempt.s = S
  stop : (t.part p).attempt.e = none
  shotNo : (t.part p).attempt.shotNo = (s.part p).startNo
  num : (t.part p).attempt.num = (s.part p).startNum

theorem openAttempt_opened (s : State) (p S : Nat) : Opened s (s.openAttempt p S) p S := by
  have waits : ∀ n k, (s.addWait p n k) = { s with parts := (s.addWait p n k).parts } ∧
      ((s.addWait p n k).part p).mode = (s.part p).mode ∧ ((s.addWait p n k).part p).replay = (s.part p).replay ∧
      ((s.addWait p n k).part p).shotNext = (s.part p).shotNext := fun n k => by
    unfold State.addWait
    split
    · exact ⟨rfl, rfl, rfl, rfl⟩
    · unfold State.updJob
      rw [part_updPart]
      exact ⟨rfl, rfl, rfl, rfl⟩
  unfold State.openAttempt
  extract_lets w
  have counted : w = { s with parts := w.parts } ∧ (w.part p).mode = (s.part p).mode ∧
      (w.part p).replay = (s.part p).replay ∧ (w.part p).shotNext = (s.part p).shotNext :=
    iteInduction (motive := fun w : State => w = { s with parts := w.parts } ∧ (w.part p).mode = (s.part p).mode ∧
      (w.part p).replay = (s.part p).replay ∧ (w.part p).shotNext = (s.part p).shotNext) (fun _ => waits _ _)
      fun _ => ⟨rfl, rfl, rfl, rfl⟩
  clear_value w
  obtain ⟨frame, mode, replay, next⟩ := counted
  have far : ((w.expirePins (coldUser p) (S + 2048) fun _ => false).takeFar p true 0).part p = { w.part p with
      barrierTl := (((w.expirePins (coldUser p) (S + 2048) fun _ => false).takeFar p true 0).part p).barrierTl
      barrierOwed := (((w.expirePins (coldUser p) (S + 2048) fun _ => false).takeFar p true 0).part p).barrierOwed } := by
    unfold State.takeFar
    rw [part_updPart]
    rfl
  have vframe : (w.expirePins (coldUser p) (S + 2048) fun _ => false).takeFar p true 0 = { w with
      parts := ((w.expirePins (coldUser p) (S + 2048) fun _ => false).takeFar p true 0).parts
      geo := ((w.expirePins (coldUser p) (S + 2048) fun _ => false).takeFar p true 0).geo } := rfl
  generalize (w.expirePins (coldUser p) (S + 2048) fun _ => false).takeFar p true 0 = v at far vframe ⊢
  refine ⟨?_, ?_, ?_, ?_, ?_, ?_, ?_, ?_⟩
  · rw [vframe, frame]
    rfl
  all_goals rw [part_updPart]
  · exact (congrArg Part.mode far).trans mode
  · show (if (v.part p).replay then (v.part p).shotNext else (v.part p).shotNext + 1) = _
    rw [far, replay, next]

theorem applyFw_frame (s : State) (p t : Nat) : s.applyFw p t =
    { s with fab := (s.applyFw p t).fab, issued := (s.applyFw p t).issued, loops := (s.applyFw p t).loops } := by
  unfold State.applyFw
  refine forEach_rel_mem (R := fun a b : State => b = { a with fab := b.fab, issued := b.issued, loops := b.loops }) (fun _ => rfl)
    (fun a b c h1 h2 => by rw [h2, h1]) (fun a l _ => ?_) s
  split <;> rfl

/-- What the checkpoint leaves. -/
structure Saved (s t : State) (p : Nat) : Prop where
  frame : t = { s with parts := t.parts, fab := t.fab, issued := t.issued, loops := t.loops, slots := t.slots }
  part : ∃ c : Checkpoint, c.valid = true ∧ t.part p = { s.part p with ckpt := c }

theorem takeCheckpoint_saved (s : State) (p S : Nat) : Saved s (s.takeCheckpoint p S) p := by
  unfold State.takeCheckpoint
  have writes := applyFw_frame s p S
  dsimp only
  generalize s.applyFw p S = a at writes ⊢
  obtain ⟨clears, -⟩ := forEach_slotsOnly (l := a.slotsOf p) (fun u i => updSlot_slotsOnly u i fun x => { x with hist := [] }) a
  generalize a.forEach (a.slotsOf p) _ = b at clears ⊢
  have part : b.part p = s.part p := by
    rw [clears, writes]
    rfl
  refine ⟨?_, b.checkpoint p S, rfl, ?_⟩
  · rw [clears, writes]
    rfl
  · rw [part_updPart, part]

end Sys2Proof.Machine

namespace Sys2Proof.Machine

/-- What the start of a shot at tick `S` leaves (04 R143, R146; 09 R290). -/
structure ShotStarted (s t : State) (p S : Nat) : Prop where
  active : (t.part p).attempt.active = true
  start : (t.part p).attempt.s = S
  stop : (t.part p).attempt.e = none
  shotNo : (t.part p).attempt.shotNo = (s.part p).startNo
  num : (t.part p).attempt.num = (s.part p).startNum
  next : (t.part p).shotNext = if (s.part p).replay then (s.part p).shotNext else (s.part p).shotNext + 1
  checkpoint : (t.part p).ckpt.valid = true
  mode : (t.part p).mode = (s.part p).mode
  cores : ∀ d ∈ s.cast p, t.qtz d = (s.qtz d).inShotAt (s.part p).startNo (s.part p).startNum S
  others : CoresBut s t (s.cast p)
  frame : t = { s with
    cores := t.cores, parts := t.parts, regs := t.regs, fab := t.fab, geo := t.geo, issued := t.issued
    frames := t.frames, slots := t.slots, loops := t.loops }

theorem Part.Kept.shotNext {a b : Part} (h : a.Kept b) : b.shotNext = a.shotNext := by rw [h.rest]

theorem Part.Kept.attempt {a b : Part} (h : a.Kept b) :
    b.attempt = { a.attempt with taints := b.attempt.taints, entries := b.attempt.entries } := congrArg Part.attempt h.rest

theorem startShot_started {s : State} {p : Nat} (hs : s.spanOf p = none) (S : Nat) : ShotStarted s (s.startShot p S) p S := by
  obtain ⟨e, eq⟩ := startShot_eq s p S
  rw [eq]
  have opens := openAttempt_opened s p S
  generalize s.openAttempt p S = a at opens ⊢
  have notes := journal_noted a p e
  generalize a.journal p e = b at notes ⊢
  have saves := takeCheckpoint_saved b p S
  generalize b.takeCheckpoint p S = d at saves ⊢
  have frame : d = { s with
      parts := d.parts, regs := d.regs, fab := d.fab, geo := d.geo, issued := d.issued, slots := d.slots, loops := d.loops } := by
    rw [saves.frame, notes.frame, opens.frame]
  have alone : d.bindForwarded p = d := if_pos (by
    rw [frame]
    exact Option.isNone_iff_eq_none.2 hs)
  have regs : ∀ k < 16, d.reg (QTZ_CFG k) = s.reg (QTZ_CFG k) := fun k hk => by
    have h1 : d.reg (QTZ_CFG k) = b.reg (QTZ_CFG k) := by
      rw [saves.frame]
      rfl
    have h2 : a.reg (QTZ_CFG k) = s.reg (QTZ_CFG k) := by
      rw [opens.frame]
      rfl
    rw [h1, notes.regs _ (qtzCfg_not_mem_recordRegs hk p), h2]
  have qtz : ∀ k, d.qtz k = s.qtz k := fun k => by
    rw [frame]
    rfl
  have cast : d.cast p = s.cast p := cast_of_config (by rw [frame]) (fun k => by rw [qtz]) regs p
  obtain ⟨c, valid, part⟩ := saves.part
  have kept := notes.part p
  have attempt : (d.part p).attempt =
      { (a.part p).attempt with taints := (b.part p).attempt.taints, entries := (b.part p).attempt.entries } := by
    rw [part]
    exact kept.attempt
  have next : (d.part p).shotNext = (a.part p).shotNext := by
    rw [part]
    exact kept.shotNext
  have mode : (d.part p).mode = (a.part p).mode := by
    rw [part]
    exact kept.mode
  have check : (d.part p).ckpt.valid = true := by rw [part]; exact valid
  rw [alone]
  dsimp only
  rw [cast]
  obtain ⟨inside, outside⟩ := forEach_qtz (cast_nodup s p)
    (g := fun u k => u.updQtz k fun q => q.inShotAt (s.part p).startNo (s.part p).startNum S)
    (f := fun q => q.inShotAt (s.part p).startNo (s.part p).startNum S) (fun _ _ => qtz_updQtz ..)
    (fun u k => updQtz_coresBut u k _) d
  have only := forEach_updQtz_coresOnly d (s.cast p) fun q => q.inShotAt (s.part p).startNo (s.part p).startNum S
  generalize d.forEach (s.cast p) _ = t at inside outside only ⊢
  have tpart : t.part p = d.part p := by
    rw [only]
    rfl
  refine ⟨?_, ?_, ?_, ?_, ?_, ?_, ?_, ?_, fun k hk => (inside k hk).trans (by rw [qtz]),
    fun k hk => (outside k hk).trans (qtz k), ?_⟩
  · rw [tpart, attempt]
    exact opens.active
  · rw [tpart, attempt]
    exact opens.start
  · rw [tpart, attempt]
    exact opens.stop
  · rw [tpart, attempt]
    exact opens.shotNo
  · rw [tpart, attempt]
    exact opens.num
  · rw [tpart, next, opens.next]
  · rw [tpart, check]
  · rw [tpart, mode, opens.mode]
  · rw [only, frame]

end Sys2Proof.Machine

namespace Sys2Proof.Machine

/-! ENDSHOT (04 R141, R142, R145). -/

/-- The core after its ENDSHOT. -/
def Core.shotEnded (q : Core) : Core :=
  { q with pc := (q.pc + 1) % 2 ^ 21, inShot := false, ended := true, endTl := q.tl, endPc := some (q.pc + 1) }

/-- The state of core `c`'s ENDSHOT. -/
def State.endCore (s : State) (c : Nat) : State := (s.fetch c).updQtz c Core.shotEnded

theorem endshotAt_fetch (s : State) (c p i : Nat) : (s.fetch c).endshotAt p i = s.endshotAt p i := by
  unfold State.endshotAt
  rw [part_fetch]

/-- The whole tick at which the attempt of partition `p` ends. -/
def State.endTick (s : State) (p : Nat) : Nat := ((s.cast p).map fun d => ((s.qtz d).endTl + 31) / 32).foldl max 0

section
variable {s : State} {c : Fin 16} {p : Nat} (he : s.executes c.val p)
include he

theorem endshot_elsewhere (hm : (s.part p).mode ≠ .shot) : Faults (.endshot c 0#56) s c.val 9 := by
  unfold Faults
  rw [exec_bare he rfl, part_fetch]
  exact congrArg (answer s) (if_pos hm)

theorem endshot_outside (hm : (s.part p).mode = .shot) (hs : (s.qtz c.val).fetched.inShot = false) :
    Faults (.endshot c 0#56) s c.val 8 := by
  unfold Faults
  rw [exec_bare he rfl, part_fetch, qtz_fetch]
  exact congrArg (answer s) ((if_neg (not_not.2 hm)).trans (if_pos (by rw [hs]; rfl)))

theorem endshot_answers (hm : (s.part p).mode = .shot) (hs : (s.qtz c.val).fetched.inShot = true)
    (ha : s.endshotAt p (s.qtz c.val).fetched.shotPc = some (s.qtz c.val).fetched.pc)
    (hl : (s.qtz c.val).fetched.loops.length = (s.qtz c.val).fetched.shotLoops)
    (hc : (s.qtz c.val).fetched.calls.length = (s.qtz c.val).fetched.shotCalls) : exec (.endshot c 0#56) s = answer s
      (let u := s.endCore c.val
       if (u.cast p).all fun d => (u.qtz d).ended then
         ((u.updAtt p fun a => { a with e := some (u.endTick p) }).updPart p fun q => { q with shotE := some (u.endTick p) }).endKnown p
       else u) := by
  rw [exec_bare he rfl, part_fetch, qtz_fetch]
  dsimp only
  rw [endshotAt_fetch, ha, hl, hc, hs]
  simp only [bne_self_eq_false, Bool.or_self, Bool.false_eq_true, if_false, Bool.not_true, hm, ne_eq, not_true_eq_false]
  rfl

end

/-- No core waits in WAITUNTIL for E. -/
theorem endKnown_quiet {s : State} {p : Nat} (h : ∀ d ∈ s.cast p, (s.qtz d).st ≠ .stallShot) : s.endKnown p = s := by
  unfold State.endKnown
  refine forEach_id fun d hd => ?_
  split
  · exact if_neg (h d hd)
  · rfl

end Sys2Proof.Machine

namespace Sys2Proof.Machine

theorem cast_endCore (s : State) (c p : Nat) : (s.endCore c).cast p = s.cast p :=
  cast_fetch_updQtz (f := Core.shotEnded) (fun _ => rfl) p

theorem endCore_ended (s : State) (c d : Nat) : ((s.endCore c).qtz d).ended = (decide (d = c) || (s.qtz d).ended) := by
  unfold State.endCore
  by_cases h : d = c
  · rw [h, qtz_fetch_updQtz, decide_eq_true rfl]
    rfl
  · rw [qtz_fetch_updQtz_ne h, decide_eq_false h, Bool.false_or]

theorem endCore_endTl (s : State) (c d : Nat) :
    ((s.endCore c).qtz d).endTl = if d = c then (s.qtz c).fetched.tl else (s.qtz d).endTl := by
  unfold State.endCore
  split
  · rename_i h
    rw [h, qtz_fetch_updQtz]
    rfl
  · rename_i h
    rw [qtz_fetch_updQtz_ne h]

section
variable {s : State} {c : Fin 16} {p : Nat} (he : s.executes c.val p) (hm : (s.part p).mode = .shot)
  (hs : (s.qtz c.val).fetched.inShot = true)
  (ha : s.endshotAt p (s.qtz c.val).fetched.shotPc = some (s.qtz c.val).fetched.pc)
  (hl : (s.qtz c.val).fetched.loops.length = (s.qtz c.val).fetched.shotLoops)
  (hc : (s.qtz c.val).fetched.calls.length = (s.qtz c.val).fetched.shotCalls)
include he hm hs ha hl hc

/-- While another core has not ended, an ENDSHOT ends its core's part only. -/
theorem endshot_waits {d : Nat} (hd : d ∈ s.cast p) (hne : d ≠ c.val) (hw : (s.qtz d).ended = false) :
    SetsCore (.endshot c 0#56) s c.val (s.qtz c.val).fetched.shotEnded := by
  have answers := endshot_answers he hm hs ha hl hc
  dsimp only at answers
  rw [cast_endCore, if_neg] at answers
  · exact sets_core answers
  · intro all
    have := List.all_eq_true.1 all d hd
    rw [endCore_ended, decide_eq_false hne, hw] at this
    exact Bool.false_ne_true this

/-- The last ENDSHOT gives the attempt its end. -/
theorem endshot_ends
    (hd : ∀ d ∈ s.cast p, d ≠ c.val → (s.qtz d).ended = true ∧ (s.qtz d).st ≠ .stallShot) :
    Answers (.endshot c 0#56) s fun t =>
      t.qtz c.val = (s.qtz c.val).fetched.shotEnded ∧ CoresBut s t [c.val] ∧ PartsBut s t [p] ∧
      t.part p = { s.part p with
        attempt := { (s.part p).attempt with e := some ((s.endCore c.val).endTick p) }
        shotE := some ((s.endCore c.val).endTick p) } ∧
      t = { s with cores := t.cores, parts := t.parts } := by
  have answers := endshot_answers he hm hs ha hl hc
  have running : (s.qtz c.val).fetched.st = .running := by
    rw [fetched_frame]
    exact (executes_owned he).2.2
  have quiet : ∀ d ∈ s.cast p, ((s.endCore c.val).qtz d).st ≠ .stallShot := fun d hd' => by
    unfold State.endCore
    by_cases h : d = c.val
    · rw [h, qtz_fetch_updQtz, Core.shotEnded]
      simp [running]
    · rw [qtz_fetch_updQtz_ne h]
      exact (hd d hd' h).2
  have all : ((s.cast p).all fun d => ((s.endCore c.val).qtz d).ended) = true := List.all_eq_true.2 fun d hd' => by
    rw [endCore_ended]
    by_cases h : d = c.val
    · simp [h]
    · simp [(hd d hd' h).1]
  dsimp only at answers
  rw [cast_endCore, if_pos all] at answers
  have cast := cast_endCore s c.val p
  have core : (s.endCore c.val).qtz c.val = (s.qtz c.val).fetched.shotEnded := qtz_fetch_updQtz ..
  have others : CoresBut s (s.endCore c.val) [c.val] := fun k hk => qtz_fetch_updQtz_ne (by simpa using hk)
  have frame : s.endCore c.val = { s with cores := (s.endCore c.val).cores } := fetch_updQtz_cores ..
  generalize s.endCore c.val = u at answers cast core others frame quiet ⊢
  have known := endKnown_quiet (s := (u.updAtt p fun a => { a with e := some (u.endTick p) }).updPart p fun q =>
    { q with shotE := some (u.endTick p) }) (p := p) (fun d hd => quiet d (cast ▸ hd))
  rw [known] at answers
  have part : ∀ r, u.part r = s.part r := fun r => by
    rw [frame]
    rfl
  refine answers_of_frame answers ?_ ⟨core, others, fun r hr => ?_, ?_, ?_⟩
  · rw [frame]
    rfl
  · have hr : r ≠ p := by simpa using hr
    rw [part_updPart_ne _ _ hr, State.updAtt, part_updPart_ne _ _ hr, part]
  · rw [part_updPart, State.updAtt, part_updPart, part]
  · rw [frame]
    rfl

end

/-- E is the least whole tick that no cursor of the attempt's cores exceeds. -/
theorem endTick_le (s : State) (c p e : Nat) : (s.endCore c).endTick p ≤ e ↔
    ∀ d ∈ s.cast p, (if d = c then (s.qtz c).fetched.tl else (s.qtz d).endTl) ≤ 32 * e := by
  unfold State.endTick
  rw [ticks_le, cast_endCore]
  exact forall₂_congr fun d _ => by rw [endCore_endTl]

end Sys2Proof.Machine

namespace Sys2Proof.Machine

/-! SYNC (04 R154, R156). -/

theorem mem_arrivals {s : State} {p k : Nat} {x : Nat × Nat} :
    x ∈ s.arrivals p k ↔ ∃ d ∈ s.cast p, (s.qtz d).arrived k = some x := List.mem_filterMap

theorem mem_waitAt {s : State} {p k d : Nat} :
    d ∈ s.waitAt p k ↔ d ∈ s.cast p ∧ (s.qtz d).syncId ≠ none ∧ (s.qtz d).passed = k := by
  simp [State.waitAt, Option.ne_none_iff_isSome]

theorem arrived_waiting {q : Core} {id : Nat} (h : q.syncId = some id) : q.arrived q.passed = some (id, q.tl) := by
  unfold Core.arrived
  rw [h]
  exact if_pos rfl

theorem allArrived_iff {s : State} {p k : Nat} : s.allArrived p k = true ↔ ∀ d ∈ s.cast p, (s.qtz d).arrived k ≠ none := by
  unfold State.allArrived State.arrivals
  rw [beq_iff_eq, List.filterMap_length_eq_length]
  simp only [Option.ne_none_iff_isSome]

/-- The core as it waits at its SYNC. -/
def Core.atSync (q : Core) (id now : Nat) : Core :=
  { q with syncId := some id, syncSpan := false, syncAt := now, st := .stallSync, stallFrom := now }

theorem syncWord_fields (id : BitVec 8) : qf (id ++ 0#48) 55 48 = id.toNat ∧ qflag (id ++ 0#48) 47 = false ∧
    onlyBits (id ++ 0#48 : BitVec 56).toNat [(55, 48), (47, 47)] = true := by
  have := id.isLt
  have hw : (id ++ 0#48 : BitVec 56).toNat = id.toNat * 2 ^ 48 + (0 * 2 ^ 47 + 0) := append_nat ..
  refine ⟨?_, ?_, ?_⟩
  · unfold qf
    rw [hw, bits_top (by omega) (by norm_num)]
  · unfold qflag
    rw [hw]
    exact bitOf_bn (by have h0 : bn false = 0 := rfl; omega)
  · rw [hw, onlyBits_top (by omega) (by norm_num), onlyBits_top (by norm_num) (by norm_num)]
    exact onlyBits_zero []

theorem sync_stalls {s : State} {c : Fin 16} {p : Nat} {id : BitVec 8} (he : s.executes c.val p)
    (hd : ∀ d ∈ s.cast p, d ≠ c.val → (s.qtz d).st ≠ .halted ∧ (s.qtz d).syncSpan = false ∧
      ∀ x, (s.qtz d).arrived (s.qtz c.val).passed = some x → x.1 = id.toNat) :
    SetsCore (.sync c (id ++ 0#48)) s c.val ((s.qtz c.val).fetched.atSync id.toNat s.now) := by
  obtain ⟨field, flag, ok⟩ := syncWord_fields id
  have passed : (s.qtz c.val).fetched.passed = (s.qtz c.val).passed := by rw [fetched_frame]
  have cast := cast_fetch_updQtz (s := s) (c := c.val) (f := fun q => q.atSync id.toNat s.now) (fun _ => rfl) p
  have core := qtz_fetch_updQtz s c.val fun q => q.atSync id.toNat s.now
  have others : ∀ d, d ≠ c.val → ((s.fetch c.val).updQtz c.val fun q => q.atSync id.toNat s.now).qtz d = s.qtz d :=
    fun d hd => qtz_fetch_updQtz_ne hd
  have hx := exec_of_executes (i := .sync c (id ++ 0#48)) he rfl
  rw [legal_true ok] at hx
  dsimp only at hx
  rw [field, flag, fetch_now, qtz_fetch, passed] at hx
  simp only [Bool.false_and, Bool.false_eq_true, if_false] at hx
  refine sets_core (f := fun q => q.atSync id.toNat s.now) (hx.trans (congrArg (answer s) ?_))
  change (let u := (s.fetch c.val).updQtz c.val fun q => q.atSync id.toNat s.now
    if u.anyHalted p then u.coreFaults p (u.waiters p) 0x0C
    else if (u.arrivals p (s.qtz c.val).passed).any (·.1 != id.toNat) then u.coreFaults p (u.cast p) 0x0B
    else if u.allArrived p (s.qtz c.val).passed && u.spanAt p (s.qtz c.val).passed then
      (u.sendBarrier p false id.toNat (largestTl (u.arrivals p (s.qtz c.val).passed))).spanIdCheck p (s.qtz c.val).passed id.toNat
    else u) = _
  dsimp only
  generalize (s.fetch c.val).updQtz c.val (fun q => q.atSync id.toNat s.now) = u at cast core others ⊢
  have running : u.anyHalted p = false := anyHalted_false fun d hd' => by
    rw [cast] at hd'
    by_cases h : d = c.val
    · rw [h, core]
      simp [Core.atSync]
    · rw [others d h]
      exact (hd d hd' h).1
  have same : ((u.arrivals p (s.qtz c.val).passed).any fun x => x.1 != id.toNat) = false := by
    refine List.any_eq_false.2 fun x hx' => ?_
    obtain ⟨d, hd', hx'⟩ := mem_arrivals.1 hx'
    rw [cast] at hd'
    by_cases h : d = c.val
    · rw [h, core, ← passed] at hx'
      have := Option.some.inj ((arrived_waiting (q := (s.qtz c.val).fetched.atSync id.toNat s.now) rfl).symm.trans hx')
      simp [← this]
    · rw [others d h] at hx'
      simp [(hd d hd' h).2.2 x hx']
  have span : u.spanAt p (s.qtz c.val).passed = false := by
    refine List.any_eq_false.2 fun d hd' => ?_
    have hd' := (mem_waitAt.1 hd').1
    rw [cast] at hd'
    by_cases h : d = c.val
    · rw [h, core]
      simp [Core.atSync]
    · rw [others d h, (hd d hd' h).2.1]
      simp
  rw [running, same, span]
  simp

end Sys2Proof.Machine

namespace Sys2Proof.Machine

/-! The end of a barrier (04 R154). -/

/-- The largest TL presented is presented by one, and none exceeds it. -/
theorem largestTl_spec {l : List (Nat × Nat)} (h : l ≠ []) :
    (∃ x ∈ l, x.2 = largestTl l) ∧ ∀ x ∈ l, x.2 ≤ largestTl l := by
  have eq : largestTl l = (l.map Prod.snd).foldl max 0 := by
    unfold largestTl
    rw [List.foldl_map]
  obtain ⟨member, bound⟩ := foldl_max_zero (l := l.map Prod.snd) (by simpa using h)
  rw [eq]
  exact ⟨List.mem_map.1 member, fun x hx => bound _ (List.mem_map_of_mem hx)⟩

theorem le_foldl_min {α : Type} {f : α → Nat} {l : List α} {a b : Nat} :
    b ≤ l.foldl (fun m x => min m (f x)) a ↔ b ≤ a ∧ ∀ x ∈ l, b ≤ f x := by
  induction l generalizing a with
  | nil => simp
  | cons x l ih =>
    rw [List.foldl_cons, ih, le_min_iff, List.forall_mem_cons, and_assoc]

/-- The least value over a list is `k` where `k` is one of its values and none is less. -/
theorem foldl_min_eq {α : Type} {f : α → Nat} {a : α} {l : List α} {k : Nat} (hb : ∀ x ∈ a :: l, k ≤ f x)
    (hk : ∃ x ∈ a :: l, f x = k) : l.foldl (fun m x => min m (f x)) (f a) = k := by
  obtain ⟨x, hx, rfl⟩ := hk
  have least := le_foldl_min.1 (le_refl (l.foldl (fun m x => min m (f x)) (f a)))
  refine le_antisymm ?_ (le_foldl_min.2 (List.forall_mem_cons.1 hb))
  rcases List.mem_cons.1 hx with rfl | hx
  · exact least.1
  · exact least.2 x hx

/-- Every core of partition `p` forgets who left barrier `k`, which is over. -/
def State.forgetBarrier (s : State) (p k : Nat) : State :=
  s.forEach (s.cast p) fun u c => u.updQtz c fun q => { q with left := q.left.filter (·.1 != k) }

theorem syncOver_local (s : State) (p k id : Nat) : s.syncOver p k id false = s.forgetBarrier p k := rfl

theorem exec_syncComplete {s : State} {p : Fin 8} {k : Nat} (hw : s.waitAt p.val k ≠ [])
    (hk : ∀ d ∈ s.cast p.val, (s.qtz d).syncId ≠ none → k ≤ (s.qtz d).passed) (hs : s.spanAt p.val k = false) :
    exec (.syncComplete p) s = answer s
      (if !s.allArrived p.val k || (s.waitAt p.val k).any fun c => decide (s.now < (s.qtz c).syncAt + 4) then s
      else (s.forEach (s.waitAt p.val k) fun u c => u.leaveSync c (largestTl (s.arrivals p.val k))).forgetBarrier p.val k) := by
  have h : exec (.syncComplete p) s = execSyncComplete p s := rfl
  have waiter : ∀ d, d ∈ (s.cast p.val).filter (fun c => (s.qtz c).syncId.isSome) ↔ d ∈ s.cast p.val ∧ (s.qtz d).syncId ≠ none :=
    fun d => by rw [List.mem_filter, Option.ne_none_iff_isSome]
  obtain ⟨w, hw⟩ := List.exists_mem_of_ne_nil _ hw
  obtain ⟨inCast, waits, passed⟩ := mem_waitAt.1 hw
  rw [h]
  refine congrArg (answer s) ?_
  dsimp only
  split
  next empty => exact absurd ((waiter w).2 ⟨inCast, waits⟩) (by simp [empty])
  next d l nonempty =>
    have least : l.foldl (fun m c => min m (s.qtz c).passed) (s.qtz d).passed = k :=
      foldl_min_eq (fun x hx => hk x ((waiter x).1 (nonempty ▸ hx)).1 ((waiter x).1 (nonempty ▸ hx)).2)
        ⟨w, nonempty ▸ (waiter w).2 ⟨inCast, waits⟩, passed⟩
    rw [least, hs]
    simp only [Bool.and_false, Bool.false_and, Bool.or_false, Bool.false_eq_true, if_false, syncOver_local]

/-- A core as it leaves its SYNC with cursor `t`. -/
def Core.pastSync (q : Core) (t : Nat) : Core :=
  { q.next with tl := t, st := .running, syncId := none, passed := q.passed + 1 }

theorem leaveSync_qtz (s : State) (c t : Nat) : (s.leaveSync c t).qtz c = (s.qtz c).pastSync t := by
  unfold State.leaveSync
  rw [qtz_updQtz]
  rfl

theorem leaveSync_coresBut (s : State) (c t : Nat) : CoresBut s (s.leaveSync c t) [c] :=
  fun k hk => qtz_updQtz_ne _ _ (by simpa using hk)

/-- Only cores and the registers `l` change. -/
structure Departs (s t : State) (l : List Nat) : Prop where
  frame : t = { s with cores := t.cores, regs := t.regs }
  regs : RegsBut s t l

theorem Departs.refl (s : State) (l : List Nat) : Departs s s l := ⟨rfl, fun _ _ => rfl⟩

theorem Departs.trans {a b c : State} {l : List Nat} (h1 : Departs a b l) (h2 : Departs b c l) : Departs a c l := by
  refine ⟨?_, h1.regs.trans h2.regs⟩
  rw [h2.frame, h1.frame]

theorem updQtz_departs (s : State) (c : Nat) (f : Core → Core) (l : List Nat) : Departs s (s.updQtz c f) l :=
  ⟨rfl, fun _ _ => rfl⟩

theorem leaveSync_departs (s : State) (c t : Nat) {l : List Nat} (h : QTZ_STALL_SYNC c ∈ l) : Departs s (s.leaveSync c t) l :=
  ⟨rfl, fun _ ha => reg_setN_ne s _ fun e => ha (e ▸ h)⟩

theorem forgetBarrier_departs (s : State) (p k : Nat) (l : List Nat) : Departs s (s.forgetBarrier p k) l :=
  forEach_rel_mem (R := fun a b => Departs a b l) (fun _ => .refl ..) (fun _ _ _ => .trans) (fun _ _ _ => updQtz_departs ..) s

theorem forgetBarrier_qtz (s : State) (p k : Nat) :
    (∀ d ∈ s.cast p, (s.forgetBarrier p k).qtz d = { s.qtz d with left := (s.qtz d).left.filter (·.1 != k) }) ∧
    CoresBut s (s.forgetBarrier p k) (s.cast p) :=
  forEach_qtz (cast_nodup s p) (g := fun u c => u.updQtz c fun q => { q with left := q.left.filter (·.1 != k) })
    (f := fun q => { q with left := q.left.filter (·.1 != k) }) (fun _ _ => qtz_updQtz ..)
    (fun u c => updQtz_coresBut u c _) s

theorem waitAt_nodup (s : State) (p k : Nat) : (s.waitAt p k).Nodup := (cast_nodup s p).filter _

theorem qtzCfg_ne_stallSync (k c : Nat) : QTZ_CFG k ≠ QTZ_STALL_SYNC c := by
  unfold QTZ_CFG QTZ_STALL_SYNC
  omega

/-- Until all have come and four ticks have gone, a barrier holds its cores. -/
theorem syncComplete_waits {s : State} {p : Fin 8} {k : Nat} (hw : s.waitAt p.val k ≠ [])
    (hk : ∀ d ∈ s.cast p.val, (s.qtz d).syncId ≠ none → k ≤ (s.qtz d).passed) (hs : s.spanAt p.val k = false)
    (h : (∃ d ∈ s.cast p.val, (s.qtz d).arrived k = none) ∨ ∃ d ∈ s.waitAt p.val k, s.now < (s.qtz d).syncAt + 4) :
    exec (.syncComplete p) s = .next s := by
  rw [exec_syncComplete hw hk hs, if_pos]
  · exact answer_self s
  · rw [Bool.or_eq_true]
    rcases h with ⟨d, hd, absent⟩ | ⟨d, hd, early⟩
    · left
      rw [Bool.not_eq_true', Bool.eq_false_iff]
      exact fun all => allArrived_iff.1 all d hd absent
    · exact .inr (List.any_eq_true.2 ⟨d, hd, decide_eq_true early⟩)

/-- Four ticks after the last participant, every core that waits goes on with the largest TL presented. -/
theorem syncComplete_goes {s : State} {p : Fin 8} {k : Nat} (hw : s.waitAt p.val k ≠ [])
    (hk : ∀ d ∈ s.cast p.val, (s.qtz d).syncId ≠ none → k ≤ (s.qtz d).passed) (hs : s.spanAt p.val k = false)
    (ha : ∀ d ∈ s.cast p.val, (s.qtz d).arrived k ≠ none) (ht : ∀ d ∈ s.waitAt p.val k, (s.qtz d).syncAt + 4 ≤ s.now) :
    Answers (.syncComplete p) s fun t =>
      (∀ d ∈ s.waitAt p.val k, t.qtz d = { (s.qtz d).pastSync (largestTl (s.arrivals p.val k)) with
        left := (s.qtz d).left.filter (·.1 != k) }) ∧
      (∀ d ∈ s.cast p.val, d ∉ s.waitAt p.val k → t.qtz d = { s.qtz d with left := (s.qtz d).left.filter (·.1 != k) }) ∧
      CoresBut s t (s.cast p.val) ∧ RegsBut s t ((s.waitAt p.val k).map QTZ_STALL_SYNC) ∧
      t = { s with cores := t.cores, regs := t.regs } := by
  have answers := exec_syncComplete hw hk hs
  rw [if_neg] at answers
  · generalize largestTl (s.arrivals p.val k) = m at answers ⊢
    have sub : s.waitAt p.val k ⊆ s.cast p.val := List.filter_subset_self _
    have left : Departs s (s.forEach (s.waitAt p.val k) fun u c => u.leaveSync c m) ((s.waitAt p.val k).map QTZ_STALL_SYNC) :=
      forEach_rel_mem (R := fun a b => Departs a b _) (fun _ => .refl ..) (fun _ _ _ => .trans)
        (fun _ _ hx => leaveSync_departs _ _ _ (List.mem_map_of_mem hx)) s
    obtain ⟨gone, stayed⟩ := forEach_qtz (waitAt_nodup s p.val k) (g := fun u c => u.leaveSync c m)
      (f := fun q => q.pastSync m) (fun u c => leaveSync_qtz u c m) (fun u c => leaveSync_coresBut u c m) s
    generalize s.forEach (s.waitAt p.val k) (fun u c => u.leaveSync c m) = v at answers left gone stayed
    have cast : v.cast p.val = s.cast p.val := by
      refine cast_of_config (by rw [left.frame]) (fun d => ?_) (fun j _ => left.regs _ ?_) p.val
      · by_cases hd : d ∈ s.waitAt p.val k
        · rw [gone d hd]
          rfl
        · rw [stayed d hd]
      · intro hm
        obtain ⟨c, -, hc⟩ := List.mem_map.1 hm
        exact qtzCfg_ne_stallSync j c hc.symm
    have done := left.trans (forgetBarrier_departs v p.val k _)
    obtain ⟨inside, outside⟩ := forgetBarrier_qtz v p.val k
    rw [cast] at inside outside
    refine answers_of_next answers ?_ ?_ ?_ ?_ ⟨fun d hd => ?_, fun d hd hn => ?_, fun d hd => ?_, done.regs, done.frame⟩
    · rw [done.frame]
    · rw [done.frame]
    · rw [done.frame]
    · rw [done.frame]
    · rw [inside d (sub hd), gone d hd]
      rfl
    · rw [inside d hd, stayed d hn]
    · rw [outside d hd, stayed d fun hm => hd (sub hm)]
  · simp only [Bool.or_eq_true, Bool.not_eq_true', not_or, Bool.not_eq_false, List.any_eq_true, decide_eq_true_eq, not_exists,
      not_and, not_lt]
    exact ⟨allArrived_iff.2 ha, ht⟩

end Sys2Proof.Machine

namespace Sys2Proof.Machine

/-! A SYNC that times out (04 R156). -/

theorem exec_syncTimeout {s : State} {c : Fin 16} {p id : Nat} (ho : s.qtzOwner c.val = some p)
    (hi : (s.qtz c.val).syncId = some id) : exec (.syncTimeout c) s = answer s
      (if s.now < (s.qtz c.val).syncAt + s.fld (QTZ_SYNCTMO c.val) 19 0 then s
      else if (s.qtz c.val).inShot then
        (s.cause p 3 c.val (resource 6 c.val) 0 (s.cursorTag c.val p 0 3)).leaveLate p c.val (s.qtz c.val).passed id
      else s.coreFault c.val 0x0D) := by
  have h : exec (.syncTimeout c) s = execSyncTimeout c s := rfl
  rw [h]
  unfold execSyncTimeout
  rw [ho]
  dsimp only
  rw [hi]

/-- Core `c` goes on alone from barrier `k`, where it counts as arrived. -/
def State.passAlone (s : State) (c k id t : Nat) : State :=
  (s.leaveSync c t).updQtz c fun q => { q with left := (k, id, (s.qtz c).tl) :: q.left }

theorem leaveLate_local {s : State} {p c k : Nat} (hs : s.spanAt p k = false) (id : Nat) : s.leaveLate p c k id =
    let v := s.passAlone c k id (largestTl (s.arrivals p k))
    if v.allArrived p k && (v.waitAt p k).isEmpty then v.forgetBarrier p k else v := by
  unfold State.leaveLate
  rw [hs]
  rfl

theorem passAlone_qtz (s : State) (c k id t : Nat) : (s.passAlone c k id t).qtz c =
    { (s.qtz c).pastSync t with left := (k, id, (s.qtz c).tl) :: (s.qtz c).left } := by
  unfold State.passAlone
  rw [qtz_updQtz, leaveSync_qtz]
  rfl

theorem passAlone_coresBut (s : State) (c k id t : Nat) : CoresBut s (s.passAlone c k id t) [c] := fun d hd => by
  unfold State.passAlone
  rw [updQtz_coresBut _ _ _ d hd, leaveSync_coresBut _ _ _ d hd]

theorem passAlone_departs (s : State) (c k id t : Nat) : Departs s (s.passAlone c k id t) [QTZ_STALL_SYNC c] :=
  (leaveSync_departs s c t List.mem_cons_self).trans (updQtz_departs ..)

/-- What a barrier shows is what its cores show. -/
theorem barrier_congr {s t : State} {p : Nat} (hc : t.cast p = s.cast p) (hq : ∀ d, t.qtz d = s.qtz d) (k : Nat) :
    t.arrivals p k = s.arrivals p k ∧ t.waitAt p k = s.waitAt p k ∧ t.spanAt p k = s.spanAt p k := by
  have wait : t.waitAt p k = s.waitAt p k := by
    unfold State.waitAt
    simp only [hc, hq]
  refine ⟨?_, wait, ?_⟩
  · unfold State.arrivals
    simp only [hc, hq]
  · unfold State.spanAt
    simp only [wait, hq]

/-- Records leave the cores of a partition as they are. -/
theorem Noted.qtz_cast {s t : State} {p : Nat} (h : Noted s t p) (r : Nat) :
    (∀ d, t.qtz d = s.qtz d) ∧ t.cast r = s.cast r := by
  have same : ∀ d, t.qtz d = s.qtz d := fun d => by
    rw [h.frame]
    rfl
  refine ⟨same, cast_of_config (by rw [h.frame]) (fun d => by rw [same d]) (fun k hk => h.regs _ ?_) r⟩
  exact qtzCfg_not_mem_recordRegs hk p

theorem Departs.parts {s t : State} {l : List Nat} (h : Departs s t l) (p : Nat) : t.part p = s.part p := by
  rw [h.frame]
  rfl

/-- What a core leaves that goes on alone from barrier `k`. -/
structure WentAlone (s t : State) (p c k id : Nat) : Prop where
  core : t.qtz c = { (s.qtz c).pastSync (largestTl (s.arrivals p k)) with left := (t.qtz c).left }
  awaited : (∃ d ∈ s.cast p, d ≠ c ∧ ((s.qtz d).arrived k = none ∨ d ∈ s.waitAt p k)) →
    (t.qtz c).left = (k, id, (s.qtz c).tl) :: (s.qtz c).left ∧ CoresBut s t [c]
  cores : CoresBut s t (s.cast p)
  departs : Departs s t [QTZ_STALL_SYNC c]

theorem leaveLate_wentAlone {s : State} {p c k : Nat} (id : Nat) (hc : c ∈ s.cast p) (hs : s.spanAt p k = false) :
    WentAlone s (s.leaveLate p c k id) p c k id := by
  rw [leaveLate_local hs]
  have core := passAlone_qtz s c k id (largestTl (s.arrivals p k))
  have others := passAlone_coresBut s c k id (largestTl (s.arrivals p k))
  have departs := passAlone_departs s c k id (largestTl (s.arrivals p k))
  generalize s.passAlone c k id (largestTl (s.arrivals p k)) = v at core others departs ⊢
  dsimp only
  have same : ∀ d, d ≠ c → v.qtz d = s.qtz d := fun d hd => others d (by simpa using hd)
  have cast : v.cast p = s.cast p := by
    refine cast_of_config (by rw [departs.frame]) (fun d => ?_) (fun j _ => departs.regs _ ?_) p
    · by_cases hd : d = c
      · rw [hd, core]
        rfl
      · rw [same d hd]
    · simpa using qtzCfg_ne_stallSync j c
  have inCast : CoresBut s v (s.cast p) := fun d hd => same d fun e => hd (e ▸ hc)
  split
  next finished =>
    obtain ⟨all, empty⟩ := Bool.and_eq_true_iff.1 finished
    obtain ⟨inside, outside⟩ := forgetBarrier_qtz v p k
    rw [cast] at inside outside
    refine ⟨?_, ?_, fun d hd => (outside d hd).trans (inCast d hd), departs.trans (forgetBarrier_departs ..)⟩
    · rw [inside c hc, core]
    · rintro ⟨d, hd, hne, absent | waits⟩
      · exact absurd (same d hne ▸ absent) (allArrived_iff.1 all d (cast ▸ hd))
      · obtain ⟨-, waits⟩ := mem_waitAt.1 waits
        have : d ∈ v.waitAt p k := mem_waitAt.2 ⟨cast ▸ hd, same d hne ▸ waits⟩
        rw [List.isEmpty_iff.1 empty] at this
        exact absurd this List.not_mem_nil
  next =>
    refine ⟨?_, fun _ => ⟨?_, others⟩, inCast, departs⟩
    · rw [core]
    · rw [core]

/-- A core of a shot that times out at its barrier goes on alone, and its attempt is tainted with LINK. -/
theorem syncTimeout_alone {s : State} {c : Fin 16} {p id : Nat} (hc : c.val ∈ s.cast p) (ho : s.qtzOwner c.val = some p)
    (hi : (s.qtz c.val).syncId = some id) (hs : s.spanAt p (s.qtz c.val).passed = false)
    (ht : (s.qtz c.val).syncAt + s.fld (QTZ_SYNCTMO c.val) 19 0 ≤ s.now) (hn : (s.qtz c.val).inShot = true)
    (hm : (s.part p).mode = .shot) (ha : (s.part p).attempt.active = true) : Answers (.syncTimeout c) s fun t =>
      t.qtz c.val = { (s.qtz c.val).pastSync (largestTl (s.arrivals p (s.qtz c.val).passed)) with left := (t.qtz c.val).left } ∧
      ((∃ d ∈ s.cast p, d ≠ c.val ∧ ((s.qtz d).arrived (s.qtz c.val).passed = none ∨ d ∈ s.waitAt p (s.qtz c.val).passed)) →
        (t.qtz c.val).left = ((s.qtz c.val).passed, id, (s.qtz c.val).tl) :: (s.qtz c.val).left ∧ CoresBut s t [c.val]) ∧
      (∃ x ∈ (t.part p).attempt.taints, x.cause = 3 ∧ x.tick = s.now) ∧ (t.part p).mode = .shot ∧
      CoresBut s t (s.cast p) ∧ RegsBut s t (QTZ_STALL_SYNC c.val :: recordRegs p) ∧
      t = { s with cores := t.cores, parts := t.parts, regs := t.regs } := by
  have answers := exec_syncTimeout ho hi
  rw [if_neg (not_lt.2 ht), if_pos hn] at answers
  generalize (s.qtz c.val).passed = k at answers hs ⊢
  have noted := cause_noted s p 3 c.val (resource 6 c.val) 0 (s.cursorTag c.val p 0 3)
  have taint := mem_taints_cause hm ha 3 c.val (resource 6 c.val) 0 (s.cursorTag c.val p 0 3)
  generalize s.cause p 3 c.val (resource 6 c.val) 0 (s.cursorTag c.val p 0 3) = u at answers noted taint
  obtain ⟨same, cast⟩ := noted.qtz_cast p
  obtain ⟨arrivals, waits, span⟩ := barrier_congr cast same k
  obtain ⟨core, awaited, cores, departs⟩ := leaveLate_wentAlone id (cast ▸ hc) (span.trans hs)
  generalize u.leaveLate p c.val k id = t at answers core awaited cores departs
  simp only [same, cast, arrivals, waits] at core awaited cores
  have frame : t = { s with cores := t.cores, parts := t.parts, regs := t.regs } := by
    rw [departs.frame, noted.frame]
  refine answers_of_frame answers (frame_of_records frame)
    ⟨core, fun h => ?_, ?_, ?_, fun d hd => (cores d hd).trans (same d), fun a ha => ?_, frame⟩
  · obtain ⟨left, others⟩ := awaited h
    exact ⟨left, fun d hd => (others d hd).trans (same d)⟩
  · rw [departs.parts]
    exact ⟨_, taint, rfl, rfl⟩
  · rw [departs.parts, (noted.part p).mode, hm]
  · obtain ⟨h1, h2⟩ := not_or.1 (fun h => ha (List.mem_cons.2 h))
    rw [departs.regs a (by simpa using h1), noted.regs a h2]

end Sys2Proof.Machine

namespace Sys2Proof.Machine

/-- Settles O15: SHOT leaves its core waiting, and the start of the shot takes the least tick that R143 allows; ENDSHOT ends
the core's part, and the last one gives E; a barrier ends by the last arrival, or for one core by its timeout. -/
theorem quartzShots : Obligations.QuartzShots := by
  refine ⟨fun s c p reset => ⟨shot_stalls, fun hb hh hc hl hr hs => ?_⟩, fun s c p he => ?_, fun s c p id => ?_⟩
  · obtain ⟨mode, ⟨j, job⟩, d, l, cast⟩ := atBarrier_cast hb
    have floor := allowsStart_iff job cast
    have started := startShot_started hs (s.shotFloor p.val)
    have frame := started.frame
    refine ⟨s.shotFloor p.val, (floor _).2 (le_refl _), fun x hx => (floor x).1 hx,
      answers_of_next (exec_shotStart hb hh hc hl hr hs) ?_ ?_ ?_ ?_
        ⟨started.active, started.start, started.stop, fun again => ?_, fun new => ?_, started.checkpoint,
          started.mode.trans mode, fun d hd => ?_, started.others, frame⟩⟩
    · rw [frame]
    · rw [frame]
    · rw [frame]
    · rw [frame]
    · exact ⟨started.shotNo.trans (if_pos again), started.num.trans (if_pos again), started.next.trans (if_pos again)⟩
    · have new : ¬ (s.part p.val).replay = true := by simp [new]
      exact ⟨started.shotNo.trans (if_neg new), started.num.trans (if_neg new), started.next.trans (if_neg new)⟩
    · rw [started.cores d hd]
      exact ⟨rfl, rfl, rfl, rfl, rfl, rfl⟩
  · refine ⟨fun hm => endshot_elsewhere he (by simp [hm]), endshot_outside he, fun hm hs ha hl hc _ => ⟨?_, fun hd => ?_⟩⟩
    · rintro ⟨d, hd, hne, hw⟩
      exact endshot_waits he hm hs ha hl hc hd hne hw
    · have least := endTick_le s c.val p
      exact ⟨(s.endCore c.val).endTick p, (least _).1 (le_refl _), fun e' h => (least e').2 h,
        endshot_ends he hm hs ha hl hc hd⟩
  · refine ⟨sync_stalls, fun k hw hk hs => ⟨syncComplete_waits hw hk hs, fun ha ht => ?_⟩, fun hc ho hi => ?_⟩
    · have presented : s.arrivals p.val k ≠ [] := by
        obtain ⟨d, hd⟩ := List.exists_mem_of_ne_nil _ hw
        obtain ⟨inCast, -⟩ := mem_waitAt.1 hd
        obtain ⟨x, hx⟩ := Option.ne_none_iff_exists'.1 (ha d inCast)
        exact List.ne_nil_of_mem (mem_arrivals.2 ⟨d, inCast, hx⟩)
      obtain ⟨member, bound⟩ := largestTl_spec presented
      exact ⟨_, member, bound, syncComplete_goes hw hk hs ha ht⟩
    · obtain ⟨i, hi⟩ := Option.ne_none_iff_exists'.1 hi
      intro q hs
      have answers := exec_syncTimeout ho hi
      refine ⟨fun early => ?_, fun late => ⟨fun outside => ?_, fun inside part mode active => ?_⟩⟩
      · rw [answers, if_pos early, answer_self]
      · rw [answers, if_neg (not_lt.2 late), if_neg (by simp [q, outside])]
      · have inCast := mem_cast.2 ⟨hc, ho, part⟩
        obtain ⟨member, bound⟩ := largestTl_spec (List.ne_nil_of_mem (mem_arrivals.2 ⟨_, inCast, arrived_waiting hi⟩))
        obtain ⟨t, run, core, awaited, rest⟩ := syncTimeout_alone inCast ho hi hs late inside mode active
        exact ⟨_, member, bound, t, run, core, fun h => ⟨⟨i, hi, (awaited h).1⟩, (awaited h).2⟩, rest⟩

end Sys2Proof.Machine
